-- ==== Sys2Proof/Word.lean ====
section
/-!
DEFINITION. The plain word types of the model and the keyed table that its state is made of.
-/
namespace Sys2Proof

/-- One byte. -/
abbrev Byte := BitVec 8

/-- A sparse table: (key, value) pairs with rising keys; an unlisted key holds the table's default value. -/
abbrev Tab (α : Type) := List (Nat × α)

/-- The value at a key; `d` is the default of an unlisted key. -/
def Tab.at {α : Type} (d : α) : Tab α → Nat → α
  | [], _ => d
  | (j, x) :: r, k => if j = k then x else Tab.at d r k

/-- Set the value at a key, keeping the keys in rising order. -/
def Tab.put {α : Type} : Tab α → Nat → α → Tab α
  | [], k, x => [(k, x)]
  | (j, y) :: r, k, x =>
    if j = k then (k, x) :: r
    else if k < j then (k, x) :: (j, y) :: r
    else (j, y) :: Tab.put r k x

/-- Change the value at a key. -/
def Tab.upd {α : Type} (d : α) (t : Tab α) (k : Nat) (f : α → α) : Tab α :=
  t.put k (f (t.at d k))

@[simp] theorem Tab.at_nil {α : Type} (d : α) (k : Nat) : Tab.at d [] k = d := rfl

@[simp] theorem Tab.at_put_same {α : Type} (d : α) (t : Tab α) (k : Nat) (x : α) :
    (t.put k x).at d k = x := by
  induction t with
  | nil => simp [Tab.put, Tab.at]
  | cons p r ih =>
    obtain ⟨j, y⟩ := p
    simp only [Tab.put]
    split
    · simp [Tab.at]
    · split
      · simp [Tab.at]
      · rename_i h _
        simp [Tab.at, h, ih]

theorem Tab.at_put_other {α : Type} (d : α) (t : Tab α) {j k : Nat} (x : α) (h : j ≠ k) :
    (t.put k x).at d j = t.at d j := by
  induction t with
  | nil => simp [Tab.put, Tab.at, Ne.symm h]
  | cons p r ih =>
    obtain ⟨i, y⟩ := p
    simp only [Tab.put]
    split
    · rename_i hik
      subst hik
      simp [Tab.at, Ne.symm h]
    · split
      · simp [Tab.at, Ne.symm h]
      · simp [Tab.at, ih]

@[simp] theorem Tab.at_upd_same {α : Type} (d : α) (t : Tab α) (k : Nat) (f : α → α) :
    (t.upd d k f).at d k = f (t.at d k) := by
  simp [Tab.upd]

theorem Tab.at_upd_other {α : Type} (d : α) (t : Tab α) {j k : Nat} (f : α → α) (h : j ≠ k) :
    (t.upd d k f).at d j = t.at d j := by
  simp [Tab.upd, Tab.at_put_other d t _ h]

end Sys2Proof
end

