-- ==== Sys2Proof/Syntax.lean ====
section
/-!
DEFINITION. The commands of the DV16: one constructor per row of spec/opcode_table.json.
The table gives its rows no operand fields and no bits, so the operands are what each row's rule needs to be told (log entry 1).
-/
namespace Sys2Proof

/-- The entries that MARK_CONFIG_WRITE writes (02 R49). -/
inductive MarkEntry where | pe | phase | window
  deriving DecidableEq, Repr

/-- Lines of an encoder (03 R75). -/
inductive EncLine where | a | b | z
  deriving DecidableEq, Repr

/-- How a kicker's current tripped it (03 Table 3-2). -/
inductive TripKind where | limit6A | overload
  deriving DecidableEq, Repr

/-- Position of one web clock as a field-to-compute slot carries it (03 Table 3-4). -/
structure SlotClock where
  jump : Bool
  health : Fin 8
  low : Fin 1024
  frac : Fin 256
  deriving DecidableEq, Repr

/-- Position section of a field-to-compute slot (03 Table 3-4). -/
structure SlotPos where
  seq : Fin 16
  auto : Bool
  high : Fin 274877906944
  clocks : List SlotClock
  deriving DecidableEq, Repr

/-- The two ends of the Field Link. -/
inductive LinkSide where | field | compute
  deriving DecidableEq, Repr

/-- Registers of the field die that REG_WRITE and REG_READ name; the spec numbers only FD_STAT and FD_FAULT (03 Table 3-9), so a configuration entry is named by its object (log entry 8). -/
inductive FieldReg where
  | fdStat | fdFault
  | entry (index sub : Nat)     -- a dictionary entry held on the field die
  | spacing (station : Nat)     -- admission spacing (10 R267)
  deriving DecidableEq, Repr

/-- What a packet header's ECC finds (04 R108). -/
inductive HdrEcc where
  | ok | corrected | uncorrectable
  deriving DecidableEq, Repr

/-- How SDA is found when a START is due (04 R125). -/
inductive SdaLine where
  | free        -- high
  | recovered   -- low, and high after nine SCL pulses and a STOP
  | stuck       -- still low after them
  deriving DecidableEq, Repr

/-- Causes of a channel failure (04 R126, 05 Table 5-15). -/
inductive ChanFault where
  | buffer       -- uncorrectable error in the receive buffer
  | lineBuffer   -- uncorrectable error in the pipeline's line buffers or tables
  | noProgress   -- framer or pipeline holding data with no progress for 10 ms
  deriving DecidableEq, Repr

/-- Who makes a fabric access or a ring or quoin operation (11 Table 11-4). -/
inductive Requester where
  | hart (h : Fin 4) (machine : Bool)
  | press (p : Fin 2)
  | port (fn : Fin 32)
  | intake (n : Fin 16)
  | pipeline (n : Fin 16)
  | meter (n : Fin 16)
  | core (c : Fin 16)
  | roster (station : Fin 32)
  | codec (engine : Fin 3) (station : Fin 32)
  | mac (m : Fin 2)
  | gk
  deriving DecidableEq, Repr

/-- What a fabric access does. -/
inductive FabricOp where
  | read (len : Nat)
  | fetch (len : Nat)
  | write (data : List Byte)
  deriving DecidableEq, Repr

/-- What the memory that an access reaches finds (06 Table 6-8); `none` is no error. -/
inductive MemErr where
  | none
  | corrected          -- the target corrects an error
  | uncorrectable      -- the target finds an uncorrectable error
  | caseCorrected      -- the Type Case corrects its data
  | caseUncorrectable  -- the Type Case finds an uncorrectable data error
  | tagOne             -- one tag copy is bad
  | tagBoth            -- both tag copies are bad
  | linkCorrected      -- LPDDR5X link ECC corrects a transfer
  | linkFailed         -- it does not, nor on the retry
  | cacheCorrected     -- the host L2 corrects an error
  | cacheClean         -- the host L2 finds an uncorrectable error in a clean line
  | cacheDirty         -- the same in a dirty line
  deriving DecidableEq, Repr

/-- Status of a PCIe completion (12 R303). -/
inductive Completion where
  | success | unsupported | abort
  deriving DecidableEq, Repr

/-- What a PCIe configuration request does (12 R320, 13 R334). -/
inductive CfgOp where
  | read (offset : Nat)
  | numVfs (n : Nat)
  | busMaster (on : Bool)
  | msixEnable (on : Bool)
  | msixMask (on : Bool)
  | d3hot (on : Bool)
  | write (offset value : Nat)      -- any other configuration register
  deriving DecidableEq, Repr

/-- How an EVC claim or completion reaches a target (13 R329): a hart's own CSRs (targets 0-5), or the vector window of a function's BAR0. -/
inductive EvcPort where
  | hart (t : Fin 6) (user : Bool)
  | window (fn : Fin 32) (v : Fin 32)
  deriving DecidableEq, Repr

/-- How a stack reset reaches a target (13 Tables 13-4, 13-6): EVC_STK(t), or VSTK of a function's vector window. -/
inductive EvcRef where
  | reg (t : Fin 38)
  | window (fn : Fin 32) (v : Fin 32)
  deriving DecidableEq, Repr

/-- Transmission formats of a CAN frame on the bus (15 R361). -/
inductive FrameFmt where
  | classical | fd | xl
  deriving DecidableEq, Repr

/-- Access paths of the dictionary server (15 R378). A UDP requester is its IPv4 source address × 65,536 + port. -/
inductive Path where
  | sdo (port : Fin 2)
  | usdo (port : Fin 2)
  | jdt (port : Fin 2) (addr : Nat)
  | mailbox (fn : Fin 32)
  | udp (mac : Fin 2) (src : Nat)
  deriving DecidableEq, Repr

/-- A request of the dictionary server (12 Table 12-4). -/
inductive DictReq where
  | read (index sub max offset : Nat)
  | write (index sub : Nat) (last : Bool) (offset : Nat) (data : List Byte)
  | badOp (index sub : Nat)          -- an OP that is neither
  | queueFull (index sub : Nat)      -- a second request of one requester, or a ninth (15 R376)
  deriving DecidableEq, Repr

/-- What a request frame asks of a port's SDO or USDO server; CiA 301 and CiA 1301 lay the frames out (15 R370, R374). -/
inductive SdoOp where
  | upload (index sub : Nat)                          -- initiates an upload
  | uploadMore (max : Nat)                            -- the next segment or block of it
  | download (index sub : Nat) (last : Bool) (data : List Byte)
  | downloadMore (last : Bool) (data : List Byte)
  | abort                                             -- the client ends the transfer
  | unknown                                           -- a command specifier that is not valid
  deriving DecidableEq, Repr

/-- How a transmission attempt ends (15 R366, R367). -/
inductive TxResult where
  | acked | ackError | otherError
  deriving DecidableEq, Repr


/-- A command that the DV16 takes from outside, or an event that its rules name (spec/opcode_table.json). -/
inductive Instr where
  /-- FIELD_DIE_START (R73): VFIELD rises above 17.0 V. The field die starts with every web clock at position 0 and STANDSTILL set, and all configuration at its defaults. -/
  | fieldDieStart
  /-- VFIELD_UNDERVOLTAGE (R90): VFIELD stays below 16.0 V for 10 µs. Every trigger goes high-impedance and every kicker switches off, while counting and the cue table continue. -/
  | vfieldUndervoltage
  /-- VFIELD_UNDERVOLTAGE_RECOVER (R90): VFIELD rises above 17.0 V again after an undervoltage, and the outputs return. -/
  | vfieldUndervoltageRecover
  /-- VFIELD_OVERVOLTAGE (R90): VFIELD stays above 34.0 V for 10 µs. The kickers switch off, are counted, and EV-1103 is raised. -/
  | vfieldOvervoltage
  /-- VFIELD_OVERVOLTAGE_RECOVER (R90): VFIELD falls below 33.0 V again after an overvoltage, and the kickers return. -/
  | vfieldOvervoltageRecover
  /-- FIELD_DIE_RESET (R90): VFIELD falls below 12.0 V. The field die resets and loses its positions, configuration and cues. -/
  | fieldDieReset
  /-- VFIELD_REVERSED (R33): The compute die reads VFIELD_SNS as reversed, raises FIELD_REVERSED and EV-1101, and refuses Hibernate. -/
  | vfieldReversed
  /-- QUADRATURE_EDGE (R38): An accepted change of an encoder A or B level is decoded into a forward or backward step of the web clock. -/
  | quadratureEdge (enc : Fin 8) (a b : Bool)
  /-- Z_MARKER_EDGE (R41): A Z marker edge ends a marker period. The tick count of the period is checked against Z_TICKS. -/
  | zMarkerEdge (enc : Fin 8) (level : Bool)
  /-- VELOCITY_UPDATE (R43): Every 10 µs the raw velocity estimate is formed and the filtered velocity is updated. -/
  | velocityUpdate (wc : Fin 8)
  /-- ACCELERATION_CHECK (R45): Every 1 ms the acceleration is computed and compared with the smallest a_max. -/
  | accelerationCheck (wc : Fin 8)
  /-- STANDSTILL_TIMEOUT (R55): No edge has been counted for STANDSTILL_US, so STANDSTILL is set and the velocity becomes 0. -/
  | standstillTimeout (wc : Fin 8)
  /-- PE_EDGE (R78): A photo-eye level is accepted after its filter. The edge goes to mark lock, to the wake logic and across the Field Link. -/
  | peEdge (input : Fin 16) (level : Bool)
  /-- ENCODER_PROBE (R76): An RS-422 pair has shown a low differential voltage for 1 µs, so a 50 µA probe current is injected for 0.5 µs. -/
  | encoderProbe (enc : Fin 8) (line : EncLine)
  /-- ENCODER_FAULT_FLAG (R76): An encoder line check ends, and the line is flagged OPEN or SHORT. -/
  | encoderFaultFlag (enc : Fin 8) (line : EncLine) (short : Bool)
  /-- ENCODER_FLAG_CLEAR (R76): The flagged condition has been absent for 100 µs, so the line flag clears. -/
  | encoderFlagClear (enc : Fin 8) (line : EncLine)
  /-- RETURN_TO_PRIMARY (R54): COMMAND = 1 of 2100h + n returns a clock that runs on its backup to its primary encoder. -/
  | returnToPrimary (wc : Fin 8)
  /-- ACKNOWLEDGE_LOST (R57): COMMAND = 2 of 2100h + n clears LOST, and counting resumes from the frozen position. -/
  | acknowledgeLost (wc : Fin 8)
  /-- DECODE_WRITE (R70): A write to DECODE rescales the position without travel and sets JUMP. -/
  | decodeWrite (wc : Fin 8) (value : BitVec 8)
  /-- IMPRESSION_LEN_WRITE (R47): A write to IMPRESSION_LEN takes effect at the next forward boundary, or at once on an untouched clock. -/
  | impressionLenWrite (wc : Fin 8) (value : BitVec 32)
  /-- MARK_CONFIG_WRITE (R49): A write to MARK_PE, MARK_PHASE or MARK_WINDOW is checked against the mark-lock rule. -/
  | markConfigWrite (wc : Fin 8) (what : MarkEntry) (value : BitVec 32)
  /-- CUE_CROSSING (R61): The interpolated position passes a cue's POS by forward motion, and the cue fires, is suppressed or applies its kicker's action, and is freed. -/
  | cueCrossing (entry : Fin 8192)
  /-- CUE_EXPIRY (R63): A cue's EXPIRY passes before its crossing. The cue is freed, and a kick cue takes its EXPIRE_ACTION. -/
  | cueExpiry (entry : Fin 8192)
  /-- TRIGGER_PULSE_END (R80): A trigger output's on-time ends at its WIDTH, or at 100 ms at most. -/
  | triggerPulseEnd (out : Fin 32)
  /-- KICK_PULSE_END (R82): A kick's width ends, and the kicker returns from ON to READY. -/
  | kickPulseEnd (kicker : Fin 8) (meanMa tailMa : Nat)
  /-- MAX_ON_CUTOFF (R82): A kick output reaches MAX_ON_MS and is cut off and counted. -/
  | maxOnCutoff (kicker : Fin 8) (meanMa tailMa : Nat)
  /-- CEILING_RECOMPUTE (R68): Within 1 ms of an input change, every speed ceiling is recomputed, and a lower ceiling is published at once. -/
  | ceilingRecompute
  /-- CEILING_RAISE_PUBLISH (R68): A higher ceiling has been computed continuously for RAISE_HOLD_MS and is published. -/
  | ceilingRaisePublish (wc : Fin 8)
  /-- TRIGGER_SHORT_TRIP (R80): A trigger output carries more than 100 mA for 10 µs and is latched off. -/
  | triggerShortTrip (out : Fin 32)
  /-- TRIGGER_RETRY (R80): A 1 written to an output's bit in 2610h:05 re-enables that latched trigger output. -/
  | triggerRetry (mask : BitVec 32)
  /-- KICKER_TRIP (R83): A kicker's current is at its limit for 50 µs, or above 1.5 A for 10 ms. The kicker enters LATCHED. -/
  | kickerTrip (kicker : Fin 8) (kind : TripKind)
  /-- KICKER_RETRY_DUE (R84): The 100 ms retry timer of a LATCHED kicker expires and a 60 µs retry pulse starts. -/
  | kickerRetryDue (kicker : Fin 8)
  /-- KICKER_RETRY_JUDGE (R84): A retry pulse ends and is judged passed or failed. -/
  | kickerRetryJudge (kicker : Fin 8) (limitActive over50us : Bool)
  /-- KICKER_RETRY_NOW (R84): COMMAND = 1 of 2600h + n starts a retry at once in LATCHED or HELD_OFF. -/
  | kickerRetryNow (kicker : Fin 8)
  /-- CLEAR_OPEN_ON (R85): COMMAND = 2 of 2600h + n clears the kicker's OPEN_ON flag. -/
  | clearOpenOn (kicker : Fin 8)
  /-- KICKER_ENABLE_WRITE (R83): A write of a kicker's ENABLE moves it to DISABLED, or back to READY or to its held latch. -/
  | kickerEnableWrite (kicker : Fin 8) (value : BitVec 8)
  /-- KICKER_SHORT_VF (R83): An off-state output stays within 2 V of VFIELD for 1 ms, and the kicker enters SHORT_VF. -/
  | kickerShortVf (kicker : Fin 8)
  /-- KICKER_SHORT_VF_CLEAR (R83): The short to VFIELD has been absent for 100 ms, and the kicker leaves SHORT_VF. -/
  | kickerShortVfClear (kicker : Fin 8)
  /-- KICKER_THERMAL (R83): The channel sensor exceeds 175 °C, and the kicker enters THERMAL with its output off. -/
  | kickerThermal (kicker : Fin 8)
  /-- KICKER_THERMAL_CLEAR (R83): The channel sensor falls below 160 °C, and the kicker leaves THERMAL. -/
  | kickerThermalClear (kicker : Fin 8)
  /-- OPEN_OFF_DETECT (R85): The output stays above 4 V with the probe current on for 10 ms and is flagged OPEN_OFF. -/
  | openOffDetect (kicker : Fin 8)
  /-- OPEN_OFF_CLEAR (R85): The open-load condition has been absent for 10 ms, so OPEN_OFF clears. -/
  | openOffClear (kicker : Fin 8)
  /-- CAN_LINE_SHORT (R86): A CAN line is judged shorted after 100 µs. The port's transmitter is disabled and BUS_FAULT is reported. -/
  | canLineShort (port : Fin 2)
  /-- CAN_LINE_SHORT_CLEAR (R86): The short has been absent for 10 ms, and the transmitter is re-enabled. -/
  | canLineShortClear (port : Fin 2)
  /-- DOMINANT_CUTOFF (R86): A transmit request held dominant for 4 ms is cut off and counted. -/
  | dominantCutoff (port : Fin 2)
  /-- FIELD_SLOT_RECEIVE (R92): A field-to-compute slot arrives. Its position section rebuilds the position view, handling JUMP and CRC failure. -/
  | fieldSlotReceive (pos : SlotPos) (crcOk : Bool)
  /-- COMPUTE_SLOT_RECEIVE (R93): A compute-to-field slot arrives, and its TIME disciplines the field die oscillator. -/
  | computeSlotReceive (time : BitVec 46) (crcOk : Bool)
  /-- HEARTBEAT_SEND (R95): Each side sends a HEARTBEAT in the first slot after each whole microsecond of its own clock. -/
  | heartbeatSend (side : LinkSide)
  /-- HEARTBEAT (R95): A valid HEARTBEAT message is received. The miss timer restarts and a run of misses ends. -/
  | heartbeat (side : LinkSide) (state : BitVec 8) (us : BitVec 32)
  /-- HEARTBEAT_MISS (R95): The heartbeat timer expires, and one miss is counted. -/
  | heartbeatMiss (side : LinkSide)
  /-- VERDICT (R62): A VERDICT message writes a verdict into a cue entry, or is discarded and counted. -/
  | verdict (entry : Fin 8192) (verdict : Fin 4)
  /-- CUE_PART (R94): A CUE_PART message delivers one 32-bit part of a cue entry. -/
  | cuePart (entry : Fin 8192) (part : Fin 4) (data : BitVec 32)
  /-- CUE_PART_TIMEOUT (R94): Parts that do not complete within 1 µs are discarded and counted. -/
  | cuePartTimeout (entry : Fin 8192)
  /-- REG_WRITE (R100): A REG_WRITE message writes a field die register. -/
  | regWrite (reg : FieldReg) (data : BitVec 32)
  /-- REG_READ (R94): A REG_READ message asks the field die for a register value. -/
  | regRead (reg : FieldReg)
  /-- REG_DATA (R94): A REG_DATA message returns a register value to the compute die. -/
  | regData (reg : FieldReg) (data : BitVec 32)
  /-- CAN_TX (R94): A CAN_TX message hands destuffed bits of a frame to a port's bit engine. -/
  | canTx (port : Fin 2) (count : Fin 49) (data : BitVec 48)
  /-- CAN_RX (R372): A CAN_RX message delivers a received frame to the port's 64-frame receive buffer. -/
  | canRx (port : Fin 2) (fmt : FrameFmt) (id : BitVec 29) (rtr sec : Bool) (data : List Byte)
  /-- CUE_RESULT (R94): A CUE_RESULT message reports a cue crossing, suppression or expiry to the compute die. -/
  | cueResult (entry : Fin 8192) (code : Fin 8)
  /-- PE_EDGE_MESSAGE (R94): A PE_EDGE message forwards a photo-eye level and time to the compute die's EVC line. -/
  | peEdgeMessage (input : Fin 16) (level : Bool) (us : BitVec 32)
  /-- PIN_EVENT (R97): A PIN_EVENT message reports a field die event and counter to the compute die. -/
  | pinEvent (code : BitVec 16) (unit : BitVec 8) (station : BitVec 8) (detail : BitVec 64) (counter : BitVec 24) (n : Nat)
  /-- SLEEP (R98): A SLEEP message puts the field die into orderly autonomy at its next heartbeat time. -/
  | sleep (kind : Fin 3)
  /-- LINK_RETRAIN (R97): The 10 ms retrain timer expires, and Field Link training is attempted again. -/
  | linkRetrain (lanes : BitVec 4)
  /-- FIELD_LINK_UP (R97): Field Link training succeeds, and the link comes up with its views becoming valid. -/
  | fieldLinkUp
  /-- LINK_TRAIN_TIMEOUT (R37): The link is not up within 100 µs of reset release. EV-1204 is raised and retraining continues. -/
  | linkTrainTimeout (lanes : BitVec 4)
  /-- XIN_FAILURE (R95): XIN stops. The PLLs lose lock and the compute die stops sending heartbeats. -/
  | xinFailure
  /-- ROSTER_STALL (R95): The Roster completes no step in four step periods, so the compute die stops sending heartbeats. -/
  | rosterStall
  /-- CHANNEL_ENABLE (R128): ENABLE = 1 of an intake channel is checked and starts the channel's start-up. -/
  | channelEnable (ch : Fin 16) (checkOk : Bool)
  /-- CHANNEL_DISABLE (R128): ENABLE = 0 closes the frame in progress and every open expectation with status DISABLED. -/
  | channelDisable (ch : Fin 16)
  /-- LANE_STOP_STATE (R131): Every configured lane has shown LP-11 for 100 µs, and the channel enters READY. -/
  | laneStopState (ch : Fin 16) (lanes : BitVec 5)
  /-- LANE_STOP_TIMEOUT (R131): A lane does not show the stop state within 100 ms. LANE_STUCK is set and EV-1305 is raised. -/
  | laneStopTimeout (ch : Fin 16) (lanes : BitVec 5)
  /-- DESKEW_SEQUENCE (R106): An initial deskew sequence is received, and the receiver accepts high-speed data. -/
  | deskewSequence (ch : Fin 16)
  /-- FRAME_START (R113): A PRIMARY frame start, from FS or a PIX frame-valid rise, is paired with the oldest expectation or dropped UNTRIGGERED. -/
  | frameStart (ch : Fin 16) (vc : Fin 16) (fn : BitVec 16) (hdr : HdrEcc)
  /-- LINE_RECEIVED (R116): A long packet or PIX line is checked against its expected length and written toward its rings. -/
  | lineReceived (ch : Fin 16) (vc : Fin 16) (dt : BitVec 6) (data : List Byte) (gap : Nat) (hdr : HdrEcc) (crcOk : Bool)
  /-- FRAME_END (R116): FE, or a PIX frame-valid fall, closes the frame. The framer decides its status and the windows are released or abandoned. -/
  | frameEnd (ch : Fin 16) (vc : Fin 16) (fn : BitVec 16) (hdr : HdrEcc)
  /-- EMBEDDED_DATA (R109): An embedded data packet is copied to the side ring, or dropped when that ring is full. -/
  | embeddedData (ch : Fin 16) (vc : Fin 16) (data : List Byte) (hdr : HdrEcc) (crcOk : Bool)
  /-- PACKET_DISCARD (R108): An unsupported, generic, user-defined or unrouted packet is discarded and counted. -/
  | packetDiscard (ch : Fin 16) (vc : Fin 16) (hdr : HdrEcc)
  /-- PHY_ERROR (R108): A D-PHY or C-PHY error is counted, and a burst raises EV-1305. -/
  | phyError (ch : Fin 16)
  /-- FE_TIMEOUT (R114): An expectation's frame-end timeout runs out, and it closes NO_FS or NO_FE. -/
  | feTimeout (ch : Fin 16) (exp : Fin 4)
  /-- XTRIG_ACK_EDGE (R120): An XTRIG rising edge in ACK mode captures the position view and the microsecond count. -/
  | xtrigAckEdge (ch : Fin 16)
  /-- XTRIG_PULSE (R120): A write of IC_XTRIG.PULSE in TEST mode pulses XTRIG and opens a test expectation. -/
  | xtrigPulse (ch : Fin 16) (word : BitVec 32)
  /-- XTRIG_PERIOD (R120): The IC_XTRIG.PERIOD timer expires and emits a TEST pulse. -/
  | xtrigPeriod (ch : Fin 16)
  /-- SCP_TX_WRITE (R123): A write to IC_SCP_TX queues an SCP word, or sets SCP_OVF when the queue is full. -/
  | scpTxWrite (ch : Fin 16) (word : BitVec 64)
  /-- SCP_WORD_START (R123): A queued SCP word starts when the port is free, and for SYNC words at the next frame closure. -/
  | scpWordStart (ch : Fin 16)
  /-- SCP_WORD_COMPLETE (R122): An SCP word finishes, and a read result enters the receive queue. -/
  | scpWordComplete (ch : Fin 16) (sdi : BitVec 16)
  /-- SCP_RX_READ (R129): A read of IC_SCP_RX pops one result from the SCP receive queue. -/
  | scpRxRead (ch : Fin 16)
  /-- CCI_CMD_WRITE (R124): A write to IC_CCI_CMD queues one CCI transaction and clears CCI_HALT. -/
  | cciCmdWrite (ch : Fin 16) (word : BitVec 64)
  /-- CCI_TRANSACTION_START (R124): A queued CCI transaction starts, with bus recovery when SDA is held low. -/
  | cciTransactionStart (ch : Fin 16) (sda : SdaLine)
  /-- CCI_TRANSACTION_END (R125): A CCI transaction ends with data, NACK or TIMEOUT, and the queue is discarded after a failure. -/
  | cciTransactionEnd (ch : Fin 16) (nack : Bool) (data : BitVec 32)
  /-- CCI_STRETCH_TIMEOUT (R125): Clock stretching exceeds 10 ms, and the transaction ends with TIMEOUT. -/
  | cciStretchTimeout (ch : Fin 16)
  /-- CCI_RX_READ (R129): A read of IC_CCI_RX pops one CCI result. -/
  | cciRxRead (ch : Fin 16)
  /-- CHANNEL_FAILURE (R127): An uncorrectable buffer error, 10 ms without progress or a failed check puts the channel in FAILED. -/
  | channelFailure (ch : Fin 16) (kind : ChanFault)
  /-- CHANNEL_RESET (R127): COMMAND = 1 of 2200h + n resets the channel and runs its start-up check. -/
  | channelReset (ch : Fin 16)
  /-- CHANNEL_RESET_COMPLETE (R127): The channel reset completes, returning the channel to READY and raising EV-1302, or leaving it FAILED. -/
  | channelResetComplete (ch : Fin 16) (passed : Bool)
  /-- SERIAL_QUEUE_FLUSH (R128): COMMAND = 2 of 2200h + n flushes the SCP and CCI queues. -/
  | serialQueueFlush (ch : Fin 16)
  /-- PIPELINE_APPLY (R150): COMMAND = 1, or ISP_CTRL.APPLY, validates the shadow set and makes it pending. -/
  | pipelineApply (ch : Fin 16)
  /-- PATCH_VERDICT (R148): Within 20 µs of a good frame decision, the Patch Meter delivers patch-window verdicts to the Roster. -/
  | patchVerdict (ch : Fin 16)
  /-- FABRIC_ACCESS (R285): An access enters the fabric, passes the Referee check and is served by its target with ECC handling. -/
  | fabricAccess (req : Requester) (op : FabricOp) (addr : BitVec 40) (err : MemErr) (victim : Fin 16)
  /-- CORRECTED_REWRITE (R169): The Groundskeeper rewrites a corrected Deep Store location within 1 ms. -/
  | correctedRewrite (word : BitVec 37)
  /-- WAY_CARVE (R163): A way is carved into scratch through REF_CARVE or SCRATCH. -/
  | wayCarve (req : Requester) (ways : BitVec 16)
  /-- WAY_RETURN (R163): A scratch way is returned to cache through REF_CARVE or SCRATCH. -/
  | wayReturn (req : Requester) (ways : BitVec 16)
  /-- WAY_TRANSFER_COMPLETE (R163): A carving or return completes and is counted. -/
  | wayTransferComplete (way : Fin 16)
  /-- LPDDR5X_TRAINING_FAILURE (R168): LPDDR5X training or retraining fails at run time, and the range becomes unavailable. -/
  | lpddr5xTrainingFailure
  /-- DEEP_STORE_START_COMPLETE (R181): A Deep Store channel finishes its start-up training, test and zero fill, or starts fenced. -/
  | deepStoreStartComplete (ch : Fin 8) (passed : Bool)
  /-- RING_DESCRIPTOR_WRITE (R184): An aligned 32-byte ring descriptor write is checked and accepted or refused. -/
  | ringDescriptorWrite (req : Requester) (ring : Fin 65536) (data : List Byte)
  /-- RING_CLAIM (R191): A CLAIM reserves ring space, or the ring's overflow policy acts. -/
  | ringClaim (req : Requester) (ring : BitVec 16) (len : BitVec 32)
  /-- RING_COMMIT (R187): A COMMIT moves HEAD and may signal PQUOIN. -/
  | ringCommit (req : Requester) (ring : BitVec 16)
  /-- RING_ABANDON (R187): An ABANDON sets CLAIM to HEAD, discarding every uncommitted claim. -/
  | ringAbandon (req : Requester) (ring : BitVec 16)
  /-- RING_RELEASE (R187): A RELEASE adds to TAIL and may signal CQUOIN. -/
  | ringRelease (req : Requester) (ring : BitVec 16) (len : BitVec 32)
  /-- BLOCKED_CLAIM_RETRY (R191): A waiting claim on a block ring is retried when a release frees space. -/
  | blockedClaimRetry (ring : BitVec 16)
  /-- QUOIN_WRITE (R195): A direct 8-byte write sets every field of a quoin entry. -/
  | quoinWrite (req : Requester) (quoin : Fin 4096) (data : List Byte)
  /-- QUOIN_SIGNAL (R196): A SIGNAL adds n to COUNT, saturating at 0xFFFF_FFFF. -/
  | quoinSignal (req : Requester) (quoin : BitVec 12) (n : BitVec 32)
  /-- QUOIN_RESET (R196): A RESET sets COUNT to a value. -/
  | quoinReset (req : Requester) (quoin : BitVec 12) (value : BitVec 32)
  /-- QUOIN_POLL (R196): A POLL returns COUNT and whether the threshold is met. -/
  | quoinPoll (req : Requester) (quoin : BitVec 12) (thresh : BitVec 32)
  /-- QUOIN_WAIT (R197): A WAIT is met at once or parks until its threshold or limit. -/
  | quoinWait (req : Requester) (quoin : BitVec 12) (thresh : BitVec 32)
  /-- WAIT_LIMIT_EXPIRY (R203): A parked wait from a slug expires unmet. -/
  | waitLimitExpiry (core : Fin 16)
  /-- CLAIM_LIMIT_EXPIRY (R203): A blocked claim from a slug outlasts its LIMIT and causes a breach. -/
  | claimLimitExpiry (core : Fin 16)
  /-- QN_NFY_READ (R198): A read of QN_NFY pops a quoin number and clears OVF. -/
  | qnNfyRead (req : Requester) (station : Fin 32)
  /-- STREAM_ENTRY (R201): The Stream engine takes the next index entry, issues its reads or performs its control operation. -/
  | streamEntry (core : Fin 16)
  /-- STREAM_READ_COMPLETE (R201): A run's data is written to the galley and its index entry is released. -/
  | streamReadComplete (core : Fin 16) (run : Nat) (err : MemErr)
  /-- NOP (R220): The sequencer executes a NOP command. -/
  | nop (core : Fin 16)
  /-- MOVE (R216): A MOVE copies galley bytes into a W-, A- or V-Forme. -/
  | move (core : Fin 16)
  /-- MATMUL (R212): A MATMUL runs the named arrays over K steps of a tile. -/
  | matmul (core : Fin 16)
  /-- TILE_DRAIN (R212): A row drains its accumulator plane to a free P-Forme slot. -/
  | tileDrain (core : Fin 16) (array : Fin 4)
  /-- POST (R242): A POST requantises a FULL P-Forme slot into the galley. -/
  | post (core : Fin 16)
  /-- EXPAND (R238): An EXPAND copies receptive fields into expanded rows in the galley. -/
  | expand (core : Fin 16)
  /-- STREAM (R220): A STREAM command starts a Stream engine job. -/
  | stream (core : Fin 16)
  /-- STRIDE (R220): A STRIDE command loads stride table entries. -/
  | stride (core : Fin 16)
  /-- STORE (R220): A STORE writes galley bytes to memory or into a claimed ring record. -/
  | store (core : Fin 16)
  /-- SYNC (R220): A SYNC waits until the named engines have completed their earlier commands. -/
  | sync (core : Fin 16)
  /-- END (R223): The END command ends the command list. -/
  | endCmd (core : Fin 16)
  /-- MAXPOOL (R246): The Vector engine performs MAXPOOL. -/
  | maxpool (core : Fin 16)
  /-- AVGPOOL (R246): The Vector engine performs AVGPOOL. -/
  | avgpool (core : Fin 16)
  /-- DWCONV (R246): The Vector engine performs a depthwise convolution. -/
  | dwconv (core : Fin 16)
  /-- ADD (R246): The Vector engine performs an element-wise ADD. -/
  | add (core : Fin 16)
  /-- MUL (R246): The Vector engine performs an element-wise MUL. -/
  | mul (core : Fin 16)
  /-- MAX (R246): The Vector engine performs an element-wise MAX. -/
  | max (core : Fin 16)
  /-- MIN (R246): The Vector engine performs an element-wise MIN. -/
  | min (core : Fin 16)
  /-- LUT (R246): The Vector engine applies a 256-entry table. -/
  | lut (core : Fin 16)
  /-- SOFTMAX (R247): The Vector engine computes SOFTMAX over C. -/
  | softmax (core : Fin 16)
  /-- REDUCE (R246): The Vector engine reduces over HW or C. -/
  | reduce (core : Fin 16)
  /-- MATVEC (R246): The Vector engine computes a matrix-vector product. -/
  | matvec (core : Fin 16)
  /-- ARGMAX (R246): The Vector engine returns the index of the largest element. -/
  | argmax (core : Fin 16)
  /-- COMPARE (R246): The Vector engine compares against per-channel thresholds. -/
  | compare (core : Fin 16)
  /-- UPSAMPLE (R246): The Vector engine upsamples by nearest or zero-insert. -/
  | upsample (core : Fin 16)
  /-- COPY (R246): The Vector engine performs a strided copy. -/
  | copy (core : Fin 16)
  /-- REQUANT (R246): The Vector engine requantises INT32 tensors. -/
  | requant (core : Fin 16)
  /-- SLUG_COMPLETE (R223): A slug ends at END once every engine is idle, and it is reported to the Roster. -/
  | slugComplete (core : Fin 16) (galleyFixes formeFixes : Nat)
  /-- SLUG_OVERRUN (R224): A slug has not ended after 200 µs and is aborted. -/
  | slugOverrun (core : Fin 16)
  /-- STARTUP_TEST_COMPLETE (R226): A core's start-up test ends, and the core passes or is retired. -/
  | startupTestComplete (core : Fin 16) (passed : Bool)
  /-- SHORT_TEST_COMPLETE (R227): A 150 µs short test ends, and the core passes or is retired. -/
  | shortTestComplete (core : Fin 16) (passed : Bool)
  /-- SHORT_TEST_DEFERRED (R227): No gap has come within 10 test periods, so EV-1706 is raised. -/
  | shortTestDeferred (core : Fin 16)
  /-- RETIRE (R229): A write of 2500h:05 retires the named cores at their slug end. -/
  | retire (mask : BitVec 16)
  /-- TEST (R228): A write of 2500h:06 runs the full test on the named cores as a long operation. -/
  | test (mask : BitVec 16)
  /-- CORE_MEMORY_UNCORRECTABLE (R229): A galley or forme returns an uncorrectable error, and the core is retired at once. -/
  | coreMemoryUncorrectable (core : Fin 16) (forme : Bool)
  /-- ROSTER_STEP (R262): Every STEP_US the Roster builds and dispatches a make-up list. -/
  | rosterStep
  /-- SEQUENCE_CREATE (R260): A released window opens a sequence, or takes UNSEEN when the quota is full. -/
  | sequenceCreate (channel : Fin 16) (window : Fin 32)
  /-- SEQUENCE_DEADLINE (R261): The position view reaches a sequence's DEADLINE, and the sequence ends UNSEEN. -/
  | sequenceDeadline (entry : Fin 1024)
  /-- ADMIT_WRITE (R269): A write of ADMIT starts admission when every condition holds, or stops group installation. -/
  | admitWrite (station : Fin 32) (value : BitVec 8)
  /-- ROSTER_RETIREMENT (R271): The Roster learns of a retirement, recomputes its core map and variants, and reruns or ends lost parts. -/
  | rosterRetirement (core : Fin 16)
  /-- STATION_RESOURCE_WRITE (R281): A station resource subindex moves resources between the station and S0. -/
  | stationResourceWrite (station : Fin 32) (sub : BitVec 8) (data : List Byte)
  /-- STATION_WINDOWS_WRITE (R283): A write of WINDOWS sets the station's address windows after checks. -/
  | stationWindowsWrite (station : Fin 32) (data : List Byte)
  /-- TEAR_DOWN (R292): COMMAND = 1 of 2400h + s tears the station down as a long operation. -/
  | tearDown (station : Fin 32)
  /-- PRESSROOM_WATCHDOG_EXPIRY (R300): A pressroom hart's 100 ms watchdog expires. The hart is held in reset and its TCM is reloaded. -/
  | pressroomWatchdogExpiry (hart : Fin 2)
  /-- PRESSROOM_RESTART_COMPLETE (R300): The pressroom hart restarts within 20 ms. -/
  | pressroomRestartComplete (hart : Fin 2)
  /-- PCIE_INBOUND_REQUEST (R302): An inbound PCIe request through a function's BAR2 is attributed, checked and served or refused. -/
  | pcieInboundRequest (fn : Fin 32) (bar0 : Bool) (addr : BitVec 40) (op : FabricOp) (err : MemErr) (victim : Fin 16)
  /-- OUTBOUND_COMPLETION_TIMEOUT (R303): An outbound read gets no completion within 50 ms and receives an error response. -/
  | outboundCompletionTimeout (tag : Fin 1024)
  /-- FUNCTION_LEVEL_RESET (R304): A Function Level Reset resets the function's configuration and mailbox. -/
  | functionLevelReset (fn : Fin 32)
  /-- PERST_N_RESET (R304): PERST_N resets the host port for every function. -/
  | perstNReset
  /-- PCIE_LINK_DOWN (R305): The PCIe link goes down, and EV-1A01 is raised. -/
  | pcieLinkDown
  /-- PCIE_LINK_UP (R305): The PCIe link comes back up, and EV-1A02 is raised. -/
  | pcieLinkUp (width : Fin 3) (gen : Fin 4)
  /-- CFG_READY (R320): A write of HP_CTRL.CFG_READY ends the configuration retry responses. -/
  | cfgReady (value : BitVec 32)
  /-- CFG_READY_TIMEOUT (R320): 1 s after reset release, the host port stops answering with Configuration Request Retry Status. -/
  | cfgReadyTimeout
  /-- MBX_DOORBELL (R306): A doorbell submits a function's mailbox request, and is ignored while BUSY. -/
  | mbxDoorbell (fn : Fin 32) (value : BitVec 32)
  /-- DICT_READ (R378): The dictionary server serves a read request from any path. -/
  | dictRead (path : Path) (index : BitVec 16) (sub : BitVec 8) (max offset : BitVec 32)
  /-- DICT_WRITE (R378): The dictionary server serves a write to an entry that has no row of its own. -/
  | dictWrite (path : Path) (index : BitVec 16) (sub : BitVec 8) (last : Bool) (offset : BitVec 32) (data : List Byte)
  /-- ETH_FRAME_RECEIVE (R309): A received Ethernet frame is sorted into a queue ring, or dropped. -/
  | ethFrameReceive (mac : Fin 2) (frame : List Byte) (fcsOk : Bool)
  /-- ETH_FRAME_TRANSMIT (R310): A transmit record is sent and released, and a timestamp may be returned. -/
  | ethFrameTransmit (mac : Fin 2) (queue : Fin 4)
  /-- ETH_LINK_CHANGE (R308): An Ethernet link changes, and EV-1A05 is raised. -/
  | ethLinkChange (mac : Fin 2) (code : Fin 5)
  /-- PHC_SET (R311): A write of HP_PHC_SET steps the PTP hardware clock. -/
  | phcSet (seconds : BitVec 48) (nanos : BitVec 32)
  /-- PPS_EDGE (R312): At each PHC whole second, ETH_PPS rises and the web positions are latched. -/
  | ppsEdge
  /-- CODEC_SUBMIT (R314): A write of CDC_SUBMIT checks a job descriptor and queues the job, or refuses it. -/
  | codecSubmit (req : Requester) (addr : BitVec 40)
  /-- CODEC_JOB_START (R314): An engine takes its next queued job. -/
  | codecJobStart (engine : Fin 3)
  /-- CODEC_JOB_COMPLETE (R316): A codec job ends. Its result record is written and DONE_QUOIN may be signalled. -/
  | codecJobComplete (engine : Fin 3) (output refOut : List Byte) (frameType : Fin 3) (badStream : Bool)
  /-- EVC_OCCURRENCE (R321): An occurrence of an internal source joins its batch. -/
  | evcOccurrence (id : Fin 1024)
  /-- EVC_LINE_ACCEPT (R323): An external line level is accepted after FILTER samples, and an occurrence is counted. -/
  | evcLineAccept (line : Fin 32) (level : Bool) (samples : Nat)
  /-- EVC_BATCH_TIMEOUT (R325): A batch timer reaches TIME, and the batch becomes pending. -/
  | evcBatchTimeout (id : Fin 1056)
  /-- EVC_CLAIM (R330): A read of evcclaim or VCLAIM claims the offered source or reports a fault. -/
  | evcClaim (port : EvcPort)
  /-- EVC_COMPLETE (R331): A write of evcdone or VDONE pops the top entry, or freezes the stack. -/
  | evcComplete (port : EvcPort) (id : Fin 2048)
  /-- EVC_STACK_RESET (R332): EVC_STK.RESET or VSTK.RESET empties the stack and clears STACK_FAULT. -/
  | evcStackReset (ref : EvcRef)
  /-- EVC_TAG_ACK (R333): EVC_STK.TAG_ACK clears TAG_LOSS on a host hart target. -/
  | evcTagAck (t : Fin 4)
  /-- EVC_SWSET (R321): A write of EVC_SWSET makes one occurrence of each software source named. -/
  | evcSwset (mask : BitVec 32)
  /-- MSIX_HELD_RELEASE (R334): A held MSI-X message is sent, or dropped, when its blocking causes clear. -/
  | msixHeldRelease (v : Fin 32)
  /-- PORST_ASSERT (R343): PORST_N is driven low, holding the compute die and Deep Store in reset. -/
  | porstAssert
  /-- COMPUTE_RESET_RELEASE (R421): At PORST_N release the Proof stage runs, chooses an image and jumps to it. -/
  | computeResetRelease (bootmode : Fin 4) (vddioKept lpTrained : Bool)
  /-- BROWN_OUT (R344): VDD_NEURAL or VDD_SOC stays below its brown-out threshold for 1 µs, and the compute die resets. -/
  | brownOut (soc : Bool)
  /-- SUPPLY_EXCURSION (R346): VDD_NEURAL stays outside its window for 5 ns, and the excursion is counted. -/
  | supplyExcursion (soc : Bool)
  /-- DOZE_ENTRY (R348): Every running host hart is in WFI with DOZE_EN set, so the compute die enters Doze. -/
  | dozeEntry
  /-- DOZE_EXIT (R348): A host hart target becomes signalled, and Doze ends within 100 ns. -/
  | dozeExit (hart : Fin 4)
  /-- REQUEST_STOP (R349): A write of 2 to REQUEST or PWR_CTRL.REQ requests Stop, or is refused. -/
  | requestStop (viaRegister : Bool)
  /-- REQUEST_HIBERNATE (R349): A write of 3 to REQUEST or PWR_CTRL.REQ requests Hibernate, or is refused. -/
  | requestHibernate (viaRegister : Bool)
  /-- SLEEP_ENTRY_START (R350): An accepted request starts entry. The Roster stops and slugs, MACs and the host port wind down. -/
  | sleepEntryStart
  /-- SLEEP_COMMIT (R350): SLEEP is sent to the field die. Then the clocks stop for Stop, or PWR_HOLD falls for Hibernate. -/
  | sleepCommit
  /-- RTC_ALARM (R351): PWR_RTC reaches PWR_RTC_ALARM and wakes the device from Stop. -/
  | rtcAlarm
  /-- GPIO_WAKE_LATCH (R336): A GPIO edge latch catches an edge in Stop and may wake the device. -/
  | gpioWakeLatch (pin : Fin 16) (rise : Bool)
  /-- PWR_WAKE_N_FALL (R343): PWR_WAKE_N goes low and wakes the compute die from Stop. -/
  | pwrWakeNFall
  /-- WAKE_DURING_ENTRY (R356): A wake before the commit point abandons the sleep entry. -/
  | wakeDuringEntry (bit : Fin 3)
  /-- CAN_FRAME_TRANSMIT (R367): A transmission attempt ends acknowledged or with an error, which updates the error and lonely counts. -/
  | canFrameTransmit (port : Fin 2) (result : TxResult)
  /-- BUS_OFF_RECOVERY (R366): After 128 × 11 recessive bits, a bus-off port recovers. -/
  | busOffRecovery (port : Fin 2)
  /-- CAN_FRAME_DISCARD (R362): A frame of the wrong format for the profile, a remote frame or an SEC frame is acknowledged and discarded. -/
  | canFrameDiscard (port : Fin 2)
  /-- NMT_START (R371): An NMT start command makes the port OPERATIONAL. -/
  | nmtStart (port : Fin 2) (node : BitVec 8)
  /-- NMT_STOP (R371): An NMT stop command leaves the port sending heartbeat only. -/
  | nmtStop (port : Fin 2) (node : BitVec 8)
  /-- NMT_ENTER_PRE_OPERATIONAL (R371): An NMT enter pre-operational command stops PDOs on the port. -/
  | nmtEnterPreOperational (port : Fin 2) (node : BitVec 8)
  /-- NMT_RESET_NODE (R371): An NMT reset node command reloads 1000h–1FFFh and restarts the port's communication. -/
  | nmtResetNode (port : Fin 2) (node : BitVec 8)
  /-- NMT_RESET_COMMUNICATION (R371): An NMT reset communication command restarts the port's communication layer and applies its settings. -/
  | nmtResetCommunication (port : Fin 2) (node : BitVec 8)
  /-- SDO_REQUEST (R370): An SDO request frame arrives for the port's SDO server. -/
  | sdoRequest (port : Fin 2) (op : SdoOp)
  /-- USDO_REQUEST (R374): A USDO request arrives under PROFILE 2. -/
  | usdoRequest (port : Fin 2) (op : SdoOp)
  /-- JDT_REQUEST (R376): A JDT request frame arrives and is queued, or refused. -/
  | jdtRequest (port : Fin 2) (prio : BitVec 11) (sdt vcid : BitVec 8) (sec : Bool) (af : BitVec 32) (data : List Byte)
  /-- JDT_SEGMENT_TIMEOUT (R376): No next write segment arrives within 5,000 ms, so the JDT transfer is discarded. -/
  | jdtSegmentTimeout (port : Fin 2) (addr : Fin 256)
  /-- UDP_DICT_DATAGRAM (R379): A UDP dictionary datagram arrives at port 47110. -/
  | udpDictDatagram (mac : Fin 2) (src : BitVec 48) (data : List Byte)
  /-- RPDO_RECEIVE (R372): An RPDO is received and applied, or discarded for its length. -/
  | rpdoReceive (port : Fin 2) (n : Fin 8) (data : List Byte)
  /-- SYNC_RECEIVE (R372): A SYNC drives the port's synchronous TPDOs. -/
  | syncReceive (port : Fin 2)
  /-- HEARTBEAT_CONSUMER_TIMEOUT (R372): A heartbeat consumer entry times out, and EMCY 8130h is sent. -/
  | heartbeatConsumerTimeout (port : Fin 2) (entry : Fin 4)
  /-- HEARTBEAT_PRODUCER (R370): The producer heartbeat period expires, and a heartbeat is sent. -/
  | heartbeatProducer (port : Fin 2)
  /-- TPDO_CHANGE_CHECK (R395): Every 1 ms P0 compares the mapped values and queues changed type 254 TPDOs. -/
  | tpdoChangeCheck
  /-- TPDO_EVENT_TIMER (R395): A TPDO's event timer expires and queues the TPDO. -/
  | tpdoEventTimer (port : Fin 2) (n : Fin 8)
  /-- TPDO_TRANSMIT (R395): A queued TPDO is sent when the port's bus allows. -/
  | tpdoTransmit (port : Fin 2) (n : Fin 8)
  /-- EMCY_TRANSMIT (R407): The oldest waiting EMCY is sent, no sooner than the inhibit time after the previous one. -/
  | emcyTransmit (port : Fin 2)
  /-- ERROR_REGISTER_CHECK (R408): Every 1 ms P0 reads 1001h and queues an error-reset EMCY when it returns to 0. -/
  | errorRegisterCheck
  /-- LSS_SWITCH_STATE_GLOBAL (R370): The LSS switch state global service is served. -/
  | lssSwitchStateGlobal (port : Fin 2) (config : Bool)
  /-- LSS_SWITCH_STATE_SELECTIVE (R370): The LSS switch state selective service is served. -/
  | lssSwitchStateSelective (port : Fin 2) (field : Fin 4) (value : BitVec 32)
  /-- LSS_CONFIGURE_NODE_ID (R370): LSS configure node-ID writes the port's NODE_ID. -/
  | lssConfigureNodeId (port : Fin 2) (node : BitVec 8)
  /-- LSS_CONFIGURE_BIT_TIMING (R370): LSS configure bit timing sets the port's nominal rate. -/
  | lssConfigureBitTiming (port : Fin 2) (table index : BitVec 8)
  /-- LSS_ACTIVATE_BIT_TIMING (R365): LSS activate bit timing applies NOMINAL_RATE after its switch delay. -/
  | lssActivateBitTiming (port : Fin 2)
  /-- LSS_STORE_CONFIGURATION (R370): LSS store configuration stores the port's NODE_ID and NOMINAL_RATE. -/
  | lssStoreConfiguration (port : Fin 2)
  /-- LSS_INQUIRE_IDENTITY (R370): LSS inquire identity returns an identity field. -/
  | lssInquireIdentity (port : Fin 2) (field : Fin 4)
  /-- LSS_INQUIRE_NODE_ID (R370): LSS inquire node-ID returns the port's node-ID. -/
  | lssInquireNodeId (port : Fin 2)
  /-- LSS_IDENTIFY_REMOTE_SLAVE (R370): The LSS identify remote slave service is answered. -/
  | lssIdentifyRemoteSlave (port : Fin 2) (field : Fin 6) (value : BitVec 32)
  /-- LSS_FASTSCAN (R370): The LSS fastscan service is answered. -/
  | lssFastscan (port : Fin 2) (id : BitVec 32) (bitChecked : Fin 129) (sub next : Fin 4)
  /-- CAN_WAKEUP (R381): A wake-up on the bus in orderly autonomy raises the field die's CAN wake event. -/
  | canWakeup (port : Fin 2) (dominant5us pattern : Bool)
  /-- PROTOCOL_SIDE_RETURN (R380): The protocol side returns, and each port restarts and sends boot-up. -/
  | protocolSideReturn
  /-- STORE_PARAMETERS (R437): "save" written to 1010h starts a settings store as a long operation. -/
  | storeParameters (scope : Fin 4) (value : BitVec 32)
  /-- RESTORE_DEFAULTS (R394): "load" written to 1011h marks a scope for defaults as a long operation. -/
  | restoreDefaults (scope : Fin 4) (value : BitVec 32)
  /-- LONG_OPERATION_COMPLETE (R405): A long operation completes, raises EV-1F05 and sends its completion EMCY. -/
  | longOperationComplete (ok : Bool) (failed : BitVec 16)
  /-- LONG_OPERATION_TIMEOUT (R405): A long operation reaches its limit and ends with TIMEOUT. -/
  | longOperationTimeout
  /-- ERROR_HISTORY_CLEAR (R409): A write of 0 to 1003h:00 empties the error history. -/
  | errorHistoryClear (value : BitVec 8)
  /-- EVENT_LOG_CLEAR (R402): CLEAR of 2C00h empties the event log, and SEQ continues. -/
  | eventLogClear (value : BitVec 8)
  /-- KEY_REVOKE (R400): A write of REVOKE blows a key slot's revoke fuse. -/
  | keyRevoke (value : BitVec 8)
  /-- UPDATE_BEGIN (R430): BEGIN erases the inactive slot and starts a download. -/
  | updateBegin
  /-- UPDATE_BLOCK (R431): A BLOCK record is checked and programmed into the inactive slot. -/
  | updateBlock (data : List Byte)
  /-- UPDATE_VERIFY (R432): VERIFY checks the downloaded image as a long operation. -/
  | updateVerify
  /-- UPDATE_ACTIVATE (R433): ACTIVATE writes the trial into the boot record and schedules a reset. -/
  | updateActivate
  /-- ACTIVATE_RESET (R433): 500 ms after ACTIVATE's response, the compute die resets. -/
  | activateReset
  /-- UPDATE_CONFIRM (R434): CONFIRM makes the trial slot CONFIRMED and may raise the fused level. -/
  | updateConfirm
  /-- UPDATE_CANCEL (R434): CANCEL returns the slot to EMPTY and erases the download log. -/
  | updateCancel
  /-- PACKAGE_IMAGE_SEGMENT (R404): An IMAGE segment is written to the slot's memory, and the LAST segment starts installation. -/
  | packageImageSegment (slot : Fin 64) (offset : BitVec 32) (last : Bool) (data : List Byte)
  /-- PACKAGE_VERIFY (R404): VERIFY recomputes the package digests as a long operation. -/
  | packageVerify (slot : Fin 64)
  /-- PACKAGE_REMOVE (R404): REMOVE returns a package slot to EMPTY. -/
  | packageRemove (slot : Fin 64)
  /-- COUNTER_CLEAR (R14): A write of 0 to a counter subindex or its mirror clears it, and a non-zero value is refused. -/
  | counterClear (index : BitVec 16) (sub : BitVec 8) (value : BitVec 32) (mirror : Bool)
  /-- COUNTER_OBJECT_CLEAR (R14): An index written to 28FFh:01 or GK_CLEAR clears every counter of that object. -/
  | counterObjectClear (index : BitVec 16) (viaRegister : Bool)
  /-- BOOT_WATCHDOG_EXPIRY (R427): The 10,000 ms boot watchdog expires and resets the compute die. -/
  | bootWatchdogExpiry
  /-- BOOT_OK (R427): A write of BOOT_CTRL.BOOT_OK stops the boot watchdog. -/
  | bootOk (value : BitVec 32)
  /-- BOOT_LPCFG_WRITE (R440): A write of BOOT_LPCFG makes a boot record write, which takes effect at the next reset. -/
  | bootLpcfgWrite (value : BitVec 128)
  /-- FLASH_PROGRAM (R413): BOOT_FLASH_CMD = 1 programs a 32-byte flash word, or is refused. -/
  | flashProgram
  /-- FLASH_ERASE (R413): BOOT_FLASH_CMD = 2 erases a flash sector, or is refused. -/
  | flashErase
  /-- FLASH_COMMAND_COMPLETE (R413): A flash program or erase completes, and BUSY clears. -/
  | flashCommandComplete
  /-- DEEP_STORE_SCRUB_READ (R444): The Groundskeeper reads one Deep Store word in slot 0. -/
  | deepStoreScrubRead (ch : Fin 8) (err : MemErr)
  /-- RING_TABLE_SCRUB_READ (R444): The Groundskeeper reads one Ring Table descriptor in a free cycle. -/
  | ringTableScrubRead (err : MemErr)
  /-- SCRUB_PASS_LATE (R444): A scrub pass is incomplete at its target period, and it is counted late. -/
  | scrubPassLate (res : Fin 9)
  /-- SCRUB_FORCED_MODE (R445): A pass is incomplete at ten target periods, and the resource enters forced mode. -/
  | scrubForcedMode (res : Fin 9)
  /-- FORCED_INTERVAL_START (R445): A forced interval of 1,000 µs starts at an impression boundary, or every 100 ms. -/
  | forcedIntervalStart (res : Fin 9)
  /-- FORCED_INTERVAL_END (R446): A forced interval ends 1,000 µs after it began. -/
  | forcedIntervalEnd (res : Fin 9)
  /-- PHY_CALIBRATION_START (R447): The Groundskeeper starts a periodic deskew on an eligible D-PHY channel. -/
  | phyCalibrationStart (ch : Fin 16)
  /-- PHY_CALIBRATION_COMPLETE (R447): A 25 µs calibration completes. -/
  | phyCalibrationComplete (ch : Fin 16)
  /-- CALIBRATION_PERIOD_END (R448): A calibration period ends without a completed calibration, raising EV-1F03 after ten. -/
  | calibrationPeriodEnd (ch : Fin 16)
  /-- ERASE_AHEAD (R449): The Groundskeeper erases a flash sector ahead of the newest settings record. -/
  | eraseAhead
  /-- TELEMETRY_READ (R450): Every 10 ms the Groundskeeper reads the temperatures and supplies and publishes them. -/
  | telemetryRead (t0 t1 t2 t3 : BitVec 16) (neural soc vfield : BitVec 16)
  /-- REGISTER_WRITE (R157): A write to a register that has no row of its own, checked for width, alignment and offset. -/
  | registerWrite (req : Requester) (addr : BitVec 40) (data : List Byte)
  /-- XIN_RETURN (R95): XIN and the compute-die PLLs run again after a failure, which clears that cause, so the compute die may retrain the Field Link. -/
  | xinReturn
  /-- CAN_RECEIVE_ERROR (R366): The bit engine detects a bus error while receiving, which raises the port's REC and can move it to ERROR_PASSIVE with EV-1D01 and EMCY 8120h. -/
  | canReceiveError (port : Fin 2) (heavy : Bool)
  /-- OUTBOUND_COMPLETION (R303): A PCIe completion for an outbound read arrives, and the requester receives its data, or an error response for Unsupported Request or Completer Abort. -/
  | outboundCompletion (tag : Fin 1024) (status : Completion) (data : List Byte)
  /-- PCIE_CONFIG_REQUEST (R320): A PCIe configuration request reaches a function; before CFG_READY it is answered with Configuration Request Retry Status, and otherwise it can set NumVFs, Bus Master Enable or the MSI-X enable and mask. -/
  | pcieConfigRequest (fn : Fin 32) (op : CfgOp)
  /-- HART_TIMER_INTERRUPT (R348): A host hart's mtime reaches its compare value, which raises its timer interrupt and takes the hart out of WFI, so Doze ends. -/
  | hartTimerInterrupt (hart : Fin 4)
  /-- STOP_EXIT_COMPLETE (R353): XIN, the PLLs and the memories' self-refresh exit finish within 1.5 ms of a Stop wake, and the host harts resume where they stopped. -/
  | stopExitComplete
  deriving DecidableEq, Repr

end Sys2Proof
end

