-- ==== Sys2Proof/Decode.lean ====
section
/-!
DEFINITION. The command that a word spells. spec/opcode_table.json gives its rows no bits, so no word spells one.
-/
namespace Sys2Proof

/-- The command spelt by `nbits` bits of `w`: the table assigns no bits to any row. -/
def decodeTableWord (_nbits _w : Nat) : Option Instr := none

end Sys2Proof
end

