-- ==== Sys2Proof/Config.lean ====
section
/-!
DEFINITION. What the spec fixes as constants of the part, and the values that it leaves open as opaque free values.
-/
namespace Sys2Proof
namespace Config

/-- Picoseconds in one microsecond. -/
abbrev psPerUs : Nat := 1000000
/-- Picoseconds in one millisecond. -/
abbrev psPerMs : Nat := 1000000000
/-- Picoseconds in one second. -/
abbrev psPerS : Nat := 1000000000000
/-- Picoseconds in one XIN period (00 R8: 25 MHz). -/
abbrev psPerXin : Nat := 40000
/-- Picoseconds in one field sampling cycle (01 Table 1-6: 160 MHz); the step on an empty queue. -/
abbrev psPerCycle : Nat := 6250

/-- FREE VALUE (log entry 12): bytes of the Foundry block, of the shipped firmware in slot A and of the Bullpen as programmed at manufacture. -/
opaque factoryFlash : Nat → Byte

/-- FREE VALUE (log entry 13): a byte that an undefined result leaves, by the counter of free values. -/
opaque freeByte : Nat → Byte

/-- FREE VALUE (log entry 13): a number that an undefined result leaves, by the counter of free values. -/
opaque freeNat : Nat → Nat

/-- FREE VALUE (log entry 22): a demosaiced value at a pixel whose 5 × 5 neighbourhood leaves the frame, by the counter of free values, plane, row and column. -/
opaque borderPixel : Nat → Nat → Nat → Nat → Nat

/-- FREE VALUE (log entry 23): CIEDE2000 of ISO/CIE 11664-6 in binary32, by L, a, b, the target's L, a, b, and kL, kC, kH; the spec names the standard and does not state the formula. -/
opaque ciede2000 : List Rat → Rat

/-- FREE VALUE (log entry 28): whether a package image was compiled for these Deep Store shares, Type Case ways and galley granules; the spec does not lay out where an image says so. -/
opaque compiledFor : List Byte → List Byte → Nat → List Byte → Bool

/-- FREE VALUE (log entry 35): SHA-256 of a byte string; the spec names the function and does not state it. -/
opaque sha256 : List Byte → List Byte

/-- FREE VALUE (log entry 35): whether an ECDSA P-256 signature r ‖ s verifies: public key, digest, signature. -/
opaque ecdsaP256 : List Byte → List Byte → List Byte → Bool

/-- FREE VALUE (log entry 35): KEY_HASH0-3 as programmed at manufacture. -/
opaque shippedKeyHash : Nat → List Byte

/-- FREE VALUE (log entry 36): a settings payload of one schema as the firmware of another schema migrates it. -/
opaque migrate : Nat → Nat → List Byte → List Byte

/-- FREE VALUE (log entry 37): the format check of a package image, and the device grade it was compiled for. -/
opaque packageFormat : List Byte → Bool
/-- FREE VALUE (log entry 37): the device grade a package image was compiled for. -/
opaque packageGrade : List Byte → Nat
/-- FREE VALUE (log entry 37): the length a package image states for itself. -/
opaque packageLength : List Byte → Nat
/-- FREE VALUE (log entry 37): a package image with its addresses rewritten as physical addresses from a load base. -/
opaque packageRelocate : Nat → List Byte → List Byte
/-- FREE VALUE (log entry 37): every section of a relocated package image agrees with its digest table. -/
opaque packageDigest : Nat → List Byte → Bool

/-- FREE VALUE (log entry 42): the text of 100Ah for a firmware version; the spec does not give its form. -/
opaque versionText : Nat → List Byte

end Config
end Sys2Proof
end

