-- ==== Sys2Proof/Machine/State.lean ====
section
/-!
DEFINITION. The machine's state: plain data holding every piece of state the spec gives the DV16, and its value at reset.
A field's docstring gives its width and the chapter and rule of the spec that names it.
Fields of type `Tab` list only the entries that differ from the default their accessor names.
-/
namespace Sys2Proof
namespace Machine

/-- A verdict in the encoding of Table 0-6 (00_scope R9). -/
inductive Verdict where | pending | pass | fail | unseen
  deriving DecidableEq, Repr

/-- Mark-lock states (02 R50). -/
inductive MarkState where | off | seeking | locked
  deriving DecidableEq, Repr

/-- State the field die keeps beside each cue entry (02 R58). -/
inductive CueState where | free | armed | live | suppressed
  deriving DecidableEq, Repr

/-- Condition of one encoder line (03 R76). -/
inductive LineCond where | ok | open_ | short
  deriving DecidableEq, Repr

/-- Field Autonomy and its kind (03 R96, R98). -/
inductive Autonomy where | none | fault | orderly
  deriving DecidableEq, Repr

/-- States of 2700h:09, read through VFIELD_SNS (14 Table 14-8, 19 R469). -/
inductive VfSense where | normal | reversed | absent
  deriving DecidableEq, Repr

/-- Intake channel states of Table 4-10 (04 R126). -/
inductive ChanState where | off | starting | ready | streaming | failed
  deriving DecidableEq, Repr

/-- Frame status codes of Table 4-6 (04 R118). -/
inductive FrameStatus where
  | good | truncated | short | lineLength | noFe | noFs | packetError | ringFull
  | rateOverflow | skewOverflow | frameNumber | untriggered | channelFailed | disabled
  deriving DecidableEq, Repr

/-- STATE field of a sequence entry (10 Table 10-5). -/
inductive SeqState where | free | ready | running
  deriving DecidableEq, Repr

/-- Station states of Table 11-8 (11 R290). -/
inductive StationState where | empty | configured | admitting | draining | tearingDown
  deriving DecidableEq, Repr

/-- STATE of a neural core (08 Table 8-8). -/
inductive CoreState where | idle | running | clearing | testing | retired
  deriving DecidableEq, Repr

/-- NMT states of a CAN port (15 Table 15-5). -/
inductive NmtState where | initialising | stopped | operational | preOperational
  deriving DecidableEq, Repr

/-- Bus states that the error counters and LONELY give (15 R366). -/
inductive BusState where | errorActive | errorPassive | busOff
  deriving DecidableEq, Repr

/-- Firmware slot states (16 R398). -/
inductive SlotState where | empty | downloading | unverified | verified | trial | confirmed | failed
  deriving DecidableEq, Repr

/-- Package slot states (16 R403). -/
inductive PkgState where | empty | loading | installed | verified | failed
  deriving DecidableEq, Repr

/-- The condition a Type Case way is in (06 R163). -/
inductive WayMode where | cache | scratch | toScratch | toCache
  deriving DecidableEq, Repr

/-- Power state of the compute die (14 R347); `off` is unpowered or held in reset. -/
inductive PowerState where | run | doze | stop | hibernate | off
  deriving DecidableEq, Repr

/-- The three time bases, in picoseconds (01 R29, R30). -/
structure Clocks where
  /-- True time elapsed; the RTC counts on it (01 R29) -/
  wall : Nat := 0
  /-- Field die time; its microsecond count is this over 1,000,000, modulo 2^32 (01 R30, 02 R43) -/
  field : Nat := 0
  /-- Reference time derived from XIN; the XIN period count is this over 40,000 (00 R8, 03 R93) -/
  ref : Nat := 0
  /-- Reference time at the last compute-die reset release (UPTIME) (16 Table 16-6) -/
  refReset : Nat := 0
  deriving DecidableEq, Repr

/-- Values of dictionary entries that differ from their defaults: scalars and DOMAINs, keyed index × 256 + subindex (16 R386, R390). -/
structure Cfg where
  /-- Scalar entries (16 R386) -/
  num : Tab Nat := []
  /-- DOMAIN entries (16 R387) -/
  dom : Tab (List Byte) := []
  deriving DecidableEq, Repr

/-- One encoder receiver on the field die (03 R75-R77). -/
structure Encoder where
  /-- Accepted level of A (DESIGN CHOICE 3: low) (02 R38) -/
  a : Bool := false
  /-- Accepted level of B (DESIGN CHOICE 3: low) (02 R38) -/
  b : Bool := false
  /-- Accepted level of Z (DESIGN CHOICE 3: low) (02 R41) -/
  z : Bool := false
  /-- Flag of line A (2630h:09-10 [1:0]) (03 R76) -/
  flagA : LineCond := .ok
  /-- Flag of line B ([3:2]) (03 R76) -/
  flagB : LineCond := .ok
  /-- Flag of line Z ([5:4]) (03 R76) -/
  flagZ : LineCond := .ok
  /-- Field time since which A and B have been free of OPEN and SHORT (02 R54, R57) -/
  okSince : Nat := 0
  /-- A probe current runs on line 0 A, 1 B, 2 Z (03 R76) -/
  probe : Tab Bool := []
  deriving DecidableEq, Repr

/-- One web clock on the field die (02). -/
structure WebClock where
  /-- The x4 counter; the position is this counter shifted by DECODE (02 R38) -/
  x4 : BitVec 50 := 0
  /-- A tick has been counted since the field die started (02 R47) -/
  touched : Bool := false
  /-- Field time of the last counted edge (02 R43) -/
  lastEdge : Option Nat := none
  /-- Direction of the last counted edge (02 R43) -/
  lastFwd : Bool := true
  /-- Counted edges since the window restarted, newest first: time and signed tick count (02 R43) -/
  edges : List (Nat × Int) := []
  /-- Filtered velocity, ticks/s (02 R44) -/
  vel : Rat := 0
  /-- The direction has changed: the filter takes the raw estimate at the next update (02 R43) -/
  velReset : Bool := false
  /-- Filtered velocity at the last acceleration check (02 R45) -/
  velMs : Rat := 0
  /-- Impression index (02 R46) -/
  idx : BitVec 32 := 0
  /-- Phase, 0 to L - 1 (02 R46) -/
  phase : Nat := 0
  /-- L in force (02 R47) -/
  len : Nat := 8192
  /-- L written and not yet in force (02 R47) -/
  lenPend : Option Nat := none
  /-- Mark-lock state (02 R50) -/
  mark : MarkState := .off
  /-- A mark has been accepted in this impression (02 R50) -/
  markAcc : Bool := false
  /-- Last accepted e (2100h:1D) (02 R48, R50) -/
  markErr : Int := 0
  /-- Consecutive mark misses (02 R51) -/
  misses : Nat := 0
  /-- Glitches in the current impression; GLITCH_IMP shows at most 255 (02 R39) -/
  glitchImp : Nat := 0
  /-- A glitch has occurred in this impression (it started or continues) (02 Table 2-2) -/
  glitched : Bool := false
  /-- STANDSTILL (02 R55, R73) -/
  standstill : Bool := true
  /-- REVERSE (02 R55) -/
  reverse : Bool := false
  /-- SUSPECT, glitch cause (02 R55) -/
  suspGlitch : Bool := false
  /-- SUSPECT, failover cause (02 R55) -/
  suspFail : Bool := false
  /-- LOST (02 R55) -/
  lost : Bool := false
  /-- Turning point (02 R56) -/
  turn : BitVec 48 := 0
  /-- REV_WIRING (02 R56) -/
  revWiring : Bool := false
  /-- ON_BACKUP (02 R53) -/
  onBackup : Bool := false
  /-- Backup x4 count, signed (02 R52) -/
  bX4 : Int := 0
  /-- Backup count recorded at the last counted primary edge (02 R52) -/
  bAtEdge : Int := 0
  /-- Remainder accumulator modulo BACKUP_DEN (02 R53) -/
  rem : Int := 0
  /-- Primary ticks since the impression began (02 R54) -/
  impPrim : Int := 0
  /-- Backup count at the beginning of the impression (02 R54) -/
  impBack : Int := 0
  /-- Both encoders healthy since the impression began (02 R54) -/
  impBoth : Bool := true
  /-- Forward ticks since the last marker edge (02 R41) -/
  zTicks : Nat := 0
  /-- A marker edge has been seen since the field die started (02 R41) -/
  zSeen : Bool := false
  /-- Forward ticks of this marker period with Z high (03 R77) -/
  zHigh : Nat := 0
  /-- Consecutive marker periods with a high share above 50 % (03 R77) -/
  zHiRun : Nat := 0
  /-- Consecutive marker periods with a high share of 50 % or less (03 R77) -/
  zLoRun : Nat := 0
  /-- WC_STATUS.Z_INV (03 R77) -/
  zInv : Bool := false
  /-- Time from which the fraction runs; none while it is held at 0 (02 R42, R70) -/
  fracFrom : Option Nat := none
  /-- JUMP to be carried by the next slot (03 R92) -/
  jump : Bool := false
  /-- Ticks counted since orderly autonomy began (03 R89) -/
  wakeTicks : Nat := 0
  deriving DecidableEq, Repr

/-- One entry of the cue table (02 R58). -/
structure CueEntry where
  /-- State kept beside the entry (02 R58) -/
  st : CueState := .free
  /-- The entry (02 Table 2-3) -/
  word : BitVec 128 := 0
  /-- The live position has been before POS since installation or the last jump (02 R60) -/
  ahead : Bool := false
  /-- Its verdict was made UNSEEN by autonomy (03 R96, R97) -/
  autoUnseen : Bool := false
  /-- The entry was freed by its crossing and not written since (02 R62) -/
  wasCrossed : Bool := false
  deriving DecidableEq, Repr

/-- Parts of a cue received and not yet complete (03 R94). -/
structure CueParts where
  /-- Parts received (03 R94) -/
  got : BitVec 4 := 0
  /-- The parts' bits in place (03 R94) -/
  word : BitVec 128 := 0
  deriving DecidableEq, Repr

/-- The cue table of the field die (02 R58-R66). -/
structure Cues where
  /-- The entries (02 R58) -/
  tab : Tab CueEntry := []
  /-- Incomplete entries (03 R94) -/
  parts : Tab CueParts := []
  /-- Admission spacing per station, µs; 2^32 - 1 until loaded (02 R66) -/
  spacing : Tab Nat := []
  /-- Field time of the station's last admitted impression (02 R66, 20 R479) -/
  lastAdmit : Tab (Option Nat) := []
  deriving DecidableEq, Repr

/-- One photo-eye input (03 R78). -/
structure PhotoEye where
  /-- Accepted level (2620h:11) (03 R78) -/
  level : Bool := false
  /-- Field time of the last forwarded edge (03 R78) -/
  lastFwd : Option Nat := none
  /-- Level last forwarded (03 R78, 13 R337) -/
  fwdLevel : Bool := false
  deriving DecidableEq, Repr

/-- One trigger output (03 R80). -/
structure Trigger where
  /-- Output active (03 R80) -/
  on : Bool := false
  /-- Latched off (2610h:04) (03 R80) -/
  shorted : Bool := false
  /-- Latest end among the combined widths, field time (03 R80, 02 R64) -/
  until_ : Nat := 0
  deriving DecidableEq, Repr

/-- One kicker output (03 R82-R85); STATE is what its flags give (Table 3-2). -/
structure Kicker where
  /-- A kick holds the output on (03 R82) -/
  on : Bool := false
  /-- Web clocks of the cues whose kicks run (03 R83) -/
  kicks : List Nat := []
  /-- LATCHED, or a latch held through another state (03 R83, R84) -/
  latch : Bool := false
  /-- The latch is HELD_OFF (03 R83) -/
  held : Bool := false
  /-- Consecutive failed retries (03 R84) -/
  retries : Nat := 0
  /-- A retry pulse is on (03 R84) -/
  pulse : Bool := false
  /-- A normal kick runs since a retry pulse and its retry is not judged yet (03 R84) -/
  kickOn : Bool := false
  /-- Shorted to VFIELD, FAULTS[2] (03 Table 3-2) -/
  svf : Bool := false
  /-- Channel sensor above 175 °C and not yet below 160 °C (03 Table 3-2) -/
  hot : Bool := false
  /-- Latest end among the combined widths that are in clock time, field time (02 R64) -/
  until_ : Nat := 0
  /-- FAULTS[0] (03 R85) -/
  openOff : Bool := false
  /-- FAULTS[1] (03 R85) -/
  openOn : Bool := false
  /-- LAST_CURRENT, mA (03 Table 3-8) -/
  lastMa : Nat := 0
  /-- Web clocks of undelivered kicks, each until its next forward boundary (03 R83, R87) -/
  undeliv : List Nat := []
  deriving DecidableEq, Repr

/-- Line side of one CAN port (03 R86). -/
structure CanLine where
  /-- A line is judged shorted; transmitter disabled (03 R86) -/
  short : Bool := false
  /-- A dominant request has been cut off (03 R86) -/
  cut : Bool := false
  /-- Destuffed bits handed over and not yet sent: bit count and bits, oldest first (03 R94) -/
  bits : List (Nat × Nat) := []
  deriving DecidableEq, Repr

/-- An event to be raised (16 R401). -/
structure Ev where
  /-- Event code (16 R410) -/
  code : Nat := 0
  /-- UNIT (16 Table 16-10) -/
  unit : Nat := 255
  /-- STATION (16 Table 16-10) -/
  station : Nat := 255
  /-- DETAIL (16 Table 16-11) -/
  detail : Nat := 0
  /-- EMCY error code where the raising rule chooses it (EV-1D08), else 0 (15 R372) -/
  err : Nat := 0
  deriving DecidableEq, Repr

/-- Field Link messages of Table 3-6 (03 R94). -/
inductive Msg where
  | heartbeat (state : Nat) (us : Nat)
  | verdict (entry : Nat) (v : Verdict)
  | cuePart (entry part : Nat) (data : BitVec 32)
  | regWrite (r : FieldReg) (data : Nat)
  | regRead (r : FieldReg)
  | canTx (port : Nat) (bits : Nat)
  | canRx (port : Nat) (bits : Nat)
  | cueResult (entry code : Nat)
  | peEdge (input : Nat) (level : Bool) (us : Nat)
  | pinEvent (e : Option Ev) (key n : Nat)         -- an event, or `n` counts of a counter
  | regData (r : FieldReg) (data : Nat)
  | sleep (kind : Nat)
  deriving DecidableEq, Repr

/-- The field die but for its web clocks and cue table (03). -/
structure FieldDie where
  /-- The field die is powered and started (01 R20, 03 R90) -/
  on : Bool := true
  /-- VFIELD undervoltage in force (03 R90) -/
  under : Bool := false
  /-- VFIELD overvoltage in force (03 R90) -/
  overV : Bool := false
  /-- A Field Link session has been up since VFIELD rose (03 Table 3-3) -/
  everUp : Bool := false
  /-- Configuration held on the field die (2100h-2107h, 2600h-2607h, 2610h, 2620h, 2630h) (02 R73, 03 R102) -/
  cfg : Cfg := {}
  /-- Encoder receivers (03 R75) -/
  enc : Tab Encoder := []
  /-- Photo-eye inputs (03 R78) -/
  pe : Tab PhotoEye := []
  /-- Trigger outputs (03 R79) -/
  trg : Tab Trigger := []
  /-- Kicker outputs (03 R81) -/
  kck : Tab Kicker := []
  /-- Output map: station of each trigger output (reset: S0) (03 R74) -/
  mapT : Tab Nat := []
  /-- Output map: station of each kicker output (reset: S0) (03 R74) -/
  mapK : Tab Nat := []
  /-- CAN line side (03 R86) -/
  canLine : Tab CanLine := []
  /-- FD_STAT (03 Table 3-9) -/
  stat : BitVec 32 := 1
  /-- Link up as the field die judges it (03 R95) -/
  up : Bool := false
  /-- Field Autonomy (03 R96, R98) -/
  autonomy : Autonomy := .none
  /-- Consecutive heartbeat misses at the field die (03 R95) -/
  missRun : Nat := 0
  /-- Consecutive valid heartbeats in autonomy (03 R97) -/
  hbRun : Nat := 0
  /-- SLEEP received: 1 Stop, 2 Hibernate, 0 none (03 R98) -/
  sleepReq : Nat := 0
  /-- WAKE_N pulled low (03 R89) -/
  wakeN : Bool := false
  /-- Wake event that fired, codes of 2700h:07 (14 R351) -/
  wakeSrc : Nat := 0
  /-- A CAN wake-up has fired (15 R381) -/
  canWake : Bool := false
  /-- WAKE_MODE of each port that watches its bus in orderly autonomy (15 R381) -/
  canArm : Tab Nat := []
  /-- Events gathered while no session carries them (03 R97) -/
  gathered : List Ev := []
  /-- Field time or impression, plus 1, of the last raise of a limited event (00 R482) -/
  stamps : Tab Nat := []
  /-- Counts gathered meanwhile, keyed index × 256 + subindex (03 R97, 16 R397) -/
  gatherCnt : Tab Nat := []
  /-- The autonomy in force or last ended was a Hibernate (14 R354) -/
  hibernated : Bool := false
  /-- Messages waiting to be sent to the compute die (03 R94) -/
  txq : List Msg := []
  deriving DecidableEq, Repr

/-- The compute die's position view of one web clock (01 R28, 02 R72, 03 R92). -/
structure View where
  /-- Position view (2100h:17, WC_POS) (02 R42, R72) -/
  pos : BitVec 56 := 0
  /-- Velocity (2100h:18) (02 R44) -/
  vel : Int := 0
  /-- Impression index (2100h:19) (02 R46) -/
  idx : BitVec 32 := 0
  /-- Phase (2100h:1A) (02 R46) -/
  phase : Nat := 0
  /-- HEALTH (02 Table 2-2) -/
  health : Nat := 1
  /-- Last reported WC_STATUS fields but HEALTH and VIEW_VALID (02 Table 2-8) -/
  stat : Nat := 0
  /-- MARK_ERROR (2100h:1D) (02 R48) -/
  markErr : Int := 0
  /-- VIEW_VALID (03 R92) -/
  valid : Bool := false
  deriving DecidableEq, Repr

/-- Compute-die side of the Field Link (03 R91-R100). -/
structure Link where
  /-- FL_STATUS.UP (03 R100) -/
  up : Bool := false
  /-- FL_STATUS.AUTONOMY (03 R100) -/
  autonomy : Bool := false
  /-- FL_STATUS.ORDERLY (03 R100) -/
  orderly : Bool := false
  /-- Lanes trained (03 R100) -/
  lanes : BitVec 4 := 0
  /-- Position views (03 R92) -/
  views : Tab View := []
  /-- Consecutive heartbeat misses at the compute die (03 R95) -/
  missRun : Nat := 0
  /-- Reference times of CRC failures within the last 1 ms (03 R92) -/
  crcTimes : List Nat := []
  /-- XIN has failed (03 R95) -/
  xinFail : Bool := false
  /-- The Roster completed no step in four periods (03 R95) -/
  rosterStall : Bool := false
  /-- The next heartbeat sent is the first since reset (03 R88) -/
  firstHb : Bool := true
  /-- A session has been up since the compute die's reset (03 R90) -/
  seen : Bool := false
  /-- Messages waiting to be sent to the field die (03 R94) -/
  txq : List Msg := []
  /-- SEQ of the last slot received (03 Table 3-4) -/
  seq : Nat := 0
  /-- TIME of the last compute-to-field slot received by the field die (03 Table 3-5) -/
  lastTime : Nat := 0
  /-- The field die oscillator is disciplined to XIN (01 R30) -/
  disciplined : Bool := false
  /-- The compute die trains the link (01 R37, 03 R97) -/
  training : Bool := false
  /-- Reference time at which the compute die declared the last loss (03 R97) -/
  lostAt : Option Nat := none
  /-- FD_STAT as last reported (03 R100) -/
  statRep : Nat := 1
  /-- FD_FAULT as last reported (03 R100) -/
  faultRep : Nat := 0
  /-- Read-only entries of the field die's objects as last reported, keyed index × 256 + subindex (03 R99) -/
  last : Tab Nat := []
  deriving DecidableEq, Repr

/-- A value of the object dictionary: a scalar of a stated number of bytes, or bytes. -/
inductive Val where
  | num (bytes : Nat) (v : Nat)
  | bytes (b : List (BitVec 8))
  deriving DecidableEq, Repr

/-- What a request gets: a value, a bare success, or an abort code (16 R391, Table 16-2). -/
inductive Resp where
  | value (v : Val) | ok | abort (code : Nat)
  deriving DecidableEq, Repr

/-- A frame that the protocol side has given a port to send (15 R366-R371, 16 R406). -/
inductive CanMsg where
  | bootup
  | heartbeat (nmt : Nat)
  | sdo (index sub : Nat) (r : Resp)                               -- SDO or USDO answer
  | lss (cs value : Nat)
  | jdt (addr vcid : Nat) (ends : Bool) (data : List (BitVec 8))   -- `ends`: it ends that requester's outstanding request
  | tpdo (n : Nat) (data : List (BitVec 8))
  | emcy (data : List (BitVec 8))
  deriving DecidableEq, Repr

/-- A request that waits for P1 to restart (12 R300). -/
structure Waiting where
  /-- Path that it came by (16 R391) -/
  path : Path
  /-- What the answer carries back: the mailbox's or record's token (12 R306, 15 R378) -/
  token : Nat
  /-- Virtual CAN network of a CAN XL request (15 R378) -/
  vcid : Nat
  /-- The request (16 R391) -/
  req : DictReq
  deriving DecidableEq, Repr

/-- Batch and delivery state of one EVC source (13 R325-R330). -/
structure SrcState where
  /-- Occurrence count C (13 R325) -/
  c : Nat := 0
  /-- Microsecond count of XIN reference at which the running batch began (13 R325) -/
  timer : Option Nat := none
  /-- The batch is pending (13 R325) -/
  pending : Bool := false
  /-- The source is on a stack (13 R327) -/
  inService : Bool := false
  deriving DecidableEq, Repr

/-- One external line of the EVC (13 R323, R336). -/
structure ExtLine where
  /-- Accepted level (DESIGN CHOICE 3: low at reset) (13 R323) -/
  level : Bool := false
  /-- EVC_XCAP (13 Table 13-6) -/
  xcap : BitVec 32 := 0
  /-- Level last forwarded in a PE_EDGE message (photo-eye lines) (13 R323) -/
  fwd : Bool := false
  /-- Microsecond count of that message (13 R323) -/
  fwdUs : BitVec 32 := 0
  /-- The asynchronous edge latch caught an edge (13 R336) -/
  latch : Bool := false
  deriving DecidableEq, Repr

/-- One of the 38 EVC targets (13 R322, R331, R333, R334). -/
structure EvcTarget where
  /-- EVC_TGT.MEIP (13 Table 13-6) -/
  meip : Bool := false
  /-- EVC_TGT.THRESH (13 Table 13-6) -/
  thresh : Nat := 0
  /-- Priority stack, top first: ID and PRIO (13 R330) -/
  stack : List (Nat × Nat) := []
  /-- Stack frozen, STACK_FAULT set (13 R331) -/
  frozen : Bool := false
  /-- TAG_LOSS set (13 R333) -/
  tagLoss : Bool := false
  /-- The target was signalled when last evaluated (13 R327) -/
  signalled : Bool := false
  /-- MSI-X message held (pending bit) (13 R334) -/
  held : Bool := false
  deriving DecidableEq, Repr

/-- The Event Concentrator (13). -/
structure Evc where
  /-- EVC_SRC registers (13 Table 13-6) -/
  src : Tab (BitVec 64) := []
  /-- Source states (13 R325) -/
  st : Tab SrcState := []
  /-- External lines (13 R323) -/
  line : Tab ExtLine := []
  /-- Targets (13 R322) -/
  tgt : Tab EvcTarget := []
  deriving DecidableEq, Repr

/-- One event log entry (16 Table 16-10). -/
structure LogEntry where
  /-- SEQ (16 Table 16-10) -/
  seq : Nat := 0
  /-- Event code (16 Table 16-10) -/
  code : Nat := 0
  /-- UNIT (16 Table 16-10) -/
  unit : Nat := 255
  /-- STATION (16 Table 16-10) -/
  station : Nat := 255
  /-- XIN period count (16 Table 16-10) -/
  time : Nat := 0
  /-- DETAIL (16 Table 16-11) -/
  detail : Nat := 0
  deriving DecidableEq, Repr

/-- One waiting EMCY message (16 R406, R407). -/
structure Emcy where
  /-- CiA 301 error code (16 R406) -/
  err : Nat := 0
  /-- Event code (16 R406) -/
  code : Nat := 0
  /-- UNIT (16 R406) -/
  unit : Nat := 255
  /-- DETAIL [15:0] (16 R406) -/
  detail : Nat := 0
  deriving DecidableEq, Repr

/-- Counters, events, the event log, the EVC and the EMCY queues (00 R13-R18, R482; 13; 16 R401-R409). -/
structure Reporting where
  /-- Counters, keyed index × 256 + subindex (00 R13, 18 R453) -/
  cnt : Tab (BitVec 32) := []
  /-- Event log, newest first (16 R401) -/
  log : List LogEntry := []
  /-- SEQ of the newest entry (16 R401) -/
  seq : Nat := 0
  /-- The event log runs (16 R411) -/
  running : Bool := false
  /-- Events raised and not yet entered (16 R411) -/
  due : List Ev := []
  /-- Time or impression of the last raise of a limited event, keyed by event code × 65,536 + scope; the time plus 1 (00 R482) -/
  stamps : Tab Nat := []
  /-- Event Concentrator (13 R321) -/
  evc : Evc := {}
  /-- Waiting EMCYs of each port, oldest first (16 R407) -/
  emcy : Tab (List Emcy) := []
  /-- 1003h, newest first (16 R409) -/
  hist : List Nat := []
  /-- 1001h as P0 last read it (16 R408) -/
  errLast : Nat := 0
  /-- MSI-X messages sent (the MODEL's own record) (13 R334) -/
  msixOut : Nat := 0
  deriving DecidableEq, Repr

/-- A received frame in a port's buffer (15 R372). -/
structure CanFrame where
  /-- Format (15 R361) -/
  fmt : FrameFmt := .classical
  /-- Identifier or XL priority ID (15 R361) -/
  id : Nat := 0
  /-- Remote frame (15 R370) -/
  rtr : Bool := false
  /-- XL SEC bit (15 R361) -/
  sec : Bool := false
  /-- Data bytes (15 R361) -/
  data : List (BitVec 8) := []
  deriving DecidableEq, Repr

/-- A segmented transfer in progress on one path (12 R306, 15 R376). -/
structure Xfer where
  /-- Index × 256 + subindex (12 R306) -/
  key : Nat := 0
  /-- OFFSET the next write segment must carry (12 R306) -/
  next : Nat := 0
  /-- Bytes gathered, or bytes of an upload still to be sent (12 R306) -/
  data : List (BitVec 8) := []
  /-- An SDO upload (15 R370) -/
  up : Bool := false
  /-- Reference time of the last segment (15 R376) -/
  time : Nat := 0
  deriving DecidableEq, Repr

/-- One heartbeat consumer entry of one port (15 R372). -/
structure HbConsumer where
  /-- A heartbeat has been received since the entry was set or timed out (15 R372) -/
  seen : Bool := false
  /-- The entry has timed out (15 R372) -/
  out : Bool := false
  deriving DecidableEq, Repr

/-- Sending state of one TPDO on one port (16 R395). -/
structure TpdoState where
  /-- One instance waits in the port's queue (16 R395) -/
  queued : Bool := false
  /-- Values of the waiting instance (16 R395) -/
  data : List (BitVec 8) := []
  /-- Mapped values last compared (16 R395) -/
  last : List (BitVec 8) := []
  /-- Reference time it was last sent (16 R395) -/
  lastSent : Option Nat := none
  /-- SYNCs since it was last sent (15 R372) -/
  sync : Nat := 0
  deriving DecidableEq, Repr

/-- LSS slave of one port (15 R370). -/
structure Lss where
  /-- Configuration state (15 R370) -/
  config : Bool := false
  /-- Identity fields matched so far by switch state selective (15 R370) -/
  select : Nat := 0
  /-- Fields matched so far by identify remote slave (15 R370) -/
  remote : Nat := 0
  /-- Identity field that fastscan is at (15 R370) -/
  fast : Nat := 0
  /-- Table index set by configure bit timing (15 R370) -/
  rate : Option Nat := none
  deriving DecidableEq, Repr

/-- Protocol side of one CAN port (15). -/
structure CanPort where
  /-- Subindices 01-0B in force, by subindex (15 R365) -/
  inForce : Tab Nat := []
  /-- The protocol side serves the port (15 R380) -/
  avail : Bool := false
  /-- Transmit error count (15 Table 15-5) -/
  tec : Nat := 0
  /-- Receive error count (15 Table 15-5) -/
  recErr : Nat := 0
  /-- Bus-off (15 R366) -/
  busOff : Bool := false
  /-- Lonely count (15 R367) -/
  lonely : Nat := 0
  /-- LONELY (15 R367) -/
  isLonely : Bool := false
  /-- NMT_STATE (15 Table 15-5) -/
  nmt : NmtState := .initialising
  /-- Receive buffer, oldest first (15 R372) -/
  rx : List CanFrame := []
  /-- Frames waiting for the bus, oldest first (15 R366) -/
  tx : List CanMsg := []
  /-- TPDO sending states (16 R395) -/
  tpdo : Tab TpdoState := []
  /-- RPDO values that wait for SYNC (15 R372) -/
  syncTpdos : Tab (List (BitVec 8)) := []
  /-- Heartbeat consumers (15 R372) -/
  hb : Tab HbConsumer := []
  /-- SDO or USDO transfer in progress (15 R370) -/
  sdo : Option Xfer := none
  /-- Requester addresses with a request outstanding, in arrival order (15 R376) -/
  jdtWait : List Nat := []
  /-- JDT write transfers in progress, by requester address (15 R376) -/
  jdtXfer : Tab Xfer := []
  /-- LSS slave (15 R370) -/
  lss : Lss := {}
  /-- Reference time of the last EMCY sent (16 R407) -/
  lastEmcy : Option Nat := none
  /-- The last frame sent (the MODEL's own record) (15 R367) -/
  sentLog : List CanMsg := []
  deriving DecidableEq, Repr

/-- The long operation that runs (16 R405). -/
structure LongOp where
  /-- Operation code (16 Table 16-14) -/
  code : Nat := 0
  /-- Instance: package slot, station or scope (16 Table 16-11) -/
  inst : Nat := 0
  /-- The value that started it (cores of a self-test) (16 R405) -/
  arg : Nat := 0
  /-- Reference time of its start (16 R405) -/
  started : Nat := 0
  deriving DecidableEq, Repr

/-- The fuse array (17 Table 17-3). -/
structure Fuses where
  /-- KEY_HASH0-3 (unprogrammed ones read as the shipped value of Config) (17 R414) -/
  keyHash : Tab (List (BitVec 8)) := []
  /-- KEY_REVOKE (17 R414) -/
  revoke : BitVec 4 := 0
  /-- ROLLBACK thermometer (17 R415) -/
  rollback : BitVec 64 := 0
  /-- FACTORY_TEST_OFF (17 R414) -/
  factoryTestOff : Bool := true
  /-- GRADE (DESIGN CHOICE 9: the DV16-1200) (17 R414) -/
  grade : Nat := 1200
  /-- SERIAL (DESIGN CHOICE 9: 0) (17 R414) -/
  serial : Nat := 0
  /-- The check word fails (17 R414) -/
  badCheck : Bool := false
  deriving DecidableEq, Repr

/-- Boot, secure start, update and flash control (17). -/
structure Boot where
  /-- Fuse array (17 R414) -/
  fuses : Fuses := {}
  /-- The Proof stage has jumped (or the recovery loader runs) (17 R421) -/
  started : Bool := false
  /-- Halt code, 0 when not halted (17 Table 17-8) -/
  halt : Nat := 0
  /-- The recovery loader runs (17 R428) -/
  recovery : Bool := false
  /-- SLOT_IN_FORCE: 0 A, 1 B, 2 Bullpen (17 R440) -/
  slot : Nat := 0
  /-- BOOTMODE sampled at the last release (17 R424) -/
  mode : Nat := 0
  /-- KEY_SLOT (17 R417) -/
  keySlot : Nat := 0
  /-- FOUNDRY_LOCKED (17 Table 17-6) -/
  foundryLock : Bool := false
  /-- BULLPEN_LOCKED (17 Table 17-6) -/
  bullpenLock : Bool := false
  /-- The image in force is on trial (17 R440) -/
  trial : Bool := false
  /-- LAST_WDOG (17 R427) -/
  lastWdog : Bool := false
  /-- BOOT_CTRL.BOOT_OK (17 R440) -/
  bootOk : Bool := false
  /-- Reference time at which the boot watchdog was armed (17 R427) -/
  wdog : Option Nat := none
  /-- BOOT_FLASH_ADDR (17 R440) -/
  flashAddr : Nat := 0
  /-- BOOT_FLASH_DATA (17 R440) -/
  flashData : BitVec 256 := 0
  /-- BOOT_FLASH_STATUS.BUSY (17 R440) -/
  flashBusy : Bool := false
  /-- BOOT_FLASH_STATUS.ERROR (17 R440) -/
  flashError : Bool := false
  /-- IMAGE_LENGTH (16 Table 16-8) -/
  imageLength : Nat := 0
  /-- NEXT_BLOCK (16 Table 16-8) -/
  nextBlock : Nat := 0
  /-- BLOCKS_WRITTEN (16 Table 16-8) -/
  blocks : Nat := 0
  /-- SECURITY_LEVEL_NEW (16 Table 16-8) -/
  secNew : Nat := 0
  /-- RUN_WITH_DEFAULTS (16 Table 16-8) -/
  runDef : Bool := false
  /-- The reset that ACTIVATE schedules is due (17 R433) -/
  resetDue : Bool := false
  /-- Slot A holds the shipped firmware unchanged (17 R442) -/
  shipA : Bool := true
  /-- The Bullpen is as programmed at manufacture (17 R442) -/
  shipBull : Bool := true
  /-- Download log: IMAGE_LENGTH of the current or last download (17 R420) -/
  dlLen : Option Nat := none
  /-- Download log: its target slot (17 R420) -/
  dlSlot : Nat := 0
  /-- Download log: CRC-32 of each accepted block (17 R420) -/
  dlCrc : Tab (BitVec 32) := []
  deriving DecidableEq, Repr

/-- The Groundskeeper (18). -/
structure Gk where
  /-- GK_CTRL.CAL_EN (18 R455) -/
  calEn : Bool := true
  /-- GK_CTRL.CAL_PERIOD_S (18 R455) -/
  calPeriod : Nat := 60
  /-- Words or descriptors read in the running pass: 0-7 Deep Store channel, 8 Ring Table (18 R443) -/
  pass : Tab Nat := []
  /-- A pass runs on the resource (Ring Table: from reset release) (18 R456) -/
  passOn : Tab Bool := []
  /-- The running pass has been counted late (18 R444) -/
  late : Tab Bool := []
  /-- The resource is in forced mode (18 R445) -/
  forced : Tab Bool := []
  /-- A forced interval runs (18 R445) -/
  interval : Tab Bool := []
  /-- Reference time at which the last forced interval began (18 R445) -/
  lastInt : Tab (Option Nat) := []
  /-- Calibration due (18 R447) -/
  calDue : Tab Bool := []
  /-- Calibration runs (18 R447) -/
  calRun : Tab Bool := []
  /-- A calibration completed in the present period (18 R448) -/
  calDone : Tab Bool := []
  /-- Periods in a row without a completed calibration (18 R448) -/
  calMiss : Tab Nat := []
  /-- Hottest junction sensor, 0.1 °C (DESIGN CHOICE 9: 25.0 °C) (18 R450) -/
  temp : Int := 250
  /-- Junction at the channel's last calibration (18 Table 18-2) -/
  calTemp : Tab Int := []
  /-- VDD_NEURAL as last read, mV (DESIGN CHOICE 9: nominal) (18 R450) -/
  vddN : Nat := 750
  /-- VDD_SOC as last read, mV (DESIGN CHOICE 9: nominal) (18 R450) -/
  vddS : Nat := 800
  /-- VFIELD as the field die last reported it, mV (DESIGN CHOICE 9) (18 R450) -/
  vfield : Nat := 24000
  /-- Over-temperature in force (18 R450) -/
  overTemp : Bool := false
  deriving DecidableEq, Repr

/-- Power states and sleep (14). -/
structure Power where
  /-- Power state of the compute die; held in reset until its release (14 R347) -/
  state : PowerState := .off
  /-- Accepted sleep request: 0 none, 2 Stop, 3 Hibernate (14 R349) -/
  req : Nat := 0
  /-- Entry has started (14 R350) -/
  entering : Bool := false
  /-- REFUSE (14 Table 14-5) -/
  refuse : Nat := 0
  /-- LAST (14 Table 14-8) -/
  last : Nat := 0
  /-- WAKE_SOURCE (14 Table 14-8) -/
  wakeSrc : Nat := 0
  /-- RESET_CAUSE (14 Table 14-9) -/
  cause : Nat := 0
  /-- Cause that the next release records (14 R344) -/
  causeNext : Nat := 0
  /-- PWR_RTC less the RTC periods of true time elapsed (14 R358) -/
  rtcBase : Int := 0
  /-- PWR_RTC_ALARM (14 R358) -/
  rtcAlarm : Nat := 0
  /-- VFIELD_STATE (14 Table 14-8) -/
  vfield : VfSense := .normal
  /-- FIELD_REVERSED raised (01 R33) -/
  fieldReversed : Bool := false
  /-- PWR_HOLD; low until PORST_N is released (14 R343) -/
  hold : Bool := false
  /-- A wake has ended the Stop and the clocks are starting (14 R353) -/
  stopDue : Bool := false
  /-- True time of the wake that ended the Stop (the MODEL's own field) (14 R353) -/
  wakeAt : Nat := 0
  /-- EV-1C04 is owed: LAST of the sleep that ended (14 R355) -/
  wakeEvent : Option Nat := none
  deriving DecidableEq, Repr

/-- One function's mailbox (12 Table 12-3). -/
structure Mailbox where
  /-- MBX_STATUS.BUSY (12 Table 12-3) -/
  busy : Bool := false
  /-- MBX_STATUS.DONE (12 Table 12-3) -/
  done : Bool := false
  /-- MBX_CTRL.IRQ (12 Table 12-3) -/
  irq : Bool := false
  /-- Request buffer (12 Table 12-3) -/
  req : List (BitVec 8) := []
  /-- Response buffer (12 Table 12-3) -/
  rsp : List (BitVec 8) := []
  /-- Write transfer in progress (12 R306) -/
  xfer : Option Xfer := none
  deriving DecidableEq, Repr

/-- One PCIe function (12 R301-R304, R320). -/
structure Pf where
  /-- Bus Master Enable (reset: DESIGN CHOICE 9, clear) (12 R303) -/
  bme : Bool := false
  /-- MSI-X enable (13 R334) -/
  msixEn : Bool := false
  /-- MSI-X function mask (13 R334) -/
  msixMask : Bool := false
  /-- In D3hot (12 Table 12-2) -/
  d3 : Bool := false
  /-- Other configuration registers written, by offset (12 R320) -/
  cfg : Tab Nat := []
  /-- MSI-X table entries; bit 96 is the entry's mask (13 R334) -/
  vec : Tab Nat := []
  /-- Mailbox (12 Table 12-3) -/
  mbx : Mailbox := {}
  deriving DecidableEq, Repr

/-- One outstanding outbound read (12 R303). -/
structure Outbound where
  /-- Tag (12 Table 12-2) -/
  tag : Nat := 0
  /-- Function it was sent with (12 R303) -/
  fn : Nat := 0
  /-- PCIe address (12 R303) -/
  addr : Nat := 0
  /-- Bytes asked for (12 R303) -/
  len : Nat := 0
  deriving DecidableEq, Repr

/-- One host hart as the DV16's own rules see it (12 R297, 14 R348). -/
structure Hart where
  /-- Out of reset (12 R297) -/
  out : Bool := false
  /-- In WFI (14 R348) -/
  wfi : Bool := false
  deriving DecidableEq, Repr

/-- One pressroom hart (12 R299, R300). -/
structure Pressroom where
  /-- Running; false while held in reset (12 R299) -/
  run : Bool := false
  /-- Restarting after its watchdog (12 R300) -/
  restarting : Bool := false
  deriving DecidableEq, Repr

/-- One Ethernet MAC (12 R308-R310). -/
structure Mac where
  /-- Link code of ETH_LINK (12 Table 12-8) -/
  link : Nat := 0
  /-- HP_ETHm_Q registers (12 Table 12-9) -/
  q : Tab Nat := []
  /-- HP_ETHm_TSRING (12 Table 12-9) -/
  tsRing : Nat := 4294967295
  /-- Last frame sent, without FCS (the MODEL's own record) (12 R310) -/
  sent : List (BitVec 8) := []
  deriving DecidableEq, Repr

/-- One codec job (12 R314, Table 12-6). -/
structure CodecJob where
  /-- Station of the job (12 R314) -/
  station : Nat := 0
  /-- Descriptor as read at submission (12 Table 12-6) -/
  desc : List (BitVec 8) := []
  deriving DecidableEq, Repr

/-- The evidence codec (12 R313-R316). -/
structure Codec where
  /-- Jobs queued, in submission order (12 R314) -/
  queue : List CodecJob := []
  /-- Job running on engine 0 video encode, 1 JPEG, 2 video decode (12 R313) -/
  run : Tab (Option CodecJob) := []
  /-- CDC_SUBRES by requester (12 Table 12-9) -/
  subres : Tab Nat := []
  deriving DecidableEq, Repr

/-- Host cluster, host port, Ethernet, codec (12). -/
structure HostSide where
  /-- Host harts (12 R297) -/
  hart : Tab Hart := []
  /-- Pressroom harts P0 and P1 (12 R299) -/
  press : Tab Pressroom := []
  /-- PCIe link up (12 R305) -/
  linkUp : Bool := false
  /-- Negotiated width code (12 Table 12-8) -/
  width : Nat := 2
  /-- Rate generation less 1 (12 Table 12-8) -/
  gen : Nat := 3
  /-- HP_CTRL.CFG_READY (12 R320) -/
  cfgReady : Bool := false
  /-- Configuration requests get Retry Status (12 R320) -/
  crs : Bool := true
  /-- NumVFs (12 Table 12-8) -/
  numVfs : Nat := 0
  /-- Functions PF0, VF1-VF31 (12 R301) -/
  fn : Tab Pf := []
  /-- HP_OUT_BASE (12 Table 12-9) -/
  outBase : Nat := 0
  /-- Outstanding outbound reads (12 R303) -/
  outst : List Outbound := []
  /-- MACs (12 R308) -/
  mac : Tab Mac := []
  /-- PHC value at its last step, nanoseconds (12 R311) -/
  phcSet : Nat := 0
  /-- Reference time of that step (12 R311) -/
  phcAt : Nat := 0
  /-- HP_PHC_ADJ (12 R311) -/
  phcAdj : Int := 0
  /-- Part of a nanosecond at phcAt, in 2^-32 ns (12 R311) -/
  phcFrac : Int := 0
  /-- Reference time of the last ETH_PPS rise (12 R312) -/
  ppsAt : Option Nat := none
  /-- HP_PPS_POS (12 R312) -/
  ppsPos : Tab (BitVec 56) := []
  /-- Evidence codec (12 R313) -/
  codec : Codec := {}
  /-- UDP write transfers in progress (15 R379) -/
  udpXfer : Tab Xfer := []
  deriving DecidableEq, Repr

/-- Object dictionary values and the settings (16). -/
structure Dict where
  /-- Requests that wait for P1 to restart, in arrival order (12 R300, 15 R378) -/
  waiting : List Waiting := []
  /-- Values of the compute die's writable entries that differ from their defaults (16 R386) -/
  cfg : Cfg := {}
  /-- Long operation running (16 R405) -/
  longop : Option LongOp := none
  /-- SELECT of 2C00h (16 Table 16-12) -/
  select : Nat := 0
  deriving DecidableEq, Repr

/-- One Deep Store channel (06 R159-R161, R170, R173). -/
structure DsChan where
  /-- Its start-up training, test and zero fill are done (06 R181) -/
  ready : Bool := false
  /-- Fenced (06 R173) -/
  fenced : Bool := false
  /-- Distinct 64-byte locations with uncorrectable errors in the last 60 s: location and reference time (06 R173) -/
  unc : List (Nat × Nat) := []
  /-- Poisoned words, as byte address / 8 (06 R170) -/
  poison : List Nat := []
  /-- Corrected words the Groundskeeper has yet to rewrite, as byte address / 8 (06 R169) -/
  fix : List Nat := []
  deriving DecidableEq, Repr

/-- One line held in the Type Case (06 R162). -/
structure TcLine where
  /-- Physical address / 64 (06 R158) -/
  line : Nat := 0
  /-- Its way (06 R162) -/
  way : Nat := 0
  /-- Not yet written back (06 R162) -/
  dirty : Bool := false
  deriving DecidableEq, Repr

/-- A Deep Store access issued before its channel is ready (06 R181). -/
structure WaitingAccess where
  /-- Requester (11 R284) -/
  req : Requester := .gk
  /-- Station attributed when it was issued (11 R284) -/
  station : Nat := 0
  /-- Access (06 R181) -/
  op : FabricOp := .read 0
  /-- Physical address (06 R155) -/
  addr : Nat := 0
  /-- Error that the access meets when it is served (06 R169) -/
  err : MemErr := .none
  /-- Way that it takes in the Type Case (06 R162) -/
  victim : Nat := 0
  deriving DecidableEq, Repr

/-- The memories at physical addresses, the Type Case and their protection (06). -/
structure MemSys where
  /-- On-chip flash, TCMs, scratch, Deep Store and LPDDR5X bytes that differ from what an unlisted address reads as (06 R155) -/
  bytes : List Host.Cell := []
  /-- Deep Store channels (06 R159) -/
  ds : Tab DsChan := []
  /-- Condition of each Type Case way; cache at reset (06 R163) -/
  way : Tab WayMode := []
  /-- Lines held in the Type Case (06 R162) -/
  lines : List TcLine := []
  /-- Both tag copies of a line have failed: no allocation until reset (06 R171) -/
  tagLoss : Bool := false
  /-- Usable LPDDR5X bytes from its base; 0 where the range is unmapped (06 R166) -/
  lpUsable : Nat := 0
  /-- INLINE_ECC (06 R166) -/
  lpInline : Bool := false
  /-- The range is unavailable after a failed training (06 R168) -/
  lpFailed : Bool := false
  /-- Poisoned LPDDR5X words, as byte address / 8 (06 R170) -/
  lpPoison : List Nat := []
  /-- Accesses that wait for a channel, in order (06 R181) -/
  waiting : List WaitingAccess := []
  deriving DecidableEq, Repr

/-- One ring descriptor, with the claims outstanding on it (07 Table 7-2, R188). -/
structure Ring where
  /-- OWNER (07 Table 7-2) -/
  owner : Nat := 0
  /-- CLASS (07 Table 7-2) -/
  cls : Nat := 0
  /-- POLICY: 0 block, 1 drop-new, 2 drop-oldest (07 Table 7-2) -/
  policy : Nat := 0
  /-- VALID (07 Table 7-2) -/
  valid : Bool := false
  /-- DAMAGED (07 Table 7-2) -/
  damaged : Bool := false
  /-- SIZE_LOG2 (07 Table 7-2) -/
  sizeLog2 : Nat := 0
  /-- REC_LOG2 (07 Table 7-2) -/
  recLog2 : Nat := 0
  /-- PQ_EN (07 Table 7-2) -/
  pqEn : Bool := false
  /-- CQ_EN (07 Table 7-2) -/
  cqEn : Bool := false
  /-- BASE (07 Table 7-2) -/
  base : Nat := 0
  /-- HEAD (07 Table 7-2) -/
  head : Nat := 0
  /-- CLAIM (07 Table 7-2) -/
  claim : Nat := 0
  /-- TAIL (07 Table 7-2) -/
  tail : Nat := 0
  /-- PQUOIN (07 Table 7-2) -/
  pquoin : Nat := 0
  /-- CQUOIN (07 Table 7-2) -/
  cquoin : Nat := 0
  /-- HIGH_WATER (07 Table 7-2) -/
  high : Nat := 0
  /-- Requester that holds the uncommitted claims (07 R188) -/
  producer : Option Requester := none
  /-- Ends of the uncommitted claims, oldest first (07 R187) -/
  ends : List Nat := []
  deriving DecidableEq, Repr

/-- A claim that waits at the Ring Table (07 R191). -/
structure BlockedClaim where
  /-- Ring (07 R191) -/
  ring : Nat := 0
  /-- Requester (07 R191) -/
  req : Requester := .gk
  /-- Length (07 R191) -/
  len : Nat := 0
  deriving DecidableEq, Repr

/-- One quoin entry (07 Table 7-4). -/
structure Quoin where
  /-- OWNER (07 Table 7-4) -/
  owner : Nat := 0
  /-- VALID (07 Table 7-4) -/
  valid : Bool := false
  /-- NOTIFY (07 Table 7-4) -/
  notify : Bool := false
  /-- DAMAGED (07 Table 7-4) -/
  damaged : Bool := false
  /-- COUNT (07 Table 7-4) -/
  count : Nat := 0
  deriving DecidableEq, Repr

/-- One parked wait (07 R197). -/
structure Parked where
  /-- The neural core or the Roster (07 R197) -/
  who : Requester := .gk
  /-- Quoin (07 R197) -/
  quoin : Nat := 0
  /-- Threshold (07 R197) -/
  thresh : Nat := 0
  deriving DecidableEq, Repr

/-- One station's notification queue (07 R198, Table 7-8). -/
structure NotifyQ where
  /-- Quoin numbers, oldest first (07 R198) -/
  q : List Nat := []
  /-- OVF; EV-1604 is raised once until it is read (07 R198) -/
  ovf : Bool := false
  deriving DecidableEq, Repr

/-- The Ring Table and its waiting claims (07). -/
structure Rings where
  /-- Descriptors (07 R183) -/
  ring : Tab Ring := []
  /-- Waiting claims, oldest first (07 R191) -/
  blocked : List BlockedClaim := []
  /-- RG_RES: hart h at h, function f at 4 + f, pressroom hart p at 36 + p (07 Table 7-8) -/
  res : Tab Nat := []
  deriving DecidableEq, Repr

/-- The quoin store (07). -/
structure Quoins where
  /-- Entries (07 R195) -/
  quoin : Tab Quoin := []
  /-- Parking places in use (07 R197) -/
  parked : List Parked := []
  /-- Notification queues (07 R198) -/
  nfy : Tab NotifyQ := []
  /-- QN_RES: hart h at h, function f at 4 + f, pressroom hart p at 36 + p (07 Table 7-8) -/
  res : Tab Nat := []
  deriving DecidableEq, Repr

/-- One run of a Stream job whose data has not been written yet (07 R200, R201). -/
structure StreamRun where
  /-- Contiguous pieces of the source: offset from the source start and bytes (07 R200) -/
  pieces : List (Nat × Nat) := []
  /-- Galley offset of its first byte (07 R201) -/
  dest : Nat := 0
  deriving DecidableEq, Repr

/-- The Stream job of a core (07 R190, R200-R202). -/
structure StreamJob where
  /-- SRC_IS_RING (08 Table 8-7) -/
  isRing : Bool := false
  /-- Base address, or ring number (08 Table 8-7) -/
  src : Nat := 0
  /-- Latched BASE of the source ring (07 R190) -/
  base : Nat := 0
  /-- Latched size of the source ring (07 R190) -/
  size : Nat := 0
  /-- Index ring (08 Table 8-7) -/
  iring : Nat := 0
  /-- Latched BASE of the index ring (07 R190) -/
  ibase : Nat := 0
  /-- Latched size of the index ring (07 R190) -/
  isize : Nat := 0
  /-- Ring position of the next index entry (07 R201) -/
  pos : Nat := 0
  /-- COUNT; 0 is until END (08 Table 8-7) -/
  count : Nat := 0
  /-- Entries taken (07 R201) -/
  taken : Nat := 0
  /-- DEST (08 Table 8-7) -/
  dest : Nat := 0
  /-- Completion quoin (08 Table 8-7) -/
  quoin : Nat := 0
  /-- Runs whose reads are outstanding (07 R201) -/
  runs : List StreamRun := []
  /-- No further entry is taken (07 R201) -/
  done : Bool := false
  deriving DecidableEq, Repr

/-- A tile drain that waits (08 R212, R217). -/
structure Drain where
  /-- Array (08 R217) -/
  array : Nat := 0
  /-- Plane (08 R212) -/
  plane : Nat := 0
  /-- P-Forme slot (08 R217) -/
  slot : Nat := 0
  deriving DecidableEq, Repr

/-- A forme or galley range that an engine has not been synchronised with (08 R219). -/
structure Touch where
  /-- Bit of SYNC's MASK (08 Table 8-7) -/
  engine : Nat := 0
  /-- 0 galley, 1 W-Forme, 2-5 A-Formes, 6 V-Forme (banked formes: offset within the bank) (08 R215) -/
  space : Nat := 0
  /-- First byte (08 R219) -/
  first : Nat := 0
  /-- Bytes (08 R219) -/
  len : Nat := 0
  /-- Written (08 R219) -/
  write : Bool := false
  deriving DecidableEq, Repr

/-- One neural core (08). -/
structure NeuralCore where
  /-- STATE (08 R233) -/
  state : CoreState := .testing
  /-- REASON (08 Table 8-8) -/
  reason : Nat := 0
  /-- Station of the running or last slug (08 Table 8-9) -/
  station : Nat := 0
  /-- A slug has run since the start-up test (08 R222) -/
  ran : Bool := false
  /-- Command list address of the running or last slug (08 Table 8-9) -/
  list : Nat := 0
  /-- Window slots in use (10 R264) -/
  slots : Nat := 0
  /-- Number of the next command (08 R219) -/
  pc : Nat := 0
  /-- Reference time of the first command dispatch (08 R224) -/
  started : Option Nat := none
  /-- END has been executed (08 R223) -/
  ended : Bool := false
  /-- NC_FAULT CAUSE (08 Table 8-9) -/
  cause : Nat := 0
  /-- NC_FAULT STATION (08 Table 8-9) -/
  faultSt : Nat := 0
  /-- NC_FAULT command number (08 Table 8-9) -/
  faultCmd : Nat := 0
  /-- Stride table (08 Table 8-9) -/
  stride : Tab Nat := []
  /-- NC_STRIDE_VALID (08 Table 8-9) -/
  strideOk : Nat := 0
  /-- Owner of each granule; S0 at reset (08 R208) -/
  granule : Tab Nat := []
  /-- Galley bytes other than 0 (08 R208) -/
  galley : List Host.Cell := []
  /-- W-Forme bytes other than 0, at bank × 2,048 + offset (08 R215) -/
  wForme : List Host.Cell := []
  /-- A-Forme bytes other than 0, at bank × 1,024 + offset (08 R215) -/
  aForme : Tab (List Host.Cell) := []
  /-- V-Forme bytes other than 0 (08 R215) -/
  vForme : List Host.Cell := []
  /-- P-Forme slots, entry 32 × row + column (08 R215) -/
  pSlot : Tab (Tab Int) := []
  /-- Slots that are FULL (08 R217) -/
  pFull : Nat := 0
  /-- Accumulator planes, plane p of array m at 2m + p, entry 32 × row + column (08 R212) -/
  plane : Tab (Tab Int) := []
  /-- Plane that each array used last (08 R212) -/
  cur : Tab Nat := []
  /-- Tiles that wait to drain, oldest first (08 R212) -/
  drains : List Drain := []
  /-- Stream job (07 R200) -/
  job : Option StreamJob := none
  /-- The sequencer waits for a parked WAIT or a blocked CLAIM (07 R197) -/
  waiting : Bool := false
  /-- Uncommitted CLAIMs, newest first: ring, start, length (08 Table 8-7) -/
  claims : List (Nat × Nat × Nat) := []
  /-- MATMUL commands queued at the arrays, oldest first (08 R219) -/
  mats : List Nat := []
  /-- POST commands queued (08 R219) -/
  posts : List Nat := []
  /-- STREAM commands queued (08 R219) -/
  strms : List Nat := []
  /-- Ranges of engines not synchronised since (08 R219) -/
  touched : List Touch := []
  /-- The slug's results are undefined from here on (08 R219) -/
  racy : Bool := false
  /-- RETIRE is written and waits for the slug's end (08 R229) -/
  retire : Bool := false
  /-- Reference time from which the test period counts (08 R227) -/
  testBase : Nat := 0
  /-- EV-1706 has been raised for this wait (08 R227) -/
  deferred : Bool := false
  deriving DecidableEq, Repr

/-- The neural fabric (08). -/
structure Neural where
  /-- NQ0-NQ7, ND0-ND7 (08 R207) -/
  core : Tab NeuralCore := []
  /-- LAST_TEST (08 Table 8-8) -/
  lastTest : Nat := 0
  /-- Cores under the full test (08 R228) -/
  testing : Nat := 0
  /-- Cores that failed it so far (08 R228) -/
  failed : Nat := 0
  deriving DecidableEq, Repr

/-- One sequence entry (10 Table 10-5). -/
structure SeqEntry where
  /-- STATE (10 Table 10-5) -/
  state : SeqState := .free
  /-- STATION (10 Table 10-5) -/
  station : Nat := 0
  /-- PACKAGE (10 Table 10-5) -/
  package : Nat := 0
  /-- VARIANT (10 Table 10-5) -/
  variant : Nat := 0
  /-- STEP (10 Table 10-5) -/
  step : Nat := 0
  /-- WINDOW (10 Table 10-5) -/
  window : Nat := 0
  /-- TAG (10 Table 10-5) -/
  tag : Nat := 0
  /-- IMPRESSION (10 Table 10-5) -/
  imp : Nat := 0
  /-- DEADLINE (10 Table 10-5) -/
  deadline : Nat := 0
  /-- HOME_CORE (10 Table 10-5) -/
  homeCore : Nat := 0
  /-- HOME_SLOT (10 Table 10-5) -/
  homeSlot : Nat := 0
  /-- HOME_VALID (10 Table 10-5) -/
  homeValid : Bool := false
  /-- CUE (10 Table 10-5) -/
  cue : Nat := 0
  /-- Parts of the current step not yet placed (PARTS_LEFT is their number) (10 Table 10-5) -/
  partsLeft : List Nat := []
  /-- PARTS_RUN (10 Table 10-5) -/
  partsRun : Nat := 0
  /-- RERUN (10 Table 10-5) -/
  rerun : Bool := false
  /-- Parts placed again after a lost slug, which run with form 0 (10 R271) -/
  again : List Nat := []
  /-- REC_RING (10 Table 10-5) -/
  recRing : Nat := 0
  /-- REC_START (10 Table 10-5) -/
  recStart : Nat := 0
  /-- Core and start of the carry record of each part of the previous step (10 R259) -/
  carry : Tab (Nat × Nat) := []
  /-- The same for the parts of the current step that have completed (10 R259) -/
  carryNew : Tab (Nat × Nat) := []
  /-- Model of the window (10 R262) -/
  model : Nat := 0
  /-- Window slot in the batch of the current step (10 R262) -/
  slot : Nat := 0
  /-- Batch of the current step, 0 before its first part is placed (10 R262) -/
  batch : Nat := 0
  deriving DecidableEq, Repr

/-- The slug that the Roster placed on a core (10 R262-R265). -/
structure Slug where
  /-- A slug is placed (10 R264) -/
  on : Bool := false
  /-- Station (10 R264) -/
  station : Nat := 0
  /-- Package slot (10 R262) -/
  package : Nat := 0
  /-- Variant (10 R262) -/
  variant : Nat := 0
  /-- Model (10 R262) -/
  model : Nat := 0
  /-- Step (10 R262) -/
  step : Nat := 0
  /-- Part (10 R262) -/
  part : Nat := 0
  /-- Window slots in use and their sequence entries (10 R262) -/
  seqs : List (Nat × Nat) := []
  /-- The step is LAST (10 Table 10-4) -/
  last : Bool := false
  /-- Start of the next claim in CR (10 R264) -/
  crStart : Nat := 0
  /-- Start of the next claim in VR (10 R264) -/
  vrStart : Nat := 0
  deriving DecidableEq, Repr

/-- What the Roster has installed in a cue entry (10 R266). -/
structure CueUse where
  /-- The Roster holds the entry (10 R266) -/
  used : Bool := false
  /-- Station (10 R266) -/
  station : Nat := 0
  /-- Impression index (10 R266) -/
  imp : Nat := 0
  /-- It is its group's first trigger (10 R266) -/
  first : Bool := false
  /-- A kick (10 R266) -/
  kick : Bool := false
  /-- Channel line of a trigger, window of a kick (10 R266) -/
  line : Nat := 0
  /-- POS (10 R266) -/
  pos : Nat := 0
  /-- Variant that its impression took at the crossing of its first trigger (10 R271) -/
  variant : Nat := 255
  /-- An install of its group has been refused (10 R266) -/
  refused : Bool := false
  deriving DecidableEq, Repr

/-- A window record in use (10 R261). -/
structure WinRec where
  /-- Ring (10 R261) -/
  ring : Nat := 0
  /-- Record start (10 R261) -/
  start : Nat := 0
  /-- Record length (10 R261) -/
  len : Nat := 0
  /-- Sequence entry that uses it (10 R261) -/
  seq : Nat := 0
  /-- That sequence has not ended (10 R261) -/
  open_ : Bool := true
  deriving DecidableEq, Repr

/-- One station's chain of cue groups (10 R266, R271). -/
structure Chain where
  /-- Impression index of the group installed last (10 R266) -/
  imp : Option Nat := none
  /-- Variant in force, FFh none (10 R257) -/
  variant : Nat := 255
  /-- Variant that applies from the next forward boundary, and the impression index at which it was chosen (10 R271) -/
  next : Option (Nat × Nat) := none
  /-- The spacing has been loaded since the link came up or admission was enabled (10 R267) -/
  loaded : Bool := false
  /-- Admission stopped by a fence or by tag loss until the station is set up again (06 R173) -/
  fenced : Bool := false
  deriving DecidableEq, Repr

/-- A window record that an image pipeline has released to the Roster (10 R260, 04 R117). -/
structure Released where
  /-- Intake channel (10 R260) -/
  channel : Nat := 0
  /-- Window (10 R260) -/
  window : Nat := 0
  /-- Ring (10 R260) -/
  ring : Nat := 0
  /-- Record start (10 R260) -/
  start : Nat := 0
  /-- Record length (10 R261) -/
  len : Nat := 0
  /-- Impression index (10 R259) -/
  imp : Nat := 0
  deriving DecidableEq, Repr

/-- The speed ceiling of one web clock (02 R67-R69). -/
structure Ceiling where
  /-- Published ceiling, ticks/s (02 R69) -/
  value : Nat := 0
  /-- REASON (02 Table 2-6) -/
  reason : Nat := 0
  /-- A higher ceiling computed continuously (02 R68) -/
  higher : Option Nat := none
  /-- Reference time from which it has been computed (02 R68) -/
  since : Nat := 0
  deriving DecidableEq, Repr

/-- The Roster and the speed ceilings (10, 02 R67-R69). -/
structure Roster where
  /-- Sequence entries (10 R259) -/
  seq : Tab SeqEntry := []
  /-- Slug placed on each core (10 R264) -/
  slug : Tab Slug := []
  /-- Weight set last carried on a core by a station, plus 1, keyed core × 32 + station (10 R263) -/
  wset : Tab Nat := []
  /-- Cue entries that the Roster has installed (10 R266) -/
  cue : Tab CueUse := []
  /-- Window records in use, in TAIL order per ring (10 R261) -/
  wins : List WinRec := []
  /-- Windows released and not yet given a sequence (10 R260) -/
  rel : List Released := []
  /-- Batches formed so far (the MODEL's own field) (none) -/
  batches : Nat := 0
  /-- Each station's chain and variant (10 R266) -/
  chain : Tab Chain := []
  /-- Core map: live cores as the Roster knows them (10 R256) -/
  live : Nat := 0
  /-- The step cycle runs (10 R278) -/
  started : Bool := false
  /-- Slugs in the last make-up list (10 Table 10-8) -/
  makeup : Nat := 0
  /-- RST_SEQ_SEL (10 Table 10-8) -/
  seqSel : Nat := 0
  /-- Ceilings (02 R69) -/
  ceiling : Tab Ceiling := []
  deriving DecidableEq, Repr

/-- The Referee (11). -/
structure Referee where
  /-- REF_HART0-3; S0 at reset (11 Table 11-11) -/
  hart : Tab Nat := []
  /-- Log entries as words of Table 11-7 (11 R289) -/
  log : Tab Nat := []
  /-- Index of the newest entry (DESIGN CHOICE 11: entry 0 is written first) (11 R289) -/
  head : Nat := 63
  /-- SEQ of the newest entry (11 R289) -/
  seq : Nat := 0
  /-- Entries written since reset, saturating at 64 (11 Table 11-11) -/
  written : Nat := 0
  deriving DecidableEq, Repr

/-- One station but for its object values (11 R290). -/
structure Station where
  /-- STATE (11 Table 11-8) -/
  state : StationState := .empty
  deriving DecidableEq, Repr

/-- One package slot (16 R403, R404). -/
structure Package where
  /-- STATION (16 Table 16-13) -/
  station : Nat := 0
  /-- LOAD_BASE (16 Table 16-13) -/
  base : Nat := 0
  /-- STATE (16 R403) -/
  state : PkgState := .empty
  /-- SIZE (16 Table 16-13) -/
  size : Nat := 0
  /-- RESULT (16 R403) -/
  result : Nat := 0
  /-- Function through which its image was loaded; 0 for PF0 and every other path (12 R307) -/
  via : Nat := 0
  deriving DecidableEq, Repr

/-- One open expectation (04 R112, R114). -/
structure Expect where
  /-- Impression index of the cue (04 R112) -/
  imp : Nat := 0
  /-- TAG of the cue (04 R112) -/
  tag : Nat := 0
  /-- POS of the cue (04 R112) -/
  pos : Nat := 0
  /-- Web clock of the cue (04 R114) -/
  wc : Nat := 0
  /-- Reference time of the CUE_RESULT (04 R114) -/
  opened : Nat := 0
  /-- It saw an ACK edge (04 R120) -/
  ack : Bool := false
  /-- A TEST pulse opened it (04 R120) -/
  test : Bool := false
  /-- It carries the frame in progress (04 R113) -/
  paired : Bool := false
  deriving DecidableEq, Repr

/-- One virtual channel of the frame in progress (04 R110, R116). -/
structure Member where
  /-- Its VC slot (04 R118) -/
  slot : Nat := 0
  /-- Frame number of its FS (04 R108) -/
  fn : Nat := 0
  /-- Lines of the right length kept (04 R116) -/
  lines : Nat := 0
  /-- Lines received, excess included (04 R118) -/
  rx : Nat := 0
  /-- Its FE has been received (04 R110) -/
  fe : Bool := false
  /-- Lines beyond LINES were discarded (04 R116) -/
  excess : Bool := false
  /-- Bytes of its lines on their way to the rings (04 R117) -/
  rows : List (List (BitVec 8)) := []
  deriving DecidableEq, Repr

/-- Ring space claimed for one window of the frame in progress (05 R145). -/
structure WinClaim where
  /-- Crop entry (05 R143) -/
  entry : Nat := 0
  /-- Ring (05 R145) -/
  ring : Nat := 0
  /-- Record start (05 R145) -/
  start : Nat := 0
  /-- Record length (05 R145) -/
  len : Nat := 0
  deriving DecidableEq, Repr

/-- The frame in progress on a channel (04 R113-R117). -/
structure FrameIn where
  /-- Its members by virtual channel (04 R110) -/
  mem : Tab Member := []
  /-- The expectation it is paired with (04 R113) -/
  exp : Option Expect := none
  /-- Microsecond count at PRIMARY frame start (04 R118) -/
  fsTime : Nat := 0
  /-- Lines that every member has given (05 R145) -/
  done : Nat := 0
  /-- Ring space claimed for its windows (05 R145) -/
  claims : List WinClaim := []
  /-- It has no valid temporal reference (05 R137) -/
  noRef : Bool := false
  /-- It has been counted in 2840h + n:03 (05 R137) -/
  missed : Bool := false
  deriving DecidableEq, Repr

/-- A patch window's verdict on its way to the Roster (05 R148). -/
structure PatchVerdict where
  /-- Station (05 R148) -/
  station : Nat := 0
  /-- Impression index (05 R148) -/
  imp : Nat := 0
  /-- Window (05 R148) -/
  window : Nat := 0
  /-- FAIL, else PASS (05 R148) -/
  fail : Bool := false
  deriving DecidableEq, Repr

/-- One queued SCP word or CCI transaction (04 R124). -/
structure SerialEntry where
  /-- The word written to IC_SCP_TX or IC_CCI_CMD (04 Table 4-12) -/
  word : Nat := 0
  /-- SYNC = 1 and no PRIMARY frame has closed since it was written (04 R123) -/
  held : Bool := false
  deriving DecidableEq, Repr

/-- One intake channel with its serial ports (04). -/
structure Channel where
  /-- STATE (04 R126) -/
  state : ChanState := .off
  /-- LAST_STATUS (04 Table 4-11) -/
  lastStatus : Nat := 0
  /-- Open expectations, oldest first (04 R112) -/
  exps : List Expect := []
  /-- Frame in progress (04 R113) -/
  frame : Option FrameIn := none
  /-- Consecutive expectations closed NO_FS (04 R115) -/
  silent : Nat := 0
  /-- EV-1303 has been raised in this run (04 R115) -/
  silentUp : Bool := false
  /-- LANE_STUCK, and CLK_STUCK in bit 4 (04 R131) -/
  stuck : BitVec 5 := 0
  /-- DESKEWED (04 R106) -/
  deskewed : Bool := false
  /-- Reference times of the LINE_LENGTH drops within the last second (04 R116) -/
  lenTimes : List Nat := []
  /-- Reference times of the PHY errors within the last millisecond (04 R108) -/
  phyTimes : List Nat := []
  /-- Pixels in the receive buffer after the last line (04 R119) -/
  buf : Rat := 0
  /-- An ACK edge has come while no expectation waited for one (04 R120) -/
  ackPend : Bool := false
  /-- IC_XTRIG_CAP (04 Table 4-12) -/
  cap : BitVec 56 := 0
  /-- IC_XTRIG_TIME (04 Table 4-12) -/
  capTime : BitVec 32 := 0
  /-- IC_XTRIG.PERIOD, 100 µs (04 Table 4-12) -/
  xtPeriod : Nat := 0
  /-- IC_XTRIG.WIDTH, µs (04 Table 4-12) -/
  xtWidth : Nat := 0
  /-- Reference time at which the last TEST pulse ends (04 R120) -/
  xtUntil : Nat := 0
  /-- Words queued at the SCP, oldest first (04 R123) -/
  scpTx : List SerialEntry := []
  /-- Word that the SCP is sending (04 R123) -/
  scpRun : Option Nat := none
  /-- SCP results (04 R123) -/
  scpRx : List (BitVec 32) := []
  /-- IC_STATUS.SCP_OVF (04 R123) -/
  scpOvf : Bool := false
  /-- Transactions queued at the CCI, oldest first (04 R124) -/
  cciTx : List SerialEntry := []
  /-- Transaction in progress (04 R124) -/
  cciRun : Option Nat := none
  /-- CCI results (04 R124) -/
  cciRx : List (BitVec 64) := []
  /-- IC_STATUS.CCI_HALT (04 R125) -/
  cciHalt : Bool := false
  /-- A reset by COMMAND = 1 runs (04 R127) -/
  resetting : Bool := false
  /-- Patch verdicts on their way to the Roster (05 R148) -/
  verdicts : List PatchVerdict := []
  deriving DecidableEq, Repr

/-- One image pipeline with its Patch Meter; the shadow set is the dictionary's value of 2300h + n and 2320h:(n + 1) (05 R150). -/
structure Pipeline where
  /-- Active set (05 R150) -/
  act : Cfg := {}
  /-- Set that becomes active at the next PRIMARY frame start (05 R150) -/
  pend : Option Cfg := none
  /-- ISP_STATUS.ACTIVE_SET (05 Table 5-13) -/
  sel : Bool := false
  /-- Windows written in the last frame (05 Table 5-13) -/
  written : Nat := 0
  /-- The channel's previous closure was GOOD or TRUNCATED since ENABLE = 1 (05 R137) -/
  refOk : Bool := false
  /-- PM_STATUS.VALID (05 Table 5-13) -/
  pmValid : Bool := false
  /-- Patches not OK in the last frame (05 Table 5-13) -/
  pmBad : Nat := 0
  /-- Patches judged in the last frame (05 Table 5-13) -/
  pmJudged : Nat := 0
  deriving DecidableEq, Repr

/-- What the machine last answered on each kind of interface (the MODEL's own record; no rule reads it). -/
structure Out where
  /-- Value of the last EVC claim (13 Table 13-3) -/
  claim : BitVec 32 := 0
  /-- Answer of the last dictionary request or register access of a row of its own (16 R391) -/
  resp : Option Resp := none
  /-- The last configuration request got Configuration Request Retry Status (12 R320) -/
  retry : Bool := false
  /-- Data of the last fabric or register read (06 R157) -/
  rdata : List (BitVec 8) := []
  /-- The last access got an error response (06 R157) -/
  err : Bool := false
  /-- The last CSR access raised an illegal instruction exception (13 R329) -/
  illegal : Bool := false
  deriving DecidableEq, Repr

/-- The whole machine. -/
structure State where
  /-- Time bases (01 R29) -/
  clk : Clocks := {}
  /-- Field die (03 R73) -/
  fd : FieldDie := {}
  /-- Web clocks (02 R38) -/
  wc : Tab WebClock := []
  /-- Cue table (02 R58) -/
  cue : Cues := {}
  /-- Compute side of the Field Link (03 R91) -/
  link : Link := {}
  /-- Counters, events, EVC, EMCY (00 R13) -/
  rep : Reporting := {}
  /-- CAN ports (15 R361) -/
  can : Tab CanPort := []
  /-- Power (14 R347) -/
  pwr : Power := {}
  /-- Intake channels (04 R103) -/
  ic : Tab Channel := []
  /-- Image pipelines (05 R132) -/
  isp : Tab Pipeline := []
  /-- Host side (12 R297) -/
  host : HostSide := {}
  /-- Boot (17 R412) -/
  boot : Boot := {}
  /-- Groundskeeper (18 R443) -/
  gk : Gk := {}
  /-- Dictionary (16 R386) -/
  od : Dict := {}
  /-- Memories (06 R155) -/
  mem : MemSys := {}
  /-- Ring Table (07 R183) -/
  rg : Rings := {}
  /-- Quoin store (07 R195) -/
  qn : Quoins := {}
  /-- Neural cores (08 R207) -/
  nc : Neural := {}
  /-- Roster and speed ceilings (10 R259) -/
  rs : Roster := {}
  /-- Referee (11 R289) -/
  ref : Referee := {}
  /-- Package slots (16 R403) -/
  pkg : Tab Package := []
  /-- Stations (11 R290) -/
  st : Tab Station := []
  /-- Last answers (the MODEL's own field) (none) -/
  out : Out := {}
  /-- Index of the next free value (the MODEL's own field) (none) -/
  free : Nat := 0
  /-- Commands that wait, first in, first out (the MODEL's own field) (none) -/
  pending : List Instr := []
  deriving DecidableEq, Repr

/-- The block gives every command an effect, so no fault is ever raised; the type has one name for the host's interface. -/
inductive Fault where
  /-- Raised by no meaning: the spec has no condition that stops the block. Safe: it is never answered. -/
  | none
  deriving DecidableEq, Repr

/-- Why a command has no meaning. -/
inductive Refusal where
  /-- Raised by an arm of exec whose meaning is not written yet; safe, since the machine stops. -/
  | notModelled (mnemonic : String)
  deriving DecidableEq, Repr

/-- The machine at reset: supplies up and PORST_N held low, so that the compute die is off, the field die powered and started, the Field Link down (14 R342, 02 R73, 11 R296).
Every field stands at the default of its structure, which is the value the spec gives for reset or one that a log entry names; memory lists nothing and no command waits. -/
def State.reset : State := {}

end Machine
end Sys2Proof
end

