-- ==== Sys2Proof/Machine/Ops.lean ====
section
/-!
DEFINITION. The operations that every family shares: time, dictionary values, counters, events, the Event Concentrator's
batches, memory, and the Field Link's message queues.
-/
namespace Sys2Proof
namespace Machine

/-! ### Numbers and bits -/

/-- Bits [lo + w - 1 : lo] of a natural number. -/
def bits (v lo w : Nat) : Nat := v / 2 ^ lo % 2 ^ w

/-- Bit `i` of a natural number. -/
def bit (v i : Nat) : Bool := v / 2 ^ i % 2 == 1

/-- The number with only bit `i` set, when `b` holds. -/
def bitIf (b : Bool) (i : Nat) : Nat := if b then 2 ^ i else 0

/-- A natural number read as a signed number of `w` bits. -/
def signed (v w : Nat) : Int := if v % 2 ^ w < 2 ^ (w - 1) then (v % 2 ^ w : Nat) else (v % 2 ^ w : Nat) - (2 ^ w : Nat)

/-- A signed number as a field of `w` bits. -/
def unsigned (v : Int) (w : Nat) : Nat := (v % (2 ^ w : Nat)).toNat

/-- Little-endian bytes of a number. -/
def leBytes : Nat → Nat → List Byte
  | 0, _ => []
  | n + 1, v => BitVec.ofNat 8 v :: leBytes n (v / 256)

/-- The number that little-endian bytes hold. -/
def leNat : List Byte → Nat
  | [] => 0
  | b :: r => b.toNat + 256 * leNat r

/-- `len` bytes of a list from offset `at_`, padded with zeros where the list ends. -/
def slice (b : List Byte) (at_ len : Nat) : List Byte :=
  let x := (b.drop at_).take len
  x ++ List.replicate (len - x.length) 0

/-- The little-endian number in `len` bytes at an offset. -/
def field (b : List Byte) (at_ len : Nat) : Nat := leNat (slice b at_ len)

/-- Replace the bytes of a list from an offset on. -/
def overlay (b : List Byte) (at_ : Nat) (x : List Byte) : List Byte :=
  b.take at_ ++ List.replicate (at_ - b.length) 0 ++ x ++ b.drop (at_ + x.length)

/-- Position P lies after position Q, modulo 2^w (00 R7). -/
def after (w p q : Nat) : Bool :=
  let d := (p + 2 ^ w - q % 2 ^ w) % 2 ^ w
  decide (1 ≤ d ∧ d ≤ 2 ^ (w - 1) - 1)

/-- Position P lies before position Q, modulo 2^w (00 R7). -/
def before (w p q : Nat) : Bool := decide (p % 2 ^ w ≠ q % 2 ^ w) && !after w p q

/-! ### Time -/

/-- XIN period count (00 R8, 16 Table 16-10). -/
def State.xin (s : State) : Nat := s.clk.ref / Config.psPerXin

/-- Microsecond count of the field die, 32 bits (02 R43, R58). -/
def State.fieldUs (s : State) : Nat := s.clk.field / Config.psPerUs % 2 ^ 32

/-- Whole microseconds of the XIN reference (13 R325). -/
def State.refUs (s : State) : Nat := s.clk.ref / Config.psPerUs

/-! ### Dictionary values -/

/-- Key of an entry: index × 256 + subindex. -/
def key (idx sub : Nat) : Nat := idx * 256 + sub

/-- A scalar entry, `d` where it was never changed (16 R386). -/
def Cfg.get (c : Cfg) (idx sub d : Nat) : Nat := c.num.at d (key idx sub)

/-- Set a scalar entry. -/
def Cfg.set (c : Cfg) (idx sub v : Nat) : Cfg := { c with num := c.num.put (key idx sub) v }

/-- A DOMAIN entry, empty where it was never written (16 R387). -/
def Cfg.dom? (c : Cfg) (idx sub : Nat) : List Byte := c.dom.at [] (key idx sub)

/-- Set a DOMAIN entry. -/
def Cfg.setDom (c : Cfg) (idx sub : Nat) (b : List Byte) : Cfg := { c with dom := c.dom.put (key idx sub) b }

/-- A scalar entry of the compute die's dictionary. -/
def State.num (s : State) (idx sub d : Nat) : Nat := s.od.cfg.get idx sub d

/-- Set a scalar entry of the compute die's dictionary. -/
def State.setNum (s : State) (idx sub v : Nat) : State :=
  { s with od := { s.od with cfg := s.od.cfg.set idx sub v } }

/-- A scalar entry held on the field die (03 R102). -/
def State.fnum (s : State) (idx sub d : Nat) : Nat := s.fd.cfg.get idx sub d

/-! ### Counters, events and the Event Concentrator's batches -/

/-- What reporting reads of the rest of the machine: the reference time, which ports take an EMCY, which discard it, and which MSI-X vectors can be sent. -/
structure Env where
  ref : Nat
  emcyOk : Nat → Bool
  emcyLost : Nat → Bool
  msixOk : Nat → Bool

/-- EMCY error code of an event, 0 where Table 16-16 gives none (16 R410). -/
def emcyTable : List (Nat × Nat) :=
  [(0x1001, 0x7300), (0x1002, 0x7300), (0x1003, 0x7300), (0x1004, 0x7300), (0x1006, 0x7300), (0x1007, 0xFF00),
   (0x1009, 0x7300), (0x100A, 0xFF00), (0x100D, 0x7300), (0x1101, 0x3100), (0x1102, 0x3120), (0x1103, 0x3110),
   (0x1104, 0x7300), (0x1105, 0x7300), (0x1106, 0x7300), (0x1107, 0x2300), (0x1108, 0x2320), (0x1109, 0x2320),
   (0x110A, 0x2300), (0x110B, 0x2320), (0x110C, 0x4200), (0x110D, 0xFF00), (0x110E, 0x8100), (0x110F, 0x5000),
   (0x1201, 0x5000), (0x1202, 0xFF00), (0x1203, 0x5000), (0x1204, 0x5000), (0x1301, 0x5000), (0x1303, 0x9000),
   (0x1304, 0x9000), (0x1305, 0x9000), (0x1306, 0x9000), (0x1401, 0x5000), (0x1501, 0x5000), (0x1502, 0x5000),
   (0x1503, 0x5000), (0x1504, 0x5000), (0x1505, 0x5000), (0x1506, 0x5000), (0x1507, 0x5000), (0x1508, 0x5000),
   (0x1601, 0x6000), (0x1602, 0x6000), (0x1603, 0x6000), (0x1701, 0x5000), (0x1702, 0x5000), (0x1703, 0xFF00),
   (0x1704, 0x6000), (0x1705, 0x6000), (0x1801, 0xFF00), (0x1802, 0xFF00), (0x1803, 0xFF00), (0x1804, 0xFF00),
   (0x1805, 0xFF00), (0x1806, 0xFF00), (0x1807, 0xFF00), (0x1901, 0x6000), (0x1A01, 0x8100), (0x1A03, 0x8100),
   (0x1A08, 0x6000), (0x1B01, 0x6000), (0x1C01, 0x3200), (0x1C02, 0x3200), (0x1D01, 0x8120), (0x1D03, 0x8140),
   (0x1D06, 0x8110), (0x1D07, 0x8130), (0x1E01, 0x6000), (0x1E02, 0x6000), (0x1E03, 0xFF00), (0x1E05, 0xFF00),
   (0x1E07, 0xFF00), (0x1E08, 0xFF00), (0x1E0C, 0x5000), (0x1F01, 0xFF00), (0x1F04, 0x4200), (0x1F05, 0xFF00),
   (0x1F06, 0x5000), (0x1F07, 0xFF00)]

/-- EMCY error code of an event; an error code the raising rule chose comes first. -/
def emcyCode (e : Ev) : Nat := if e.err ≠ 0 then e.err else Tab.at 0 emcyTable e.code

/-- PRIO of an EVC_SRC register (13 Table 13-6). -/
def srcPrio (w : BitVec 64) : Nat := bits w.toNat 0 4
/-- TARGET of an EVC_SRC register. -/
def srcTarget (w : BitVec 64) : Nat := bits w.toNat 4 6
/-- EDGE of an EVC_SRC register. -/
def srcEdge (w : BitVec 64) : Nat := bits w.toNat 12 3
/-- WAKE of an EVC_SRC register. -/
def srcWake (w : BitVec 64) : Bool := bit w.toNat 15
/-- RING of an EVC_SRC register. -/
def srcRing (w : BitVec 64) : Nat := bits w.toNat 16 16
/-- TIME of an EVC_SRC register, µs. -/
def srcTime (w : BitVec 64) : Nat := bits w.toNat 32 16
/-- COUNT of an EVC_SRC register, 0 taken as 1 (13 R325). -/
def srcCount (w : BitVec 64) : Nat := max 1 (bits w.toNat 48 8)
/-- FILTER of an EVC_SRC register, 0 taken as 1 (13 R340). -/
def srcFilter (w : BitVec 64) : Nat := max 1 (bits w.toNat 56 8)

/-- Configuration of a source. -/
def Evc.cfg (e : Evc) (id : Nat) : BitVec 64 := e.src.at 0 id
/-- State of a source. -/
def Evc.state (e : Evc) (id : Nat) : SrcState := e.st.at {} id
/-- A target. -/
def Evc.target (e : Evc) (t : Nat) : EvcTarget := e.tgt.at {} t
/-- An external line. -/
def Evc.ext (e : Evc) (n : Nat) : ExtLine := e.line.at {} n

/-- Reserved source IDs, which are never pending (13 R321). -/
def evcReserved (id : Nat) : Bool := decide ((199 ≤ id ∧ id ≤ 255) ∨ (288 ≤ id ∧ id ≤ 511) ∨ 1055 < id)

/-- The source is an external line in a level mode (13 R324). -/
def Evc.levelMode (e : Evc) (id : Nat) : Bool := decide (1024 ≤ id) && decide (3 ≤ srcEdge (e.cfg id))

/-- Priority at the top of a target's stack, 0 when empty (13 R327). -/
def EvcTarget.top (t : EvcTarget) : Nat := match t.stack with | [] => 0 | (_, p) :: _ => p

/-- The source is a candidate for the target (13 R327, R332). -/
def Evc.candidate (e : Evc) (t id : Nat) : Bool :=
  let c := e.cfg id
  (e.state id).pending && !(e.state id).inService && decide (srcTarget c = t)
    && decide (0 < srcPrio c) && decide ((e.target t).thresh < srcPrio c)
    && decide ((e.target t).top < srcPrio c) && !(e.target t).frozen

/-- The candidate offered first: highest PRIO, then lowest ID (13 R327). -/
def Evc.best (e : Evc) (t : Nat) : Option Nat :=
  (e.st.map Prod.fst).foldl (fun b id =>
    if e.candidate t id then
      match b with
      | none => some id
      | some j => if srcPrio (e.cfg j) < srcPrio (e.cfg id) then some id else some j
    else b) none

/-- The target is signalled (13 R327, R333). -/
def Evc.signal (e : Evc) (t : Nat) : Bool :=
  (e.target t).frozen || (e.target t).tagLoss || (e.best t).isSome

/-- Add 1 to a counter, which sticks at 0xFFFF_FFFF; reaching it makes EV-1F01 due (00 R13, R16). -/
def Reporting.bump (r : Reporting) (idx sub : Nat) : Reporting :=
  let v := r.cnt.at 0 (key idx sub)
  if v = 0xFFFFFFFF then r
  else
    { r with
      cnt := r.cnt.put (key idx sub) (v + 1)
      due := if v + 1 = 0xFFFFFFFF
        then r.due ++ [{ code := 0x1F01, detail := idx * 2 ^ 16 + sub * 2 ^ 8 }] else r.due }

/-- Make an event due unless it was raised for its scope within the last second (00 R482). -/
def Reporting.limited (r : Reporting) (now : Nat) (scope : Nat) (e : Ev) : Reporting :=
  let last := r.stamps.at 0 (e.code * 65536 + scope)
  if last ≠ 0 ∧ now < last - 1 + Config.psPerS then r
  else { r with stamps := r.stamps.put (e.code * 65536 + scope) (now + 1), due := r.due ++ [e] }

/-- Evaluate whether a target is signalled; a vector sends or holds one message at each change to signalled (13 R328, R334). -/
def Reporting.evaluate (r : Reporting) (env : Env) (t : Nat) : Reporting :=
  let tg := r.evc.target t
  let sig := r.evc.signal t
  let put (r : Reporting) (x : EvcTarget) : Reporting := { r with evc := { r.evc with tgt := r.evc.tgt.put t x } }
  if t ≥ 6 ∧ sig = true ∧ tg.signalled = false then
    if env.msixOk (t - 6) then
      { (put r { tg with signalled := true }).bump 0x28B0 5 with msixOut := r.msixOut + 1 }
    else if tg.held then put r { tg with signalled := true }
    else (put r { tg with signalled := true, held := true }).bump 0x28B0 7
  else put r { tg with signalled := sig }

/-- One occurrence of a source joins its batch (13 R325, R326). -/
def Reporting.occur (r : Reporting) (env : Env) (id : Nat) : Reporting :=
  if evcReserved id || r.evc.levelMode id then r
  else
    let c := r.evc.cfg id
    let x := r.evc.state id
    let n := if x.c ≥ 255 then 255 else x.c + 1
    let x' : SrcState :=
      { x with
        c := n
        timer := if x.c = 0 then some (env.ref / Config.psPerUs) else x.timer
        pending := x.pending || decide (srcCount c ≤ n) }
    let r := { r with evc := { r.evc with st := r.evc.st.put id x' } }
    let r := if x.c = 254 then (r.bump 0x28B0 4).limited env.ref 0 { code := 0x1B02 } else r
    r.evaluate env (srcTarget c)

/-- The same waiting EMCY: same event code and UNIT (16 R407). -/
def Emcy.same (a b : Emcy) : Bool := a.code == b.code && a.unit == b.unit

/-- Queue an EMCY: it takes the place of a waiting instance of its event code and UNIT (16 R407). -/
def queueEmcy (q : List Emcy) (m : Emcy) : List Emcy :=
  if q.any (·.same m) then q.map (fun x => if x.same m then m else x) else q ++ [m]

/-- Queue an EMCY at a port that takes it, and count it at a LONELY port (15 R367, R373, 16 R407). -/
def Reporting.emcyPort (r : Reporting) (env : Env) (m : Emcy) (p : Nat) : Reporting :=
  if env.emcyOk p then { r with emcy := r.emcy.upd [] p (queueEmcy · m) }
  else if env.emcyLost p then r.bump (0x28D0 + p) 7
  else r

/-- Enter one event: the log, the pre-defined error field, the EMCY queues and the event class source (13 R321, 16 R401, R407, R409). -/
def Reporting.enter (r : Reporting) (env : Env) (e : Ev) : Reporting :=
  let ent : LogEntry :=
    { seq := r.seq + 1, code := e.code, unit := e.unit, station := e.station,
      time := env.ref / Config.psPerXin, detail := e.detail }
  let r := { r with seq := r.seq + 1, log := (ent :: r.log).take 256 }
  let err := emcyCode e
  let r :=
    if err = 0 then r
    else
      let m : Emcy := { err := err, code := e.code, unit := e.unit, detail := e.detail % 65536 }
      (({ r with hist := ((e.code * 65536 + err) :: r.hist).take 8 }).emcyPort env m 0).emcyPort env m 1
  r.occur env (64 + (e.code / 256 - 0x10))

/-- Enter the events that are due, in order, once the log runs (16 R411). -/
def Reporting.drainN (env : Env) : Nat → Reporting → Reporting
  | 0, r => r
  | n + 1, r =>
    if r.running then
      match r.due with
      | [] => r
      | e :: rest => Reporting.drainN env n (({ r with due := rest }).enter env e)
    else r

/-- Enter everything that is due. -/
def Reporting.settle (r : Reporting) (env : Env) : Reporting := Reporting.drainN env (r.due.length + 8) r

/-- A CAN port (15). -/
def State.port (s : State) (p : Nat) : CanPort := s.can.at {} p

/-- A port setting in force (15 R365, Table 15-5). -/
def CanPort.force (c : CanPort) (sub d : Nat) : Nat := c.inForce.at d sub

/-- PROFILE in force: default 1 on CAN0, 0 on CAN1 (15 Table 15-5). -/
def State.profile (s : State) (p : Nat) : Nat := (s.port p).force 1 (if p = 0 then 1 else 0)

/-- The port is in NMT pre-operational or operational (15 R373). -/
def CanPort.talks (c : CanPort) : Bool := c.nmt == .preOperational || c.nmt == .operational

/-- The station that owns an MSI-X vector: the one whose VECTORS bit is set, else S0 (13 R322). -/
def State.vectorStation (s : State) (v : Nat) : Nat :=
  ((List.range 32).find? (fun st => decide (st ≠ 0) && bit (s.num (0x2400 + st) 0x10 0) v)).getD 0

/-- A PCIe function (12 R301). -/
def State.func (s : State) (f : Nat) : Pf := s.host.fn.at {} f

/-- An MSI-X table entry; entries are masked at reset (DESIGN CHOICE 9). -/
def Pf.vector (f : Pf) (v : Nat) : Nat := f.vec.at (2 ^ 96) v

/-- No cause of 13 R334 holds back the message of a vector. -/
def State.msixOk (s : State) (v : Nat) : Bool :=
  let f := s.func (s.vectorStation v)
  !bit (f.vector v) 96 && !f.msixMask && f.msixEn && f.bme && s.host.linkUp

/-- What reporting reads of the machine. -/
def State.env (s : State) : Env where
  ref := s.clk.ref
  emcyOk p := (s.port p).avail && (s.port p).talks && s.profile p != 0 && !(s.port p).isLonely
  emcyLost p := (s.port p).avail && (s.port p).talks && s.profile p != 0 && (s.port p).isLonely
  msixOk := s.msixOk

/-- Replace the reporting state by what a function makes of it, and enter what became due. -/
def State.report (s : State) (f : Reporting → Reporting) : State :=
  { s with rep := (f s.rep).settle s.env }

/-- Add 1 to a counter (00 R13-R16). -/
def State.count (s : State) (idx sub : Nat) : State := s.report (·.bump idx sub)

/-- Add `n` to a counter (00 R13). -/
def State.countN (s : State) (idx sub n : Nat) : State :=
  s.report (fun r =>
    let v := (r.cnt.at 0 (key idx sub)).toNat
    if n = 0 ∨ v = 0xFFFFFFFF then r
    else if v + n < 0xFFFFFFFF then { r with cnt := r.cnt.put (key idx sub) (BitVec.ofNat 32 (v + n)) }
    else ({ r with cnt := r.cnt.put (key idx sub) 0xFFFFFFFE }).bump idx sub)

/-- A counter's value (00 R13). -/
def State.counter (s : State) (idx sub : Nat) : BitVec 32 := s.rep.cnt.at 0 (key idx sub)

/-- Raise an event on the compute die (16 R401). -/
def State.raise (s : State) (e : Ev) : State := s.report (fun r => { r with due := r.due ++ [e] })

/-- Raise an event that its rule limits to once per second per scope (00 R482). -/
def State.raiseSec (s : State) (scope : Nat) (e : Ev) : State := s.report (·.limited s.clk.ref scope e)

/-- Raise an event that its rule limits to once per impression index (00 R482). -/
def State.raiseImp (s : State) (scope imp : Nat) (e : Ev) : State :=
  if s.rep.stamps.at 0 (e.code * 65536 + scope) = imp + 1 then s
  else
    s.report (fun r =>
      { r with stamps := r.stamps.put (e.code * 65536 + scope) (imp + 1), due := r.due ++ [e] })

/-- One occurrence of an EVC source (13 R321). -/
def State.occur (s : State) (id : Nat) : State := s.report (·.occur s.env id)

/-- Evaluate a target again after something it depends on changed (13 R327). -/
def State.evaluate (s : State) (t : Nat) : State := s.report (·.evaluate s.env t)

/-- Change one CAN port. -/
def State.updPort (s : State) (p : Nat) (f : CanPort → CanPort) : State :=
  { s with can := s.can.upd {} p f }

/-- Queue a message for the compute die (03 R94). -/
def State.sendCompute (s : State) (m : Msg) : State := { s with fd := { s.fd with txq := s.fd.txq ++ [m] } }

/-- Queue a message for the field die (03 R94). -/
def State.sendField (s : State) (m : Msg) : State := { s with link := { s.link with txq := s.link.txq ++ [m] } }

/-! ### Reports of the field die -/

/-- A Field Link session carries the field die's reports as they arise (03 R94, R97). -/
def State.direct (s : State) : Bool := s.fd.up && s.fd.autonomy == .none && s.link.up

/-- Count on the field die: at once while a session is up, else gathered for the next one (03 R97, 16 R397). -/
def State.fdCount (s : State) (idx sub : Nat) : State :=
  if s.direct then s.count idx sub
  else { s with fd := { s.fd with gatherCnt := s.fd.gatherCnt.upd 0 (key idx sub) (· + 1) } }

/-- Raise an event on the field die: at once while a session is up, else gathered (03 R97). -/
def State.fdRaise (s : State) (e : Ev) : State :=
  if s.direct then s.raise e else { s with fd := { s.fd with gathered := s.fd.gathered ++ [e] } }

/-- Raise a field die event at most once per impression index of the clock concerned (00 R482). -/
def State.fdRaiseImp (s : State) (scope imp : Nat) (e : Ev) : State :=
  if s.fd.stamps.at 0 (e.code * 65536 + scope) = imp + 1 then s
  else
    ({ s with fd := { s.fd with stamps := s.fd.stamps.put (e.code * 65536 + scope) (imp + 1) } } : State).fdRaise e

/-- An EVC occurrence that a report of the field die makes, while a session carries it (13 Table 13-2). -/
def State.fdOccur (s : State) (id : Nat) : State := if s.direct then s.occur id else s

/-- A web clock (02). -/
def State.clock (s : State) (n : Nat) : WebClock := s.wc.at {} n

/-- Change one web clock. -/
def State.updClock (s : State) (n : Nat) (f : WebClock → WebClock) : State := { s with wc := s.wc.upd {} n f }

/-- An encoder receiver (03 R75). -/
def State.enc (s : State) (m : Nat) : Encoder := s.fd.enc.at {} m

/-- Change one encoder receiver. -/
def State.updEnc (s : State) (m : Nat) (f : Encoder → Encoder) : State :=
  { s with fd := { s.fd with enc := s.fd.enc.upd {} m f } }

/-- Answer of a row that is a dictionary write of its own. -/
def State.answer (s : State) (r : Resp) : State := { s with out := { s.out with resp := some r } }

/-! ### Dictionary requests -/

/-- The compute die executes: it is in Run or Doze (14 R347). -/
def State.computeRuns (s : State) : Bool := s.pwr.state == .run || s.pwr.state == .doze

/-- P1, or the recovery loader, answers requests (12 R300, 17 R426, R428). -/
def State.serves (s : State) : Bool :=
  let p1 : Pressroom := s.host.press.at {} 1
  s.computeRuns && s.boot.started && s.boot.halt == 0 && (s.boot.recovery || (p1.run && !p1.restarting))

/-- Objects that the recovery loader serves (17 R428). -/
def recoveryObject (idx : Nat) : Bool := [0x1000, 0x1001, 0x1008, 0x1018, 0x2000, 0x2A00, 0x2B00].contains idx

/-- A dictionary write to object `idx` that has a row of its own: it waits for no one, and the busy rule comes first (15 R377, 16 R405, 17 R428). -/
def State.served (s : State) (idx : Nat) (f : State → State × Resp) : State :=
  if !s.serves then s
  else if s.od.longop.isSome then s.answer (.abort 0x08000022)
  else if s.boot.recovery && !recoveryObject idx then s.answer (.abort 0x06020000)
  else (f s).1.answer (f s).2

end Machine
end Sys2Proof
end

