-- ==== Sys2Proof/Machine/Evc.lean ====
section
/-!
DEFINITION. The Event Concentrator's commands (13).
-/
namespace Sys2Proof
namespace Machine

/-- Whether the accepted level of a level-mode line is the active one (13 R324). -/
def Evc.active (e : Evc) (id : Nat) : Bool :=
  decide (1024 ≤ id) &&
    ((srcEdge (e.cfg id) == 3 && (e.ext (id - 1024)).level) ||
     (srcEdge (e.cfg id) == 4 && !(e.ext (id - 1024)).level))

/-- A source leaves service; a level-mode source whose level is still active is pending again (13 R324, R331). -/
def Evc.leave (e : Evc) (id : Nat) : Evc :=
  { e with st := e.st.upd {} id (fun x => { x with inService := false, pending := x.pending || e.active id }) }

/-- Change a target. -/
def Reporting.setTarget (r : Reporting) (t : Nat) (x : EvcTarget) : Reporting :=
  { r with evc := { r.evc with tgt := r.evc.tgt.put t x } }

/-- The claim value of Table 13-3 for a source. -/
def claimValue (e : Evc) (id : Nat) : BitVec 32 :=
  let c := if e.levelMode id then 1 else (e.state id).c
  BitVec.ofNat 32 (2 ^ 31 + srcPrio (e.cfg id) * 2 ^ 24 + c * 2 ^ 16 + id)

/-- What a claim at a target returns (13 R330, R332, R333). -/
def Evc.claimed (e : Evc) (t : Nat) : BitVec 32 :=
  if (e.target t).frozen then 0xC0000001
  else if (e.target t).tagLoss then 0xC0000002
  else match e.best t with
    | none => 0
    | some id => claimValue e id

/-- A claim takes the offered source: onto the stack, in service, its batch ended (13 R326, R330). -/
def Evc.claim (e : Evc) (t : Nat) : Evc :=
  let tg := e.target t
  if tg.frozen || tg.tagLoss then e
  else match e.best t with
    | none => e
    | some id =>
      { e with
        st := e.st.put id { c := 0, timer := none, pending := false, inService := true }
        tgt := e.tgt.put t { tg with stack := (id, srcPrio (e.cfg id)) :: tg.stack } }

/-- A completion at a target (13 R331, R332). -/
def Reporting.complete (r : Reporting) (env : Env) (t id : Nat) : Reporting :=
  let tg := r.evc.target t
  if tg.frozen then r.bump 0x28B0 2
  else
    match tg.stack with
    | (top, _) :: rest =>
      if top = id then
        let r := r.setTarget t { tg with stack := rest }
        let r := { r with evc := r.evc.leave id }
        (r.evaluate env t).evaluate env (srcTarget (r.evc.cfg id))
      else outOfOrder tg
    | [] => outOfOrder tg
where
  /-- An out-of-order completion freezes the stack (13 R331). -/
  outOfOrder (tg : EvcTarget) : Reporting :=
    let r := (r.setTarget t { tg with frozen := true }).bump 0x28B0 1
    ({ r with due := r.due ++ [{ code := 0x1B01, unit := t }] } : Reporting).evaluate env t

/-- Empty a target's stack: its sources leave service and STACK_FAULT clears (13 R332). -/
def Reporting.emptyStack (r : Reporting) (env : Env) (t : Nat) : Reporting :=
  let tg := r.evc.target t
  let r := r.setTarget t { tg with stack := [], frozen := false }
  let r := tg.stack.foldl (fun r x => { r with evc := r.evc.leave x.1 }) r
  (tg.stack.foldl (fun (r : Reporting) x => r.evaluate env (srcTarget (r.evc.cfg x.1))) r).evaluate env t

/-- The target that a claim or completion reaches; none where the vector belongs to another station (13 R329, Table 13-4). -/
def State.evcPort (s : State) : EvcPort → Option Nat
  | .hart t _ => some t.val
  | .window fn v => if s.vectorStation v.val = fn.val then some (6 + v.val) else none

/-- An access through a function that its rules refuse (12 R302, 13 R334). -/
def State.refuseInbound (s : State) : State :=
  { (s.count 0x28A0 1) with out := { s.out with err := true } }

/-- A hart CSR in user mode raises an illegal instruction exception and does nothing else (13 R329). -/
def evcIllegal : EvcPort → Bool
  | .hart _ user => user
  | .window _ _ => false

/-- EVC_OCCURRENCE (13 R321, R325): an occurrence of an internal source joins its batch. -/
def execEvcOccurrence (id : Fin 1024) (s : State) : Host.Outcome State Fault Refusal :=
  .next (s.occur id.val)

/-- The accepted level of a line changes; an edge of the configured kind is an occurrence, and a level-mode source is pending while its level is active (13 R323, R324). -/
def State.acceptLine (s : State) (n : Nat) (level : Bool) (time : BitVec 32) : State :=
  let s := s.report (fun r =>
    { r with evc := { r.evc with line := r.evc.line.upd {} n (fun x => { x with level := level, xcap := time }) } })
  let id := 1024 + n
  let edge := srcEdge (s.rep.evc.cfg id)
  if 3 ≤ edge then
    s.report (fun r =>
      ({ r with evc := { r.evc with st := r.evc.st.upd {} id (fun x =>
          { x with pending := r.evc.active id && !x.inService }) } } : Reporting).evaluate s.env (srcTarget (r.evc.cfg id)))
  else if (edge = 0 ∧ level = true) ∨ (edge = 1 ∧ level = false) ∨ edge = 2 then s.occur id
  else s

/-- EVC_LINE_ACCEPT (13 R323): `samples` consecutive samples agreed on a level of the line. -/
def execEvcLineAccept (line : Fin 32) (level : Bool) (samples : Nat) (s : State) : Host.Outcome State Fault Refusal :=
  let x := s.rep.evc.ext line.val
  .next <|
    if x.level = level then s
    else if samples < srcFilter (s.rep.evc.cfg (1024 + line.val)) then s.count 0x28B0 8
    else s.acceptLine line.val level (if line.val < 16 then x.fwdUs else BitVec.ofNat 32 s.xin)

/-- EVC_BATCH_TIMEOUT (13 R325): the timer of a running batch reaches TIME. -/
def execEvcBatchTimeout (id : Fin 1056) (s : State) : Host.Outcome State Fault Refusal :=
  let x := s.rep.evc.state id.val
  let c := s.rep.evc.cfg id.val
  .next <|
    if x.c = 0 ∨ x.pending = true ∨ x.timer = none ∨ srcTime c = 0 then s
    else s.report (fun r =>
      ({ r with evc := { r.evc with st := r.evc.st.put id.val { x with pending := true } } } : Reporting).evaluate s.env (srcTarget c))

/-- EVC_CLAIM (13 R330): a read of evcclaim or VCLAIM. -/
def execEvcClaim (port : EvcPort) (s : State) : Host.Outcome State Fault Refusal :=
  .next <|
    if evcIllegal port then { s with out := { s.out with illegal := true } }
    else match s.evcPort port with
      | none => s.refuseInbound
      | some t =>
        let s' := s.report (fun r => ({ r with evc := r.evc.claim t } : Reporting).evaluate s.env t)
        { s' with out := { s.out with claim := s.rep.evc.claimed t, illegal := false, err := false } }

/-- EVC_COMPLETE (13 R331): a write of evcdone or VDONE. -/
def execEvcComplete (port : EvcPort) (id : Fin 2048) (s : State) : Host.Outcome State Fault Refusal :=
  .next <|
    if evcIllegal port then { s with out := { s.out with illegal := true } }
    else match s.evcPort port with
      | none => s.refuseInbound
      | some t => s.report (fun r => r.complete s.env t id.val)

/-- EVC_STACK_RESET (13 R332): a write of 1 to EVC_STK.RESET or VSTK.RESET. -/
def execEvcStackReset (ref : EvcRef) (s : State) : Host.Outcome State Fault Refusal :=
  let t := match ref with
    | .reg t => some t.val
    | .window fn v => if s.vectorStation v.val = fn.val then some (6 + v.val) else none
  .next <|
    match t with
    | none => s.refuseInbound
    | some t => s.report (fun r => (r.emptyStack s.env t).bump 0x28B0 3)

/-- EVC_TAG_ACK (13 R333): a write of 1 to EVC_STK.TAG_ACK clears TAG_LOSS on a host hart target. -/
def execEvcTagAck (t : Fin 4) (s : State) : Host.Outcome State Fault Refusal :=
  .next (s.report (fun r => (r.setTarget t.val { r.evc.target t.val with tagLoss := false }).evaluate s.env t.val))

/-- EVC_SWSET (13 R321, Table 13-6): one occurrence of each software source whose bit is 1. -/
def execEvcSwset (mask : BitVec 32) (s : State) : Host.Outcome State Fault Refusal :=
  .next (s.report (fun r =>
    (List.range 32).foldl (fun r k => if bit mask.toNat k then r.occur s.env (256 + k) else r) r))

/-- MSIX_HELD_RELEASE (13 R334): a held message is sent if its vector is still signalled once no cause holds it, else dropped. -/
def execMsixHeldRelease (v : Fin 32) (s : State) : Host.Outcome State Fault Refusal :=
  let t := s.rep.evc.target (6 + v.val)
  .next <|
    if t.held && s.msixOk v.val then
      s.report (fun r =>
        let r := r.setTarget (6 + v.val) { t with held := false }
        if t.signalled then { r.bump 0x28B0 5 with msixOut := r.msixOut + 1 } else r)
    else s

end Machine
end Sys2Proof
end

