-- ==== Sys2Proof/Machine/ObjTable.lean ====
section
/-!
DEFINITION. The object dictionary's entries: type, access, default, range, PDO mapping and persistence of every subindex (16 R386-R393 and each chapter's object table).
-/
namespace Sys2Proof
namespace Machine

/-- Data types of the dictionary (16 R387). -/
inductive Ty where
  | bool | i8 | i16 | i32 | u8 | u16 | u32 | u64 | str | oct | dom
  deriving DecidableEq, Repr

/-- Size in bytes of a scalar type, 0 for the others. -/
def Ty.size : Ty → Nat
  | .bool => 1 | .i8 => 1 | .u8 => 1 | .i16 => 2 | .u16 => 2 | .i32 => 4 | .u32 => 4 | .u64 => 8
  | .str => 0 | .oct => 0 | .dom => 0

/-- Access codes (16 R388); `rwr` entries are the counters' and `rww` the RPDO-mappable ones. -/
inductive Acc where
  | const | ro | wo | rw | rwr | rww
  deriving DecidableEq, Repr

/-- A run of subindices with the same attributes. For a DOMAIN, `ok` bounds its length in bytes; for a scalar, `ok` lists the accepted intervals and an empty list accepts every value of the type (16 R386). -/
structure Row where
  first : Nat
  last : Nat
  ty : Ty
  acc : Acc
  dflt : Nat
  ok : List (Nat × Nat)
  pdo : Bool
  persist : Bool
  deriving DecidableEq, Repr

/-- Objects with the same rows. -/
structure Obj where
  first : Nat
  last : Nat
  rows : List Row
  deriving DecidableEq, Repr

/-- A persistent configuration entry (rw, not PDO-mappable). -/
def cfgRow (first last : Nat) (ty : Ty) (dflt : Nat) (ok : List (Nat × Nat)) : Row :=
  ⟨first, last, ty, .rw, dflt, ok, false, true⟩
/-- A read-only entry. -/
def roRow (first last : Nat) (ty : Ty) (dflt : Nat) (pdo : Bool) : Row :=
  ⟨first, last, ty, .ro, dflt, [], pdo, false⟩
/-- A write-only entry. -/
def woRow (sub : Nat) (ty : Ty) (ok : List (Nat × Nat)) : Row :=
  ⟨sub, sub, ty, .wo, 0, ok, false, false⟩
/-- A constant entry. -/
def constRow (first last : Nat) (ty : Ty) (dflt : Nat) : Row :=
  ⟨first, last, ty, .const, dflt, [], false, false⟩
/-- A writable entry that is not persistent. -/
def rwRow (first last : Nat) (ty : Ty) (dflt : Nat) (ok : List (Nat × Nat)) : Row :=
  ⟨first, last, ty, .rw, dflt, ok, false, false⟩
/-- Subindex 00, the highest subindex. -/
def highRow (n : Nat) : Row := constRow 0 0 .u8 n

/-- Table 2-5: web clock objects. -/
def wcRows : List Row :=
  [highRow 0x1D,
   cfgRow 0x01 0x01 .bool 0 [], cfgRow 0x02 0x02 .u8 4 [(1, 2), (4, 4)], cfgRow 0x03 0x03 .u8 0 [(0, 1)],
   cfgRow 0x04 0x04 .u32 8192 [(1, 16777216)], cfgRow 0x05 0x05 .u32 0 [(0, 4000000000)],
   cfgRow 0x06 0x06 .u32 50000 [(1000, 10000000)], cfgRow 0x07 0x07 .u8 4 [], cfgRow 0x08 0x08 .u16 32 [],
   cfgRow 0x09 0x09 .u16 1000 [(100, 10000)], cfgRow 0x0A 0x0A .u8 2 [(0, 8)],
   cfgRow 0x0B 0x0B .u32 0 [(0, 16777216)], cfgRow 0x0C 0x0C .u8 0xFF [(0, 15), (0xFF, 0xFF)],
   cfgRow 0x0D 0x0D .u8 0 [(0, 1)], cfgRow 0x0E 0x0F .u32 0 [], cfgRow 0x10 0x10 .u16 256 [(1, 256)],
   cfgRow 0x11 0x11 .u8 3 [(1, 255)], cfgRow 0x12 0x12 .u16 0 [], cfgRow 0x13 0x13 .u8 0xFF [(0, 7), (0xFF, 0xFF)],
   cfgRow 0x14 0x15 .u16 1 [(1, 65535)]] ++
  [woRow 0x16 .u8 [(1, 2)], roRow 0x17 0x17 .u64 0 true, roRow 0x18 0x18 .i32 0 true, roRow 0x19 0x1A .u32 0 true,
   roRow 0x1B 0x1B .u8 1 true, roRow 0x1C 0x1C .u32 0 true, roRow 0x1D 0x1D .i32 0 false]

/-- Table 2-6: the speed ceiling object. -/
def ceilingRows : List Row :=
  [highRow 0x1A, roRow 0x01 0x10 .u32 0 true, cfgRow 0x11 0x11 .u16 128 [(1, 256)],
   cfgRow 0x12 0x12 .u16 1000 [(0, 60000)], roRow 0x13 0x1A .u8 0 false]

/-- Table 4-11: intake channel objects. -/
def icRows : List Row :=
  [highRow 0x1C,
   cfgRow 0x01 0x01 .bool 0 [], cfgRow 0x02 0x02 .u8 0 [(0, 2)], cfgRow 0x03 0x03 .u8 4 [],
   cfgRow 0x04 0x04 .u16 1500 [], cfgRow 0x05 0x05 .u16 0x3210 [], cfgRow 0x06 0x06 .u8 0 [(0, 31)],
   cfgRow 0x07 0x07 .u8 0 [(0, 7)], cfgRow 0x08 0x08 .u16 0x1000 [], cfgRow 0x09 0x0B .u16 0 [],
   cfgRow 0x0C 0x0C .u8 0x2B [], cfgRow 0x0D 0x0D .u16 2048 [(16, 8192)], cfgRow 0x0E 0x0E .u16 2048 [(2, 8192)],
   cfgRow 0x0F 0x0F .u8 0xFF [(0, 31), (0xFF, 0xFF)], cfgRow 0x10 0x10 .u32 65536 [(1, 16777216)],
   cfgRow 0x11 0x11 .u16 100 [(1, 10000)], cfgRow 0x12 0x12 .u32 0xFFFFFFFF [(0, 65535)],
   cfgRow 0x13 0x13 .u32 0xFFFFFFFF [(0, 65535), (0xFFFFFFFF, 0xFFFFFFFF)]] ++
  [cfgRow 0x14 0x14 .u8 0 [(0, 2)], cfgRow 0x15 0x15 .u8 0 [(0, 1)], cfgRow 0x16 0x16 .u16 79 [(15, 3999)],
   cfgRow 0x17 0x17 .bool 0 [], cfgRow 0x18 0x18 .u8 1 [(0, 2)], cfgRow 0x19 0x19 .u8 16 [(1, 255)],
   woRow 0x1A .u8 [(1, 2)], roRow 0x1B 0x1C .u8 0 true]

/-- Table 5-11: image pipeline objects. -/
def ispRows : List Row :=
  [highRow 0x1D,
   cfgRow 0x01 0x01 .u8 1 [(0, 1)], cfgRow 0x02 0x02 .dom 0 [(66, 66)], cfgRow 0x03 0x04 .u16 256 [(256, 4096)],
   cfgRow 0x05 0x05 .u16 60000 [(1024, 65535)], cfgRow 0x06 0x06 .u16 4096 [(0, 16384)],
   cfgRow 0x07 0x07 .u16 0 [(0, 256)], cfgRow 0x08 0x08 .dom 0 [(32, 32)], cfgRow 0x09 0x09 .u8 8 [(0, 15)],
   cfgRow 0x0A 0x0A .u32 0xFFFFFFFF [(0, 65535), (0xFFFFFFFF, 0xFFFFFFFF)], cfgRow 0x0B 0x0B .dom 0 [(32, 32)],
   cfgRow 0x0C 0x0C .u8 8 [(0, 15)], cfgRow 0x0D 0x10 .u32 0 [(0, 1048575)], cfgRow 0x11 0x11 .dom 0 [(8712, 8712)]] ++
  [cfgRow 0x12 0x12 .bool 0 [], cfgRow 0x13 0x13 .u8 0 [(0, 2)], cfgRow 0x14 0x14 .u8 0 [(0, 15)],
   cfgRow 0x15 0x15 .u32 0 [(0, 0x3FFFFFFF)], cfgRow 0x16 0x18 .u16 4096 [], cfgRow 0x19 0x19 .dom 0 [(30, 30)],
   cfgRow 0x1A 0x1A .dom 0 [(8192, 8192)], cfgRow 0x1B 0x1B .dom 0 [(512, 512)],
   woRow 0x1C .u8 [(1, 1)], roRow 0x1D 0x1D .u8 0 true]

/-- Table 5-12: the Patch Meter object. -/
def pmRows : List Row :=
  [highRow 0x20, cfgRow 0x01 0x10 .dom 0 [(1088, 1088)],
   cfgRow 0x11 0x20 .u32 0xFFFFFFFF [(0, 65535), (0xFFFFFFFF, 0xFFFFFFFF)]]

/-- Tables 11-10 and 10-7 for S1-S31. -/
def stationRows : List Row :=
  [highRow 0x27, roRow 0x01 0x01 .u8 0 true,
   cfgRow 0x02 0x02 .u16 0 [], cfgRow 0x03 0x03 .u32 0 [], cfgRow 0x04 0x04 .u8 0 [], cfgRow 0x05 0x05 .dom 0 [(8, 8)],
   cfgRow 0x06 0x07 .u16 0 [], cfgRow 0x08 0x08 .dom 0 [(128, 128)], cfgRow 0x09 0x09 .dom 0 [(256, 256)],
   cfgRow 0x0A 0x0A .u16 0 [], cfgRow 0x0B 0x0B .u32 0 [(0, 65536)], cfgRow 0x0C 0x0C .u16 0 [(0, 4095)],
   cfgRow 0x0D 0x0D .u16 0 [(0, 4096)], cfgRow 0x0E 0x0E .u16 0 [(0, 8192)], cfgRow 0x0F 0x0F .u32 2000 [(10, 600000)],
   cfgRow 0x10 0x10 .u32 0 [], roRow 0x11 0x11 .u8 0 false, woRow 0x12 .u8 [(1, 1)]]

/-- Table 11-10 for S0, whose resources are what the stations leave (11 R281). -/
def station0Rows : List Row :=
  [highRow 0x28, roRow 0x01 0x01 .u8 0 true,
   roRow 0x02 0x02 .u16 0 false, roRow 0x03 0x03 .u32 0 false, roRow 0x04 0x04 .u8 0 false, roRow 0x05 0x05 .dom 0 false,
   roRow 0x06 0x07 .u16 0 false, roRow 0x08 0x08 .dom 0 false, cfgRow 0x09 0x09 .dom 0 [(256, 256)],
   roRow 0x0A 0x0A .u16 0 false, roRow 0x0B 0x0B .u32 0 false, roRow 0x0C 0x0D .u16 0 false,
   cfgRow 0x0E 0x0E .u16 0 [(0, 8192)], cfgRow 0x0F 0x0F .u32 2000 [(10, 600000)],
   roRow 0x10 0x10 .u32 0 false, roRow 0x11 0x11 .u8 0 false, woRow 0x12 .u8 [(1, 1)],
   cfgRow 0x28 0x28 .u8 20 [(5, 200)]]

/-- Table 10-7: the Roster's entries of every station. -/
def rosterRows : List Row :=
  [cfgRow 0x20 0x20 .u8 0xFF [(0, 63), (0xFF, 0xFF)], cfgRow 0x21 0x21 .u8 0 [(0, 7)],
   ⟨0x22, 0x22, .bool, .rw, 0, [], true, true⟩, cfgRow 0x23 0x23 .u16 0 [(0, 1024)],
   cfgRow 0x24 0x24 .dom 0 [(384, 384)], cfgRow 0x25 0x25 .u32 100000 [(1, 1000000)],
   roRow 0x26 0x26 .u8 0xFF true, roRow 0x27 0x27 .u16 0 true]

/-- Table 8-8: the neural fabric object. -/
def neuralRows : List Row :=
  [highRow 0x17, roRow 0x01 0x01 .u16 0 true, roRow 0x02 0x03 .u8 8 true, cfgRow 0x04 0x04 .u16 60 [(0, 3600)],
   woRow 0x05 .u16 [], woRow 0x06 .u16 [], roRow 0x07 0x16 .u8 0 true, roRow 0x17 0x17 .u32 0 false]

/-- Table 14-8: the power object. -/
def powerRows : List Row :=
  [highRow 0x09, roRow 0x01 0x01 .u8 0 true, woRow 0x02 .u8 [(2, 3)], cfgRow 0x03 0x03 .u8 4 [(0, 7)],
   rwRow 0x04 0x04 .u32 0 [], cfgRow 0x05 0x05 .bool 1 [], roRow 0x06 0x08 .u8 0 false, roRow 0x09 0x09 .u8 0 true]

/-- Table 12-8: the host port and Ethernet object. -/
def hostRows : List Row :=
  [highRow 0x0C, roRow 0x01 0x01 .u8 0 true, roRow 0x02 0x03 .u8 0 false, cfgRow 0x04 0x05 .u8 0 [(0, 3)],
   cfgRow 0x06 0x07 .u64 0 [(0, 0xFFFFFFFFFFFF)], cfgRow 0x08 0x08 .u32 0 [], cfgRow 0x09 0x09 .u8 0 [(0, 2)],
   cfgRow 0x0A 0x0B .u16 0 [], roRow 0x0C 0x0C .u8 0 true]

/-- Table 15-5: the CAN port objects, with PROFILE's default. -/
def canRows (profile : Nat) : List Row :=
  [highRow 0x10, cfgRow 0x01 0x01 .u8 profile [(0, 2)], cfgRow 0x02 0x02 .u8 127 [(1, 127)],
   cfgRow 0x03 0x03 .u8 2 [(0, 4), (6, 8), (0xFF, 0xFF)],
   cfgRow 0x04 0x04 .u16 2000 [(0, 0), (1000, 1000), (2000, 2000), (4000, 4000), (5000, 5000), (8000, 8000)],
   cfgRow 0x05 0x06 .u32 0 [], cfgRow 0x07 0x07 .bool 0 [], cfgRow 0x08 0x08 .u8 0xE0 [],
   cfgRow 0x09 0x09 .u16 0x7E0 [(0, 0x7FF)], cfgRow 0x0A 0x0A .u16 0x7E1 [(0, 0x7FF)],
   cfgRow 0x0B 0x0B .u16 10000 [(2000, 2000), (4000, 4000), (5000, 5000), (8000, 8000), (10000, 10000)],
   cfgRow 0x0C 0x0C .u8 2 [(0, 2)], roRow 0x0D 0x0D .u8 0 true, roRow 0x0E 0x0E .u16 0 false,
   roRow 0x0F 0x0F .u8 0 false, roRow 0x10 0x10 .u8 0 true]

/-- Table 16-4: communication objects but the PDO records. -/
def commObjs : List Obj :=
  [⟨0x1000, 0x1000, [constRow 0 0 .u32 0]⟩,
   ⟨0x1001, 0x1001, [roRow 0 0 .u8 0 true]⟩,
   ⟨0x1003, 0x1003, [rwRow 0 0 .u8 0 [], roRow 1 8 .u32 0 false]⟩,
   ⟨0x1005, 0x1005, [cfgRow 0 0 .u32 0x80 []]⟩,
   ⟨0x1008, 0x100A, [constRow 0 0 .str 0]⟩,
   ⟨0x1010, 0x1011, [highRow 4, rwRow 1 4 .u32 1 []]⟩,
   ⟨0x1014, 0x1014, [cfgRow 0 0 .u32 0 []]⟩,
   ⟨0x1015, 0x1015, [cfgRow 0 0 .u16 0 []]⟩,
   ⟨0x1016, 0x1016, [highRow 4, cfgRow 1 4 .u32 0 []]⟩,
   ⟨0x1017, 0x1017, [cfgRow 0 0 .u16 1000 []]⟩,
   ⟨0x1018, 0x1018, [highRow 4, constRow 1 4 .u32 0]⟩,
   ⟨0x1019, 0x1019, [cfgRow 0 0 .u8 0 []]⟩,
   ⟨0x1200, 0x1200, [highRow 2, roRow 1 2 .u32 0 false]⟩]

/-- Table 16-4: PDO communication and mapping records. -/
def pdoObjs : List Obj :=
  [⟨0x1400, 0x1407, [highRow 5, cfgRow 1 1 .u32 0 [], cfgRow 2 2 .u8 255 [], cfgRow 5 5 .u16 0 []]⟩,
   ⟨0x1600, 0x1607, [cfgRow 0 0 .u8 0 [(0, 0x40)], cfgRow 1 0x40 .u32 0 []]⟩,
   ⟨0x1800, 0x1807, [highRow 5, cfgRow 1 1 .u32 0 [], cfgRow 2 2 .u8 254 [], cfgRow 3 3 .u16 0 [], cfgRow 5 5 .u16 0 []]⟩,
   ⟨0x1A00, 0x1A07, [cfgRow 0 0 .u8 0 [(0, 0x40)], cfgRow 1 0x40 .u32 0 []]⟩]

/-- Tables 16-6, 16-8, 16-9, 16-12, 16-13: identity, update, boot, log and package slots. -/
def serviceObjs : List Obj :=
  [⟨0x2000, 0x2000, [highRow 0x0B, constRow 1 1 .u16 1200, constRow 2 2 .u8 0xB0, roRow 3 3 .u32 0 false,
     constRow 4 4 .u32 0, roRow 5 5 .i16 0 true, roRow 6 8 .u16 0 true, roRow 9 0x0A .u32 0 true, roRow 0x0B 0x0B .u8 0 false]⟩,
   ⟨0x2A00, 0x2A00, [highRow 0x12, woRow 1 .u8 [(1, 5)], woRow 2 .dom [(9, 4104)], roRow 3 3 .u32 0 false,
     rwRow 4 4 .u32 0 [(1, 3145728)], cfgRow 5 5 .bool 0 [], roRow 6 7 .u8 0 true, roRow 8 9 .u8 0 false,
     roRow 0x0A 0x0B .u32 0 false, roRow 0x0C 0x0C .u8 0 false, roRow 0x0D 0x0E .u16 0 false, roRow 0x0F 0x10 .u32 0 false,
     roRow 0x11 0x11 .u8 0 false, rwRow 0x12 0x12 .bool 0 []]⟩,
   ⟨0x2B00, 0x2B00, [highRow 9, roRow 1 4 .u8 0 false, woRow 5 .u8 [(0, 3)], roRow 6 7 .u8 0 false,
     roRow 8 8 .u32 0 false, roRow 9 9 .bool 1 false]⟩,
   ⟨0x2C00, 0x2C00, [highRow 6, roRow 1 1 .u16 0 true, roRow 2 2 .u32 0 true, rwRow 3 3 .u32 0 [],
     roRow 4 4 .oct 0 false, woRow 5 .u8 [(1, 1)], roRow 6 6 .dom 0 false]⟩,
   ⟨0x3000, 0x303F, [highRow 8, woRow 1 .dom [], rwRow 2 2 .u8 0 [(0, 31)], rwRow 3 3 .u64 0 [], roRow 4 4 .u8 0 true,
     woRow 5 .u8 [(1, 2)], roRow 6 6 .u32 0 false, roRow 7 7 .u8 0 false, roRow 8 8 .u32 0 false]⟩]

/-- Table 3-8: the field die's objects. -/
def fieldObjs : List Obj :=
  [⟨0x2600, 0x2607, [highRow 0x0B, cfgRow 1 1 .bool 0 [], cfgRow 2 2 .u8 0 [(0, 1)], cfgRow 3 4 .u8 1 [(0, 1)],
     cfgRow 5 5 .u8 0 [(0, 1)], cfgRow 6 6 .u8 3 [(0, 3)], cfgRow 7 7 .u16 100 [(1, 1000)], woRow 8 .u8 [(1, 2)],
     roRow 9 0x0A .u8 0 true, roRow 0x0B 0x0B .u16 0 false]⟩,
   ⟨0x2610, 0x2610, [highRow 5, cfgRow 1 1 .u8 0 [(0, 15)], cfgRow 2 3 .u32 0 [], roRow 4 4 .u32 0 true, woRow 5 .u32 []]⟩,
   ⟨0x2620, 0x2620, [highRow 0x12, cfgRow 1 0x10 .u8 25 [], roRow 0x11 0x11 .u16 0 true, cfgRow 0x12 0x12 .u16 0 []]⟩,
   ⟨0x2630, 0x2630, [highRow 0x11, cfgRow 1 8 .u8 0 [(0, 2)], roRow 9 0x10 .u8 0 true, cfgRow 0x11 0x11 .u16 16 []]⟩]

/-- Highest subindex of each counter object (18 Table 18-5). -/
def counterObjs : List (Nat × Nat × Nat) :=
  [(0x2800, 0x2800, 0x03), (0x2810, 0x2810, 0x07), (0x2811, 0x2811, 0x03), (0x2812, 0x2812, 0x18), (0x2813, 0x2813, 0x10),
   (0x2814, 0x2814, 0x20), (0x2815, 0x281C, 0x0A), (0x281D, 0x281D, 0x04), (0x2820, 0x2827, 0x0C), (0x2828, 0x2828, 0x07),
   (0x2829, 0x2829, 0x20), (0x2830, 0x283F, 0x19), (0x2840, 0x284F, 0x07), (0x2850, 0x2857, 0x05), (0x2858, 0x2859, 0x06),
   (0x285A, 0x285A, 0x0F), (0x2860, 0x2860, 0x0A), (0x2861, 0x2862, 0x04), (0x2870, 0x287F, 0x07), (0x2880, 0x2880, 0x0C),
   (0x2890, 0x2890, 0x03), (0x2891, 0x2891, 0x20), (0x2892, 0x2892, 0x0B), (0x28A0, 0x28A0, 0x09), (0x28A1, 0x28A2, 0x08),
   (0x28A3, 0x28A3, 0x05), (0x28A4, 0x28A4, 0x02), (0x28B0, 0x28B0, 0x09), (0x28C0, 0x28C0, 0x06), (0x28D0, 0x28D1, 0x0F),
   (0x28D2, 0x28D2, 0x01), (0x28E0, 0x28E0, 0x07), (0x28F0, 0x28F0, 0x09)]

/-- Highest subindex of a counter object; none where the index holds no counters (18 R453). -/
def counterHigh (idx : Nat) : Option Nat :=
  (counterObjs.find? (fun o => decide (o.1 ≤ idx ∧ idx ≤ o.2.1))).map (·.2.2)

/-- The entry is a counter (16 R397). -/
def isCounter (idx sub : Nat) : Bool :=
  match counterHigh idx with
  | none => false
  | some h => decide (1 ≤ sub ∧ sub ≤ h)

/-- Every object of Table 16-3 but the counters. -/
def objects : List Obj :=
  commObjs ++ pdoObjs ++
  [⟨0x2100, 0x2107, wcRows⟩, ⟨0x2110, 0x2110, ceilingRows⟩, ⟨0x2200, 0x220F, icRows⟩, ⟨0x2300, 0x230F, ispRows⟩,
   ⟨0x2320, 0x2320, pmRows⟩, ⟨0x2400, 0x2400, station0Rows ++ rosterRows⟩, ⟨0x2401, 0x241F, stationRows ++ rosterRows⟩,
   ⟨0x2500, 0x2500, neuralRows⟩] ++ fieldObjs ++
  [⟨0x2700, 0x2700, powerRows⟩, ⟨0x2D00, 0x2D00, hostRows⟩, ⟨0x2E00, 0x2E00, canRows 1⟩, ⟨0x2E01, 0x2E01, canRows 0⟩] ++
  serviceObjs ++ [⟨0x28FF, 0x28FF, [highRow 1, woRow 1 .u16 []]⟩]

/-- The attributes of a counter object's subindex (16 R397). -/
def counterRow (h sub : Nat) : Option Row :=
  if sub = 0 then some (highRow h)
  else if sub ≤ h then some ⟨sub, sub, .u32, .rwr, 0, [(0, 0)], true, false⟩ else none

/-- The rows of an object; none where the index does not exist (16 R392). -/
def objRows (idx : Nat) : Option (List Row) :=
  (objects.find? (fun o => decide (o.first ≤ idx ∧ idx ≤ o.last))).map (·.rows)

/-- What naming an entry gives: its row, or the abort code for a missing object or subindex (16 R391, R392). -/
def entryRow (idx sub : Nat) : Except Nat Row :=
  match counterHigh idx with
  | some h => match counterRow h sub with
    | some r => .ok r
    | none => .error 0x06090011
  | none => match objRows idx with
    | none => .error 0x06020000
    | some rows => match rows.find? (fun r => decide (r.first ≤ sub ∧ sub ≤ r.last)) with
      | some r => .ok r
      | none => .error 0x06090011

/-- A scalar lies in the range of its row: one of its intervals, or any value of the type (16 R386, R387). -/
def Row.inRange (r : Row) (v : Nat) : Bool :=
  (r.ty != .bool || decide (v ≤ 1)) &&
  (r.ok.isEmpty || r.ok.any (fun p => decide (p.1 ≤ v ∧ v ≤ p.2)))

end Machine
end Sys2Proof
end

