-- ==== Sys2Proof/Machine/WebClock.lean ====
section
/-!
DEFINITION. The web clocks: counting, interpolation, velocity, impressions, mark lock, backup and health (02 R38-R57).
-/
namespace Sys2Proof
namespace Machine

/-- Settings of one web clock as the field die holds them (02 Table 2-5). -/
structure WcCfg where
  enable : Bool
  decode : Nat
  expectDir : Nat
  len : Nat
  standstillUs : Nat
  glitchLimit : Nat
  backlash : Nat
  velWindow : Nat
  velFilter : Nat
  zTicks : Nat
  markPe : Nat
  markEdge : Nat
  markPhase : Nat
  markWindow : Nat
  markGain : Nat
  missLimit : Nat
  compNs : Nat
  backup : Nat
  num : Nat
  den : Nat
  deriving DecidableEq, Repr

/-- Read the settings of clock `n` out of a configuration (02 Table 2-5). -/
def wcCfg (c : Cfg) (n : Nat) : WcCfg :=
  let g := c.get (0x2100 + n)
  { enable := g 0x01 0 == 1, decode := g 0x02 4, expectDir := g 0x03 0, len := g 0x04 8192, standstillUs := g 0x06 50000,
    glitchLimit := g 0x07 4, backlash := g 0x08 32, velWindow := g 0x09 1000, velFilter := g 0x0A 2, zTicks := g 0x0B 0,
    markPe := g 0x0C 0xFF, markEdge := g 0x0D 0, markPhase := g 0x0E 0, markWindow := g 0x0F 0, markGain := g 0x10 256,
    missLimit := g 0x11 3, compNs := g 0x12 0, backup := g 0x13 0xFF, num := g 0x14 1, den := g 0x15 1 }

/-- Settings in force on the field die. -/
def State.wcCfg (s : State) (n : Nat) : WcCfg := Machine.wcCfg s.fd.cfg n

/-- Shift of the ×4 count at a decoding factor (02 R38). -/
def decodeShift (d : Nat) : Nat := if d = 1 then 2 else if d = 2 then 1 else 0

/-- Integer position of a ×4 count (02 R38). -/
def posOf (d : Nat) (x4 : BitVec 50) : BitVec 48 := BitVec.ofNat 48 (x4.toNat / 2 ^ decodeShift d)

/-- Integer position of a clock (02 R38). -/
def WebClock.pos (w : WebClock) (c : WcCfg) : BitVec 48 := posOf c.decode w.x4

/-- The ×4 count that shows a position at a decoding factor. -/
def x4Of (d : Nat) (p : BitVec 48) : BitVec 50 := BitVec.ofNat 50 (p.toNat * 2 ^ decodeShift d)

/-- The fraction of the position, 0 while it is held (02 R42). -/
def WebClock.frac (w : WebClock) (now : Nat) : Nat :=
  if w.standstill || w.reverse || w.lost then 0
  else match w.fracFrom with
    | none => 0
    | some t =>
      let f := (256 * ((now - t : Nat) : Rat) / (Config.psPerS : Rat) * (if w.vel < 0 then -w.vel else w.vel)).floor
      min 255 f.toNat

/-- The 56-bit interpolated position (02 R42). -/
def WebClock.pos56 (w : WebClock) (c : WcCfg) (now : Nat) : Nat := (w.pos c).toNat * 256 + w.frac now

/-- Health conditions reported as one code, highest precedence first (02 Table 2-2). -/
def WebClock.health (w : WebClock) : Nat :=
  if w.lost then 4 else if w.suspGlitch || w.suspFail then 3 else if w.reverse then 2 else if w.standstill then 1 else 0

/-- What a clock's own rules report: a count in its counter object, an event, or an event limited to once per impression. -/
inductive WcNote where
  | cnt (sub : Nat)
  | ev (code : Nat)
  | evImp (code : Nat)
  | boundary                 -- a forward impression boundary was passed
  deriving DecidableEq, Repr

/-- Round a rational to the nearest integer, ties away from zero (02 R44, R48). -/
def roundAway (q : Rat) : Int :=
  if q < 0 then -((-q + 1 / 2).floor) else (q + 1 / 2).floor

/-- End of an impression at a forward boundary: L pending takes effect, marks missed, glitches and the backup compared (02 R39, R46, R47, R51, R54, R55). -/
def WebClock.boundary (w : WebClock) (c : WcCfg) : WebClock × List WcNote :=
  let miss := w.mark == .locked && !w.markAcc
  let misses := if w.markAcc then 0 else if miss then w.misses + 1 else w.misses
  let seek := miss && decide (c.missLimit ≤ misses)
  let scaled := (w.bX4 / (2 ^ decodeShift c.decode : Nat) - w.impBack) * c.num
  let drift := w.impBoth && c.backup != 0xFF &&
    decide ((scaled - w.impPrim * c.den).natAbs * 100 > (w.impPrim * c.den).natAbs)
  ({ w with
      phase := 0, idx := w.idx + 1, len := w.lenPend.getD w.len, lenPend := none
      mark := if seek then .seeking else w.mark
      misses := if seek then 0 else misses
      markAcc := false
      suspGlitch := w.suspGlitch && w.glitched
      glitchImp := 0, glitched := false
      impPrim := 0, impBack := w.bX4 / (2 ^ decodeShift c.decode : Nat), impBoth := true },
   [.cnt 2, .boundary] ++ (if miss then [.cnt 5] else []) ++ (if seek then [.ev 0x1006] else []) ++
     (if drift then [.cnt 0x0C] else []))

/-- One counted tick in a direction: position, phase, index, turning point and the conditions an edge clears (02 R42-R47, R55, R56). -/
def WebClock.tick (w : WebClock) (c : WcCfg) (now : Nat) (fwd : Bool) : WebClock × List WcNote :=
  let turnRound := w.lastEdge.isSome && w.lastFwd != fwd
  let dir : Int := if fwd then 1 else -1
  let p := if fwd then w.pos c + 1 else w.pos c - 1
  let w := { w with
    touched := true, standstill := false
    x4 := BitVec.ofNat 50 (w.x4.toNat + 2 ^ 50 + (if fwd then 2 ^ decodeShift c.decode else 0) - (if fwd then 0 else 2 ^ decodeShift c.decode))
    edges := if turnRound then [(now, dir)] else (now, dir) :: w.edges
    velReset := w.velReset || turnRound
    lastEdge := some now, lastFwd := fwd
    fracFrom := if fwd then some now else none
    impPrim := if w.onBackup then w.impPrim else w.impPrim + dir
    impBoth := w.impBoth && !w.onBackup
    zTicks := if fwd then w.zTicks + 1 else w.zTicks }
  if fwd then
    let beyond := after 48 p.toNat w.turn.toNat
    let w := { w with
      turn := if beyond then p else w.turn
      reverse := w.reverse && !beyond
      revWiring := w.revWiring && !beyond }
    if w.phase + 1 ≥ w.len then w.boundary c else ({ w with phase := w.phase + 1 }, [])
  else
    let back := (w.turn - p).toNat
    let rev := decide (c.backlash < back) && decide (back < 2 ^ 47)
    let wiring := decide (4 * w.len < back) && decide (back < 2 ^ 47)
    let w' := { w with
      reverse := w.reverse || rev
      revWiring := w.revWiring || wiring
      phase := if w.phase = 0 then w.len - 1 else w.phase - 1
      idx := if w.phase = 0 then w.idx - 1 else w.idx
      glitchImp := if w.phase = 0 then 0 else w.glitchImp
      glitched := w.glitched || decide (w.phase = 0) }
    (w', (if rev && !w.reverse then [.cnt 7, .ev 0x1004] else []) ++
         (if wiring && !w.revWiring then [.ev 0x1009] else []))

/-- Several ticks in one direction, counted one by one (02 R53). -/
def WebClock.ticks (c : WcCfg) (now : Nat) (fwd : Bool) : Nat → WebClock → WebClock × List WcNote
  | 0, w => (w, [])
  | n + 1, w =>
    let (w, a) := w.tick c now fwd
    let (w, b) := WebClock.ticks c now fwd n w
    (w, a ++ b)

/-- Backup ticks scaled by BACKUP_NUM / BACKUP_DEN, with the remainder carried on (02 R53). -/
def WebClock.backupTicks (w : WebClock) (c : WcCfg) (now : Nat) (ticks : Int) : WebClock × List WcNote :=
  let total := w.rem + ticks * c.num
  let n := total.fdiv (c.den : Int)
  WebClock.ticks c now (decide (0 ≤ n)) n.natAbs { w with rem := total.fmod (c.den : Int) }

/-- Direction of a change of accepted levels when A leads B: 1 forward, -1 backward, 0 for a glitch or no change (02 R38, R39). -/
def quadStep (a b a' b' : Bool) : Int :=
  match a, b, a', b' with
  | false, false, true, false => 1 | true, false, true, true => 1
  | true, true, false, true => 1 | false, true, false, false => 1
  | true, false, false, false => -1 | true, true, true, false => -1
  | false, true, true, true => -1 | false, false, false, true => -1
  | _, _, _, _ => 0

/-- A glitch: both lines took new levels in one cycle (02 R39, R55). -/
def WebClock.glitch (w : WebClock) (c : WcCfg) : WebClock × List WcNote :=
  let excess := decide (c.glitchLimit < w.glitchImp + 1) && !w.suspGlitch
  ({ w with glitchImp := w.glitchImp + 1, glitched := true, suspGlitch := w.suspGlitch || excess },
   [.cnt 1] ++ (if excess then [.ev 0x1001] else []))

/-- A step of the counting encoder: the ×4 count moves, and a change of the shifted position is one tick (02 R38). -/
def WebClock.count4 (w : WebClock) (c : WcCfg) (now : Nat) (st : Int) : WebClock × List WcNote :=
  let x := BitVec.ofInt 50 (w.x4.toNat + st)
  let p := posOf c.decode w.x4
  let q := posOf c.decode x
  if p = q then ({ w with x4 := x }, [])
  else
    let (w', ns) := w.tick c now (decide (0 < st))
    ({ w' with x4 := x }, ns)

/-- A change of levels of the clock's primary encoder (02 R38, R39, R52). -/
def WebClock.primary (w : WebClock) (c : WcCfg) (now : Nat) (st : Int) (glitch : Bool) : WebClock × List WcNote :=
  if w.lost || w.onBackup then (w, [])
  else if glitch then w.glitch c
  else
    let st := if c.expectDir = 1 then -st else st
    let (w', ns) := w.count4 c now st
    ({ w' with bAtEdge := if w'.lastEdge = w.lastEdge ∧ w'.x4 = w.x4 then w.bAtEdge else w'.bX4 / (2 ^ decodeShift c.decode : Nat) }, ns)

/-- A change of levels of the clock's backup encoder (02 R52, R53). -/
def WebClock.backupEdge (w : WebClock) (c : WcCfg) (now : Nat) (st : Int) (glitch : Bool) : WebClock × List WcNote :=
  if glitch then (if w.onBackup && !w.lost then w.glitch c else (w, []))
  else
    let st := if c.expectDir = 1 then -st else st
    let sh : Int := (2 ^ decodeShift c.decode : Nat)
    let t := (w.bX4 + st).fdiv sh - w.bX4.fdiv sh
    let w := { w with bX4 := w.bX4 + st }
    if w.onBackup && !w.lost && t != 0 then w.backupTicks c now t else (w, [])

/-- Failover to the backup: the position takes the backup ticks counted since the last good primary edge (02 R53). -/
def WebClock.failover (w : WebClock) (c : WcCfg) (now : Nat) : WebClock × List WcNote :=
  let since := w.bX4.fdiv (2 ^ decodeShift c.decode : Nat) - w.bAtEdge
  let (w, ns) := ({ w with onBackup := true, suspFail := true, rem := 0 } : WebClock).backupTicks c now since
  (w, [.cnt 8, .ev 0x1002] ++ ns)

/-- LOST is set: the position freezes (02 R55, R57). -/
def WebClock.lose (w : WebClock) : WebClock × List WcNote :=
  if w.lost then (w, []) else ({ w with lost := true, vel := 0, velMs := 0, fracFrom := none }, [.cnt 9, .ev 0x1003])

/-- A LOST clock is acknowledged (02 R57). -/
def WebClock.acknowledge (w : WebClock) : WebClock :=
  { w with lost := false, standstill := true, edges := [], lastEdge := none, vel := 0, velMs := 0, velReset := false, fracFrom := none
           mark := if w.mark = .off then .off else .seeking }

/-- The raw velocity estimate, ticks/s (02 R43). -/
def WebClock.raw (w : WebClock) (c : WcCfg) (now : Nat) : Rat :=
  let win := w.edges.filter (fun e => decide (now ≤ e.1 + c.velWindow * Config.psPerUs))
  match win with
  | (t1, _) :: _ :: _ =>
    let t0 := (win.getLast?.map Prod.fst).getD t1
    let ticks : Int := (win.dropLast.map Prod.snd).sum
    if t1 = t0 then 0 else (ticks : Rat) * (Config.psPerS : Rat) / ((t1 - t0 : Nat) : Rat)
  | _ =>
    match w.lastEdge with
    | none => 0
    | some t =>
      let mag := if w.vel < 0 then -w.vel else w.vel
      let one : Rat := if now = t then mag else (Config.psPerS : Rat) / ((now - t : Nat) : Rat)
      let m := if one < mag then one else mag
      if w.lastFwd then m else -m

/-- The filtered velocity follows the raw estimate at each 10 µs update (02 R43, R44). -/
def WebClock.velocityUpdate (w : WebClock) (c : WcCfg) (now : Nat) : WebClock :=
  if w.standstill || w.lost then { w with vel := 0, velReset := false }
  else
    let r := w.raw c now
    { w with
      vel := if w.velReset then r else w.vel + (r - w.vel) / ((2 ^ c.velFilter : Nat) : Rat)
      velReset := false
      edges := w.edges.filter (fun e => decide (now ≤ e.1 + c.velWindow * Config.psPerUs)) }

/-- The velocity as reported, 1/16 tick/s (02 R44). -/
def WebClock.velReported (w : WebClock) : Int :=
  let r := roundAway (w.vel * 16)
  max (-2147483648) (min 2147483647 r)

/-- STANDSTILL is set (02 R44, R55). -/
def WebClock.stop (w : WebClock) : WebClock × List WcNote :=
  if w.standstill then (w, []) else ({ w with standstill := true, vel := 0, fracFrom := none }, [.cnt 6])

/-- A mark edge is judged, with rejection when the new phase would leave 0 to L - 1 (02 R48, R50). -/
def WebClock.markEdge (w : WebClock) (c : WcCfg) (now : Nat) : WebClock × List WcNote :=
  if w.mark = .off then (w, [])
  else
    let comp : Rat := w.vel * (c.compNs : Rat) / 1000000000
    let cap : Int := (w.phase * 256 + w.frac now : Nat) - roundAway (comp * 256)
    let e := roundAway (((cap - c.markPhase * 256 : Int) : Rat) / 256)
    let new : Int := if w.mark = .seeking then c.markPhase + roundAway comp
      else w.phase - roundAway ((e * c.markGain : Int) / (256 : Rat))
    let inWindow := w.mark == .seeking || decide (e.natAbs ≤ c.markWindow)
    if w.standstill || w.reverse || w.lost || w.markAcc || !inWindow || decide (new < 0) || decide ((w.len : Int) ≤ new) then
      (w, [.cnt 4])
    else
      ({ w with phase := new.toNat, mark := .locked, markAcc := true, misses := 0, markErr := e },
       [.cnt 3] ++ (if w.mark = .seeking then [.ev 0x1005] else []))

/-- A Z marker edge ends a marker period (02 R41, 03 R77). -/
def WebClock.marker (w : WebClock) (c : WcCfg) : WebClock × List WcNote :=
  let off := w.zSeen && c.zTicks != 0 && decide ((w.zTicks : Int) - c.zTicks > 2 ∨ (c.zTicks : Int) - w.zTicks > 2)
  let high := w.zSeen && decide (w.zTicks < 2 * w.zHigh)
  let low := w.zSeen && !high
  let hi := if high then w.zHiRun + 1 else 0
  let lo := if low then w.zLoRun + 1 else 0
  ({ w with
      zSeen := true, zTicks := 0, zHigh := 0, zHiRun := min 2 hi, zLoRun := min 2 lo
      zInv := if 2 ≤ hi then true else if 2 ≤ lo then false else w.zInv },
   if off then [.cnt 0x0A, .evImp 0x100D] else [])

/-- Encoder A and B are free of OPEN and SHORT (02 R53). -/
def Encoder.healthy (e : Encoder) : Bool := e.flagA == .ok && e.flagB == .ok

/-- The encoder of an enabled clock: its primary or its backup (02 R70, 03 R76). -/
def State.encUsed (s : State) (m : Nat) : Bool :=
  (List.range 8).any (fun n => (s.wcCfg n).enable && (n == m || (s.wcCfg n).backup == m))

/-! ### Applying a clock's notes to the machine -/

/-- Any cue of the clock is in one of the states. -/
def State.cueOn (s : State) (n : Nat) (p : CueState → Bool) : Bool :=
  s.cue.tab.any (fun x => p x.2.st && bits x.2.word.toNat 120 3 == n)

/-- A cue is ARMED or LIVE (02 R70). -/
def CueState.active : CueState → Bool
  | .armed => true
  | .live => true
  | .free => false
  | .suppressed => false

/-- Cues of a clock whose position lies after the live position wait for a forward crossing again (02 R60). -/
def State.rearmCues (s : State) (n : Nat) : State :=
  let p := (s.clock n).pos56 (s.wcCfg n) s.clk.field
  { s with cue := { s.cue with tab := s.cue.tab.map (fun x =>
      if bits x.2.word.toNat 120 3 = n ∧ after 56 (bits x.2.word.toNat 0 56) p = true
      then (x.1, { x.2 with ahead := true }) else x) } }

/-- Kicks not delivered stop holding FAULT_N at the next forward boundary of their clock (03 R83, R87). -/
def State.clearUndelivered (s : State) (n : Nat) : State :=
  { s with fd := { s.fd with kck := s.fd.kck.map (fun x =>
      (x.1, { x.2 with undeliv := x.2.undeliv.filter (· != n) })) } }

/-- An EV-10xx event with the clock's integer position in DETAIL (16 Table 16-11). -/
def State.wcEvent (s : State) (n code : Nat) : Ev :=
  { code := code, unit := n, detail := ((s.clock n).pos (s.wcCfg n)).toNat }

/-- Apply one note of clock `n`: nothing is counted or raised with ENABLE = 0 (02 R70). -/
def State.wcNote (s : State) (n : Nat) : WcNote → State
  | .cnt sub => if (s.wcCfg n).enable then s.fdCount (0x2820 + n) sub else s
  | .ev code => if (s.wcCfg n).enable then s.fdRaise (s.wcEvent n code) else s
  | .evImp code =>
    if (s.wcCfg n).enable then s.fdRaiseImp n (s.clock n).idx.toNat (s.wcEvent n code) else s
  | .boundary => s.clearUndelivered n
/-- Put what a clock's rule gives back into the machine and apply its notes. -/
def State.wcApply (s : State) (n : Nat) (r : WebClock × List WcNote) : State :=
  r.2.foldl (fun s x => s.wcNote n x) { s with wc := s.wc.put n r.1 }

end Machine
end Sys2Proof
end

