-- ==== Sys2Proof/Machine/Pins.lean ====
section
/-!
DEFINITION. The field die's pins: encoder lines, photo-eyes, triggers, kickers, the CAN line side and VFIELD supervision (03 R74-R90).
-/
namespace Sys2Proof
namespace Machine

/-! ### Access to the field die's configuration -/

/-- A write of an object held on the field die can be applied (02 R72, 03 R99). -/
def State.fieldWritable (s : State) : Bool := s.fd.on && s.direct && s.pwr.vfield == .normal

/-- Set an entry on the field die and in the compute die's copy (02 R72, R73). -/
def State.setField (s : State) (idx sub v : Nat) : State :=
  { s with fd := { s.fd with cfg := s.fd.cfg.set idx sub v }
           od := { s.od with cfg := s.od.cfg.set idx sub v } }

/-- A write of an entry held on the field die: refused while it cannot be applied (02 R72, 03 R99). -/
def State.fieldWrite (s : State) (f : State → State × Resp) : State × Resp :=
  if s.fieldWritable then f s else (s, .abort 0x08000020)

/-! ### Kickers -/

/-- A kicker (03 R81). -/
def State.kick (s : State) (n : Nat) : Kicker := s.fd.kck.at {} n

/-- The kicker's ENABLE (03 Table 3-8). -/
def State.kickEnabled (s : State) (n : Nat) : Bool := s.fnum (0x2600 + n) 1 0 == 1

/-- STATE of a kicker (03 Table 3-2). -/
def State.kickState (s : State) (n : Nat) : Nat :=
  let k := s.kick n
  if !s.kickEnabled n then 0 else if k.hot then 6 else if k.svf then 5
  else if k.latch && k.held then 4 else if k.latch then 3 else if k.on then 2 else 1

/-- A change of a kicker's state is one occurrence of its EVC source (13 Table 13-2). -/
def State.kickChanged (s' s : State) (n : Nat) : State :=
  if s'.kickState n = s.kickState n then s' else s'.fdOccur (188 + n)

/-- Replace one kicker. -/
def State.putKick (s : State) (n : Nat) (k : Kicker) : State :=
  ({ s with fd := { s.fd with kck := s.fd.kck.put n k } } : State).kickChanged s n

/-- A kick is not delivered, or is cut before its width ends (03 R83). -/
def State.undelivered (s : State) (n w : Nat) : State :=
  let s := s.fdCount (0x2815 + n) 2
  let s := s.fdRaiseImp (n * 8 + w) (s.clock w).idx.toNat { code := 0x110D, unit := n }
  { s with fd := { s.fd with kck := s.fd.kck.upd {} n (fun k => { k with undeliv := if k.undeliv.contains w then k.undeliv else w :: k.undeliv }) } }

/-- The output can be switched on, or stays on: not outside READY and ON but for a retry pulse, and VFIELD in its window (03 R83, R84, R90). -/
def State.kickDrives (s : State) (n : Nat) : Bool :=
  let k := s.kick n
  s.fd.on && s.kickEnabled n && !k.hot && !k.svf && (!k.latch || k.pulse) && !s.fd.under && !s.fd.overV

/-- Switch the output off; kicks that run are cut and a retry pulse is not judged (03 R83, R84). -/
def State.cutKick (s : State) (n : Nat) : State :=
  let k := s.kick n
  k.kicks.foldl (fun s w => s.undelivered n w)
    (s.putKick n { k with on := false, kicks := [], pulse := false, kickOn := false })

/-- Latest end of a pulse whose width is in clock time (02 R64, Table 2-3: WUNIT 00 is 50 ns, 01 is 1 µs). -/
def widthEnd (now wunit width : Nat) : Nat :=
  if wunit = 0 then now + width * 50000 else if wunit = 1 then now + width * 1000000 else 0

/-- A kick falls due on a kicker whose action is to kick (03 R82, R83, R84). -/
def State.startKick (s : State) (n w wunit width : Nat) : State :=
  let k := s.kick n
  if s.kickDrives n then
    let merged := k.on
    let s := s.putKick n { k with
      on := true, kicks := k.kicks ++ [w], kickOn := k.kickOn || k.pulse
      until_ := max k.until_ (widthEnd s.clk.field wunit width) }
    let s := s.fdCount (0x2815 + n) 1
    if merged then s.fdCount 0x2828 7 else s
  else s.undelivered n w

/-- Judge the open-load check of a kick that ends (03 R85). -/
def State.kickEnd (s : State) (n meanMa tailMa : Nat) : State :=
  let k := s.kick n
  let detect := bit (s.fnum (0x2600 + n) 6 3) 1
  let openOn := detect && decide (tailMa < 20)
  let s' := s.putKick n { k with
    on := false, kicks := [], lastMa := meanMa, until_ := 0
    openOn := if openOn then true else if tailMa < 20 then k.openOn else false
    pulse := false, kickOn := false }
  if openOn && !k.openOn then (s'.fdCount (0x2815 + n) 7).fdRaise { code := 0x110A, unit := n } else s'

/-- KICK_PULSE_END (03 R82, R85): the width of the running kicks ends. -/
def execKickPulseEnd (kicker : Fin 8) (meanMa tailMa : Nat) (s : State) : Host.Outcome State Fault Refusal :=
  .next (if (s.kick kicker).on then s.kickEnd kicker meanMa tailMa else s)

/-- MAX_ON_CUTOFF (03 R82): the output reaches MAX_ON_MS. -/
def execMaxOnCutoff (kicker : Fin 8) (meanMa tailMa : Nat) (s : State) : Host.Outcome State Fault Refusal :=
  .next (if (s.kick kicker).on then (s.kickEnd kicker meanMa tailMa).fdCount (0x2815 + kicker.val) 0x0A else s)

/-- KICKER_TRIP (03 R83): the current limit or an overload switches the output off and latches it. -/
def execKickerTrip (kicker : Fin 8) (kind : TripKind) (s : State) : Host.Outcome State Fault Refusal :=
  let n := kicker.val
  let k := s.kick n
  .next <|
    if k.on && !k.pulse then
      let s := s.cutKick n
      let s := s.putKick n { s.kick n with latch := true, held := false, retries := 0 }
      let s := s.fdCount (0x2815 + n) (match kind with | .limit6A => 3 | .overload => 4)
      s.fdRaise { code := 0x1108, unit := n }
    else s

/-- KICKER_RETRY_DUE (03 R84): a retry that cannot be made is not made. -/
def execKickerRetryDue (kicker : Fin 8) (s : State) : Host.Outcome State Fault Refusal :=
  let n := kicker.val
  let k := s.kick n
  .next <|
    if s.kickState n = 3 ∧ k.pulse = false ∧ s.fd.on = true ∧ s.fd.under = false ∧ s.fd.overV = false then
      s.putKick n { k with pulse := true }
    else s

/-- A retry passes: the latch clears and a kick that runs goes on (03 R84). -/
def Kicker.pass (k : Kicker) : Kicker :=
  { k with latch := false, held := false, retries := 0, pulse := false, kickOn := false }

/-- KICKER_RETRY_JUDGE (03 R84): 60 µs after its start a retry is judged on the current. -/
def execKickerRetryJudge (kicker : Fin 8) (limitActive over50us : Bool) (s : State) : Host.Outcome State Fault Refusal :=
  let n := kicker.val
  let k := s.kick n
  .next <|
    if !k.pulse then s
    else if !limitActive && !over50us then s.putKick n k.pass
    else
      let s := s.cutKick n
      let k := s.kick n
      let r := k.retries + 1
      let hold := !k.held && decide (16 ≤ r)
      let s := (s.putKick n { k with retries := if k.held then k.retries else r, held := k.held || hold }).fdCount (0x2815 + n) 5
      if hold then s.fdRaise { code := 0x1109, unit := n } else s

/-- COMMAND = 1 of a kicker: a retry at once in LATCHED or HELD_OFF (03 R84). -/
def State.retryNow (s : State) (n : Nat) : State × Resp :=
  s.fieldWrite (fun s =>
    let k := s.kick n
    if (s.kickState n = 3 ∨ s.kickState n = 4) ∧ k.pulse = false then
      (if s.fd.under || s.fd.overV then s else s.putKick n { k with pulse := true }, .ok)
    else (s, .abort 0x08000020))

/-- KICKER_RETRY_NOW (03 R84). -/
def execKickerRetryNow (kicker : Fin 8) (s : State) : Host.Outcome State Fault Refusal :=
  .next (s.served (0x2600 + kicker.val) (·.retryNow kicker.val))

/-- COMMAND = 2 of a kicker clears OPEN_ON (03 R85). -/
def State.clearOpenOn (s : State) (n : Nat) : State × Resp :=
  s.fieldWrite (fun s => (s.putKick n { s.kick n with openOn := false }, .ok))

/-- CLEAR_OPEN_ON (03 R85). -/
def execClearOpenOn (kicker : Fin 8) (s : State) : Host.Outcome State Fault Refusal :=
  .next (s.served (0x2600 + kicker.val) (·.clearOpenOn kicker.val))

/-- A new value of a kicker's ENABLE on the field die (03 R83, R85): 0 switches the output off and clears the flags, keeping a latch. -/
def State.applyKickEnable (s : State) (n v : Nat) : State :=
  let s' := s.setField (0x2600 + n) 1 v
  let s' := if v = 0 then
      { s' with fd := { s'.fd with kck := s'.fd.kck.upd {} n (fun k =>
          { k with on := false, kicks := [], pulse := false, kickOn := false, svf := false, openOff := false, openOn := false }) } }
    else s'
  s'.kickChanged s n

/-- A write of a kicker's ENABLE (03 R83). -/
def State.writeKickEnable (s : State) (n v : Nat) : State × Resp :=
  if 1 < v then (s, .abort 0x06090030) else s.fieldWrite (fun s => (s.applyKickEnable n v, .ok))

/-- KICKER_ENABLE_WRITE (03 R83): a write of 2600h + n:01. -/
def execKickerEnableWrite (kicker : Fin 8) (value : BitVec 8) (s : State) : Host.Outcome State Fault Refusal :=
  .next (s.served (0x2600 + kicker.val) (·.writeKickEnable kicker.val value.toNat))

/-- KICKER_SHORT_VF (03 Table 3-2, R85): an off-state output has stayed near VFIELD for 1 ms. -/
def execKickerShortVf (kicker : Fin 8) (s : State) : Host.Outcome State Fault Refusal :=
  let n := kicker.val
  let k := s.kick n
  .next <|
    if s.kickEnabled n && !k.on && !k.pulse && !k.svf then
      ((s.putKick n { k with svf := true }).fdCount (0x2815 + n) 8).fdRaise { code := 0x110B, unit := n }
    else s

/-- KICKER_SHORT_VF_CLEAR (03 Table 3-2): the short has been absent for 100 ms; a latch held comes back. -/
def execKickerShortVfClear (kicker : Fin 8) (s : State) : Host.Outcome State Fault Refusal :=
  .next (s.putKick kicker.val { s.kick kicker.val with svf := false })

/-- KICKER_THERMAL (03 Table 3-2, R83, R84): the output switches off and kicks that run are cut. -/
def execKickerThermal (kicker : Fin 8) (s : State) : Host.Outcome State Fault Refusal :=
  let n := kicker.val
  .next <|
    if (s.kick n).hot then s
    else
      let s := s.cutKick n
      let s' := s.putKick n { s.kick n with hot := true }
      if s.kickEnabled n then (s'.fdCount (0x2815 + n) 9).fdRaise { code := 0x110C, unit := n } else s'

/-- KICKER_THERMAL_CLEAR (03 Table 3-2, R84): the sensor is below 160 °C; a latch held comes back. -/
def execKickerThermalClear (kicker : Fin 8) (s : State) : Host.Outcome State Fault Refusal :=
  .next (s.putKick kicker.val { s.kick kicker.val with hot := false })

/-- OPEN_OFF_DETECT (03 R85): with OPEN_DETECT bit 0, an off output has stayed above 4 V for 10 ms. -/
def execOpenOffDetect (kicker : Fin 8) (s : State) : Host.Outcome State Fault Refusal :=
  let n := kicker.val
  let k := s.kick n
  .next <|
    if s.kickEnabled n && bit (s.fnum (0x2600 + n) 6 3) 0 && !k.on && !k.pulse && !k.openOff then
      ((s.putKick n { k with openOff := true }).fdCount (0x2815 + n) 6).fdRaise { code := 0x110A, unit := n }
    else s

/-- OPEN_OFF_CLEAR (03 R85): the condition has been absent for 10 ms. -/
def execOpenOffClear (kicker : Fin 8) (s : State) : Host.Outcome State Fault Refusal :=
  .next (s.putKick kicker.val { s.kick kicker.val with openOff := false })

/-! ### Triggers -/

/-- A trigger output (03 R79). -/
def State.trg (s : State) (k : Nat) : Trigger := s.fd.trg.at {} k

/-- Replace one trigger output. -/
def State.putTrg (s : State) (k : Nat) (t : Trigger) : State := { s with fd := { s.fd with trg := s.fd.trg.put k t } }

/-- The output's bit of 2610h:02 (03 R79). -/
def State.trgEnabled (s : State) (k : Nat) : Bool := bit (s.fnum 0x2610 2 0) k

/-- A LIVE trigger fires its output, or is without effect while it is latched off, high-impedance or VFIELD is low (02 R61, 03 R80, R90). -/
def State.fireTrigger (s : State) (k wunit width : Nat) : State :=
  let t := s.trg k
  if s.fd.on && s.trgEnabled k && !t.shorted && !s.fd.under then
    let s' := s.putTrg k { t with
      on := true
      until_ := min (max t.until_ (widthEnd s.clk.field wunit width)) (s.clk.field + 100 * Config.psPerMs) }
    if t.on then s'.fdCount 0x2828 7 else s'
  else s

/-- TRIGGER_PULSE_END (03 R80): the on-time ends at the latest WIDTH, or at 100 ms. -/
def execTriggerPulseEnd (out : Fin 32) (s : State) : Host.Outcome State Fault Refusal :=
  .next (s.putTrg out.val { s.trg out.val with on := false, until_ := 0 })

/-- TRIGGER_SHORT_TRIP (03 R80): more than 100 mA for 10 µs latches the output off. -/
def execTriggerShortTrip (out : Fin 32) (s : State) : Host.Outcome State Fault Refusal :=
  let k := out.val
  .next <|
    if s.fd.on && s.trgEnabled k && !(s.trg k).shorted && !s.fd.under then
      ((s.putTrg k { s.trg k with on := false, shorted := true, until_ := 0 }).fdCount 0x2814 (k + 1)).fdRaise
        { code := 0x1107, unit := k }
    else s

/-- A 1 in 2610h:05 re-enables that output (03 R80). -/
def State.retryTriggers (s : State) (mask : Nat) : State × Resp :=
  s.fieldWrite (fun s =>
    ({ s with fd := { s.fd with trg := s.fd.trg.map (fun x =>
        if bit mask x.1 then (x.1, { x.2 with shorted := false }) else x) } }, .ok))

/-- TRIGGER_RETRY (03 R80). -/
def execTriggerRetry (mask : BitVec 32) (s : State) : Host.Outcome State Fault Refusal :=
  .next (s.served 0x2610 (·.retryTriggers mask.toNat))

/-! ### Encoder lines -/

/-- The flag of a line. -/
def Encoder.flag (e : Encoder) : EncLine → LineCond
  | .a => e.flagA | .b => e.flagB | .z => e.flagZ

/-- Set the flag of a line. -/
def Encoder.setFlag (e : Encoder) (l : EncLine) (f : LineCond) : Encoder :=
  match l with
  | .a => { e with flagA := f } | .b => { e with flagB := f } | .z => { e with flagZ := f }

/-- Index of a line's probe. -/
def encLineIndex : EncLine → Nat
  | .a => 0 | .b => 1 | .z => 2

/-- MODE of an encoder: 0 and 1 are RS-422, 2 is HTL (03 R75). -/
def State.encMode (s : State) (m : Nat) : Nat := s.fnum 0x2630 (m + 1) 0

/-- ENCODER_PROBE (03 R76): in an RS-422 mode, a low differential voltage for 1 µs starts a 0.5 µs probe. -/
def execEncoderProbe (enc : Fin 8) (line : EncLine) (s : State) : Host.Outcome State Fault Refusal :=
  .next <|
    if s.fd.on ∧ s.encMode enc.val ≠ 2 then
      s.updEnc enc.val (fun e => { e with probe := e.probe.put (encLineIndex line) true })
    else s

/-- What a flag on A or B of encoder `m` does to clock `n` (02 R53, Table 2-2). -/
def State.clockFault (s : State) (m n : Nat) : State :=
  let c := s.wcCfg n
  let w := s.clock n
  if w.lost then s
  else if n = m ∧ w.onBackup = false then
    if c.backup ≠ 0xFF ∧ (s.enc c.backup).healthy = true then s.wcApply n (w.failover c s.clk.field)
    else s.wcApply n w.lose
  else if c.backup = m ∧ w.onBackup = true then s.wcApply n w.lose
  else s

/-- A line is flagged and its probe ends; the first flag of a line of an encoder in use counts and raises its event (03 R76). -/
def State.flagLine (s : State) (m : Nat) (line : EncLine) (short : Bool) : State :=
  let was := (s.enc m).flag line
  let s := s.updEnc m (fun e =>
    { (e.setFlag line (if short then .short else .open_)) with probe := e.probe.put (encLineIndex line) false })
  if s.encUsed m && was == .ok then
    (s.fdCount 0x2812 (if short then 9 + m else 1 + m)).fdRaise { code := if short then 0x1105 else 0x1104, unit := m }
  else s

/-- A flag on A or B of encoder `m`: the impression of a clock that uses it is no longer compared, and the clock fails over or is LOST (02 R53, R54). -/
def State.faultOf (s : State) (m n : Nat) : State :=
  let s := { s with wc := s.wc.upd {} n (fun w =>
    if n = m ∨ (s.wcCfg n).backup = m then { w with impBoth := false } else w) }
  s.clockFault m n

/-- A flag on A or B of encoder `m` reaches every clock. -/
def State.lineFaults (s : State) (m : Nat) : State := (List.range 8).foldl (fun s n => s.faultOf m n) s

/-- ENCODER_FAULT_FLAG (03 R76, 02 R53): a check ends with the line flagged. HTL mode detects no SHORT. -/
def execEncoderFaultFlag (enc : Fin 8) (line : EncLine) (short : Bool) (s : State) : Host.Outcome State Fault Refusal :=
  let m := enc.val
  .next <|
    if !s.fd.on || (s.encMode m == 2 && short) then s
    else
      match line with
      | .a => (s.flagLine m .a short).lineFaults m
      | .b => (s.flagLine m .b short).lineFaults m
      | .z => s.flagLine m .z short

/-- ENCODER_FLAG_CLEAR (03 R76): the condition has been absent for 100 µs. -/
def execEncoderFlagClear (enc : Fin 8) (line : EncLine) (s : State) : Host.Outcome State Fault Refusal :=
  .next (s.updEnc enc.val (fun e =>
    let e' := e.setFlag line .ok
    { e' with okSince := if e'.healthy && !e.healthy then s.clk.field else e.okSince }))

/-! ### Field wake -/

/-- A wake event in orderly autonomy pulls WAKE_N low (03 R89); the first one is reported (14 R351). -/
def State.fieldWake (s : State) (src : Nat) : State :=
  if s.fd.autonomy == .orderly && !s.fd.wakeN then { s with fd := { s.fd with wakeN := true, wakeSrc := src } } else s

/-- Ticks counted in orderly autonomy toward WAKE_TICKS (03 R89). -/
def State.wakeTick (s : State) (n : Nat) : State :=
  if s.fd.autonomy == .orderly && (s.wcCfg n).enable then
    let s := s.updClock n (fun w => { w with wakeTicks := w.wakeTicks + 1 })
    let lim := s.fnum 0x2630 0x11 16
    if lim ≠ 0 ∧ lim ≤ (s.clock n).wakeTicks then s.fieldWake 4 else s
  else s

/-! ### Photo-eyes -/

/-- A photo-eye input (03 R78). -/
def State.eye (s : State) (k : Nat) : PhotoEye := s.fd.pe.at {} k

/-- Mark lock of every clock whose MARK_PE is the input sees the edge (02 R48, 03 R78). -/
def State.markEdges (s : State) (k : Nat) (level : Bool) : State :=
  (List.range 8).foldl (fun s n =>
    let c := s.wcCfg n
    if c.enable ∧ c.markPe = k ∧ ((c.markEdge = 0) = (level = true)) then
      s.wcApply n ((s.clock n).markEdge c s.clk.field)
    else s) s

/-- Forward an accepted edge, at most one per microsecond; further ones are merged into the forwarded level (03 R78). -/
def State.forwardEye (s : State) (k : Nat) (level : Bool) : State :=
  let p := s.eye k
  let soon := match p.lastFwd with | none => false | some t => decide (s.clk.field < t + Config.psPerUs)
  let msg : Msg := .peEdge k level s.fieldUs
  if !s.direct then s
  else if soon then
    let q := s.fd.txq.filter (fun m => match m with | .peEdge j _ _ => j != k | _ => true)
    ({ s with fd := { s.fd with txq := q ++ [msg], pe := s.fd.pe.put k { p with fwdLevel := level } } } : State).fdCount 0x2813 (k + 1)
  else
    { s with fd := { s.fd with
        txq := s.fd.txq ++ [msg]
        pe := s.fd.pe.put k { p with lastFwd := some s.clk.field, fwdLevel := level } } }

/-- PE_EDGE (03 R78): a level is accepted; it goes to mark lock, to the wake logic and across the Field Link. -/
def execPeEdge (input : Fin 16) (level : Bool) (s : State) : Host.Outcome State Fault Refusal :=
  let k := input.val
  .next <|
    if !s.fd.on || (s.eye k).level == level then s
    else
      let s := { s with fd := { s.fd with pe := s.fd.pe.upd {} k (fun p => { p with level := level }) } }
      let s := s.markEdges k level
      let s := if bit (s.fnum 0x2620 0x12 0) k then s.fieldWake 3 else s
      s.forwardEye k level

/-! ### Encoder edges -/

/-- What one change of an encoder's levels does to clock `n` (02 R38, R52, R53). -/
def State.clockEdge (s : State) (m n : Nat) (st : Int) (glitch : Bool) : State :=
  let c := s.wcCfg n
  let now := s.clk.field
  let w := s.clock n
  let w1 := if n = m then w.primary c now st glitch else (w, [])
  let w2 := if c.backup = m then w1.1.backupEdge c now st glitch else (w1.1, [])
  if n = m ∨ c.backup = m then
    let high := (s.enc n).z
    let wz := { w2.1 with zHigh := if high then w2.1.zHigh + (w2.1.zTicks - w.zTicks) else w2.1.zHigh }
    let s := s.wcApply n (wz, w1.2 ++ w2.2)
    if (s.clock n).pos c = w.pos c then s
    else
      let s := s.wakeTick n
      if (s.clock n).lastFwd then s else s.rearmCues n
  else s

/-- QUADRATURE_EDGE (02 R38, R39): new accepted levels of an encoder's A and B. -/
def execQuadratureEdge (enc : Fin 8) (a b : Bool) (s : State) : Host.Outcome State Fault Refusal :=
  let m := enc.val
  let e := s.enc m
  .next <|
    if !s.fd.on || (e.a == a && e.b == b) then s
    else
      let glitch := e.a != a && e.b != b
      let s := s.updEnc m (fun e => { e with a := a, b := b })
      (List.range 8).foldl (fun s n => s.clockEdge m n (quadStep e.a e.b a b) glitch) s

/-- Z_MARKER_EDGE (02 R41, 03 R77): a change of the accepted level of Z; the marker edge is the rising one, or the falling one while Z is judged inverted. -/
def execZMarkerEdge (enc : Fin 8) (level : Bool) (s : State) : Host.Outcome State Fault Refusal :=
  let m := enc.val
  .next <|
    if !s.fd.on || (s.enc m).z == level then s
    else
      let s := s.updEnc m (fun e => { e with z := level })
      let w := s.clock m
      if level = w.zInv then s
      else
        let s := s.wcApply m (w.marker (s.wcCfg m))
        if (s.clock m).zInv && !w.zInv && s.encUsed m then
          (s.fdCount 0x2812 (0x11 + m)).fdRaise { code := 0x1106, unit := m }
        else s

/-- VELOCITY_UPDATE (02 R43, R44): the 10 µs update of one clock. -/
def execVelocityUpdate (wc : Fin 8) (s : State) : Host.Outcome State Fault Refusal :=
  .next (if s.fd.on then s.updClock wc.val (fun w => w.velocityUpdate (s.wcCfg wc.val) s.clk.field) else s)

/-- STANDSTILL_TIMEOUT (02 R55): no edge has been counted for STANDSTILL_US. -/
def execStandstillTimeout (wc : Fin 8) (s : State) : Host.Outcome State Fault Refusal :=
  .next (if s.fd.on && !(s.clock wc.val).lost then s.wcApply wc.val (s.clock wc.val).stop else s)

/-- COMMAND = 1 of a web clock (02 R54). -/
def State.returnToPrimary (s : State) (n : Nat) : State × Resp :=
  s.fieldWrite (fun s =>
    let w := s.clock n
    let e := s.enc n
    if w.onBackup ∧ w.lost = false ∧ e.healthy = true ∧ e.okSince + 1000 * Config.psPerMs ≤ s.clk.field then
      let s := s.updClock n (fun w =>
        { w with onBackup := false, suspFail := false, rem := 0
                 bAtEdge := w.bX4.fdiv (2 ^ decodeShift (s.wcCfg n).decode : Nat) })
      (s.wcNote n (.ev 0x100B), .ok)
    else (s, .abort 0x08000020))

/-- RETURN_TO_PRIMARY (02 R54). -/
def execReturnToPrimary (wc : Fin 8) (s : State) : Host.Outcome State Fault Refusal :=
  .next (s.served (0x2100 + wc.val) (·.returnToPrimary wc.val))

/-- COMMAND = 2 of a web clock (02 R57). -/
def State.acknowledgeLost (s : State) (n : Nat) : State × Resp :=
  s.fieldWrite (fun s =>
    let w := s.clock n
    let e := s.enc (if w.onBackup then (s.wcCfg n).backup else n)
    if w.lost ∧ e.healthy = true ∧ e.okSince + 100 * Config.psPerMs ≤ s.clk.field then
      let s := s.updClock n (fun w => w.acknowledge)
      (s.wcNote n (.ev 0x100C), .ok)
    else (s, .abort 0x08000020))

/-- ACKNOWLEDGE_LOST (02 R57). -/
def execAcknowledgeLost (wc : Fin 8) (s : State) : Host.Outcome State Fault Refusal :=
  .next (s.served (0x2100 + wc.val) (·.acknowledgeLost wc.val))

/-! ### CAN line side -/

/-- The line side of a CAN port (03 R86). -/
def State.canWire (s : State) (p : Nat) : CanLine := s.fd.canLine.at {} p

/-- CAN_LINE_SHORT (03 R86, 15 R368): the transmitter is disabled and BUS_FAULT reported. -/
def execCanLineShort (port : Fin 2) (s : State) : Host.Outcome State Fault Refusal :=
  let p := port.val
  .next <|
    if !s.fd.on || (s.canWire p).short then s
    else
      let s := { s with fd := { s.fd with canLine := s.fd.canLine.put p { s.canWire p with short := true } } }
      let s := (s.fdCount 0x281D (1 + p)).fdRaise { code := 0x110E, unit := p }
      s.updPort p (fun c => { c with lonely := 0, isLonely := false })

/-- CAN_LINE_SHORT_CLEAR (03 R86): the condition has been absent for 10 ms. -/
def execCanLineShortClear (port : Fin 2) (s : State) : Host.Outcome State Fault Refusal :=
  .next { s with fd := { s.fd with canLine := s.fd.canLine.put port.val { s.canWire port.val with short := false } } }

/-- DOMINANT_CUTOFF (03 R86): a transmit request held dominant for 4 ms is cut off. -/
def execDominantCutoff (port : Fin 2) (s : State) : Host.Outcome State Fault Refusal :=
  let p := port.val
  .next <|
    if s.fd.on then
      ({ s with fd := { s.fd with canLine := s.fd.canLine.put p { s.canWire p with cut := true } } } : State).fdCount 0x281D (3 + p)
    else s

/-! ### VFIELD supervision -/

/-- Switch every kicker off (03 R90). -/
def State.cutAllKicks (s : State) : State := (List.range 8).foldl (fun s n => s.cutKick n) s

/-- Switch every trigger output off (03 R90). -/
def State.allTriggersOff (s : State) : State :=
  { s with fd := { s.fd with trg := s.fd.trg.map (fun x => (x.1, { x.2 with on := false, until_ := 0 })) } }

/-- FIELD_DIE_START (02 R73, 03 R90, R102): VFIELD rises above 17.0 V on a field die that is off. -/
def execFieldDieStart (s : State) : Host.Outcome State Fault Refusal :=
  .next <|
    if s.fd.on then s
    else { s with fd := {}, wc := [], cue := {}, clk := { s.clk with field := 0 }, pwr := { s.pwr with vfield := .normal, fieldReversed := false } }

/-- VFIELD_UNDERVOLTAGE (03 R90): below 16.0 V for 10 µs. -/
def execVfieldUndervoltage (s : State) : Host.Outcome State Fault Refusal :=
  .next <|
    if !s.fd.on || s.fd.under then s
    else
      let s := s.cutAllKicks.allTriggersOff
      let s := { s with fd := { s.fd with under := true } }
      (s.fdCount 0x2811 1).fdRaise { code := 0x1102 }

/-- VFIELD_UNDERVOLTAGE_RECOVER (03 R90): above 17.0 V again; outputs can be driven again. -/
def execVfieldUndervoltageRecover (s : State) : Host.Outcome State Fault Refusal :=
  .next { s with fd := { s.fd with under := false } }

/-- VFIELD_OVERVOLTAGE (03 R90): above 34.0 V for 10 µs. -/
def execVfieldOvervoltage (s : State) : Host.Outcome State Fault Refusal :=
  .next <|
    if !s.fd.on || s.fd.overV then s
    else
      let s := s.cutAllKicks
      let s := { s with fd := { s.fd with overV := true } }
      (s.fdCount 0x2811 2).fdRaise { code := 0x1103 }

/-- VFIELD_OVERVOLTAGE_RECOVER (03 R90): below 33.0 V again. -/
def execVfieldOvervoltageRecover (s : State) : Host.Outcome State Fault Refusal :=
  .next { s with fd := { s.fd with overV := false } }

/-- The field die without power: its state is gone (03 R90). -/
def fieldOff : FieldDie := { on := false, txq := [] }

/-- The field die loses power: position, configuration and cues are gone, and the windows of admitted impressions count as UNSEEN (01 Table 1-11, 03 R90). -/
def State.fieldLost (s : State) : State :=
  let n := (s.cue.tab.filter (fun x => x.2.st == .live && bits x.2.word.toNat 118 2 == 1)).length
  { (s.countN 0x2800 3 n) with fd := fieldOff, wc := [], cue := {} }

/-- FIELD_DIE_RESET (03 R90, 19 R469): below 12.0 V; VFIELD_SNS reads absent (DEDUCED 33). -/
def execFieldDieReset (s : State) : Host.Outcome State Fault Refusal :=
  .next (if s.fd.on then ({ s.fieldLost with pwr := { s.pwr with vfield := .absent } } : State) else s)

/-- VFIELD_REVERSED (01 R33, 03 R90): the compute die reads VFIELD_SNS as reversed; the field die is unpowered. -/
def execVfieldReversed (s : State) : Host.Outcome State Fault Refusal :=
  let s' := if s.fd.on then s.fieldLost else s
  let s' := { s' with pwr := { s.pwr with vfield := .reversed, fieldReversed := true } }
  .next (if s.pwr.fieldReversed then s' else s'.raise { code := 0x1101 })

end Machine
end Sys2Proof
end

