-- ==== Sys2Proof/Machine/Cues.lean ====
section
/-!
DEFINITION. The cue table: installation, verdicts, crossings, expiry and the admission test (02 R58-R66), and the web clock writes that depend on it (02 R47-R49, R70).
-/
namespace Sys2Proof
namespace Machine

/-! ### The cue word of Table 2-3 -/

/-- STATION of a cue word. -/
def cueStation (w : BitVec 128) : Nat := bits w.toNat 123 5
/-- WC of a cue word. -/
def cueWc (w : BitVec 128) : Nat := bits w.toNat 120 3
/-- KIND of a cue word: 0 trigger, 1 kick. -/
def cueKind (w : BitVec 128) : Nat := bits w.toNat 118 2
/-- OUT of a cue word. -/
def cueOut (w : BitVec 128) : Nat := bits w.toNat 113 5
/-- VERDICT of a cue word. -/
def cueVerdict (w : BitVec 128) : Nat := bits w.toNat 111 2
/-- WINDOW of a cue word. -/
def cueWindow (w : BitVec 128) : Nat := bits w.toNat 106 5
/-- WUNIT of a cue word. -/
def cueWunit (w : BitVec 128) : Nat := bits w.toNat 104 2
/-- WIDTH of a cue word. -/
def cueWidth (w : BitVec 128) : Nat := bits w.toNat 92 12
/-- TAG of a cue word. -/
def cueTag (w : BitVec 128) : Nat := bits w.toNat 88 4
/-- EXPIRY of a cue word. -/
def cueExpiry (w : BitVec 128) : Nat := bits w.toNat 56 32
/-- POS of a cue word. -/
def cuePos (w : BitVec 128) : Nat := bits w.toNat 0 56

/-- Replace the field [lo + n - 1 : lo] of a cue word. -/
def setCueField (w : BitVec 128) (lo n v : Nat) : BitVec 128 :=
  BitVec.ofNat 128 (w.toNat - bits w.toNat lo n * 2 ^ lo + v % 2 ^ n * 2 ^ lo)

/-- An entry of the cue table (02 R58). -/
def State.cueAt (s : State) (e : Nat) : CueEntry := s.cue.tab.at {} e

/-- Replace an entry of the cue table. -/
def State.putCue (s : State) (e : Nat) (c : CueEntry) : State := { s with cue := { s.cue with tab := s.cue.tab.put e c } }

/-- Two cues are of one group: same STATION, WC and TAG (02 R59). -/
def sameGroup (a b : BitVec 128) : Bool :=
  cueStation a == cueStation b && cueWc a == cueWc b && cueTag a == cueTag b

/-- The group's first trigger has been crossed: an entry of the group is LIVE or SUPPRESSED (02 R59, R61). -/
def State.groupClosed (s : State) (w : BitVec 128) : Bool :=
  s.cue.tab.any (fun x => (x.2.st == .live || x.2.st == .suppressed) && sameGroup x.2.word w)

/-- Entries of a station that are not FREE (02 R59). -/
def State.cuesOf (s : State) (st : Nat) : Nat :=
  (s.cue.tab.filter (fun x => x.2.st != .free && cueStation x.2.word == st)).length

/-- CUE_QUOTA of a station (11 Table 11-10). -/
def State.cueQuota (s : State) (st : Nat) : Nat := s.num (0x2400 + st) 0x0E 0

/-- STALE_MS of a station (11 Table 11-10). -/
def State.staleMs (s : State) (st : Nat) : Nat := s.num (0x2400 + st) 0x0F 2000

/-- The live 56-bit position of a clock (02 R42). -/
def State.livePos (s : State) (n : Nat) : Nat := (s.clock n).pos56 (s.wcCfg n) s.clk.field

/-- The output a cue names is the station's, and enabled (03 R74). -/
def State.cueOutputOk (s : State) (w : BitVec 128) : Bool :=
  let k := cueOut w
  if cueKind w = 1 then s.fd.mapK.at 0 k == cueStation w && s.kickEnabled k
  else s.fd.mapT.at 0 k == cueStation w && s.trgEnabled k

/-- A field of the word holds a value that an install refuses (02 Table 2-3, R59, 03 R74). -/
def State.cueBadField (s : State) (w : BitVec 128) : Bool :=
  decide (2 ≤ cueKind w) || (decide (cueKind w = 1) && (decide (7 < cueOut w) || decide (cueVerdict w ≠ 0)))
    || decide (cueWunit w = 3) || decide (cueWidth w = 0) || !s.cueOutputOk w

/-- Result codes of CUE_RESULT; the spec gives the field and not its codes (DESIGN CHOICE 8). -/
def cueCrossed : Nat := 0
/-- Suppressed. -/
def cueSuppressed : Nat := 1
/-- Expired. -/
def cueExpired : Nat := 2
/-- Install refused. -/
def cueRefused : Nat := 3

/-- A result for the Roster, while a session carries it (03 R94). -/
def State.cueReport (s : State) (e code : Nat) : State :=
  if s.direct then s.sendCompute (.cueResult e code) else s

/-- An install is refused: one count, and EV-100A but on a disabled clock (02 R59, R70). -/
def State.refuseCue (s : State) (e : Nat) (w : BitVec 128) (sub : Nat) : State :=
  let n := cueWc w
  let s := s.fdCount 0x2828 sub
  let s := if (s.wcCfg n).enable then
      s.fdRaise { code := 0x100A, unit := n, station := cueStation w, detail := ((s.clock n).pos (s.wcCfg n)).toNat }
    else s
  s.cueReport e cueRefused

/-- The counter of a refusal, or none for an install that is accepted (02 R59). -/
def State.cueRefusal (s : State) (e : Nat) (w : BitVec 128) : Option Nat :=
  let n := cueWc w
  let c := s.clock n
  if s.cueQuota (cueStation w) ≤ s.cuesOf (cueStation w) then some 4
  else if after 56 (cuePos w) (s.livePos n) = false
    ∨ s.cueBadField w = true
    ∨ (c.reverse = true ∧ after 56 (cuePos w) (c.turn.toNat * 256) = false)
    ∨ s.groupClosed w = true
    ∨ (s.cueAt e).st ≠ .free
    ∨ (s.wcCfg n).enable = false then some 5
  else none

/-- Install a whole entry (02 R58, R59): EXPIRY is filled in and the entry is ARMED. -/
def State.installCue (s : State) (e : Nat) (w : BitVec 128) : State :=
  match s.cueRefusal e w with
  | some sub => s.refuseCue e w sub
  | none => s.putCue e
      { st := .armed, ahead := true
        word := setCueField w 56 32 (s.fieldUs + s.staleMs (cueStation w) * 1000) }

/-- The cue's position has been reached by forward motion and not acted on yet (02 R60). -/
def State.cueDue (s : State) (e : Nat) : Bool :=
  let c := s.cueAt e
  c.st != .free && c.ahead && !after 56 (cuePos c.word) (s.livePos (cueWc c.word))

/-- The group's first trigger, the ARMED trigger of lowest position (02 R61). -/
def State.firstTrigger (s : State) (w : BitVec 128) : Option Nat :=
  ((s.cue.tab.filter (fun x => x.2.st == .armed && cueKind x.2.word == 0 && sameGroup x.2.word w)).foldl
    (fun (b : Option (Nat × Nat)) x =>
      match b with
      | none => some (x.1, cuePos x.2.word)
      | some (_, p) => if before 56 (cuePos x.2.word) p then some (x.1, cuePos x.2.word) else b) none).map Prod.fst

/-- The station's admission spacing, µs; the largest until the Roster loads one (02 R66). -/
def State.spacing (s : State) (st : Nat) : Nat := s.cue.spacing.at (2 ^ 32 - 1) st

/-- The spacing test of a station at this moment; it passes where nothing was admitted since ADMIT = 1 (02 R66, 20 R479). -/
def State.spacingOk (s : State) (st : Nat) : Bool :=
  if s.cue.spacing.all (fun x => x.1 != st) then false
  else match s.cue.lastAdmit.at none st with
    | none => true
    | some t => decide (t + s.spacing st * Config.psPerUs ≤ s.clk.field)

/-- The admission test at the crossing of a group's first trigger: the group becomes LIVE or SUPPRESSED (02 R61, R66). -/
def State.decideGroup (s : State) (w : BitVec 128) : State :=
  let ok := s.spacingOk (cueStation w)
  let s' := { s with cue := { s.cue with
    tab := s.cue.tab.map (fun x =>
      if x.2.st = .armed ∧ sameGroup x.2.word w = true
      then (x.1, { x.2 with st := if ok then .live else .suppressed }) else x)
    lastAdmit := if ok then s.cue.lastAdmit.put (cueStation w) (some s.clk.field) else s.cue.lastAdmit } }
  if ok then s' else s'.fdCount 0x2829 (cueStation w + 1)

/-- Free an entry at its crossing (02 R61). -/
def State.freeCue (s : State) (e : Nat) (crossed : Bool) : State :=
  let c := s.cueAt e
  s.putCue e { c with st := .free, ahead := false, wasCrossed := crossed }

/-- The counter of a verdict's total (00 R17); PENDING counts as UNSEEN (00 R10). -/
def verdictSub (v : Nat) : Nat := if v = 1 then 1 else if v = 2 then 2 else 3

/-- The kicker's action for a verdict, PENDING taken as UNSEEN (00 R10, R11, 03 R82). -/
def State.kickAction (s : State) (k v : Nat) : Nat :=
  if v = 1 then s.fnum (0x2600 + k) 2 0 else if v = 2 then s.fnum (0x2600 + k) 3 1 else s.fnum (0x2600 + k) 4 1

/-- A trigger cue is crossed (02 R61). -/
def State.crossTrigger (s : State) (e : Nat) : State :=
  let w := (s.cueAt e).word
  let s := if (s.cueAt e).st == .armed then s.decideGroup w else s
  let live := (s.cueAt e).st == .live
  let s := if live then s.fireTrigger (cueOut w) (cueWunit w) (cueWidth w) else s
  ((s.fdCount 0x2828 1).freeCue e true).cueReport e (if live then cueCrossed else cueSuppressed)

/-- A kick cue is crossed: a LIVE one acts on its verdict, any other as UNSEEN (02 R61). -/
def State.crossKick (s : State) (e : Nat) : State :=
  let c := s.cueAt e
  let w := c.word
  let live := c.st == .live
  let v := if live && cueVerdict w != 0 then cueVerdict w else 3
  let s := if s.kickAction (cueOut w) v = 1 then s.startKick (cueOut w) (cueWc w) (cueWunit w) (cueWidth w) else s
  let s := (s.fdCount 0x2828 1).fdCount 0x2800 (verdictSub v)
  (s.freeCue e true).cueReport e (if live then cueCrossed else cueSuppressed)

/-- A cue that is due is crossed; a kick whose group's first trigger is due in the same cycle waits for it (02 R61). -/
def State.crossCue (s : State) (e : Nat) : State :=
  let c := s.cueAt e
  if cueKind c.word = 0 then s.crossTrigger e
  else
    let s := if c.st == .armed then
        match s.firstTrigger c.word with
        | some t => if s.cueDue t then s.crossTrigger t else s
        | none => s
      else s
    s.crossKick e

/-- CUE_CROSSING (02 R60, R61): the position passes a cue's POS by forward motion. -/
def execCueCrossing (entry : Fin 8192) (s : State) : Host.Outcome State Fault Refusal :=
  .next (if s.fd.on && s.cueDue entry.val then s.crossCue entry.val else s)

/-- An expired cue is freed; a kick takes its kicker's EXPIRE_ACTION (02 R63, 03 R82). -/
def State.expireCue (s : State) (e : Nat) : State :=
  let c := s.cueAt e
  let w := c.word
  let s := s.fdCount 0x2828 2
  let s := if cueKind w = 1 then
      let v := if c.st == .live then cueVerdict w else 3
      let s := s.fdCount 0x2800 (verdictSub v)
      if s.fnum (0x2600 + cueOut w) 5 0 = 1 then s.startKick (cueOut w) (cueWc w) (cueWunit w) (cueWidth w) else s
    else s
  (s.freeCue e false).cueReport e cueExpired

/-- CUE_EXPIRY (02 R63): EXPIRY has passed, judged modulo 2^32; a crossing in the same cycle is taken instead. -/
def execCueExpiry (entry : Fin 8192) (s : State) : Host.Outcome State Fault Refusal :=
  let e := entry.val
  let c := s.cueAt e
  .next <|
    if !s.fd.on || c.st == .free || before 32 s.fieldUs (cueExpiry c.word) then s
    else if s.cueDue e then s.crossCue e
    else s.expireCue e

/-- A verdict write on the field die (02 R62, 03 R97). -/
def State.writeVerdict (s : State) (e : Nat) (v : Nat) : State :=
  let c := s.cueAt e
  if c.autoUnseen then s.fdCount 0x2810 6
  else if (c.st == .armed || c.st == .live) && cueKind c.word == 1 then
    s.putCue e { c with word := setCueField c.word 111 2 v }
  else if c.st == .free && c.wasCrossed then s.fdCount 0x2828 3
  else s.fdCount 0x2828 6

/-- On entering autonomy, PENDING kick cues that are ARMED or LIVE become UNSEEN for good (03 R96, R97). -/
def State.unseenPending (s : State) : State :=
  { s with cue := { s.cue with tab := s.cue.tab.map (fun x =>
      if (x.2.st = .armed ∨ x.2.st = .live) ∧ cueKind x.2.word = 1 ∧ cueVerdict x.2.word = 0
      then (x.1, { x.2 with word := setCueField x.2.word 111 2 3, autoUnseen := true }) else x) } }

/-! ### Web clock writes -/

/-- DECODE changes: a change of scale without travel (02 R70). -/
def State.applyDecode (s : State) (n v : Nat) : State :=
  let old := (s.wcCfg n).decode
  if old = v then s
  else
    let s := s.setField (0x2100 + n) 2 v
    let s := s.updClock n (fun w =>
      let p := posOf v w.x4
      { w with
        turn := p, reverse := false, revWiring := false, fracFrom := none
        vel := w.vel * (v : Rat) / (old : Rat), velMs := w.velMs * (v : Rat) / (old : Rat), edges := []
        mark := if w.mark = .locked then .seeking else w.mark
        bAtEdge := w.bX4.fdiv (2 ^ decodeShift v : Nat), impBack := w.bX4.fdiv (2 ^ decodeShift v : Nat), impBoth := false
        jump := true })
    { s with cue := { s.cue with tab := s.cue.tab.map (fun x =>
        if cueWc x.2.word = n then (x.1, { x.2 with ahead := after 56 (cuePos x.2.word) (s.livePos n) }) else x) } }

/-- Any cue of the clock is ARMED or LIVE (02 R70). -/
def State.cuesActive (s : State) (n : Nat) : Bool := s.cueOn n CueState.active

/-- A write of 2100h + n:02 (02 R70). -/
def State.writeDecode (s : State) (n v : Nat) : State × Resp :=
  if ¬ (v = 1 ∨ v = 2 ∨ v = 4) then (s, .abort 0x06090030)
  else s.fieldWrite (fun s => if s.cuesActive n then (s, .abort 0x08000020) else (s.applyDecode n v, .ok))

/-- DECODE_WRITE (02 R70). -/
def execDecodeWrite (wc : Fin 8) (value : BitVec 8) (s : State) : Host.Outcome State Fault Refusal :=
  .next (s.served (0x2100 + wc.val) (·.writeDecode wc.val value.toNat))

/-- The mark-lock rule for one L (02 R49). -/
def markRule (phase window len : Nat) : Bool := decide (window < phase) && decide (phase + window < len)

/-- The mark-lock rule against the L in force and any L pending (02 R49). -/
def State.markRuleOk (s : State) (n phase window : Nat) : Bool :=
  let w := s.clock n
  markRule phase window w.len && (match w.lenPend with | none => true | some l => markRule phase window l)

/-- L on the field die: at once on an untouched clock, else at the next forward boundary (02 R47). -/
def State.applyLen (s : State) (n v : Nat) : State :=
  (s.setField (0x2100 + n) 4 v).updClock n (fun w =>
    if w.touched then { w with lenPend := if v = w.len then none else some v } else { w with len := v, lenPend := none })

/-- A write of 2100h + n:04 (02 R47, R49). -/
def State.writeLen (s : State) (n v : Nat) : State × Resp :=
  let c := s.wcCfg n
  if v < 1 ∨ 16777216 < v then (s, .abort 0x06090030)
  else if c.markPe ≠ 0xFF ∧ markRule c.markPhase c.markWindow v = false then (s, .abort 0x06090030)
  else s.fieldWrite (fun s => (s.applyLen n v, .ok))

/-- IMPRESSION_LEN_WRITE (02 R47, R49). -/
def execImpressionLenWrite (wc : Fin 8) (value : BitVec 32) (s : State) : Host.Outcome State Fault Refusal :=
  .next (s.served (0x2100 + wc.val) (·.writeLen wc.val value.toNat))

/-- Mark lock follows ENABLE and MARK_PE: SEEKING when it starts, OFF without either (02 R48, R70, R73). -/
def State.markFollow (s : State) (n : Nat) : State :=
  let c := s.wcCfg n
  s.updClock n (fun w =>
    if c.enable ∧ c.markPe ≠ 0xFF then (if w.mark = .off then { w with mark := .seeking, misses := 0 } else w)
    else { w with mark := .off, misses := 0 })

/-- A write of MARK_PE, MARK_PHASE or MARK_WINDOW (02 R49). -/
def State.writeMarkCfg (s : State) (n : Nat) (what : MarkEntry) (v : Nat) : State × Resp :=
  s.fieldWrite (fun s =>
    let c := s.wcCfg n
    match what with
    | .pe =>
      if ¬ (v ≤ 15 ∨ v = 0xFF) then (s, .abort 0x06090030)
      else if v ≠ 0xFF ∧ s.markRuleOk n c.markPhase c.markWindow = false then (s, .abort 0x06090030)
      else
        let s' := s.setField (0x2100 + n) 0x0C v
        let s' := if v = c.markPe then s' else s'.updClock n (fun w => { w with mark := .off })
        (s'.markFollow n, .ok)
    | .phase =>
      if c.markPe ≠ 0xFF ∧ s.markRuleOk n v c.markWindow = false then (s, .abort 0x06090030)
      else (s.setField (0x2100 + n) 0x0E v, .ok)
    | .window =>
      if c.markPe ≠ 0xFF ∧ s.markRuleOk n c.markPhase v = false then (s, .abort 0x06090030)
      else (s.setField (0x2100 + n) 0x0F v, .ok))

/-- MARK_CONFIG_WRITE (02 R49). -/
def execMarkConfigWrite (wc : Fin 8) (what : MarkEntry) (value : BitVec 32) (s : State) : Host.Outcome State Fault Refusal :=
  .next (s.served (0x2100 + wc.val) (·.writeMarkCfg wc.val what value.toNat))

end Machine
end Sys2Proof
end

