-- ==== Sys2Proof/Machine/Flags.lean ====
section
/-!
DEFINITION. Status words and pins that the state gives: FAULT_N, STAT, FD_FAULT, WC_STATUS and the read-only entries of the field die (02 Table 2-8, 03 R87, R88, Tables 3-3, 3-8, 3-9).
-/
namespace Sys2Proof
namespace Machine

/-- Any kicker is outside READY, ON and DISABLED, or a kick has not been delivered (03 R87). -/
def State.faultKick (s : State) : Bool :=
  (List.range 8).any (fun n => decide (3 ≤ s.kickState n) || !(s.kick n).undeliv.isEmpty)

/-- A trigger output is latched off (03 R87). -/
def State.faultTrg (s : State) : Bool := s.fd.trg.any (fun x => x.2.shorted)

/-- An encoder line that an enabled clock uses is flagged (03 R87). -/
def State.faultEnc (s : State) : Bool :=
  (List.range 8).any (fun m => s.encUsed m && (!(s.enc m).healthy || (s.enc m).flagZ != .ok))

/-- A CAN port is in BUS_FAULT (03 R87). -/
def State.faultCan (s : State) : Bool := (s.canWire 0).short || (s.canWire 1).short

/-- FAULT_N is low (03 R87). -/
def State.faultN (s : State) : Bool :=
  s.fd.on && (s.faultKick || s.faultTrg || s.faultEnc || s.faultCan || s.fd.under || s.fd.overV
    || s.fd.autonomy == .fault || bit s.fd.stat.toNat 8)

/-- FD_FAULT (03 Table 3-9). -/
def State.fdFault (s : State) : Nat :=
  bitIf s.fd.under 7 + bitIf s.fd.overV 6 + bitIf s.faultKick 5 + bitIf s.faultTrg 4 + bitIf s.faultEnc 3
    + bitIf s.faultCan 2 + bitIf (s.fd.autonomy != .none) 1 + bitIf s.faultN 0

/-- STAT[3:0] (03 R88, Table 3-3). -/
def State.statPins (s : State) : Nat :=
  if s.fd.under then 15
  else if s.fd.autonomy = .orderly then 13
  else if s.fd.autonomy = .fault then 14
  else if s.fd.up then bits s.fd.stat.toNat 0 4
  else 12

/-- Code of a line's flag in LINE_STATUS (03 Table 3-8). -/
def lineCode : LineCond → Nat
  | .ok => 0
  | .open_ => 1
  | .short => 2

/-- LINE_STATUS of an encoder (03 Table 3-8). -/
def Encoder.lineStatus (e : Encoder) : Nat := lineCode e.flagZ * 16 + lineCode e.flagB * 4 + lineCode e.flagA

/-- FAULTS of a kicker (03 Table 3-8). -/
def Kicker.faults (k : Kicker) : Nat := bitIf k.svf 2 + bitIf k.openOn 1 + bitIf k.openOff 0

/-- SHORTED, 2610h:04 (03 Table 3-8). -/
def State.trgShorted (s : State) : Nat := (s.fd.trg.map (fun x => bitIf x.2.shorted x.1)).sum

/-- LEVELS, 2620h:11 (03 Table 3-8). -/
def State.peLevels (s : State) : Nat := (s.fd.pe.map (fun x => bitIf x.2.level x.1)).sum

/-- The read-only entries of the field die's objects, as they stand there (03 Table 3-8). -/
def State.fieldRo (s : State) : Tab Nat :=
  let kicks : Tab Nat := (List.range 8).foldl (fun (t : Tab Nat) n =>
    ((t.put (key (0x2600 + n) 9) (s.kickState n)).put (key (0x2600 + n) 0x0A) (s.kick n).faults).put
      (key (0x2600 + n) 0x0B) (s.kick n).lastMa) []
  let pins : Tab Nat := (kicks.put (key 0x2610 4) s.trgShorted).put (key 0x2620 0x11) s.peLevels
  (List.range 8).foldl (fun (t : Tab Nat) m => t.put (key 0x2630 (9 + m)) (s.enc m).lineStatus) pins

/-- Code of MARK in WC_STATUS (02 Table 2-8). -/
def markCode : MarkState → Nat
  | .off => 0
  | .seeking => 1
  | .locked => 2

/-- A line of an encoder that a clock uses, as primary or backup, is flagged (03 R76). -/
def State.lineFault (s : State) (n : Nat) (l : EncLine) : Bool :=
  (s.enc n).flag l != .ok || (decide ((s.wcCfg n).backup < 8) && (s.enc (s.wcCfg n).backup).flag l != .ok)

/-- WC_STATUS of a clock but for VIEW_VALID (02 Table 2-8, 03 R76). -/
def State.wcStatus (s : State) (n : Nat) : Nat :=
  let w := s.clock n
  min 255 w.glitchImp * 2 ^ 16 + bitIf w.onBackup 14 + bitIf w.revWiring 13 + bitIf w.zInv 12
    + bitIf (s.lineFault n .z) 11 + bitIf (s.lineFault n .b) 10 + bitIf (s.lineFault n .a) 9
    + markCode w.mark * 64 + w.health

end Machine
end Sys2Proof
end

