-- ==== Sys2Proof/Machine/FieldLink.lean ====
section
/-!
DEFINITION. The Field Link: slots, messages, heartbeats, autonomy and training (03 R91-R98, R100; 01 R30, R37).
-/
namespace Sys2Proof
namespace Machine

/-! ### The compute die's side -/

/-- No cause of R95 keeps the compute die from sending heartbeats or training (03 R95). -/
def State.heartOk (s : State) : Bool := s.computeRuns && !s.link.xinFail && !s.link.rosterStall

/-- A view (03 R92). -/
def State.view (s : State) (n : Nat) : View := s.link.views.at {} n

/-- Every view is invalid until the clock's HIGH arrives (03 R97). -/
def Link.dropViews (l : Link) : Link := { l with views := l.views.map (fun x => (x.1, { x.2 with valid := false })) }

/-- ALL_VIEWS_VALID (03 Table 3-9). -/
def State.allViewsValid (s : State) : Bool := (List.range 8).all (fun n => (s.view n).valid)

/-- FL_STATUS (03 Table 3-9). -/
def State.flStatus (s : State) : Nat :=
  bitIf s.link.up 7 + bitIf s.allViewsValid 6 + bitIf s.link.autonomy 5 + bitIf s.link.orderly 4 + s.link.lanes.toNat

/-- The path is a CAN port's. -/
def overCan : Path → Bool
  | .sdo _ => true
  | .usdo _ => true
  | .jdt _ _ => true
  | .mailbox _ => false
  | .udp _ _ => false

/-- The protocol side of both ports becomes unavailable; received frames and everything waiting is lost (15 R380). -/
def State.canLost (s : State) : State :=
  { s with can := s.can.map (fun x => (x.1, { x.2 with avail := false, rx := [], tx := [], sdo := none, jdtWait := [], jdtXfer := [] }))
           od := { s.od with waiting := s.od.waiting.filter (fun (w : Waiting) => !overCan w.path) } }

/-- The compute die declares the link lost and stops transmitting (03 R95, R96); the chains of cue groups are broken (DEDUCED 29). -/
def State.computeLost (s : State) : State :=
  let s := { s with rs := { s.rs with chain := s.rs.chain.map (fun (x : Nat × Chain) => (x.1, { x.2 with imp := none })) } }
  let s := { s with link := { s.link.dropViews with
    up := false, autonomy := true, lanes := 0, missRun := 0, txq := [], training := false
    lostAt := some s.clk.ref, disciplined := false } }
  (s.canLost.count 0x2810 3).raise { code := 0x1201 }

/-- The field die declares the link lost: fault autonomy (03 R95, R96). -/
def State.fieldDeclaresLost (s : State) : State :=
  ({ s with
      fd := { s.fd with up := false, missRun := 0, hbRun := 0, sleepReq := 0, txq := []
                        autonomy := if s.fd.autonomy = .none then .fault else s.fd.autonomy }
      link := { s.link with disciplined := false } } : State).unseenPending

/-- The value nearest the held one whose low 10 bits are LOW, modulo 2^48 (03 R92). -/
def rebuild (held low : Nat) : Nat :=
  let base := held - held % 1024 + low
  if held + 512 < base then (base + 2 ^ 48 - 1024) % 2 ^ 48
  else if base + 512 < held then (base + 1024) % 2 ^ 48
  else base % 2 ^ 48

/-- What a good position section makes of one view (03 R91, R92). -/
def View.take (v : View) (c : SlotClock) (high : Option Nat) : View :=
  match high with
  | some h => { v with pos := BitVec.ofNat 56 ((h * 1024 + c.low.val) * 256 + c.frac.val), valid := true, health := c.health.val }
  | none =>
    if c.jump then { v with valid := false, health := c.health.val }
    else if v.valid then
      { v with pos := BitVec.ofNat 56 (rebuild (v.pos.toNat / 256) c.low.val * 256 + c.frac.val), health := c.health.val }
    else { v with health := c.health.val }

/-- The values that the compute die holds as last reported beside the position: the spec names no message for them, so a good section brings them (log entry 10). -/
def State.takeReports (s : State) : State :=
  { s with
    link := { s.link with
      statRep := s.fd.stat.toNat, faultRep := s.fdFault, last := s.fieldRo
      views := (List.range 8).foldl (fun t n =>
        let w := s.clock n
        t.upd {} n (fun v => { v with vel := w.velReported, idx := w.idx, phase := w.phase, stat := s.wcStatus n, markErr := w.markErr }))
        s.link.views }
    wc := s.wc.map (fun x => (x.1, { x.2 with jump := false })) }

/-- FIELD_SLOT_RECEIVE (03 R91, R92): a field-to-compute slot arrives. A changed HEALTH is one occurrence of the clock's source (13 Table 13-2). -/
def execFieldSlotReceive (pos : SlotPos) (crcOk : Bool) (s : State) : Host.Outcome State Fault Refusal :=
  .next <|
    if !s.link.up then s
    else if !crcOk then
      let s := s.count 0x2810 1
      let times := s.clk.ref :: s.link.crcTimes.filter (fun t => decide (s.clk.ref < t + Config.psPerMs))
      if 100 < times.length then
        ({ s with link := { s.link with crcTimes := [] } } : State).raise { code := 0x1203 }
      else { s with link := { s.link with crcTimes := times } }
    else
      let before := s.link.views
      let s := { s with link := { s.link with
        seq := pos.seq.val
        autonomy := s.link.autonomy && pos.auto
        views := (List.range 8).foldl (fun t n =>
          match pos.clocks[n]? with
          | none => t
          | some c => t.upd {} n (fun v => v.take c (if pos.seq.val % 8 = n then some pos.high.val else none))) s.link.views } }
      let s := s.takeReports
      (List.range 8).foldl (fun s n =>
        if (before.at ({} : View) n).health = (s.view n).health then s else s.occur (180 + n)) s

/-- COMPUTE_SLOT_RECEIVE (03 R93, 01 R30): TIME disciplines the field die's oscillator. -/
def execComputeSlotReceive (time : BitVec 46) (crcOk : Bool) (s : State) : Host.Outcome State Fault Refusal :=
  .next <|
    if !s.fd.on || !s.fd.up then s
    else if !crcOk then s.fdCount 0x2810 4
    else { s with link := { s.link with lastTime := time.toNat, disciplined := s.fd.autonomy == .none } }

/-! ### Heartbeats and autonomy -/

/-- Orderly autonomy begins at the field die's heartbeat time after SLEEP (03 R98). -/
def State.enterOrderly (s : State) : State :=
  let s := { s with
    fd := { s.fd with autonomy := .orderly, up := false, hibernated := s.fd.sleepReq == 2, sleepReq := 0, hbRun := 0, missRun := 0
                      wakeSrc := 0, canWake := false, txq := [] }
    wc := s.wc.map (fun (x : Nat × WebClock) => (x.1, { x.2 with wakeTicks := 0 }))
    link := { s.link.dropViews with up := false, disciplined := false, lanes := 0, txq := [], training := false } }
  (s.unseenPending.canLost).count 0x2810 7

/-- HEARTBEAT_SEND (03 R95, R88, R98): the first slot at or after a whole microsecond of the sender's clock. -/
def execHeartbeatSend (side : LinkSide) (s : State) : Host.Outcome State Fault Refusal :=
  .next <|
    match side with
    | .compute =>
      if s.link.up && s.heartOk then
        ({ s with link := { s.link with firstHb := false } } : State).sendField
          (.heartbeat (if s.link.firstHb then 1 else 0) (s.refUs % 2 ^ 32))
      else s
    | .field =>
      if !s.fd.on || !s.fd.up then s
      else if s.fd.sleepReq ≠ 0 ∧ s.fd.autonomy = .none then s.enterOrderly
      else s.sendCompute (.heartbeat 0 s.fieldUs)

/-- Drop the first occurrence of a message: it has been received. -/
def received (m : Msg) (q : List Msg) : List Msg := q.erase m

/-- The field die takes a message off the compute die's queue. -/
def State.fieldTakes (s : State) (m : Msg) : State := { s with link := { s.link with txq := received m s.link.txq } }

/-- The compute die takes a message off the field die's queue. -/
def State.computeTakes (s : State) (m : Msg) : State := { s with fd := { s.fd with txq := received m s.fd.txq } }

/-- Reports gathered before the session go out in PIN_EVENT messages (03 R97). -/
def State.reportGathered (s : State) : State :=
  let evs := s.fd.gathered.map (fun e => Msg.pinEvent (some e) 0 0)
  let cnts := s.fd.gatherCnt.map (fun x => Msg.pinEvent none x.1 x.2)
  { s with fd := { s.fd with gathered := [], gatherCnt := [], txq := s.fd.txq ++ evs ++ cnts } }

/-- The field die leaves autonomy and reports what it gathered (03 R97). -/
def State.leaveAutonomy (s : State) : State :=
  ({ s with fd := { s.fd with autonomy := .none, hbRun := 0 } } : State).reportGathered.raise { code := 0x1202 }

/-- HEARTBEAT_MISS (03 R95, R96): the timer of one side expires. -/
def execHeartbeatMiss (side : LinkSide) (s : State) : Host.Outcome State Fault Refusal :=
  .next <|
    match side with
    | .compute =>
      if !s.link.up || !s.computeRuns then s
      else
        let s := s.count 0x2810 2
        let n := s.link.missRun + 1
        if 3 ≤ n then s.computeLost else { s with link := { s.link with missRun := n } }
    | .field =>
      if !s.fd.on || !s.fd.up then s
      else
        let s := s.fdCount 0x2810 5
        let n := s.fd.missRun + 1
        if 3 ≤ n then s.fieldDeclaresLost else { s with fd := { s.fd with missRun := n, hbRun := 0 } }

/-! ### Messages to the field die -/

/-- The field die takes messages of the session: everything received in autonomy is discarded (03 R96 and its decided case). -/
def State.fieldHears (s : State) : Bool := s.fd.on && s.fd.up && s.fd.autonomy == .none

/-- VERDICT (02 R62, 03 R94, R97). -/
def execVerdict (entry : Fin 8192) (verdict : Fin 4) (s : State) : Host.Outcome State Fault Refusal :=
  let v := match verdict.val with | 0 => Verdict.pending | 1 => .pass | 2 => .fail | _ => .unseen
  let s := s.fieldTakes (.verdict entry.val v)
  .next (if s.fieldHears then s.writeVerdict entry.val verdict.val else s)

/-- CUE_PART (03 R94, 02 R59): the cue is installed when all four parts have arrived. -/
def execCuePart (entry : Fin 8192) (part : Fin 4) (data : BitVec 32) (s : State) : Host.Outcome State Fault Refusal :=
  let e := entry.val
  let s := s.fieldTakes (.cuePart e part.val data)
  .next <|
    if !s.fieldHears then s
    else
      let p := s.cue.parts.at {} e
      let p := { p with got := p.got ||| BitVec.ofNat 4 (2 ^ part.val), word := setCueField p.word (32 * part.val) 32 data.toNat }
      if p.got = 15 then
        ({ s with cue := { s.cue with parts := s.cue.parts.put e {} } } : State).installCue e p.word
      else { s with cue := { s.cue with parts := s.cue.parts.put e p } }

/-- CUE_PART_TIMEOUT (03 R94): parts that do not complete within 1 µs are discarded and counted. -/
def execCuePartTimeout (entry : Fin 8192) (s : State) : Host.Outcome State Fault Refusal :=
  .next <|
    if (s.cue.parts.at ({} : CueParts) entry.val).got = 0 then s
    else ({ s with cue := { s.cue with parts := s.cue.parts.put entry.val {} } } : State).fdCount 0x2828 5

/-- Apply a value of an entry held on the field die (02 R47, R70, R72, 03 R80, R83). -/
def State.applyField (s : State) (idx sub v : Nat) : State :=
  if 0x2100 ≤ idx ∧ idx ≤ 0x2107 then
    let n := idx - 0x2100
    if sub = 1 then (s.setField idx sub v).markFollow n
    else if sub = 2 then s.applyDecode n v
    else if sub = 4 then s.applyLen n v
    else if sub = 0x0C then
      let s' := s.setField idx sub v
      (if v = (s.wcCfg n).markPe then s' else s'.updClock n (fun w => { w with mark := .off })).markFollow n
    else s.setField idx sub v
  else if 0x2600 ≤ idx ∧ idx ≤ 0x2607 ∧ sub = 1 then s.applyKickEnable (idx - 0x2600) v
  else if idx = 0x2610 ∧ sub = 2 then
    let s := s.setField idx sub v
    { s with fd := { s.fd with trg := s.fd.trg.map (fun x => if bit v x.1 then x else (x.1, { x.2 with on := false, until_ := 0 })) } }
  else s.setField idx sub v

/-- REG_WRITE (03 R94, R100, 02 R66): a field die register takes a value. FD_FAULT is read only. -/
def execRegWrite (reg : FieldReg) (data : BitVec 32) (s : State) : Host.Outcome State Fault Refusal :=
  let s := s.fieldTakes (.regWrite reg data.toNat)
  .next <|
    if !s.fieldHears then s
    else match reg with
      | .fdStat => { s with fd := { s.fd with stat := data &&& 0x10F#32 } }
      | .fdFault => s
      | .entry idx sub => s.applyField idx sub data.toNat
      | .spacing st => { s with cue := { s.cue with spacing := s.cue.spacing.put st data.toNat } }

/-- The value of a field die register. -/
def State.fieldRegValue (s : State) : FieldReg → Nat
  | .fdStat => s.fd.stat.toNat
  | .fdFault => s.fdFault
  | .entry idx sub =>
    match s.fieldRo.find? (fun x => x.1 == key idx sub) with
    | some x => x.2
    | none => s.fnum idx sub (match entryRow idx sub with | .ok r => r.dflt | .error _ => 0)
  | .spacing st => s.spacing st

/-- REG_READ (03 R94): the field die answers with REG_DATA. -/
def execRegRead (reg : FieldReg) (s : State) : Host.Outcome State Fault Refusal :=
  let s := s.fieldTakes (.regRead reg)
  .next (if s.fieldHears then s.sendCompute (.regData reg (s.fieldRegValue reg)) else s)

/-- CAN_TX (03 R94): destuffed bits go to the port's bit engine. -/
def execCanTx (port : Fin 2) (count : Fin 49) (data : BitVec 48) (s : State) : Host.Outcome State Fault Refusal :=
  .next <|
    if s.fieldHears then
      { s with fd := { s.fd with canLine := s.fd.canLine.upd {} port.val (fun c => { c with bits := c.bits ++ [(count.val, data.toNat)] }) } }
    else s

/-- SLEEP (03 R98): orderly autonomy is to begin at the field die's next heartbeat time. -/
def execSleep (kind : Fin 3) (s : State) : Host.Outcome State Fault Refusal :=
  let s := s.fieldTakes (.sleep kind.val)
  .next (if s.fieldHears && kind.val != 0 then { s with fd := { s.fd with sleepReq := kind.val } } else s)

/-! ### Messages to the compute die -/

/-- REG_DATA (03 R94, R100): the value becomes the last one reported. -/
def execRegData (reg : FieldReg) (data : BitVec 32) (s : State) : Host.Outcome State Fault Refusal :=
  let s := s.computeTakes (.regData reg data.toNat)
  .next <|
    if !s.link.up then s
    else match reg with
      | .fdStat => { s with link := { s.link with statRep := data.toNat } }
      | .fdFault => { s with link := { s.link with faultRep := data.toNat } }
      | .entry idx sub => { s with link := { s.link with last := s.link.last.put (key idx sub) data.toNat } }
      | .spacing _ => s

/-- PE_EDGE_MESSAGE (03 R78, R94, 13 R323): the level and time of a photo-eye reach its EVC line. -/
def execPeEdgeMessage (input : Fin 16) (level : Bool) (us : BitVec 32) (s : State) : Host.Outcome State Fault Refusal :=
  let s := s.computeTakes (.peEdge input.val level us.toNat)
  .next <|
    if !s.link.up then s
    else s.report (fun r =>
      { r with evc := { r.evc with line := r.evc.line.upd {} input.val (fun x => { x with fwd := level, fwdUs := us }) } })

/-- PIN_EVENT (03 R94, R97): an event the field die reports and a count, both of which may be absent (code 0, count 0). -/
def execPinEvent (code : BitVec 16) (unit : BitVec 8) (station : BitVec 8) (detail : BitVec 64) (counter : BitVec 24) (n : Nat) (s : State) :
    Host.Outcome State Fault Refusal :=
  let e : Ev := { code := code.toNat, unit := unit.toNat, station := station.toNat, detail := detail.toNat }
  .next <|
    if !s.link.up then s
    else
      let s := if code = 0 then s else (s.computeTakes (.pinEvent (some e) 0 0)).raise e
      if n = 0 then s else (s.computeTakes (.pinEvent none counter.toNat n)).countN (counter.toNat / 256) (counter.toNat % 256) n

/-! ### Training, XIN and the Roster's stall -/

/-- LINK_RETRAIN (03 R95, R97, 01 R37): a training attempt, no sooner than 10 ms after the loss and with no cause of R95; a lane that fails keeps the link down. -/
def execLinkRetrain (lanes : BitVec 4) (s : State) : Host.Outcome State Fault Refusal :=
  let early := match s.link.lostAt with | none => false | some t => decide (s.clk.ref < t + 10 * Config.psPerMs)
  .next <|
    if s.link.up || !s.heartOk || early || !s.fd.on then s
    else { s with link := { s.link with training := true, lanes := lanes } }

/-- LINK_TRAIN_TIMEOUT (01 R37): the link is not up 100 µs after reset release; training goes on. -/
def execLinkTrainTimeout (lanes : BitVec 4) (s : State) : Host.Outcome State Fault Refusal :=
  .next <|
    if s.link.up || !s.heartOk then s
    else ({ s with link := { s.link with training := true, lanes := if s.fd.on then lanes else 0 } } : State).raise { code := 0x1204 }

/-- XIN_FAILURE (03 R95): the PLLs lose lock and the compute die stops sending heartbeats. -/
def execXinFailure (s : State) : Host.Outcome State Fault Refusal :=
  .next { s with link := { s.link with xinFail := true, training := false } }

/-- XIN_RETURN (03 R95): the cause is cleared. -/
def execXinReturn (s : State) : Host.Outcome State Fault Refusal :=
  .next { s with link := { s.link with xinFail := false } }

/-- ROSTER_STALL (03 R95): no step has completed in four step periods; the cause clears when the Roster completes a step again. -/
def execRosterStall (s : State) : Host.Outcome State Fault Refusal :=
  .next (if s.computeRuns then { s with link := { s.link with rosterStall := true, training := false } } else s)

end Machine
end Sys2Proof
end

