-- ==== Sys2Proof/Machine/Mem.lean ====
section
/-!
DEFINITION. The memories at physical addresses: the address map, byte storage in one canonical form, the Type Case, ECC, poison and fences (06 R155-R173, R181).
-/
namespace Sys2Proof
namespace Machine

/-! ### Byte storage

A memory is a list of cells with strictly rising addresses, none of which holds what the unlisted address reads as. -/

/-- The byte at an address; `d` is what an unlisted address reads as. -/
def cellGet (d : Nat → Byte) : List Host.Cell → Nat → Byte
  | [], a => d a
  | (k, b) :: r, a => if k = a then b else cellGet d r a

/-- The cells of bytes stored at rising addresses: those that differ from the default. -/
def cellsOf (d : Nat → Byte) (a : Nat) (x : List Byte) : List Host.Cell :=
  (x.zipIdx a).filterMap (fun p => if p.1 = d p.2 then none else some (p.2, p.1))

/-- Store bytes at rising addresses, keeping the canonical form. -/
def cellWrite (d : Nat → Byte) (m : List Host.Cell) (a : Nat) (x : List Byte) : List Host.Cell :=
  m.filter (fun c => decide (c.1 < a)) ++ cellsOf d a x ++ m.filter (fun c => decide (a + x.length ≤ c.1))

/-- Read `n` bytes from `a` on off cells that start no lower, newest first onto `acc`. -/
def cellTake (d : Nat → Byte) : Nat → List Host.Cell → Nat → List Byte → List Byte
  | 0, _, _, acc => acc
  | n + 1, [], a, acc => cellTake d n [] (a + 1) (d a :: acc)
  | n + 1, (k, b) :: r, a, acc =>
    if k = a then cellTake d n r (a + 1) (b :: acc) else cellTake d n ((k, b) :: r) (a + 1) (d a :: acc)

/-- Read bytes at rising addresses of a canonical memory. -/
def cellRead (d : Nat → Byte) (m : List Host.Cell) (a n : Nat) : List Byte :=
  (cellTake d n (m.filter (fun c => decide (a ≤ c.1))) a []).reverse

/-- Return a range to what its unlisted addresses read as. -/
def cellWipe (m : List Host.Cell) (a n : Nat) : List Host.Cell :=
  m.filter (fun c => !(decide (a ≤ c.1) && decide (c.1 < a + n)))

/-- Every address is above `lo`, the addresses rise strictly, and no cell holds its default. -/
def cellsFrom (d : Nat → Byte) : Nat → List Host.Cell → Bool
  | _, [] => true
  | lo, (k, b) :: r => decide (lo ≤ k) && decide (b ≠ d k) && cellsFrom d (k + 1) r

/-- The canonical form. -/
def cellsWf (d : Nat → Byte) (m : List Host.Cell) : Bool := cellsFrom d 0 m

/-- A memory that is cleared to zero at reset (06 R181). -/
def zeroByte (_ : Nat) : Byte := 0

/-! ### The address map -/

/-- The boot record that leaves the factory: SEQ 1, slot A CONFIRMED, RATE FFh (17 R418, R442, Table 17-5). -/
def factoryRecord (i : Nat) : Byte :=
  if i < 36 then ([0x52, 0x42, 0x52, 0x4A, 1, 0, 0, 0, 5, 0, 0, 0xFF, 0, 0, 0, 0, 0, 0, 0, 0, 0xFF] : List Byte).getD i 0
  else if i < 4060 then 0
  else ([0x02, 0xE9, 0xF7, 0x15, 1, 0, 0, 0] : List Byte).getD (i - 4060) 0

/-- On-chip flash as it leaves the factory: Foundry block, boot record, slot A and the Bullpen programmed, the rest erased (17 R412, R442). -/
def flashDefault (a : Nat) : Byte :=
  if a < 0x10000 then Config.factoryFlash a
  else if a < 0x11000 then factoryRecord (a % 0x10000)
  else if a < 0x20000 then 0xFF
  else if a < 0x320000 then Config.factoryFlash a
  else if a < 0x620000 then 0xFF
  else if a < 0x7A0000 then Config.factoryFlash a
  else 0xFF

/-- What an unlisted physical address reads as: flash as made, every other memory zero (06 R181; LPDDR5X without INLINE_ECC is DESIGN CHOICE 14). -/
def memDefault (a : Nat) : Byte := if a < 0x800000 then flashDefault a else 0

/-- The ranges of Table 6-2. -/
inductive Region where
  | flash
  | tcm (p : Nat)
  | regs
  | ringTable
  | quoinStore
  | scratch (way : Nat)
  | ds (c : Nat)
  | lpddr
  | outbound
  deriving DecidableEq, Repr

/-- The range an address lies in; none for a reserved address (06 R155). -/
def regionOf (a : Nat) : Option Region :=
  if a < 0x800000 then some .flash
  else if 0x8000000 ≤ a ∧ a < 0x8080000 then some (.tcm (a % 0x80000 / 0x40000))
  else if 0x10000000 ≤ a ∧ a < 0x20000000 then some .regs
  else if 0x20000000 ≤ a ∧ a < 0x20200000 then some .ringTable
  else if 0x20200000 ≤ a ∧ a < 0x20208000 then some .quoinStore
  else if 0x30000000 ≤ a ∧ a < 0x30800000 then some (.scratch (a % 0x800000 / 0x80000))
  else if 0x40000000 ≤ a ∧ a < 0x4C000000 then some (.ds (a % 0x40000000 / 0x1800000))
  else if 0x400000000 ≤ a ∧ a < 0x800000000 then some .lpddr
  else if 0x8000000000 ≤ a ∧ a < 0x10000000000 then some .outbound
  else none

/-- First address of a Deep Store channel. -/
def dsBase (c : Nat) : Nat := 0x40000000 + c * 0x1800000
/-- Bytes of a Deep Store channel. -/
def dsSize : Nat := 0x1800000
/-- First address of a way's scratch. -/
def scratchBase (w : Nat) : Nat := 0x30000000 + w * 0x80000
/-- First address of LPDDR5X. -/
def lpBase : Nat := 0x400000000

/-- A byte of physical memory. -/
def State.byte (s : State) (a : Nat) : Byte := cellGet memDefault s.mem.bytes a

/-- Bytes of physical memory. -/
def State.peek (s : State) (a n : Nat) : List Byte := cellRead memDefault s.mem.bytes a n

/-- A little-endian number in physical memory. -/
def State.peekNat (s : State) (a n : Nat) : Nat := leNat (s.peek a n)

/-- Store bytes in physical memory. -/
def State.poke (s : State) (a : Nat) (x : List Byte) : State :=
  { s with mem := { s.mem with bytes := cellWrite memDefault s.mem.bytes a x } }

/-- Return a range of physical memory to its default: a zero fill of any memory but flash. -/
def State.wipe (s : State) (a n : Nat) : State := { s with mem := { s.mem with bytes := cellWipe s.mem.bytes a n } }

/-- A Deep Store channel. -/
def State.chan (s : State) (c : Nat) : DsChan := s.mem.ds.at {} c

/-- Change one Deep Store channel. -/
def State.updChan (s : State) (c : Nat) (f : DsChan → DsChan) : State :=
  { s with mem := { s.mem with ds := s.mem.ds.upd {} c f } }

/-- Condition of a Type Case way (06 R163). -/
def State.wayMode (s : State) (w : Nat) : WayMode := s.mem.way.at .cache w

/-! ### Station resources -/

/-- A scalar of a station's object 2400h + s. -/
def State.stNum (s : State) (st sub : Nat) : Nat :=
  s.num (0x2400 + st) sub (if sub = 0x0F then 2000 else if sub = 0x20 then 0xFF else if sub = 0x25 then 100000 else if sub = 0x28 then 20 else 0)

/-- A DOMAIN of a station's object, padded with zeros. -/
def State.stDom (s : State) (st sub : Nat) : List Byte := s.od.cfg.dom? (0x2400 + st) sub

/-- The station that holds bit `b` of a mask subindex; S0 where no other does (11 R280). -/
def State.maskOwner (s : State) (sub b : Nat) : Nat :=
  ((List.range 32).find? (fun st => decide (st ≠ 0) && bit (s.stNum st sub) b)).getD 0

/-- Owner of an intake channel. -/
def State.channelOwner (s : State) (n : Nat) : Nat := s.maskOwner 2 n
/-- Owner of a Type Case way. -/
def State.wayOwner (s : State) (w : Nat) : Nat := s.maskOwner 6 w

/-- Shares that a station other than S0 has of a Deep Store channel (06 R160). -/
def State.sharesOf (s : State) (st c : Nat) : Nat := field (s.stDom st 5) c 1

/-- Shares of a Deep Store channel that S0 holds: what the stations leave of 49 (11 R280). -/
def State.sharesLeft (s : State) (c : Nat) : Nat :=
  49 - (((List.range 32).filter (· ≠ 0)).map (fun st => s.sharesOf st c)).sum

/-- The station holds a share in the channel (06 R160). -/
def State.holdsShare (s : State) (st c : Nat) : Bool :=
  if st = 0 then decide (0 < s.sharesLeft c) else decide (0 < s.sharesOf st c)

/-- An address window (11 Table 11-3). -/
structure Window where
  base : Nat
  last : Nat
  r : Bool
  w : Bool
  x : Bool
  deriving DecidableEq, Repr

/-- Decode one window entry. -/
def windowOf (b : List Byte) : Window :=
  let v := leNat b
  { base := bits v 88 40, last := bits v 48 40, x := bit v 2, w := bit v 1, r := bit v 0 }

/-- The entry is in use. -/
def Window.used (w : Window) : Bool := w.r || w.w || w.x

/-- The 16 windows that a WINDOWS value holds. -/
def windowList (dom : List Byte) : List Window :=
  ((List.range 16).map (fun i => windowOf (slice dom (16 * i) 16))).filter Window.used

/-- A station's windows. -/
def State.windows (s : State) (st : Nat) : List Window := windowList (s.stDom st 9)

/-- An address lies in a window. -/
def Window.holds (w : Window) (a : Nat) : Bool := decide (w.base ≤ a) && decide (a ≤ w.last)

/-! ### The Type Case -/

/-- The slice and set of a line (06 Table 6-4). -/
def tcSet (line : Nat) : Nat := line % 8192

/-- Cache ways of a station in which a miss may allocate (06 R162, R163). -/
def State.cacheWays (s : State) (st : Nat) : List Nat :=
  (List.range 16).filter (fun w => s.wayOwner w == st && s.wayMode w == .cache)

/-- A dirty line leaves the Type Case: discarded and counted when its channel is fenced (06 decided case). -/
def State.writeBack (s : State) (line : Nat) : State :=
  match regionOf (line * 64) with
  | some (.ds c) => if (s.chan c).fenced then s.count 0x2858 4 else s
  | _ => s

/-- Look a line up and allocate it on a miss; data always stand in memory, a line only records where they lie (06 R162). -/
def State.lookup (s : State) (st line victim : Nat) (wr : Bool) : State :=
  match s.mem.lines.find? (fun l => l.line == line) with
  | some l =>
    if wr && !l.dirty then
      { s with mem := { s.mem with lines := s.mem.lines.map (fun x => if x.line = line then { x with dirty := true } else x) } }
    else s
  | none =>
    match s.cacheWays st with
    | [] => s
    | w0 :: ws =>
      if s.mem.tagLoss then s
      else
        let w := if (w0 :: ws).contains victim then victim else w0
        let old := s.mem.lines.find? (fun l => l.way == w && tcSet l.line == tcSet line)
        let s := match old with
          | some l => if l.dirty then s.writeBack l.line else s
          | none => s
        { s with mem := { s.mem with lines :=
            { line := line, way := w, dirty := wr } :: s.mem.lines.filter (fun l => !(l.way == w && tcSet l.line == tcSet line)) } }

/-- Poison every word of a line in the memory behind the Type Case (06 R169, R170). -/
def State.poisonLine (s : State) (line : Nat) : State :=
  let ws := (List.range 8).map (fun i => line * 8 + i)
  match regionOf (line * 64) with
  | some (.ds c) => s.updChan c (fun d => { d with poison := ws ++ d.poison.filter (fun w => !ws.contains w) })
  | some .lpddr =>
    if s.mem.lpInline then
      { s with mem := { s.mem with lpPoison := ws ++ s.mem.lpPoison.filter (fun w => !ws.contains w) } }
    else s
  | _ => s

/-- A station's state (11 R290). -/
def State.stState (s : State) (st : Nat) : StationState := (s.st.at {} st).state

/-- Change a station's state: one occurrence of its source (13 Table 13-2). -/
def State.setStation (s : State) (st : Nat) (x : StationState) : State :=
  if s.stState st = x then s
  else ({ s with st := s.st.upd {} st (fun y => { y with state := x }) } : State).occur (148 + st)

/-- Stop a station's admission: ADMIT reads 0 and no further group is installed (06 R171, R173, 10 R269). -/
def State.stopAdmission (s : State) (st : Nat) : State :=
  let s := s.setNum (0x2400 + st) 0x22 0
  let s := { s with rs := { s.rs with chain := s.rs.chain.upd {} st (fun (x : Chain) => { x with imp := none }) } }
  if s.stState st = .admitting then s.setStation st .draining else s

/-- Stop admission until the station is set up again (06 R173). -/
def State.barStation (s : State) (st : Nat) : State :=
  let s := s.stopAdmission st
  { s with rs := { s.rs with chain := s.rs.chain.upd {} st (fun (x : Chain) => { x with fenced := true }) } }

/-! ### Fences -/

/-- Fence a Deep Store channel: holders' admission stops until they are set up again (06 R173). -/
def State.fence (s : State) (c : Nat) : State :=
  if (s.chan c).fenced then s
  else
    let s := s.updChan c (fun d => { d with fenced := true })
    let holders := (List.range 32).filter (fun st => s.holdsShare st c)
    let s := holders.foldl (fun s st => s.barStation st) s
    (s.count (0x2850 + c) 5).raise { code := 0x1502, unit := c }

/-- An uncorrectable error in the Deep Store: counted, logged and remembered toward a fence (06 R169, R173). -/
def State.dsUncorrectable (s : State) (c a : Nat) : State :=
  let s := (s.count (0x2850 + c) 2).raise { code := 0x1501, unit := c, detail := a }
  let now := s.clk.ref
  let loc := a / 64
  let s := s.updChan c (fun d =>
    { d with unc := (loc, now) :: d.unc.filter (fun x => x.1 != loc && decide (now ≤ x.2 + 60 * Config.psPerS)) })
  if 3 ≤ (s.chan c).unc.length then s.fence c else s

/-- Both tag copies of a line fail: admission stops on every station, nothing more is allocated, and every host hart target is signalled (06 R171, 13 R333). -/
def State.loseTags (s : State) (a : Nat) : State :=
  let s := (s.count 0x2858 3).raise { code := 0x1508, detail := a }
  let s := { s with mem := { s.mem with tagLoss := true } }
  let s := (List.range 32).foldl (fun s st => s.barStation st) s
  (List.range 4).foldl (fun s t =>
    (s.report (fun r => { r with evc := { r.evc with tgt := r.evc.tgt.upd {} t (fun x => { x with tagLoss := true }) } })).evaluate t) s

/-! ### One access to a memory -/

/-- Words that an access covers, as byte address / 8. -/
def wordsOf (a n : Nat) : List Nat := (List.range ((a + n - 1) / 8 - a / 8 + 1)).map (· + a / 8)

/-- The access covers all 8 bytes of a word. -/
def coversWord (a n w : Nat) : Bool := decide (a ≤ 8 * w) && decide (8 * w + 8 ≤ a + n)

/-- Length of an access. -/
def fabricLen : FabricOp → Nat
  | .read n => n
  | .fetch n => n
  | .write d => d.length

/-- The access writes. -/
def fabricWrites : FabricOp → Bool
  | .write _ => true
  | _ => false

/-- The bytes move: data read, or nothing after a write. -/
def State.transfer (s : State) (op : FabricOp) (a : Nat) : State × Option (List Byte) :=
  match op with
  | .read n => (s, some (s.peek a n))
  | .fetch n => (s, some (s.peek a n))
  | .write d => (s.poke a d, some [])

/-- Answer an access from poisonable memory: a poisoned word refuses a read and a partial write, and a full write clears it (06 R170). -/
def State.poisonable (s : State) (op : FabricOp) (a : Nat) (poison : List Nat) (keep : List Nat → State → State) (poisoned : State → State) :
    State × Option (List Byte) :=
  let ws := (wordsOf a (fabricLen op)).filter (fun w => poison.contains w)
  match op with
  | .write d =>
    if ws.any (fun w => !coversWord a d.length w) then (s, none)
    else ((keep (poison.filter (fun w => !ws.contains w)) s).poke a d, some [])
  | _ => if ws.isEmpty then s.transfer op a else (poisoned s, none)

/-- Type Case errors of an access to the Deep Store or LPDDR5X; none when the access goes on (06 Table 6-8, R171). -/
def State.caseErrors (s : State) (a : Nat) (err : MemErr) : State × Bool :=
  match err with
  | .caseCorrected => (s.count 0x2858 1, true)
  | .tagOne => (s.count 0x2858 3, true)
  | .tagBoth => (s.loseTags a, false)
  | .caseUncorrectable =>
    let line := a / 64
    match s.mem.lines.find? (fun l => l.line == line) with
    | none => (s, true)
    | some l =>
      let s := { s with mem := { s.mem with lines := s.mem.lines.filter (fun x => x.line != line) } }
      let s := s.count 0x2858 2
      if l.dirty then (((s.poisonLine line).count 0x2858 4).raise { code := 0x1503, detail := a }, false) else (s, true)
  | .cacheCorrected => (s.count 0x285A 9, true)
  | .cacheClean => (s.count 0x285A 0x0A, true)
  | .cacheDirty => (((s.poisonLine (a / 64)).count 0x285A 0x0A).raise { code := 0x1506, detail := a }, false)
  | _ => (s, true)

/-- An access to a Deep Store channel (06 R159, R162, R169, R170, R173). -/
def State.dsAccess (s : State) (st c a : Nat) (op : FabricOp) (err : MemErr) (victim : Nat) : State × Option (List Byte) :=
  if (s.chan c).fenced then (s, none)
  else
    let (s, ok) := s.caseErrors a err
    if !ok then (s, none)
    else
      let s := s.lookup st (a / 64) victim (fabricWrites op)
      if err = .uncorrectable then (s.dsUncorrectable c a, none)
      else
        let s := if err = .corrected then
            (s.count (0x2850 + c) 1).updChan c (fun d => { d with fix := if d.fix.contains (a / 8) then d.fix else d.fix ++ [a / 8] })
          else s
        s.poisonable op a (s.chan c).poison (fun p s => s.updChan c (fun d => { d with poison := p })) (fun s => s.count (0x2850 + c) 3)

/-- An access to LPDDR5X (06 R165-R170). -/
def State.lpAccess (s : State) (st a : Nat) (op : FabricOp) (err : MemErr) (victim : Nat) : State × Option (List Byte) :=
  if s.mem.lpFailed then (s, none)
  else if s.mem.lpUsable ≤ a - lpBase ∨ s.mem.lpUsable < a - lpBase + (fabricLen op) then (s.count 0x2859 6, none)
  else
    let (s, ok) := s.caseErrors a err
    if !ok then (s, none)
    else
      let s := s.lookup st (a / 64) victim (fabricWrites op)
      if err = .linkFailed ∨ (err = .uncorrectable ∧ s.mem.lpInline = true) then
        ((s.count 0x2859 2).raise { code := 0x1504, detail := a }, none)
      else
        let s := if err = .linkCorrected then s.count 0x2859 3
          else if err = .corrected ∧ s.mem.lpInline = true then s.count 0x2859 1 else s
        s.poisonable op a s.mem.lpPoison (fun p s => { s with mem := { s.mem with lpPoison := p } }) (fun s => s.count 0x2859 4)

/-- An access to carved scratch: an error response where the way is not carved (06 R163). -/
def State.scratchAccess (s : State) (w a : Nat) (op : FabricOp) (err : MemErr) : State × Option (List Byte) :=
  if s.wayMode w ≠ .scratch then (s.count 0x2858 6, none)
  else match err with
    | .caseUncorrectable =>
      (((s.count 0x2858 2).count 0x2858 4).raise { code := 0x1503, detail := a }, none)
    | .caseCorrected => (s.count 0x2858 1).transfer op a
    | _ => s.transfer op a

/-- An access to on-chip flash: reads only; it is written through its own registers (06 Table 6-2, 17 R413). -/
def State.flashAccess (s : State) (a : Nat) (op : FabricOp) (err : MemErr) : State × Option (List Byte) :=
  if (fabricWrites op) then (s, none)
  else match err with
    | .uncorrectable => ((s.count 0x285A 0x0E).raise { code := 0x1507, detail := a }, none)
    | .corrected => (s.count 0x285A 0x0D).transfer op a
    | _ => s.transfer op a

/-- An access to a pressroom TCM (06 Table 6-8). -/
def State.tcmAccess (s : State) (a : Nat) (op : FabricOp) (err : MemErr) : State × Option (List Byte) :=
  match err with
  | .uncorrectable => ((s.count 0x285A 0x0C).raise { code := 0x1506, detail := a }, none)
  | .corrected => (s.count 0x285A 0x0B).transfer op a
  | _ => s.transfer op a

/-- An access that has passed the Referee, served by the memory it names; none is an error response. Registers, the Ring Table, the quoin store and the outbound window are served elsewhere. -/
def State.memAccess (s : State) (st a : Nat) (op : FabricOp) (err : MemErr) (victim : Nat) : State × Option (List Byte) :=
  match regionOf a with
  | some .flash => s.flashAccess a op err
  | some (.tcm _) => s.tcmAccess a op err
  | some (.scratch w) => s.scratchAccess w a op err
  | some (.ds c) => s.dsAccess st c a op err victim
  | some .lpddr => s.lpAccess st a op err victim
  | _ => (s, none)

/-! ### Rows -/

/-- CORRECTED_REWRITE (06 R169): the Groundskeeper rewrites a corrected word, once. -/
def execCorrectedRewrite (word : BitVec 37) (s : State) : Host.Outcome State Fault Refusal :=
  .next <|
    match regionOf (word.toNat * 8) with
    | some (.ds c) => s.updChan c (fun d => { d with fix := d.fix.filter (· ≠ word.toNat) })
    | _ => s

/-- LPDDR5X_TRAINING_FAILURE (06 R168): the range becomes unavailable until reset; the failure counts and raises EV-1505. -/
def execLpddr5xTrainingFailure (s : State) : Host.Outcome State Fault Refusal :=
  .next <|
    if s.mem.lpUsable = 0 ∨ s.mem.lpFailed = true then s
    else
      (({ s with mem := { s.mem with lpFailed := true } } : State).count 0x2859 5).raise { code := 0x1505, detail := lpBase }

end Machine
end Sys2Proof
end

