-- ==== Sys2Proof/Machine/Referee.lean ====
section
/-!
DEFINITION. The Referee: attribution, the access check, violations and their log, and fabric accesses that the DV16's own blocks make (11 R284-R289, 06 R163).
-/
namespace Sys2Proof
namespace Machine

/-- A neural core. -/
def State.core (s : State) (c : Nat) : NeuralCore := s.nc.core.at {} c

/-- Change one neural core. -/
def State.updCore (s : State) (c : Nat) (f : NeuralCore → NeuralCore) : State :=
  { s with nc := { s.nc with core := s.nc.core.upd {} c f } }

/-- The station to which an access is attributed (11 Table 11-4). -/
def State.attrib (s : State) : Requester → Nat
  | .hart h m => if m then 0 else s.ref.hart.at 0 h.val
  | .press _ => 0
  | .port f => f.val
  | .intake n => s.channelOwner n.val
  | .pipeline n => s.channelOwner n.val
  | .meter n => s.channelOwner n.val
  | .core c => (s.core c.val).station
  | .roster st => st.val
  | .codec _ st => st.val
  | .mac _ => 0
  | .gk => 0

/-- REQ_TYPE and REQ_INDEX of a requester (11 Table 11-7); a Patch Meter is a pipeline's, and the Groundskeeper is never logged. -/
def reqCode : Requester → Nat × Nat
  | .hart h _ => (0, h.val)
  | .press p => (1, p.val)
  | .port f => (2, f.val)
  | .intake n => (3, n.val)
  | .pipeline n => (4, n.val)
  | .meter n => (4, n.val)
  | .core c => (5, c.val)
  | .roster _ => (6, 0)
  | .codec _ _ => (7, 0)
  | .mac m => (8, m.val)
  | .gk => (0, 0)

/-- The requester may not reach LPDDR5X (01 R26). -/
def inspectionPath : Requester → Bool
  | .intake _ => true
  | .pipeline _ => true
  | .meter _ => true
  | .core _ => true
  | .hart _ _ => false
  | .press _ => false
  | .port _ => false
  | .roster _ => false
  | .codec _ _ => false
  | .mac _ => false
  | .gk => false

/-- A number lies in a station's ring or quoin range; S0's numbers lie outside every range (11 R280, Table 11-5). -/
def State.inRange (s : State) (subFirst subCount st k : Nat) : Bool :=
  let inside (t : Nat) : Bool := decide (s.stNum t subFirst ≤ k) && decide (k < s.stNum t subFirst + s.stNum t subCount)
  if st = 0 then (List.range 32).all (fun t => t == 0 || !inside t) else inside st

/-- The ring lies in the station's range. -/
def State.ringIn (s : State) (st r : Nat) : Bool := s.inRange 0x0A 0x0B st r
/-- The quoin lies in the station's range. -/
def State.quoinIn (s : State) (st q : Nat) : Bool := s.inRange 0x0C 0x0D st q

/-- The kind of access that a window grants. -/
inductive Access where
  | read
  | write
  | fetch
  deriving DecidableEq, Repr

/-- The access that a fabric operation makes. -/
def accessOf : FabricOp → Access
  | .read _ => .read
  | .write _ => .write
  | .fetch _ => .fetch

/-- ACCESS code of the Referee log (11 Table 11-7). -/
def accessCode : Access → Nat
  | .read => 0
  | .write => 1
  | .fetch => 2

/-- A window grants the access. -/
def Window.grants (w : Window) : Access → Bool
  | .read => w.r
  | .write => w.w
  | .fetch => w.x

/-- The register rule of check 10, with QN_NFY under check 9 (11 R285): the cause of a failure. -/
def State.checkRegister (s : State) (st a : Nat) (wr : Bool) : Option Nat :=
  let block := a / 0x10000 % 0x1000
  let off := a % 0x10000
  if block = 0x10 ∨ block = 0x11 then
    if s.channelOwner (off / 0x1000) = st then none else some 10
  else if block = 0x14 ∧ off < 16 ∨ block = 0x15 ∧ off < 16 ∨ block = 0x16 ∧ off = 0x40 ∨ block = 0x1E ∧ off < 16 then none
  else if block = 0x15 ∧ 0x100 ≤ off ∧ off < 0x200 ∧ wr = false then
    if (off - 0x100) / 8 = st then none else some 9
  else if block = 0x16 ∧ (off = 8 ∨ 0x100 ≤ off ∧ off < 0x900) ∧ st ≠ 0 then some 10
  else if wr = true ∧ st ≠ 0 then some 10 else none

/-- Checks 4 and 5: the line lies in a window of the station that grants the access. -/
def State.checkWindow (s : State) (st a : Nat) (acc : Access) : Option Nat :=
  let ws := (s.windows st).filter (·.holds a)
  if ws.isEmpty then some 4 else if ws.any (·.grants acc) then none else some 5

/-- The access check on one line: the cause of the first check that fails (11 Table 11-5). The Groundskeeper is checked against the map only. -/
def State.checkLine (s : State) (req : Requester) (st a : Nat) (acc : Access) : Option Nat :=
  match regionOf a with
  | none => some 1
  | some r =>
    if req = .gk then none
    else match r with
      | .flash => if st = 0 ∧ ¬ (s.boot.foundryLock = true ∧ a < 0x10000) then none else some 3
      | .tcm _ => none
      | .regs => s.checkRegister st a (acc == .write)
      | .ringTable => if s.ringIn st (a % 0x200000 / 32) then none else some 8
      | .quoinStore =>
        if s.quoinIn st (a % 0x8000 / 8) then none else some 9
      | .scratch w => (s.checkWindow st a acc).or (if s.wayOwner w = st then none else some 7)
      | .ds c => (s.checkWindow st a acc).or (if s.holdsShare st c then none else some 6)
      | .lpddr => if inspectionPath req then some 2 else s.checkWindow st a acc
      | .outbound => s.checkWindow st a acc

/-- First address of each unit of `u` bytes that an access covers, the first as it stands. -/
def unitsOf (u a n : Nat) : List Nat :=
  a :: ((List.range ((a + n - 1) / u - a / u)).map (fun i => (a / u + 1 + i) * u))

/-- First address of each line that an access covers, the first as it stands. -/
def linesOf (a n : Nat) : List Nat := unitsOf 64 a n

/-- What an access is checked by: each line, and each descriptor or quoin of it (11 R285, Table 11-5 checks 8 and 9). -/
def checkedAt (a n : Nat) : List Nat :=
  match regionOf a with
  | some .ringTable => unitsOf 32 a n
  | some .quoinStore => unitsOf 8 a n
  | _ => linesOf a n

/-- Check every line of a request; a failing line refuses it whole: the line and its cause (11 R285). -/
def State.check (s : State) (req : Requester) (st a n : Nat) (acc : Access) : Option (Nat × Nat) :=
  (checkedAt a n).findSome? (fun l => (s.checkLine req st l acc).map (fun c => (l, c)))

/-- The station that owns what an address names; 3Fh where none does (11 Table 11-7). -/
def State.targetOwner (s : State) (a : Nat) : Nat :=
  match regionOf a with
  | some (.scratch w) => s.wayOwner w
  | some .ringTable =>
    let r := s.rg.ring.at {} (a % 0x200000 / 32)
    if r.valid then r.owner else 63
  | some .quoinStore =>
    let q := s.qn.quoin.at {} (a % 0x8000 / 8)
    if q.valid then q.owner else 63
  | some .regs =>
    let block := a / 0x10000 % 0x1000
    if block = 0x10 ∨ block = 0x11 then s.channelOwner (a % 0x10000 / 0x1000) else 63
  | some (.ds _) => ((List.range 32).find? (fun st => (s.windows st).any (fun w => w.holds a))).getD 63
  | some .lpddr => ((List.range 32).find? (fun st => (s.windows st).any (fun w => w.holds a))).getD 63
  | some .outbound => ((List.range 32).find? (fun st => (s.windows st).any (fun w => w.holds a))).getD 63
  | _ => 63

/-- Web clock of a station, 2400h + s:21. -/
def State.stClock (s : State) (st : Nat) : Nat := s.stNum st 0x21 % 8

/-- A position view (02 R72). -/
def State.viewAt (s : State) (n : Nat) : View := s.link.views.at {} n

/-- One violation: logged, counted, and EV-1901 at most once per second per station (11 R287, R289). -/
def State.violation (s : State) (req : Requester) (st cause a access size owner detail : Nat) : State :=
  let w := s.stClock st
  let v := s.viewAt w
  let seq := (s.ref.seq + 1) % 2 ^ 32
  let (ty, ix) := reqCode req
  let word := seq * 2 ^ 224 + s.xin % 2 ^ 46 * 2 ^ 178 + v.pos.toNat * 2 ^ 122 + bitIf v.valid 121 + w * 2 ^ 118
    + a % 2 ^ 40 * 2 ^ 78 + owner % 64 * 2 ^ 72 + st % 32 * 2 ^ 67 + ty * 2 ^ 63 + ix * 2 ^ 58 + access * 2 ^ 54
    + Nat.log2 size % 16 * 2 ^ 50 + cause * 2 ^ 45 + detail % 2 ^ 32 * 2 ^ 13
  let head := (s.ref.head + 1) % 64
  let s := if s.ref.written = 64 then s.count 0x2890 2 else s
  let s := { s with ref := { s.ref with
    log := s.ref.log.put head word, head := head, seq := seq, written := min 64 (s.ref.written + 1) } }
  ((((s.count 0x2890 1).count 0x2891 (st + 1)).count 0x2892 cause).occur 196).raiseSec st { code := 0x1901, station := st }

/-- An access of a DV16 block to memory: checked, then served; none is an error response (11 R285, R287). `detail` is the command number of a neural core. -/
def State.fabric (s : State) (req : Requester) (a : Nat) (op : FabricOp) (err : MemErr) (victim detail : Nat) : State × Option (List Byte) :=
  let st := s.attrib req
  match s.check req st a (fabricLen op) (accessOf op) with
  | some (l, cause) => (s.violation req st cause l (accessCode (accessOf op)) (fabricLen op) (s.targetOwner l) detail, none)
  | none => s.memAccess st a op err victim

/-- Pieces of a ring's bytes: ring-relative, so a record that passes the end continues at byte 0 (07 R185). -/
def ringPieces (base size start n : Nat) : List (Nat × Nat) :=
  let o := start % size
  if o + n ≤ size then [(base + o, n)] else [(base + o, size - o), (base, n - (size - o))]

/-- Accesses to several pieces, each of which may answer with an error. -/
def State.readPieces (s : State) (req : Requester) (detail : Nat) : List (Nat × Nat) → State × Option (List Byte)
  | [] => (s, some [])
  | (a, n) :: r =>
    match s.fabric req a (.read n) .none 0 detail with
    | (s, none) => (s, none)
    | (s, some x) =>
      match s.readPieces req detail r with
      | (s, none) => (s, none)
      | (s, some y) => (s, some (x ++ y))

/-- Writes to several pieces. -/
def State.writePieces (s : State) (req : Requester) (detail : Nat) : List (Nat × Nat) → List Byte → State × Bool
  | [], _ => (s, true)
  | (a, n) :: r, x =>
    match s.fabric req a (.write (x.take n)) .none 0 detail with
    | (s, none) => (s, false)
    | (s, some _) => s.writePieces req detail r (x.drop n)

/-! ### Carving ways (06 R163, 11 R282, R294) -/

/-- A way begins to leave cache or scratch: its lines are written back and invalidated, or its contents discarded. -/
def State.beginCarve (s : State) (w : Nat) (goal : WayMode) : State :=
  let s := if goal = .toScratch then
      (s.mem.lines.filter (fun l => l.way == w && l.dirty)).foldl (fun s l => s.writeBack l.line) s
    else s
  { s with mem := { s.mem with
      way := s.mem.way.put w goal
      lines := s.mem.lines.filter (fun l => l.way != w) } }

/-- Carve one way; a way that is not a cache way is left as it is. -/
def State.carveWay (s : State) (w : Nat) : State := if s.wayMode w = .cache then s.beginCarve w .toScratch else s

/-- Return one way; a way that is not scratch is left as it is. -/
def State.returnWay (s : State) (w : Nat) : State := if s.wayMode w = .scratch then s.beginCarve w .toCache else s

/-- SCRATCH of a station follows the ways it carves and returns (11 R282). -/
def State.setScratch (s : State) (st w : Nat) (on : Bool) : State :=
  let v := s.stNum st 7
  s.setNum (0x2400 + st) 7 (if on then (if bit v w then v else v + 2 ^ w) else (if bit v w then v - 2 ^ w else v))

/-- One half of REF_CARVE: a way not owned is a violation with cause 7 (11 Table 11-11). -/
def State.carveHalf (s : State) (req : Requester) (ways : Nat) (on : Bool) : State :=
  let st := s.attrib req
  match (List.range 16).find? (fun w => bit ways w && s.wayOwner w != st) with
  | some w => { (s.violation req st 7 0x10160040 1 4 (s.wayOwner w) 0) with out := { s.out with err := true } }
  | none =>
    let s := (List.range 16).foldl (fun s w =>
      if bit ways w then ((if on then s.carveWay w else s.returnWay w).setScratch st w on) else s) s
    { s with out := { s.out with err := false } }

/-- WAY_CARVE (06 R163): the carve half of a REF_CARVE write. -/
def execWayCarve (req : Requester) (ways : BitVec 16) (s : State) : Host.Outcome State Fault Refusal :=
  .next (s.carveHalf req ways.toNat true)

/-- WAY_RETURN (06 R163): the return half of a REF_CARVE write. -/
def execWayReturn (req : Requester) (ways : BitVec 16) (s : State) : Host.Outcome State Fault Refusal :=
  .next (s.carveHalf req ways.toNat false)

/-- A way's transfer is complete: filled with zeros and mapped, or a cache way again; counted (06 R163). -/
def State.wayDone (s : State) (w : Nat) (m : WayMode) : State :=
  let s := s.wipe (scratchBase w) 0x80000
  ({ s with mem := { s.mem with way := s.mem.way.put w m } } : State).count 0x2858 5

/-- Complete the transfer of a way, if it has one. -/
def State.endTransfer (s : State) (w : Nat) : State :=
  match s.wayMode w with
  | .toScratch => s.wayDone w .scratch
  | .toCache => s.wayDone w .cache
  | .cache => s
  | .scratch => s

/-- WAY_TRANSFER_COMPLETE (06 R163): a way is filled with zeros and mapped, or is a cache way again; counted. -/
def execWayTransferComplete (way : Fin 16) (s : State) : Host.Outcome State Fault Refusal := .next (s.endTransfer way.val)

end Machine
end Sys2Proof
end

