-- ==== Sys2Proof/Machine/Rings.lean ====
section
/-!
DEFINITION. Rings and quoins: descriptors, the pointer operations, overflow policies, quoin operations, parked waits and notification (07 R183-R192, R195-R199, R204).
-/
namespace Sys2Proof
namespace Machine

/-- The requester operates through RG_OP or QN_OP (07 R204). -/
def softRequester : Requester → Option Nat
  | .hart h _ => some h.val
  | .port f => some (4 + f.val)
  | .press p => some (36 + p.val)
  | .intake _ => none
  | .pipeline _ => none
  | .meter _ => none
  | .core _ => none
  | .roster _ => none
  | .codec _ _ => none
  | .mac _ => none
  | .gk => none

/-! ### Quoins -/

/-- A quoin (07 R195). -/
def State.quoin (s : State) (q : Nat) : Quoin := s.qn.quoin.at {} q

/-- Replace a quoin. -/
def State.putQuoin (s : State) (q : Nat) (x : Quoin) : State := { s with qn := { s.qn with quoin := s.qn.quoin.put q x } }

/-- Push a number into the owner's notification queue (07 R198). -/
def State.notify (s : State) (st q : Nat) : State :=
  let n := s.qn.nfy.at {} st
  if n.q.length < 16 then
    ({ s with qn := { s.qn with nfy := s.qn.nfy.put st { n with q := n.q ++ [q] } } } : State).occur st
  else
    let s := { s with qn := { s.qn with nfy := s.qn.nfy.put st { n with ovf := true } } }
    let s := s.count 0x2861 4
    if n.ovf then s else s.raise { code := 0x1604, station := st }

/-- The sequencer goes on past a WAIT that is met or a claim that is granted (08 R220). -/
def NeuralCore.resume (c : NeuralCore) : NeuralCore := { c with waiting := false, pc := c.pc + 1 }

/-- Parked waits on a quoin whose thresholds are reached are answered (07 R197, R199). -/
def State.answerParked (s : State) (q : Nat) : State :=
  let met := s.qn.parked.filter (fun p => p.quoin == q && decide (p.thresh ≤ (s.quoin q).count))
  let s := { s with qn := { s.qn with parked := s.qn.parked.filter (fun p => !(p.quoin == q && decide (p.thresh ≤ (s.quoin q).count))) } }
  met.foldl (fun s p => match p.who with
    | .core c => s.updCore c.val NeuralCore.resume
    | _ => s) s

/-- STATUS codes of QN_RES (07 Table 7-8). -/
inductive QnStatus where
  | ok
  | notMet
  | refused
  | damaged
  | saturated
  deriving DecidableEq, Repr

/-- Code of a status. -/
def qnCode : QnStatus → Nat
  | .ok => 0
  | .notMet => 1
  | .refused => 3
  | .damaged => 4
  | .saturated => 6

/-- The status is answered with an error response. -/
def qnError : QnStatus → Bool
  | .ok => false
  | .notMet => false
  | .refused => true
  | .damaged => true
  | .saturated => true

/-- Operations on a damaged or an invalid quoin are refused (06 R172, 07 R195). -/
def State.quoinUsable (s : State) (q : Nat) : State × Option QnStatus :=
  let x := s.quoin q
  if x.damaged then (s.count 0x2861 2, some .damaged)
  else if !x.valid then (s.count 0x2861 2, some .refused)
  else (s, none)

/-- The Referee's check of a quoin operation (11 Table 11-5 check 9, 07 R196). -/
def State.quoinGate (s : State) (req : Requester) (q : Nat) : State × Option QnStatus :=
  let st := s.attrib req
  let x := s.quoin q
  if s.quoinIn st q && (!x.valid || x.owner == st) then s.quoinUsable q
  else (s.violation req st 9 (0x20200000 + q * 8) 4 8 (if x.valid then x.owner else 63) q, some .refused)

/-- SIGNAL by a block that needs no check: COUNT ← COUNT + n, held at the top with an error response (07 R196, R198). -/
def State.signal (s : State) (q n : Nat) : State × QnStatus :=
  match s.quoinUsable q with
  | (s, some e) => (s, e)
  | (s, none) =>
    let x := s.quoin q
    if 0xFFFFFFFF < x.count + n then
      let s := s.putQuoin q { x with count := 0xFFFFFFFF }
      (((s.count 0x2861 1).raise { code := 0x1602, station := x.owner }).answerParked q, .saturated)
    else
      let s := s.putQuoin q { x with count := x.count + n }
      let s := if x.notify then s.notify x.owner q else s
      (s.answerParked q, .ok)

/-- SIGNAL by a requester. -/
def State.signalBy (s : State) (req : Requester) (q n : Nat) : State × QnStatus :=
  match s.quoinGate req q with
  | (s, some e) => (s, e)
  | (s, none) => s.signal q n

/-- RESET by a requester: COUNT ← v (07 R196). -/
def State.resetBy (s : State) (req : Requester) (q v : Nat) : State × QnStatus :=
  match s.quoinGate req q with
  | (s, some e) => (s, e)
  | (s, none) => ((s.putQuoin q { s.quoin q with count := v }).answerParked q, .ok)

/-- POLL by a requester (07 R196). -/
def State.pollBy (s : State) (req : Requester) (q t : Nat) : State × QnStatus :=
  match s.quoinGate req q with
  | (s, some e) => (s, e)
  | (s, none) => (s, if t ≤ (s.quoin q).count then .ok else .notMet)

/-- A WAIT is issued by a core's sequencer, with four places each, or by the Roster, with 32 (07 R197). -/
def parkPlaces : Requester → Nat
  | .core _ => 4
  | .roster _ => 32
  | .hart _ _ => 0
  | .press _ => 0
  | .port _ => 0
  | .intake _ => 0
  | .pipeline _ => 0
  | .meter _ => 0
  | .codec _ _ => 0
  | .mac _ => 0
  | .gk => 0

/-- Two requesters share their parking places. -/
def parkSame : Requester → Requester → Bool
  | .roster _, .roster _ => true
  | a, b => a == b

/-- WAIT: met at once, or parked; the flag tells whether it is parked (07 R197). -/
def State.waitBy (s : State) (req : Requester) (q t : Nat) : State × QnStatus × Bool :=
  match s.quoinGate req q with
  | (s, some e) => (s, e, false)
  | (s, none) =>
    if t ≤ (s.quoin q).count then (s, .ok, false)
    else if parkPlaces req ≤ (s.qn.parked.filter (fun p => parkSame p.who req)).length then (s.count 0x2861 3, .refused, false)
    else ({ s with qn := { s.qn with parked := s.qn.parked ++ [{ who := req, quoin := q, thresh := t }] } }, .notMet, true)

/-- Keep the result of an operation in QN_RES of the requester, and its error response (07 R204). -/
def State.qnResult (s : State) (req : Requester) (q : Nat) (r : QnStatus) : State :=
  let word := qnCode r * 2 ^ 60 + (s.quoin q).count
  let s := { s with out := { s.out with err := qnError r } }
  match softRequester req with
  | some k => { s with qn := { s.qn with res := s.qn.res.put k word } }
  | none => s

/-! ### Rings -/

/-- A ring descriptor (07 R183). -/
def State.ring (s : State) (r : Nat) : Ring := s.rg.ring.at {} r

/-- Replace a ring descriptor. -/
def State.putRing (s : State) (r : Nat) (d : Ring) : State := { s with rg := { s.rg with ring := s.rg.ring.put r d } }

/-- Size of a ring in bytes. -/
def Ring.size (d : Ring) : Nat := 2 ^ d.sizeLog2
/-- CLAIM − TAIL (07 R185). -/
def Ring.fill (d : Ring) : Nat := (d.claim + 2 ^ 32 - d.tail) % 2 ^ 32
/-- HEAD − TAIL (07 R185). -/
def Ring.content (d : Ring) : Nat := (d.head + 2 ^ 32 - d.tail) % 2 ^ 32

/-- STATUS codes of RG_RES (07 Table 7-8). -/
inductive RgStatus where
  | ok
  | full
  | wouldBlock
  | refused
  | damaged
  | otherProducer
  deriving DecidableEq, Repr

/-- Code of a status. -/
def rgCode : RgStatus → Nat
  | .ok => 0
  | .full => 1
  | .wouldBlock => 2
  | .refused => 3
  | .damaged => 4
  | .otherProducer => 5

/-- The status is answered with an error response. -/
def rgError : RgStatus → Bool
  | .ok => false
  | .full => false
  | .wouldBlock => false
  | .refused => true
  | .damaged => true
  | .otherProducer => true

/-- The Referee's check 8, then damage and VALID (11 Table 11-5, 07 R187). -/
def State.ringGate (s : State) (req : Requester) (r : Nat) : State × Option RgStatus :=
  let st := s.attrib req
  let d := s.ring r
  if !(s.ringIn st r && (!d.valid || d.owner == st)) then
    (s.violation req st 8 (0x20000000 + r * 32) 3 32 (if d.valid then d.owner else 63) r, some .refused)
  else if d.damaged then (s.count 0x2860 9, some .damaged)
  else if !d.valid then (s.count 0x2860 8, some .refused)
  else (s, none)

/-- A claim that fits is granted: CLAIM moves and the requester is the producer (07 R187, R188). -/
def Ring.grant (d : Ring) (req : Requester) (n : Nat) : Ring :=
  let c := (d.claim + n) % 2 ^ 32
  let d' := { d with claim := c, producer := some req, ends := d.ends ++ [c] }
  { d' with high := max d.high d'.fill }

/-- Records that drop-oldest discards to make room (07 R191). -/
def Ring.need (d : Ring) (n : Nat) : Nat := (d.fill + n - d.size + 2 ^ d.recLog2 - 1) / 2 ^ d.recLog2

/-- CLAIM: the status and the record's start; `wouldBlock` is a claim that does not fit a block ring (07 R187, R188, R191). -/
def State.claimOn (s : State) (req : Requester) (r n : Nat) (retry : Bool) : State × RgStatus × Nat :=
  match s.ringGate req r with
  | (s, some e) => (s, e, 0)
  | (s, none) =>
    let d := s.ring r
    if n = 0 ∨ n % 4 ≠ 0 ∨ d.size < n ∨ (d.recLog2 ≠ 0 ∧ n ≠ 2 ^ d.recLog2) then (s.count 0x2860 8, .refused, 0)
    else if d.ends ≠ [] ∧ d.producer ≠ some req then (s.count 0x2860 7, .otherProducer, 0)
    else if d.fill + n ≤ d.size then (s.putRing r (d.grant req n), .ok, d.claim)
    else if d.policy = 0 then ((if retry then s else s.count 0x2860 6), .wouldBlock, 0)
    else if d.policy = 2 ∧ d.recLog2 ≠ 0 ∧ d.need n * 2 ^ d.recLog2 ≤ d.content then
      let d' := { d with tail := (d.tail + d.need n * 2 ^ d.recLog2) % 2 ^ 32 }
      ((s.countN 0x2860 5 (d.need n)).putRing r (d'.grant req n), .ok, d.claim)
    else (s.count 0x2860 (1 + d.cls), .full, 0)

/-- A COMMIT is one occurrence of each ring watch source that names the ring (13 Table 13-2). -/
def State.ringWatch (s : State) (r : Nat) : State :=
  ((List.range 512).filter (fun i => srcRing (s.rep.evc.cfg (512 + i)) == r)).foldl (fun s i => s.occur (512 + i)) s

/-- COMMIT: HEAD moves to the end of the oldest uncommitted claim and PQUOIN is signalled (07 R187, R189). -/
def State.commitOn (s : State) (req : Requester) (r : Nat) : State × RgStatus :=
  match s.ringGate req r with
  | (s, some e) => (s, e)
  | (s, none) =>
    let d := s.ring r
    match d.ends with
    | [] => (s.count 0x2860 8, .refused)
    | e :: rest =>
      if d.producer ≠ some req then (s.count 0x2860 8, .refused)
      else
        let s := s.putRing r { d with head := e, ends := rest, producer := if rest = [] then none else d.producer }
        let s := s.ringWatch r
        ((if d.pqEn then (s.signal d.pquoin 1).1 else s), .ok)

/-- ABANDON: CLAIM returns to HEAD (07 R187). -/
def State.abandonOn (s : State) (req : Requester) (r : Nat) : State × RgStatus :=
  match s.ringGate req r with
  | (s, some e) => (s, e)
  | (s, none) =>
    let d := s.ring r
    if d.ends = [] ∨ d.producer ≠ some req then (s.count 0x2860 8, .refused)
    else (s.putRing r { d with claim := d.head, ends := [], producer := none }, .ok)

/-- RELEASE: n is added to TAIL and CQUOIN is signalled (07 R187). -/
def State.releaseOn (s : State) (req : Requester) (r n : Nat) : State × RgStatus :=
  match s.ringGate req r with
  | (s, some e) => (s, e)
  | (s, none) =>
    let d := s.ring r
    if n = 0 ∨ n % 4 ≠ 0 ∨ d.content < n then (s.count 0x2860 8, .refused)
    else
      let s := s.putRing r { d with tail := (d.tail + n) % 2 ^ 32 }
      ((if d.cqEn then (s.signal d.cquoin 1).1 else s), .ok)

/-- Keep the result of an operation in RG_RES of the requester, and its error response (07 R204). -/
def State.rgResult (s : State) (req : Requester) (st : RgStatus) (value : Nat) : State :=
  let s := { s with out := { s.out with err := rgError st } }
  match softRequester req with
  | some k => { s with rg := { s.rg with res := s.rg.res.put k (rgCode st * 2 ^ 60 + value) } }
  | none => s

/-- Addresses of `n` bytes of a ring from ring position `start` (07 R185). -/
def State.ringBytes (s : State) (r start n : Nat) : List (Nat × Nat) :=
  let d := s.ring r
  ringPieces d.base d.size start n

/-- Write a record into claimed space and commit it; `full` when it cannot be claimed, `refused` on an error response. -/
def State.putRecord (s : State) (req : Requester) (r : Nat) (x : List Byte) : State × RgStatus :=
  match s.claimOn req r x.length false with
  | (s, .ok, start) =>
    match s.writePieces req 0 (s.ringBytes r start x.length) x with
    | (s, true) => s.commitOn req r
    | (s, false) => ((s.abandonOn req r).1, .refused)
  | (s, e, _) => (s, e)

/-! ### Descriptors -/

/-- Decode a descriptor; DAMAGED is ignored on write (07 Table 7-2). -/
def ringOf (v : Nat) : Ring :=
  { owner := bits v 251 5, cls := bits v 249 2, policy := bits v 247 2, valid := bit v 246, sizeLog2 := bits v 240 5
    recLog2 := bits v 235 5, pqEn := bit v 234, cqEn := bit v 233, base := bits v 192 40, head := bits v 160 32
    claim := bits v 128 32, tail := bits v 96 32, pquoin := bits v 84 12, cquoin := bits v 72 12, high := bits v 32 32 }

/-- The word that reads back (07 Table 7-2). -/
def ringWord (d : Ring) : Nat :=
  d.owner * 2 ^ 251 + d.cls * 2 ^ 249 + d.policy * 2 ^ 247 + bitIf d.valid 246 + bitIf d.damaged 245 + d.sizeLog2 * 2 ^ 240
    + d.recLog2 * 2 ^ 235 + bitIf d.pqEn 234 + bitIf d.cqEn 233 + d.base * 2 ^ 192 + d.head * 2 ^ 160 + d.claim * 2 ^ 128
    + d.tail * 2 ^ 96 + d.pquoin * 2 ^ 84 + d.cquoin * 2 ^ 72 + d.high * 2 ^ 32

/-- A range lies within one window of a station that permits the access, or the union of its windows, line by line. -/
def State.inWindows (s : State) (st a n : Nat) : Bool :=
  (linesOf a n).all (fun l => (s.windows st).any (fun w => w.holds l))

/-- A range lies within one Deep Store channel, within ways of carved scratch the station owns, or within LPDDR5X (07 R184). -/
def State.oneMemory (s : State) (st a n : Nat) : Bool :=
  match regionOf a, regionOf (a + n - 1) with
  | some (.ds c), some (.ds d) => c == d
  | some (.scratch v), some (.scratch w) =>
    (List.range (w + 1)).all (fun k => decide (k < v) || (s.wayOwner k == st && s.wayMode k == .scratch))
  | some .lpddr, some .lpddr => true
  | _, _ => false

/-- An interval of addresses is covered by intervals; `fuel` bounds the walk. -/
def covered (ws : List (Nat × Nat)) : Nat → Nat → Nat → Bool
  | 0, _, _ => false
  | fuel + 1, a, last =>
    match ws.find? (fun w => decide (w.1 ≤ a) && decide (a ≤ w.2)) with
    | none => false
    | some w => if last ≤ w.2 then true else covered ws fuel (w.2 + 1) last

/-- A range lies within the station's address windows (07 R184). -/
def State.rangeInWindows (s : State) (st a n : Nat) : Bool :=
  covered ((s.windows st).map (fun w => (w.base, w.last))) 17 a (a + n - 1)

/-- The Ring Table accepts the descriptor for the station (07 R184). -/
def State.ringAcceptable (s : State) (st : Nat) (d : Ring) : Bool :=
  decide (d.owner = st) && decide (4 ≤ d.sizeLog2 ∧ d.sizeLog2 ≤ 26)
    && (d.recLog2 == 0 || decide (2 ≤ d.recLog2 ∧ d.recLog2 ≤ 25 ∧ d.recLog2 < d.sizeLog2))
    && decide (d.policy ≠ 3) && !(d.policy == 2 && d.recLog2 == 0) && !(d.cls == 3 && d.policy == 0)
    && decide (d.base % min d.size 64 = 0) && s.oneMemory st d.base d.size && s.rangeInWindows st d.base d.size
    && (!d.pqEn || s.quoinIn st d.pquoin) && (!d.cqEn || s.quoinIn st d.cquoin)
    && decide (d.head = d.claim) && decide (d.content ≤ d.size)

/-- RING_DESCRIPTOR_WRITE (07 R184, R190): one aligned 32-byte write, accepted or refused. -/
def execRingDescriptorWrite (req : Requester) (ring : Fin 65536) (data : List Byte) (s : State) : Host.Outcome State Fault Refusal :=
  let r := ring.val
  let st := s.attrib req
  let d := ringOf (leNat data)
  .next <|
    if s.ringIn st r = false then
      let t := s.ring r
      let s := s.violation req st 8 (0x20000000 + r * 32) 1 32 (if t.valid then t.owner else 63) r
      { s with out := { s.out with err := true } }
    else if data.length = 32 ∧ s.ringAcceptable st d = true then
      { (s.putRing r d) with out := { s.out with err := false } }
    else
      let s := s.count 0x2860 0x0A
      { s with out := { s.out with err := true } }

/-! ### Quoin entries -/

/-- Decode a quoin entry; DAMAGED is cleared (07 Table 7-4, R195). -/
def quoinOf (v : Nat) : Quoin := { owner := bits v 59 5, valid := bit v 58, notify := bit v 57, count := bits v 0 32 }

/-- The word that reads back (07 Table 7-4). -/
def quoinWord (x : Quoin) : Nat :=
  x.owner * 2 ^ 59 + bitIf x.valid 58 + bitIf x.notify 57 + bitIf x.damaged 56 + x.count

end Machine
end Sys2Proof
end

