-- ==== Sys2Proof/Machine/Ethernet.lean ====
section
/-!
DEFINITION. Ethernet, the PTP hardware clock and PPS (12 R308-R312).
-/
namespace Sys2Proof
namespace Machine

/-! ### Frames -/

/-- A big-endian number in `n` bytes at an offset of a frame. -/
def beField (b : List Byte) (at_ n : Nat) : Nat := (slice b at_ n).foldl (fun v x => v * 256 + x.toNat) 0

/-- Big-endian bytes of a number. -/
def beBytes (n v : Nat) : List Byte := (leBytes n v).reverse

/-- The frame carries an 802.1Q tag. -/
def hasVlan (f : List Byte) : Bool := beField f 12 2 == 0x8100
/-- Offset of the payload behind the Ethernet header. -/
def l3At (f : List Byte) : Nat := if hasVlan f then 18 else 14
/-- Ethertype behind any tag. -/
def etherType (f : List Byte) : Nat := beField f (l3At f - 2) 2
/-- 802.1Q priority, 0 without a tag. -/
def vlanPrio (f : List Byte) : Nat := if hasVlan f then beField f 14 2 / 2 ^ 13 else 0

/-- The transport header of an IP frame: protocol, its offset, and its length; none for another frame or a later fragment. -/
def transport (f : List Byte) : Option (Nat × Nat × Nat) :=
  let o := l3At f
  if etherType f = 0x0800 then
    let ihl := bits (beField f o 1) 0 4 * 4
    if bits (beField f (o + 6) 2) 0 13 ≠ 0 then none
    else some (beField f (o + 9) 1, o + ihl, beField f (o + 2) 2 - ihl)
  else if etherType f = 0x86DD then some (beField f (o + 6) 1, o + 40, beField f (o + 4) 2)
  else none

/-- The frame is UDP to a port. -/
def udpTo (f : List Byte) (port : Nat) : Bool :=
  match transport f with
  | some (p, o, _) => p == 17 && beField f (o + 2) 2 == port
  | none => false

/-- Ones-complement sum of 16-bit words. -/
def onesSum (b : List Byte) : Nat :=
  let t := (List.range ((b.length + 1) / 2)).foldl (fun v i => v + beField b (2 * i) 2) 0
  let fold (v : Nat) : Nat := v % 65536 + v / 65536
  fold (fold (fold t))

/-- The IPv4 header checksum is good. -/
def ipSumOk (f : List Byte) : Bool :=
  let o := l3At f
  etherType f == 0x0800 && onesSum (slice f o (bits (beField f o 1) 0 4 * 4)) == 0xFFFF

/-- The pseudo-header of a TCP or UDP checksum. -/
def pseudo (f : List Byte) (proto len : Nat) : List Byte :=
  let o := l3At f
  if etherType f = 0x0800 then slice f (o + 12) 8 ++ beBytes 2 proto ++ beBytes 2 len
  else slice f (o + 8) 32 ++ beBytes 4 len ++ beBytes 4 proto

/-- Offset of the checksum in a TCP or UDP header. -/
def sumAt (proto : Nat) : Nat := if proto = 6 then 16 else 6

/-- The TCP or UDP checksum is present and good. -/
def l4SumOk (f : List Byte) : Bool :=
  match transport f with
  | some (p, o, n) =>
    (p == 6 || (p == 17 && beField f (o + 6) 2 != 0)) && onesSum (pseudo f p n ++ slice f o n) == 0xFFFF
  | none => false

/-- The frame with its IPv4, TCP and UDP checksums inserted (12 R308, R310). -/
def insertSums (f : List Byte) : List Byte :=
  let o := l3At f
  let f := if etherType f = 0x0800 then
      let z := overlay f (o + 10) [0, 0]
      overlay z (o + 10) (beBytes 2 (0xFFFF - onesSum (slice z o (bits (beField z o 1) 0 4 * 4))))
    else f
  match transport f with
  | some (p, t, n) =>
    if p = 6 ∨ p = 17 then
      let z := overlay f (t + sumAt p) [0, 0]
      let c := 0xFFFF - onesSum (pseudo z p n ++ slice z t n)
      overlay z (t + sumAt p) (beBytes 2 (if p = 17 ∧ c = 0 then 0xFFFF else c))
    else f
  | none => f

/-- Offset of the PTP message of a frame (12 R309 rule 2). -/
def ptpAt (f : List Byte) : Option Nat :=
  if etherType f = 0x88F7 then some (l3At f)
  else match transport f with
    | some (p, o, _) => if p = 17 ∧ (beField f (o + 2) 2 = 319 ∨ beField f (o + 2) 2 = 320) then some (o + 8) else none
    | none => none

/-- The frame is a PTP event message: its message type is 0 to 3. -/
def ptpEvent (f : List Byte) : Bool :=
  match ptpAt f with
  | some o => decide (bits (beField f o 1) 0 4 ≤ 3)
  | none => false

/-! ### The PTP hardware clock (12 R311) -/

/-- Rate trim in force: HP_PHC_ADJ within ±500 ppm, in 2^-32 ns per ns. -/
def phcTrim (adj : Int) : Int := max (-2147483) (min 2147483 adj)

/-- The PHC in units of 2^-32 ns. -/
def State.phcFine (s : State) : Int :=
  let ns : Int := ((s.clk.ref - s.host.phcAt) / 1000 : Nat)
  ((s.host.phcSet : Int) + ns) * 2 ^ 32 + s.host.phcFrac + ns * phcTrim s.host.phcAdj

/-- The PHC in nanoseconds. -/
def State.phcNs (s : State) : Nat := (s.phcFine / 2 ^ 32).toNat

/-- A time in PHC format: 48-bit seconds, then 32-bit nanoseconds, little-endian as every memory is (06 R155). -/
def phcBytes (ns : Nat) : List Byte := leBytes 6 (ns / 1000000000) ++ leBytes 4 (ns % 1000000000)

/-- HP_PHC_GET: nanoseconds in [31:0], seconds in [79:32]. -/
def State.phcWord (s : State) : Nat := s.phcNs % 1000000000 + s.phcNs / 1000000000 % 2 ^ 48 * 2 ^ 32

/-- The clock is set: a step (12 R311). -/
def State.setPhc (s : State) (ns : Nat) : State :=
  ({ s with host := { s.host with phcSet := ns, phcAt := s.clk.ref, phcFrac := 0 } } : State).raise { code := 0x1A09 }

/-- A new trim applies from now on. -/
def State.setPhcAdj (s : State) (v : Int) : State :=
  let x := s.phcFine
  { s with host := { s.host with phcSet := (x / 2 ^ 32).toNat, phcFrac := x % 2 ^ 32, phcAt := s.clk.ref, phcAdj := v } }

/-- PHC_SET (12 R311): a write of HP_PHC_SET. -/
def execPhcSet (seconds : BitVec 48) (nanos : BitVec 32) (s : State) : Host.Outcome State Fault Refusal :=
  .next (s.setPhc (seconds.toNat * 1000000000 + nanos.toNat))

/-- PPS_EDGE (12 R312): ETH_PPS rises at a whole second of the PHC and the position views are latched. -/
def execPpsEdge (s : State) : Host.Outcome State Fault Refusal :=
  .next <|
    if !s.computeRuns then s
    else
      ({ s with host := { s.host with
        ppsAt := some s.clk.ref
        ppsPos := (List.range 8).map (fun n => (n, (s.viewAt n).pos)) } } : State).occur 98

/-- ETH_PPS: high for 100 ms after its rise (12 R312). -/
def State.ethPps (s : State) : Bool :=
  match s.host.ppsAt with
  | none => false
  | some t => decide (s.clk.ref < t + 100 * Config.psPerMs)

/-! ### Queues (12 R309, R310) -/

/-- A MAC. -/
def State.macAt (s : State) (m : Nat) : Mac := s.host.mac.at {} m
/-- Change one MAC. -/
def State.updMac (s : State) (m : Nat) (f : Mac → Mac) : State := { s with host := { s.host with mac := s.host.mac.upd {} m f } }

/-- HP_ETHm_Q of a queue. -/
def Mac.queue (x : Mac) (q : Nat) : Nat := x.q.at 0xFFFFFFFF q
/-- Receive ring of a queue; none at the reset value. -/
def Mac.rxRing (x : Mac) (q : Nat) : Option Nat := if bits (x.queue q) 0 32 = 0xFFFFFFFF then none else some (bits (x.queue q) 0 16)
/-- Transmit ring of a queue. -/
def Mac.txRing (x : Mac) (q : Nat) : Nat := bits (x.queue q) 32 16

/-- Mode of a MAC, 2D00h:04 or :05. -/
def State.macMode (s : State) (m : Nat) : Nat := s.num 0x2D00 (4 + m) 0

/-- SVC_MAC enables the UDP dictionary service on the MAC. -/
def State.svcOn (s : State) (m : Nat) : Bool :=
  s.num 0x2D00 8 0 != 0 && (s.num 0x2D00 9 0 == 2 || s.num 0x2D00 9 0 == m)

/-- The queue of a received frame: the first rule that matches (12 R309). -/
def State.rxQueue (s : State) (m : Nat) (f : List Byte) : Nat :=
  if s.svcOn m && udpTo f 47110 && etherType f == 0x0800 && beField f (l3At f + 16) 4 == s.num 0x2D00 8 0 then 3
  else if etherType f = 0x88F7 ∨ udpTo f 319 = true ∨ udpTo f 320 = true then 2
  else if 4 ≤ vlanPrio f then 1 else 0

/-- Pad to a multiple of 4 bytes. -/
def pad4 (b : List Byte) : List Byte := b ++ List.replicate ((4 - b.length % 4) % 4) 0

/-- A receive record (12 R310). -/
def State.rxRecord (s : State) (f : List Byte) : List Byte :=
  let flags := bitIf (ipSumOk f) 0 + bitIf (l4SumOk f) 1 + bitIf (hasVlan f) 2 + bitIf (ptpEvent f) 3
  pad4 (leBytes 2 f.length ++ leBytes 2 flags ++ phcBytes (s.phcNs - s.num 0x2D00 0x0B 0) ++ List.replicate 18 0 ++ f)

/-- A frame that finds no room is dropped (12 R309). -/
def State.rxDrop (s : State) (m : Nat) : State :=
  (s.count (0x28A1 + m) 3).raiseSec m { code := 0x1A06, unit := m }

/-- A good frame goes into its queue's ring. -/
def State.rxStore (s : State) (m : Fin 2) (f : List Byte) : State :=
  let q := s.rxQueue m.val f
  match (s.macAt m.val).rxRing q with
  | none => s.rxDrop m.val
  | some r =>
    match s.putRecord (.mac m) r (s.rxRecord f) with
    | (s, .ok) => s.occur (80 + 4 * m.val + q)
    | (s, .full) => s.rxDrop m.val
    | (s, .wouldBlock) => s.rxDrop m.val
    | (s, .refused) => s
    | (s, .damaged) => s
    | (s, .otherProducer) => s

/-- ETH_FRAME_RECEIVE (12 R309): a frame, without FCS, arrives. -/
def execEthFrameReceive (mac : Fin 2) (frame : List Byte) (fcsOk : Bool) (s : State) : Host.Outcome State Fault Refusal :=
  let m := mac.val
  .next <|
    if !s.computeRuns || s.pwr.entering || s.macMode m == 0 then s
    else if !fcsOk then s.count (0x28A1 + m) 4
    else if frame.length < 60 ∨ 9018 < frame.length then s.count (0x28A1 + m) 5
    else (s.count (0x28A1 + m) 1).rxStore mac frame

/-- One-step Sync: the transmit time goes into the message as IEEE 1588 lays it out, big-endian (12 R310, R311). -/
def oneStep (f : List Byte) (ns : Nat) : List Byte :=
  match ptpAt f with
  | none => f
  | some o => overlay f (o + 34) (beBytes 6 (ns / 1000000000) ++ beBytes 4 (ns % 1000000000))

/-- The frame as it goes out: the time of a one-step Sync, then the checksums. -/
def outFrame (flags ns : Nat) (f : List Byte) : List Byte :=
  let f := if bit flags 2 then oneStep f ns else f
  if bit flags 0 then insertSums f else f

/-- Return a transmit timestamp; a full ring drops it (12 R310). -/
def State.returnStamp (s : State) (m : Fin 2) (tag ns : Nat) : State :=
  let r := (s.macAt m.val).tsRing
  if r = 0xFFFFFFFF then s.count (0x28A1 + m.val) 6
  else
    match s.putRecord (.mac m) (bits r 0 16) (leBytes 4 tag ++ phcBytes ns ++ [0, 0]) with
    | (s, .ok) => s.occur (96 + m.val)
    | (s, _) => s.count (0x28A1 + m.val) 6

/-- ETH_FRAME_TRANSMIT (12 R310): the oldest record of a transmit queue is sent and released. -/
def execEthFrameTransmit (mac : Fin 2) (queue : Fin 4) (s : State) : Host.Outcome State Fault Refusal :=
  let m := mac.val
  let r := (s.macAt m).txRing queue.val
  let d := s.ring r
  .next <|
    if !s.computeRuns || s.pwr.entering || s.macMode m == 0 || decide (d.content < 16) then s
    else
      match s.readPieces (.mac mac) 0 (s.ringBytes r d.tail 16) with
      | (s, none) => s
      | (s, some h) =>
        let len := field h 0 2
        let whole := (16 + len + 3) / 4 * 4
        if d.content < whole then s
        else
          match s.readPieces (.mac mac) 0 (s.ringBytes r ((d.tail + 16) % 2 ^ 32) len) with
          | (s, none) => (s.releaseOn (.mac mac) r whole).1
          | (s, some f) =>
            let ns := s.phcNs + s.num 0x2D00 0x0A 0
            let flags := field h 2 1
            let s := (s.updMac m (fun x => { x with sent := outFrame flags ns f })).count (0x28A1 + m) 2
            let s := (s.releaseOn (.mac mac) r whole).1.occur (88 + 4 * m + queue.val)
            if bit flags 1 then s.returnStamp mac (field h 4 4) ns else s

/-- ETH_LINK_CHANGE (12 R308). -/
def execEthLinkChange (mac : Fin 2) (code : Fin 5) (s : State) : Host.Outcome State Fault Refusal :=
  let m := mac.val
  .next <|
    if !s.computeRuns || (s.macAt m).link == code.val then s
    else ((s.updMac m (fun x => { x with link := code.val })).count (0x28A1 + m) 7).raise { code := 0x1A05, unit := m }

end Machine
end Sys2Proof
end

