-- ==== Sys2Proof/Machine/Numerics.lean ====
section
/-!
DEFINITION. The exact arithmetic of the neural core: rounding, requantisation, element types, and the bfloat16 of SOFTMAX (09 R234, R242, R246, R247).
-/
namespace Sys2Proof
namespace Machine

/-- Round to nearest, ties to even, of p / d (09 R242). -/
def rneDiv (p : Int) (d : Nat) : Int :=
  let q := p.fdiv d
  let r := 2 * (p - q * d)
  if (d : Int) < r ∨ (r = d ∧ q % 2 ≠ 0) then q + 1 else q

/-- RNE at a right shift (09 R242). -/
def rne (p : Int) (rs : Nat) : Int := if rs = 0 then p else rneDiv p (2 ^ rs)

/-- Hold a value within bounds. -/
def clamp (lo hi y : Int) : Int := min (max y lo) hi

/-- Hold a value within INT32 (08 R211, 09 R242). -/
def hold32 (y : Int) : Int := clamp (-2147483648) 2147483647 y

/-! ### Element types (09 Table 9-2) -/

/-- Size of an element type in bytes; codes 6-15 are refused. -/
def elemSize : Nat → Nat
  | 0 => 1
  | 1 => 1
  | 2 => 2
  | 3 => 4
  | 4 => 2
  | 5 => 2
  | _ => 0

/-- The value of a stored element; a bfloat16 stays its code. -/
def elemVal (ty raw : Nat) : Int :=
  match ty with
  | 0 => signed raw 8
  | 2 => signed raw 16
  | 3 => signed raw 32
  | _ => raw

/-- Smallest and largest value of an output type. -/
def elemRange : Nat → Int × Int
  | 0 => (-128, 127)
  | 1 => (0, 255)
  | 2 => (-32768, 32767)
  | 5 => (0, 65535)
  | _ => (-2147483648, 2147483647)

/-! ### Channel records (09 Table 9-6) -/

/-- A channel record. -/
structure ChanRec where
  bias : Int
  m : Int
  rs : Nat
  zp : Int
  qmin : Int
  qmax : Int
  reserved : Nat
  deriving DecidableEq, Repr

/-- Decode a channel record of 16 bytes. -/
def chanRec (b : List Byte) : ChanRec :=
  { bias := signed (field b 0 4) 32, m := signed (field b 4 4) 32, rs := field b 8 1, reserved := field b 9 1
    zp := signed (field b 10 2) 16, qmin := signed (field b 12 2) 16, qmax := signed (field b 14 2) 16 }

/-- The record lies within Table 9-6 for an output type. -/
def ChanRec.ok (r : ChanRec) (oty : Nat) : Bool :=
  let (lo, hi) := elemRange oty
  decide (r.rs ≤ 63 ∧ r.reserved = 0 ∧ lo ≤ r.zp ∧ r.zp ≤ hi ∧ lo ≤ r.qmin ∧ r.qmin ≤ r.qmax ∧ r.qmax ≤ hi)

/-- Requantise an accumulator (09 R242). -/
def requant (r : ChanRec) (oty : Nat) (acc : Int) : Int :=
  if oty = 3 then hold32 (acc + r.bias)
  else clamp r.qmin r.qmax (rne ((acc + r.bias) * r.m) r.rs + r.zp)

/-! ### bfloat16 and binary32 as exact rationals -/

/-- 2^k for a signed exponent. -/
def pow2 (k : Int) : Rat := if 0 ≤ k then ((2 ^ k.toNat : Nat) : Rat) else 1 / ((2 ^ (-k).toNat : Nat) : Rat)

/-- The exponent e with 2^e ≤ q < 2^(e + 1), for q > 0. -/
def expOf (q : Rat) : Int :=
  let e : Int := (Nat.log2 q.num.toNat : Int) - (Nat.log2 q.den : Int)
  if q < pow2 e then e - 1 else if pow2 (e + 1) ≤ q then e + 1 else e

/-- Round a rational to the nearest integer, ties to even. -/
def rneRat (q : Rat) : Int := rneDiv q.num q.den

/-- Round to `p` significant bits, ties to even; subnormal results are flushed to zero (09 R247). -/
def roundSig (p : Nat) (q : Rat) : Rat :=
  if q = 0 then 0
  else
    let a := if q < 0 then -q else q
    let u := pow2 (expOf a - p + 1)
    let r := (rneRat (a / u) : Rat) * u
    if r < pow2 (-126) then 0 else if q < 0 then -r else r

/-- Round to binary32. -/
def f32 (q : Rat) : Rat := roundSig 24 q
/-- Round binary32 to bfloat16 (09 R247). -/
def bf16 (q : Rat) : Rat := roundSig 8 (f32 q)

/-- The code is an infinity or a NaN. -/
def bfSpecial (w : Nat) : Bool := bits w 7 8 == 255

/-- Value of a finite bfloat16 code; a subnormal is flushed to zero. -/
def bfVal (w : Nat) : Rat :=
  let e := bits w 7 8
  if e = 0 then 0
  else
    let v := ((128 + bits w 0 7 : Nat) : Rat) * pow2 ((e : Int) - 134)
    if bit w 15 then -v else v

/-- The largest finite bfloat16 is below this. -/
def bfLimit : Rat := pow2 128

/-- Code of a value that is a bfloat16. -/
def bfCode (q : Rat) : Nat :=
  if q = 0 then 0
  else
    let a := if q < 0 then -q else q
    let e := expOf a
    bitIf (decide (q < 0)) 15 + (e + 127).toNat * 128 + ((a / pow2 (e - 7)).floor.toNat - 128)

/-- TABLE2[i] = bf16(2^(i/128)): the nearest of the values k/128, found by comparing (2k − 1)^128 with 256^128 × 2^i (09 R247). -/
def table2 (i : Nat) : Rat :=
  let n := ((List.range 128).filter (fun k => (2 * (129 + k) - 1) ^ 128 ≤ 256 ^ 128 * 2 ^ i)).length
  ((128 + n : Nat) : Rat) / 128

/-- exp2t(u) (09 R247). -/
def exp2t (u : Rat) : Rat :=
  let k := rneRat (u * 128)
  let n := k.fdiv 128
  let i := (k - n * 128).toNat
  if n < -126 then 0 else table2 i * pow2 n

/-- The probabilities of SOFTMAX at one position (09 R247); none where an input is not finite, for which the spec states no result. -/
def softmax (xs : List (Option Rat)) : List (Option Rat) :=
  if xs.any Option.isNone then xs.map (fun _ => none)
  else
    let v := xs.filterMap id
    let m := v.foldl max (v.headD 0)
    let es := v.map (fun x => exp2t (bf16 (bf16 (x - m) * (1.4453125 : Rat))))
    let sum := es.foldl (fun a e => f32 (a + e)) 0
    es.map (fun e => some (bf16 (e / sum)))

/-- x_c of SOFTMAX; none where it is not finite. -/
def softmaxIn (ty : Nat) (za : Int) (scale raw : Nat) : Option Rat :=
  if ty = 4 then (if bfSpecial raw then none else some (bfVal raw))
  else if bfSpecial scale then none
  else
    let x := bf16 (((elemVal ty raw - za : Int) : Rat) * bfVal scale)
    if bfLimit ≤ x ∨ x ≤ -bfLimit then none else some x

/-- The output code of a probability. -/
def softmaxOut (oty : Nat) (zo : Int) (p : Rat) : Nat :=
  if oty = 4 then bfCode p
  else if oty = 2 then unsigned (clamp (-32768) 32767 (rneRat (p * 32768))) 16
  else unsigned (clamp 0 255 (rneRat (p * 256) + zo)) 8

/-- Order of bfloat16 codes by value. -/
def bfKey (w : Nat) : Int := if bit w 15 then -(bits w 0 15 : Int) else bits w 0 15

end Machine
end Sys2Proof
end

