-- ==== Sys2Proof/Machine/Pixel.lean ====
section
/-!
DEFINITION. The arithmetic of the image pipeline's stages and of the Patch Meter, as functions of a frame's samples and one parameter set (05 R132-R149).
-/
namespace Sys2Proof
namespace Machine

/-- Samples of one plane, row by row. -/
abbrev Plane := List (List Nat)

/-- The sample at row y, column x. -/
def px (p : Plane) (y x : Nat) : Nat := (p.getD y []).getD x 0

/-- A plane of h rows of w samples. -/
def mkPlane (h w : Nat) (f : Nat → Nat → Nat) : Plane :=
  (List.range h).map (fun y => (List.range w).map (fun x => f y x))

/-- A quotient rounded to nearest, ties away from zero (05 R132). -/
def divAway (a : Int) (d : Nat) : Int :=
  if a < 0 then -((-a * 2 + d) / (2 * d : Nat)) else (a * 2 + d) / (2 * d : Nat)

/-- A value clamped to an unsigned range (05 R132). -/
def clampU (hi : Nat) (v : Int) : Nat := min hi v.toNat

/-- The largest 16-bit value. -/
abbrev top16 : Nat := 65535
/-- The largest 20-bit value. -/
abbrev top20 : Nat := 1048575

/-! ### Parameter sets -/

/-- Defaults of the scalars of 2300h + n (05 Table 5-11). -/
def ispDflt : Nat → Nat
  | 0x01 => 1 | 0x03 => 256 | 0x04 => 256 | 0x05 => 60000 | 0x06 => 4096 | 0x09 => 8 | 0x0A => 0xFFFFFFFF | 0x0C => 8
  | 0x16 => 4096 | 0x17 => 4096 | 0x18 => 4096 | _ => 0

/-- Little-endian 16-bit values. -/
def le16s (v : List Nat) : List Byte := v.flatMap (leBytes 2)

/-- Defaults of the DOMAINs of 2300h + n (05 Table 5-11). -/
def ispDomDflt : Nat → List Byte
  | 0x02 => le16s ((List.range 33).map (fun k => min 65535 (k * 2048)))
  | 0x08 => (List.range 32).map (fun i => BitVec.ofNat 8 (255 - 8 * i))
  | 0x0B => le16s ((List.range 16).map (fun i => min 256 (32 + 16 * i)))
  | 0x11 => le16s (List.replicate 4356 4096)
  | 0x19 => le16s [4096, 0, 0, 0, 4096, 0, 0, 0, 4096] ++ List.replicate 12 0
  | 0x1A => le16s ((List.range 4).flatMap (fun _ => (List.range 1024).map (64 * ·)))
  | 0x1B => List.replicate 512 0
  | _ => []

/-- The default patch set: METRIC 0, CLIP_LIMIT 3, WHITE 1,048,575, kL = kC = kH = 1, the default matrix in binary32, no patch enabled (05 R146). -/
def patchDflt : List Byte :=
  leBytes 4 0x300 ++ leBytes 4 1048575 ++ (List.replicate 3 0x3F800000).flatMap (leBytes 4)
    ++ [0x3EDF452F, 0x3EC5273A, 0x3E1283AB, 0x3E63D838, 0x3F37855B, 0x3D78496D, 0x3C6443E2, 0x3DC6DEB9, 0x3F36D410].flatMap (leBytes 4)
    ++ List.replicate 1032 0

/-- A scalar of a parameter set. -/
def ispNum (c : Cfg) (n sub : Nat) : Nat := c.get (0x2300 + n) sub (ispDflt sub)

/-- A DOMAIN that was never written holds its default. -/
def orDflt (b d : List Byte) : List Byte := if b = [] then d else b

/-- A DOMAIN of a parameter set. -/
def ispDom (c : Cfg) (n sub : Nat) : List Byte := orDflt (c.dom? (0x2300 + n) sub) (ispDomDflt sub)

/-- The patch set of a parameter set. -/
def patchSet (c : Cfg) (n : Nat) : List Byte := orDflt (c.dom? 0x2320 (n + 1)) patchDflt

/-- Unsigned 16-bit value i of a table. -/
def tab16 (b : List Byte) (i : Nat) : Nat := field b (2 * i) 2

/-! ### Lines -/

/-- Bits per pixel of a data type; 0 where R107 does not list it. -/
def bitsPerPixel : Nat → Nat
  | 0x2A => 8 | 0x2B => 10 | 0x2C => 12 | 0x2D => 14 | 0x2E => 16 | 0x1E => 16 | 0x24 => 24 | _ => 0

/-- A data type of raw samples. -/
def isRaw (dt : Nat) : Bool := decide (0x2A ≤ dt ∧ dt ≤ 0x2E)

/-- Sample i of a line of raw samples, packed as MIPI CSI-2 packs the data type (PRESUMED 24); a PIX sample takes two bytes. -/
def rawSample (pix : Bool) (dt : Nat) (b : List Byte) (i : Nat) : Nat :=
  if pix then field b (2 * i) 2 % 2 ^ bitsPerPixel dt
  else match dt with
    | 0x2A => field b i 1
    | 0x2B => field b (5 * (i / 4) + i % 4) 1 * 4 + bits (field b (5 * (i / 4) + 4) 1) (2 * (i % 4)) 2
    | 0x2C => field b (3 * (i / 2) + i % 2) 1 * 16 + bits (field b (3 * (i / 2) + 2) 1) (4 * (i % 2)) 4
    | 0x2D => field b (7 * (i / 4) + i % 4) 1 * 64 + bits (field b (7 * (i / 4) + 4) 3) (6 * (i % 4)) 6
    | _ => field b (2 * i) 1 * 256 + field b (2 * i + 1) 1

/-- The samples of a raw frame in the 16-bit entry form (05 R133). -/
def rawPlane (pix : Bool) (dt w : Nat) (rows : List (List Byte)) : Plane :=
  rows.map (fun b => (List.range w).map (fun i => rawSample pix dt b i * 2 ^ (16 - bitsPerPixel dt)))

/-! ### Stage 1: pre-correction -/

/-- The linearisation curve (05 R134). -/
def linearise (curve : List Byte) (v : Nat) : Nat :=
  let k := v / 2048
  clampU top16 (tab16 curve k + divAway (((tab16 curve (k + 1) : Int) - tab16 curve k) * (v % 2048 : Nat)) 2048)

/-- blend of R135: the product with the weight is rounded once (DEDUCED 25). -/
def blend (long short t b : Int) : Int :=
  if long < t - b then long
  else if t ≤ long then short
  else long + divAway ((short - long) * (long - (t - b))) b.toNat

/-- A product with a ratio in 1/256. -/
def ratio256 (v : Int) (r : Nat) : Int := divAway (v * r) 256

/-- merge of R135; e3 needs e2. -/
def merge (e1 : Nat) (e2 e3 : Option Nat) (r2 r3 t b : Nat) : Nat :=
  match e2 with
  | none => e1 * 16
  | some e2 =>
    let m := blend e1 (ratio256 e2 r2) t b
    let m := match e3 with
      | some e3 =>
        if (t : Int) - b ≤ e2 then blend e1 (blend (ratio256 e2 r2) (ratio256 e3 r3) (ratio256 t r2) (ratio256 b r2)) t b else m
      | none => m
    clampU top20 m

/-- Colour of a mosaic position: 0 R, 1 G, 2 B, 3 X (05 Tables 5-3, 5-4). -/
def mosaicColour (mosaic phase y x : Nat) : Nat :=
  let ro := phase / 4 % 4
  let co := phase % 4
  match mosaic with
  | 0 => ([[0, 1], [1, 2]].getD ((y + ro % 2) % 2) []).getD ((x + co % 2) % 2) 0
  | 1 => ([[2, 1, 0, 1], [1, 3, 1, 3], [0, 1, 2, 1], [1, 3, 1, 3]].getD ((y + ro) % 4) []).getD ((x + co) % 4) 0
  | _ => ([[3, 2, 3, 1], [2, 3, 1, 3], [3, 1, 3, 0], [1, 3, 0, 3]].getD ((y + ro) % 4) []).getD ((x + co) % 4) 0

/-- An index mirrored into 0 to n - 1 without repeating the edge (05 R136). -/
def mirror (n : Nat) (i : Int) : Nat :=
  if n ≤ 1 then 0
  else
    let p := 2 * (n - 1)
    let k := (i % (p : Int)).toNat
    if k < n then k else p - k

/-- Offsets (row, column) of a 5 × 5 neighbourhood but for its centre, nearest first. -/
def around : List (Int × Int) :=
  [(-1, 0), (0, -1), (0, 1), (1, 0), (-1, -1), (-1, 1), (1, -1), (1, 1), (-2, 0), (0, -2), (0, 2), (2, 0),
   (-2, -1), (-2, 1), (-1, -2), (-1, 2), (1, -2), (1, 2), (2, -1), (2, 1), (-2, -2), (-2, 2), (2, -2), (2, 2)]

/-- The spatial filter of mode N at one sample (05 R136). -/
def spatial (c : Cfg) (n : Nat) (m : Plane) (h w y x : Nat) : Nat :=
  let k := ispNum c n 7
  let p := px m y x
  if k = 0 then p
  else
    let colour (a b : Nat) : Nat := mosaicColour (ispNum c n 0x13) (ispNum c n 0x14) a b
    let near := around.map (fun o => (mirror h (y + o.1), mirror w (x + o.2)))
    let near := (near.filter (fun q => colour q.1 q.2 == colour y x)).take 8
    let weighted := near.map (fun q =>
      let v := px m q.1 q.2
      (v, field (ispDom c n 8) (min ((if v < p then p - v else v - p) / 2 ^ ispNum c n 9) 31) 1))
    let num := (weighted.map (fun q => q.1 * q.2)).sum + 255 * p
    let den := (weighted.map Prod.snd).sum + 255
    let s := divAway num den
    clampU top16 (p + divAway ((s - p) * k) 256)

/-- The temporal filter at one sample (05 R137). -/
def temporal (c : Cfg) (n p r : Nat) : Nat :=
  let k := tab16 (ispDom c n 0x0B) (min ((if p < r then r - p else p - r) / 2 ^ ispNum c n 0x0C) 15)
  clampU top16 (r + divAway (((p : Int) - r) * k) 256)

/-- Stage 1 in mode L (05 R134, R135). -/
def stageL (c : Cfg) (n h w : Nat) (e1 : Plane) (e2 e3 : Option Plane) : Plane :=
  let lin (p : Plane) (y x : Nat) : Nat := linearise (ispDom c n 2) (px p y x)
  mkPlane h w (fun y x =>
    merge (lin e1 y x) (e2.map (fun p => lin p y x)) (e3.map (fun p => lin p y x)) (ispNum c n 3) (ispNum c n 4) (ispNum c n 5) (ispNum c n 6))

/-- Stage 1 in mode N before the shift into 20 bits; a line without a reference is filtered spatially only (05 R136, R137). -/
def stageN (c : Cfg) (n h w : Nat) (m : Plane) (ref : List (Option (List Nat))) : Plane :=
  mkPlane h w (fun y x =>
    let p := spatial c n m h w y x
    match ref.getD y none with
    | none => p
    | some r => temporal c n p (r.getD x 0))

/-! ### Stage 2: black level and shading (05 R138) -/

/-- Width of a shading cell along an axis: ceil(len / 32) rounded up to an even number. -/
def cellSize (len : Nat) : Nat := ((len + 31) / 32 + 1) / 2 * 2

/-- The gain at a pixel in 1/4,096, interpolated bilinearly and rounded (DEDUCED 25). -/
def shadingGain (tab : List Byte) (plane h w y x : Nat) : Int :=
  let cw := cellSize w
  let ch := cellSize h
  let node (j i : Nat) : Int := tab16 tab (plane * 1089 + min j 32 * 33 + min i 32)
  let i := x / cw
  let j := y / ch
  let fx := x % cw
  let fy := y % ch
  divAway ((node j i * (cw - fx : Nat) + node j (i + 1) * fx) * (ch - fy : Nat)
    + (node (j + 1) i * (cw - fx : Nat) + node (j + 1) (i + 1) * fx) * fy) (cw * ch)

/-- Stage 2. -/
def stage2 (c : Cfg) (n h w : Nat) (m : Plane) : Plane :=
  mkPlane h w (fun y x =>
    let k := mosaicColour (ispNum c n 0x13) (ispNum c n 0x14) y x
    let v := px m y x - ispNum c n (0x0D + k)
    if ispNum c n 0x12 = 0 then v else clampU top20 (divAway (v * shadingGain (ispDom c n 0x11) k h w y x) 4096))

/-! ### Stage 3: demosaic (05 R139, R140) -/

/-- Four planes. -/
structure Rgbx where
  r : Plane
  g : Plane
  b : Plane
  x : Plane

/-- Distance of two naturals. -/
def absDiff (a b : Nat) : Nat := if a < b then b - a else a - b

/-- The value of colour k at a pixel (05 R140); at a pixel whose neighbourhood leaves the frame it is free. -/
def demosaicAt (colour : Nat → Nat → Nat) (m : Plane) (h w free k y x : Nat) : Nat :=
  if colour y x = k then px m y x
  else if y < 2 ∨ x < 2 ∨ h ≤ y + 2 ∨ w ≤ x + 2 then Config.borderPixel free k y x % 2 ^ 20
  else
    let at_ (o : Int × Int) : Nat × Nat := ((y + o.1).toNat, (x + o.2).toNat)
    let dist (o : Int × Int) : Nat := max o.1.natAbs o.2.natAbs
    let same := around.filter (fun o => colour (at_ o).1 (at_ o).2 == k)
    let d := same.foldl (fun d o => min d (dist o)) 3
    let near := same.filter (fun o => dist o == d)
    let gh := absDiff (px m y (x - 1)) (px m y (x + 1)) + absDiff (2 * px m y x) (px m y (x - 2) + px m y (x + 2))
    let gv := absDiff (px m (y - 1) x) (px m (y + 1) x) + absDiff (2 * px m y x) (px m (y - 2) x + px m (y + 2) x)
    let some_ := if gh < gv then near.filter (fun o => o.1 == 0) else if gv < gh then near.filter (fun o => o.2 == 0) else near
    let use := if some_ = [] then near else some_
    clampU top20 (divAway ((use.map (fun o => px m (at_ o).1 (at_ o).2)).sum : Nat) (max 1 use.length))

/-- Stage 3, with the IR subtraction of RGB-IR. -/
def demosaic (c : Cfg) (n h w free : Nat) (m : Plane) : Rgbx :=
  let mosaic := ispNum c n 0x13
  let colour (y x : Nat) : Nat := mosaicColour mosaic (ispNum c n 0x14) y x
  let plane (k : Nat) : Plane := mkPlane h w (fun y x => demosaicAt colour m h w free k y x)
  let xp := if mosaic = 0 then mkPlane h w (fun _ _ => 0) else plane 3
  let sub := ispNum c n 0x15
  let less (lo : Nat) (p : Plane) : Plane :=
    if mosaic = 1 then mkPlane h w (fun y x => clampU top20 (px p y x - divAway ((px xp y x * bits sub lo 10 : Nat) : Int) 1024)) else p
  { r := less 20 (plane 0), g := less 10 (plane 1), b := less 0 (plane 2), x := xp }

/-! ### Stages 4 to 6 (05 R141, R142) -/

/-- Stage 4: white balance. -/
def whiteBalance (c : Cfg) (n h w : Nat) (p : Rgbx) : Rgbx :=
  let mul (g : Nat) (q : Plane) : Plane := mkPlane h w (fun y x => clampU top20 (divAway ((px q y x * g : Nat) : Int) 4096))
  { p with r := mul (ispNum c n 0x16) p.r, g := mul (ispNum c n 0x17) p.g, b := mul (ispNum c n 0x18) p.b }

/-- Stage 5: colour matrix; the sum of the products is divided and rounded once (DEDUCED 25). -/
def colourMatrix (c : Cfg) (n h w : Nat) (p : Rgbx) : Rgbx :=
  let t := ispDom c n 0x19
  let out (i : Nat) : Plane := mkPlane h w (fun y x =>
    let m (j : Nat) : Int := signed (tab16 t (3 * i + j)) 16
    let sum := m 0 * (px p.r y x : Int) + m 1 * (px p.g y x : Int) + m 2 * (px p.b y x : Int)
    clampU top20 (divAway sum 4096 + signed (field t (18 + 4 * i) 4) 32))
  { p with r := out 0, g := out 1, b := out 2 }

/-- A tone curve (05 R142). -/
def toneAt (t : List Byte) (curve v : Nat) : Nat :=
  let i := v / 1024
  let p (k : Nat) : Nat := tab16 t (curve * 1024 + k)
  if 1023 ≤ i then p 1023
  else clampU top16 (p i + (((p (i + 1) : Int) - p i) * (v % 1024 : Nat) + 512).fdiv 1024)

/-- Stage 6: tone curves. -/
def tone (c : Cfg) (n h w : Nat) (p : Rgbx) : Rgbx :=
  let t := ispDom c n 0x1A
  let one (k : Nat) (q : Plane) : Plane := mkPlane h w (fun y x => toneAt t k (px q y x))
  { r := one 0 p.r, g := one 1 p.g, b := one 2 p.b, x := one 3 p.x }

/-- An RGB888 or YUV422 frame as 20-bit planes, bytes in the order of MIPI CSI-2: B, G, R, and Cb, Y, Cr, Y (PRESUMED 24, 05 R133). -/
def colourPlanes (dt h w : Nat) (rows : List (List Byte)) : Rgbx :=
  let byte (y i : Nat) : Nat := field (rows.getD y []) i 1 * 4096
  let zero := mkPlane h w (fun _ _ => 0)
  if dt = 0x24 then
    { r := mkPlane h w (fun y x => byte y (3 * x + 2)), g := mkPlane h w (fun y x => byte y (3 * x + 1))
      b := mkPlane h w (fun y x => byte y (3 * x)), x := zero }
  else
    { r := mkPlane h w (fun y x => byte y (2 * x + 1)), g := mkPlane h w (fun y x => byte y (4 * (x / 2)))
      b := mkPlane h w (fun y x => byte y (4 * (x / 2) + 2)), x := zero }

/-! ### Stage 8: crop and scale (05 R143, R145) -/

/-- A crop entry (05 Table 5-5). -/
structure Crop where
  enable : Bool
  window : Nat
  x0 : Nat
  y0 : Nat
  w : Nat
  h : Nat
  ow : Nat
  oh : Nat
  format : Nat
  rsv : Nat
  ring : Nat
  deriving DecidableEq, Repr

/-- Crop entry i of a WINDOWS value. -/
def cropOf (dom : List Byte) (i : Nat) : Crop :=
  let v := field dom (16 * i) 16
  { enable := bit v 127, window := bits v 122 5, x0 := bits v 109 13, y0 := bits v 96 13, w := bits v 83 13 + 1
    h := bits v 70 13 + 1, ow := bits v 59 11, oh := bits v 48 11, format := bits v 44 4, rsv := bits v 32 12, ring := bits v 0 32 }

/-- The enabled crop entries with their numbers. -/
def crops (dom : List Byte) : List (Nat × Crop) :=
  ((List.range 32).map (fun i => (i, cropOf dom i))).filter (fun x => x.2.enable)

/-- Planes of a format (05 Table 5-6). -/
def fmtPlanes : Nat → Nat
  | 3 => 3 | 4 => 3 | 5 => 4 | 7 => 3 | _ => 1

/-- Bytes per pixel per plane of a format (05 Table 5-6). -/
def fmtBytes : Nat → Nat
  | 2 => 3 | 6 => 2 | 7 => 2 | _ => 1

/-- PITCH: the row length rounded up to a multiple of 64. -/
def Crop.pitch (e : Crop) : Nat := (e.ow * fmtBytes e.format + 63) / 64 * 64

/-- Bytes of a window record (05 R145). -/
def Crop.recLen (e : Crop) : Nat := 64 + fmtPlanes e.format * e.oh * e.pitch

/-- Source pixels of output pixel k along one axis with their weights in 1/256 pixel (05 R143). -/
def footprint (len out k : Nat) : List (Nat × Nat) :=
  ((List.range len).filterMap (fun i =>
    let lo := max (k * len) (i * out)
    let hi := min ((k + 1) * len) ((i + 1) * out)
    let wt := (2 * 256 * (hi - lo) + out) / (2 * out)
    if hi ≤ lo ∨ wt = 0 then none else some (i, wt)))

/-- One output pixel of a crop: the area-weighted mean of its footprint. -/
def cropPixel (e : Crop) (p : Plane) (oy ox : Nat) : Nat :=
  let xs := footprint e.w e.ow ox
  let ys := footprint e.h e.oh oy
  let num := (ys.map (fun a => a.2 * (xs.map (fun b => b.2 * px p (e.y0 + a.1) (e.x0 + b.1))).sum)).sum
  let den := (ys.map Prod.snd).sum * (xs.map Prod.snd).sum
  clampU top16 (divAway (num : Nat) (max 1 den))

/-- The 8-bit form of a value. -/
def to8 (v : Nat) : Nat := min 255 ((v + 128) / 256)

/-- Luminance. -/
def luma (r g b : Nat) : Nat := (77 * r + 150 * g + 29 * b + 128) / 256

/-- Bytes of plane k of one output pixel (05 Table 5-6). -/
def fmtPixel (format k r g b x : Nat) : List Byte :=
  let pick := match k with | 0 => r | 1 => g | 2 => b | _ => x
  match format with
  | 0 => leBytes 1 (luma (to8 r) (to8 g) (to8 b))
  | 1 => leBytes 1 (luma (to8 r) (to8 g) (to8 b) + 128)
  | 2 => leBytes 1 (to8 r) ++ leBytes 1 (to8 g) ++ leBytes 1 (to8 b)
  | 3 => leBytes 1 (to8 pick)
  | 4 => leBytes 1 (to8 pick + 128)
  | 5 => leBytes 1 (to8 pick)
  | 6 => leBytes 2 (luma r g b)
  | _ => leBytes 2 pick

/-- Planes of a window record. -/
def cropBytes (e : Crop) (p : Rgbx) : List Byte :=
  (List.range (fmtPlanes e.format)).flatMap (fun k =>
    (List.range e.oh).flatMap (fun oy =>
      slice ((List.range e.ow).flatMap (fun ox =>
        fmtPixel e.format k (cropPixel e p.r oy ox) (cropPixel e p.g oy ox) (cropPixel e p.b oy ox) (cropPixel e p.x oy ox))) 0 e.pitch))

/-! ### The Patch Meter (05 R146-R149) -/

/-- A value rounded to binary32, ties to even; none where it overflows. -/
def ieee32 (q : Rat) : Option Rat :=
  if q = 0 then some 0
  else
    let a := if q < 0 then -q else q
    let u := pow2 (max (expOf a - 23) (-149))
    let v := (rneRat (q / u) : Rat) * u
    if pow2 128 ≤ (if v < 0 then -v else v) then none else some v

/-- The value of a binary32 code; none for an infinity or a NaN. -/
def f32Val (w : Nat) : Option Rat :=
  let e := bits w 23 8
  let m : Nat := bits w 0 23
  let v : Rat := if e = 0 then (m : Rat) * pow2 (-149) else ((m + 2 ^ 23 : Nat) : Rat) * pow2 ((e : Int) - 150)
  if e = 255 then none else some (if bit w 31 then -v else v)

/-- Integer k-th root, below 2^25. -/
def iroot (k n : Nat) : Nat :=
  (List.range 25).foldr (fun i r => if (r + 2 ^ i) ^ k ≤ n then r + 2 ^ i else r) 0

/-- The binary32 nearest the k-th root of a positive value (DEDUCED 26: the root is rounded once). -/
def root32 (k : Nat) (q : Rat) : Rat :=
  if q ≤ 0 then 0
  else
    let e := (expOf q).fdiv k
    let n := q * pow2 ((23 - e) * k)
    let m := iroot k n.floor.toNat
    let up : Bool := decide (((2 * m + 1) ^ k : Nat) < n * ((2 ^ k : Nat) : Rat))
    ((if up then m + 1 else m : Nat) : Rat) * pow2 (e - 23)

/-- A sum, difference, product or quotient in binary32. -/
def add32 (a b : Option Rat) : Option Rat := do ieee32 ((← a) + (← b))
@[inherit_doc add32] def sub32 (a b : Option Rat) : Option Rat := do ieee32 ((← a) - (← b))
@[inherit_doc add32] def mul32 (a b : Option Rat) : Option Rat := do ieee32 ((← a) * (← b))
@[inherit_doc add32] def div32 (a b : Option Rat) : Option Rat := do
  let d ← b
  if d = 0 then none else ieee32 ((← a) / d)

/-- f(t) of R147. -/
def labF (t : Option Rat) : Option Rat := do
  let t ← t
  if (← ieee32 (216 / 24389)) < t then some (root32 3 t)
  else div32 (add32 (mul32 (ieee32 (24389 / 27)) (some t)) (some 16)) (some 116)

/-- A patch entry (05 Table 5-8). -/
structure Patch where
  enable : Bool
  window : Nat
  x0 : Nat
  y0 : Nat
  w : Nat
  h : Nat
  rsv : Nat
  tl : Nat
  ta : Int
  tb : Int
  tol : Nat
  deriving DecidableEq, Repr

/-- Patch entry i of a patch set. -/
def patchOf (ps : List Byte) (i : Nat) : Patch :=
  let v := field ps (64 + 16 * i) 16
  { enable := bit v 127, window := bits v 122 5, x0 := bits v 109 13, y0 := bits v 96 13, w := bits v 85 11, h := bits v 74 11
    rsv := bits v 64 10, tl := bits v 48 16, ta := signed (bits v 32 16) 16, tb := signed (bits v 16 16) 16, tol := bits v 0 16 }

/-- The enabled patches with their numbers. -/
def patches (ps : List Byte) : List (Nat × Patch) :=
  ((List.range 64).map (fun i => (i, patchOf ps i))).filter (fun x => x.2.enable)

/-- A number of the patch set's header in binary32. -/
def headF (ps : List Byte) (off : Nat) : Option Rat := f32Val (field ps off 4)

/-- L, a and b of a patch from its channel sums (05 R147). -/
def labOf (ps : List Byte) (n sr sg sb : Nat) : Option Rat × Option Rat × Option Rat :=
  let white := ieee32 (field ps 4 4 : Nat)
  let lin (s : Nat) : Option Rat := div32 (div32 (ieee32 (s : Nat)) (ieee32 (n : Nat))) white
  let row (i : Nat) : Option Rat :=
    add32 (add32 (mul32 (headF ps (20 + 12 * i)) (lin sr)) (mul32 (headF ps (24 + 12 * i)) (lin sg))) (mul32 (headF ps (28 + 12 * i)) (lin sb))
  let fx := labF (div32 (row 0) (ieee32 (96422 / 100000)))
  let fy := labF (div32 (row 1) (some 1))
  let fz := labF (div32 (row 2) (ieee32 (82521 / 100000)))
  (sub32 (mul32 (some 116) fy) (some 16), mul32 (some 500) (sub32 fx fy), mul32 (some 200) (sub32 fy fz))

/-- ΔE against a patch's target (05 R147). -/
def deltaE (ps : List Byte) (p : Patch) (lab : Option Rat × Option Rat × Option Rat) : Option Rat :=
  let tl := ieee32 ((p.tl : Rat) / 100)
  let ta := ieee32 ((p.ta : Rat) / 100)
  let tb := ieee32 ((p.tb : Rat) / 100)
  if field ps 0 1 = 0 then
    let sq (a b : Option Rat) : Option Rat := mul32 (sub32 a b) (sub32 a b)
    (add32 (add32 (sq lab.1 tl) (sq lab.2.1 ta)) (sq lab.2.2 tb)).map (root32 2)
  else do
    let v := [← lab.1, ← lab.2.1, ← lab.2.2, ← tl, ← ta, ← tb, ← headF ps 8, ← headF ps 12, ← headF ps 16]
    some (Config.ciede2000 v)

/-- A reported value: round(value × 100), ties away from zero, saturated (05 R147); free where the arithmetic left the binary32 range. -/
def report (free : Nat) (lo hi : Int) (v : Option Rat) : Int :=
  match mul32 v (some 100) with
  | some q => max lo (min hi (divAway q.num q.den))
  | none => max lo (min hi (lo + Config.freeNat free))

/-- Result of one patch (05 Table 5-10). -/
structure PatchResult where
  patch : Nat
  window : Nat
  status : Nat
  clipped : Nat
  l : Int
  a : Int
  b : Int
  de : Int
  deriving DecidableEq, Repr

/-- Pixels of a rectangle. -/
def rect (p : Patch) : List (Nat × Nat) :=
  (List.range p.h).flatMap (fun y => (List.range p.w).map (fun x => (p.y0 + y, p.x0 + x)))

/-- Judge one patch on the linear planes (05 R147, R148). -/
def judgePatch (ps : List Byte) (free : Nat) (lin : Rgbx) (i : Nat) (p : Patch) : PatchResult :=
  let ps2 := rect p
  let sum (q : Plane) : Nat := (ps2.map (fun a => px q a.1 a.2)).sum
  let edge (v : Nat) : Bool := v == 0 || v == 1048575
  let clipped := (ps2.filter (fun a => edge (px lin.r a.1 a.2) || edge (px lin.g a.1 a.2) || edge (px lin.b a.1 a.2))).length
  let n := p.w * p.h
  let lab := labOf ps n (sum lin.r) (sum lin.g) (sum lin.b)
  let de := report (free + 3) 0 65535 (deltaE ps p lab)
  let status := if field ps 1 1 * n < clipped * 256 then 2 else if (p.tol : Int) < de then 1 else 0
  { patch := i, window := p.window, status := status, clipped := clipped
    l := report free (-32768) 32767 lab.1, a := report (free + 1) (-32768) 32767 lab.2.1
    b := report (free + 2) (-32768) 32767 lab.2.2, de := de }

/-- A patch result as stored (05 Table 5-10). -/
def patchWord (r : PatchResult) : Nat :=
  r.patch * 2 ^ 122 + r.status * 2 ^ 120 + r.clipped % 2 ^ 21 * 2 ^ 96 + unsigned r.l 16 * 2 ^ 80 + unsigned r.a 16 * 2 ^ 64
    + unsigned r.b 16 * 2 ^ 48 + unsigned r.de 16 * 2 ^ 32

end Machine
end Sys2Proof
end

