-- ==== Sys2Proof/Machine/Codec.lean ====
section
/-!
DEFINITION. The evidence codec (12 R313-R316). What a standard coder makes of its input is the outside's report; the model moves it and keeps every rule around it.
-/
namespace Sys2Proof
namespace Machine

/-! ### Job descriptors (12 Table 12-6) -/

/-- KIND. -/
def CodecJob.kind (j : CodecJob) : Nat := field j.desc 0 1
/-- A flag of FLAGS. -/
def CodecJob.flag (j : CodecJob) (i : Nat) : Bool := bit (field j.desc 1 1) i
/-- The job encodes. -/
def CodecJob.encodes (j : CodecJob) : Bool := decide (j.kind ≤ 4)
/-- The job encodes video. -/
def CodecJob.video (j : CodecJob) : Bool := decide (j.kind ≤ 3)
/-- Engine that takes the job: 0 video encode, 1 JPEG, 2 video decode. -/
def CodecJob.engine (j : CodecJob) : Nat := if j.kind ≤ 3 then 0 else if j.kind = 4 then 1 else 2
/-- MAX_OUT. -/
def CodecJob.maxOut (j : CodecJob) : Nat := field j.desc 36 4
/-- OUT_RING. -/
def CodecJob.outRing (j : CodecJob) : Nat := field j.desc 32 2

/-- A value lies within bounds. -/
def inBounds (v lo hi : Nat) : Bool := decide (lo ≤ v) && decide (v ≤ hi)

/-- Rate control fields of a video encode. -/
def CodecJob.rateOk (j : CodecJob) : Bool :=
  decide (field j.desc 2 1 ≤ 2) && decide (field j.desc 3 1 ≤ 51)
    && (field j.desc 2 1 == 0 || inBounds (field j.desc 8 4) 100 200000) && inBounds (field j.desc 12 2) 1 12000

/-- Every field is in range; only the fields that a KIND uses are checked (DEDUCED 30). -/
def CodecJob.ok (j : CodecJob) : Bool :=
  inBounds j.kind 1 6 && decide (field j.desc 1 1 < 8) && field j.desc 34 2 == 0
    && (!j.flag 2 || decide (field j.desc 14 2 < 4096))
    && ((j.encodes && j.flag 0) || (inBounds (field j.desc 4 2) 8 4096 && inBounds (field j.desc 6 2) 8 2160))
    && (!j.video || j.rateOk)
    && (j.kind != 4 || (inBounds (field j.desc 3 1) 1 100 && field j.desc 24 8 == 0))
    && (!j.encodes || (decide (j.maxOut % 64 = 0) && inBounds j.maxOut 4096 16777216))

/-! ### Submission (12 R314) -/

/-- Jobs of a station that are queued. -/
def State.queuedJobs (s : State) (st : Nat) : Nat := (s.host.codec.queue.filter (fun j => j.station == st)).length

/-- CDC_SUBRES of a requester (12 Table 12-9). -/
def State.codecResult (s : State) (req : Requester) (st code : Nat) : State :=
  match softRequester req with
  | some k => { s with host := { s.host with codec := { s.host.codec with
      subres := s.host.codec.subres.put k (code * 2 ^ 60 + s.queuedJobs st % 256) } } }
  | none => s

/-- CODEC_SUBMIT (12 R314): a write of CDC_SUBMIT. -/
def execCodecSubmit (req : Requester) (addr : BitVec 40) (s : State) : Host.Outcome State Fault Refusal :=
  let a := addr.toNat
  let st := s.attrib req
  .next <|
    if h : st < 32 then
      if a % 64 ≠ 0 then s.codecResult req st 3
      else match s.fabric (.codec 0 ⟨st, h⟩) a (.read 64) .none 0 0 with
        | (s, none) => s.codecResult req st 3
        | (s, some d) =>
          let j : CodecJob := { station := st, desc := d }
          if j.ok = false then s.codecResult req st 3
          else if 64 ≤ s.host.codec.queue.length ∨ 16 ≤ s.queuedJobs st then (s.count 0x28A3 5).codecResult req st 1
          else
            ({ s with host := { s.host with codec := { s.host.codec with queue := s.host.codec.queue ++ [j] } } } : State).codecResult
              req st 0
    else s

/-! ### Engines -/

/-- The job on an engine. -/
def State.codecRun (s : State) (e : Nat) : Option CodecJob := s.host.codec.run.at none e

/-- CODEC_JOB_START (12 R314): an idle engine takes its oldest job. -/
def execCodecJobStart (engine : Fin 3) (s : State) : Host.Outcome State Fault Refusal :=
  .next <|
    if !s.computeRuns || s.pwr.entering || (s.codecRun engine.val).isSome then s
    else match s.host.codec.queue.find? (fun j => j.engine == engine.val) with
      | none => s
      | some j =>
        { s with host := { s.host with codec := { s.host.codec with
          queue := s.host.codec.queue.erase j, run := s.host.codec.run.put engine.val (some j) } } }

/-! ### Completion (12 R315, R316) -/

/-- STATUS codes of a job result (12 Table 12-7). -/
inductive JobStatus where
  | ok | overflow | sourceLost | outputFull | readError | writeError | badStream
  deriving DecidableEq, Repr

/-- Code of a status. -/
def JobStatus.code : JobStatus → Nat
  | .ok => 0 | .overflow => 1 | .sourceLost => 2 | .outputFull => 3 | .readError => 4 | .writeError => 5 | .badStream => 6

/-- What a job has come to: its status, bytes written and the start of its output record. -/
structure JobEnd where
  status : JobStatus
  bytes : Nat
  start : Nat
  deriving DecidableEq, Repr

/-- Round up to a multiple of 64. -/
def up64 (n : Nat) : Nat := (n + 63) / 64 * 64

/-- Bytes of an NV12 or P010 picture (12 R315). -/
def picBytes (wide : Bool) (w h : Nat) : Nat := up64 (if wide then 2 * w else w) * (h + (h + 1) / 2)

/-- Bytes of a window record from its header (05 Table 5-7). -/
def recordBytes (h : List Byte) : Nat :=
  let v := leNat h
  64 + fmtPlanes (bits v 490 4) * bits v 370 11 * bits v 354 16

/-- Bytes of the reference area (12 R315). -/
def CodecJob.refBytes (j : CodecJob) : Nat :=
  let pad (n : Nat) : Nat := up64 (max 64 ((n + 1) / 2 * 2))
  (if j.kind = 3 then 6 else 3) * pad (field j.desc 4 2) * pad (field j.desc 6 2)

/-- Read a source record in full, then see that its ring's TAIL has not passed its start (12 R316). -/
def State.readRecord (s : State) (req : Requester) (ring start : Nat) : State × Option JobStatus :=
  match s.readPieces req 0 (s.ringBytes ring start 64) with
  | (s, none) => (s, some .readError)
  | (s, some h) =>
    match s.readPieces req 0 (s.ringBytes ring start (recordBytes h)) with
    | (s, none) => (s, some .readError)
    | (s, some _) => (s, if after 32 (s.ring ring).tail start then some .sourceLost else none)

/-- Read what an encode starts from: its source, and the reference area of a P frame. -/
def State.readSource (s : State) (req : Requester) (j : CodecJob) : State × Option JobStatus :=
  let src := field j.desc 16 8
  let (s, e) :=
    if j.flag 0 then s.readRecord req (bits src 0 16) (bits src 16 32)
    else match s.fabric req src (.read (picBytes (j.kind == 3) (field j.desc 4 2) (field j.desc 6 2))) .none 0 0 with
      | (s, none) => (s, some .readError)
      | (s, some _) => (s, none)
  match e with
  | some x => (s, some x)
  | none =>
    if j.video && !j.flag 1 then
      match s.fabric req (field j.desc 24 8) (.read j.refBytes) .none 0 0 with
      | (s, none) => (s, some .readError)
      | (s, some _) => (s, none)
    else (s, none)

/-- An encode's output record: a 32-byte header with the used length, then the bitstream (12 R316; place of the length: DESIGN CHOICE 31). -/
def outRecord (stream : List Byte) : List Byte := leBytes 4 stream.length ++ List.replicate 28 0 ++ stream

/-- Write the claimed output record and commit it. -/
def State.writeOut (s : State) (req : Requester) (j : CodecJob) (start : Nat) (stream refOut : List Byte) : State × JobEnd :=
  let kept := stream.take (j.maxOut - 32)
  let x := outRecord kept
  match s.writePieces req 0 (s.ringBytes j.outRing start x.length) x with
  | (s, false) => ((s.abandonOn req j.outRing).1, ⟨.writeError, 0, start⟩)
  | (s, true) =>
    let s := (s.commitOn req j.outRing).1
    let excess : JobStatus := if kept.length < stream.length then .overflow else .ok
    if j.video then
      match s.fabric req (field j.desc 24 8) (.write (refOut.take j.refBytes)) .none 0 0 with
      | (s, none) => (s, ⟨.writeError, kept.length, start⟩)
      | (s, some _) => (s, ⟨excess, kept.length, start⟩)
    else (s, ⟨excess, kept.length, start⟩)

/-- An encode job: claim, source, output (12 R316). -/
def State.encodeJob (s : State) (req : Requester) (j : CodecJob) (stream refOut : List Byte) : State × JobEnd :=
  match s.claimOn req j.outRing j.maxOut false with
  | (s, .ok, start) =>
    match s.readSource req j with
    | (s, some e) => ((s.abandonOn req j.outRing).1, ⟨e, 0, start⟩)
    | (s, none) => s.writeOut req j start stream refOut
  | (s, .full, _) => (s, ⟨.outputFull, 0, 0⟩)
  | (s, .wouldBlock, _) => (s, ⟨.outputFull, 0, 0⟩)
  | (s, .refused, _) => (s, ⟨.writeError, 0, 0⟩)
  | (s, .damaged, _) => (s, ⟨.writeError, 0, 0⟩)
  | (s, .otherProducer, _) => (s, ⟨.writeError, 0, 0⟩)

/-- A decode job: bitstream, picture (12 R316). -/
def State.decodeJob (s : State) (req : Requester) (j : CodecJob) (pic refOut : List Byte) (bad : Bool) : State × JobEnd :=
  match s.fabric req (field j.desc 16 8) (.read (field j.desc 56 8)) .none 0 0 with
  | (s, none) => (s, ⟨.readError, 0, 0⟩)
  | (s, some _) =>
    if bad then (s, ⟨.badStream, 0, 0⟩)
    else match s.fabric req (field j.desc 48 8) (.write pic) .none 0 0 with
      | (s, none) => (s, ⟨.writeError, 0, 0⟩)
      | (s, some _) =>
        if refOut = [] then (s, ⟨.ok, pic.length, 0⟩)
        else match s.fabric req (field j.desc 24 8) (.write refOut) .none 0 0 with
          | (s, none) => (s, ⟨.writeError, pic.length, 0⟩)
          | (s, some _) => (s, ⟨.ok, pic.length, 0⟩)

/-- The counters and the event of a job's end (12 R316, Table 12-10). -/
def State.countJob (s : State) (e : JobStatus) : State :=
  match e with
  | .ok => s.count 0x28A3 1
  | .sourceLost => ((s.count 0x28A3 2).count 0x28A3 3).raiseSec 0 { code := 0x1A07 }
  | .outputFull => ((s.count 0x28A3 2).count 0x28A3 4).raiseSec 0 { code := 0x1A07 }
  | .overflow => (s.count 0x28A3 2).raiseSec 0 { code := 0x1A07 }
  | .readError => (s.count 0x28A3 2).raiseSec 0 { code := 0x1A07 }
  | .writeError => (s.count 0x28A3 2).raiseSec 0 { code := 0x1A07 }
  | .badStream => (s.count 0x28A3 2).raiseSec 0 { code := 0x1A07 }

/-- Every job's end: the result record, then DONE_QUOIN, even where the record could not be written (12 R316). -/
def State.finishCodecJob (s : State) (req : Requester) (j : CodecJob) (e : JobEnd) (frameType : Nat) : State :=
  let res := leBytes 1 e.status.code ++ leBytes 1 (if e.status = .ok ∨ e.status = .overflow then frameType else 0) ++ [0, 0]
    ++ leBytes 4 e.bytes ++ leBytes 4 e.start ++ leBytes 4 (s.refUs % 2 ^ 32)
  let s :=
    match s.fabric req (field j.desc 40 8) (.write res) .none 0 0 with
    | (s, none) => s.countJob (if e.status = .ok then .writeError else e.status)
    | (s, some _) => (s.countJob e.status).occur 99
  if j.flag 2 then (s.signalBy req (field j.desc 14 2) 1).1 else s

/-- CODEC_JOB_COMPLETE (12 R316): an engine has coded its job; `output` is the bitstream of an encode or the picture of a decode, `refOut` what it leaves in the reference area. -/
def execCodecJobComplete (engine : Fin 3) (output refOut : List Byte) (frameType : Fin 3) (badStream : Bool) (s : State) :
    Host.Outcome State Fault Refusal :=
  .next <|
    if !s.computeRuns then s
    else match s.codecRun engine.val with
      | none => s
      | some j =>
        let s := { s with host := { s.host with codec := { s.host.codec with run := s.host.codec.run.put engine.val none } } }
        if h : j.station < 32 then
          let req : Requester := .codec engine ⟨j.station, h⟩
          let (s, e) := if j.encodes then s.encodeJob req j output refOut else s.decodeJob req j output refOut badStream
          s.finishCodecJob req j e frameType.val
        else s

end Machine
end Sys2Proof
end

