-- ==== Sys2Proof/Machine/HostPort.lean ====
section
/-!
DEFINITION. The PCIe host port: outbound accesses, resets, the link, configuration requests, and the harts' timer (12 R297, R301-R305, R320; 14 R348).
-/
namespace Sys2Proof
namespace Machine

/-! ### Functions -/

/-- Change one function. -/
def State.updFunc (s : State) (f : Nat) (g : Pf → Pf) : State := { s with host := { s.host with fn := s.host.fn.upd {} f g } }

/-- The function exists: PF0, or a virtual function up to NumVFs (12 R301, R320). -/
def State.funcOn (s : State) (f : Nat) : Bool := f == 0 || decide (f ≤ s.host.numVfs)

/-- PCIE_LINK, 2D00h:01 (12 Table 12-8). -/
def State.pcieLink (s : State) : Nat := bitIf s.host.linkUp 7 + s.host.width * 4 + s.host.gen

/-! ### Outbound accesses (12 R303) -/

/-- First address of the outbound window. -/
def outBase : Nat := 0x8000000000

/-- An outbound error: one count, and EV-1A03 at most once per second. -/
def State.outboundError (s : State) : State := (s.count 0x28A0 3).raiseSec 0 { code := 0x1A03 }

/-- The lowest tag that no outstanding read uses (DESIGN CHOICE 32). -/
def freeTag (o : List Outbound) : Option Nat := (List.range 256).find? (fun t => o.all (fun x => x.tag != t))

/-- Send an outbound read, or let it wait for a tag. -/
def State.outRead (s : State) (req : Requester) (f a pci n : Nat) (op : FabricOp) : State × Option (List Byte) :=
  match freeTag s.host.outst with
  | some t =>
    let o : Outbound := { tag := t, fn := f, addr := pci, len := n }
    ({ s with host := { s.host with outst := s.host.outst ++ [o] } }, some [])
  | none =>
    let x : WaitingAccess := { req := req, station := f, op := op, addr := a }
    ({ s with mem := { s.mem with waiting := s.mem.waiting ++ [x] } }, some [])

/-- An access to the outbound window by station `f` that has passed the Referee: a posted write goes out, a read waits for its completion; none is an error response. -/
def State.outAccess (s : State) (req : Requester) (f a : Nat) (op : FabricOp) : State × Option (List Byte) :=
  if !s.host.linkUp || !s.funcOn f || !(s.func f).bme then (s.outboundError, none)
  else
    let pci := s.host.outBase / 4096 * 4096 + (a - outBase)
    match op with
    | .write _ => (s, some [])
    | .fetch n => s.outRead req f a pci n (.fetch n)
    | .read n => s.outRead req f a pci n (.read n)

/-- Send the reads that waited for a tag, as far as tags are free. -/
def State.sendWaiting (s : State) : State :=
  let out := s.mem.waiting.filter (fun x => regionOf x.addr == some .outbound)
  let s := { s with mem := { s.mem with waiting := s.mem.waiting.filter (fun x => regionOf x.addr != some .outbound) } }
  out.foldl (fun s x => (s.outAccess x.req x.station x.addr x.op).1) s

/-- An outstanding read ends. -/
def State.dropOutbound (s : State) (o : Outbound) : State :=
  { s with host := { s.host with outst := s.host.outst.erase o } }

/-- OUTBOUND_COMPLETION (12 R303): data for the requester, or an error response. -/
def execOutboundCompletion (tag : Fin 1024) (status : Completion) (data : List Byte) (s : State) : Host.Outcome State Fault Refusal :=
  .next <|
    match s.host.outst.find? (fun o => o.tag == tag.val) with
    | none => s
    | some o =>
      let s := s.dropOutbound o
      let s := match status with
        | .success => { s with out := { s.out with rdata := data.take o.len, err := false } }
        | .unsupported =>
          let s := (s.count 0x28A0 2).outboundError
          { s with out := { s.out with rdata := [], err := true } }
        | .abort =>
          let s := s.outboundError
          { s with out := { s.out with rdata := [], err := true } }
      s.sendWaiting

/-- OUTBOUND_COMPLETION_TIMEOUT (12 R303): no completion within 50 ms. -/
def execOutboundCompletionTimeout (tag : Fin 1024) (s : State) : Host.Outcome State Fault Refusal :=
  .next <|
    match s.host.outst.find? (fun o => o.tag == tag.val) with
    | none => s
    | some o =>
      let s := (s.dropOutbound o).outboundError
      ({ s with out := { s.out with rdata := [], err := true } } : State).sendWaiting

/-- The outstanding reads of a function end with an error response. -/
def State.endOutbound (s : State) (f : Nat) : State :=
  if s.host.outst.all (fun o => o.fn != f) then s
  else
    { s with
      host := { s.host with outst := s.host.outst.filter (fun o => o.fn != f) }
      out := { s.out with rdata := [], err := true } }

/-- Every outstanding read ends with an outbound error (12 R303). -/
def State.failOutbound (s : State) : State :=
  s.host.outst.foldl (fun s o =>
    let s := (s.dropOutbound o).outboundError
    { s with out := { s.out with rdata := [], err := true } }) s

/-! ### Resets and the link (12 R304, R305) -/

/-- The path is a function's mailbox. -/
def ofMailbox (f : Nat) : Path → Bool
  | .mailbox g => g.val == f
  | _ => false

/-- One function's configuration space and mailbox are reset and its reads end; PF0's reset takes NumVFs with it. -/
def State.resetFunc (s : State) (f : Nat) : State :=
  let s := s.endOutbound f
  let s := s.updFunc f (fun _ => {})
  let s := { s with od := { s.od with waiting := s.od.waiting.filter (fun (w : Waiting) => !ofMailbox f w.path) } }
  if f = 0 then { s with host := { s.host with numVfs := 0 } } else s

/-- FUNCTION_LEVEL_RESET (12 R304): stations, rings, cues and admission are untouched. -/
def execFunctionLevelReset (fn : Fin 32) (s : State) : Host.Outcome State Fault Refusal :=
  .next <|
    if !s.computeRuns || !s.funcOn fn.val then s
    else ((s.resetFunc fn.val).count 0x28A0 5).raise { code := 0x1A04, unit := fn.val }

/-- PERST_N_RESET (12 R304): the host port alone, for every function. -/
def execPerstNReset (s : State) : Host.Outcome State Fault Refusal :=
  .next <|
    if !s.computeRuns then s
    else (((List.range 32).foldl (fun s f => s.resetFunc f) s).count 0x28A0 5).raise { code := 0x1A04 }

/-- PCIE_LINK_DOWN (12 R305): outstanding reads get their error response at once. -/
def execPcieLinkDown (s : State) : Host.Outcome State Fault Refusal :=
  .next <|
    if !s.host.linkUp then s
    else
      let s := { s with host := { s.host with linkUp := false } }
      ((s.failOutbound.sendWaiting).count 0x28A0 4).raise { code := 0x1A01 }

/-- PCIE_LINK_UP (12 R305). -/
def execPcieLinkUp (width : Fin 3) (gen : Fin 4) (s : State) : Host.Outcome State Fault Refusal :=
  .next <|
    if s.host.linkUp || !s.computeRuns || s.pwr.entering then s
    else ({ s with host := { s.host with linkUp := true, width := width.val, gen := gen.val } } : State).raise { code := 0x1A02 }

/-! ### Configuration (12 R320) -/

/-- HP_CTRL is written: CFG_READY ends the retry responses. -/
def State.writeHpCtrl (s : State) (v : Nat) : State :=
  { s with host := { s.host with cfgReady := bit v 0, crs := s.host.crs && !bit v 0 } }

/-- CFG_READY (12 R320): a write of HP_CTRL. -/
def execCfgReady (value : BitVec 32) (s : State) : Host.Outcome State Fault Refusal := .next (s.writeHpCtrl value.toNat)

/-- CFG_READY_TIMEOUT (12 R320). -/
def execCfgReadyTimeout (s : State) : Host.Outcome State Fault Refusal :=
  .next { s with host := { s.host with crs := false } }

/-- A configuration request that is served. -/
def State.configure (s : State) (f : Nat) : CfgOp → State
  | .read off => { s with out := { s.out with rdata := leBytes 4 ((s.func f).cfg.at 0 off), err := false } }
  | .numVfs n =>
    if f ≠ 0 ∨ 31 < n then s
    else { s with host := { s.host with numVfs := n, fn := s.host.fn.filter (fun x => decide (x.1 ≤ n)) } }
  | .busMaster on => s.updFunc f (fun p => { p with bme := on })
  | .msixEnable on => s.updFunc f (fun p => { p with msixEn := on })
  | .msixMask on => s.updFunc f (fun p => { p with msixMask := on })
  | .d3hot on => s.updFunc f (fun p => { p with d3 := on })
  | .write off v => s.updFunc f (fun p => { p with cfg := p.cfg.put off v })

/-- PCIE_CONFIG_REQUEST (12 R320): retried until CFG_READY or 1 s, then served. -/
def execPcieConfigRequest (fn : Fin 32) (op : CfgOp) (s : State) : Host.Outcome State Fault Refusal :=
  .next <|
    if !s.host.linkUp || !s.funcOn fn.val then s
    else if s.host.crs then { s with out := { s.out with retry := true } }
    else ({ s with out := { s.out with retry := false } } : State).configure fn.val op

/-! ### Host harts (12 R297, 14 R348) -/

/-- A host hart. -/
def State.hartAt (s : State) (h : Nat) : Hart := s.host.hart.at {} h

/-- A hart leaves WFI, and Doze ends with it (14 R348). -/
def State.wakeHart (s : State) (h : Nat) : State :=
  { s with
    host := { s.host with hart := s.host.hart.upd {} h (fun x => { x with wfi := false }) }
    pwr := { s.pwr with state := if s.pwr.state = .doze then .run else s.pwr.state } }

/-- HART_TIMER_INTERRUPT (14 R348): mtime has reached a hart's compare value. -/
def execHartTimerInterrupt (hart : Fin 4) (s : State) : Host.Outcome State Fault Refusal :=
  .next (if s.computeRuns && (s.hartAt hart.val).out then s.wakeHart hart.val else s)

end Machine
end Sys2Proof
end

