-- ==== Sys2Proof/Machine/Package.lean ====
section
/-!
DEFINITION. What the Roster reads from a package, the core map, the variant of a station, and the speed ceilings with the spacings they load (10 R252-R257, R266, R267; 02 R45, R67-R69).
-/
namespace Sys2Proof
namespace Machine

/-! ### Package structures -/

/-- A package slot (16 R403). -/
def State.pk (s : State) (p : Nat) : Package := s.pkg.at {} p

/-- The package is installed: INSTALLED or VERIFIED (16 R403). -/
def pkgReady : PkgState → Bool
  | .installed => true
  | .verified => true
  | .empty => false
  | .loading => false
  | .failed => false

/-- A field of the package header; the header stands at LOAD_BASE (DESIGN CHOICE 15). -/
def State.hdr (s : State) (p off len : Nat) : Nat := s.peekNat ((s.pk p).base + off) len

/-- V_MAX (10 Table 10-2). -/
def State.pkVmax (s : State) (p : Nat) : Nat := s.hdr p 0 4
/-- A_MAX. -/
def State.pkAmax (s : State) (p : Nat) : Nat := s.hdr p 4 4
/-- STREAM_BASE. -/
def State.pkStream (s : State) (p : Nat) : Nat := s.hdr p 16 8
/-- RING_BASE. -/
def State.pkRing (s : State) (p : Nat) : Nat := s.hdr p 24 2
/-- QUOIN_BASE. -/
def State.pkQuoin (s : State) (p : Nat) : Nat := s.hdr p 26 2
/-- Variant v is present. -/
def State.pkHas (s : State) (p v : Nat) : Bool := decide (v ≤ 8) && bit (s.hdr p 28 2) v
/-- KIND of window w: 0 none, 1 model, 2 patch, 3 refused. -/
def State.pkKind (s : State) (p w : Nat) : Nat := bits (s.hdr p (32 + w) 1) 6 2
/-- Model number of window w. -/
def State.pkModel (s : State) (p w : Nat) : Nat := bits (s.hdr p (32 + w) 1) 0 6

/-- A field of variant entry v (10 Table 10-3). -/
def State.pkVar (s : State) (p v off len : Nat) : Nat := s.peekNat (s.hdr p 64 8 + 32 * v + off) len

/-- A step template (10 Table 10-4). -/
structure Template where
  cls : Nat
  width : Nat
  parts : Nat
  last : Bool
  wset : Nat
  cand : Nat
  wcet : Nat
  rem : Nat
  dir : Nat
  prog : Nat
  progLen : Nat
  deriving DecidableEq, Repr

/-- Address of a step's template (10 Tables 10-3, 10-4). -/
def State.templateAddr (s : State) (p v model step : Nat) : Nat := s.peekNat (s.pkVar p v 16 8 + 16 * model) 8 + 64 * step

/-- The template of a step. -/
def State.template (s : State) (p v model step : Nat) : Template :=
  let a := s.templateAddr p v model step
  { cls := s.peekNat a 1, width := s.peekNat (a + 1) 1, parts := s.peekNat (a + 2) 1, last := bit (s.peekNat (a + 3) 1) 0
    wset := s.peekNat (a + 4) 2, cand := s.peekNat (a + 6) 2, wcet := s.peekNat (a + 8) 2, rem := s.peekNat (a + 10) 2
    dir := s.peekNat (a + 16) 8, prog := s.peekNat (a + 24) 8, progLen := s.peekNat (a + 32) 2 }

/-- The installed package that a station names. -/
def State.stPackage (s : State) (st : Nat) : Option Nat :=
  let p := s.stNum st 0x20
  if p < 64 ∧ pkgReady (s.pk p).state = true then some p else none

/-! ### Live cores and variants -/

/-- The core is retired (08 R229). -/
def State.retired (s : State) (c : Nat) : Bool := (s.core c).state == .retired

/-- LIVE_QUAD (08 Table 8-8). -/
def State.liveQuad (s : State) : Nat := ((List.range 8).filter (fun c => !s.retired c)).length
/-- LIVE_DUO (08 Table 8-8). -/
def State.liveDuo (s : State) : Nat := ((List.range 8).filter (fun c => !s.retired (c + 8))).length
/-- RETIRED (08 Table 8-8). -/
def State.retiredMask (s : State) : Nat := ((List.range 16).map (fun c => bitIf (s.retired c) c)).sum

/-- Physical cores of a class that are live in the core map, in ascending order: logical core k is the k-th (10 R256). -/
def State.classMap (s : State) (cls : Nat) : List Nat :=
  (List.range 8).map (· + 8 * cls) |>.filter (fun c => bit s.rs.live c)

/-- Live cores that a template's CAND maps to (10 R256, R263). -/
def State.candidates (s : State) (t : Template) : List Nat :=
  ((s.classMap t.cls).zipIdx.filter (fun x => bit t.cand (x.2 + 8 * t.cls))).map Prod.fst

/-- The variant of a package for the present losses: the highest V_VAR, then the lowest code; FFh where none qualifies (10 R257). -/
def State.bestVariant (s : State) (p : Nat) : Nat :=
  let ok := (List.range 9).filter (fun v => s.pkHas p v && decide (8 - s.liveQuad ≤ v / 3) && decide (8 - s.liveDuo ≤ v % 3))
  ok.foldl (fun b v => if b = 255 then v else if s.pkVar p b 0 4 < s.pkVar p v 0 4 then v else b) 255

/-- A station's chain. -/
def State.chain (s : State) (st : Nat) : Chain := s.rs.chain.at {} st

/-- Change a station's chain. -/
def State.updChain (s : State) (st : Nat) (f : Chain → Chain) : State :=
  { s with rs := { s.rs with chain := s.rs.chain.upd {} st f } }

/-- The variant of a station is chosen anew, as when it names a package (10 R257). -/
def State.takeVariant (s : State) (st : Nat) : State :=
  let v := match s.stPackage st with | some p => s.bestVariant p | none => 255
  s.updChain st (fun c => { c with variant := v, next := none })

/-- ADMIT of a station. -/
def State.admits (s : State) (st : Nat) : Bool := s.stNum st 0x22 == 1

/-! ### Cue layout (10 R266) -/

/-- A channel line of CUE_LAYOUT. -/
structure ChanLine where
  enable : Bool
  channel : Nat
  wunit : Nat
  width : Nat
  phase : Nat
  deriving DecidableEq, Repr

/-- A window line of CUE_LAYOUT. -/
structure WinLine where
  enable : Bool
  line : Nat
  kicker : Nat
  wunit : Nat
  width : Nat
  offset : Nat
  deriving DecidableEq, Repr

/-- Channel line k of a layout. -/
def chanLine (dom : List Byte) (k : Nat) : ChanLine :=
  let v := field dom (8 * k) 8
  { enable := bit v 63, channel := bits v 59 4, wunit := bits v 57 2, width := bits v 45 12, phase := bits v 0 24 }

/-- Window line w of a layout. -/
def winLine (dom : List Byte) (w : Nat) : WinLine :=
  let v := field dom (128 + 8 * w) 8
  { enable := bit v 63, line := bits v 59 4, kicker := bits v 56 3, wunit := bits v 54 2, width := bits v 42 12, offset := bits v 0 32 }

/-- The enabled channel lines, with their numbers. -/
def chanLines (dom : List Byte) : List (Nat × ChanLine) :=
  ((List.range 16).map (fun k => (k, chanLine dom k))).filter (fun x => x.2.enable)

/-- The enabled window lines, with their numbers. -/
def winLines (dom : List Byte) : List (Nat × WinLine) :=
  ((List.range 32).map (fun k => (k, winLine dom k))).filter (fun x => x.2.enable)

/-- The layout is one that R266 accepts for an impression length. -/
def layoutOk (dom : List Byte) (len : Nat) : Bool :=
  (chanLines dom).all (fun x => decide (x.2.phase < len))
    && (winLines dom).all (fun x => decide (x.2.offset < 15 * len) && (chanLine dom x.2.line).enable)

/-- D_s, the smallest enabled KICK_OFFSET (10 R266). -/
def smallestOffset (dom : List Byte) : Option Nat :=
  (winLines dom).foldl (fun b x => match b with | none => some x.2.offset | some d => some (min d x.2.offset)) none

/-- CUE_LAYOUT of a station. -/
def State.layout (s : State) (st : Nat) : List Byte := s.stDom st 0x24

/-- L in force on a web clock (02 R47). -/
def State.lenOf (s : State) (w : Nat) : Nat := (s.clock w).len

/-! ### Acceleration (02 R45) -/

/-- Stations bound to a web clock: those whose package is installed and whose WC names it. -/
def State.boundTo (s : State) (w : Nat) : List Nat :=
  (List.range 32).filter (fun st => (s.stPackage st).isSome && s.stClock st == w)

/-- The smallest A_MAX of the stations bound to a clock. -/
def State.accelLimit (s : State) (w : Nat) : Option Nat :=
  (s.boundTo w).foldl (fun b st =>
    match s.stPackage st, b with
    | some p, none => some (s.pkAmax p)
    | some p, some a => some (min a (s.pkAmax p))
    | none, b => b) none

/-- ACCELERATION_CHECK (02 R45): the change of the filtered velocity over 1 ms against the smallest a_max. -/
def execAccelerationCheck (wc : Fin 8) (s : State) : Host.Outcome State Fault Refusal :=
  let n := wc.val
  let w := s.clock n
  let d := (w.vel - w.velMs) * 1000
  let excess := match s.accelLimit n with | none => false | some a => decide ((a : Rat) < (if d < 0 then -d else d))
  let s := if s.fd.on then s.updClock n (fun x => { x with velMs := x.vel }) else s
  .next <|
    if s.fd.on && excess && (s.wcCfg n).enable then
      (s.fdCount (0x2820 + n) 0x0B).fdRaiseImp n w.idx.toNat
        { code := 0x1008, unit := n, detail := (w.pos (s.wcCfg n)).toNat }
    else s

/-! ### Speed ceilings -/

/-- A published ceiling. -/
def State.ceil (s : State) (w : Nat) : Ceiling := s.rs.ceiling.at {} w

/-- The smaller of two terms of the ceiling; REASON follows the smaller, and the lower code between equals. -/
def lowerTerm (a b : Rat × Nat) : Rat × Nat :=
  if b.1 < a.1 ∨ (b.1 = a.1 ∧ b.2 < a.2) then b else a

/-- Terms of one station bound to a clock (02 R67 step 3, R69). -/
def State.stationTerms (s : State) (st : Nat) : List (Rat × Nat) :=
  match s.stPackage st with
  | none => []
  | some p =>
    let v := (s.chain st).variant
    ((s.pkVmax p : Rat), 1) ::
      (if s.admits st && v != 255 then
        ((s.pkVar p v 0 4 : Rat), 2) ::
          (match smallestOffset (s.layout st) with
          | none => []
          | some d => [((d : Rat) * 1000000 / ((s.stNum st 0x25 + 1502 : Nat) : Rat), 3)])
      else [])

/-- v0 of a clock with the term that sets it (02 R67 steps 1-4). -/
def State.v0 (s : State) (w : Nat) : Rat × Nat :=
  let v := s.viewAt w
  if s.num (0x2100 + w) 1 0 = 0 then (0, 0)
  else if v.health = 4 then (0, 5)
  else
    let c := s.wcCfg w
    let enc : Rat := 10000000 * c.decode
    let enc := if bit v.stat 14 then enc * c.num / c.den else enc
    let base : Rat × Nat := if v.health = 3 then (enc * s.num 0x2110 0x11 128 / 256, 5) else (enc, 0)
    (s.boundTo w).foldl (fun b st => (s.stationTerms st).foldl lowerTerm b) base

/-- The smallest utilisation limit among installed packages, per mille (02 R67 step 5). -/
def State.utilisation (s : State) : Nat :=
  ((List.range 64).filter (fun p => pkgReady (s.pk p).state)).foldl (fun b p => min b (s.hdr p 12 2)) 1000

/-- Demand of a core class at every clock's v0, core-µs per second (02 R67 step 5). -/
def State.demand (s : State) (cls : Nat) : Rat :=
  ((List.range 8).map (fun w =>
    let rate := (s.v0 w).1 / ((max 1 (s.lenOf w) : Nat) : Rat)
    ((s.boundTo w).map (fun st =>
      match s.stPackage st with
      | some p =>
        let v := (s.chain st).variant
        if s.admits st && v != 255 then rate * ((s.pkVar p v (4 + 4 * cls) 4 : Nat) : Rat) else 0
      | none => 0)).foldl (· + ·) 0)).foldl (· + ·) 0

/-- The larger ratio of demand to capacity; none for demand without a live core (02 R67 step 5). -/
def State.loadRatio (s : State) : Option Rat :=
  let one (cls live : Nat) : Option Rat :=
    let d := s.demand cls
    let cap := live * s.utilisation * 1000
    if d = 0 then some 0 else if cap = 0 then none else some (d / (cap : Rat))
  match one 0 s.liveQuad, one 1 s.liveDuo with
  | some a, some b => some (if a < b then b else a)
  | _, _ => none

/-- The ceiling and its REASON (02 R67). -/
def State.ceilingOf (s : State) (w : Nat) : Nat × Nat :=
  let (v, why) := s.v0 w
  if v ≤ 0 then (0, why)
  else match s.loadRatio with
    | none => (0, 4)
    | some d => if d ≤ 1 then (min (2 ^ 32 - 1) v.floor.toNat, why) else (min (2 ^ 32 - 1) (v / d).floor.toNat, 4)

/-- The admission spacing that a published ceiling gives (10 R267). -/
def State.spacingFor (s : State) (w : Nat) : Nat :=
  let c := (s.ceil w).value
  if c = 0 then 2 ^ 32 - 1 else min (2 ^ 32 - 1) ((s.lenOf w * 1000000 + c - 1) / c)

/-- Load a station's spacing into the field die over the link (10 R267). -/
def State.loadSpacing (s : State) (st : Nat) : State :=
  if s.link.up then
    (s.sendField (.regWrite (.spacing st) (s.spacingFor (s.stClock st)))).updChain st (fun c => { c with loaded := true })
  else s.updChain st (fun c => { c with loaded := false })

/-- Load the spacing of every station bound to a clock. -/
def State.loadSpacings (s : State) (w : Nat) : State := (s.boundTo w).foldl (fun s st => s.loadSpacing st) s

/-- Publish a ceiling: 2110h shows it and the stations' spacings follow (02 R68, R69, 10 R267). -/
def State.publish (s : State) (w v why : Nat) : State :=
  ({ s with rs := { s.rs with ceiling := s.rs.ceiling.put w { value := v, reason := why } } } : State).loadSpacings w

/-- Recompute one clock's ceiling: a lower one is published at once, a higher one begins or goes on waiting (02 R68). -/
def State.recomputeOne (s : State) (w : Nat) : State :=
  let (v, why) := s.ceilingOf w
  let c := s.ceil w
  if v < c.value then
    let s := s.publish w v why
    if s.num (0x2100 + w) 1 0 = 0 then s else s.raise { code := 0x1007, unit := w, detail := why }
  else if v = c.value then
    { s with rs := { s.rs with ceiling := s.rs.ceiling.put w { c with reason := why, higher := none } } }
  else if c.higher = some v then s
  else { s with rs := { s.rs with ceiling := s.rs.ceiling.put w { c with higher := some v, since := s.clk.ref } } }

/-- CEILING_RECOMPUTE (02 R67, R68): every ceiling, within 1 ms of a change of an input. -/
def execCeilingRecompute (s : State) : Host.Outcome State Fault Refusal :=
  .next (if s.computeRuns then (List.range 8).foldl (fun s w => s.recomputeOne w) s else s)

/-- CEILING_RAISE_PUBLISH (02 R68): a higher ceiling has been computed continuously for RAISE_HOLD_MS. -/
def execCeilingRaisePublish (wc : Fin 8) (s : State) : Host.Outcome State Fault Refusal :=
  let w := wc.val
  let c := s.ceil w
  .next <|
    match c.higher with
    | none => s
    | some v =>
      if s.computeRuns = true ∧ c.since + s.num 0x2110 0x12 1000 * Config.psPerMs ≤ s.clk.ref then
        let (now, why) := s.ceilingOf w
        s.publish w v (if now = v then why else c.reason)
      else s

/-- CEILING_MM (02 R69). -/
def State.ceilingMm (s : State) (w : Nat) : Nat :=
  let t := s.num (0x2100 + w) 5 0
  if t = 0 then 0 else min (2 ^ 32 - 1) ((s.ceil w).value * 1000 / t)

end Machine
end Sys2Proof
end

