-- ==== Sys2Proof/Machine/RosterBase.lean ====
section
/-!
DEFINITION. Cue groups, verdicts and the ends of sequences (10 R259-R261, R265-R268, R271).
-/
namespace Sys2Proof
namespace Machine

/-! ### Positions as the Roster sees them -/

/-- Integer tick position of a view (02 R42). -/
def View.ticks (v : View) : Nat := v.pos.toNat / 256

/-- Difference p − q modulo 2^48, read as signed (00 R7). -/
def diff48 (p q : Nat) : Int := signed (p + 2 ^ 48 - q % 2 ^ 48) 48

/-- Difference modulo 2^32, read as signed. -/
def diff32 (p q : Nat) : Int := signed (p + 2 ^ 32 - q % 2 ^ 32) 32

/-- Tick position `k` ticks (signed) from p, modulo 2^48. -/
def tickAt (p : Nat) (k : Int) : Nat := unsigned ((p : Int) + k) 48

/-- The position view reads valid and a session is up: the Roster may place and install (10 R278). -/
def State.viewOk (s : State) (w : Nat) : Bool := s.link.up && (s.viewAt w).valid

/-! ### Verdicts -/

/-- A cue entry as the Roster keeps it. -/
def State.cueUse (s : State) (e : Nat) : CueUse := s.rs.cue.at {} e

/-- Change what the Roster keeps of a cue entry. -/
def State.updCueUse (s : State) (e : Nat) (f : CueUse → CueUse) : State :=
  { s with rs := { s.rs with cue := s.rs.cue.upd {} e f } }

/-- The kick cue of a window of an impression, while the Roster holds it (10 R266). -/
def State.kickOf (s : State) (st imp window : Nat) : Option Nat :=
  (s.rs.cue.find? (fun x => x.2.used && x.2.kick && x.2.station == st && x.2.imp == imp && x.2.line == window)).map Prod.fst

/-- A verdict goes into a kick cue over the link; without a session it reaches nothing (10 R268). -/
def State.sendVerdict (s : State) (cue : Nat) (v : Verdict) : State :=
  if s.link.up && (s.cueUse cue).used then s.sendField (.verdict cue v) else s

/-! ### Window and carry records -/

/-- Release one record by the Roster for its station (10 R261). -/
def State.releaseRec (s : State) (st ring len : Nat) : State :=
  if h : st < 32 then (s.releaseOn (.roster ⟨st, h⟩) ring len).1 else s

/-- Release the records at a ring's TAIL that no sequence uses any more, in TAIL order; `fuel` bounds their number (10 R261). -/
def State.drainRing (s : State) (st ring : Nat) : Nat → State
  | 0 => s
  | fuel + 1 =>
    match s.rs.wins.find? (fun r => r.ring == ring) with
    | none => s
    | some r =>
      if s.rs.wins.any (fun x => x.ring == ring && x.start == r.start && x.open_) then s
      else
        let s := { s with rs := { s.rs with wins := s.rs.wins.filter (fun x => !(x.ring == ring && x.start == r.start)) } }
        (s.releaseRec st ring r.len).drainRing st ring fuel

/-- A sequence uses none of its records any more: each ring it used is drained. -/
def State.closeRecs (s : State) (st e : Nat) : State :=
  let rings := ((s.rs.wins.filter (fun r => r.open_ && r.seq == e)).map WinRec.ring).eraseDups
  let s := { s with rs := { s.rs with wins := s.rs.wins.map (fun r => if r.seq = e then { r with open_ := false } else r) } }
  rings.foldl (fun s ring => s.drainRing st ring s.rs.wins.length) s

/-! ### Ends of sequences -/

/-- Why a sequence ends (10 R261, R265, R271). -/
inductive SeqEnd where
  | verdict (v : Verdict)
  | noVerdict
  | deadline
  | expired
  | noCandidate
  | lost
  | aborted
  | denied
  | reset
  deriving DecidableEq, Repr

/-- A sequence entry. -/
def State.seq (s : State) (e : Nat) : SeqEntry := s.rs.seq.at {} e

/-- Change a sequence entry. -/
def State.updSeq (s : State) (e : Nat) (f : SeqEntry → SeqEntry) : State :=
  { s with rs := { s.rs with seq := s.rs.seq.upd {} e f } }

/-- Mark of a slug's slot whose sequence has ended. -/
def seqGone : Nat := 1024

/-- The counters, the event and the verdict that an ending gives. -/
def State.reportEnd (s : State) (q : SeqEntry) : SeqEnd → State
  | .verdict v => (s.count 0x2880 2).sendVerdict q.cue v
  | .noVerdict => ((s.sendVerdict q.cue .unseen).count 0x2880 0x0A).raise { code := 0x1805, station := q.station }
  | .deadline =>
    let w := s.stClock q.station
    ((s.sendVerdict q.cue .unseen).count 0x2880 4).raiseSec q.station
      { code := 0x1803, unit := w, station := q.station, detail := (s.viewAt w).ticks }
  | .expired =>
    let w := s.stClock q.station
    (s.count 0x2880 4).raiseSec q.station { code := 0x1803, unit := w, station := q.station, detail := (s.viewAt w).ticks }
  | .noCandidate => (s.sendVerdict q.cue .unseen).count 0x2880 7
  | .lost => (s.sendVerdict q.cue .unseen).count 0x2880 5
  | .aborted => s.sendVerdict q.cue .unseen
  | .denied => (s.sendVerdict q.cue .unseen).count 0x2880 4
  | .reset => s

/-- No sequence, no ARMED and no LIVE cue of the station remains (11 R290). -/
def State.quiet (s : State) (st : Nat) : Bool :=
  s.rs.seq.all (fun x => !(x.2.state != .free && x.2.station == st))
    && s.cue.tab.all (fun x => !((x.2.st == .armed || x.2.st == .live) && cueStation x.2.word == st))

/-- A DRAINING station whose last cue and sequence are gone is CONFIGURED again (11 R290). -/
def State.settleStation (s : State) (st : Nat) : State :=
  if s.stState st = .draining ∧ s.quiet st = true then s.setStation st .configured else s

/-- A sequence ends: its window takes its verdict, its entry is FREE, its parts in slugs are discarded later and its records go (10 R261). -/
def State.endSeq (s : State) (e : Nat) (why : SeqEnd) : State :=
  let q := s.seq e
  if q.state = .free then s
  else
    let s := s.reportEnd q why
    let s := { s with rs := { s.rs with
      seq := s.rs.seq.put e {}
      slug := s.rs.slug.map (fun (x : Nat × Slug) =>
        (x.1, { x.2 with seqs := x.2.seqs.map (fun (y : Nat × Nat) => if y.2 = e then (y.1, seqGone) else y) })) } }
    (s.closeRecs q.station e).settleStation q.station

/-- Sequences of a station that are in use (SEQ_IN_USE). -/
def State.seqInUse (s : State) (st : Nat) : Nat :=
  (s.rs.seq.filter (fun x => x.2.state != .free && x.2.station == st)).length

/-! ### Cue groups -/

/-- Trigger output of a channel, TRG_BIND (2200h + n:0F). -/
def State.trgBind (s : State) (n : Nat) : Nat := s.num (0x2200 + n) 0x0F 0xFF

/-- A cue to install: what the Roster keeps of it, and its word without EXPIRY. -/
structure NewCue where
  use : CueUse
  word : Nat
  deriving DecidableEq, Repr

/-- A cue word from its fields (02 Table 2-3). -/
def cueWord (st w kind out window wunit width tag pos : Nat) : Nat :=
  st * 2 ^ 123 + w * 2 ^ 120 + kind * 2 ^ 118 + out * 2 ^ 113 + window * 2 ^ 106 + wunit * 2 ^ 104 + width * 2 ^ 92
    + tag * 2 ^ 88 + pos

/-- Start of an impression, in ticks: the view less its phase, plus L for each impression ahead (10 R266). -/
def State.impStart (s : State) (w imp : Nat) : Nat :=
  let v := s.viewAt w
  tickAt v.ticks (diff32 imp v.idx.toNat * (s.lenOf w : Int) - (v.phase : Int))

/-- The triggers of a group: line, output, position. -/
def State.groupTriggers (s : State) (st imp : Nat) : List (Nat × Nat × Nat) :=
  let w := s.stClock st
  let start := s.impStart w imp
  ((chanLines (s.layout st)).filter (fun x => s.trgBind x.2.channel < 32)).map (fun x =>
    (x.1, s.trgBind x.2.channel, tickAt start x.2.phase))

/-- The line whose trigger comes first. -/
def State.firstLine (s : State) (st imp : Nat) : Option (Nat × Nat) :=
  (s.groupTriggers st imp).foldl (fun (b : Option (Nat × Nat)) x =>
    match b with
    | none => some (x.1, x.2.2)
    | some (_, p) => if diff48 x.2.2 p < 0 then some (x.1, x.2.2) else b) none

/-- The cues of a group (10 R266). -/
def State.groupCues (s : State) (st imp : Nat) : List NewCue :=
  let w := s.stClock st
  let dom := s.layout st
  let first := (s.firstLine st imp).map Prod.fst
  let trgs := s.groupTriggers st imp
  trgs.map (fun x =>
    let l := chanLine dom x.1
    { use := { used := true, station := st, imp := imp, first := first == some x.1, kick := false, line := x.1, pos := x.2.2 * 256 }
      word := cueWord st w 0 x.2.1 0 l.wunit l.width (imp % 16) (x.2.2 * 256) })
  ++ (winLines dom).filterMap (fun y =>
    match trgs.find? (fun x => x.1 == y.2.line) with
    | none => none
    | some x =>
      let p := tickAt x.2.2 y.2.offset * 256
      some { use := { used := true, station := st, imp := imp, kick := true, line := y.1, pos := p }
             word := cueWord st w 1 y.2.kicker y.1 y.2.wunit y.2.width (imp % 16) p })

/-- The first `n` cue entries that the Roster does not hold, from the lowest (DESIGN CHOICE 16). -/
def freeCues (t : Tab CueUse) : Nat → Nat → Nat → List Nat
  | _, _, 0 => []
  | 0, _, _ => []
  | fuel + 1, k, n + 1 =>
    if (t.at ({} : CueUse) k).used then freeCues t fuel (k + 1) (n + 1) else k :: freeCues t fuel (k + 1) n

/-- Send one cue as its four parts (03 R94). -/
def State.sendCue (s : State) (e : Nat) (c : NewCue) : State :=
  let s := { s with rs := { s.rs with cue := s.rs.cue.put e c.use } }
  (List.range 4).foldl (fun s p => s.sendField (.cuePart e p (BitVec.ofNat 32 (bits c.word (32 * p) 32)))) s

/-- Install the group of one impression; nothing where the entries do not suffice. -/
def State.installGroup (s : State) (st imp : Nat) : State :=
  let cues := s.groupCues st imp
  let es := freeCues s.rs.cue 8192 0 cues.length
  if cues = [] ∨ es.length < cues.length then s
  else
    let s := (es.zip cues).foldl (fun s x => s.sendCue x.1 x.2) s
    s.updChain st (fun c => { c with imp := some imp })

/-- A group of the impression is still installed. -/
def State.groupHeld (s : State) (st imp : Nat) : Bool :=
  s.rs.cue.any (fun x => x.2.used && x.2.station == st && x.2.imp == imp)

/-- The station may get cue groups: admission enabled, a variant, a valid view, and no autonomy, in which no cue is installed (10 R267, R278, 03 R96). -/
def State.mayInstall (s : State) (st : Nat) : Bool :=
  s.computeRuns && !s.pwr.entering && !s.link.autonomy && s.admits st && (s.chain st).variant != 255 && !(s.chain st).fenced && s.viewOk (s.stClock st)

/-- The chain starts anew with the first impression whose first trigger lies at least 1,024 ticks after the view, but for those whose groups are still held (10 R266; DEDUCED 17). -/
def State.startChain (s : State) (st : Nat) : State :=
  let w := s.stClock st
  let s := s.updChain st (fun c => { c with imp := none })
  if s.mayInstall st = false then s
  else
    let s := if (s.chain st).loaded then s else s.loadSpacing st
    let v := s.viewAt w
    let ok (j : Nat) : Bool :=
      let imp := (v.idx.toNat + j) % 2 ^ 32
      match s.firstLine st imp with
      | none => false
      | some (_, p) => decide (1024 ≤ diff48 p v.ticks) && !s.groupHeld st imp
    match (List.range 9300).find? ok with
    | none => s
    | some j => s.installGroup st ((v.idx.toNat + j) % 2 ^ 32)

/-- Group i + 1 follows the crossing of group i's first trigger (10 R266). -/
def State.nextGroup (s : State) (st imp : Nat) : State :=
  if s.mayInstall st then s.installGroup st ((imp + 1) % 2 ^ 32) else s.updChain st (fun c => { c with imp := none })

/-- A pending variant applies once a forward boundary has been passed (10 R271). -/
def State.applyVariant (s : State) (st : Nat) : State :=
  match (s.chain st).next with
  | none => s
  | some (v, idx) =>
    if 0 < diff32 (s.viewAt (s.stClock st)).idx.toNat idx then s.updChain st (fun c => { c with variant := v, next := none })
    else s

/-- A station's new variant after a change of the live cores; it waits for the next forward boundary, and counts once (10 R271, R267). -/
def State.switchVariant (s : State) (st : Nat) : State :=
  match s.stPackage st with
  | none => s
  | some p =>
    let v := s.bestVariant p
    let c := s.chain st
    let aim := match c.next with | some (x, _) => x | none => c.variant
    if v = aim then s
    else if v = 255 then
      ((s.updChain st (fun c => { c with variant := 255, next := none, imp := none })).count 0x2880 8).raise
        { code := 0x1802, station := st }
    else if v = c.variant then s.updChain st (fun c => { c with next := none })
    else
      let first := c.next.isNone
      let s := s.updChain st (fun c => { c with next := some (v, (s.viewAt (s.stClock st)).idx.toNat) })
      if first then (s.count 0x2880 8).raise { code := 0x1801, station := st } else s

/-- Verdicts of a frame's model windows that end without a sequence: UNSEEN into their kick cues (04 R117). -/
def State.unseenWindow (s : State) (st imp window : Nat) : State :=
  match s.kickOf st imp window with
  | some e => s.sendVerdict e .unseen
  | none => s

end Machine
end Sys2Proof
end

