-- ==== Sys2Proof/Machine/Pipeline.lean ====
section
/-!
DEFINITION. The image pipelines and Patch Meters: parameter sets and APPLY, the processing of a frame, window and patch result records, patch verdicts (05; 04 R117).
-/
namespace Sys2Proof
namespace Machine

/-! ### Channels and pipelines -/

/-- Defaults of the scalars of 2200h + n (04 Table 4-11). -/
def icDflt : Nat → Nat
  | 0x03 => 4 | 0x04 => 1500 | 0x05 => 0x3210 | 0x08 => 0x1000 | 0x0C => 0x2B | 0x0D => 2048 | 0x0E => 2048 | 0x0F => 0xFF
  | 0x10 => 65536 | 0x11 => 100 | 0x12 => 0xFFFFFFFF | 0x13 => 0xFFFFFFFF | 0x16 => 79 | 0x18 => 1 | 0x19 => 16 | _ => 0

/-- A scalar of 2200h + n. -/
def State.icn (s : State) (n sub : Nat) : Nat := s.num (0x2200 + n) sub (icDflt sub)

/-- An intake channel (04 R103). -/
def State.intake (s : State) (n : Nat) : Channel := s.ic.at {} n

/-- Change one intake channel. -/
def State.updIntake (s : State) (n : Nat) (f : Channel → Channel) : State := { s with ic := s.ic.upd {} n f }

/-- An image pipeline (05 R132). -/
def State.pipe (s : State) (n : Nat) : Pipeline := s.isp.at {} n

/-- Change one image pipeline. -/
def State.updPipe (s : State) (n : Nat) (f : Pipeline → Pipeline) : State := { s with isp := s.isp.upd {} n f }

/-- The channel's PHY mode is PIX (04 R104). -/
def State.isPix (s : State) (n : Nat) : Bool := s.icn n 2 == 2

/-- VC slots in use: slot, virtual channel, role (04 R109). -/
def State.vcSlots (s : State) (n : Nat) : List (Nat × Nat × Nat) :=
  ((List.range 4).map (fun i => (i, s.icn n (8 + i) % 16, s.icn n (8 + i) / 4096))).filter (fun x => x.2.2 != 0)

/-- The slot of a virtual channel: its number and role. -/
def State.slotOf (s : State) (n vc : Nat) : Option (Nat × Nat) :=
  ((s.vcSlots n).find? (fun x => x.2.1 == vc)).map (fun x => (x.1, x.2.2))

/-- The virtual channel of a role. -/
def State.vcOfRole (s : State) (n role : Nat) : Option Nat := ((s.vcSlots n).find? (fun x => x.2.2 == role)).map (fun x => x.2.1)

/-- The PRIMARY virtual channel. -/
def State.primaryVc (s : State) (n : Nat) : Nat := (s.vcOfRole n 1).getD 0

/-- The virtual channels of the merge set; the PIX port has the PRIMARY stream only (04 R110, R111). -/
def State.setVcs (s : State) (n : Nat) : List Nat :=
  if s.isPix n then [s.primaryVc n]
  else ((s.vcSlots n).filter (fun x => decide (x.2.2 ≤ 3))).map (fun x => x.2.1)

/-- The ring is a valid C3 drop-new ring of the station (07 R186). -/
def State.c3Ring (s : State) (st r : Nat) : Bool :=
  decide (r < 65536) && s.ringIn st r && (s.ring r).valid && (s.ring r).owner == st && (s.ring r).cls == 3 && (s.ring r).policy == 1

/-! ### Parameter sets (05 R150) -/

/-- The shadow set of a pipeline: what the dictionary holds. -/
def State.shadowSet (s : State) (n : Nat) : Cfg :=
  { num := s.od.cfg.num.filter (fun x => x.1 / 256 == 0x2300 + n)
    dom := s.od.cfg.dom.filter (fun x => x.1 / 256 == 0x2300 + n || x.1 == key 0x2320 (n + 1)) }

/-- The two abort codes that refuse a set: a value out of range, and a ring that the station does not own. -/
inductive SetFault where
  | range
  | ring
  deriving DecidableEq, Repr

/-- One enabled crop entry against Table 5-5 and R144. -/
def cropFits (w h : Nat) (e : Crop) : Bool :=
  decide (8 ≤ e.w ∧ 2 ≤ e.h ∧ 8 ≤ e.ow ∧ 2 ≤ e.oh ∧ e.format ≤ 7 ∧ e.rsv = 0 ∧ e.ring < 65536)
    && decide (e.x0 + e.w ≤ w ∧ e.y0 + e.h ≤ h) && decide (e.ow ≤ e.w ∧ e.w ≤ 16 * e.ow ∧ e.oh ≤ e.h ∧ e.h ≤ 16 * e.oh)

/-- A crop set against R144. -/
def State.cropFault (s : State) (n : Nat) (dom : List Byte) : Option SetFault :=
  let es := (crops dom).map Prod.snd
  let st := s.channelOwner n
  if !(es.all (cropFits (s.icn n 0x0D) (s.icn n 0x0E))) || (es.map Crop.window).eraseDups.length != es.length
      || es.any (fun e => decide (8 < (es.filter (fun f => decide (f.y0 ≤ e.y0 ∧ e.y0 < f.y0 + f.h))).length)) then some .range
  else if es.all (fun e => s.c3Ring st e.ring) then none else some .ring

/-- A temporal reference ring against R137. -/
def State.tnrFault (s : State) (n r : Nat) : Option SetFault :=
  if r = 0xFFFFFFFF then none
  else if s.c3Ring (s.channelOwner n) r = false then some .ring
  else if (s.ring r).size < s.icn n 0x0D * s.icn n 0x0E * 2 then some .range else none

/-- A patch set against R146. -/
def State.patchFault (s : State) (n : Nat) (ps : List Byte) : Option SetFault :=
  let ok : Bool := decide (field ps 0 1 ≤ 1) && decide (1 ≤ field ps 4 4 ∧ field ps 4 4 ≤ top20)
  let fits := (patches ps).all (fun x =>
    let p := x.2
    decide (2 ≤ p.w ∧ p.w ≤ 1024 ∧ 2 ≤ p.h ∧ p.h ≤ 1024 ∧ p.rsv = 0 ∧ p.tl ≤ 10000)
      && decide (p.x0 + p.w ≤ s.icn n 0x0D ∧ p.y0 + p.h ≤ s.icn n 0x0E))
  if ok && fits then none else some .range

/-- Contents of a DOMAIN of 2300h + n that its own range allows (05 Table 5-11, R141). -/
def ispDomOk (sub : Nat) (b : List Byte) : Bool :=
  match sub with
  | 0x0B => (List.range 16).all (fun i => decide (tab16 b i ≤ 256))
  | 0x19 => (List.range 3).all (fun i => decide ((signed (field b (18 + 4 * i) 4) 32).natAbs ≤ top20))
  | _ => true

/-- A whole set against R134-R149 (05 R150); a fault of range is named before one of a ring. -/
def State.setFault (s : State) (n : Nat) (c : Cfg) : Option SetFault :=
  let fs := [s.cropFault n (ispDom c n 0x1B), s.tnrFault n (ispNum c n 0x0A), s.patchFault n (patchSet c n)]
  if ispNum c n 4 < ispNum c n 3 ∨ ispNum c n 5 ≤ ispNum c n 6 ∨ some SetFault.range ∈ fs
      ∨ (ispNum c n 1 = 1 ∧ ((s.vcOfRole n 2).isSome ∨ (s.vcOfRole n 3).isSome)) then some .range
  else if some SetFault.ring ∈ fs then some .ring else none

/-- Abort code of a set fault. -/
def setAbort : SetFault → Nat
  | .range => 0x06090030
  | .ring => 0x08000020

/-- APPLY = 1: the shadow set is validated and becomes pending, or is refused with EV-1404 and a pending set stays (05 R150). -/
def State.applySet (s : State) (n : Nat) : State × Resp :=
  let c := s.shadowSet n
  match s.setFault n c with
  | some f => (s.raise { code := 0x1404, unit := n, station := s.channelOwner n }, .abort (setAbort f))
  | none => (s.updPipe n (fun p => { p with pend := some c }), .ok)

/-- PIPELINE_APPLY (05 R150). -/
def execPipelineApply (ch : Fin 16) (s : State) : Host.Outcome State Fault Refusal :=
  .next (s.served (0x2300 + ch.val) (·.applySet ch.val))

/-- A pending set becomes active at a PRIMARY frame start (05 R150). -/
def State.takeSet (s : State) (n : Nat) : State :=
  match (s.pipe n).pend with
  | none => s
  | some c => (s.updPipe n (fun p => { p with act := c, pend := none, sel := !p.sel })).count (0x2840 + n) 7

/-! ### Frames -/

/-- The windows that a channel's frames carry: its crop windows and the windows its patches judge. -/
def State.carried (s : State) (n : Nat) : List Nat :=
  let c := (s.pipe n).act
  ((crops (ispDom c n 0x1B)).map (fun x => x.2.window) ++ (patches (patchSet c n)).map (fun x => x.2.window)).eraseDups

/-- A temporal reference ring is named in mode N. -/
def State.usesRef (s : State) (n : Nat) : Bool :=
  ispNum (s.pipe n).act n 1 == 1 && ispNum (s.pipe n).act n 0x0A != 0xFFFFFFFF

/-- A temporal reference is valid (05 R137). -/
def State.refValid (s : State) (n : Nat) : Bool := (s.pipe n).refOk && s.c3Ring (s.channelOwner n) (ispNum (s.pipe n).act n 0x0A)

/-- Address of a line of the temporal reference in its ring: rows of 16-bit samples from BASE (DESIGN CHOICE 27). -/
def State.refAddr (s : State) (n y : Nat) : Nat := (s.ring (ispNum (s.pipe n).act n 0x0A)).base + 2 * s.icn n 0x0D * y

/-- Read the lines of the temporal reference; a line that gets an error response is missing (05 R137). -/
def State.readRef (s : State) (n : Nat) : Nat → State × List (Option (List Nat))
  | 0 => (s, [])
  | y + 1 =>
    let (s, rows) := s.readRef n y
    let w := s.icn n 0x0D
    match s.fabric (.pipeline (Fin.ofNat 16 n)) (s.refAddr n y) (.read (2 * w)) .none 0 0 with
    | (s, some b) => (s, rows ++ [some ((List.range w).map (tab16 b))])
    | (s, none) => (s, rows ++ [none])

/-- Write the filtered frame back as the reference of the next (05 R137). -/
def State.writeRef (s : State) (n : Nat) (m : Plane) : State :=
  (m.zipIdx).foldl (fun s x => (s.fabric (.pipeline (Fin.ofNat 16 n)) (s.refAddr n x.2) (.write (le16s x.1)) .none 0 0).1) s

/-- One count of a missing reference per frame (05 R137). -/
def State.missRef (s : State) (n : Nat) (missed : Bool) : State := if missed then s else s.count (0x2840 + n) 3

/-- Lines of one member of the frame as samples. -/
def State.memberPlane (s : State) (n : Nat) (m : Member) : Plane := rawPlane (s.isPix n) (s.icn n 0x0C) (s.icn n 0x0D) m.rows

/-- Stage 1 of a raw frame, with the temporal reference read and written back (05 R134-R137). -/
def State.stage1 (s : State) (n : Nat) (f : FrameIn) : State × Plane :=
  let c := (s.pipe n).act
  let w := s.icn n 0x0D
  let h := s.icn n 0x0E
  let at_ (role : Nat) : Option Plane := ((s.vcOfRole n role).bind (fun vc => f.mem.find? (fun x => x.1 == vc))).map (fun x => s.memberPlane n x.2)
  let e1 := (at_ 1).getD []
  if ispNum c n 1 = 0 then (s, stageL c n h w e1 (at_ 2) (at_ 3))
  else if s.usesRef n then
    let (s, ref) := if f.noRef then (s, []) else s.readRef n h
    let gone := !f.noRef && ref.any Option.isNone
    let s := if gone then (s.missRef n f.missed).raiseSec n { code := 0x1402, unit := n, station := s.channelOwner n } else s
    let m := stageN c n h w e1 ref
    (s.writeRef n m, mkPlane h w (fun y x => px m y x * 16))
  else
    let m := stageN c n h w e1 []
    (s, mkPlane h w (fun y x => px m y x * 16))

/-- Stages 1 to 6 of a whole frame: the linear planes of stage 5 and the toned planes of stage 6 (05 R132, R133). -/
def State.develop (s : State) (n : Nat) (f : FrameIn) : State × Rgbx × Rgbx :=
  let c := (s.pipe n).act
  let w := s.icn n 0x0D
  let h := s.icn n 0x0E
  let dt := s.icn n 0x0C
  let finish (s : State) (p : Rgbx) : State × Rgbx × Rgbx :=
    let lin := colourMatrix c n h w p
    (s, lin, tone c n h w lin)
  if isRaw dt then
    let (s, m) := s.stage1 n f
    let free := s.free
    finish { s with free := free + 1 } (whiteBalance c n h w (demosaic c n h w free (stage2 c n h w m)))
  else
    let rows := ((f.mem.find? (fun x => x.1 == s.primaryVc n)).map (fun x => x.2.rows)).getD []
    let p := colourPlanes dt h w rows
    finish s (if dt = 0x24 then whiteBalance c n h w p else p)

/-- Header of a window record (05 Table 5-7). -/
def windowHeader (st n : Nat) (e : Crop) (x : Expect) (code : Nat) : List Byte :=
  leBytes 64 (st * 2 ^ 507 + n * 2 ^ 503 + e.window * 2 ^ 498 + x.tag * 2 ^ 494 + e.format * 2 ^ 490 + x.imp * 2 ^ 448
    + x.pos * 2 ^ 392 + e.ow * 2 ^ 381 + e.oh * 2 ^ 370 + e.pitch * 2 ^ 354 + code * 2 ^ 350)

/-- Write the window records into the claimed space; false after an error response (05 R145, 11 Table 11-6). -/
def State.writeWindows (s : State) (n : Nat) (x : Expect) (code : Nat) (p : Rgbx) : List WinClaim → State × Bool
  | [] => (s, true)
  | k :: rest =>
    let e := cropOf (ispDom (s.pipe n).act n 0x1B) k.entry
    match s.writePieces (.pipeline (Fin.ofNat 16 n)) 0 (s.ringBytes k.ring k.start k.len)
        (windowHeader (s.channelOwner n) n e x code ++ cropBytes e p) with
    | (s, true) => s.writeWindows n x code p rest
    | (s, false) => (s, false)

/-- Commit one window record and release it to the Roster, but for a TEST frame (04 R117, R120, 10 R260). -/
def State.releaseWindow (s : State) (n : Nat) (x : Expect) (k : WinClaim) : State :=
  let e := cropOf (ispDom (s.pipe n).act n 0x1B) k.entry
  match s.commitOn (.pipeline (Fin.ofNat 16 n)) k.ring with
  | (s, .ok) =>
    let s := s.updPipe n (fun p => { p with written := p.written + 1 })
    if x.test then s
    else
      let r : Released := { channel := n, window := e.window, ring := k.ring, start := k.start, len := k.len, imp := x.imp }
      { s with rs := { s.rs with rel := s.rs.rel ++ [r] } }
  | (s, _) => s

/-- Abandon the space that a dropped frame has claimed (04 R117). -/
def State.abandonClaims (s : State) (n : Nat) (cs : List WinClaim) : State :=
  ((cs.map WinClaim.ring).eraseDups).foldl (fun s r => (s.abandonOn (.pipeline (Fin.ofNat 16 n)) r).1) s

/-! ### The Patch Meter -/

/-- The patch result record (05 Tables 5-9, 5-10). -/
def patchRecord (st n code : Nat) (x : Expect) (rs : List PatchResult) : List Byte :=
  leBytes 32 (st * 2 ^ 251 + n * 2 ^ 247 + x.tag * 2 ^ 243 + rs.length * 2 ^ 236 + code * 2 ^ 232 + x.imp * 2 ^ 200 + x.pos * 2 ^ 144)
    ++ rs.flatMap (fun r => leBytes 16 (patchWord r))

/-- Write the record to RESULT_RING; one that does not fit is dropped and counted (05 R149). -/
def State.putResults (s : State) (n code : Nat) (x : Expect) (rs : List PatchResult) : State :=
  let st := s.channelOwner n
  let r := s.num 0x2320 (0x11 + n) 0xFFFFFFFF
  if s.c3Ring st r then
    match s.putRecord (.meter (Fin.ofNat 16 n)) r (patchRecord st n code x rs) with
    | (s, .ok) => s.occur (116 + n)
    | (s, _) => (s.count (0x2840 + n) 4).raiseSec n { code := 0x1403, unit := n, station := st }
  else s

/-- Verdicts of the windows that the package marks as patch windows (05 R148). -/
def State.patchVerdicts (s : State) (n : Nat) (x : Expect) (rs : List PatchResult) : List PatchVerdict :=
  let st := s.channelOwner n
  match s.stPackage st with
  | none => []
  | some p =>
    if x.test then []
    else (((rs.map PatchResult.window).eraseDups).filter (fun w => s.pkKind p w == 2)).map (fun w =>
      { station := st, imp := x.imp, window := w, fail := rs.any (fun r => r.window == w && r.status != 0) })

/-- Judge the patches of a good frame (05 R146-R149). -/
def State.judge (s : State) (n code : Nat) (x : Expect) (lin : Rgbx) : State :=
  let ps := patchSet (s.pipe n).act n
  let free := s.free
  let rs := ((patches ps).zipIdx).map (fun y => judgePatch ps (free + 4 * y.2) lin y.1.1 y.1.2)
  if rs = [] then s
  else
    let s := { s with free := free + 4 * rs.length }
    let s := rs.foldl (fun s r => if r.status = 0 then s else s.count (0x2840 + n) (if r.status = 1 then 5 else 6)) s
    let bad := (rs.filter (fun r => r.status != 0)).length
    let s := s.updPipe n (fun p => { p with pmValid := true, pmBad := bad, pmJudged := rs.length })
    let s := s.putResults n code x rs
    let vs := s.patchVerdicts n x rs
    s.updIntake n (fun c => { c with verdicts := c.verdicts ++ vs })

/-- Process a frame that the framer has passed; false when a record could not be written (05 R132-R149). -/
def State.processFrame (s : State) (n code : Nat) (x : Expect) (f : FrameIn) : State × Bool :=
  let (s, lin, toned) := s.develop n f
  match s.writeWindows n x code toned f.claims with
  | (s, false) => (s, false)
  | (s, true) =>
    let s := s.updPipe n (fun p => { p with written := 0, refOk := true })
    let s := f.claims.foldl (fun s k => s.releaseWindow n x k) s
    ((s.count (0x2840 + n) 1).judge n code x lin, true)

/-- Claim the windows whose first output row the frame's line `k` completes; false where one does not fit (05 R145). -/
def State.claimWindows (s : State) (n k : Nat) (f : FrameIn) : State × FrameIn × Bool :=
  let due := (crops (ispDom (s.pipe n).act n 0x1B)).filter (fun x => x.2.y0 + (x.2.h + x.2.oh - 1) / x.2.oh == k)
  due.foldl (fun (a : State × FrameIn × Bool) x =>
    if a.2.2 then
      match a.1.claimOn (.pipeline (Fin.ofNat 16 n)) x.2.ring x.2.recLen false with
      | (s, .ok, start) =>
        (s, { a.2.1 with claims := a.2.1.claims ++ [{ entry := x.1, ring := x.2.ring, start := start, len := x.2.recLen }] }, true)
      | (s, _, _) => (s, a.2.1, false)
    else a) (s, f, true)

/-- PATCH_VERDICT (05 R148, 10 R268): the patch windows' verdicts go into their kick cues. -/
def execPatchVerdict (ch : Fin 16) (s : State) : Host.Outcome State Fault Refusal :=
  let n := ch.val
  let vs := (s.intake n).verdicts
  .next <|
    vs.foldl (fun s v =>
      match s.kickOf v.station v.imp v.window with
      | some e => s.sendVerdict e (if v.fail then .fail else .pass)
      | none => if (winLines (s.layout v.station)).any (fun l => l.1 == v.window) then s.count 0x2880 0x0A else s) (s.updIntake n (fun c => { c with verdicts := [] }))

/-- ISP_STATUS (05 Table 5-13). -/
def State.ispStatus (s : State) (n : Nat) : Nat :=
  let p := s.pipe n
  p.written * 256 + bitIf (s.usesRef n && s.refValid n) 2 + bitIf p.pend.isSome 1 + bitIf p.sel 0

/-- PM_STATUS (05 Table 5-13). -/
def State.pmStatus (s : State) (n : Nat) : Nat :=
  let p := s.pipe n
  bitIf p.pmValid 15 + p.pmBad * 256 + p.pmJudged

end Machine
end Sys2Proof
end

