-- ==== Sys2Proof/Machine/Intake.lean ====
section
/-!
DEFINITION. The intake channels: expectations and pairing, the framer, frame records, XTRIG, the SCP and CCI ports, channel states and failure (04).
-/
namespace Sys2Proof
namespace Machine

/-! ### Status codes and records (04 Tables 4-4 to 4-6) -/

/-- Code of a frame status. -/
def frameCode : FrameStatus → Nat
  | .good => 0 | .truncated => 1 | .short => 2 | .lineLength => 3 | .noFe => 4 | .noFs => 5 | .packetError => 6
  | .ringFull => 7 | .rateOverflow => 8 | .skewOverflow => 9 | .frameNumber => 10 | .untriggered => 11
  | .channelFailed => 12 | .disabled => 13

/-- Subindex of 2830h + n that a closure counts in; 0 where it counts elsewhere or not at all. -/
def frameSub : FrameStatus → Nat
  | .good => 0x01 | .truncated => 0x02 | .short => 0x04 | .lineLength => 0x05 | .noFe => 0x06 | .noFs => 0x07
  | .packetError => 0 | .ringFull => 0x0E | .rateOverflow => 0x0F | .skewOverflow => 0x10 | .frameNumber => 0x0C
  | .untriggered => 0x08 | .channelFailed => 0 | .disabled => 0

/-- GOOD or TRUNCATED. -/
def frameGood : FrameStatus → Bool
  | .good => true
  | .truncated => true
  | .short => false
  | .lineLength => false
  | .noFe => false
  | .noFs => false
  | .packetError => false
  | .ringFull => false
  | .rateOverflow => false
  | .skewOverflow => false
  | .frameNumber => false
  | .untriggered => false
  | .channelFailed => false
  | .disabled => false

/-- Code of a channel state (04 Table 4-10). -/
def chanCode : ChanState → Nat
  | .off => 0
  | .starting => 1
  | .ready => 2
  | .streaming => 3
  | .failed => 4

/-- Low 32 bits of the microsecond count of the reference. -/
def State.us32 (s : State) : Nat := s.refUs % 2 ^ 32

/-- The web clock of an expectation, or of the channel's station. -/
def State.expClock (s : State) (n : Nat) (e : Option Expect) : Nat :=
  match e with
  | some x => if x.test then s.stClock (s.channelOwner n) else x.wc
  | none => s.stClock (s.channelOwner n)

/-- The frame record (04 Table 4-5). -/
def State.frameRecord (s : State) (n code slot : Nat) (e : Option Expect) (fsTime lines : Nat) : List Byte :=
  let x : Expect := e.getD {}
  leBytes 32 (s.channelOwner n * 2 ^ 251 + n * 2 ^ 247 + slot * 2 ^ 245 + code * 2 ^ 236 + x.tag * 2 ^ 232 + x.imp * 2 ^ 200
    + x.pos * 2 ^ 144 + (s.viewAt (s.expClock n e)).pos.toNat * 2 ^ 88 + fsTime * 2 ^ 56 + s.us32 * 2 ^ 24 + lines % 2 ^ 24)

/-- Write the record to FRAME_RING; a copy that does not fit is lost and counted (04 R118). -/
def State.writeRecord (s : State) (n : Nat) (rec : List Byte) : State :=
  let r := s.icn n 0x12
  if 65536 ≤ r then s.count (0x2830 + n) 0x17
  else match s.putRecord (.intake (Fin.ofNat 16 n)) r rec with
    | (s, .ok) => s.occur (100 + n)
    | (s, _) => s.count (0x2830 + n) 0x17

/-- A closure that is not good gives UNSEEN to every window the frame carried (04 R117). -/
def State.unseenFrame (s : State) (n : Nat) (e : Option Expect) : State :=
  match e with
  | none => s
  | some x => if x.test then s else (s.carried n).foldl (fun s w => s.unseenWindow (s.channelOwner n) x.imp w) s

/-- The run of consecutive NO_FS closures (04 R115). -/
def State.silentRun (s : State) (n : Nat) (status : FrameStatus) (e : Option Expect) : State :=
  let c := s.intake n
  if frameGood status then s.updIntake n (fun c => { c with silent := 0, silentUp := false })
  else if e.isNone then s
  else if status = .noFs then
    let s := s.updIntake n (fun c => { c with silent := c.silent + 1 })
    if s.icn n 0x19 ≤ c.silent + 1 ∧ c.silentUp = false then
      (s.updIntake n (fun c => { c with silentUp := true })).raise { code := 0x1303, unit := n, station := s.channelOwner n }
    else s
  else s.updIntake n (fun c => { c with silent := 0 })

/-- One closure: its count, LAST_STATUS, its record, its windows, the temporal reference, the silent run (04 R115-R118, 05 R137). -/
def State.closure (s : State) (n : Nat) (status : FrameStatus) (sub slot fsTime lines : Nat) (e : Option Expect) : State :=
  let s := if sub = 0 then s else s.count (0x2830 + n) sub
  let s := s.updIntake n (fun c => { c with lastStatus := frameCode status })
  let s := s.writeRecord n (s.frameRecord n (frameCode status) slot e fsTime lines)
  let s := if frameGood status then s else (s.unseenFrame n e).updPipe n (fun p => { p with refOk := false })
  s.silentRun n status e

/-- Slot of the PRIMARY virtual channel. -/
def State.primarySlot (s : State) (n : Nat) : Nat := ((s.slotOf n (s.primaryVc n)).map Prod.fst).getD 0

/-- Words with SYNC = 1 may go once a PRIMARY frame has closed (04 R123, R124). -/
def Channel.unhold (c : Channel) : Channel :=
  { c with
    scpTx := c.scpTx.map (fun (e : SerialEntry) => { e with held := false })
    cciTx := c.cciTx.map (fun (e : SerialEntry) => { e with held := false }) }

/-- The frame in progress closes; `vc` is the closing member, `sub` the counter (04 R116, R117). -/
def State.closeFrameAs (s : State) (n : Nat) (status : FrameStatus) (sub vc : Nat) : State :=
  match (s.intake n).frame with
  | none => s
  | some f =>
    let m := f.mem.at ({} : Member) vc
    let slot := ((s.slotOf n vc).map Prod.fst).getD (s.primarySlot n)
    let s := s.updIntake n (fun c =>
      ({ c with
        frame := none
        state := if c.state = ChanState.streaming then ChanState.ready else c.state
        exps := c.exps.filter (fun x => !x.paired) }).unhold)
    let s := if frameGood status then s else (s.abandonClaims n f.claims).updPipe n (fun p => { p with written := 0 })
    s.closure n status sub slot f.fsTime m.rx f.exp

/-- The frame in progress closes with the counter of its status. -/
def State.closeFrame (s : State) (n : Nat) (status : FrameStatus) (vc : Nat) : State := s.closeFrameAs n status (frameSub status) vc

/-- The expectation at place k closes with status `early`, or, where it carries the frame in progress, that frame with status `late` (04 R114). -/
def State.closeExp (s : State) (n k : Nat) (early late : FrameStatus) (sub : Nat) : State :=
  match (s.intake n).exps[k]? with
  | none => s
  | some e =>
    if e.paired then s.closeFrameAs n late (if sub = 0 then frameSub late else sub) (s.primaryVc n)
    else
      let s := s.updIntake n (fun c => { c with exps := c.exps.eraseIdx k })
      s.closure n early (if sub = 0 then frameSub early else sub) (s.primarySlot n) 0 0 (some e)

/-- Close the frame in progress and every open expectation (04 R127, R128). -/
def State.closeAll (s : State) (n : Nat) (status : FrameStatus) : State :=
  let s := s.closeFrame n status (s.primaryVc n)
  (List.range 4).foldl (fun s _ => s.closeExp n 0 status status 0) s

/-! ### Expectations (04 R112-R114, R120) -/

/-- The channel takes expectations: not OFF and not FAILED. -/
def Channel.live (c : Channel) : Bool :=
  match c.state with
  | .off => false
  | .failed => false
  | .starting => true
  | .ready => true
  | .streaming => true

/-- Open an expectation; the oldest of four closes NO_FS and is counted in :11 (04 R112). -/
def State.openExpect (s : State) (n : Nat) (e : Expect) : State :=
  let s := if 4 ≤ (s.intake n).exps.length then s.closeExp n 0 .noFs .noFs 0x11 else s
  s.updIntake n (fun c => { c with exps := c.exps ++ [{ e with opened := s.clk.ref, ack := c.ackPend }], ackPend := false })

/-- A LIVE trigger cue on an output has been reported as crossed: the channels bound to it open an expectation, or report the trigger as CHANNEL_FAILED (04 R112, R127). -/
def State.expectFrames (s : State) (out : Nat) (e : Expect) : State :=
  (List.range 16).foldl (fun s n =>
    if s.icn n 0x0F ≠ out then s
    else if (s.intake n).state = .failed then s.closure n .channelFailed 0 (s.primarySlot n) 0 0 (some e)
    else if (s.intake n).live then s.openExpect n e else s) s

/-- FE_TIMEOUT (04 R114): an expectation's timeout runs out. -/
def execFeTimeout (ch : Fin 16) (exp : Fin 4) (s : State) : Host.Outcome State Fault Refusal :=
  .next (if s.computeRuns then s.closeExp ch.val exp.val .noFs .noFe 0 else s)

/-! ### Start, stop and failure (04 R126-R128, R131) -/

/-- Lane count, rate and DATA_TYPE against Table 4-2, LANE_MAP against R105 (04 R104, R105, R111, R116). -/
def lanesOk (phy lanes : Nat) : Bool :=
  match phy with
  | 0 => lanes == 1 || lanes == 2 || lanes == 4
  | 1 => lanes == 1 || lanes == 2 || lanes == 3
  | _ => lanes == 8 || lanes == 10 || lanes == 12

@[inherit_doc lanesOk] def rateOk (phy rate : Nat) : Bool :=
  match phy with
  | 0 => decide (80 ≤ rate ∧ rate ≤ 4500)
  | 1 => decide (80 ≤ rate ∧ rate ≤ 5700)
  | _ => decide (1 ≤ rate ∧ rate ≤ 150)

@[inherit_doc lanesOk] def laneMapOk (phy lanes map : Nat) : Bool :=
  let m := (List.range (min lanes 4)).map (fun i => map / 16 ^ i % 16)
  phy == 2 || (m.all (fun x => decide (x < lanes)) && m.eraseDups.length == m.length)

@[inherit_doc lanesOk] def dataTypeOk (phy lanes dt pixels : Nat) : Bool :=
  let step := if dt = 0x2B ∨ dt = 0x2D then 4 else if dt = 0x2C ∨ dt = 0x1E then 2 else 1
  bitsPerPixel dt != 0 && pixels % step == 0 && (phy != 2 || (isRaw dt && bitsPerPixel dt == lanes))

/-- The VC slots against R109. -/
def State.slotsOk (s : State) (n : Nat) : Bool :=
  let us := s.vcSlots n
  let role (r : Nat) : Nat := (us.filter (fun x => x.2.2 == r)).length
  role 1 == 1 && decide (role 2 ≤ 1 ∧ role 3 ≤ 1) && (us.map (fun x => x.2.1)).eraseDups.length == us.length
    && ((role 2 == 0 && role 3 == 0) || ispNum (s.pipe n).act n 1 == 0)

/-- What refuses ENABLE = 1 (04 R104, R105, R109, R128, 07 R186). -/
def State.enableFault (s : State) (n : Nat) : Option Nat :=
  let st := s.channelOwner n
  let phy := s.icn n 2
  if !(lanesOk phy (s.icn n 3) && rateOk phy (s.icn n 4) && laneMapOk phy (s.icn n 3) (s.icn n 5)
      && dataTypeOk phy (s.icn n 3) (s.icn n 0x0C) (s.icn n 0x0D)) then some 0x06090030
  else if st = 0 ∨ s.c3Ring st (s.icn n 0x12) = false ∨ s.slotsOk n = false
      ∨ (s.icn n 0x0F ≠ 0xFF ∧ s.maskOwner 3 (s.icn n 0x0F) ≠ st) ∨ (s.icn n 0x0F = 0xFF ∧ s.icn n 0x14 ≠ 2)
      ∨ (s.icn n 0x13 ≠ 0xFFFFFFFF ∧ s.c3Ring st (s.icn n 0x13) = false) then some 0x08000020
  else none

/-- A channel enters FAILED (04 R127). -/
def State.failChannel (s : State) (n : Nat) : State :=
  if (s.intake n).live then
    let s := s.updIntake n (fun c => { c with state := .failed })
    let s := s.closeAll n .channelFailed
    (s.count (0x2830 + n) 0x18).raise { code := 0x1301, unit := n, station := s.channelOwner n }
  else s

/-- ENABLE = 1 (04 R128, R131): the start-up check passes or fails. -/
def State.enableChannel (s : State) (n : Nat) (checkOk : Bool) : State × Resp :=
  if s.icn n 1 = 1 then (s, .ok)
  else match s.enableFault n with
    | some a => (s, .abort a)
    | none =>
      let s := s.setNum (0x2200 + n) 1 1
      let s := s.updIntake n (fun c => { c with state := .starting, stuck := 0, deskewed := false, buf := 0, ackPend := false })
      let s := s.updPipe n (fun p => { p with refOk := false })
      (if checkOk then s else s.failChannel n, .ok)

/-- CHANNEL_ENABLE (04 R128, R131). -/
def execChannelEnable (ch : Fin 16) (checkOk : Bool) (s : State) : Host.Outcome State Fault Refusal :=
  .next (s.served (0x2200 + ch.val) (·.enableChannel ch.val checkOk))

/-- A channel goes OFF: everything open closes DISABLED (04 R128). -/
def State.turnOff (s : State) (n : Nat) : State :=
  let s := s.closeAll n .disabled
  (s.setNum (0x2200 + n) 1 0).updIntake n (fun c => { c with state := .off, stuck := 0, deskewed := false, resetting := false })

/-- ENABLE = 0 (04 R128). -/
def State.disableChannel (s : State) (n : Nat) : State × Resp := (if s.icn n 1 = 0 then s else s.turnOff n, .ok)

/-- CHANNEL_DISABLE (04 R128). -/
def execChannelDisable (ch : Fin 16) (s : State) : Host.Outcome State Fault Refusal :=
  .next (s.served (0x2200 + ch.val) (·.disableChannel ch.val))

/-- Physical lanes that a channel uses, with the D-PHY clock lane at bit 4 (04 R105, R131). -/
def State.lanesUsed (s : State) (n : Nat) : Nat :=
  if s.isPix n then 0
  else ((List.range (min 4 (s.icn n 3))).map (fun i => 2 ^ (s.icn n 5 / 16 ^ i % 16))).sum + (if s.icn n 2 = 0 then 16 else 0)

/-- LANE_STOP_STATE (04 R131): lanes have shown the stop state for 100 µs, or frame valid is inactive for PIX. -/
def execLaneStopState (ch : Fin 16) (lanes : BitVec 5) (s : State) : Host.Outcome State Fault Refusal :=
  let n := ch.val
  let need := s.lanesUsed n
  .next <|
    if s.computeRuns = false then s
    else
      let s := s.updIntake n (fun c => { c with stuck := c.stuck &&& ~~~lanes })
      if (s.intake n).state = .starting ∧ (BitVec.ofNat 5 need &&& ~~~lanes) = 0 then s.updIntake n (fun c => { c with state := .ready })
      else s

/-- LANE_STOP_TIMEOUT (04 R131): configured lanes have not shown the stop state within 100 ms. -/
def execLaneStopTimeout (ch : Fin 16) (lanes : BitVec 5) (s : State) : Host.Outcome State Fault Refusal :=
  let n := ch.val
  let c := s.intake n
  let new := lanes &&& BitVec.ofNat 5 (s.lanesUsed n) &&& ~~~c.stuck
  .next <|
    if s.computeRuns = true ∧ c.state = .starting ∧ new ≠ 0 then
      (s.updIntake n (fun c => { c with stuck := c.stuck ||| new })).raise { code := 0x1305, unit := n, station := s.channelOwner n }
    else s

/-- DESKEW_SEQUENCE (04 R106): an initial deskew sequence has been received. -/
def execDeskewSequence (ch : Fin 16) (s : State) : Host.Outcome State Fault Refusal :=
  let n := ch.val
  .next (if s.computeRuns && (s.intake n).live && s.icn n 2 == 0 then s.updIntake n (fun c => { c with deskewed := true }) else s)

/-- CHANNEL_FAILURE (04 R126, R127, 05 Table 5-15). -/
def execChannelFailure (ch : Fin 16) (kind : ChanFault) (s : State) : Host.Outcome State Fault Refusal :=
  let n := ch.val
  .next <|
    if s.computeRuns && (s.intake n).live then
      let s := match kind with
        | .lineBuffer => s.raise { code := 0x1401, unit := n, station := s.channelOwner n }
        | .buffer => s
        | .noProgress => s
      s.failChannel n
    else s

/-- COMMAND = 1 of 2200h + n, taken in FAILED, the one state that it leaves (04 R127). -/
def State.resetChannel (s : State) (n : Nat) : State × Resp :=
  if (s.intake n).state = .failed then (s.updIntake n (fun c => { c with resetting := true }), .ok) else (s, .abort 0x08000020)

/-- CHANNEL_RESET (04 R127). -/
def execChannelReset (ch : Fin 16) (s : State) : Host.Outcome State Fault Refusal :=
  .next (s.served (0x2200 + ch.val) (·.resetChannel ch.val))

/-- CHANNEL_RESET_COMPLETE (04 R127): after a transaction in progress; the start-up check passes or fails. -/
def execChannelResetComplete (ch : Fin 16) (passed : Bool) (s : State) : Host.Outcome State Fault Refusal :=
  let n := ch.val
  let c := s.intake n
  .next <|
    if s.computeRuns = true ∧ c.resetting = true ∧ c.cciRun = none then
      let s := s.updIntake n (fun c => { c with resetting := false, deskewed := false, buf := 0 })
      if passed then
        (s.updIntake n (fun c => { c with state := .ready })).raise { code := 0x1302, unit := n, station := s.channelOwner n }
      else s
    else s

/-! ### Packets (04 R107-R111) -/

/-- The receiver takes high-speed data or PIX data (04 R106). -/
def State.receiving (s : State) (n : Nat) : Bool :=
  let c := s.intake n
  s.computeRuns && (c.state == .ready || c.state == .streaming)
    && !(s.icn n 2 == 0 && decide (1500 < s.icn n 4) && !c.deskewed)

/-- A damaged packet breaks the frame it belongs to (04 Table 4-4). -/
def State.breakFrame (s : State) (n vc : Nat) : State :=
  match (s.intake n).frame with
  | none => s
  | some f =>
    if f.mem.any (fun x => x.1 == vc && !x.2.fe) then s.closeFrame n .packetError vc else s

/-- Header checks before a packet is acted on (04 R108). -/
def State.packet (s : State) (n vc : Nat) (hdr : HdrEcc) (k : State → State) : State :=
  if s.receiving n = false then s
  else if s.isPix n then k s
  else match hdr with
    | .ok => k s
    | .corrected => k (s.count (0x2830 + n) 9)
    | .uncorrectable => (s.count (0x2830 + n) 0x0A).breakFrame n vc

/-- A payload is copied unchecked to the side ring, or dropped and counted (04 R109). -/
def State.sideCopy (s : State) (n : Nat) (data : List Byte) : State :=
  let r := s.icn n 0x13
  let req : Requester := .intake (Fin.ofNat 16 n)
  if 65536 ≤ r ∨ data = [] then s.count (0x2830 + n) 0x16
  else match s.claimOn req r ((data.length + 3) / 4 * 4) false with
    | (s, .ok, start) =>
      match s.writePieces req 0 (s.ringBytes r start data.length) data with
      | (s, true) => (s.commitOn req r).1
      | (s, false) => ((s.abandonOn req r).1).count (0x2830 + n) 0x16
    | (s, _, _) => s.count (0x2830 + n) 0x16

/-- EMBEDDED_DATA (04 R108, R109): an embedded data packet, or a packet on a SIDE virtual channel. -/
def execEmbeddedData (ch : Fin 16) (vc : Fin 16) (data : List Byte) (hdr : HdrEcc) (crcOk : Bool) (s : State) :
    Host.Outcome State Fault Refusal :=
  let n := ch.val
  .next <| if s.isPix n then s else s.packet n vc.val hdr (fun s =>
    match s.slotOf n vc.val with
    | none => s.count (0x2830 + n) 0x0D
    | some (_, role) =>
      if crcOk = false then
        let s := s.count (0x2830 + n) 0x0B
        if role = 4 then s else s.breakFrame n vc.val
      else s.sideCopy n data)

/-- PACKET_DISCARD (04 R108): an unsupported, generic, user-defined or unrouted packet. -/
def execPacketDiscard (ch : Fin 16) (vc : Fin 16) (hdr : HdrEcc) (s : State) : Host.Outcome State Fault Refusal :=
  let n := ch.val
  .next (if s.isPix n then s else s.packet n vc.val hdr (fun s => s.count (0x2830 + n) 0x0D))

/-- Reference times within a window before now, the present one added; at most `keep` are kept. -/
def recent (times : List Nat) (now window keep : Nat) : List Nat := ((now :: times.filter (fun t => decide (now < t + window))).take keep)

/-- PHY_ERROR (04 R108): one D-PHY or C-PHY error; more than 100 within 1 ms raise EV-1305. -/
def execPhyError (ch : Fin 16) (s : State) : Host.Outcome State Fault Refusal :=
  let n := ch.val
  .next <|
    if s.computeRuns && (s.intake n).live && !s.isPix n then
      let ts := recent (s.intake n).phyTimes s.clk.ref Config.psPerMs 101
      let s := (s.updIntake n (fun c => { c with phyTimes := ts })).count (0x2830 + n) 0x12
      if 100 < ts.length then s.raiseSec n { code := 0x1305, unit := n, station := s.channelOwner n } else s
    else s

/-! ### The framer (04 R110, R113, R116-R119) -/

/-- A frame start ends a running calibration, which stays due (18 R448). -/
def State.stopCalibration (s : State) (n : Nat) : State :=
  if s.gk.calRun.at false n then
    ({ s with gk := { s.gk with calRun := s.gk.calRun.put n false } } : State).count 0x28F0 7
  else s

/-- Put the frame in progress. -/
def State.putFrame (s : State) (n : Nat) (f : FrameIn) : State := s.updIntake n (fun c => { c with frame := some f })

/-- A PRIMARY frame start is paired with the oldest open expectation, or dropped UNTRIGGERED (04 R113, R120). -/
def State.pairFrame (s : State) (n : Nat) (f : FrameIn) : State :=
  let vc := s.primaryVc n
  match (s.intake n).exps.findIdx? (fun e => !e.paired) with
  | none => (s.putFrame n f).closeFrame n .untriggered vc
  | some k =>
    let e := ((s.intake n).exps[k]?).getD {}
    let noRef := s.usesRef n && !s.refValid n
    let s := if noRef then s.count (0x2840 + n) 3 else s
    let s := s.updIntake n (fun c =>
      { c with state := .streaming, exps := c.exps.set k { e with paired := true } })
    let s := s.putFrame n { f with exp := some e, noRef := noRef, missed := noRef }
    if s.icn n 0x14 = 1 ∧ e.ack = false then s.count (0x2830 + n) 0x19 else s

/-- A frame start on a PRIMARY or EXPOSURE virtual channel (04 R110, R113, R116). -/
def State.frameStart (s : State) (n vc fn : Nat) : State :=
  let open_ := match (s.intake n).frame with | some f => f.mem.any (fun x => x.1 == vc) | none => false
  let s := if open_ then s.closeFrame n .noFe vc else s
  let f := (s.intake n).frame.getD {}
  let slot := ((s.slotOf n vc).map Prod.fst).getD 0
  let f := { f with mem := f.mem.put vc { slot := slot, fn := fn } }
  if vc ≠ s.primaryVc n then s.putFrame n f
  else ((s.stopCalibration n).takeSet n).pairFrame n { f with fsTime := s.us32 }

/-- FRAME_START (04 R108, R113): FS, or the PIX frame-valid rise. -/
def execFrameStart (ch : Fin 16) (vc : Fin 16) (fn : BitVec 16) (hdr : HdrEcc) (s : State) : Host.Outcome State Fault Refusal :=
  let n := ch.val
  let vc := if s.isPix n then s.primaryVc n else vc.val
  .next <| s.packet n vc hdr (fun s =>
    match s.slotOf n vc with
    | none => s.count (0x2830 + n) 0x0D
    | some (_, role) => if role = 4 then s else s.frameStart n vc (if s.isPix n then 0 else fn.toNat))

/-- Pixels of a line and the microseconds of its burst (04 R119; C-PHY carries 16 bits in 7 symbols, PRESUMED 24). -/
def State.burst (s : State) (n units : Nat) : Rat × Rat :=
  let lanes : Rat := (s.icn n 3 : Nat)
  let rate : Rat := (s.icn n 4 : Nat)
  let bpp : Rat := (max 1 (bitsPerPixel (s.icn n 0x0C)) : Nat)
  let u : Rat := (units : Nat)
  match s.icn n 2 with
  | 0 => (u * 8 / bpp, u * 8 / (lanes * rate))
  | 1 => (u * 8 / bpp, u * 8 * 7 / (16 * lanes * rate))
  | _ => (u, u / rate)

/-- Pixels in the receive buffer after a line that follows a gap of `gap` ps: it drains at 400 Mpixel/s (04 R119). -/
def State.bufferAfter (s : State) (n units gap : Nat) : Rat :=
  let (pixels, us) := s.burst n units
  max 0 (max 0 ((s.intake n).buf - (gap : Rat) / 1000000 * 400) + pixels - us * 400)

/-- More than 10 LINE_LENGTH drops within 1 s raise EV-1306 (04 R116). -/
def State.lineLengthDrop (s : State) (n vc : Nat) : State :=
  let s := s.closeFrame n .lineLength vc
  let ts := recent (s.intake n).lenTimes s.clk.ref Config.psPerS 11
  let s := s.updIntake n (fun c => { c with lenTimes := ts })
  if 10 < ts.length then s.raiseSec n { code := 0x1306, unit := n, station := s.channelOwner n } else s

/-- Lines that every member of the set has given. -/
def State.doneLines (s : State) (n : Nat) (f : FrameIn) : Nat :=
  (s.setVcs n).foldl (fun k vc => min k (f.mem.at ({} : Member) vc).lines) (s.icn n 0x0E)

/-- A leading exposure is more than 64 KiB ahead of a member that has not ended (04 R110). -/
def State.skewed (s : State) (n : Nat) (f : FrameIn) (bytes : Nat) : Bool :=
  let ls := ((s.setVcs n).filter (fun vc => !(f.mem.at ({} : Member) vc).fe)).map (fun vc => (f.mem.at ({} : Member) vc).lines)
  match ls with
  | [] => false
  | l :: rest => decide (65536 < (rest.foldl max l - rest.foldl min l) * bytes)

/-- A line of the right length is kept; its windows are claimed as their first rows are produced (04 R110, R117, 05 R145). -/
def State.keepLine (s : State) (n vc : Nat) (f : FrameIn) (m : Member) (data : List Byte) : State :=
  let f := { f with mem := f.mem.put vc { m with lines := m.lines + 1, rows := m.rows ++ [data] } }
  let s := s.putFrame n f
  if s.skewed n f data.length then s.closeFrame n .skewOverflow vc
  else
    let k := s.doneLines n f
    if k = f.done then s
    else match s.claimWindows n k { f with done := k } with
      | (s, f, true) => s.putFrame n f
      | (s, f, false) => (s.putFrame n f).closeFrame n .ringFull (s.primaryVc n)

/-- A line on a PRIMARY or EXPOSURE virtual channel (04 R116, R119). -/
def State.lineIn (s : State) (n vc : Nat) (data : List Byte) (gap : Nat) : State :=
  match (s.intake n).frame with
  | none => s
  | some f =>
    match f.mem.find? (fun x => x.1 == vc) with
    | none => s
    | some (_, m) =>
      if m.fe then s
      else
        let units := if s.isPix n then data.length / 2 else data.length
        let want := if s.isPix n then s.icn n 0x0D else s.icn n 0x0D * bitsPerPixel (s.icn n 0x0C) / 8
        let buf := s.bufferAfter n units gap
        let excess : Bool := decide (32768 * 8 < buf * (bitsPerPixel (s.icn n 0x0C) : Nat))
        let s := s.updIntake n (fun c => { c with buf := if excess then 0 else buf })
        let m := { m with rx := m.rx + 1 }
        let s := s.putFrame n { f with mem := f.mem.put vc m }
        if excess then s.closeFrame n .rateOverflow vc
        else if units ≠ want then s.lineLengthDrop n vc
        else if s.icn n 0x0E ≤ m.lines then
          (s.putFrame n { f with mem := f.mem.put vc { m with excess := true } }).count (0x2830 + n) 3
        else s.keepLine n vc f m data

/-- LINE_RECEIVED (04 R107, R108, R116): a long packet with an image data type, or a PIX line. -/
def execLineReceived (ch : Fin 16) (vc : Fin 16) (dt : BitVec 6) (data : List Byte) (gap : Nat) (hdr : HdrEcc) (crcOk : Bool)
    (s : State) : Host.Outcome State Fault Refusal :=
  let n := ch.val
  let vc := if s.isPix n then s.primaryVc n else vc.val
  .next <| s.packet n vc hdr (fun s =>
    if s.isPix n then s.lineIn n vc data gap
    else match s.slotOf n vc with
      | none => s.count (0x2830 + n) 0x0D
      | some (_, role) =>
        if crcOk = false then
          let s := s.count (0x2830 + n) 0x0B
          if role = 4 then s else s.breakFrame n vc
        else if role = 4 ∨ dt = 0x12 then s.sideCopy n data
        else if dt = 0x10 ∨ dt = 0x11 then s
        else if dt.toNat ≠ s.icn n 0x0C then s.count (0x2830 + n) 0x0D
        else s.lineIn n vc data gap)

/-- The last member's FE: the frame is GOOD or TRUNCATED, unless a record cannot be written (04 R110, R116, R117). -/
def State.frameDone (s : State) (n vc : Nat) (f : FrameIn) : State :=
  let status : FrameStatus := if f.mem.any (fun x => x.2.excess) then .truncated else .good
  match s.processFrame n (frameCode status) (f.exp.getD {}) f with
  | (s, true) => s.closeFrame n status vc
  | (s, false) => s.closeFrame n .ringFull vc

/-- A frame end on a PRIMARY or EXPOSURE virtual channel (04 R108, R110, R116). -/
def State.frameEnd (s : State) (n vc fn : Nat) : State :=
  match (s.intake n).frame with
  | none => s
  | some f =>
    match f.mem.find? (fun x => x.1 == vc) with
    | none => s
    | some (_, m) =>
      if m.fe then s
      else if fn ≠ 0 ∧ m.fn ≠ 0 ∧ fn ≠ m.fn then s.closeFrame n .frameNumber vc
      else
        let f := { f with mem := f.mem.put vc { m with fe := true } }
        let s := s.putFrame n f
        if m.lines < s.icn n 0x0E then s.closeFrame n .short vc
        else if (s.setVcs n).all (fun v => (f.mem.at ({} : Member) v).fe) then s.frameDone n vc f else s

/-- FRAME_END (04 R108, R116): FE, or the PIX frame-valid fall. -/
def execFrameEnd (ch : Fin 16) (vc : Fin 16) (fn : BitVec 16) (hdr : HdrEcc) (s : State) : Host.Outcome State Fault Refusal :=
  let n := ch.val
  let vc := if s.isPix n then s.primaryVc n else vc.val
  .next <| s.packet n vc hdr (fun s =>
    match s.slotOf n vc with
    | none => s.count (0x2830 + n) 0x0D
    | some (_, role) => if role = 4 then s else s.frameEnd n vc (if s.isPix n then 0 else fn.toNat))

/-! ### XTRIG (04 R120) -/

/-- XTRIG_ACK_EDGE (04 R120): a rising edge in ACK mode. -/
def execXtrigAckEdge (ch : Fin 16) (s : State) : Host.Outcome State Fault Refusal :=
  let n := ch.val
  .next <|
    if s.computeRuns && s.icn n 0x14 == 1 then
      let pos := (s.viewAt (s.stClock (s.channelOwner n))).pos
      let us := BitVec.ofNat 32 s.us32
      s.updIntake n (fun c =>
        let c := { c with cap := pos, capTime := us }
        match c.exps.findIdx? (fun e => !e.ack && !e.paired) with
        | some k => { c with exps := c.exps.modify k (fun (e : Expect) => { e with ack := true }) }
        | none => { c with ackPend := true })
    else s

/-- A TEST pulse: the pin goes high for WIDTH and an expectation with zeros opens (04 R120). -/
def State.testPulse (s : State) (n : Nat) : State :=
  let s := s.updIntake n (fun c => { c with xtUntil := s.clk.ref + c.xtWidth * Config.psPerUs })
  if (s.intake n).live then s.openExpect n { test := true } else s

/-- XTRIG_PULSE (04 R120): a write of IC_XTRIG; PULSE acts in TEST mode. -/
def execXtrigPulse (ch : Fin 16) (word : BitVec 32) (s : State) : Host.Outcome State Fault Refusal :=
  let n := ch.val
  .next <|
    if s.computeRuns = false then s
    else
      let s := s.updIntake n (fun c => { c with xtPeriod := bits word.toNat 16 15, xtWidth := bits word.toNat 0 16 })
      if bit word.toNat 31 && s.icn n 0x14 == 2 then s.testPulse n else s

/-- XTRIG_PERIOD (04 R120): the PERIOD timer expires in TEST mode. -/
def execXtrigPeriod (ch : Fin 16) (s : State) : Host.Outcome State Fault Refusal :=
  let n := ch.val
  .next (if s.computeRuns && s.icn n 0x14 == 2 && (s.intake n).xtPeriod != 0 then s.testPulse n else s)

/-! ### The serial ports (04 R121-R125, R129) -/

/-- The data of a register read. -/
def State.rdata (s : State) (b : List Byte) : State := { s with out := { s.out with rdata := b, err := false } }

/-- SCP_TX_WRITE (04 R123): a word is queued, or discarded with SCP_OVF when 64 wait. -/
def execScpTxWrite (ch : Fin 16) (word : BitVec 64) (s : State) : Host.Outcome State Fault Refusal :=
  let n := ch.val
  .next <|
    if s.computeRuns = false then s
    else if 64 ≤ (s.intake n).scpTx.length then s.updIntake n (fun c => { c with scpOvf := true })
    else s.updIntake n (fun c => { c with scpTx := c.scpTx ++ [{ word := word.toNat, held := bit word.toNat 63 }] })

/-- SCP_WORD_START (04 R122, R123): the oldest word leaves when the port is free and it is not held for blanking. -/
def execScpWordStart (ch : Fin 16) (s : State) : Host.Outcome State Fault Refusal :=
  let n := ch.val
  let c := s.intake n
  .next <|
    match c.scpTx, c.scpRun with
    | e :: rest, none =>
      if s.computeRuns && !e.held then
        s.updIntake n (fun c => { c with scpTx := rest, scpRun := some (e.word % (if s.icn n 0x15 = 0 then 2 ^ 16 else 2 ^ 32)) })
      else s
    | _, _ => s

/-- SCP_WORD_COMPLETE (04 R122): the word finishes; the data of a read enters the receive queue. -/
def execScpWordComplete (ch : Fin 16) (sdi : BitVec 16) (s : State) : Host.Outcome State Fault Refusal :=
  let n := ch.val
  .next <|
    match (s.intake n).scpRun with
    | none => s
    | some w =>
      let wide : Bool := s.icn n 0x15 != 0
      let read := bit w (if wide then 31 else 15)
      let addr := if wide then bits w 16 15 else bits w 8 7
      let data := if wide then sdi.toNat else sdi.toNat % 256
      let res := BitVec.ofNat 32 (2 ^ 31 + addr * 2 ^ 16 + data)
      s.updIntake n (fun c =>
        { c with scpRun := none, scpRx := if read = true ∧ c.scpRx.length < 64 then c.scpRx ++ [res] else c.scpRx })

/-- SCP_RX_READ (04 R129): a read of IC_SCP_RX pops one result. -/
def execScpRxRead (ch : Fin 16) (s : State) : Host.Outcome State Fault Refusal :=
  let n := ch.val
  .next <|
    match (s.intake n).scpRx with
    | [] => s.rdata (leBytes 4 0)
    | r :: rest => (s.updIntake n (fun c => { c with scpRx := rest })).rdata (leBytes 4 r.toNat)

/-- CCI_CMD_WRITE (04 R124, R125): a transaction is queued and CCI_HALT clears; with 64 waiting the entry is discarded. -/
def execCciCmdWrite (ch : Fin 16) (word : BitVec 64) (s : State) : Host.Outcome State Fault Refusal :=
  let n := ch.val
  .next <|
    if s.computeRuns = false then s
    else s.updIntake n (fun c =>
      let c := { c with cciHalt := false }
      if c.cciTx.length < 64 then { c with cciTx := c.cciTx ++ [{ word := word.toNat, held := bit word.toNat 63 }] } else c)

/-- Post a CCI result; the queue holds 64. -/
def Channel.postCci (c : Channel) (r : Nat) : Channel :=
  if c.cciRx.length < 64 then { c with cciRx := c.cciRx ++ [BitVec.ofNat 64 r] } else c

/-- A transaction fails: its result is posted, everything queued behind it is discarded and counted, CCI_HALT is set (04 R125). -/
def State.cciFail (s : State) (n w : Nat) (nack : Bool) : State :=
  let behind := (s.intake n).cciTx.length
  let s := s.updIntake n (fun c =>
    ({ c with cciRun := none, cciTx := [], cciHalt := true }).postCci
      (2 ^ 63 + (if nack then 2 ^ 62 else 2 ^ 61) + bits w 32 16 * 2 ^ 32))
  (s.count (0x2830 + n) (if nack then 0x13 else 0x14)).countN (0x2830 + n) 0x15 behind

/-- CCI_TRANSACTION_START (04 R124, R125): the oldest entry starts, with bus recovery where SDA is held low. -/
def execCciTransactionStart (ch : Fin 16) (sda : SdaLine) (s : State) : Host.Outcome State Fault Refusal :=
  let n := ch.val
  let c := s.intake n
  .next <|
    match c.cciTx, c.cciRun with
    | e :: rest, none =>
      if s.computeRuns && !e.held then
        let s := s.updIntake n (fun c => { c with cciTx := rest, cciRun := some e.word })
        match sda with
        | .stuck => (s.cciFail n e.word false).raise { code := 0x1304, unit := n, station := s.channelOwner n }
        | .free => s
        | .recovered => s
      else s
    | _, _ => s

/-- CCI_TRANSACTION_END (04 R124, R125): STOP after the data, or after a missing acknowledge. -/
def execCciTransactionEnd (ch : Fin 16) (nack : Bool) (data : BitVec 32) (s : State) : Host.Outcome State Fault Refusal :=
  let n := ch.val
  .next <|
    match (s.intake n).cciRun with
    | none => s
    | some w =>
      if nack then s.cciFail n w true
      else
        let size := match bits w 58 2 with | 0 => 8 | 1 => 16 | _ => 32
        s.updIntake n (fun c =>
          let c := { c with cciRun := none }
          if bit w 62 then c.postCci (2 ^ 63 + bits w 32 16 * 2 ^ 32 + data.toNat % 2 ^ size) else c)

/-- CCI_STRETCH_TIMEOUT (04 R125): clock stretching exceeds 10 ms. -/
def execCciStretchTimeout (ch : Fin 16) (s : State) : Host.Outcome State Fault Refusal :=
  let n := ch.val
  .next <|
    match (s.intake n).cciRun with
    | none => s
    | some w => s.cciFail n w false

/-- CCI_RX_READ (04 R129): a read of IC_CCI_RX pops one result. -/
def execCciRxRead (ch : Fin 16) (s : State) : Host.Outcome State Fault Refusal :=
  let n := ch.val
  .next <|
    match (s.intake n).cciRx with
    | [] => s.rdata (leBytes 8 0)
    | r :: rest => (s.updIntake n (fun c => { c with cciRx := rest })).rdata (leBytes 8 r.toNat)

/-- COMMAND = 2 of 2200h + n; the entries discarded are counted (04 R128). -/
def State.flushSerial (s : State) (n : Nat) : State × Resp :=
  let c := s.intake n
  let s := s.updIntake n (fun c => { c with scpTx := [], scpRx := [], cciTx := [], cciRx := [] })
  (s.countN (0x2830 + n) 0x15 (c.scpTx.length + c.cciTx.length), .ok)

/-- SERIAL_QUEUE_FLUSH (04 R128). -/
def execSerialQueueFlush (ch : Fin 16) (s : State) : Host.Outcome State Fault Refusal :=
  .next (s.served (0x2200 + ch.val) (·.flushSerial ch.val))

/-! ### Registers and configuration -/

/-- IC_STATUS (04 Table 4-12). -/
def State.icStatus (s : State) (n : Nat) : Nat :=
  let c := s.intake n
  c.stuck.toNat * 2 ^ 11 + bitIf c.scpOvf 10 + bitIf c.cciHalt 9 + bitIf c.deskewed 8 + c.exps.length * 4

/-- What refuses a write to a configuration entry of 2200h + n beyond its range (04 R104, R105, R109, R111, R116, R120, R128). -/
def State.icWriteFault (s : State) (n sub v : Nat) : Option Nat :=
  let phy := s.icn n 2
  if s.icn n 1 = 1 ∧ ((2 ≤ sub ∧ sub ≤ 0x0E) ∨ sub = 0x12 ∨ sub = 0x13) then some 0x08000020
  else
    let ok : Bool :=
      match sub with
      | 0x02 => v != 2 || decide (n < 4)
      | 0x03 => lanesOk phy v
      | 0x04 => rateOk phy v
      | 0x05 => laneMapOk phy (s.icn n 3) v
      | 0x08 => bits v 4 8 == 0 && decide (v / 4096 ≤ 4)
      | 0x09 => bits v 4 8 == 0 && decide (v / 4096 ≤ 4)
      | 0x0A => bits v 4 8 == 0 && decide (v / 4096 ≤ 4)
      | 0x0B => bits v 4 8 == 0 && decide (v / 4096 ≤ 4)
      | 0x0C => dataTypeOk phy (s.icn n 3) v (s.icn n 0x0D)
      | 0x0D => dataTypeOk phy (s.icn n 3) (s.icn n 0x0C) v
      | _ => true
    if ok = false then some 0x06090030
    else if sub = 0x14 ∧ v = 2 ∧ s.admits (s.channelOwner n) = true then some 0x08000020
    else none

end Machine
end Sys2Proof
end

