-- ==== Sys2Proof/Machine/NeuralBase.lean ====
section
/-!
DEFINITION. A neural core: galley and formes, the start and the ends of a slug, retirement, and the fetch and check of a command (08 R207, R208, R215-R224, R229; 07 R203).
-/
namespace Sys2Proof
namespace Machine

/-! ### Make-up of a core -/

/-- The core is a quad core (08 R207). -/
def isQuad (c : Nat) : Bool := decide (c < 8)
/-- MAC arrays of a core. -/
def arrayCount (c : Nat) : Nat := if c < 8 then 4 else 2
/-- Granules of a core's galley (08 R208). -/
def granules (c : Nat) : Nat := if c < 8 then 48 else 32
/-- Bytes of a core's galley (08 R208). -/
def galleySize (c : Nat) : Nat := granules c * 0x8000

/-- Change a core's STATE: one occurrence of its source (13 Table 13-2). -/
def State.setCore (s : State) (c : Nat) (st : CoreState) : State :=
  if (s.core c).state = st then s
  else (s.updCore c (fun x => { x with state := st })).occur (132 + c)

/-- Bytes of a core's galley. -/
def State.galley (s : State) (c a n : Nat) : List Byte := cellRead zeroByte (s.core c).galley a n

/-- Bytes that a slug writes: as computed, or free once its results are undefined (08 R219). -/
def State.slugBytes (s : State) (c : Nat) (x : List Byte) : State × List Byte :=
  if (s.core c).racy then
    ({ s with free := s.free + x.length }, (List.range x.length).map (fun i => Config.freeByte (s.free + i)))
  else (s, x)

/-- Bytes some of which the spec does not state: those are free values. -/
def State.fillFree (s : State) (x : List (Option Byte)) : State × List Byte :=
  ({ s with free := s.free + x.length }, x.zipIdx.map (fun y => y.1.getD (Config.freeByte (s.free + y.2))))

/-- Write galley bytes. -/
def State.putGalley (s : State) (c a : Nat) (x : List Byte) : State :=
  let (s, x) := s.slugBytes c x
  s.updCore c (fun k => { k with galley := cellWrite zeroByte k.galley a x })

/-! ### Ends of a slug -/

/-- Waits and claims of the core are withdrawn, and its engines stop (07 R203, 08 R221, R229). -/
def State.stopEngines (s : State) (c : Nat) : State :=
  let mine (r : Requester) : Bool := match r with | .core k => k.val == c | _ => false
  let s := { s with
    qn := { s.qn with parked := s.qn.parked.filter (fun p => !mine p.who) }
    rg := { s.rg with blocked := s.rg.blocked.filter (fun b => !mine b.req) } }
  s.updCore c (fun k => { k with
    waiting := false, drains := [], mats := [], posts := [], strms := [], job := none, claims := [], touched := [], ended := false, started := none })

/-- The core is retired (08 R229). -/
def State.retireCore (s : State) (c reason : Nat) : State :=
  let st := (s.core c).station
  let s := (s.stopEngines c).updCore c (fun k => { k with reason := reason, retire := false })
  let s := s.setCore c .retired
  let s := if reason ≤ 3 then s.count (0x2870 + c) 6 else s
  s.raise { code := if reason ≤ 3 then 0x1701 else if reason ≤ 5 then 0x1702 else 0x1703, unit := c
            station := if (s.rs.slug.at ({} : Slug) c).on then st else 255, detail := reason }

/-- The core is idle after a slug or a test; a RETIRE or a full test that waited is taken (08 R228, R229). -/
def State.coreFree (s : State) (c : Nat) : State :=
  if (s.core c).retire then s.retireCore c 6
  else if bit s.nc.testing c then s.setCore c .testing
  else s.setCore c .idle

/-- Sequences that the slug on a core carries. -/
def State.slugSeqs (s : State) (c : Nat) : List Nat :=
  ((s.rs.slug.at ({} : Slug) c).seqs.map Prod.snd).filter (· ≠ seqGone)

/-- A slug ends with its windows UNSEEN: an abort, an overrun or a breach (08 R221, R224, 07 R203). -/
def State.dropSlug (s : State) (c cause : Nat) : State :=
  let k := s.core c
  let s := (s.stopEngines c).updCore c (fun x => { x with cause := cause, faultSt := k.station, faultCmd := k.pc % 2 ^ 32 })
  let s := if cause = 6 then s
    else if cause = 5 then (s.count (0x2870 + c) 3).raise { code := 0x1704, unit := c, station := k.station }
    else (s.count (0x2870 + c) 2).raise { code := 0x1705, unit := c, station := k.station }
  let seqs := s.slugSeqs c
  let s := { s with rs := { s.rs with slug := s.rs.slug.put c {} } }
  (seqs.foldl (fun s e => s.endSeq e .aborted) s).coreFree c

/-- Abort with a cause of NC_FAULT (08 R221). -/
def State.abortSlug (s : State) (c cause : Nat) : State := s.dropSlug c cause

/-- Abort for the command of a given number, which may have waited in its engine's queue. -/
def State.abortAt (s : State) (c cause n : Nat) : State := (s.updCore c (fun k => { k with pc := n })).dropSlug c cause

/-- A schedule breach on a ring or quoin (07 R203). -/
def State.breach (s : State) (c what : Nat) : State :=
  let st := (s.core c).station
  let s := s.count 0x2862 2
  let s := s.raise { code := 0x1601, unit := c, station := st, detail := what * 2 ^ 48 + (s.viewAt (s.stClock st)).ticks }
  s.dropSlug c 6

/-! ### Start of a slug -/

/-- Formes, planes, stride table and slot states are cleared when the station changes (08 R222). -/
def State.clearCore (s : State) (c : Nat) : State :=
  (s.updCore c (fun k => { k with
    wForme := [], aForme := [], vForme := [], pSlot := [], pFull := 0, plane := [], cur := [], stride := [] })).count (0x2870 + c) 7

/-- An idle core takes a slug descriptor (08 R222). -/
def State.startSlug (s : State) (c st slots list : Nat) : State :=
  let k := s.core c
  let s := if k.ran && k.station != st then s.clearCore c else s
  let s := (s.stopEngines c).updCore c (fun x => { x with
    station := st, ran := true, list := list, slots := slots, pc := 0, strideOk := 0, pFull := 0, racy := false })
  s.setCore c .running

/-! ### Galley ranges -/

/-- The granule belongs to the station (08 R208). -/
def State.granuleOf (s : State) (c g : Nat) : Nat := (s.core c).granule.at 0 g

/-- Why a galley range is refused: 2 it leaves the galley, 3 a granule is not the station's, with the offset concerned (08 R221). -/
def State.galleyFault (s : State) (c a n : Nat) : Option (Nat × Nat) :=
  if n = 0 then none
  else if galleySize c < a + n then some (2, a)
  else
    let st := (s.core c).station
    match (List.range ((a + n - 1) / 0x8000 - a / 0x8000 + 1)).find? (fun i => s.granuleOf c (a / 0x8000 + i) != st) with
    | some i => some (3, max a ((a / 0x8000 + i) * 0x8000))
    | none => none

/-- Abort for a galley range; an unowned granule also enters the Referee log with cause 11 (08 R221, 11 Table 11-5). -/
def State.galleyAbort (s : State) (c : Nat) (f : Nat × Nat) : State :=
  let k := s.core c
  let s := if f.1 = 3 then
      if h : c < 16 then s.violation (.core ⟨c, h⟩) k.station 11 f.2 1 32 (s.granuleOf c (f.2 / 0x8000)) k.pc else s
    else s
  s.abortSlug c f.1

/-- The first fault among ranges. -/
def State.galleyFaults (s : State) (c : Nat) (rs : List (Nat × Nat)) : Option (Nat × Nat) :=
  rs.findSome? (fun r => s.galleyFault c r.1 r.2)

/-! ### Ranges not synchronised (08 R219) -/

/-- Engine bits of SYNC's MASK. -/
def engMove : Nat := 4
/-- Post. -/
def engPost : Nat := 5
/-- Vector. -/
def engVector : Nat := 6
/-- Expand. -/
def engExpand : Nat := 7
/-- Stream. -/
def engStream : Nat := 8
/-- STORE. -/
def engStore : Nat := 9
/-- The sequencer itself, which no SYNC names. -/
def engSeq : Nat := 15

/-- Two ranges overlap, belong to different engines, and one of them is written and the other read. -/
def Touch.clash (a b : Touch) : Bool :=
  a.engine != b.engine && a.space == b.space && a.write != b.write
    && decide (a.first < b.first + b.len) && decide (b.first < a.first + a.len)

/-- A command uses ranges: a clash with one not synchronised leaves the slug's results undefined (08 R219). -/
def State.touch (s : State) (c : Nat) (ts : List Touch) : State :=
  s.updCore c (fun k => { k with
    racy := k.racy || ts.any (fun t => k.touched.any (fun u => t.clash u))
    touched := k.touched ++ ts.filter (fun t => t.engine != engSeq && t.engine != engStream) })

/-! ### Fetch and check of a command -/

/-- OP of a command. -/
def cmdOp (v : Nat) : Nat := bits v 120 8

/-- Nothing but OP and the named fields (low bit, width) is set (08 R220). -/
def onlyFields (v : Nat) (fs : List (Nat × Nat)) : Bool :=
  v == bits v 120 8 * 2 ^ 120 + (fs.map (fun f => bits v f.1 f.2 * 2 ^ f.1)).sum

/-- Fields that Table 8-7 names for each OP. -/
def cmdFields : Nat → Option (List (Nat × Nat))
  | 0x00 => some []
  | 0x01 => some [(116, 4), (80, 16), (32, 32), (0, 32)]
  | 0x02 => some [(119, 1), (118, 1), (114, 4), (111, 3), (108, 3), (80, 16), (64, 16), (48, 16)]
  | 0x03 => some [(117, 3), (96, 16), (64, 32), (32, 32)]
  | 0x04 => some [(112, 8), (64, 32), (32, 32)]
  | 0x05 => some [(64, 32), (32, 32), (0, 32)]
  | 0x06 => some [(119, 1), (100, 12), (84, 16), (64, 20), (40, 24), (0, 40)]
  | 0x07 => some [(116, 4), (112, 4), (64, 32)]
  | 0x08 => some [(119, 1), (64, 32), (40, 24), (0, 40)]
  | 0x09 => some [(116, 4), (100, 16), (72, 24), (0, 32)]
  | 0x0A => some [(116, 4), (100, 12), (72, 24), (0, 32)]
  | 0x0B => some [(0, 10)]
  | 0x0C => some []
  | _ => none

/-- Which command a row stands for: OP, and ROP, QOP or VOP where the row names one. -/
structure CmdKind where
  op : Nat
  sub : Option Nat
  deriving DecidableEq, Repr

/-- ROP, QOP or VOP of a command. -/
def cmdSub (v : Nat) : Nat :=
  if cmdOp v = 4 then bits v 112 8 else bits v 116 4

/-- ROP, QOP or VOP is one that Table 8-7 or Table 9-9 lists. -/
def cmdSubOk (v : Nat) : Bool :=
  let x := cmdSub v
  match cmdOp v with
  | 0x04 => decide (1 ≤ x ∧ x ≤ 0x10)
  | 0x09 => decide (1 ≤ x ∧ x ≤ 4)
  | 0x0A => decide (x = 1 ∨ x = 2 ∨ x = 4)
  | _ => true

/-- The sequencer is to run a command: a slug runs, has not reached END and does not wait. -/
def NeuralCore.ready (k : NeuralCore) : Bool := k.state == .running && !k.ended && !k.waiting

/-- Outcome of a fetch: the command for this row, or the state in which nothing more is to be done. -/
inductive Fetched where
  | run (s : State) (v : Nat)
  | done (s : State)

/-- Fetch the next command of a core (08 R219-R221): a refused OP, a field that must be 0, or an error response aborts the slug; a command that is not the row's is left for its own row. -/
def State.fetch (s0 : State) (c : Fin 16) (kind : CmdKind) : Fetched :=
  let k := s0.core c.val
  if !k.ready then .done s0
  else
    let (s, x) := s0.fabric (.core c) (k.list + 16 * k.pc) (.read 16) .none 0 k.pc
    match x with
    | none => .done (s.abortSlug c.val 7)
    | some b =>
      let v := leNat b
      let s := if k.started.isNone then s.updCore c.val (fun x => { x with started := some s.clk.ref }) else s
      match cmdFields (cmdOp v) with
      | none => .done (s.abortSlug c.val 1)
      | some fs =>
        if !(onlyFields v fs && cmdSubOk v) then .done (s.abortSlug c.val 2)
        else if cmdOp v ≠ kind.op then .done s0
        else match kind.sub with
          | some x => if cmdSub v = x then .run s v else .done s0
          | none => .run s v

/-- The sequencer goes on to the next command. -/
def State.nextCmd (s : State) (c : Nat) : State := s.updCore c (fun k => { k with pc := k.pc + 1 })

/-- Run a row that stands for a command of the list. -/
def State.command (s : State) (c : Fin 16) (kind : CmdKind) (f : State → Nat → State) : State :=
  match s.fetch c kind with
  | .done s => s
  | .run s v => f s v

end Machine
end Sys2Proof
end

