-- ==== Sys2Proof/Machine/Neural.lean ====
section
/-!
DEFINITION. The commands of a core but for the Vector engine's: MOVE, MATMUL, drains, POST, EXPAND, STRIDE, STORE, SYNC, NOP and END (08 R209-R221, 09 R237-R244).
-/
namespace Sys2Proof
namespace Machine

/-! ### Queued commands: command number × 2^128 + word -/

/-- A command as its engine's queue holds it. -/
def queued (n v : Nat) : Nat := n * 2 ^ 128 + v
/-- Its word. -/
def queuedWord (q : Nat) : Nat := q % 2 ^ 128
/-- Its number. -/
def queuedNum (q : Nat) : Nat := q / 2 ^ 128

/-! ### NOP, MOVE -/

/-- NOP (08 R220). -/
def execNop (core : Fin 16) (s : State) : Host.Outcome State Fault Refusal :=
  .next (s.command core ⟨0x00, none⟩ (fun s _ => s.nextCmd core.val))

/-- Write a block into a forme: linear, or as 32 sub-blocks, one to each bank (08 R216). -/
def bankWrite (m : List Host.Cell) (bankSize ofs : Nat) (x : List Byte) : List Host.Cell :=
  let n := x.length / 32
  (List.range 32).foldl (fun m b => cellWrite zeroByte m (b * bankSize + ofs) (slice x (b * n) n)) m

/-- The forme of a MOVE's DEST: 1 W, 2-5 A0-A3, 6 V; none where the core has none (08 Table 8-7). -/
def moveSpace (c dest : Nat) : Option Nat :=
  if dest = 0 then some 1
  else if 1 ≤ dest ∧ dest ≤ arrayCount c then some (dest + 1)
  else if dest = 8 then some 6
  else none

/-- Bytes of a bank, or of the whole V-Forme (08 Table 8-6). -/
def bankSize (space : Nat) : Nat := if space = 1 then 2048 else if space = 6 then 32768 else 1024

/-- MOVE (08 R216, R221). -/
def State.doMove (s : State) (c v : Nat) : State :=
  let fofs := bits v 80 16 * 32
  let src := bits v 32 32
  let len := bits v 0 32
  match moveSpace c (bits v 116 4) with
  | none => s.abortSlug c 2
  | some sp =>
    let part := if sp = 6 then len else len / 32
    if len % (if sp = 6 then 32 else 1024) ≠ 0 ∨ src % 32 ≠ 0 ∨ bankSize sp < fofs + part then s.abortSlug c 2
    else match s.galleyFault c src len with
      | some f => s.galleyAbort c f
      | none =>
        let s := s.touch c [{ engine := engMove, space := 0, first := src, len := len },
          { engine := engMove, space := sp, first := fofs, len := part, write := true }]
        let (s, x) := s.slugBytes c (s.galley c src len)
        let s := s.updCore c (fun k =>
          if sp = 1 then { k with wForme := bankWrite k.wForme 2048 fofs x }
          else if sp = 6 then { k with vForme := cellWrite zeroByte k.vForme fofs x }
          else { k with aForme := k.aForme.upd [] (sp - 2) (fun m => bankWrite m 1024 fofs x) })
        s.nextCmd c

/-- MOVE. -/
def execMove (core : Fin 16) (s : State) : Host.Outcome State Fault Refusal :=
  .next (s.command core ⟨0x01, none⟩ (fun s v => s.doMove core.val v))

/-! ### MATMUL and drains -/

/-- Activation bytes of one step (08 Table 8-3). -/
def actBytes (dt : Nat) : Nat := if dt ≤ 1 then 1 else 2

/-- The product, or two products, that a cell adds in one step (08 R210). -/
def stepSum (dt : Nat) (a : Nat → Byte) (w : Byte) : Int :=
  let a0 := (a 0).toNat
  let a1 := (a 1).toNat
  let b := w.toNat
  match dt with
  | 0 => signed a0 8 * signed b 8
  | 1 => (a0 : Int) * signed b 8
  | 2 => signed a0 8 * signed b 4 + signed a1 8 * signed (b / 16) 4
  | 3 => (a0 : Int) * signed b 4 + (a1 : Int) * signed (b / 16) 4
  | _ => signed (a0 + 256 * a1) 16 * signed b 8

/-- One cell over K steps, each accumulation held within INT32 (08 R209, R211). -/
def cellSum (dt k : Nat) (a : Nat → Byte) (w : Nat → Byte) (acc : Int) : Int :=
  (List.range k).foldl (fun acc i => hold32 (acc + stepSum dt (fun j => a (i * actBytes dt + j)) (w i))) acc

/-- The plane an array uses for a MATMUL (08 R212). -/
def NeuralCore.planeFor (k : NeuralCore) (m : Nat) (clr : Bool) : Nat := if clr then 1 - k.cur.at 0 m else k.cur.at 0 m

/-- Arrays named by a MATMUL. -/
def matArrays (v : Nat) : List Nat := (List.range 4).filter (fun m => bit v (114 + m))

/-- No named array needs a plane that waits to drain (08 R212). -/
def NeuralCore.matFree (k : NeuralCore) (v : Nat) : Bool :=
  (matArrays v).all (fun m => k.drains.all (fun d => !(d.array == m && d.plane == k.planeFor m (bit v 119))))

/-- One array runs a MATMUL (08 R209, R212). -/
def NeuralCore.matOne (k : NeuralCore) (v m : Nat) : NeuralCore :=
  let clr := bit v 119
  let dt := bits v 111 3
  let p := k.planeFor m clr
  let old : Tab Int := k.plane.at [] (2 * m + p)
  let af := k.aForme.at [] m
  let cells : Tab Int := (List.range 1024).filterMap (fun n =>
    let acc := cellSum dt (bits v 48 16) (fun i => cellGet zeroByte af (n / 32 * 1024 + bits v 64 16 + i))
      (fun i => cellGet zeroByte k.wForme (n % 32 * 2048 + bits v 80 16 + i)) (if clr then 0 else old.at 0 n)
    if acc = 0 then none else some (n, acc))
  { k with
    plane := k.plane.put (2 * m + p) cells, cur := k.cur.put m p
    drains := if bit v 118 then k.drains ++ [{ array := m, plane := p, slot := (bits v 108 3 + m) % 8 }] else k.drains }

/-- Run a MATMUL on its arrays. -/
def NeuralCore.runMat (k : NeuralCore) (v : Nat) : NeuralCore := (matArrays v).foldl (fun k m => k.matOne v m) k

/-- Run queued MATMULs as far as their planes are free. -/
def NeuralCore.runMats : Nat → NeuralCore → NeuralCore
  | 0, k => k
  | fuel + 1, k =>
    match k.mats with
    | [] => k
    | q :: rest => if k.matFree (queuedWord q) then NeuralCore.runMats fuel (({ k with mats := rest }).runMat (queuedWord q)) else k

/-- MATMUL (08 R212, R219, R221): checked, then queued at the arrays; it runs as soon as its planes are free. -/
def State.doMatmul (s : State) (c v : Nat) : State :=
  let dt := bits v 111 3
  let steps := bits v 48 16
  let ms := matArrays v
  if ms = [] ∨ ms.any (fun m => decide (arrayCount c ≤ m)) = true ∨ 5 ≤ dt ∨ steps = 0 ∨ 2048 < steps
      ∨ 1024 < bits v 64 16 + steps * actBytes dt ∨ 2048 < bits v 80 16 + steps then s.abortSlug c 2
  else if 4 ≤ (s.core c).mats.length then s
  else
    let s := s.touch c (ms.flatMap (fun m =>
      [{ engine := m, space := 1, first := bits v 80 16, len := steps },
       { engine := m, space := 2 + m, first := bits v 64 16, len := steps * actBytes dt }]))
    (s.updCore c (fun k => ({ k with mats := k.mats ++ [queued k.pc v] } : NeuralCore).runMats 5)).nextCmd c

/-- MATMUL. -/
def execMatmul (core : Fin 16) (s : State) : Host.Outcome State Fault Refusal :=
  .next (s.command core ⟨0x02, none⟩ (fun s v => s.doMatmul core.val v))

/-! ### POST -/

/-- Bytes of an element. -/
def elemBytes (ty : Nat) (y : Int) : List Byte := leBytes (elemSize ty) (unsigned y (8 * elemSize ty))

/-- Post's parameter block lies within Tables 9-5 and 9-6 (09 R244). -/
def postOk (b : List Byte) : Bool :=
  let oty := field b 0 1
  let act := field b 1 1
  decide (oty ≤ 3 ∧ act ≤ 1 ∧ ¬ (act = 1 ∧ 2 ≤ oty) ∧ 1 ≤ field b 2 1 ∧ field b 2 1 ≤ 32 ∧ 1 ≤ field b 3 1 ∧ field b 3 1 ≤ 32)
    && decide (field b 4 12 = 0)
    && (oty == 3 || (List.range 32).all (fun j => (chanRec (slice b (16 + 16 * j) 16)).ok oty))
    && (List.range 32).all (fun j => decide (field b (25 + 16 * j) 1 = 0))

/-- Bytes of a POST's parameter block. -/
def postLen (act : Nat) : Nat := if act = 1 then 784 else 528

/-- One output row of Post (09 R242, R243). -/
def postRow (b : List Byte) (slot : Tab Int) (row : Nat) : List Byte :=
  let oty := field b 0 1
  (List.range (field b 3 1)).flatMap (fun j =>
    let y := requant (chanRec (slice b (16 + 16 * j) 16)) oty (slot.at 0 (32 * row + j))
    if field b 1 1 = 1 then slice b (528 + unsigned y 8) 1 else elemBytes oty y)

/-- Post runs on a FULL slot and frees it (09 R242-R244, 08 R217). -/
def State.runPost (s : State) (c q : Nat) : State :=
  let v := queuedWord q
  let param := bits v 64 32
  let dest := bits v 32 32
  let pitch := bits v 96 16
  let slot := bits v 117 3
  let act := leNat (s.galley c (param + 1) 1)
  let faultAt (s : State) : State := s.updCore c (fun k => { k with pc := queuedNum q })
  if param % 32 ≠ 0 then s.abortAt c 2 (queuedNum q)
  else match s.galleyFault c param (postLen act) with
    | some f => (faultAt s).galleyAbort c f
    | none =>
      let b := s.galley c param (postLen act)
      if !postOk b then s.abortAt c 2 (queuedNum q)
      else
        let rows := field b 2 1
        let n := field b 3 1 * elemSize (field b 0 1)
        match s.galleyFaults c ((List.range rows).map (fun i => (dest + i * pitch, n))) with
        | some f => (faultAt s).galleyAbort c f
        | none =>
          let data := (s.core c).pSlot.at [] slot
          let s := (List.range rows).foldl (fun s i => s.putGalley c (dest + i * pitch) (postRow b data i)) s
          s.updCore c (fun k => { k with pFull := if bit k.pFull slot then k.pFull - 2 ^ slot else k.pFull })

/-- Run queued POSTs while the slot of the oldest is FULL (08 R217, R219). -/
def State.runPosts (s : State) (c : Nat) : Nat → State
  | 0 => s
  | fuel + 1 =>
    match (s.core c).posts with
    | [] => s
    | q :: rest =>
      if bit (s.core c).pFull (bits (queuedWord q) 117 3) then
        ((s.updCore c (fun k => { k with posts := rest })).runPost c q).runPosts c fuel
      else s

/-- POST (08 R217): queued at Post; it runs once its slot is FULL. -/
def State.doPost (s : State) (c v : Nat) : State :=
  let k := s.core c
  if 4 ≤ k.posts.length then s
  else
    let param := bits v 64 32
    let b := s.galley c param 4
    let s := s.touch c
      [{ engine := engPost, space := 0, first := param, len := postLen (field b 1 1) },
       { engine := engPost, space := 0, first := bits v 32 32
         len := (field b 2 1 - 1) * bits v 96 16 + field b 3 1 * elemSize (field b 0 1), write := true }]
    ((s.updCore c (fun k => { k with posts := k.posts ++ [queued k.pc v] })).nextCmd c).runPosts c 5

/-- POST. -/
def execPost (core : Fin 16) (s : State) : Host.Outcome State Fault Refusal :=
  .next (s.command core ⟨0x03, none⟩ (fun s v => s.doPost core.val v))

/-- TILE_DRAIN (08 R212, R217): the oldest plane of an array that waits drains into its slot once that is FREE; queued POSTs and MATMULs then go on. -/
def execTileDrain (core : Fin 16) (array : Fin 4) (s : State) : Host.Outcome State Fault Refusal :=
  let c := core.val
  let k := s.core c
  .next <|
    if k.state ≠ .running then s
    else match k.drains.find? (fun d => d.array == array.val) with
      | none => s
      | some d =>
        if bit k.pFull d.slot then s
        else
          let s := s.updCore c (fun k => { k with
            pSlot := k.pSlot.put d.slot (k.plane.at [] (2 * d.array + d.plane))
            pFull := k.pFull + 2 ^ d.slot, drains := k.drains.erase d })
          (s.updCore c (fun k => k.runMats 5)).runPosts c 5

/-! ### EXPAND -/

/-- An Expand geometry block (09 Table 9-4). -/
structure Geom where
  inH : Nat
  inW : Nat
  inC : Nat
  elem : Nat
  kh : Nat
  kw : Nat
  sh : Nat
  sw : Nat
  dh : Nat
  dw : Nat
  pt : Nat
  pb : Nat
  pl : Nat
  pr : Nat
  pad : Nat
  yp : Nat
  xp : Nat
  cp : Nat
  oy0 : Nat
  ox0 : Nat
  count : Nat
  kbeg : Nat
  kp : Nat
  reserved : Nat
  deriving DecidableEq, Repr

/-- Decode a geometry block. -/
def geomOf (b : List Byte) : Geom :=
  let f := field b
  { inH := f 0 2, inW := f 2 2, inC := f 4 2, elem := f 6 1, kh := f 7 1, kw := f 8 1, sh := f 9 1, sw := f 10 1
    dh := f 11 1, dw := f 12 1, pt := f 13 1, pb := f 14 1, pl := f 15 1, pr := f 16 1, pad := f 18 2
    yp := f 20 4, xp := f 24 4, cp := f 28 4, oy0 := f 32 2, ox0 := f 34 2, count := f 36 4, kbeg := f 40 4
    kp := f 44 2, reserved := f 17 1 + f 46 18 }

/-- Output extent of a convolution in one direction, by integer division; 0 where it is less than 1 (09 R238). -/
def outSize (n before_ after_ kernel stride dil : Nat) : Nat :=
  let span := dil * (kernel - 1) + 1
  if n + before_ + after_ < span ∨ stride = 0 then 0 else (n + before_ + after_ - span) / stride + 1

/-- OH. -/
def Geom.oh (g : Geom) : Nat := outSize g.inH g.pt g.pb g.kh g.sh g.dh
/-- OW. -/
def Geom.ow (g : Geom) : Nat := outSize g.inW g.pl g.pr g.kw g.sw g.dw
/-- K, the patch length. -/
def Geom.k (g : Geom) : Nat := g.kh * g.kw * g.inC

/-- A number lies in a range. -/
def within (lo hi x : Nat) : Bool := decide (lo ≤ x) && decide (x ≤ hi)

/-- The block passes R239 but for its ranges in the galley. -/
def Geom.ok (g : Geom) (size : Nat) : Bool :=
  within 1 8192 g.inH && within 1 8192 g.inW && within 1 4096 g.inC && within 1 2 g.elem && within 1 16 g.kh && within 1 16 g.kw
    && within 1 8 g.sh && within 1 8 g.sw && within 1 8 g.dh && within 1 8 g.dw && within 0 15 g.pt && within 0 15 g.pb
    && within 0 15 g.pl && within 0 15 g.pr && within 1 size g.yp && within 1 size g.xp && within g.elem size g.cp
    && within 1 65536 g.count && decide (g.kbeg < g.k) && within 32 1024 g.kp && decide (g.kp % 32 = 0) && decide (g.reserved = 0)
    && decide (1 ≤ g.oh) && decide (1 ≤ g.ow)
    && decide ((min (g.k - g.kbeg) (1024 / g.elem) * g.elem + 31) / 32 * 32 ≤ g.kp)
    && decide (g.oy0 * g.ow + g.ox0 + g.count - 1 < g.oh * g.ow)

/-- One element of an expanded row: bytes of patch element j of output position l (09 R238). -/
def Geom.element (g : Geom) (read : Nat → Nat → List Byte) (src l j : Nat) : List Byte :=
  if g.k ≤ j then leBytes g.elem 0
  else
    let oy := l / g.ow
    let ox := l % g.ow
    let ky := j / (g.kw * g.inC)
    let kx := j / g.inC % g.kw
    let ch := j % g.inC
    let y := oy * g.sh + ky * g.dh
    let x := ox * g.sw + kx * g.dw
    if g.pt ≤ y ∧ y < g.inH + g.pt ∧ g.pl ≤ x ∧ x < g.inW + g.pl then
      read (src + (y - g.pt) * g.yp + (x - g.pl) * g.xp + ch * g.cp) g.elem
    else leBytes g.elem g.pad

/-- EXPAND (09 R237-R239). -/
def State.doExpand (s : State) (c v : Nat) : State :=
  let geom := bits v 64 32
  let dest := bits v 32 32
  let src := bits v 0 32
  if geom % 32 ≠ 0 then s.abortSlug c 2
  else match s.galleyFault c geom 64 with
    | some f => s.galleyAbort c f
    | none =>
      let g := geomOf (s.galley c geom 64)
      let n := (g.inH - 1) * g.yp + (g.inW - 1) * g.xp + (g.inC - 1) * g.cp + g.elem
      let m := g.count * g.kp
      if !g.ok (galleySize c) || (decide (src < dest + m) && decide (dest < src + n)) then s.abortSlug c 2
      else match s.galleyFaults c [(src, n), (dest, m)] with
        | some f => s.galleyAbort c f
        | none =>
          let s := s.touch c
            [{ engine := engExpand, space := 0, first := geom, len := 64 }, { engine := engExpand, space := 0, first := src, len := n },
             { engine := engExpand, space := 0, first := dest, len := m, write := true }]
          let l0 := g.oy0 * g.ow + g.ox0
          let x := (List.range g.count).flatMap (fun r =>
            (List.range (g.kp / g.elem)).flatMap (fun j => g.element (s.galley c) src (l0 + r) (g.kbeg + j)))
          (s.putGalley c dest x).nextCmd c

/-- EXPAND. -/
def execExpand (core : Fin 16) (s : State) : Host.Outcome State Fault Refusal :=
  .next (s.command core ⟨0x05, none⟩ (fun s v => s.doExpand core.val v))

/-! ### STRIDE, STORE, SYNC, END -/

/-- STRIDE (08 R219, R220): waits until the Stream engine is idle, then loads entries. -/
def State.doStride (s : State) (c v : Nat) : State :=
  let first := bits v 116 4
  let num := bits v 112 4
  let src := bits v 64 32
  if !(within 1 14 first && within 1 14 num && decide (first + num ≤ 15)) then s.abortSlug c 2
  else match s.galleyFault c src (4 * num) with
    | some f => s.galleyAbort c f
    | none =>
      let k := s.core c
      if k.job.isSome || !k.strms.isEmpty then s
      else
        let s := s.touch c [{ engine := engSeq, space := 0, first := src, len := 4 * num }]
        let b := s.galley c src (4 * num)
        (s.updCore c (fun k =>
          (List.range num).foldl (fun (k : NeuralCore) i => { k with
            stride := k.stride.put (first + i) (field b (4 * i) 4)
            strideOk := if bit k.strideOk (first + i) then k.strideOk else k.strideOk + 2 ^ (first + i) }) k)).nextCmd c

/-- STRIDE. -/
def execStride (core : Fin 16) (s : State) : Host.Outcome State Fault Refusal :=
  .next (s.command core ⟨0x07, none⟩ (fun s v => s.doStride core.val v))

/-- The 64-byte lines that an engine's transfer is made of; `fuel` bounds them. -/
def linePieces : Nat → Nat → Nat → List (Nat × Nat)
  | 0, _, _ => []
  | fuel + 1, a, n =>
    if n = 0 then []
    else
      let k := min n (64 - a % 64)
      (a, k) :: linePieces fuel (a + k) (n - k)

/-- Lines of a transfer of n bytes. -/
def lineSplit (a n : Nat) : List (Nat × Nat) := linePieces (n / 64 + 2) a n

/-- STORE (08 R220, R221): galley bytes to memory, or into the record of the latest uncommitted CLAIM. -/
def State.doStore (s : State) (core : Fin 16) (v : Nat) : State :=
  let c := core.val
  let src := bits v 64 32
  let n := bits v 40 24
  let dst := bits v 0 40
  let toRing := bit v 119
  let k := s.core c
  let target : Option (List (Nat × Nat)) :=
    if toRing then
      match k.claims with
      | [] => none
      | (r, start, len) :: _ =>
        if dst + n ≤ len then some ((s.ringBytes r (start + dst) n).flatMap (fun p => lineSplit p.1 p.2)) else none
    else some (lineSplit dst n)
  if n % 4 ≠ 0 then s.abortSlug c 2
  else match s.galleyFault c src n with
    | some f => s.galleyAbort c f
    | none =>
      match target with
      | none => s.abortSlug c 2
      | some ps =>
        let s := s.touch c [{ engine := engStore, space := 0, first := src, len := n }]
        let (s, x) := s.slugBytes c (s.galley c src n)
        match s.writePieces (.core core) k.pc ps x with
        | (s, true) => s.nextCmd c
        | (s, false) => s.abortSlug c 7

/-- STORE. -/
def execStore (core : Fin 16) (s : State) : Host.Outcome State Fault Refusal :=
  .next (s.command core ⟨0x08, none⟩ (fun s v => s.doStore core v))

/-- Every earlier command of the engines named in a mask has completed (08 R220). -/
def NeuralCore.synced (k : NeuralCore) (mask : Nat) : Bool :=
  (List.range 4).all (fun m => !bit mask m
      || (k.drains.all (fun d => d.array != m) && k.mats.all (fun q => !(matArrays (queuedWord q)).contains m)))
    && (!bit mask engPost || k.posts.isEmpty) && (!bit mask engStream || (k.job.isNone && k.strms.isEmpty))

/-- SYNC (08 R220): goes on once the named engines have completed what was issued before. -/
def execSync (core : Fin 16) (s : State) : Host.Outcome State Fault Refusal :=
  .next (s.command core ⟨0x0B, none⟩ (fun s v =>
    let mask := bits v 0 10
    if (s.core core.val).synced mask then
      (s.updCore core.val (fun k => { k with touched := k.touched.filter (fun t => !bit mask t.engine) })).nextCmd core.val
    else s))

/-- END (08 R223): nothing more is fetched; the slug ends once every engine is idle. -/
def execEndCmd (core : Fin 16) (s : State) : Host.Outcome State Fault Refusal :=
  .next (s.command core ⟨0x0C, none⟩ (fun s _ => s.updCore core.val (fun k => { k with ended := true })))

end Machine
end Sys2Proof
end

