-- ==== Sys2Proof/Machine/Vector.lean ====
section
/-!
DEFINITION. The Vector engine: its parameter block and its sixteen operations (09 R245-R250).
The spec gives no byte offsets for the fields of Table 9-9; they stand here at one fixed set of offsets in bytes 32-63, arrays from byte 64 (DESIGN CHOICE 18).
-/
namespace Sys2Proof
namespace Machine

/-- A Vector parameter block: the common fields of Table 9-8 and the operation fields of Table 9-9. -/
structure VecBlk where
  h : Nat
  w : Nat
  c : Nat
  inT : Nat
  outT : Nat
  src0 : Nat
  src1 : Nat
  syp : Nat
  cp : Nat
  dyp : Nat
  dcp : Nat
  dcoff : Nat
  bcast : Nat
  reserved : Nat
  kh : Nat
  kw : Nat
  sh : Nat
  sw : Nat
  dh : Nat
  dw : Nat
  pt : Nat
  pb : Nat
  pl : Nat
  pr : Nat
  mode : Nat
  axis : Nat
  za : Int
  zb : Int
  zo : Int
  rs : Nat
  ma : Int
  mb : Int
  scale : Nat
  k : Nat
  n : Nat
  qmin : Int
  qmax : Int
  deriving DecidableEq, Repr

/-- Decode the first 64 bytes of a block. -/
def vecBlk (b : List Byte) : VecBlk :=
  let f := field b
  let i (o : Nat) : Int := signed (f o 2) 16
  { h := f 0 2, w := f 2 2, c := f 4 2, inT := f 6 1, outT := f 7 1, src0 := f 8 2, src1 := f 10 2, syp := f 12 2, cp := f 14 2
    dyp := f 16 4, dcp := f 20 2, dcoff := f 22 2, bcast := f 24 1, reserved := f 25 7
    kh := f 32 1, kw := f 33 1, sh := f 34 1, sw := f 35 1, dh := f 36 1, dw := f 37 1, pt := f 38 1, pb := f 39 1, pl := f 40 1, pr := f 41 1
    mode := f 42 1, axis := f 43 1, za := i 44, zb := i 46, zo := i 48, rs := f 50 1
    ma := signed (f 52 4) 32, mb := signed (f 56 4) 32, scale := f 52 2, k := f 52 4, n := f 56 4, qmin := i 60, qmax := i 62 }

/-- The operation takes a second input of the first one's shape. -/
def vecTwo (op : Nat) : Bool := within 4 7 op

/-- Type pairs of Table 9-9. -/
def vecTypes (op : Nat) (b : VecBlk) : Bool :=
  let i := b.inT
  let o := b.outT
  match op with
  | 0x01 => decide (i ≤ 2 ∧ o = i)
  | 0x02 => decide (i ≤ 2 ∧ o = i)
  | 0x03 => decide (i ≤ 1 ∧ o ≤ 2)
  | 0x04 => decide (i ≤ 3 ∧ o ≤ 3)
  | 0x05 => decide (i ≤ 2 ∧ o ≤ 2)
  | 0x06 => decide (i ≤ 5 ∧ o = i)
  | 0x07 => decide (i ≤ 5 ∧ o = i)
  | 0x08 => decide (i ≤ 1 ∧ o ≤ 1)
  | 0x09 => decide ((i ≤ 1 ∨ i = 4) ∧ (o = 1 ∨ o = 2 ∨ o = 4))
  | 0x0A => decide (i ≤ 2 ∧ ((b.mode = 0 ∧ o = 3) ∨ ((b.mode = 1 ∨ b.mode = 2) ∧ o = i) ∨ (b.mode = 3 ∧ o ≤ 3)))
  | 0x0B => decide (i ≤ 1 ∧ o ≤ 3)
  | 0x0C => decide ((i ≤ 2 ∨ i = 4) ∧ o = 5)
  | 0x0D => decide (i ≤ 2 ∧ o = 1)
  | 0x0E => decide (i ≤ 5 ∧ o = i)
  | 0x0F => decide (i ≤ 5 ∧ o = i)
  | 0x10 => decide (i = 3 ∧ o ≤ 2)
  | _ => false

/-- Output rows, columns and channels of an operation. -/
def vecDims (op : Nat) (b : VecBlk) : Nat × Nat × Nat :=
  match op with
  | 0x01 => (outSize b.h b.pt b.pb b.kh b.sh 1, outSize b.w b.pl b.pr b.kw b.sw 1, b.c)
  | 0x02 => (outSize b.h b.pt b.pb b.kh b.sh 1, outSize b.w b.pl b.pr b.kw b.sw 1, b.c)
  | 0x03 => (outSize b.h b.pt b.pb b.kh b.sh b.dh, outSize b.w b.pl b.pr b.kw b.sw b.dw, b.c)
  | 0x0A => if b.axis = 0 then (1, 1, b.c) else (b.h, b.w, 1)
  | 0x0B => (1, 1, b.n)
  | 0x0C => (b.h, b.w, 1)
  | 0x0E => (b.h * b.kh, b.w * b.kw, b.c)
  | _ => (b.h, b.w, b.c)

/-- Offset of the channel records of DWCONV: after the weights, rounded up to 16 bytes. -/
def dwRecords (b : VecBlk) : Nat := 64 + (b.c * b.kh * b.kw + 15) / 16 * 16

/-- Bytes of a parameter block. -/
def vecLen (op : Nat) (b : VecBlk) : Nat :=
  match op with
  | 0x03 => dwRecords b + 16 * b.c
  | 0x08 => 320
  | 0x0B => 64 + 16 * b.n
  | 0x0D => 64 + 2 * b.c
  | 0x10 => 64 + 16 * b.c
  | _ => 64

/-- The operation's own fields lie within Table 9-9. -/
def vecFields (op : Nat) (b : VecBlk) (x : List Byte) : Bool :=
  let recs (from_ n : Nat) : Bool := (List.range n).all (fun j => (chanRec (slice x (from_ + 16 * j) 16)).ok b.outT
    || (b.outT == 3 && decide ((chanRec (slice x (from_ + 16 * j) 16)).reserved = 0)))
  let pool : Bool := within 1 16 b.kh && within 1 16 b.kw && within 1 16 b.sh && within 1 16 b.sw
    && decide (b.pt < b.kh ∧ b.pb < b.kh ∧ b.pl < b.kw ∧ b.pr < b.kw)
  match op with
  | 0x01 => pool
  | 0x02 => pool && decide (b.mode ≤ 1 ∧ b.rs ≤ 63)
  | 0x03 => within 1 7 b.kh && within 1 7 b.kw && within 1 4 b.sh && within 1 4 b.sw && within 1 4 b.dh && within 1 4 b.dw
      && decide (b.pt ≤ 7 ∧ b.pb ≤ 7 ∧ b.pl ≤ 7 ∧ b.pr ≤ 7) && recs (dwRecords b) b.c
  | 0x04 => decide (b.rs ≤ 63)
  | 0x05 => decide (b.rs ≤ 63)
  | 0x09 => decide (b.c ≤ 2048)
  | 0x0A => decide (b.mode ≤ 3 ∧ b.axis ≤ 1 ∧ b.rs ≤ 63)
  | 0x0B => decide (b.k ≤ 4096 ∧ b.n ≤ 64 ∧ b.k * b.n + b.k ≤ 32768) && recs 64 b.n
  | 0x0E => within 1 8 b.kh && within 1 8 b.kw && decide (b.mode ≤ 1)
  | 0x10 => recs 64 b.c
  | _ => true

/-- Bytes of the first source's extent. -/
def vecExtent (op : Nat) (b : VecBlk) : Nat :=
  let es := elemSize b.inT
  if op = 0x0B then b.k else (b.h - 1) * b.syp + (b.w - 1) * b.cp * es + b.c * es

/-- Bytes of the second source's extent, 0 without one. -/
def vecExtent2 (op : Nat) (b : VecBlk) : Nat :=
  if op = 0x0B then b.k * b.n
  else if !vecTwo op then 0
  else if b.bcast = 1 then b.c * elemSize b.inT
  else vecExtent op b

/-- The source extents stay in the V-Forme (09 R249). -/
def vecSource (op : Nat) (b : VecBlk) : Bool :=
  decide (b.src0 + vecExtent op b ≤ 32768) && (vecExtent2 op b == 0 || decide (b.src1 + vecExtent2 op b ≤ 32768))

/-- The block passes R249 but for the destination's granules. -/
def vecOk (op : Nat) (x : List Byte) : Bool :=
  let b := vecBlk x
  let (oh, ow, _) := vecDims op b
  within 1 8192 b.h && within 1 8192 b.w && within 1 4096 b.c && vecTypes op b && decide (b.c ≤ b.cp) && decide (b.dcoff ≤ 4095)
    && decide (b.c + b.dcoff ≤ b.dcp) && decide (b.bcast ≤ 1) && decide (b.reserved = 0) && (b.bcast == 0 || vecTwo op)
    && decide (1 ≤ oh) && decide (1 ≤ ow) && vecFields op b x && vecSource op b

/-- Scaled output: Z_O added and held (09 R246). -/
def VecBlk.out (b : VecBlk) (y : Int) : Nat :=
  if b.outT = 3 then unsigned (hold32 (y + b.zo)) 32 else unsigned (clamp b.qmin b.qmax (y + b.zo)) (8 * elemSize b.outT)

/-- Elements of a pooling or depthwise window: (element offsets that lie inside the input). -/
def vecWindow (b : VecBlk) (dh dw y x : Nat) : List (Nat × Nat × Nat × Nat) :=
  (List.range b.kh).flatMap (fun ky => (List.range b.kw).filterMap (fun kx =>
    let iy := y * b.sh + ky * dh
    let ix := x * b.sw + kx * dw
    if b.pt ≤ iy ∧ iy < b.h + b.pt ∧ b.pl ≤ ix ∧ ix < b.w + b.pl then some (iy - b.pt, ix - b.pl, ky, kx) else none))

/-- The larger of two elements by type; none when a bfloat16 NaN leaves it unstated. -/
def pickElem (ty : Nat) (larger : Bool) (a b : Nat) : Option Nat :=
  if ty = 4 then
    if (bfSpecial a ∧ bits a 0 7 ≠ 0) ∨ (bfSpecial b ∧ bits b 0 7 ≠ 0) then none
    else if larger then (if bfKey a < bfKey b then some b else some a) else (if bfKey b < bfKey a then some b else some a)
  else if larger then (if elemVal ty a < elemVal ty b then some b else some a)
  else if elemVal ty b < elemVal ty a then some b else some a

/-- Sum of integers. -/
def isum (l : List Int) : Int := l.foldl (· + ·) 0

/-- A mean: RNE(t × M_A / (n × 2^RS)), computed exactly (09 R246). -/
def VecBlk.mean (b : VecBlk) (t : Int) (n : Nat) : Nat := b.out (rneDiv (t * b.ma) (n * 2 ^ b.rs))

/-- The largest element over a list with its index; the lowest index on ties (09 Table 9-9). -/
def argmaxOf (ty : Nat) (xs : List Nat) : Option Nat :=
  if ty = 4 ∧ xs.any (fun a => bfSpecial a && decide (bits a 0 7 ≠ 0)) = true then none
  else
    let key (a : Nat) : Int := if ty = 4 then bfKey a else elemVal ty a
    some ((xs.zipIdx.foldl (fun (b : Option (Int × Nat)) x =>
      match b with
      | none => some (key x.1, x.2)
      | some (k, i) => if k < key x.1 then some (key x.1, x.2) else some (k, i)) none).map Prod.snd |>.getD 0)

/-- Codes of every channel at one output position; none is a value the spec does not state (09 R246, R247). -/
def vecAt (op : Nat) (b : VecBlk) (x : List Byte) (forme : Nat → Byte) (oy ox : Nat) : List (Option Nat) :=
  let es := elemSize b.inT
  let raw (o n : Nat) : Nat := leNat ((List.range n).map (fun i => forme (o + i)))
  let a (iy ix ic : Nat) : Nat := raw (b.src0 + iy * b.syp + ix * b.cp * es + ic * es) es
  let s2 (iy ix ic : Nat) : Nat :=
    if b.bcast = 1 then raw (b.src1 + ic * es) es else raw (b.src1 + iy * b.syp + ix * b.cp * es + ic * es) es
  let va (iy ix ic : Nat) : Int := elemVal b.inT (a iy ix ic)
  let chans (f : Nat → Option Nat) : List (Option Nat) := (List.range b.c).map f
  let best (larger : Bool) (xs : List Nat) : Option Nat :=
    xs.foldl (fun (m : Option Nat) e => match m with | none => some e | some k => pickElem b.inT larger k e) none
  let rec_ (from_ j : Nat) : ChanRec := chanRec (slice x (from_ + 16 * j) 16)
  let asOut (y : Int) : Nat := unsigned y (8 * elemSize b.outT)
  match op with
  | 0x01 => chans (fun ch => best true ((vecWindow b 1 1 oy ox).map (fun p => a p.1 p.2.1 ch)))
  | 0x02 => chans (fun ch =>
      let w := vecWindow b 1 1 oy ox
      let pad : Nat := if b.mode = 1 then b.kh * b.kw - w.length else 0
      let t := isum (w.map (fun p => va p.1 p.2.1 ch - b.za))
      some (b.mean t (w.length + pad)))
  | 0x03 => chans (fun ch =>
      let acc := isum ((vecWindow b b.dh b.dw oy ox).map (fun p =>
        (va p.1 p.2.1 ch - b.za) * signed (field x (64 + (ch * b.kh + p.2.2.1) * b.kw + p.2.2.2) 1) 8))
      some (asOut (requant (rec_ (dwRecords b) ch) b.outT acc)))
  | 0x04 => chans (fun ch =>
      some (b.out (rne ((va oy ox ch - b.za) * b.ma + (elemVal b.inT (s2 oy ox ch) - b.zb) * b.mb) b.rs)))
  | 0x05 => chans (fun ch =>
      some (b.out (rne ((va oy ox ch - b.za) * (elemVal b.inT (s2 oy ox ch) - b.zb) * b.ma) b.rs)))
  | 0x06 => chans (fun ch => pickElem b.inT true (a oy ox ch) (s2 oy ox ch))
  | 0x07 => chans (fun ch => pickElem b.inT false (a oy ox ch) (s2 oy ox ch))
  | 0x08 => chans (fun ch => some (field x (64 + a oy ox ch) 1))
  | 0x09 =>
    (softmax ((List.range b.c).map (fun ch => softmaxIn b.inT b.za b.scale (a oy ox ch)))).map
      (fun p => p.map (softmaxOut b.outT b.zo))
  | 0x0A =>
    let all (j : Nat) : List Nat :=
      if b.axis = 0 then (List.range b.h).flatMap (fun iy => (List.range b.w).map (fun ix => a iy ix j))
      else (List.range b.c).map (fun ch => a oy ox ch)
    (List.range (if b.axis = 0 then b.c else 1)).map (fun j =>
      let xs := all j
      if b.mode = 0 then some (unsigned (hold32 (isum (xs.map (elemVal b.inT)))) 32)
      else if b.mode = 1 then best true xs
      else if b.mode = 2 then best false xs
      else some (b.mean (isum (xs.map (fun e => elemVal b.inT e - b.za))) xs.length))
  | 0x0B => (List.range b.n).map (fun j =>
      let acc := isum ((List.range b.k).map (fun i =>
        elemVal b.inT (raw (b.src0 + i) 1) * signed (raw (b.src1 + j * b.k + i) 1) 8))
      some (asOut (requant (rec_ 64 j) b.outT acc)))
  | 0x0C => [argmaxOf b.inT ((List.range b.c).map (fun ch => a oy ox ch))]
  | 0x0D => chans (fun ch => some (if signed (field x (64 + 2 * ch) 2) 16 < va oy ox ch then 1 else 0))
  | 0x0E => chans (fun ch =>
      if b.mode = 0 then some (a (oy / b.kh) (ox / b.kw) ch)
      else if oy % b.kh = 0 ∧ ox % b.kw = 0 then some (a (oy / b.kh) (ox / b.kw) ch)
      else some (asOut b.za))
  | 0x0F => chans (fun ch => some (a oy ox ch))
  | _ => chans (fun ch => some (asOut (requant (rec_ 64 ch) b.outT (va oy ox ch))))

/-- Bytes of the codes at one position; a value that is not stated gives free bytes. -/
def codeBytes (es : Nat) (x : List (Option Nat)) : List (Option Byte) :=
  x.flatMap (fun y => match y with
    | some v => (leBytes es v).map some
    | none => List.replicate es none)

/-- A VEC command (09 R245, R246, R249). -/
def State.doVec (s : State) (c op v : Nat) : State :=
  let param := bits v 64 32
  let dest := bits v 32 32
  if param % 32 ≠ 0 then s.abortSlug c 2
  else match s.galleyFault c param 64 with
    | some f => s.galleyAbort c f
    | none =>
      let len := vecLen op (vecBlk (s.galley c param 64))
      match s.galleyFault c param len with
      | some f => s.galleyAbort c f
      | none =>
        let x := s.galley c param len
        let b := vecBlk x
        if !vecOk op x then s.abortSlug c 2
        else
          let (oh, ow, oc) := vecDims op b
          let es := elemSize b.outT
          let start (y xx : Nat) : Nat := dest + y * b.dyp + xx * b.dcp * es + b.dcoff * es
          let span := (oh - 1) * b.dyp + (ow - 1) * b.dcp * es + (b.dcoff + oc) * es
          match s.galleyFault c dest span with
          | some f => s.galleyAbort c f
          | none =>
            let forme := cellGet zeroByte (s.core c).vForme
            let s := s.touch c
              [{ engine := engVector, space := 0, first := param, len := len },
               { engine := engVector, space := 6, first := b.src0, len := vecExtent op b },
               { engine := engVector, space := 6, first := b.src1, len := vecExtent2 op b },
               { engine := engVector, space := 0, first := dest, len := span, write := true }]
            let s := (List.range oh).foldl (fun s y => (List.range ow).foldl (fun (s : State) xx =>
              let (s, bytes) := s.fillFree (codeBytes es (vecAt op b x forme y xx))
              s.putGalley c (start y xx) bytes) s) s
            s.nextCmd c

/-- A row that stands for one VOP. -/
def State.vector (s : State) (core : Fin 16) (op : Nat) : State :=
  s.command core ⟨0x04, some op⟩ (fun s v => s.doVec core.val op v)

/-- MAXPOOL (09 R246). -/
def execMaxpool (core : Fin 16) (s : State) : Host.Outcome State Fault Refusal := .next (s.vector core 0x01)
/-- AVGPOOL (09 R246). -/
def execAvgpool (core : Fin 16) (s : State) : Host.Outcome State Fault Refusal := .next (s.vector core 0x02)
/-- DWCONV (09 R246). -/
def execDwconv (core : Fin 16) (s : State) : Host.Outcome State Fault Refusal := .next (s.vector core 0x03)
/-- ADD (09 R246). -/
def execAdd (core : Fin 16) (s : State) : Host.Outcome State Fault Refusal := .next (s.vector core 0x04)
/-- MUL (09 R246). -/
def execMul (core : Fin 16) (s : State) : Host.Outcome State Fault Refusal := .next (s.vector core 0x05)
/-- MAX (09 R246). -/
def execMax (core : Fin 16) (s : State) : Host.Outcome State Fault Refusal := .next (s.vector core 0x06)
/-- MIN (09 R246). -/
def execMin (core : Fin 16) (s : State) : Host.Outcome State Fault Refusal := .next (s.vector core 0x07)
/-- LUT (09 R246). -/
def execLut (core : Fin 16) (s : State) : Host.Outcome State Fault Refusal := .next (s.vector core 0x08)
/-- SOFTMAX (09 R247). -/
def execSoftmax (core : Fin 16) (s : State) : Host.Outcome State Fault Refusal := .next (s.vector core 0x09)
/-- REDUCE (09 R246). -/
def execReduce (core : Fin 16) (s : State) : Host.Outcome State Fault Refusal := .next (s.vector core 0x0A)
/-- MATVEC (09 R246). -/
def execMatvec (core : Fin 16) (s : State) : Host.Outcome State Fault Refusal := .next (s.vector core 0x0B)
/-- ARGMAX (09 R246). -/
def execArgmax (core : Fin 16) (s : State) : Host.Outcome State Fault Refusal := .next (s.vector core 0x0C)
/-- COMPARE (09 R246). -/
def execCompare (core : Fin 16) (s : State) : Host.Outcome State Fault Refusal := .next (s.vector core 0x0D)
/-- UPSAMPLE (09 R246). -/
def execUpsample (core : Fin 16) (s : State) : Host.Outcome State Fault Refusal := .next (s.vector core 0x0E)
/-- COPY (09 R246). -/
def execCopy (core : Fin 16) (s : State) : Host.Outcome State Fault Refusal := .next (s.vector core 0x0F)
/-- REQUANT (09 R246). -/
def execRequant (core : Fin 16) (s : State) : Host.Outcome State Fault Refusal := .next (s.vector core 0x10)

end Machine
end Sys2Proof
end

