-- ==== Sys2Proof/Machine/CoreRows.lean ====
section
/-!
DEFINITION. Slug ends, self-tests and retirement of the neural cores, and the ring and quoin commands of every requester (08 R223-R229; 07 R187-R199, R203, R204).
-/
namespace Sys2Proof
namespace Machine

/-! ### Slug ends -/

/-- Every engine of the core is idle. -/
def NeuralCore.enginesIdle (k : NeuralCore) : Bool :=
  k.drains.isEmpty && k.mats.isEmpty && k.posts.isEmpty && k.strms.isEmpty && k.job.isNone

/-- SLUG_OVERRUN (08 R224): 200 µs have passed since the first dispatch; at END with idle engines the slug has ended. -/
def execSlugOverrun (core : Fin 16) (s : State) : Host.Outcome State Fault Refusal :=
  let c := core.val
  let k := s.core c
  .next (if k.state ≠ .running ∨ k.started = none ∨ (k.ended && k.enginesIdle) = true then s else s.dropSlug c 5)

/-! ### Tests and retirement -/

/-- The core learns of its first pass, and the Roster's map and step cycle with it (10 R256, R278). -/
def State.coreLive (s : State) (c : Nat) : State :=
  { s with rs := { s.rs with live := if bit s.rs.live c then s.rs.live else s.rs.live + 2 ^ c, started := true } }

/-- The start-up test of a core runs: it has not been live since reset. -/
def State.inStartup (s : State) (c : Nat) : Bool :=
  (s.core c).state == .testing && !bit s.rs.live c && !bit s.nc.testing c

/-- Galley and formes are zero after the start-up or the full test (08 R226). -/
def State.zeroCore (s : State) (c : Nat) : State :=
  s.updCore c (fun k => { k with
    galley := [], wForme := [], aForme := [], vForme := [], pSlot := [], pFull := 0, plane := [], cur := [] })

/-- STARTUP_TEST_COMPLETE (08 R226). -/
def execStartupTestComplete (core : Fin 16) (passed : Bool) (s : State) : Host.Outcome State Fault Refusal :=
  let c := core.val
  .next <|
    if !s.inStartup c then s
    else if passed then
      (((s.zeroCore c).updCore c (fun k => { k with testBase := s.clk.ref })).coreLive c).coreFree c
    else s.retireCore c 1

/-- SHORT_TEST_COMPLETE (08 R227): a pass clears formes and planes and leaves the galley. -/
def execShortTestComplete (core : Fin 16) (passed : Bool) (s : State) : Host.Outcome State Fault Refusal :=
  let c := core.val
  .next <|
    if (s.core c).state ≠ .testing ∨ bit s.rs.live c = false ∨ bit s.nc.testing c = true then s
    else if passed then
      ((s.updCore c (fun k => { k with
        wForme := [], aForme := [], vForme := [], pSlot := [], pFull := 0, plane := [], cur := [] })).count (0x2870 + c) 4).coreFree c
    else s.retireCore c 2

/-- TEST_PERIOD_S. -/
def State.testPeriod (s : State) : Nat := s.num 0x2500 4 60

/-- SHORT_TEST_DEFERRED (08 R227): no gap in ten periods; once for this wait. -/
def execShortTestDeferred (core : Fin 16) (s : State) : Host.Outcome State Fault Refusal :=
  let c := core.val
  let k := s.core c
  .next <|
    if s.testPeriod = 0 ∨ k.deferred = true ∨ k.state = .retired ∨ k.state = .testing ∨ s.retired c = true then s
    else
      ((s.updCore c (fun k => { k with deferred := true })).count (0x2870 + c) 5).raise
        { code := 0x1706, unit := c, station := 255 }

/-- A write of 2500h:05: idle cores are retired at once, running ones at the end of their slug (08 R229). -/
def State.writeRetire (s : State) (mask : Nat) : State × Resp :=
  ((List.range 16).foldl (fun s c =>
    if !bit mask c || (s.core c).state == .retired then s
    else if (s.core c).state = .idle then s.retireCore c 6
    else s.updCore c (fun k => { k with retire := true })) s, .ok)

/-- RETIRE (08 R229). -/
def execRetire (mask : BitVec 16) (s : State) : Host.Outcome State Fault Refusal := .next (s.served 0x2500 (·.writeRetire mask.toNat))

/-- Any station has admission enabled. -/
def State.anyAdmit (s : State) : Bool := (List.range 32).any s.admits

/-- Start a long operation (16 R405). -/
def State.startLong (s : State) (code inst arg : Nat) : State :=
  { s with od := { s.od with longop := some { code := code, inst := inst, arg := arg, started := s.clk.ref } } }

/-- A write of 2500h:06; a core whose slug runs starts its test at the slug's end (08 R228). -/
def State.writeTest (s : State) (mask : Nat) : State × Resp :=
  if s.anyAdmit then (s, .abort 0x08000020)
  else
    let cs := (List.range 16).filter (fun c => bit mask c && !s.retired c)
    let s := s.startLong 6 255 mask
    let s := { s with nc := { s.nc with testing := (cs.map (fun c => 2 ^ c)).sum, failed := 0 } }
    (cs.foldl (fun s c => if (s.core c).state = .idle then s.setCore c .testing else s) s, .ok)

/-- TEST (08 R228). -/
def execTest (mask : BitVec 16) (s : State) : Host.Outcome State Fault Refusal := .next (s.served 0x2500 (·.writeTest mask.toNat))

/-- CORE_MEMORY_UNCORRECTABLE (08 R229): the core is retired at once, before any end of its slug. -/
def execCoreMemoryUncorrectable (core : Fin 16) (forme : Bool) (s : State) : Host.Outcome State Fault Refusal :=
  let c := core.val
  .next <|
    if s.retired c then s
    else (s.count 0x285A (if forme then 4 else 2)).retireCore c (if forme then 5 else 4)

/-! ### Ring commands -/

/-- The requester is a neural core. -/
def coreOf : Requester → Option (Fin 16)
  | .core c => some c
  | .hart _ _ => none
  | .press _ => none
  | .port _ => none
  | .intake _ => none
  | .pipeline _ => none
  | .meter _ => none
  | .roster _ => none
  | .codec _ _ => none
  | .mac _ => none
  | .gk => none

/-- RING CLAIM of a sequencer: FULL and error responses abort the slug, a claim that does not fit a block ring waits (07 R191, 08 R221). -/
def State.coreClaim (s : State) (core : Fin 16) (v : Nat) : State :=
  let c := core.val
  let r := bits v 100 16
  let n := bits v 0 32
  match s.claimOn (.core core) r n false with
  | (s, .ok, start) => (s.updCore c (fun k => { k with claims := (r, start, n) :: k.claims })).nextCmd c
  | (s, .wouldBlock, _) =>
    ({ s with rg := { s.rg with blocked := s.rg.blocked ++ [{ ring := r, req := .core core, len := n }] } } : State).updCore c
      (fun k => { k with waiting := true })
  | (s, .full, _) => s.abortSlug c 4
  | (s, .refused, _) => s.abortSlug c 7
  | (s, .damaged, _) => s.abortSlug c 7
  | (s, .otherProducer, _) => s.abortSlug c 7

/-- Go on after a ring operation, or abort for its error response. -/
def State.afterRing (s : State) (c : Nat) (st : RgStatus) : State := if rgError st then s.abortSlug c 7 else s.nextCmd c

/-- Drop the oldest claim on a ring from a core's list. -/
def dropClaim (l : List (Nat × Nat × Nat)) (r : Nat) : List (Nat × Nat × Nat) :=
  match l.reverse.find? (fun x => x.1 == r) with
  | some x => (l.reverse.erase x).reverse
  | none => l

/-- RING_CLAIM (07 R187, R191). -/
def execRingClaim (req : Requester) (ring : BitVec 16) (len : BitVec 32) (s : State) : Host.Outcome State Fault Refusal :=
  .next <|
    match coreOf req with
    | some c => s.command c ⟨0x09, some 1⟩ (fun s v => s.coreClaim c v)
    | none =>
      let (s, st, start) := s.claimOn req ring.toNat len.toNat false
      if st = .wouldBlock ∧ softRequester req = none then
        { s with rg := { s.rg with blocked := s.rg.blocked ++ [{ ring := ring.toNat, req := req, len := len.toNat }] } }
      else s.rgResult req st start

/-- RING_COMMIT (07 R187). -/
def execRingCommit (req : Requester) (ring : BitVec 16) (s : State) : Host.Outcome State Fault Refusal :=
  .next <|
    match coreOf req with
    | some c => s.command c ⟨0x09, some 2⟩ (fun s v =>
        let r := bits v 100 16
        let (s, st) := s.commitOn req r
        (s.updCore c.val (fun k => { k with claims := if st = .ok then dropClaim k.claims r else k.claims })).afterRing c.val st)
    | none =>
      let (s, st) := s.commitOn req ring.toNat
      s.rgResult req st (s.ring ring.toNat).head

/-- RING_ABANDON (07 R187). -/
def execRingAbandon (req : Requester) (ring : BitVec 16) (s : State) : Host.Outcome State Fault Refusal :=
  .next <|
    match coreOf req with
    | some c => s.command c ⟨0x09, some 3⟩ (fun s v =>
        let r := bits v 100 16
        let (s, st) := s.abandonOn req r
        (s.updCore c.val (fun k => { k with claims := if st = .ok then k.claims.filter (fun x => x.1 != r) else k.claims })).afterRing c.val st)
    | none =>
      let (s, st) := s.abandonOn req ring.toNat
      s.rgResult req st (s.ring ring.toNat).head

/-- RING_RELEASE (07 R187). -/
def execRingRelease (req : Requester) (ring : BitVec 16) (len : BitVec 32) (s : State) : Host.Outcome State Fault Refusal :=
  .next <|
    match coreOf req with
    | some c => s.command c ⟨0x09, some 4⟩ (fun s v =>
        let (s, st) := s.releaseOn req (bits v 100 16) (bits v 0 32)
        s.afterRing c.val st)
    | none =>
      let (s, st) := s.releaseOn req ring.toNat len.toNat
      s.rgResult req st (s.ring ring.toNat).head

/-- BLOCKED_CLAIM_RETRY (07 R191): the oldest waiting claim of a ring is tried again; granted, refused, or left waiting. -/
def execBlockedClaimRetry (ring : BitVec 16) (s : State) : Host.Outcome State Fault Refusal :=
  .next <|
    match s.rg.blocked.find? (fun b => b.ring == ring.toNat) with
    | none => s
    | some b =>
      match s.claimOn b.req b.ring b.len true with
      | (_, .wouldBlock, _) => s
      | (s, st, start) =>
        let s := { s with rg := { s.rg with blocked := s.rg.blocked.erase b } }
        match coreOf b.req with
        | none => s
        | some c =>
          if st = .ok then
            s.updCore c.val (fun k => ({ k with claims := (b.ring, start, b.len) :: k.claims } : NeuralCore).resume)
          else s.abortSlug c.val (if st = .full then 4 else 7)

/-- CLAIM_LIMIT_EXPIRY (07 R203): a blocked claim from a slug has outlasted its LIMIT. -/
def execClaimLimitExpiry (core : Fin 16) (s : State) : Host.Outcome State Fault Refusal :=
  .next <|
    match s.rg.blocked.find? (fun b => b.req == .core core) with
    | some b => s.breach core.val b.ring
    | none => s

/-! ### Quoin commands -/

/-- Go on after a quoin operation of a sequencer, or abort for its error response. -/
def State.afterQuoin (s : State) (c : Nat) (st : QnStatus) : State := if qnError st then s.abortSlug c 7 else s.nextCmd c

/-- QUOIN_SIGNAL (07 R196). -/
def execQuoinSignal (req : Requester) (quoin : BitVec 12) (n : BitVec 32) (s : State) : Host.Outcome State Fault Refusal :=
  .next <|
    match coreOf req with
    | some c => s.command c ⟨0x0A, some 1⟩ (fun s v =>
        let (s, st) := s.signalBy req (bits v 100 12) (bits v 0 32)
        s.afterQuoin c.val st)
    | none =>
      let (s, st) := s.signalBy req quoin.toNat n.toNat
      s.qnResult req quoin.toNat st

/-- QUOIN_RESET (07 R196). -/
def execQuoinReset (req : Requester) (quoin : BitVec 12) (value : BitVec 32) (s : State) : Host.Outcome State Fault Refusal :=
  .next <|
    match coreOf req with
    | some c => s.command c ⟨0x0A, some 2⟩ (fun s v =>
        let (s, st) := s.resetBy req (bits v 100 12) (bits v 0 32)
        s.afterQuoin c.val st)
    | none =>
      let (s, st) := s.resetBy req quoin.toNat value.toNat
      s.qnResult req quoin.toNat st

/-- QUOIN_POLL (07 R196). -/
def execQuoinPoll (req : Requester) (quoin : BitVec 12) (thresh : BitVec 32) (s : State) : Host.Outcome State Fault Refusal :=
  let (s, st) := s.pollBy req quoin.toNat thresh.toNat
  .next (s.qnResult req quoin.toNat st)

/-- QUOIN_WAIT (07 R197): a sequencer's command, or the Roster's own wait; no other requester may wait. -/
def execQuoinWait (req : Requester) (quoin : BitVec 12) (thresh : BitVec 32) (s : State) : Host.Outcome State Fault Refusal :=
  .next <|
    match coreOf req with
    | some c => s.command c ⟨0x0A, some 4⟩ (fun s v =>
        match s.waitBy req (bits v 100 12) (bits v 0 32) with
        | (s, _, true) => s.updCore c.val (fun k => { k with waiting := true })
        | (s, st, false) => s.afterQuoin c.val st)
    | none =>
      let (s, st, _) := s.waitBy req quoin.toNat thresh.toNat
      s.qnResult req quoin.toNat st

/-- WAIT_LIMIT_EXPIRY (07 R203): a parked wait from a slug expires unmet. -/
def execWaitLimitExpiry (core : Fin 16) (s : State) : Host.Outcome State Fault Refusal :=
  .next <|
    match s.qn.parked.find? (fun p => p.who == .core core) with
    | some p => s.breach core.val p.quoin
    | none => s

/-- A wait parked on a quoin that can answer no more gets an error response, which aborts its slug (06 R172, 07 R195). -/
def State.failParked (s : State) (q : Nat) : State :=
  let x := s.quoin q
  if x.valid && !x.damaged then s.answerParked q
  else
    let hit := s.qn.parked.filter (fun p => p.quoin == q)
    let s := { s with qn := { s.qn with parked := s.qn.parked.filter (fun p => p.quoin != q) } }
    hit.foldl (fun s p => match coreOf p.who with
      | some c => s.abortSlug c.val 7
      | none => s) s

/-- QUOIN_WRITE (07 R195): a direct 8-byte write sets every field and clears DAMAGED; OWNER must be the writer, and the quoin in its range. -/
def execQuoinWrite (req : Requester) (quoin : Fin 4096) (data : List Byte) (s : State) : Host.Outcome State Fault Refusal :=
  let q := quoin.val
  let st := s.attrib req
  let x := quoinOf (leNat data)
  .next <|
    if s.quoinIn st q = false then
      let t := s.quoin q
      let s := s.violation req st 9 (0x20200000 + q * 8) 1 8 (if t.valid then t.owner else 63) q
      { s with out := { s.out with err := true } }
    else if data.length = 8 ∧ x.owner = st then
      let s := (s.putQuoin q x).failParked q
      { s with out := { s.out with err := false } }
    else { s with out := { s.out with err := true } }

/-- The word that a read of QN_NFY returns, and the queue after it (07 Table 7-8). -/
def popNotify (n : NotifyQ) : Nat × NotifyQ :=
  match n.q with
  | [] => (bitIf n.ovf 62, { n with ovf := false })
  | q :: rest => (2 ^ 63 + bitIf n.ovf 62 + q, { q := rest, ovf := false })

/-- QN_NFY_READ (07 R198): pops a quoin number and clears OVF; another station's queue is refused (11 Table 11-5 check 9). -/
def execQnNfyRead (req : Requester) (station : Fin 32) (s : State) : Host.Outcome State Fault Refusal :=
  let t := station.val
  let st := s.attrib req
  .next <|
    if st ≠ t then
      let s := s.violation req st 9 (0x10150100 + 8 * t) 0 8 t 0
      { s with out := { s.out with err := true } }
    else
      let (v, n) := popNotify (s.qn.nfy.at {} t)
      { s with qn := { s.qn with nfy := s.qn.nfy.put t n }, out := { s.out with rdata := leBytes 8 v, err := false } }

end Machine
end Sys2Proof
end

