-- ==== Sys2Proof/Machine/Stream.lean ====
section
/-!
DEFINITION. The Stream engine: jobs, index entries and the runs that they read into the galley (07 R190, R200-R202).
-/
namespace Sys2Proof
namespace Machine

/-- A job starts: BASE and size of its rings are latched, and entries are taken from the index ring's TAIL (07 R190, R201). -/
def State.startJob (s : State) (c v : Nat) : State :=
  let isRing := bit v 119
  let src := bits v 0 40
  let sr := s.ring (src % 65536)
  let ir := s.ring (bits v 84 16)
  s.updCore c (fun k => { k with job := some {
    isRing := isRing, src := if isRing then src % 65536 else src, base := if isRing then sr.base else src, size := sr.size
    iring := bits v 84 16, ibase := ir.base, isize := ir.size, pos := ir.tail, count := bits v 64 20
    dest := bits v 40 24, quoin := bits v 100 12 } })

/-- The next queued STREAM command starts once the engine is idle (08 R219). -/
def State.nextJob (s : State) (c : Nat) : State :=
  match (s.core c).job, (s.core c).strms with
  | none, q :: rest => (s.updCore c (fun k => { k with strms := rest })).startJob c (queuedWord q)
  | _, _ => s

/-- STREAM (08 R220, R221): DEST must be 64-byte aligned and in the galley; the job starts, or waits in the engine's queue. -/
def execStream (core : Fin 16) (s : State) : Host.Outcome State Fault Refusal :=
  let c := core.val
  .next (s.command core ⟨0x06, none⟩ (fun s v =>
    let dest := bits v 40 24
    if dest % 64 ≠ 0 then s.abortSlug c 2
    else match s.galleyFault c dest 1 with
      | some f => s.galleyAbort c f
      | none =>
        let k := s.core c
        if 4 ≤ k.strms.length then s
        else ((s.updCore c (fun k => { k with strms := k.strms ++ [queued k.pc v] })).nextCmd c).nextJob c))

/-- Change the job of a core. -/
def State.updJob (s : State) (c : Nat) (f : StreamJob → StreamJob) : State :=
  s.updCore c (fun k => { k with job := k.job.map f })

/-- An index entry has been dealt with: four bytes of the index ring are released (07 R201). -/
def State.releaseEntry (s : State) (core : Fin 16) (ring : Nat) : State := (s.releaseOn (.core core) ring 4).1

/-- The job has ended and its reads are in: it is counted and the next one starts (07 R201). -/
def State.endJob (s : State) (c : Nat) : State :=
  match (s.core c).job with
  | some j =>
    if j.done && j.runs.isEmpty then ((s.updCore c (fun k => { k with job := none })).count 0x2862 1).nextJob c else s
  | none => s

/-- A defective entry stops the job and aborts the slug (07 R202). -/
def State.badEntry (s : State) (c : Nat) : State :=
  ((s.count 0x2862 3).raise { code := 0x1603, unit := c, station := (s.core c).station }).abortSlug c 2

/-- An error response stops the job and aborts the slug (07 R202). -/
def State.jobError (s : State) (c : Nat) : State := (s.count 0x2862 4).abortSlug c 7

/-- Pieces of a run from an offset of the source (07 R185, R200). -/
def StreamJob.piece (j : StreamJob) (off n : Nat) : List (Nat × Nat) :=
  if j.isRing then ringPieces j.base j.size off n else [(j.base + off, n)]

/-- The address window of a base-addressed source, as first and last address (07 R202). -/
def State.sourceWindow (s : State) (st a : Nat) : Option (Nat × Nat) :=
  ((s.windows st).find? (fun w => w.holds a && w.r)).map (fun w => (w.base, w.last))

/-- The run stays inside the source's address window (07 R202). -/
def State.runInside (s : State) (st : Nat) (j : StreamJob) (ps : List (Nat × Nat)) : Bool :=
  if j.isRing then true
  else match s.sourceWindow st j.base with
    | none => true
    | some (lo, hi) => ps.all (fun p => decide (lo ≤ p.1) && decide (p.1 + p.2 ≤ hi + 1))

/-- LENGTH of an entry in bytes; 0 is 256 units. -/
def entryLen (e : Nat) : Nat := (if bits e 4 8 = 0 then 256 else bits e 4 8) * 64

/-- A data entry: its reads are issued (07 R200, R201). -/
def State.takeRun (s : State) (core : Fin 16) (j : StreamJob) (e : Nat) : State :=
  let c := core.val
  let k := s.core c
  let off := bits e 12 20 * 64
  let n := entryLen e
  let ent := bits e 0 4
  if ent ≠ 0 ∧ bit k.strideOk ent = false then s.badEntry c
  else
    let w := k.stride.at 0 ent
    let rows := if ent = 0 then 1 else bits w 20 12 + 1
    let pitch := bits w 0 20 * 64
    let ps := (List.range rows).flatMap (fun r => j.piece (off + r * pitch) n)
    let len := rows * n
    match s.galleyFault c j.dest len with
    | some (2, _) => s.badEntry c
    | some f => s.galleyAbort c f
    | none =>
      if !s.runInside k.station j ps then s.badEntry c
      else
        let taken := j.taken + 1
        s.updJob c (fun j => { j with
          pos := (j.pos + 4) % 2 ^ 32, taken := taken, dest := j.dest + len
          runs := j.runs ++ [{ pieces := ps, dest := j.dest }], done := decide (j.count ≠ 0 ∧ j.count ≤ taken) })

/-- A control entry: SIGNAL once everything earlier is in the galley, DEST, or END (07 Table 7-6, R201). -/
def State.takeControl (s : State) (core : Fin 16) (j : StreamJob) (e : Nat) : State :=
  let c := core.val
  let go (s : State) (f : StreamJob → StreamJob) : State :=
    let taken := j.taken + 1
    let s := s.updJob c (fun j => f { j with pos := (j.pos + 4) % 2 ^ 32, taken := taken, done := decide (j.count ≠ 0 ∧ j.count ≤ taken) })
    (s.releaseEntry core j.iring).endJob c
  let op := bits e 4 8
  if op = 0 then
    if !j.runs.isEmpty then s
    else match s.signalBy (.core core) j.quoin 1 with
      | (s, st) => if qnError st then s.jobError c else go s id
  else if op = 1 then go s (fun j => { j with dest := bits e 12 20 * 64 })
  else if op = 2 then go s (fun j => { j with done := true })
  else s.badEntry c

/-- STREAM_ENTRY (07 R201): the next committed entry of the index ring is taken. -/
def execStreamEntry (core : Fin 16) (s : State) : Host.Outcome State Fault Refusal :=
  let c := core.val
  let k := s.core c
  .next <|
    match k.state, k.job with
    | .running, some j =>
      if j.done ∨ after 32 (s.ring j.iring).head j.pos = false then s
      else
        match s.readPieces (.core core) k.pc (ringPieces j.ibase j.isize j.pos 4) with
        | (s, none) => s.jobError c
        | (s, some b) =>
          let e := leNat b
          if bits e 0 4 = 15 then s.takeControl core j e else s.takeRun core j e
    | _, _ => s

/-- Read the pieces of a run; the memory's error falls on the first of them. -/
def State.readRun (s : State) (core : Fin 16) (err : MemErr) : List (Nat × Nat) → State × Option (List Byte)
  | [] => (s, some [])
  | (a, n) :: rest =>
    match s.fabric (.core core) a (.read n) err 0 (s.core core.val).pc with
    | (s, none) => (s, none)
    | (s, some x) =>
      match s.readPieces (.core core) (s.core core.val).pc rest with
      | (s, none) => (s, none)
      | (s, some y) => (s, some (x ++ y))

/-- STREAM_READ_COMPLETE (07 R201, R202): the data of one outstanding run enters the galley and its entry is released; reads may complete in any order. -/
def execStreamReadComplete (core : Fin 16) (run : Nat) (err : MemErr) (s : State) : Host.Outcome State Fault Refusal :=
  let c := core.val
  let k := s.core c
  .next <|
    match k.state, k.job with
    | .running, some j =>
      match j.runs[run]? with
      | none => s
      | some r =>
        match s.readRun core err r.pieces with
        | (s, none) => s.jobError c
        | (s, some x) =>
          let s := s.touch c [{ engine := engStream, space := 0, first := r.dest, len := x.length, write := true }]
          let s := (s.putGalley c r.dest x).updJob c (fun j => { j with runs := j.runs.eraseIdx run })
          (s.releaseEntry core j.iring).endJob c
    | _, _ => s

end Machine
end Sys2Proof
end

