-- ==== Sys2Proof/Machine/Roster.lean ====
section
/-!
DEFINITION. The Roster: its step cycle, slug completions, sequence creation, deadlines and retirements (10 R255, R259-R272).
-/
namespace Sys2Proof
namespace Machine

/-! ### Slug completion -/

/-- The position view has reached a sequence's DEADLINE (10 R261). -/
def State.deadlineDue (s : State) (e : Nat) : Bool :=
  let q := s.seq e
  decide (0 ≤ diff48 (s.viewAt (s.stClock q.station)).ticks q.deadline)

/-- Carry ring of a core (10 R258). -/
def State.carryRing (s : State) (p c : Nat) : Nat := (s.pkRing p + 3 * c + 1) % 65536
/-- Verdict ring of a core. -/
def State.verdictRing (s : State) (p c : Nat) : Nat := (s.pkRing p + 3 * c + 2) % 65536
/-- Index ring of a core. -/
def State.indexRing (s : State) (p c : Nat) : Nat := (s.pkRing p + 3 * c) % 65536

/-- Bytes that a ring's producer has committed from a noted start on. -/
def committedFrom (d : Ring) (start : Nat) : Nat :=
  let n := (d.head + 2 ^ 32 - start) % 2 ^ 32
  if n < 2 ^ 31 then n else 0

/-- The verdict record of a LAST slug, read and released by the Roster; none where no record was committed; the Bool says that the read met an error response (10 R258, R265, 11 Table 11-6). -/
def State.takeRecord (s : State) (c : Nat) (sl : Slug) : State × Option Nat × Bool :=
  let r := s.verdictRing sl.package c
  if committedFrom (s.ring r) sl.vrStart < 16 then (s, none, false)
  else if h : sl.station < 32 then
    let req : Requester := .roster ⟨sl.station, h⟩
    match s.readPieces req 0 (s.ringBytes r sl.vrStart 16) with
    | (s, some b) => ((s.releaseOn req r 16).1, some (field b 0 1), false)
    | (s, none) => ((s.releaseOn req r 16).1, none, true)
  else (s, none, false)

/-- A verdict in the encoding of R9; PENDING is none. -/
def verdictOf (x : Nat) : Option Verdict :=
  match x with | 1 => some .pass | 2 => some .fail | 3 => some .unseen | _ => none

/-- The carry record that a slug committed, used by each of its sequences that has not ended (10 R259, R261). -/
def State.noteCarry (s : State) (c : Nat) (sl : Slug) : State :=
  let r := s.carryRing sl.package c
  let n := committedFrom (s.ring r) sl.crStart
  if n = 0 then s
  else
    let live := (sl.seqs.map Prod.snd).filter (· ≠ seqGone)
    let recs : List WinRec := live.map (fun e => { ring := r, start := sl.crStart, len := n, seq := e })
    let recs := if recs = [] then [{ ring := r, start := sl.crStart, len := n, seq := seqGone, open_ := false }] else recs
    let s := { s with rs := { s.rs with wins := s.rs.wins ++ recs } }
    let s := live.foldl (fun s e => s.updSeq e (fun q => { q with carryNew := q.carryNew.put sl.part (c, sl.crStart) })) s
    s.drainRing sl.station r s.rs.wins.length

/-- One window of a completed slug (10 R261, R265, R268). -/
def State.partDone (s : State) (c : Nat) (sl : Slug) (record : Option Nat) (denied : Bool) (slot e : Nat) : State :=
  if e = seqGone then
    if sl.last then (s.count 0x2880 0x0A).raise { code := 0x1805, station := sl.station } else s
  else
    let q := s.seq e
    let s := s.updSeq e (fun q => { q with partsRun := q.partsRun - 1 })
    if q.partsRun ≤ 1 ∧ q.partsLeft = [] then
      if sl.last then
        if s.deadlineDue e then
          ((s.endSeq e .deadline).count 0x2880 0x0A).raise { code := 0x1805, station := sl.station }
        else if denied then s.endSeq e .denied
        else match record.bind (fun x => verdictOf (bits x (2 * slot) 2)) with
          | some v => s.endSeq e (.verdict v)
          | none => s.endSeq e .noVerdict
      else
        let t := s.template q.package q.variant q.model (q.step + 1)
        s.updSeq e (fun q => { q with
          state := .ready, step := q.step + 1, partsLeft := List.range t.parts, again := [], carry := q.carryNew, carryNew := []
          homeCore := c, homeSlot := slot, homeValid := true, batch := 0, slot := 0 })
    else s.updSeq e (fun q => { q with state := if q.partsRun = 0 then .ready else .running })

/-- SLUG_COMPLETE (08 R223, 10 R265): END has been executed and every engine is idle; the operands are the errors corrected in galley and formes meanwhile (06 Table 6-8). -/
def execSlugComplete (core : Fin 16) (galleyFixes formeFixes : Nat) (s : State) : Host.Outcome State Fault Refusal :=
  let c := core.val
  let k := s.core c
  .next <|
    if k.state ≠ .running ∨ k.ended = false ∨ k.enginesIdle = false then s
    else
      let s := ((s.countN 0x285A 1 galleyFixes).countN 0x285A 3 formeFixes).count (0x2870 + c) 1
      let sl := s.rs.slug.at ({} : Slug) c
      let s := s.stopEngines c
      let s := { s with rs := { s.rs with slug := s.rs.slug.put c {} } }
      let (s, record, denied) := if sl.last then s.takeRecord c sl else (s, none, false)
      let s := s.noteCarry c sl
      let s := sl.seqs.foldl (fun s x => s.partDone c sl record denied x.1 x.2) s
      s.coreFree c

/-! ### Index programs -/

/-- An index entry of a run (07 Table 7-6). -/
def runEntry (off len stride : Nat) : Nat := off % 2 ^ 20 * 2 ^ 12 + len / 64 % 256 * 16 + stride

/-- One run of a ring as index entries: two where it crosses the ring's end (10 R255). -/
def ringRun (d : Ring) (streamBase pos len : Nat) : List Nat :=
  (ringPieces d.base d.size pos len).map (fun p => runEntry ((p.1 - streamBase) / 64) p.2 0)

/-- The entries written for a program entry anchored to a record (10 R255). -/
def anchored (d : Ring) (streamBase start e rows pitch : Nat) : List Nat :=
  let pos := start + bits e 12 20 * 64
  let len := entryLen e
  let k := bits e 0 4
  if k = 0 then ringRun d streamBase pos len
  else if pos % d.size + (rows - 1) * pitch + len ≤ d.size then [runEntry ((d.base + pos % d.size - streamBase) / 64) len k]
  else (List.range rows).flatMap (fun r => ringRun d streamBase (pos + r * pitch) len)

/-- The index program of one slot for a sequence (10 R255). -/
def State.program (s : State) (c : Nat) (t : Template) (part m : Nat) (e : Nat) : List Nat :=
  let q := s.seq e
  let sb := s.pkStream q.package
  (List.range t.progLen).flatMap (fun i =>
    let v := s.peekNat (t.prog + (part * 4 + m) * t.progLen * 8 + 8 * i) 8
    let w := bits v 0 32
    let st := (s.core c).stride.at 0 (bits w 0 4)
    let rows := bits st 20 12 + 1
    let pitch := bits st 0 20 * 64
    match bits v 62 2 with
    | 1 => anchored (s.ring q.recRing) sb (q.recStart + 64) w rows pitch
    | 2 =>
      let (cc, start) := q.carry.at (0, 0) (bits v 58 4)
      anchored (s.ring (s.carryRing q.package cc)) sb start w rows pitch
    | _ => [w])

/-- Write the programs of every slot into the core's index ring (10 R255, R264); false where one met an error response (11 Table 11-6). -/
def State.writePrograms (s : State) (c : Nat) (t : Template) (part st : Nat) (slots : List (Nat × Nat)) : State × Bool :=
  match slots with
  | [] => (s, true)
  | (_, e0) :: _ =>
    let r := s.indexRing (s.seq e0).package c
    (List.range t.width).foldl (fun (y : State × Bool) m =>
      let s := y.1
      let x := match slots.find? (fun y => y.1 == m) with
        | some (_, e) => s.program c t part m e
        | none => s.program c t part 0 e0
      if y.2 = false ∨ x = [] then y
      else if h : st < 32 then
        let (s, status) := s.putRecord (.roster ⟨st, h⟩) r (x.flatMap (leBytes 4))
        (s, status != .refused)
      else y) (s, true)

/-! ### The make-up list -/

/-- A group of a make-up list: sequences that run one part of one step together. -/
structure Group where
  members : List Nat
  part : Nat
  dist : Int
  station : Nat
  window : Nat
  deriving DecidableEq, Repr

/-- Ticks from the view to a sequence's DEADLINE. -/
def State.distance (s : State) (e : Nat) : Int :=
  let q := s.seq e
  diff48 q.deadline (s.viewAt (s.stClock q.station)).ticks

/-- Insert by an order. -/
def insertBy {α : Type} (le : α → α → Bool) (x : α) : List α → List α
  | [] => [x]
  | y :: r => if le x y then x :: y :: r else y :: insertBy le x r

/-- Sort by an order. -/
def sortBy {α : Type} (le : α → α → Bool) (l : List α) : List α := l.foldr (insertBy le) []

/-- Groups of a list: up to `n` each; `fuel` bounds the walk. -/
def chunks (n : Nat) : Nat → List Nat → List (List Nat)
  | 0, _ => []
  | _ + 1, [] => []
  | fuel + 1, l => l.take n :: chunks n fuel (l.drop n)

/-- The template of a sequence's current step. -/
def State.seqTemplate (s : State) (e : Nat) : Template :=
  let q := s.seq e
  s.template q.package q.variant q.model q.step

/-- Two sequences may share a slug (10 R262; DEDUCED 21: the same station and model too). -/
def sameKey (a b : SeqEntry) : Bool :=
  a.station == b.station && a.package == b.package && a.variant == b.variant && a.model == b.model && a.step == b.step

/-- A group with its sort keys. -/
def State.mkGroup (s : State) (es : List Nat) (part : Nat) : Group :=
  { members := es, part := part
    dist := (es.map s.distance).foldl min ((es.map s.distance).headD 0)
    station := (s.seq (es.headD 0)).station
    window := (es.map (fun e => (s.seq e).window)).foldl min 31 }

/-- Groups by earliest deadline, then station, then window (10 R262). -/
def groupLe (a b : Group) : Bool :=
  decide (a.dist < b.dist) || (a.dist == b.dist && (decide (a.station < b.station)
    || (a.station == b.station && decide (a.window ≤ b.window))))

/-- Sequences with parts to place whose view is valid (10 R278). -/
def State.waitingSeqs (s : State) : List Nat :=
  (s.rs.seq.filter (fun x => x.2.state != .free && !x.2.partsLeft.isEmpty && s.viewOk (s.stClock x.2.station))).map Prod.fst

/-- Groups of the sequences whose batch is formed already. -/
def State.oldGroups (s : State) (es : List Nat) : List Group :=
  let bs := (es.map (fun e => (s.seq e).batch)).eraseDups
  bs.flatMap (fun b =>
    let mem := es.filter (fun e => (s.seq e).batch == b)
    (List.range 16).filterMap (fun p =>
      let m := mem.filter (fun e => (s.seq e).partsLeft.contains p)
      if m = [] then none else some (s.mkGroup m p)))

/-- Groups of the sequences whose step has not begun: sorted by deadline and split by WIDTH; `fuel` bounds the keys. -/
def State.newGroups (s : State) : Nat → List Nat → List Group
  | 0, _ => []
  | _ + 1, [] => []
  | fuel + 1, e :: r =>
    let same := (e :: r).filter (fun x => sameKey (s.seq x) (s.seq e))
    let rest := (e :: r).filter (fun x => !sameKey (s.seq x) (s.seq e))
    let t := s.seqTemplate e
    let sorted := sortBy (fun a b => decide (s.distance a ≤ s.distance b)) same
    ((chunks (max 1 t.width) sorted.length sorted).flatMap (fun m => (List.range t.parts).map (s.mkGroup m)))
      ++ s.newGroups fuel rest

/-- Cores that take a slug now: live, idle, with no test due to run first. -/
def State.idleCores (s : State) : List Nat :=
  (List.range 16).filter (fun c => (s.core c).state == .idle && bit s.rs.live c)

/-- Home slots that a group fits on a core: distinct, and within WIDTH (10 R263 rule 1). -/
def State.fitsHome (s : State) (g : Group) (t : Template) (c : Nat) : Bool :=
  g.members.all (fun e => (s.seq e).homeValid && (s.seq e).homeCore == c && decide ((s.seq e).homeSlot < t.width)
      && ((s.seq e).batch == 0 || (s.seq e).slot == (s.seq e).homeSlot))
    && decide (((g.members.map (fun e => (s.seq e).homeSlot)).eraseDups).length = g.members.length)

/-- The core and form of a group; none while it must wait (10 Table 10-6). -/
def State.placement (s : State) (g : Group) (idle : List Nat) : Option (Nat × Bool × Bool) :=
  let t := s.seqTemplate (g.members.headD 0)
  let cands := (s.candidates t).filter (fun c => idle.contains c)
  let warm (c : Nat) : Bool := s.rs.wset.at 0 (c * 32 + g.station) == t.wset + 1
  match cands.find? (s.fitsHome g t) with
  | some c => some (c, true, warm c)
  | none =>
    match cands.find? warm with
    | some c => some (c, false, true)
    | none => cands.head?.map (fun c => (c, false, false))

/-- Address of the list directory's entry for a part, core and form (10 R254). -/
def dirEntry (t : Template) (part c form : Nat) : Nat := t.dir + ((16 * part + c) * 4 + form) * 8

/-- Command list address for a part, core and form; an entry of 0 falls back to form 0 (10 R254). -/
def State.listAddr (s : State) (t : Template) (part c form : Nat) : Nat :=
  let at_ (f : Nat) : Nat := s.peekNat (dirEntry t part c f) 8
  if at_ form = 0 then at_ 0 else at_ form

/-- The list form of a group: bit 0 for its home slots, bit 1 for a warm core; a part that runs again takes form 0 (10 R263, R271). -/
def State.formOf (s : State) (g : Group) (home warm : Bool) : Nat :=
  if g.members.any (fun e => (s.seq e).again.contains g.part) then 0 else (if home then 1 else 0) + (if warm then 2 else 0)

/-- What the Roster reads of the package before it dispatches a group: variant entry, model entry, template, directory entry and index programs (10 R253-R255, R264). -/
def State.groupReads (s : State) (g : Group) (c : Nat) (home warm : Bool) : List (Nat × Nat) :=
  let q := s.seq (g.members.headD 0)
  let t := s.seqTemplate (g.members.headD 0)
  ([(s.hdr q.package 64 8 + 32 * q.variant, 32), (s.pkVar q.package q.variant 16 8 + 16 * q.model, 16),
    (s.templateAddr q.package q.variant q.model q.step, 64), (dirEntry t g.part c (s.formOf g home warm), 8)]
    ++ (List.range t.width).map (fun m => (t.prog + (g.part * 4 + m) * t.progLen * 8, t.progLen * 8))).filter (fun x => x.2 != 0)

/-- The Referee grants the Roster what it reads for a group, as its station's (11 R285, R287); false on an error response. -/
def State.readGroup (s : State) (g : Group) (c : Nat) (home warm : Bool) : State × Bool :=
  if h : g.station < 32 then
    let (s, x) := s.readPieces (.roster ⟨g.station, h⟩) 0 (s.groupReads g c home warm)
    (s, x.isSome)
  else (s, false)

/-- The slots of a group's members, in order. -/
def State.slotsOf (s : State) (g : Group) (home : Bool) : List (Nat × Nat) :=
  let fresh := (s.seq (g.members.headD 0)).batch = 0
  let slotOf (i e : Nat) : Nat := if fresh then (if home then (s.seq e).homeSlot else i) else (s.seq e).slot
  sortBy (fun (a b : Nat × Nat) => decide (a.1 ≤ b.1)) (g.members.zipIdx.map (fun x => (slotOf x.2 x.1, x.1)))

/-- Hand a core the slug of a group whose index programs are written (10 R263, R264). -/
def State.dispatchGroup (s : State) (g : Group) (c : Nat) (home warm : Bool) : State :=
  let e0 := g.members.headD 0
  let q0 := s.seq e0
  let t := s.seqTemplate e0
  let fresh := q0.batch = 0
  let id := if fresh then s.rs.batches + 1 else q0.batch
  let slots := s.slotsOf g home
  let form := s.formOf g home warm
  let s := { s with rs := { s.rs with batches := if fresh then s.rs.batches + 1 else s.rs.batches } }
  let sl : Slug :=
    { on := true, station := g.station, package := q0.package, variant := q0.variant, model := q0.model, step := q0.step, part := g.part
      seqs := slots, last := t.last
      crStart := (s.ring (s.carryRing q0.package c)).claim, vrStart := (s.ring (s.verdictRing q0.package c)).claim }
  let s := { s with rs := { s.rs with
    slug := s.rs.slug.put c sl
    wset := s.rs.wset.put (c * 32 + g.station) (t.wset + 1)
    seq := s.rs.seq.map (fun (x : Nat × SeqEntry) =>
      if x.2.station = g.station ∧ x.2.homeCore = c then (x.1, { x.2 with homeValid := false }) else x) } }
  let s := slots.foldl (fun s x => s.updSeq x.2 (fun q => { q with
    state := .running, partsRun := q.partsRun + 1, partsLeft := q.partsLeft.erase g.part, batch := id, slot := x.1 })) s
  s.startSlug c g.station ((slots.map (fun x => 2 ^ x.1)).sum) (s.listAddr t g.part c form)

/-- Place a group on a core: the Roster reads what it needs, writes the index programs and dispatches (10 R264); an error response ends the group's sequences instead, their windows UNSEEN (11 Table 11-6). The Bool says whether the slug was dispatched. -/
def State.placeGroup (s : State) (g : Group) (c : Nat) (home warm : Bool) : State × Bool :=
  let refuse (s : State) : State × Bool := (g.members.foldl (fun s e => s.endSeq e .denied) s, false)
  match s.readGroup g c home warm with
  | (s, false) => refuse s
  | (s, true) =>
    match s.writePrograms c (s.seqTemplate (g.members.headD 0)) g.part g.station (s.slotsOf g home) with
    | (s, false) => refuse s
    | (s, true) => (s.dispatchGroup g c home warm, true)

/-- Build and dispatch: the state, slugs placed, idle cores left, and whether a group was left unplaced; sequences that ended on the way are passed over (10 R262). -/
def State.build (s : State) : List Group → List Nat → Nat → State × Nat × List Nat × Bool
  | [], idle, n => (s, n, idle, false)
  | g :: r, idle, n =>
    let g := { g with members := g.members.filter (fun e => (s.seq e).state != .free) }
    if g.members = [] then s.build r idle n
    else if n = 64 then (s, n, idle, true)
    else match s.placement g idle with
      | none =>
        let (s, n, idle, _) := s.build r idle n
        (s, n, idle, true)
      | some (c, home, warm) =>
        match s.placeGroup g c home warm with
        | (s, true) => s.build r (idle.erase c) (n + 1)
        | (s, false) => s.build r idle n

/-- Start due short tests on idle cores while another idle core of the class remains (08 R227, 10 R272). -/
def State.startTests (s : State) : List Nat → List Nat → State
  | [], _ => s
  | c :: r, idle =>
    let k := s.core c
    let due := s.testPeriod ≠ 0 ∧ k.testBase + s.testPeriod * Config.psPerS ≤ s.clk.ref
    if due ∧ k.retire = false ∧ idle.any (fun d => d != c && isQuad d == isQuad c) = true then
      let s := (s.updCore c (fun k => { k with testBase := s.clk.ref, deferred := false })).setCore c .testing
      (s.count 0x2880 0x0C).startTests r (idle.erase c)
    else s.startTests r idle

/-- Sequences whose next part maps to no live core end at once (10 R261). -/
def State.endWithoutCore (s : State) (e : Nat) : State :=
  let q := s.seq e
  if q.state = .free ∨ q.partsLeft = [] then s
  else if s.candidates (s.seqTemplate e) = [] then s.endSeq e .noCandidate else s

/-- ROSTER_STEP (10 R262, R266, R272): chains that were broken start anew, then the make-up list is built and dispatched. -/
def execRosterStep (s : State) : Host.Outcome State Fault Refusal :=
  .next <|
    if !s.rs.started || !s.computeRuns || s.pwr.entering then s
    else
      let s := { s with link := { s.link with rosterStall := false } }
      let s := (List.range 32).foldl (fun s st => s.applyVariant st) s
      let s := (List.range 32).foldl (fun s st =>
        if s.mayInstall st && (s.chain st).imp.isNone then s.startChain st else s) s
      let s := (s.rs.seq.map Prod.fst).foldl (fun s e => s.endWithoutCore e) s
      let es := s.waitingSeqs
      let old := s.oldGroups (es.filter (fun e => (s.seq e).batch != 0))
      let new := s.newGroups es.length (es.filter (fun e => (s.seq e).batch == 0))
      let (s, n, idle, left) := s.build (sortBy groupLe (old ++ new)) s.idleCores 0
      let s := { s with rs := { s.rs with makeup := n } }
      if left then s.count 0x2880 0x0B else s.startTests idle idle

/-! ### Sequences -/

/-- The lowest FREE entry. -/
def freeEntry (t : Tab SeqEntry) : Option Nat :=
  (List.range 1024).find? (fun e => (t.at ({} : SeqEntry) e).state == .free)

/-- A window record that no sequence will use is released (10 R261). -/
def State.dropRecord (s : State) (st : Nat) (w : Released) : State :=
  let s := { s with rs := { s.rs with
    wins := s.rs.wins ++ [({ ring := w.ring, start := w.start, len := w.len, seq := seqGone, open_ := false } : WinRec)] } }
  s.drainRing st w.ring s.rs.wins.length

/-- Margin before the kick cue: ceil(V_MAX × 2.5 µs) + 1 ticks (10 R260). -/
def margin (vmax : Nat) : Nat := (vmax * 25 + 9999999) / 10000000 + 1

/-- A released model window opens a sequence, or takes UNSEEN (10 R260). -/
def State.openSequence (s : State) (st p : Nat) (w : Released) : State :=
  match s.kickOf st w.imp w.window with
  | none => s.dropRecord st w
  | some cue =>
    let u := s.cueUse cue
    let v := if u.variant = 255 then (s.chain st).variant else u.variant
    if v = 255 ∨ s.pkHas p v = false then s.dropRecord st w
    else match (if s.seqInUse st < s.stNum st 0x23 then freeEntry s.rs.seq else none) with
      | none =>
        let s := (s.sendVerdict cue .unseen).count 0x2880 3
        (s.raiseSec st { code := 0x1806, station := st }).dropRecord st w
      | some e =>
        let m := s.pkModel p w.window
        let t := s.template p v m 0
        let q : SeqEntry :=
          { state := .ready, station := st, package := p, variant := v, model := m, window := w.window, tag := w.imp % 16, imp := w.imp
            deadline := tickAt (u.pos / 256) (-(margin (s.pkVmax p) : Int)), cue := cue
            partsLeft := List.range t.parts, recRing := w.ring, recStart := w.start }
        let s := { s with rs := { s.rs with
          seq := s.rs.seq.put e q
          wins := s.rs.wins ++ [({ ring := w.ring, start := w.start, len := w.len, seq := e } : WinRec)] } }
        (s.count 0x2880 1).endWithoutCore e

/-- SEQUENCE_CREATE (10 R260, R278): the oldest released record of a window; without a session nothing is created. -/
def execSequenceCreate (channel : Fin 16) (window : Fin 32) (s : State) : Host.Outcome State Fault Refusal :=
  .next <|
    match s.rs.rel.find? (fun w => w.channel == channel.val && w.window == window.val) with
    | none => s
    | some w =>
      let st := s.channelOwner channel.val
      let s := { s with rs := { s.rs with rel := s.rs.rel.erase w } }
      match s.stPackage st with
      | none => s
      | some p =>
        if s.pkKind p w.window ≠ 1 then s
        else if !s.link.up || s.pwr.entering then s.dropRecord st w
        else s.openSequence st p w

/-- SEQUENCE_DEADLINE (10 R261): the position view has reached DEADLINE. -/
def execSequenceDeadline (entry : Fin 1024) (s : State) : Host.Outcome State Fault Refusal :=
  let e := entry.val
  let q := s.seq e
  .next (if q.state ≠ .free ∧ (s.viewAt (s.stClock q.station)).valid = true ∧ s.deadlineDue e = true then s.endSeq e .deadline else s)

/-! ### Retirement -/

/-- A sequence whose part was lost with a core: the part is run again once if the slack suffices, else the sequence ends (10 R271). -/
def State.lostPart (s : State) (part e : Nat) : State :=
  let q := s.seq e
  let t := s.seqTemplate e
  let d := s.distance e
  if q.rerun = false ∧ 0 ≤ d ∧ (t.rem : Int) * (s.pkVmax q.package : Int) ≤ d * 1000000 then
    (s.updSeq e (fun q => { q with
      rerun := true, partsRun := q.partsRun - 1, partsLeft := q.partsLeft ++ [part], again := q.again ++ [part]
      state := if q.partsRun ≤ 1 then .ready else .running })).count 0x2880 6
  else s.endSeq e .lost

/-- ROSTER_RETIREMENT (10 R256, R257, R271): the map, the variants and the lost slug of a retired core. -/
def execRosterRetirement (core : Fin 16) (s : State) : Host.Outcome State Fault Refusal :=
  let c := core.val
  .next <|
    if s.retired c = false then s
    else
      let s := { s with rs := { s.rs with live := if bit s.rs.live c then s.rs.live - 2 ^ c else s.rs.live } }
      let s := (List.range 32).foldl (fun s st => s.switchVariant st) s
      let sl := s.rs.slug.at ({} : Slug) c
      let s := { s with rs := { s.rs with slug := s.rs.slug.put c {} } }
      let s := ((sl.seqs.map Prod.snd).filter (· ≠ seqGone)).foldl (fun s e => s.lostPart sl.part e) s
      (s.rs.seq.map Prod.fst).foldl (fun s e => s.endWithoutCore e) s

end Machine
end Sys2Proof
end

