-- ==== Sys2Proof/Machine/Station.lean ====
section
/-!
DEFINITION. Stations: the moves of resources, address windows, the Roster's settings, admission and teardown (11 R279-R283, R290-R292, R296; 10 R259, R266, R269, R275).
-/
namespace Sys2Proof
namespace Machine

/-! ### Resources (11 R279-R282) -/

/-- Bytes of each resource subindex; 0 where the subindex is none (11 Table 11-10). -/
def resSize : Nat → Nat
  | 0x02 => 2 | 0x03 => 4 | 0x04 => 1 | 0x05 => 8 | 0x06 => 2 | 0x07 => 2 | 0x08 => 128 | 0x0A => 2 | 0x0B => 4 | 0x0C => 2
  | 0x0D => 2 | 0x0E => 2 | 0x0F => 4 | 0x10 => 4 | _ => 0

/-- A station other than S0 and `st` that satisfies a condition. -/
def otherStation (st : Nat) (p : Nat → Bool) : Bool := (List.range 32).any (fun x => x != 0 && x != st && p x)

/-- The station and S0 are EMPTY or CONFIGURED (11 R282). -/
def State.mayChange (s : State) (st : Nat) : Bool :=
  let ok (x : Nat) : Bool := s.stState x == .empty || s.stState x == .configured
  ok st && ok 0

/-- Every resource subindex of a station is at its default (11 Table 11-8). -/
def State.bare (s : State) (st : Nat) : Bool :=
  [0x02, 0x03, 0x04, 0x06, 0x07, 0x0A, 0x0B, 0x0C, 0x0D, 0x0E, 0x10].all (fun sub => s.stNum st sub == 0)
    && s.stNum st 0x0F == 2000 && (s.stDom st 5).all (· == 0) && (s.stDom st 8).all (· == 0) && (s.windows st).all (fun w => !w.used)

/-- EMPTY and CONFIGURED follow the resources held (11 R290). -/
def State.followResources (s : State) (st : Nat) : State :=
  match s.stState st with
  | .empty => if s.bare st then s else s.setStation st .configured
  | .configured => if s.bare st then s.setStation st .empty else s
  | .admitting => s
  | .draining => s
  | .tearingDown => s

/-- The field die's output map follows the set-up while a session is up (03 R74). -/
def State.pushMaps (s : State) : State :=
  if s.link.up && s.fd.on then
    { s with fd := { s.fd with
        mapT := ((List.range 32).map (fun k => (k, s.maskOwner 3 k))).filter (fun x => x.2 != 0)
        mapK := ((List.range 8).map (fun k => (k, s.maskOwner 4 k))).filter (fun x => x.2 != 0) } }
  else s

/-- What refuses a new value of a mask subindex: a bit beyond the device, or one that another station holds (11 R281). -/
def State.maskFault (s : State) (st sub width v : Nat) : Option Nat :=
  if 2 ^ width ≤ v ∨ otherStation st (fun x => s.stNum x sub &&& v != 0) = true then some 0x06090030 else none

/-- A cue on the output is ARMED or LIVE (11 R282). -/
def State.outputBusy (s : State) (kind k : Nat) : Bool :=
  s.cue.tab.any (fun x => (x.2.st == .armed || x.2.st == .live) && cueKind x.2.word == kind && cueOut x.2.word == k)

/-- Bits that a write removes. -/
def removed (old new width : Nat) : List Nat := (List.range width).filter (fun b => bit old b && !bit new b)

/-- What refuses new Deep Store shares: more than 49 of a channel, or a fifth holder (11 Table 11-2). -/
def State.sharesFault (s : State) (st : Nat) (dom : List Byte) : Option Nat :=
  let others (c : Nat) : List Nat := ((List.range 32).filter (fun x => x != 0 && x != st)).map (fun x => s.sharesOf x c)
  if (List.range 8).any (fun c =>
      let v := field dom c 1
      let o := others c
      decide (49 < v + o.sum) || (v != 0 && decide (3 < (o.filter (· != 0)).length)))
  then some 0x06090030 else none

/-- What refuses new granules: a granule the core lacks, or one of another station (11 R281, 08 R208). -/
def State.granulesFault (s : State) (st : Nat) (dom : List Byte) : Option Nat :=
  let of (d : List Byte) (c : Nat) : Nat := field d (8 * c) 8
  if (List.range 16).any (fun c =>
      decide (2 ^ granules c ≤ of dom c) || otherStation st (fun x => of (s.stDom x 8) c &&& of dom c != 0))
  then some 0x06090030 else none

/-- What refuses a ring or quoin range: it leaves the device's numbers, or overlaps another station's (11 R281). -/
def State.rangeFault (s : State) (st subFirst subCount top first count : Nat) : Option Nat :=
  let hits (x : Nat) : Bool :=
    let f := s.stNum x subFirst
    let n := s.stNum x subCount
    decide (0 < n ∧ 0 < count ∧ first < f + n ∧ f < first + count)
  if top < first + count ∨ otherStation st hits = true then some 0x06090030 else none

/-- What refuses a write to a resource subindex (11 R281, R282). -/
def State.resourceFault (s : State) (st sub : Nat) (data : List Byte) : Option Nat :=
  let v := leNat data
  let old := s.stNum st sub
  match sub with
  | 0x02 =>
    (s.maskFault st 2 16 v).or (if (removed old v 16).any (fun n => (s.intake n).state != .off) then some 0x08000020 else none)
  | 0x03 => (s.maskFault st 3 32 v).or (if (removed old v 32).any (s.outputBusy 0) then some 0x08000020 else none)
  | 0x04 => (s.maskFault st 4 8 v).or (if (removed old v 8).any (s.outputBusy 1) then some 0x08000020 else none)
  | 0x05 => s.sharesFault st data
  | 0x06 => (s.maskFault st 6 16 v).or (if s.stNum st 7 &&& v ≠ s.stNum st 7 then some 0x06090030 else none)
  | 0x07 => if v &&& s.stNum st 6 ≠ v then some 0x06090030 else none
  | 0x08 => s.granulesFault st data
  | 0x0A => s.rangeFault st 0x0A 0x0B 65536 v (s.stNum st 0x0B)
  | 0x0B => s.rangeFault st 0x0A 0x0B 65536 (s.stNum st 0x0A) v
  | 0x0C => s.rangeFault st 0x0C 0x0D 4096 v (s.stNum st 0x0D)
  | 0x0D => s.rangeFault st 0x0C 0x0D 4096 (s.stNum st 0x0C) v
  | 0x0E =>
    if 8192 < v + (((List.range 32).filter (· != st)).map (fun x => s.stNum x 0x0E)).sum then some 0x06090030 else none
  | 0x0F => if v < 10 ∨ 600000 < v then some 0x06090030 else none
  | _ => s.maskFault st 0x10 32 v

/-- Granule owners follow 2400h + s:08 (08 R208, 11 R293). -/
def State.applyGranules (s : State) (st : Nat) (dom : List Byte) : State :=
  (List.range 16).foldl (fun s c =>
    s.updCore c (fun k =>
      let mine := (List.range (granules c)).filter (fun g => bit (field dom (8 * c) 8) g)
      let kept := k.granule.filter (fun x => x.2 != st)
      { k with granule := mine.foldl (fun (t : Tab Nat) g => if st = 0 then t else t.put g st) kept })) s

/-- A new value of a resource subindex takes effect. -/
def State.applyResource (s : State) (st sub : Nat) (data : List Byte) : State :=
  let v := leNat data
  let old := s.stNum st sub
  let idx := 0x2400 + st
  let setDom (s : State) : State := { s with od := { s.od with cfg := s.od.cfg.setDom idx sub data } }
  match sub with
  | 0x05 => setDom s
  | 0x08 => (setDom s).applyGranules st data
  | 0x07 =>
    let s := (List.range 16).foldl (fun s w =>
      if bit v w && !bit old w then s.carveWay w else if bit old w && !bit v w then s.returnWay w else s) s
    s.setNum idx sub v
  | _ => s.setNum idx sub v

/-- A station that a fence or tag loss has barred is being set up again (06 R173). -/
def State.setUpAgain (s : State) (st : Nat) : State := s.updChain st (fun c => { c with fenced := false })

/-- Write one resource subindex (11 R280-R282, R293). -/
def State.writeResource (s : State) (st sub : Nat) (data : List Byte) : State × Resp :=
  if resSize sub = 0 then (s, .abort 0x06090011)
  else if st = 0 ∧ sub ≠ 0x0E ∧ sub ≠ 0x0F then (s, .abort 0x06010002)
  else if data.length ≠ resSize sub then (s, .abort 0x06070010)
  else if s.mayChange st = false then (s, .abort 0x08000020)
  else match s.resourceFault st sub data with
    | some a => (s, .abort a)
    | none => ((((s.applyResource st sub data).followResources st).pushMaps).setUpAgain st, .ok)

/-- STATION_RESOURCE_WRITE (11 R281, R282). -/
def execStationResourceWrite (station : Fin 32) (sub : BitVec 8) (data : List Byte) (s : State) : Host.Outcome State Fault Refusal :=
  .next (s.served (0x2400 + station.val) (·.writeResource station.val sub.toNat data))

/-! ### Address windows (11 R283) -/

/-- A window lies wholly within one Deep Store channel in which the station holds a share, carved scratch of its ways, LPDDR5X or the outbound window. -/
def State.windowPlaced (s : State) (st : Nat) (w : Window) : Bool :=
  match regionOf w.base, regionOf w.last with
  | some (.ds c), some (.ds d) => c == d && s.holdsShare st c
  | some (.scratch v), some (.scratch x) =>
    (List.range (x + 1)).all (fun k => decide (k < v) || (s.wayOwner k == st && s.wayMode k == .scratch))
  | some .lpddr, some .lpddr => true
  | some .outbound, some .outbound => true
  | _, _ => false

/-- One window against R283. -/
def State.windowOk (s : State) (st : Nat) (w : Window) : Bool :=
  !w.used ||
    (decide (w.base ≤ w.last) && decide (w.base % 4096 = 0 ∧ w.last % 4096 = 4095) && s.windowPlaced st w
      && (!w.w || (List.range 32).all (fun x =>
          x == st || (s.windows x).all (fun o => !o.used || decide (w.last < o.base ∨ o.last < w.base)))))

/-- Reserved bits of a WINDOWS value are 0. -/
def windowsReserved (dom : List Byte) : Bool := (List.range 16).all (fun i => bits (field dom (16 * i) 16) 3 45 == 0)

/-- Write WINDOWS (11 R282, R283). -/
def State.writeWindowSet (s : State) (st : Nat) (data : List Byte) : State × Resp :=
  if data.length ≠ 256 then (s, .abort 0x06070010)
  else if s.mayChange st = false then (s, .abort 0x08000020)
  else if windowsReserved data && (windowList data).all (s.windowOk st) then
    ((({ s with od := { s.od with cfg := s.od.cfg.setDom (0x2400 + st) 9 data } } : State).followResources st).setUpAgain st, .ok)
  else (s, .abort 0x06090030)

/-- STATION_WINDOWS_WRITE (11 R283). -/
def execStationWindowsWrite (station : Fin 32) (data : List Byte) (s : State) : Host.Outcome State Fault Refusal :=
  .next (s.served (0x2400 + station.val) (·.writeWindowSet station.val data))

/-! ### Admission (10 R269) -/

/-- A ring of R258. -/
def State.ringIs (s : State) (st r cls policy recLog2 : Nat) : Bool :=
  let d := s.ring r
  decide (r < 65536) && s.ringIn st r && d.valid && !d.damaged && d.owner == st && d.cls == cls && d.policy == policy
    && (recLog2 == 0 || d.recLog2 == recLog2)

/-- The 48 rings and 16 quoins of R258. -/
def State.coreRings (s : State) (st p : Nat) : Bool :=
  let b := s.pkRing p
  (List.range 16).all (fun c =>
    s.ringIs st (b + 3 * c) 2 1 0 && s.ringIs st (b + 3 * c + 1) 1 0 0 && s.ringIs st (b + 3 * c + 2) 0 0 4
      && decide (s.pkQuoin p + c < 4096) && s.quoinIn st (s.pkQuoin p + c) && (s.quoin (s.pkQuoin p + c)).valid
      && (s.quoin (s.pkQuoin p + c)).owner == st)

/-- Rings that the enabled crop entries of a station's channels name. -/
def State.windowRings (s : State) (st : Nat) : List Nat :=
  ((List.range 16).filter (fun n => s.channelOwner n == st)).flatMap (fun n =>
    (crops (ispDom (s.pipe n).act n 0x1B)).map (fun x => x.2.ring))

/-- The ring lies within 64 MiB from STREAM_BASE. -/
def State.nearStream (s : State) (p r : Nat) : Bool :=
  let d := s.ring r
  decide (s.pkStream p ≤ d.base ∧ d.base + d.size ≤ s.pkStream p + 0x4000000)

/-- Windows per impression × V_MAX / L of a station (10 R269). -/
def State.verdictRate (s : State) (st : Nat) : Rat :=
  match s.stPackage st with
  | none => 0
  | some p =>
    let windows := ((List.range 32).filter (fun w => s.pkKind p w == 1 || s.pkKind p w == 2)).length
    ((windows * s.pkVmax p : Nat) : Rat) / ((max 1 (s.lenOf (s.stClock st)) : Nat) : Rat)

/-- Every condition of R269. -/
def State.mayAdmit (s : State) (st : Nat) : Bool :=
  match s.stPackage st with
  | none => false
  | some p =>
    let w := s.stClock st
    (s.pk p).state == .verified && s.bestVariant p != 255
      && s.num (0x2100 + w) 1 0 == 1 && s.lenOf w == s.hdr p 8 4
      && (List.range 9).all (fun v => !s.pkHas p v || decide (s.pkVar p v 12 2 ≤ 1500))
      && Config.compiledFor (s.peek (s.pk p).base (s.pk p).size) (slice (s.stDom st 5) 0 8) (s.stNum st 6) (slice (s.stDom st 8) 0 128)
      && s.coreRings st p
      && (s.windowRings st).all (s.nearStream p) && (List.range 16).all (fun c => s.nearStream p (s.pkRing p + 3 * c + 1))
      && decide (s.hdr p 14 2 ≤ s.stNum st 0x23)
      && decide (16 * ((chanLines (s.layout st)).length + (winLines (s.layout st)).length) ≤ s.stNum st 0x0E)
      && (List.range 16).all (fun n => s.channelOwner n != st || s.icn n 0x14 != 2)
      && decide ((((List.range 32).filter (fun x => x == st || s.admits x)).map s.verdictRate).foldl (· + ·) 0 ≤ 14000)

/-- Admission is accepted: the station is ADMITTING, its spacing is loaded and its chain starts (10 R266, R267, R269, 11 R290, 20 R479). -/
def State.openGates (s : State) (st : Nat) : State :=
  let s := (s.setNum (0x2400 + st) 0x22 1).setStation st .admitting
  let s := { s with cue := { s.cue with lastAdmit := s.cue.lastAdmit.put st none } }
  ((s.takeVariant st).loadSpacing st).startChain st

/-- Write ADMIT; a refused 1 raises EV-1807, and none is taken while a sleep request stands or the Bullpen is in force (10 R269, 11 R290, 14 decided case, 17 R429). -/
def State.writeAdmit (s : State) (st v : Nat) : State × Resp :=
  if 1 < v then (s, .abort 0x06090030)
  else if v = 0 then ((s.stopAdmission st).settleStation st, .ok)
  else if s.pwr.req ≠ 0 ∨ s.boot.slot = 2 then (s, .abort 0x08000020)
  else if s.admits st then (s, .ok)
  else if s.stState st = .configured ∧ (s.chain st).fenced = false ∧ s.mayAdmit st = true then (s.openGates st, .ok)
  else (s.raise { code := 0x1807, station := st }, .abort 0x08000020)

/-- ADMIT_WRITE (10 R269). -/
def execAdmitWrite (station : Fin 32) (value : BitVec 8) (s : State) : Host.Outcome State Fault Refusal :=
  .next (s.served (0x2400 + station.val) (·.writeAdmit station.val value.toNat))

/-- Write another Roster setting of a station (10 R259, R266, R269, R275). -/
def State.writeRoster (s : State) (st sub : Nat) (data : List Byte) : State × Resp :=
  let v := leNat data
  let idx := 0x2400 + st
  let locked := s.admits st
  match sub with
  | 0x20 =>
    if 63 < v ∧ v ≠ 255 then (s, .abort 0x06090030)
    else if locked then (s, .abort 0x08000020) else ((s.setNum idx 0x20 v).takeVariant st, .ok)
  | 0x21 => if 7 < v then (s, .abort 0x06090030) else (s.setNum idx 0x21 v, .ok)
  | 0x23 =>
    if 1024 < v + (((List.range 32).filter (· != st)).map (fun x => s.stNum x 0x23)).sum then (s, .abort 0x06090030)
    else if locked then (s, .abort 0x08000020) else (s.setNum idx 0x23 v, .ok)
  | 0x24 =>
    if locked then (s, .abort 0x08000020)
    else if layoutOk data (s.lenOf (s.stClock st)) then
      ({ s with od := { s.od with cfg := s.od.cfg.setDom idx 0x24 data } }, .ok)
    else (s, .abort 0x06090030)
  | 0x25 => if v < 1 ∨ 1000000 < v then (s, .abort 0x06090030) else (s.setNum idx 0x25 v, .ok)
  | _ =>
    if v < 5 ∨ 200 < v then (s, .abort 0x06090030)
    else if s.anyAdmit then (s, .abort 0x08000020) else (s.setNum 0x2400 0x28 v, .ok)

/-! ### Teardown (11 R292) -/

/-- COMMAND = 1 of a station, accepted only in CONFIGURED; a long operation (11 R292). -/
def State.startTearDown (s : State) (st : Nat) : State × Resp :=
  if st = 0 ∨ s.stState st ≠ .configured then (s, .abort 0x08000020) else ((s.setStation st .tearingDown).startLong 7 st 1, .ok)

/-- TEAR_DOWN (11 R292). -/
def execTearDown (station : Fin 32) (s : State) : Host.Outcome State Fault Refusal :=
  .next (s.served (0x2400 + station.val) (·.startTearDown station.val))

/-- Zero every Deep Store window of a station that has W set. -/
def State.wipeWindows (s : State) (st : Nat) : State :=
  (s.windows st).foldl (fun s w =>
    match regionOf w.base with
    | some (.ds _) => if w.w then s.wipe w.base (w.last + 1 - w.base) else s
    | _ => s) s

/-- Zero every granule that a station holds. -/
def State.wipeGranules (s : State) (st : Nat) : State :=
  (List.range 16).foldl (fun s c =>
    s.updCore c (fun k => { k with
      galley := k.galley.filter (fun x => k.granule.at 0 (x.1 / 0x8000) != st) })) s

/-- The work of a teardown, in the order of R292. -/
def State.tearDown (s : State) (st : Nat) : State :=
  let s := (List.range 16).foldl (fun s n => if s.channelOwner n = st ∧ s.icn n 1 = 1 then s.turnOff n else s) s
  let rings := s.rg.ring.filter (fun x => !s.ringIn st x.1)
  let quoins := s.qn.quoin.filter (fun x => !s.quoinIn st x.1)
  let s := { s with rg := { s.rg with ring := rings }, qn := { s.qn with quoin := quoins } }
  let s := (List.range 16).foldl (fun s w =>
    if bit (s.stNum st 7) w then (s.returnWay w).setScratch st w false else s) s
  let s := (s.wipeWindows st).wipeGranules st
  ((s.setStation st .configured).count 0x2890 3).raise { code := 0x1902, station := st }

end Machine
end Sys2Proof
end

