-- ==== Sys2Proof/Machine/Session.lean ====
section
/-!
DEFINITION. Field Link sessions: training that succeeds, heartbeats that end autonomy, and the cue results that open expectations and carry the chain of cue groups (02 R49, R73; 03 R88, R89, R94-R97, R102; 04 R112; 10 R266, R267; 13 R337; 14 R355; 20 R480).
-/
namespace Sys2Proof
namespace Machine

/-! ### The configuration that a session brings to the field die (02 R49, R73, 03 R102) -/

/-- The object is held on the field die. -/
def onField (idx : Nat) : Bool :=
  decide ((0x2100 ≤ idx ∧ idx ≤ 0x2107) ∨ (0x2600 ≤ idx ∧ idx ≤ 0x2607)) || idx == 0x2610 || idx == 0x2620 || idx == 0x2630

/-- Default of a scalar entry. -/
def entryDflt (idx sub : Nat) : Nat :=
  match entryRow idx sub with
  | .ok r => r.dflt
  | .error _ => 0

/-- Keys of the field die's objects that either copy holds. -/
def State.fieldKeys (s : State) : List Nat :=
  ((s.od.cfg.num.map Prod.fst) ++ (s.fd.cfg.num.map Prod.fst)).eraseDups.filter (fun k => onField (k / 256))

/-- The set of a clock breaks the mark-lock rule (02 R49). -/
def State.markSetBad (s : State) (n : Nat) : Bool :=
  let c := Machine.wcCfg s.od.cfg n
  c.markPe != 0xFF && !markRule c.markPhase c.markWindow c.len

/-- A clock's set that breaks the rule is taken with MARK_PE at FFh, and EV-1F07 is raised (02 R49). -/
def State.checkMarkSet (s : State) (n : Nat) : State :=
  if s.markSetBad n then
    (s.setNum (0x2100 + n) 0x0C 0xFF).raise { code := 0x1F07, unit := n, detail := 0x2100 + n }
  else s

/-- The compute die writes the persisted values over the session (02 R73, 03 R102). -/
def State.pushConfig (s : State) : State :=
  let s := (List.range 8).foldl (fun s n => s.checkMarkSet n) s
  s.fieldKeys.foldl (fun s k =>
    let idx := k / 256
    let sub := k % 256
    let v := s.num idx sub (entryDflt idx sub)
    if s.fnum idx sub (entryDflt idx sub) = v then s else s.applyField idx sub v) s

/-- The field die forwards each input whose level differs from the level it last forwarded (13 R337). -/
def State.forwardLevels (s : State) : State :=
  (List.range 16).foldl (fun s k =>
    let p := s.eye k
    if p.level = p.fwdLevel then s else s.forwardEye k p.level) s

/-- Entries that the field die no longer holds are free for the Roster again; their results were lost with the link (DEDUCED 29). -/
def State.dropLostCues (s : State) : State :=
  { s with rs := { s.rs with cue := s.rs.cue.filter (fun (x : Nat × CueUse) => (s.cueAt x.1).st != .free) } }

/-- The value of FD_STAT.CODE that the boot code writes (17 R425, Table 17-8). -/
def State.bootCode (s : State) : Nat :=
  if s.boot.halt ≠ 0 then s.boot.halt
  else if s.boot.recovery then 5
  else if s.boot.started then s.boot.slot + 2
  else 1

/-- FORCE_FAULT of a halted Proof stage: (code − 5) pulses of 250 ms on and 250 ms off, then 2,000 ms off (17 R426). -/
def State.blink (s : State) : Bool :=
  let k := s.boot.halt - 5
  let t := (s.clk.ref - s.clk.refReset) / Config.psPerMs % (500 * k + 2000)
  decide (t < 500 * k) && decide (t % 500 < 250)

/-- What the compute die does once a session carries writes: FD_STAT, configuration, output maps, spacings (02 R73, 03 R74, 10 R267, 17 R425). -/
def State.openSession (s : State) : State :=
  let s := s.sendField (.regWrite .fdStat (s.bootCode + bitIf s.blink 8))
  let s := ((s.pushConfig).pushMaps).dropLostCues
  let s := (List.range 32).foldl (fun s st => s.loadSpacing st) s
  s.forwardLevels

/-! ### HEARTBEAT (03 R88, R95, R97) -/

/-- A valid heartbeat at the field die. -/
def State.fieldHeartbeat (s : State) (state us : Nat) : State :=
  let s := s.fieldTakes (.heartbeat state us)
  if !s.fd.on || !s.fd.up then s
  else
    let s := { s with fd := { s.fd with missRun := 0, stat := if state = 1 then 1 else s.fd.stat } }
    if s.fd.autonomy = .none then s
    else if 8 ≤ s.fd.hbRun + 1 then
      let s := s.leaveAutonomy
      ({ s with link := { s.link with disciplined := true } } : State).openSession
    else { s with fd := { s.fd with hbRun := s.fd.hbRun + 1 } }

/-- HEARTBEAT (03 R95): a valid heartbeat reaches a side. -/
def execHeartbeat (side : LinkSide) (state : BitVec 8) (us : BitVec 32) (s : State) : Host.Outcome State Fault Refusal :=
  .next <|
    match side with
    | .field => s.fieldHeartbeat state.toNat us.toNat
    | .compute =>
      let s := s.computeTakes (.heartbeat state.toNat us.toNat)
      { s with link := { s.link with missRun := 0 } }

/-! ### FIELD_LINK_UP (03 R97, 14 R353-R355) -/

/-- A field die that has restarted since the last session is counted and reported; the sequences of the cues that are gone end (03 R90). -/
def State.noteRestart (s : State) : State :=
  if s.link.seen && !s.fd.everUp then
    let s := (s.count 0x2811 3).raise { code := 0x110F }
    let s := (s.rs.seq.map Prod.fst).foldl (fun s e => s.endSeq e .reset) s
    { s with rs := { s.rs with cue := [] } }
  else s

/-- The end of a Stop or a Hibernate is reported: LAST, WAKE_SOURCE, RESET_CAUSE and EV-1C04 (14 R353-R355). -/
def State.noteWake (s : State) : State :=
  if s.fd.autonomy = .orderly ∧ s.fd.hibernated = true ∧ s.link.seen = false then
    let src := s.fd.wakeSrc
    ({ s with pwr := { s.pwr with last := 3, cause := 4, wakeSrc := src, wakeEvent := none } } : State).raise
      { code := 0x1C04, detail := 3 + 256 * src }
  else match s.pwr.wakeEvent with
    | none => s
    | some last =>
      let src := if s.pwr.wakeSrc ≠ 0 then s.pwr.wakeSrc else if s.fd.autonomy = .orderly then s.fd.wakeSrc else 0
      ({ s with pwr := { s.pwr with wakeSrc := src, wakeEvent := none } } : State).raise { code := 0x1C04, detail := last + 256 * src }

/-- FIELD_LINK_UP (03 R97): training succeeds on four lanes. -/
def execFieldLinkUp (s : State) : Host.Outcome State Fault Refusal :=
  .next <|
    if s.link.up || !s.link.training || s.link.lanes != 0xF#4 || !s.fd.on || !s.heartOk then s
    else
      let s := s.noteRestart.noteWake
      let auto := s.fd.autonomy != .none
      let s := { s with
        link := { s.link.dropViews with
          up := true, training := false, seen := true, missRun := 0, lostAt := none, autonomy := auto, orderly := false
          disciplined := !auto }
        fd := { s.fd with up := true, everUp := true, missRun := 0, hbRun := 0, wakeN := false } }
      if auto then s else s.reportGathered.openSession

/-! ### CUE_RESULT (03 R94, 04 R112, 10 R266, 20 R480) -/

/-- The group of a cue takes the variant in force at the crossing of its first trigger (10 R271). -/
def State.groupVariant (s : State) (u : CueUse) : State :=
  let s := s.applyVariant u.station
  let v := (s.chain u.station).variant
  { s with rs := { s.rs with cue := s.rs.cue.map (fun (x : Nat × CueUse) =>
      if x.2.station = u.station ∧ x.2.imp = u.imp then (x.1, { x.2 with variant := v }) else x) } }

/-- The Roster's entry is free again. -/
def State.freeUse (s : State) (e : Nat) : State := { s with rs := { s.rs with cue := s.rs.cue.put e {} } }

/-- The first trigger of a group was crossed or suppressed: group i + 1 is installed at once (10 R266). -/
def State.firstCrossed (s : State) (u : CueUse) : State :=
  let s := s.groupVariant u
  if (s.chain u.station).imp = some u.imp then s.nextGroup u.station u.imp else s

/-- A crossed trigger opens its channels' expectations (04 R112). -/
def State.triggerCrossed (s : State) (u : CueUse) : State :=
  if u.kick then s
  else
    s.expectFrames (s.trgBind (chanLine (s.layout u.station) u.line).channel)
      { imp := u.imp, tag := u.imp % 16, pos := u.pos, wc := s.stClock u.station }

/-- An install of a group was refused: one count and EV-1804 for the group, and the chain starts anew (10 R266). -/
def State.groupRefused (s : State) (u : CueUse) : State :=
  if u.refused then s
  else
    let s := { s with rs := { s.rs with cue := s.rs.cue.map (fun (x : Nat × CueUse) =>
      if x.2.station = u.station ∧ x.2.imp = u.imp then (x.1, { x.2 with refused := true }) else x) } }
    let s := (s.count 0x2880 9).raise { code := 0x1804, station := u.station }
    if (s.chain u.station).imp = some u.imp then s.startChain u.station else s

/-- A cue expired: its sequence ends, or the chain starts anew for a first trigger (10 R261, 20 R480). -/
def State.cueExpiredHere (s : State) (e : Nat) (u : CueUse) : State :=
  if u.kick then
    (s.rs.seq.filter (fun x => x.2.state != .free && x.2.cue == e && x.2.station == u.station && x.2.imp == u.imp)).foldl
      (fun s x => s.endSeq x.1 .expired) s
  else if u.first && (s.chain u.station).imp == some u.imp then s.startChain u.station
  else s

/-- What a result means to the compute die. -/
def State.takeResult (s : State) (e code : Nat) : State :=
  let u := s.cueUse e
  if u.used = false then s
  else
    let s := s.freeUse e
    let s :=
      if code = cueCrossed then
        let s := s.triggerCrossed u
        if u.first then s.firstCrossed u else s
      else if code = cueSuppressed then (if u.first then s.firstCrossed u else s)
      else if code = cueExpired then s.cueExpiredHere e u
      else if code = cueRefused then s.groupRefused u
      else s
    s.settleStation u.station

/-- CUE_RESULT (03 R94). -/
def execCueResult (entry : Fin 8192) (code : Fin 8) (s : State) : Host.Outcome State Fault Refusal :=
  let s := s.computeTakes (.cueResult entry.val code.val)
  .next (if s.link.up && s.computeRuns then s.takeResult entry.val code.val else s)

end Machine
end Sys2Proof
end

