-- ==== Sys2Proof/Machine/Power.lean ====
section
/-!
DEFINITION. Power states, sleep and waking, and what a reset of the compute die clears (14 R341-R360, 13 R336, 06 R180, R181).
-/
namespace Sys2Proof
namespace Machine

/-! ### Reset of the compute die -/

/-- Cells of on-chip flash, which every reset and power state keeps (06 Table 6-9). -/
def flashCells (m : List Host.Cell) : List Host.Cell := m.filter (fun c => decide (c.1 < 0x800000))

/-- What a reset leaves of boot: the fuses and what the flash holds (17 R414, R420, R442). -/
def Boot.kept (b : Boot) : Boot :=
  { fuses := b.fuses, shipA := b.shipA, shipBull := b.shipBull, dlLen := b.dlLen, dlSlot := b.dlSlot, dlCrc := b.dlCrc }

/-- The compute die in reset: everything on it at its reset value, the field die untouched (06 R180, R181, 11 R296, 14 R344, 16 R411). -/
def State.clearCompute (s : State) (cause : Nat) : State :=
  { clk := { s.clk with refReset := s.clk.ref }, fd := s.fd, wc := s.wc, cue := s.cue
    pwr := { causeNext := cause, vfield := s.pwr.vfield }
    boot := s.boot.kept
    mem := { bytes := flashCells s.mem.bytes }
    free := s.free, pending := s.pending }

/-- PORST_ASSERT (14 R342, R343): PORST_N low; a power-down of a Hibernate takes the cause's latch with it. -/
def execPorstAssert (s : State) : Host.Outcome State Fault Refusal :=
  .next (s.clearCompute (if s.pwr.state = .hibernate then 0 else if s.pwr.state = .off then s.pwr.causeNext else 1))

/-- BROWN_OUT (14 R344): the compute die resets as if PORST_N had been pulled low. -/
def execBrownOut (soc : Bool) (s : State) : Host.Outcome State Fault Refusal :=
  .next (if s.pwr.state = .off ∨ s.pwr.state = .hibernate then s else s.clearCompute (if soc then 3 else 2))

/-- SUPPLY_EXCURSION (14 R346, Table 14-10). -/
def execSupplyExcursion (soc : Bool) (s : State) : Host.Outcome State Fault Refusal :=
  .next <|
    if s.computeRuns then (s.count 0x28C0 (if soc then 6 else 5)).raiseSec (if soc then 1 else 0) { code := 0x1C01 } else s

/-! ### The real-time clock (14 R358, R360) -/

/-- Whole RTC periods of true time: 32,768 each second. -/
def State.rtcTicks (s : State) : Nat := s.clk.wall * 32768 / Config.psPerS

/-- PWR_RTC. -/
def State.rtc (s : State) : Nat := unsigned ((s.rtcTicks : Int) + s.pwr.rtcBase) 64

/-- A write of PWR_RTC. -/
def State.setRtc (s : State) (v : Nat) : State :=
  { s with pwr := { s.pwr with rtcBase := (v : Int) - (s.rtcTicks : Int) } }

/-! ### Doze (14 R348) -/

/-- DOZE_EN, 2700h:05. -/
def State.dozeEn (s : State) : Bool := s.num 0x2700 5 1 != 0
/-- WAKE_EN, 2700h:03. -/
def State.wakeEn (s : State) : Nat := s.num 0x2700 3 4

/-- A host hart target is signalled. -/
def State.hartSignalled (s : State) : Bool := (List.range 4).any (fun t => (s.rep.evc.target t).signalled)

/-- DOZE_ENTRY (14 R348): every hart that is out of reset has gone into WFI. -/
def execDozeEntry (s : State) : Host.Outcome State Fault Refusal :=
  .next <|
    if s.pwr.state ≠ .run ∨ s.pwr.entering = true ∨ s.dozeEn = false ∨ s.hartSignalled = true ∨ (s.hartAt 0).out = false then s
    else
      ({ s with
        host := { s.host with hart := s.host.hart.map (fun (x : Nat × Hart) => (x.1, { x.2 with wfi := x.2.out })) }
        pwr := { s.pwr with state := .doze } } : State).count 0x28C0 1

/-- DOZE_EXIT (14 R348): a hart's target becomes signalled, or a debug request reaches it. -/
def execDozeExit (hart : Fin 4) (s : State) : Host.Outcome State Fault Refusal :=
  .next (if s.pwr.state = .doze then s.wakeHart hart.val else s)

/-! ### Sleep requests (14 R349) -/

/-- The refusal reason of Table 14-5 that holds, lowest code first; 0 where none does. -/
def State.sleepRefusal (s : State) (kind : Nat) : Nat :=
  let wake := if kind = 2 then bits s.wakeEn 0 3 else bits s.wakeEn 2 1
  if kind = 3 ∧ s.pwr.vfield = .reversed then 1
  else if s.link.up = false ∨ s.pwr.vfield = .absent then 2
  else if (List.range 32).any (fun st => s.stState st == .admitting) then 3
  else if wake = 0 then 4
  else if s.host.linkUp && (List.range 32).any (fun f => s.funcOn f && !(s.func f).d3) then 5
  else if s.od.longop.isSome then 6
  else 0

/-- An accepted request; RTC_ALARM_S sets the alarm at this moment (14 R358). -/
def State.acceptSleep (s : State) (kind : Nat) : State :=
  let secs := s.num 0x2700 4 0
  { s with pwr := { s.pwr with
    req := kind
    rtcAlarm := if secs = 0 then s.pwr.rtcAlarm else (s.rtc + 32768 * secs) % 2 ^ 64 } }

/-- A request on either path: its state and whether it is accepted; one that stands is left as it is (DESIGN CHOICE 34). -/
def State.requestSleep (s : State) (kind : Nat) : State × Bool :=
  if s.pwr.req ≠ 0 then (s, true)
  else
    let r := s.sleepRefusal kind
    if r = 0 then (s.acceptSleep kind, true)
    else
      ((({ s with pwr := { s.pwr with refuse := r } } : State).count 0x28C0 3).raise { code := 0x1C03 }, false)

/-- A write of REQUEST, 2700h:02. -/
def State.writeRequest (s : State) (kind : Nat) : State × Resp :=
  let (s, ok) := s.requestSleep kind
  (s, if ok then .ok else .abort 0x08000020)

/-- A write of REQUEST or of PWR_CTRL.REQ. -/
def State.sleepCommand (s : State) (kind : Nat) (viaRegister : Bool) : State :=
  if !viaRegister then s.served 0x2700 (·.writeRequest kind)
  else if s.computeRuns then
    let (s, ok) := s.requestSleep kind
    { s with out := { s.out with err := !ok } }
  else s

/-- REQUEST_STOP (14 R349). -/
def execRequestStop (viaRegister : Bool) (s : State) : Host.Outcome State Fault Refusal := .next (s.sleepCommand 2 viaRegister)

/-- REQUEST_HIBERNATE (14 R349). -/
def execRequestHibernate (viaRegister : Bool) (s : State) : Host.Outcome State Fault Refusal := .next (s.sleepCommand 3 viaRegister)

/-! ### Entry (14 R350) -/

/-- Slugs and codec jobs have ended (14 R350 step 2). -/
def State.woundDown (s : State) : Bool :=
  (List.range 16).all (fun c => (s.core c).state != .running) && (List.range 3).all (fun e => (s.codecRun e).isNone)

/-- The ports that watch their buses in orderly autonomy, with their WAKE_MODE (15 R381). -/
def State.wakeModes (s : State) : Tab Nat :=
  ([0, 1].filter (fun p => s.profile p != 0 && s.num (0x2E00 + p) 0x0C 2 != 0)).map (fun p => (p, s.num (0x2E00 + p) 0x0C 2))

/-- SLEEP_COMMIT (14 R350): SLEEP goes out, then the clocks stop or PWR_HOLD falls. -/
def execSleepCommit (s : State) : Host.Outcome State Fault Refusal :=
  .next <|
    if s.pwr.entering = false ∨ s.computeRuns = false ∨ s.woundDown = false then s
    else
      let hib := s.pwr.req == 3
      let modes := s.wakeModes
      let s := (s.sendField (.sleep (if hib then 2 else 1))).canLost
      let s := if hib then s else s.count 0x28C0 2
      { s with
        fd := { s.fd with canArm := modes }
        gk := { s.gk with interval := [] }
        link := { s.link.dropViews with up := false, orderly := true, lanes := 0, training := false, missRun := 0 }
        host := { s.host with linkUp := false }
        pwr := { s.pwr with state := if hib then .hibernate else .stop, hold := !hib, entering := false, req := 0, stopDue := false } }

/-! ### Waking (14 R351-R356) -/

/-- A wake before the commit point abandons the entry: every step taken is undone (14 R356). -/
def State.abandonEntry (s : State) : State :=
  ({ s with pwr := { s.pwr with req := 0, entering := false, last := 4 } } : State).count 0x28C0 4

/-- SLEEP_ENTRY_START (14 R350): the Roster stops, slugs and codec jobs run to their ends, MACs and host port stop; WAKE_N that is low already is a wake (14 decided case). -/
def execSleepEntryStart (s : State) : Host.Outcome State Fault Refusal :=
  .next <|
    if s.pwr.req = 0 ∨ s.computeRuns = false then s
    else if s.fd.wakeN && bit s.wakeEn 2 then s.abandonEntry
    else { s with pwr := { s.pwr with entering := true } }

/-- An enabled wake fires: it ends a Stop, or abandons an entry; of two in one moment the lower code is kept (14 decided case). -/
def State.wake (s : State) (src : Nat) : State :=
  if s.pwr.state = .stop then
    if s.pwr.stopDue = false then { s with pwr := { s.pwr with stopDue := true, wakeSrc := src, wakeAt := s.clk.wall } }
    else if s.pwr.wakeAt = s.clk.wall ∧ src ≠ 0 ∧ (s.pwr.wakeSrc = 0 ∨ src < s.pwr.wakeSrc) then
      { s with pwr := { s.pwr with wakeSrc := src } }
    else s
  else if s.pwr.req ≠ 0 ∧ s.computeRuns = true then s.abandonEntry
  else s

/-- RTC_ALARM (14 R351): PWR_RTC has reached PWR_RTC_ALARM. -/
def execRtcAlarm (s : State) : Host.Outcome State Fault Refusal :=
  .next (if s.pwr.rtcAlarm ≠ 0 ∧ s.pwr.rtcAlarm ≤ s.rtc ∧ bit s.wakeEn 0 = true then s.wake 1 else s)

/-- A transition is one that EDGE names, a level mode naming the transition into its level (13 R336). -/
def edgeNamed (edge : Nat) (rise : Bool) : Bool :=
  edge == 2 || ((edge == 0 || edge == 3) && rise) || ((edge == 1 || edge == 4) && !rise)

/-- GPIO_WAKE_LATCH (13 R336): a GPIO line's asynchronous latch sees a transition in Stop. -/
def execGpioWakeLatch (pin : Fin 16) (rise : Bool) (s : State) : Host.Outcome State Fault Refusal :=
  let c := s.rep.evc.cfg (1040 + pin.val)
  .next <|
    if s.pwr.state ≠ .stop ∨ (srcPrio c = 0 ∧ srcWake c = false) ∨ edgeNamed (srcEdge c) rise = false then s
    else
      let s := s.report (fun r =>
        { r with evc := { r.evc with line := r.evc.line.upd {} (16 + pin.val) (fun x => { x with latch := true }) } })
      if srcWake c && bit s.wakeEn 1 then s.wake 2 else s

/-- PWR_WAKE_N_FALL (14 R343, R351): the field die's wake, named by its report later. -/
def execPwrWakeNFall (s : State) : Host.Outcome State Fault Refusal :=
  .next (if bit s.wakeEn 2 then s.wake 0 else s)

/-- WAKE_DURING_ENTRY (14 R356): an enabled source fires at or after the request and before the commit point. -/
def execWakeDuringEntry (bit : Fin 3) (s : State) : Host.Outcome State Fault Refusal :=
  .next (if Machine.bit s.wakeEn bit.val && s.pwr.req != 0 && s.computeRuns then s.abandonEntry else s)

/-- A latch that caught an edge counts as one occurrence; a level-mode line is pending (13 R324, R336). -/
def State.applyLatch (s : State) (n : Nat) : State :=
  if (s.rep.evc.ext n).latch = false then s
  else
    let id := 1024 + n
    let s := s.report (fun r =>
      { r with evc := { r.evc with line := r.evc.line.upd {} n (fun x => { x with latch := false }) } })
    let s := if s.rep.evc.levelMode id then
        s.report (fun r =>
          ({ r with evc := { r.evc with st := r.evc.st.upd {} id (fun x => { x with pending := !x.inService }) } } : Reporting).evaluate
            s.env (srcTarget (r.evc.cfg id)))
      else s.occur id
    s.count 0x28B0 6

/-- STOP_EXIT_COMPLETE (14 R353): the clocks run again. -/
def execStopExitComplete (s : State) : Host.Outcome State Fault Refusal :=
  .next <|
    if s.pwr.state ≠ .stop ∨ s.pwr.stopDue = false then s
    else
      let s := { s with pwr := { s.pwr with state := .run, stopDue := false, last := 2, wakeEvent := some 2 } }
      (List.range 16).foldl (fun s k => s.applyLatch (16 + k)) s

end Machine
end Sys2Proof
end

