-- ==== Sys2Proof/Machine/Flash.lean ====
section
/-!
DEFINITION. On-chip flash: erasing and programming, the boot record, the firmware image's check, and the fused level (17 R412-R419).
-/
namespace Sys2Proof
namespace Machine

/-! ### CRC-32 (IEEE 802.3 polynomial) -/

/-- One bit of the reflected CRC. -/
def crcBit (c : BitVec 32) : BitVec 32 := if c.getLsbD 0 then (c >>> 1) ^^^ 0xEDB88320#32 else c >>> 1

/-- One byte of the reflected CRC. -/
def crcByte (c : BitVec 32) (b : Byte) : BitVec 32 :=
  crcBit (crcBit (crcBit (crcBit (crcBit (crcBit (crcBit (crcBit (c ^^^ b.setWidth 32))))))))

/-- CRC-32 of a byte string. -/
def crc32 (d : List Byte) : BitVec 32 := ~~~ (d.foldl crcByte 0xFFFFFFFF#32)

/-! ### Erasing and programming (17 R412, R413) -/

/-- Flash is erased from `a` on for `n` bytes. -/
def State.erased (s : State) (a n : Nat) : Bool := (s.peek a n).all (· == 0xFF)

/-- The shipped images are no longer as made once their regions change; an erased download log holds nothing (17 R420, R442). -/
def State.touchFlash (s : State) (a : Nat) (erase : Bool) : State :=
  { s with boot := { s.boot with
    shipA := s.boot.shipA && !decide (0x20000 ≤ a ∧ a < 0x320000)
    shipBull := s.boot.shipBull && !decide (0x620000 ≤ a ∧ a < 0x7A0000)
    dlLen := if erase = true ∧ a / 4096 = 0x12 then none else s.boot.dlLen
    dlCrc := if erase = true ∧ a / 4096 = 0x12 then [] else s.boot.dlCrc } }

/-- Erase the sector of an address. -/
def State.eraseSector (s : State) (a : Nat) : State :=
  ((s.poke (a / 4096 * 4096) (List.replicate 4096 0xFF)).touchFlash a true).count 0x28E0 7

/-- Erase `n` sectors from the one of an address on. -/
def State.eraseSectors (s : State) (a n : Nat) : State := (List.range n).foldl (fun s i => s.eraseSector (a + 4096 * i)) s

/-- What programming leaves: an erased byte takes the new value, any other is undefined (log entry 38). -/
def mergeFlash : Nat → List Byte → List Byte → List Byte
  | _, [], _ => []
  | _, _, [] => []
  | i, o :: os, b :: bs => (if o = 0xFF then b else Config.freeByte i) :: mergeFlash (i + 1) os bs

/-- Program bytes of flash. -/
def State.program32 (s : State) (a : Nat) (x : List Byte) : State :=
  let y := mergeFlash s.free (s.peek a x.length) x
  let s := (s.poke a y).touchFlash a false
  { s with free := s.free + x.length }

/-! ### The boot record (17 R418, R419) -/

/-- The fields of Table 17-5. -/
structure BootRec where
  seq : Nat := 0
  stA : Nat := 0
  stB : Nat := 0
  conf : Nat := 0xFF
  trial : Nat := 0xFF
  boots : Nat := 0
  result : Nat := 0
  fallback : Nat := 0
  runDef : Bool := false
  count : Nat := 0
  lpcfg : List Byte := 0xFF :: List.replicate 15 0
  deriving DecidableEq, Repr

/-- Bytes 0-4,059. -/
def recBody (r : BootRec) : List Byte :=
  leBytes 4 0x4A524252 ++ leBytes 4 r.seq ++ leBytes 1 r.stA ++ leBytes 1 r.stB ++ leBytes 1 r.conf ++ leBytes 1 r.trial
    ++ leBytes 1 r.boots ++ leBytes 1 r.result ++ leBytes 1 r.fallback ++ leBytes 1 (bitIf r.runDef 0) ++ leBytes 4 r.count
    ++ slice r.lpcfg 0 16 ++ List.replicate 4024 0

/-- A copy is valid: MAGIC, CRC and COMMIT. -/
def recValid (b : List Byte) : Bool :=
  field b 0 4 == 0x4A524252 && field b 4060 4 == (crc32 (b.take 4060)).toNat && field b 4064 4 == field b 4 4

/-- The fields of a copy's bytes. -/
def recOf (b : List Byte) : BootRec :=
  { seq := field b 4 4, stA := field b 8 1, stB := field b 9 1, conf := field b 10 1, trial := field b 11 1, boots := field b 12 1
    result := field b 13 1, fallback := field b 14 1, runDef := bit (field b 15 1) 0, count := field b 16 4, lpcfg := slice b 20 16 }

/-- First address of a boot record copy. -/
def recBase (k : Nat) : Nat := 0x10000 + 0x1000 * k

/-- A copy, where it is valid. -/
def State.bootCopy (s : State) (k : Nat) : Option BootRec :=
  let b := s.peek (recBase k) 4096
  if recValid b then some (recOf b) else none

/-- The copy in force: of two valid ones, the one with the higher SEQ. -/
def State.recInForce (s : State) : Option (Nat × BootRec) :=
  match s.bootCopy 0, s.bootCopy 1 with
  | some a, some b => if a.seq < b.seq then some (1, b) else some (0, a)
  | some a, none => some (0, a)
  | none, some b => some (1, b)
  | none, none => none

/-- The boot record; where no copy is valid, an empty one. -/
def State.bootRec (s : State) : BootRec :=
  match s.recInForce with
  | some (_, r) => r
  | none => {}

/-- Write the boot record to the copy that is not in force: erase, bytes 0-4,063, COMMIT last. -/
def State.writeBootRec (s : State) (f : BootRec → BootRec) : State :=
  let k := match s.recInForce with | some (k, _) => 1 - k | none => 0
  let r0 := s.bootRec
  let r := { f r0 with seq := (r0.seq + 1) % 2 ^ 32 }
  let b := recBody r
  let s := s.eraseSector (recBase k)
  let s := s.program32 (recBase k) (b ++ leBytes 4 (crc32 b).toNat)
  s.program32 (recBase k + 4064) (leBytes 4 r.seq ++ List.replicate 28 0)

/-- State of slot A or B in a record. -/
def BootRec.slot (r : BootRec) (k : Nat) : Nat := if k = 0 then r.stA else r.stB

/-- Set the state of slot A or B. -/
def BootRec.setSlot (r : BootRec) (k v : Nat) : BootRec := if k = 0 then { r with stA := v } else { r with stB := v }

/-- Slot states (16 R398). -/
def slotCode : SlotState → Nat
  | .empty => 0 | .downloading => 1 | .unverified => 2 | .verified => 3 | .trial => 4 | .confirmed => 5 | .failed => 6

/-- The slot has a state in the record. -/
def BootRec.slotIs (r : BootRec) (k : Nat) (x : SlotState) : Bool := r.slot k == slotCode x

/-- Put a slot in a state. -/
def BootRec.mark (r : BootRec) (k : Nat) (x : SlotState) : BootRec := r.setSlot k (slotCode x)

/-! ### Images (17 R415-R417) -/

/-- First address of slot A (0), slot B (1) or the Bullpen (2). -/
def imgBase (k : Nat) : Nat := if k = 0 then 0x20000 else if k = 1 then 0x320000 else 0x620000

/-- Bytes of a slot. -/
def imgSpace (k : Nat) : Nat := if k = 2 then 0x180000 else 0x300000

/-- A field of an image's header. -/
def State.img (s : State) (k off len : Nat) : Nat := s.peekNat (imgBase k + off) len

/-- IMAGE_LENGTH of the image in a slot. -/
def State.imgLen (s : State) (k : Nat) : Nat := s.img k 16 4

/-- SECURITY_LEVEL of the image in a slot; at most 64. -/
def State.imgLevel (s : State) (k : Nat) : Nat := min 64 (s.img k 8 1)

/-- The slot holds the image it left the factory with (17 R442). -/
def State.shipped (s : State) (k : Nat) : Bool := (k == 0 && s.boot.shipA) || (k == 2 && s.boot.shipBull)

/-- NEEDS_LP; the shipped images do not need LPDDR5X (log entry 39). -/
def State.needsLp (s : State) (k : Nat) : Bool := !s.shipped k && bit (s.img k 9 1) 0

/-- The fused anti-rollback level: the highest blown bit plus 1 (17 R415). -/
def Fuses.level (f : Fuses) : Nat := (List.range 64).foldl (fun l k => if f.rollback.getLsbD k then k + 1 else l) 0

/-- A key-hash slot. -/
def Fuses.key (f : Fuses) (k : Nat) : List Byte := f.keyHash.at (Config.shippedKeyHash k) k

/-- Key-hash slots that an image's public key matches; the shipped images are signed with key 0 (log entry 39). -/
def State.keyMatches (s : State) (k : Nat) : List Nat :=
  if s.shipped k then [0]
  else
    let h := Config.sha256 (s.peek (imgBase k + 40) 64)
    (List.range 4).filter (fun i => s.boot.fuses.key i == h)

/-- Unrevoked key-hash slots that it matches; the lowest is KEY_SLOT. -/
def State.keysLeft (s : State) (k : Nat) : List Nat := (s.keyMatches k).filter (fun i => !s.boot.fuses.revoke.getLsbD i)

/-- Test 1 of R417: the header's format. -/
def State.imageFormat (s : State) (k : Nat) : Bool :=
  let b := s.peek (imgBase k) 256
  let len := field b 16 4
  let inside (o l : Nat) : Bool := decide (field b l 4 ≤ 262144) && decide (field b o 4 + field b l 4 ≤ len)
  field b 0 4 == 0x4A524E46 && decide (320 ≤ len ∧ len ≤ imgSpace k)
    && decide (field b 20 4 < len) && inside 24 28 && inside 32 36
    && field b 14 2 == 0 && bits (field b 9 1) 2 6 == 0 && (b.drop 104).all (· == 0)
    && (!bit (field b 9 1) 1 || k == 2)

/-- Test 3 of R417: the signature over every byte before it. -/
def State.imageSigned (s : State) (k : Nat) : Bool :=
  let n := s.imgLen k - 64
  Config.ecdsaP256 (s.peek (imgBase k + 40) 64) (Config.sha256 (s.peek (imgBase k) n)) (s.peek (imgBase k + n) 64)

/-- The check of an image: 1 OK, else the result of the first test that fails (17 R417). -/
def State.imageCheck (s : State) (k : Nat) : Nat :=
  if !s.shipped k && !s.imageFormat k then 6
  else if (s.keyMatches k).isEmpty then 3
  else if (s.keysLeft k).isEmpty then 4
  else if !s.shipped k && !s.imageSigned k then 3
  else if k ≠ 2 ∧ s.imgLevel k < s.boot.fuses.level then 5
  else 1

/-- Raise the fused level: bits up to n − 1 are blown (17 R415). -/
def State.raiseLevel (s : State) (n : Nat) : State :=
  if s.boot.fuses.level < n then
    { s with boot := { s.boot with fuses := { s.boot.fuses with
        rollback := s.boot.fuses.rollback ||| BitVec.ofNat 64 (2 ^ n - 1) } } }
  else s

end Machine
end Sys2Proof
end

