-- ==== Sys2Proof/Machine/Entries.lean ====
section
/-!
DEFINITION. Defaults of the dictionary's entries, the persistent entries that differ from them, and the scopes of store and restore (16 R386-R395, Tables 16-4, 16-5).
-/
namespace Sys2Proof
namespace Machine

/-! ### CAN port settings -/

/-- A setting of 2E00h + p as the dictionary holds it (15 Table 15-5). -/
def State.canNum (s : State) (p sub : Nat) : Nat :=
  s.num (0x2E00 + p) sub (if sub = 1 then (if p = 0 then 1 else 0) else entryDflt 0x2E00 sub)

/-- A setting of subindices 01-0B in force on a port (15 R365). -/
def State.canSet (s : State) (p sub : Nat) : Nat := (s.port p).force sub (s.canNum p sub)

/-- The node-ID in force on a port (15 R369). -/
def State.nodeId (s : State) (p : Nat) : Nat := s.canSet p 2

/-! ### Defaults (16 Tables 16-4, 16-5) -/

/-- Mapping entry of a default TPDO. -/
def tpdoMap : List (List Nat) :=
  [[0x21100120, 0x21100920], [0x20000920, 0x21001B08, 0x25000208, 0x25000308, 0x27000108], [0x28000120, 0x28000220],
   [0x28000320, 0x21001920]]

/-- Mapping entries of the default RPDO1: ADMIT of S1-S8. -/
def rpdoMap : List Nat := (List.range 8).map (fun i => 0x24012208 + 0x10000 * i)

/-- Default of a PDO record's subindex, with CAN0's node-ID. -/
def pdoDflt (id idx sub : Nat) : Nat :=
  let k := idx % 256
  let map (l : List Nat) : Nat := if sub = 0 then l.length else l.getD (sub - 1) 0
  if idx < 0x1600 then (if sub = 1 then (if k = 0 then 0x200 + id else 0x80000000) else if sub = 2 then 255 else 0)
  else if idx < 0x1800 then (if k = 0 then map rpdoMap else 0)
  else if idx < 0x1A00 then
    match sub with
    | 1 => if k < 4 then 0x180 + 0x100 * k + id else 0x80000000
    | 2 => 254
    | 3 => if k < 2 then 100 else if k < 4 then 1000 else 0
    | 5 => if k < 4 then 1000 else 0
    | _ => 0
  else if k < 4 then map (tpdoMap.getD k []) else 0

/-- Default of a scalar entry. -/
def State.dfltOf (s : State) (idx sub : Nat) : Nat :=
  if idx = 0x1014 then 0x80 + s.nodeId 0
  else if 0x1400 ≤ idx ∧ idx < 0x1B00 ∧ sub ≤ 0x40 then pdoDflt (s.nodeId 0) idx sub
  else if idx = 0x2E01 ∧ sub = 1 then 0
  else entryDflt idx sub

/-- Value of a writable scalar entry. -/
def State.val (s : State) (idx sub : Nat) : Nat := s.num idx sub (s.dfltOf idx sub)

/-- Default of a DOMAIN entry. -/
def domDflt (idx sub : Nat) : List Byte :=
  if 0x2300 ≤ idx ∧ idx ≤ 0x230F then ispDomDflt sub
  else if idx = 0x2320 then patchDflt
  else match entryRow idx sub with
    | .ok r => List.replicate ((r.ok.head?.map Prod.snd).getD 0) 0
    | .error _ => []

/-- Value of a writable DOMAIN entry. -/
def State.domVal (s : State) (idx sub : Nat) : List Byte := orDflt (s.od.cfg.dom? idx sub) (domDflt idx sub)

/-! ### Persistent entries (16 R390, R394, 17 R436) -/

/-- The entry's row, where it is persistent. -/
def persistRow (idx sub : Nat) : Option Row :=
  match entryRow idx sub with
  | .ok r => if r.persist then some r else none
  | .error _ => none

/-- Scopes of 1010h and 1011h. -/
def inScope (scope idx : Nat) : Bool :=
  let comm := decide (0x1000 ≤ idx ∧ idx < 0x2000) || idx == 0x2E00 || idx == 0x2E01
  let st := decide (0x2400 ≤ idx ∧ idx ≤ 0x241F)
  match scope with
  | 1 => true
  | 2 => comm
  | 3 => !comm && !st
  | _ => st

/-- Persistent entries whose value differs from its default, with their values as bytes. -/
def State.stored (s : State) : List (Nat × List Byte) :=
  let nums := s.od.cfg.num.filterMap (fun (x : Nat × Nat) =>
    match persistRow (x.1 / 256) (x.1 % 256) with
    | some r => if x.2 = s.dfltOf (x.1 / 256) (x.1 % 256) then none else some (x.1, leBytes r.ty.size x.2)
    | none => none)
  let doms := s.od.cfg.dom.filterMap (fun (x : Nat × List Byte) =>
    match persistRow (x.1 / 256) (x.1 % 256) with
    | some _ => if x.2 = domDflt (x.1 / 256) (x.1 % 256) then none else some (x.1, x.2)
    | none => none)
  nums ++ doms

/-- A stored value that its row accepts: the right length, and a scalar in range. -/
def storedOk (k : Nat) (v : List Byte) : Bool :=
  match persistRow (k / 256) (k % 256) with
  | none => false
  | some r =>
    if r.ty = .dom then r.ok.any (fun p => decide (p.1 ≤ v.length ∧ v.length ≤ p.2))
    else v.length == r.ty.size && r.inRange (leNat v)

/-- Put a stored value into the dictionary. -/
def State.putStored (s : State) (k : Nat) (v : List Byte) : State :=
  match persistRow (k / 256) (k % 256) with
  | none => s
  | some r =>
    if r.ty = .dom then { s with od := { s.od with cfg := s.od.cfg.setDom (k / 256) (k % 256) v } }
    else s.setNum (k / 256) (k % 256) (leNat v)

end Machine
end Sys2Proof
end

