-- ==== Sys2Proof/Machine/Settings.lean ====
section
/-!
DEFINITION. The settings areas: records, mark words, storing, marking for defaults, and loading a generation (17 R436-R439, 18 R449, 11 R296).
-/
namespace Sys2Proof
namespace Machine

/-! ### Records (17 R436) -/

/-- Bytes that pad a length to a multiple of 4. -/
def padTo4 (n : Nat) : Nat := (4 - n % 4) % 4

/-- One entry of a payload. -/
def payloadEntry (x : Nat × List Byte) : List Byte :=
  leBytes 2 (x.1 / 256) ++ leBytes 1 (x.1 % 256) ++ leBytes 3 x.2.length ++ x.2 ++ List.replicate (padTo4 (6 + x.2.length)) 0

/-- A payload of entries. -/
def payloadOf (l : List (Nat × List Byte)) : List Byte := l.flatMap payloadEntry

/-- The entries of a payload. -/
def entriesOf : Nat → List Byte → List (Nat × List Byte)
  | 0, _ => []
  | n + 1, b =>
    if b.length < 6 then []
    else
      let len := field b 3 3
      (key (field b 0 2) (field b 2 1), slice b 6 len) :: entriesOf n (b.drop (6 + len + padTo4 (6 + len)))

/-- A valid settings record. -/
structure SetRec where
  pos : Nat
  seq : Nat
  schema : Nat
  version : Nat
  payload : List Byte
  /-- Scopes marked for defaults, bit k − 1 for scope k. -/
  marks : Nat
  /-- Mark words. -/
  markWords : Nat
  deriving DecidableEq, Repr

/-- First address of a settings area. -/
def areaBase (k : Nat) : Nat := 0x7A0000 + 0x20000 * k

/-- Address of a 32-byte word of an area, in ring order. -/
def wordAddr (k w : Nat) : Nat := areaBase k + 32 * (w % 4096)

/-- Words that a payload takes. -/
def payloadWords (len : Nat) : Nat := (len + 31) / 32

/-- Words that a record takes: header, payload, commit word. -/
def SetRec.words (r : SetRec) : Nat := 2 + payloadWords r.payload.length

/-- The word after a record and its mark words. -/
def SetRec.end_ (r : SetRec) : Nat := r.pos + r.words + r.markWords

/-- Bytes of an area from a word on, in ring order. -/
def State.areaBytes (s : State) (k w n : Nat) : List Byte :=
  let at_ := 32 * w % 0x20000
  if at_ + n ≤ 0x20000 then s.peek (areaBase k + at_) n
  else s.peek (areaBase k + at_) (0x20000 - at_) ++ s.peek (areaBase k) (n - (0x20000 - at_))

/-- The run of mark words from a word on: their scopes and their number. -/
def State.readMarks (s : State) (k seq : Nat) : Nat → Nat → Nat × Nat
  | 0, _ => (0, 0)
  | n + 1, w =>
    let b := s.areaBytes k w 32
    if field b 0 4 = seq ∧ s.erased (wordAddr k w) 32 = false then
      let (m, c) := s.readMarks k seq n (w + 1)
      (m ||| field b 4 1, c + 1)
    else (0, 0)

/-- The header of a record. -/
def setHeader (seq slot schema version : Nat) (payload : List Byte) : List Byte :=
  leBytes 4 0x4A525354 ++ leBytes 4 seq ++ leBytes 1 slot ++ leBytes 2 schema ++ leBytes 4 version ++ leBytes 4 payload.length
    ++ leBytes 4 (crc32 payload).toNat ++ List.replicate 9 0

/-- The record that starts at a word, where it is valid. -/
def State.readSet (s : State) (k w : Nat) : Option SetRec :=
  let h := s.areaBytes k w 32
  let len := field h 15 4
  if field h 0 4 ≠ 0x4A525354 ∨ 61440 < len then none
  else
    let p := s.areaBytes k (w + 1) len
    let seq := field h 4 4
    let c := w + 1 + payloadWords len
    if field h 19 4 = (crc32 p).toNat ∧ leNat (s.areaBytes k c 32) = seq then
      let (m, n) := s.readMarks k seq 4096 (c + 1)
      some { pos := w, seq := seq, schema := field h 9 2, version := field h 11 4, payload := p, marks := m, markWords := n }
    else none

/-- Cut bytes into `c` pieces of `n`. -/
def cutWords (n : Nat) : Nat → List Byte → List (List Byte)
  | 0, _ => []
  | c + 1, b => b.take n :: cutWords n c (b.drop n)

/-- Words of an area that begin with a record's magic number. -/
def State.headWords (s : State) (k : Nat) : List Nat :=
  ((cutWords 32 4096 (s.peek (areaBase k) 0x20000)).zipIdx.filter (fun x => field x.1 0 4 == 0x4A525354)).map Prod.snd

/-- The newest valid record of an area. -/
def State.newest (s : State) (k : Nat) : Option SetRec :=
  (s.headWords k).foldl (fun (best : Option SetRec) w =>
    match s.readSet k w, best with
    | some r, none => some r
    | some r, some b => if b.seq < r.seq then some r else some b
    | none, b => b) none

/-! ### Writing an area (17 R437, 18 R449) -/

/-- Sectors, by number in the area, that hold the newest valid record or its mark words. -/
def State.keptSectors (s : State) (k : Nat) : List Nat :=
  match s.newest k with
  | none => []
  | some r => (List.range (r.words + r.markWords)).map (fun i => (r.pos + i) % 4096 / 128)

/-- The word at which the next record or mark word starts: the first after the newest that is erased or may be erased. -/
def State.nextWord (s : State) (k : Nat) : Nat :=
  let from_ := match s.newest k with | some r => r.end_ | none => 0
  let kept := s.keptSectors k
  let free (i : Nat) : Bool := s.erased (wordAddr k (from_ + i)) 32 || !kept.contains ((from_ + i) % 4096 / 128)
  (from_ + ((List.range 4096).find? free).getD 0) % 4096

/-- Erase the sectors ahead that `n` words from `w` on need. -/
def State.makeRoom (s : State) (k w n : Nat) : State :=
  let kept := s.keptSectors k
  let need := ((List.range n).filter (fun i => !s.erased (wordAddr k (w + i)) 32)).map (fun i => (w + i) % 4096 / 128)
  (need.eraseDups.filter (fun c => !kept.contains c)).foldl (fun s c => s.eraseSector (areaBase k + 4096 * c)) s

/-- Program words of an area in ring order. -/
def State.programWords (s : State) (k : Nat) : Nat → List Byte → Nat → State
  | _, _, 0 => s
  | w, b, n + 1 => (s.program32 (wordAddr k w) (slice b 0 32)).programWords k (w + 1) (b.drop 32) n

/-- Write a record: header, payload, and the commit word last. -/
def State.writeSet (s : State) (k schema version : Nat) (payload : List Byte) : State :=
  let seq := match s.newest k with | some r => (r.seq + 1) % 2 ^ 32 | none => 1
  let w := s.nextWord k
  let n := payloadWords payload.length
  let s := s.makeRoom k w (n + 2)
  let s := s.programWords k w (setHeader seq k schema version payload ++ payload) (n + 1)
  (s.program32 (wordAddr k (w + 1 + n)) (leBytes 32 seq)).count 0x28E0 5

/-- Program one mark word after the newest record; an area without a record has nothing to mark. -/
def State.writeMark (s : State) (k scope : Nat) : State :=
  match s.newest k with
  | none => s
  | some r =>
    let w := s.nextWord k
    (s.makeRoom k w 1).program32 (wordAddr k w) (leBytes 4 r.seq ++ leBytes 1 (2 ^ (scope - 1)) ++ List.replicate 27 0)

/-! ### Loading (16 R390, 11 R296, 17 R438) -/

/-- An entry lies in a scope that a mark sets to defaults. -/
def marked (marks idx : Nat) : Bool := (List.range 4).any (fun i => bit marks i && inScope (i + 1) idx)

/-- A record's entries but those of marked scopes. -/
def SetRec.entries (r : SetRec) : List (Nat × List Byte) :=
  (entriesOf r.payload.length r.payload).filter (fun x => !marked r.marks (x.1 / 256))

/-- A station's resource subindices or WINDOWS, which are restored as one set. -/
def inStationSet (k : Nat) : Bool :=
  decide (0x2400 ≤ k / 256 ∧ k / 256 ≤ 0x241F) && (resSize (k % 256) != 0 || k % 256 == 9)

/-- Entries that are never restored: ADMIT and a channel's ENABLE start from 0 (10 R278, 14 R354). -/
def notRestored (k : Nat) : Bool :=
  (decide (0x2400 ≤ k / 256 ∧ k / 256 ≤ 0x241F) && k % 256 == 0x22) || (decide (0x2200 ≤ k / 256 ∧ k / 256 ≤ 0x220F) && k % 256 == 1)

/-- The carvings of a restored set are complete before the windows that name them (06 R163). -/
def State.finishCarves (s : State) : State := (List.range 16).foldl (fun s w => s.endTransfer w) s

/-- Apply a station's set in ascending subindex order, windows last; none where R281 or R283 refuses it. -/
def State.restoreSet (s : State) (st : Nat) : List (Nat × List Byte) → Option State
  | [] => some s
  | (sub, v) :: r =>
    match (if sub = 9 then s.writeWindowSet st v else s.writeResource st sub v) with
    | (s', .ok) => s'.finishCarves.restoreSet st r
    | _ => none

/-- Restore one station: a set that is refused leaves it EMPTY (11 R296). -/
def State.restoreStation (s : State) (es : List (Nat × List Byte)) (st : Nat) : State :=
  let mine := (es.filter (fun x => x.1 / 256 == 0x2400 + st && inStationSet x.1)).map (fun x => (x.1 % 256, x.2))
  let order := (mine.filter (fun x => x.1 != 9)) ++ (mine.filter (fun x => x.1 == 9))
  match s.restoreSet st order with
  | some s' => s'
  | none => s.raise { code := 0x1F07, station := st, detail := 0x2400 + st }

/-- Load stored entries into a dictionary at its defaults: plain entries, then the stations in ascending order. -/
def State.loadEntries (s : State) (es : List (Nat × List Byte)) : State :=
  let es := sortBy (fun (a b : Nat × List Byte) => decide (a.1 ≤ b.1)) (es.filter (fun x => storedOk x.1 x.2 && !notRestored x.1))
  let s := (es.filter (fun x => !inStationSet x.1)).foldl (fun (s : State) x => s.putStored x.1 x.2) s
  (List.range 32).foldl (fun s st => s.restoreStation es st) s

/-- Both parameter sets of every pipeline take the values loaded (05 R154). -/
def State.loadPipelines (s : State) : State :=
  let mine (n : Nat) (k : Nat) : Bool := k / 256 == 0x2300 + n || k / 256 == 0x2320
  (List.range 16).foldl (fun s n => s.updPipe n (fun p => { p with act :=
    { num := s.od.cfg.num.filter (fun (x : Nat × Nat) => mine n x.1), dom := s.od.cfg.dom.filter (fun (x : Nat × List Byte) => mine n x.1) } })) s

/-- Started from defaults (17 R438). -/
def State.startDefaults (s : State) (detail : Nat) : State := s.raise { code := 0x1E08, detail := detail }

/-- A trial image that cannot read the settings fails its trial: one boot record write, then a reset of the compute die (17 R439). -/
def State.settingsUnreadable (s : State) : State :=
  let k := s.boot.slot
  (s.writeBootRec (fun r => { r.mark k .failed with result := 8, trial := 0xFF, runDef := false })).clearCompute 1

/-- Choose and load the settings generation of the image in force (17 R438); the Bullpen uses none (17 R429). -/
def State.selectSettings (s : State) : State :=
  let k := s.boot.slot
  if k = 2 then s
  else
    let version := s.img k 4 4
    let schema := s.img k 10 2
    let fallback (s : State) : State :=
      if s.boot.trial && s.bootRec.runDef then s.startDefaults 0
      else match s.newest (1 - k) with
        | none => s.startDefaults 1
        | some prev =>
          if s.img k 12 2 ≤ prev.schema ∧ prev.schema ≤ schema then
            let p := (Config.migrate prev.schema schema (payloadOf prev.entries)).take 61440
            ((s.writeSet k schema version p).loadEntries (entriesOf p.length p)).loadPipelines
          else if s.boot.trial then s.settingsUnreadable
          else s.startDefaults 1
    match s.newest k with
    | some own => if own.version = version then (s.loadEntries own.entries).loadPipelines else fallback s
    | none => fallback s

/-- The payload that a store of a scope writes: the scope's entries as they stand, the others as the newest record has them. -/
def State.storePayload (s : State) (scope : Nat) : List Byte :=
  let now := s.stored.filter (fun x => inScope scope (x.1 / 256))
  let before := match s.newest s.boot.slot with
    | some r => (entriesOf r.payload.length r.payload).filter (fun x => !inScope scope (x.1 / 256))
    | none => []
  payloadOf (now ++ before)

/-- What NMT reset node reloads: 1000h-1FFFh from the newest record of the slot in force (15 R371, 16 R394). -/
def State.reloadComm (s : State) : State :=
  let comm (k : Nat) : Bool := decide (0x1000 ≤ k / 256 ∧ k / 256 < 0x2000)
  let s := { s with od := { s.od with cfg := { s.od.cfg with num := s.od.cfg.num.filter (fun (x : Nat × Nat) => !comm x.1) } } }
  match if s.boot.slot = 2 then none else s.newest s.boot.slot with
  | none => s
  | some r => (r.entries.filter (fun x => comm x.1 && storedOk x.1 x.2)).foldl (fun (s : State) x => s.putStored x.1 x.2) s

end Machine
end Sys2Proof
end

