-- ==== Sys2Proof/Machine/Boot.lean ====
section
/-!
DEFINITION. The Proof stage from PORST_N release to the jump, the boot watchdog, and the boot registers' commands (17 R413, R421-R429, R438-R440; 06 R167, R168; 16 R411).
-/
namespace Sys2Proof
namespace Machine

/-! ### LPDDR5X (06 R165-R168, 17 Table 17-6 step 3) -/

/-- Total capacity that an external memory configuration block gives, both channels together. -/
def lpCapacity (cfg : List Byte) : Nat := 2 * 2 ^ (31 + field cfg 1 1)

/-- The block names a supported configuration. -/
def lpCfgOk (cfg : List Byte) : Bool :=
  decide (field cfg 0 1 ≤ 5 ∧ field cfg 1 1 ≤ 2) && (field cfg 2 1 == 1 || field cfg 2 1 == 2)

/-- Train LPDDR5X from the boot record's block; a configuration outside Table 6-6 fails to train (DEDUCED 40). -/
def State.trainLp (s : State) (trained : Bool) : State :=
  let cfg := s.bootRec.lpcfg
  if field cfg 0 1 = 0xFF then s
  else
    let inl := bit (field cfg 3 1) 0
    let cap := if inl then lpCapacity cfg / 8 * 7 else lpCapacity cfg
    let s := { s with mem := { s.mem with lpUsable := cap, lpInline := inl } }
    if trained && lpCfgOk cfg then s
    else (({ s with mem := { s.mem with lpFailed := true } } : State).count 0x2859 5).raise { code := 0x1505, detail := lpBase }

/-- LPDDR5X can be used. -/
def State.lpReady (s : State) : Bool := s.mem.lpUsable != 0 && !s.mem.lpFailed

/-! ### Choosing the image (17 R422, R423) -/

/-- Handle the trial at step 4, and a download that was cut off (17 R423, Table 17-10): the record and the events it raises. -/
def trialStep (r : BootRec) : BootRec × List Ev :=
  let cut (k : Nat) (r : BootRec) : BootRec := if r.slotIs k .downloading then r.mark k .empty else r
  let r := cut 1 (cut 0 r)
  if r.trial = 0xFF then (r, [])
  else if 3 ≤ r.boots then
    ({ r.mark r.trial .failed with result := 7, trial := 0xFF, boots := 0, runDef := false }, [{ code := 0x1E05 }])
  else ({ r with boots := r.boots + 1 }, [{ code := 0x1E04 }])

/-- The slot is TRIAL, CONFIRMED or VERIFIED. -/
def BootRec.tryable (r : BootRec) (k : Nat) : Bool := r.slotIs k .trial || r.slotIs k .confirmed || r.slotIs k .verified

/-- Candidates in order (17 R422). -/
def BootRec.candidates (r : BootRec) : List Nat :=
  let first := if r.trial ≠ 0xFF then r.trial else r.conf
  if first = 0xFF then [2]
  else
    let other := 1 - first
    (if r.tryable first then [first] else []) ++ (if r.slotIs other .confirmed || r.slotIs other .verified then [other] else []) ++ [2]

/-- A slot that fails R417: FAILED, its result kept; a failing trial ends with it (DEDUCED 41). -/
def BootRec.failSlot (r : BootRec) (k res : Nat) : BootRec :=
  let r := { r.mark k .failed with result := res }
  if r.trial = k then { r with trial := 0xFF, boots := 0, runDef := false } else r

/-- What trying candidates gives. -/
structure Choice where
  rec_ : BootRec
  events : List Ev := []
  /-- An image was passed over for LPDDR5X. -/
  passed : Bool := false
  pick : Option Nat := none
  deriving DecidableEq, Repr

/-- Try candidates until one passes. -/
def State.choose (s : State) : List Nat → Choice → Choice
  | [], c => c
  | k :: ks, c =>
    let res := s.imageCheck k
    if res ≠ 1 then
      s.choose ks (if k = 2 then c else
        { c with rec_ := c.rec_.failSlot k res, events := c.events ++ [{ code := if res = 5 then 0x1E02 else 0x1E01 }] })
    else if s.needsLp k && !s.lpReady then s.choose ks { c with passed := true }
    else { c with pick := some k }

/-- What the choice leaves in the record (17 R422). -/
def BootRec.booted (r0 r : BootRec) (k : Nat) : BootRec :=
  let first := if r0.trial ≠ 0xFF then r0.trial else r0.conf
  if k = 2 then { r with fallback := 2 }
  else if k = first then r
  else
    let r := if r.slotIs (1 - k) .confirmed then r.mark (1 - k) .verified else r
    { r.mark k .confirmed with conf := k, fallback := 1 }

/-! ### Starting the image (17 R421, R438) -/

/-- First address of a pressroom TCM. -/
def tcmBase (p : Nat) : Nat := 0x8000000 + p * 0x40000

/-- Load a pressroom hart's TCM from the slot in force (12 R299, R300). -/
def State.loadTcm (s : State) (p : Nat) : State :=
  let k := s.boot.slot
  let off := s.img k (24 + 8 * p) 4
  let len := min 262144 (s.img k (28 + 8 * p) 4)
  s.poke (tcmBase p) (s.peek (imgBase k + off) len)

/-- Raise several events. -/
def State.raiseAll (s : State) (l : List Ev) : State := l.foldl (fun s e => s.raise e) s

/-- The pressroom harts run, the event log runs, and what was raised before is entered (12 R299, 16 R411). -/
def State.startPressroom (s : State) : State :=
  let s := (s.loadTcm 0).loadTcm 1
  let s := { s with
    host := { s.host with press := (s.host.press.put 0 { run := true }).put 1 { run := true } }
    rep := { s.rep with running := true } }
  s.report id

/-- Jump to an image: locks, boot watchdog, pressroom, settings (17 Table 17-6 steps 6-9, R427, R438). -/
def State.jump (s : State) (k : Nat) (trial : Bool) : State :=
  let s := { s with boot := { s.boot with
    started := true, slot := k, trial := trial, keySlot := ((s.keysLeft k).head?).getD 0
    foundryLock := true, bullpenLock := true, wdog := if k = 2 then none else some s.clk.ref } }
  let s := if s.bootRec.slotIs k .confirmed && k != 2 then s.raiseLevel (s.imgLevel k) else s
  let s := if s.bootRec.result = 8 then s.raise { code := 0x1E07 } else s
  s.startPressroom.selectSettings

/-- Recovery: the loader runs on P0, from the Foundry block, and the host port may be configured (17 R428). -/
def State.recover (s : State) : State :=
  let tcm := (List.range 0x40000).map (fun i => Config.freeByte (s.free + i))
  let s := { s.poke (tcmBase 0) tcm with free := s.free + 0x40000 }
  let s := { s with
    boot := { s.boot with started := true, recovery := true }
    host := { s.host with press := s.host.press.put 0 { run := true } } }
  s.writeHpCtrl 1

/-- Halt with a code of Table 17-8. -/
def State.halt (s : State) (code : Nat) : State := { s with boot := { s.boot with halt := code } }

/-- The choice from a valid boot record. -/
def State.chooseFrom (s : State) (r : BootRec) : Choice :=
  let (r, ev) := trialStep r
  let c := s.choose r.candidates { rec_ := r, events := ev }
  match c.pick with
  | none => c
  | some k => { c with rec_ := r.booted c.rec_ k }

/-- The choice when both copies are invalid: each candidate as if VERIFIED, and a new record (17 R422). -/
def State.chooseBlank (s : State) : Choice :=
  let r : BootRec := (({} : BootRec).mark 0 .verified).mark 1 .verified
  let c := s.choose [0, 1, 2] { rec_ := r }
  match c.pick with
  | none => c
  | some k => { c with rec_ := if k = 2 then { c.rec_ with fallback := 2 } else { c.rec_.mark k .confirmed with conf := k } }

/-- The choice of step 4. -/
def State.choice (s : State) : Choice :=
  match s.recInForce with
  | some (_, r) => s.chooseFrom r
  | none => s.chooseBlank

/-- The events of an invalid boot record copy (17 R422). -/
def State.copyEvents (s : State) : List Ev :=
  match s.bootCopy 0, s.bootCopy 1 with
  | some _, some _ => []
  | none, none => [{ code := 0x1E0C, detail := 2 }]
  | _, _ => [{ code := 0x1E0C, detail := 1 }]

/-- The record that step 5 writes: the choice's, with the boot counted. -/
def bootedRec (c : Choice) (r : BootRec) : BootRec := { c.rec_ with seq := r.seq, count := (c.rec_.count + 1) % 2 ^ 32 }

/-- Steps 4 to 9 under BOOTMODE 00 and 01. -/
def State.bootFrom (s : State) (mode : Nat) : State :=
  let c := s.choice
  let s := s.raiseAll (c.events ++ s.copyEvents ++ (if c.pick = some 2 then [{ code := 0x1E03 }] else []))
  let s := s.writeBootRec (bootedRec c)
  match c.pick with
  | some k => s.jump k (c.rec_.trial == k)
  | none => if mode = 1 then s.recover else s.halt (if c.passed then 7 else 6)

/-- The compute die leaves reset: clocks run, PWR_HOLD rises, the Field Link trains, H0 starts (14 R343, R360, 01 R37, 12 R297). -/
def State.leaveReset (s : State) (mode : Nat) (vddioKept : Bool) : State :=
  let cause := if vddioKept then s.pwr.causeNext else 0
  let wdog := vddioKept && s.boot.lastWdog
  let s := s.clearCompute s.pwr.causeNext
  let s := { s with
    pwr := { s.pwr with state := .run, hold := true, cause := cause }
    boot := { s.boot with mode := mode, lastWdog := wdog }
    link := { s.link with training := true, lanes := if s.fd.on then 0xF else 0 }
    gk := { s.gk with passOn := [(8, true)] }
    host := { s.host with hart := s.host.hart.put 0 { out := true } } }
  if cause = 2 ∨ cause = 3 then s.raise { code := 0x1C02 } else s

/-- COMPUTE_RESET_RELEASE (17 R421): PORST_N is released and the Proof stage runs to its end, in one step. -/
def execComputeResetRelease (bootmode : Fin 4) (vddioKept lpTrained : Bool) (s : State) : Host.Outcome State Fault Refusal :=
  .next <|
    if s.pwr.state ≠ .off then s
    else
      let s := s.leaveReset bootmode.val vddioKept
      if s.boot.fuses.badCheck then s.halt 9
      else if bootmode.val = 3 then (if s.boot.fuses.factoryTestOff then s.halt 8 else s)
      else
        let s := s.trainLp lpTrained
        if bootmode.val = 2 then (s.writeBootRec (fun r => { r with count := (r.count + 1) % 2 ^ 32 })).recover
        else s.bootFrom bootmode.val

/-! ### The boot watchdog (17 R427) -/

/-- BOOT_WATCHDOG_EXPIRY: the compute die resets as by PORST_N, and LAST_WDOG reads 1 afterwards. -/
def execBootWatchdogExpiry (s : State) : Host.Outcome State Fault Refusal :=
  .next <|
    if s.boot.wdog.isNone then s
    else
      let s := s.clearCompute 1
      { s with boot := { s.boot with lastWdog := true } }

/-- BOOT_OK: a write of BOOT_CTRL. -/
def execBootOk (value : BitVec 32) (s : State) : Host.Outcome State Fault Refusal :=
  .next (if bit value.toNat 0 then { s with boot := { s.boot with bootOk := true, wdog := none } } else s)

/-! ### Boot registers (17 R413, R440) -/

/-- BOOT_LPCFG_WRITE: one boot record write; it takes effect at the next reset. -/
def execBootLpcfgWrite (value : BitVec 128) (s : State) : Host.Outcome State Fault Refusal :=
  .next (s.writeBootRec (fun r => { r with lpcfg := leBytes 16 value.toNat }))

/-- The slot is the one in force. -/
def State.slotRuns (s : State) (k : Nat) : Bool := s.boot.started && !s.boot.recovery && s.boot.slot == k

/-- Program and erase commands are refused at this address. -/
def State.flashLocked (s : State) (a : Nat) : Bool :=
  decide (a < 0x10000 ∨ (0x13000 ≤ a ∧ a < 0x20000) ∨ 0x7E0000 ≤ a)
    || (decide (0x620000 ≤ a ∧ a < 0x7A0000) && s.boot.bullpenLock)
    || (decide (0x20000 ≤ a ∧ a < 0x320000) && s.slotRuns 0) || (decide (0x320000 ≤ a ∧ a < 0x620000) && s.slotRuns 1)

/-- A flash command: refused with an error response and ERROR, or begun with BUSY. -/
def State.flashCommand (s : State) (f : State → Nat → State) : State :=
  let a := s.boot.flashAddr % 0x800000
  if s.flashLocked a then
    { s with boot := { s.boot with flashError := true }, out := { s.out with err := true } }
  else
    let s := f s a
    { s with boot := { s.boot with flashError := false, flashBusy := true }, out := { s.out with err := false } }

/-- FLASH_PROGRAM: BOOT_FLASH_CMD = 1. -/
def execFlashProgram (s : State) : Host.Outcome State Fault Refusal :=
  .next (s.flashCommand (fun s a => s.program32 (a / 32 * 32) (leBytes 32 s.boot.flashData.toNat)))

/-- FLASH_ERASE: BOOT_FLASH_CMD = 2. -/
def execFlashErase (s : State) : Host.Outcome State Fault Refusal :=
  .next (s.flashCommand (fun s a => s.eraseSector a))

/-- FLASH_COMMAND_COMPLETE: BUSY clears. -/
def execFlashCommandComplete (s : State) : Host.Outcome State Fault Refusal :=
  .next { s with boot := { s.boot with flashBusy := false } }

end Machine
end Sys2Proof
end

