-- ==== Sys2Proof/Machine/Update.lean ====
section
/-!
DEFINITION. Firmware update, keys, packages, store and restore, the long operations, and the clearing of counters and logs (00 R14, R15; 16 R394, R397-R405, R409; 17 R430-R437; 18 R453-R455; 08 R228).
-/
namespace Sys2Proof
namespace Machine

/-- Refused in the present state. -/
def State.refuse (s : State) : State × Resp := (s, .abort 0x08000020)

/-! ### Counters and logs (00 R14-R16, 16 R402, R409, 18 R453-R455) -/

/-- Clear one counter. -/
def State.clearCounter (s : State) (idx sub : Nat) : State :=
  { s with rep := { s.rep with cnt := s.rep.cnt.filter (fun (x : Nat × BitVec 32) => x.1 != key idx sub) } }

/-- Write a counter subindex. -/
def State.writeCounter (s : State) (idx sub v : Nat) : State × Resp :=
  match counterHigh idx with
  | none => (s, .abort 0x06020000)
  | some h =>
    if h < sub then (s, .abort 0x06090011)
    else if sub = 0 then (s, .abort 0x06010002)
    else if v = 0 then (s.clearCounter idx sub, .ok)
    else (s, .abort 0x06090030)

/-- An access to a register got an error response, or did not. -/
def State.regAnswer (s : State) (ok : Bool) : State := { s with out := { s.out with err := !ok } }

/-- COUNTER_CLEAR (00 R14, 18 R454): a write of a counter subindex or of its mirror. -/
def execCounterClear (index : BitVec 16) (sub : BitVec 8) (value : BitVec 32) (mirror : Bool) (s : State) :
    Host.Outcome State Fault Refusal :=
  .next <|
    if mirror then
      if !s.computeRuns then s
      else if isCounter index.toNat sub.toNat then
        (if value = 0 then (s.clearCounter index.toNat sub.toNat).regAnswer true else s.regAnswer false)
      else (s.count 0x285A 0x0F).regAnswer false
    else s.served index.toNat (fun s => s.writeCounter index.toNat sub.toNat value.toNat)

/-- Clear every counter of an object; none where no counter object has the index (18 R453). -/
def State.clearObject (s : State) (idx : Nat) : Option State :=
  match counterHigh idx with
  | none => none
  | some _ => some { s with rep := { s.rep with cnt := s.rep.cnt.filter (fun (x : Nat × BitVec 32) => x.1 / 256 != idx) } }

/-- COUNTER_OBJECT_CLEAR (00 R14, 18 R453, R455): an index written to 28FFh:01 or GK_CLEAR. -/
def execCounterObjectClear (index : BitVec 16) (viaRegister : Bool) (s : State) : Host.Outcome State Fault Refusal :=
  .next <|
    if viaRegister then
      if !s.computeRuns then s
      else match s.clearObject index.toNat with
        | some s' => s'.regAnswer true
        | none => s.regAnswer false
    else s.served 0x28FF (fun s => match s.clearObject index.toNat with
      | some s' => (s', .ok)
      | none => (s, .abort 0x06090030))

/-- ERROR_HISTORY_CLEAR (16 R409): a write of 1003h:00. -/
def execErrorHistoryClear (value : BitVec 8) (s : State) : Host.Outcome State Fault Refusal :=
  .next (s.served 0x1003 (fun s => if value = 0 then ({ s with rep := { s.rep with hist := [] } }, .ok) else (s, .abort 0x06090030)))

/-- EVENT_LOG_CLEAR (16 R402): a write of 2C00h:05; SEQ goes on. -/
def execEventLogClear (value : BitVec 8) (s : State) : Host.Outcome State Fault Refusal :=
  .next (s.served 0x2C00 (fun s => if value = 1 then ({ s with rep := { s.rep with log := [] } }, .ok) else (s, .abort 0x06090030)))

/-! ### Keys (16 R400) -/

/-- Write REVOKE; the recovery loader serves 2B00h read-only (17 R428). -/
def State.revokeKey (s : State) (v : Nat) : State × Resp :=
  let f := s.boot.fuses
  let r := f.revoke ||| BitVec.ofNat 4 (2 ^ v)
  if s.boot.recovery then (s, .abort 0x06010002)
  else if 3 < v then (s, .abort 0x06090030)
  else if v = s.boot.keySlot ∨ r = 0xF#4 then s.refuse
  else (({ s with boot := { s.boot with fuses := { f with revoke := r } } } : State).raise { code := 0x1E0B }, .ok)

/-- KEY_REVOKE (16 R400): the fuse of a key slot is blown. -/
def execKeyRevoke (value : BitVec 8) (s : State) : Host.Outcome State Fault Refusal :=
  .next (s.served 0x2B00 (fun s => s.revokeKey value.toNat))

/-! ### Firmware update (16 R399, 17 R430-R434) -/

/-- The inactive slot: the one not in force; under the Bullpen or in recovery the one that is not CONFIRMED_SLOT, A when neither is (17 R428, R430). -/
def State.inactive (s : State) : Nat :=
  if s.boot.recovery || s.boot.slot == 2 then (if s.bootRec.conf = 0 then 1 else 0) else 1 - s.boot.slot

/-- Blocks of an image. -/
def blocksOf (len : Nat) : Nat := (len + 4095) / 4096

/-- Bytes of block `b` of an image. -/
def blockLen (len b : Nat) : Nat := min 4096 (len - 4096 * b)

/-- The first block of an image that is not held (17 R431); the number of blocks when all are. -/
def State.firstMissing (s : State) (len : Nat) : Nat :=
  ((List.range (blocksOf len)).find? (fun b => !s.boot.dlCrc.any (fun (x : Nat × BitVec 32) => x.1 == b))).getD (blocksOf len)

/-- Show the progress of a download; once every block is held the slot is UNVERIFIED. -/
def State.progress (s : State) (k len : Nat) : State :=
  let s := { s with boot := { s.boot with nextBlock := s.firstMissing len, blocks := s.boot.dlCrc.length } }
  if s.boot.nextBlock = blocksOf len then s.writeBootRec (fun r => r.mark k .unverified) else s

/-- BEGIN. -/
def State.updateBegin (s : State) : State × Resp :=
  let r := s.bootRec
  let k := s.inactive
  let len := s.boot.imageLength
  if len = 0 ∨ r.slotIs 0 .trial = true ∨ r.slotIs 1 .trial = true then s.refuse
  else
    let s := s.writeBootRec (fun r => r.mark k .downloading)
    if s.num 0x2A00 5 0 = 1 ∧ s.boot.dlLen = some len ∧ s.boot.dlSlot = k then
      let kept := s.boot.dlCrc.filter (fun (x : Nat × BitVec 32) =>
        crc32 (s.peek (imgBase k + 4096 * x.1) (blockLen len x.1)) == x.2)
      (({ s with boot := { s.boot with dlCrc := kept } } : State).progress k len, .ok)
    else
      let s := (s.eraseSector (imgBase k)).eraseSector 0x12000
      ({ s with boot := { s.boot with dlLen := some len, dlSlot := k, dlCrc := [], nextBlock := 0, blocks := 0 } }, .ok)

/-- UPDATE_BEGIN (17 R430, R431). -/
def execUpdateBegin (s : State) : Host.Outcome State Fault Refusal := .next (s.served 0x2A00 (·.updateBegin))

/-- A BLOCK record. -/
def State.updateBlock (s : State) (data : List Byte) : State × Resp :=
  let k := s.inactive
  let b := field data 0 4
  let x := data.drop 8
  let len := s.boot.dlLen.getD 0
  if data.length < 9 ∨ 4104 < data.length then (s, .abort 0x06070010)
  else if s.bootRec.slotIs k .downloading = false ∨ b ≠ s.boot.nextBlock then (s.count 0x28E0 2).refuse
  else if x.length ≠ blockLen len b then (s.count 0x28E0 2, .abort 0x06070010)
  else if crc32 x ≠ BitVec.ofNat 32 (field data 4 4) then
    ((s.count 0x28E0 3).raise { code := 0x1E09 }, .abort 0x08000000)
  else
    let a := imgBase k + 4096 * b
    let s := if b = 0 ∧ s.erased a 4096 = true then s else s.eraseSector a
    let s := s.program32 a x
    let s := { s with boot := { s.boot with dlCrc := s.boot.dlCrc.put b (crc32 x) } }
    ((s.progress k len).count 0x28E0 1, .ok)

/-- UPDATE_BLOCK (16 R399, 17 R431). -/
def execUpdateBlock (data : List Byte) (s : State) : Host.Outcome State Fault Refusal := .next (s.served 0x2A00 (·.updateBlock data))

/-- VERIFY acts on the inactive slot. -/
def State.updateVerify (s : State) : State × Resp :=
  let k := s.inactive
  if s.bootRec.slotIs k .unverified || s.bootRec.slotIs k .verified then (s.startLong 5 255 k, .ok) else s.refuse

/-- UPDATE_VERIFY (17 R432). -/
def execUpdateVerify (s : State) : Host.Outcome State Fault Refusal := .next (s.served 0x2A00 (·.updateVerify))

/-- The work of a firmware verification: whether it passed (17 R430, R432). -/
def State.verifyImage (s : State) (k : Nat) : State × Bool :=
  let len := if s.boot.dlSlot = k then s.boot.dlLen.getD s.boot.imageLength else s.boot.imageLength
  let res := if s.imgLen k ≠ len then 6 else s.imageCheck k
  let s := { s with boot := { s.boot with secNew := s.imgLevel k } }
  let s := s.writeBootRec (fun r => { r.mark k (if res = 1 then .verified else .failed) with result := res })
  if res = 1 then (s, true) else ((s.count 0x28E0 4).raise { code := 0x1E0A }, false)

/-- ACTIVATE. -/
def State.updateActivate (s : State) : State × Resp :=
  let k := s.inactive
  let busy := (List.range 32).any (fun st => s.stState st == .admitting || s.stState st == .draining)
  if s.bootRec.slotIs k .verified = false ∨ (s.boot.recovery = false ∧ busy = true) then s.refuse
  else
    let s := s.writeBootRec (fun r => { r.mark k .trial with trial := k, boots := 0, runDef := s.boot.runDef, result := 1 })
    ({ s with boot := { s.boot with resetDue := true } }, .ok)

/-- UPDATE_ACTIVATE (17 R433). -/
def execUpdateActivate (s : State) : Host.Outcome State Fault Refusal := .next (s.served 0x2A00 (·.updateActivate))

/-- ACTIVATE_RESET (17 R433): 500 ms after the response the compute die resets as by PORST_N. -/
def execActivateReset (s : State) : Host.Outcome State Fault Refusal :=
  .next (if s.boot.resetDue then s.clearCompute 1 else s)

/-- CONFIRM. -/
def State.updateConfirm (s : State) : State × Resp :=
  let k := s.boot.slot
  if s.boot.recovery = true ∨ k = 2 ∨ s.bootRec.slotIs k .trial = false then s.refuse
  else
    let s := s.writeBootRec (fun r =>
      let r := if r.conf = 1 - k ∧ r.slotIs (1 - k) .confirmed then r.mark (1 - k) .verified else r
      { r.mark k .confirmed with conf := k, trial := 0xFF, boots := 0, runDef := false })
    let s := { s.raiseLevel (s.imgLevel k) with boot := { (s.raiseLevel (s.imgLevel k)).boot with trial := false } }
    (s.raise { code := 0x1E06 }, .ok)

/-- UPDATE_CONFIRM (17 R434). -/
def execUpdateConfirm (s : State) : Host.Outcome State Fault Refusal := .next (s.served 0x2A00 (·.updateConfirm))

/-- CANCEL. -/
def State.updateCancel (s : State) : State × Resp :=
  let k := s.inactive
  let r := s.bootRec
  if r.slotIs k .downloading || r.slotIs k .unverified || r.slotIs k .verified || r.slotIs k .failed then
    let s := (s.writeBootRec (fun r => r.mark k .empty)).eraseSector 0x12000
    ({ s with boot := { s.boot with nextBlock := 0, blocks := 0 } }, .ok)
  else s.refuse

/-- UPDATE_CANCEL (17 R434). -/
def execUpdateCancel (s : State) : Host.Outcome State Fault Refusal := .next (s.served 0x2A00 (·.updateCancel))

/-! ### Packages (16 R403, R404) -/

/-- Change a package slot. -/
def State.updPk (s : State) (p : Nat) (f : Package → Package) : State := { s with pkg := s.pkg.upd {} p f }

/-- A write that P1 makes as a station's access: checked by the Referee, then served (11 R285). -/
def State.writeAs (s : State) (st a : Nat) (x : List Byte) : State × Bool :=
  let req : Requester := .press 1
  match s.check req st a x.length .write with
  | some (l, cause) => (s.violation req st cause l 1 x.length (s.targetOwner l) 0, false)
  | none =>
    match s.memAccess st a (.write x) .none 0 with
    | (s, some _) => (s, true)
    | (s, none) => (s, false)

/-- One IMAGE segment. -/
def State.packageSegment (s : State) (p off : Nat) (last : Bool) (data : List Byte) : State × Resp :=
  let k := s.pk p
  let fresh := k.state == .empty || k.state == .failed
  if fresh = false ∧ k.state ≠ .loading then s.refuse
  else if off ≠ 0 ∧ (fresh = true ∨ off ≠ k.size) then (s, .abort 0x08000000)
  else
    let s := s.updPk p (fun k => { k with state := .loading, size := off, result := 0 })
    match (if data = [] then (s, true) else s.writeAs k.station (k.base + off) data) with
    | (s, false) => (s, .abort 0x06090030)
    | (s, true) =>
      let s := s.updPk p (fun k => { k with size := off + data.length })
      (if last then s.startLong 3 p 0 else s, .ok)

/-- PACKAGE_IMAGE_SEGMENT (16 R404). -/
def execPackageImageSegment (slot : Fin 64) (offset : BitVec 32) (last : Bool) (data : List Byte) (s : State) :
    Host.Outcome State Fault Refusal :=
  .next (s.served (0x3000 + slot.val) (fun s => s.packageSegment slot.val offset.toNat last data))

/-- What installation finds: the code of the first test that fails, 1 when none does (16 R404). -/
def State.installCheck (s : State) (p : Nat) : Nat :=
  let k := s.pk p
  let img := s.peek k.base k.size
  if !Config.packageFormat img then 2
  else if Config.packageLength img ≠ k.size then 6
  else if s.boot.fuses.grade = 1000 ∧ Config.packageGrade img = 1200 then 5
  else if (s.windows k.station).any (fun w => w.w && w.holds k.base && decide (k.base + k.size ≤ w.last + 1)) then 1
  else 3

/-- The work of an installation. -/
def State.installPackage (s : State) (p : Nat) : State × Bool :=
  let k := s.pk p
  let res := s.installCheck p
  if res = 1 then
    let img := (Config.packageRelocate k.base (s.peek k.base k.size)).take k.size
    ((s.poke k.base img).updPk p (fun k => { k with state := .installed, result := 1 }), true)
  else (s.updPk p (fun k => { k with state := .failed, result := res }), false)

/-- VERIFY of a package slot. -/
def State.packageVerify (s : State) (p : Nat) : State × Resp :=
  if pkgReady (s.pk p).state then (s.startLong 4 p 0, .ok) else s.refuse

/-- PACKAGE_VERIFY (16 R404). -/
def execPackageVerify (slot : Fin 64) (s : State) : Host.Outcome State Fault Refusal := .next (s.served (0x3000 + slot.val) (·.packageVerify slot.val))

/-- The work of a package verification. -/
def State.verifyPackage (s : State) (p : Nat) : State × Bool :=
  let k := s.pk p
  if Config.packageDigest k.base (s.peek k.base k.size) then (s.updPk p (fun k => { k with state := .verified, result := 1 }), true)
  else (s.updPk p (fun k => { k with state := .failed, result := 4 }), false)

/-- REMOVE: refused while a station in ADMITTING or DRAINING names the slot. -/
def State.packageRemove (s : State) (p : Nat) : State × Resp :=
  if (List.range 32).any (fun st => s.stNum st 0x20 == p && (s.stState st == .admitting || s.stState st == .draining)) then s.refuse
  else (s.updPk p (fun k => { k with state := .empty, size := 0, result := 0 }), .ok)

/-- PACKAGE_REMOVE (16 R404). -/
def execPackageRemove (slot : Fin 64) (s : State) : Host.Outcome State Fault Refusal := .next (s.served (0x3000 + slot.val) (·.packageRemove slot.val))

/-! ### Store and restore (16 R394, 17 R437) -/

/-- A write of 1010h: "save" starts a store; the Bullpen refuses it (17 R429, R437). -/
def State.writeStore (s : State) (scope v : Nat) : State × Resp :=
  if v = 0x65766173 ∧ s.boot.slot ≠ 2 then (s.startLong 1 scope 0, .ok) else s.refuse

/-- STORE_PARAMETERS (17 R437). -/
def execStoreParameters (scope : Fin 4) (value : BitVec 32) (s : State) : Host.Outcome State Fault Refusal :=
  .next (s.served 0x1010 (·.writeStore (scope.val + 1) value.toNat))

/-- A write of 1011h: "load" marks the scope for defaults (16 R394). -/
def State.writeRestore (s : State) (scope v : Nat) : State × Resp :=
  if v = 0x64616F6C then (s.startLong 2 scope 0, .ok) else s.refuse

/-- RESTORE_DEFAULTS (16 R394). -/
def execRestoreDefaults (scope : Fin 4) (value : BitVec 32) (s : State) : Host.Outcome State Fault Refusal :=
  .next (s.served 0x1011 (·.writeRestore (scope.val + 1) value.toNat))

/-- The work of a store: too large a payload or a failed programming leaves the previous generation (17 R437). -/
def State.storeSettings (s : State) (scope : Nat) (ok : Bool) : State × Bool :=
  let k := s.boot.slot
  let p := s.storePayload scope
  if ok = false ∨ 61440 < p.length then ((s.count 0x28E0 6).raise { code := 0x1F06 }, false)
  else (s.writeSet k (s.img k 10 2) (s.img k 4 4) p, true)

/-! ### Long operations (16 R405) -/

/-- The full test of the cores named by TEST ends (08 R228). -/
def State.finishTest (s : State) (failed : Nat) : State × Bool :=
  let cs := (List.range 16).filter (fun c => bit s.nc.testing c && (s.core c).state == .testing)
  let bad := cs.filter (fun c => bit failed c)
  let s := { s with nc := { s.nc with testing := 0, failed := 0, lastTest := (bad.map (fun c => 2 ^ c)).sum * 2 ^ 16 + s.nc.testing } }
  let s := cs.foldl (fun s c => if bit failed c then s.retireCore c 3 else (s.zeroCore c).coreFree c) s
  (s, bad.isEmpty)

/-- An operation waits for something that has not ended: slugs of cores under test. -/
def State.longWaits (s : State) (o : LongOp) : Bool :=
  o.code == 6 && (List.range 16).any (fun c => bit s.nc.testing c && (s.core c).state == .running)

/-- The work of a long operation, done at its end, and whether it succeeded. -/
def State.longWork (s : State) (o : LongOp) (ok : Bool) (failed : Nat) : State × Bool :=
  match o.code with
  | 1 => s.storeSettings o.inst ok
  | 2 => if ok then (if s.boot.slot = 2 then s else s.writeMark s.boot.slot o.inst, true) else (s, false)
  | 3 => s.installPackage o.inst
  | 4 => s.verifyPackage o.inst
  | 5 => s.verifyImage o.arg
  | 6 => s.finishTest failed
  | _ => (s.tearDown o.inst, true)

/-- The busy period ends and EV-1F05 is raised; result 0 OK, 1 FAILED, 2 TIMEOUT. -/
def State.endLong (s : State) (o : LongOp) (result : Nat) : State :=
  ({ s with od := { s.od with longop := none } } : State).raise
    { code := 0x1F05, unit := o.code, detail := result + 256 * o.inst }

/-- LONG_OPERATION_COMPLETE (16 R405). -/
def execLongOperationComplete (ok : Bool) (failed : BitVec 16) (s : State) : Host.Outcome State Fault Refusal :=
  .next <|
    match s.od.longop with
    | none => s
    | some o =>
      if s.longWaits o then s
      else
        let (s, good) := s.longWork o ok failed.toNat
        s.endLong o (if good then 0 else 1)

/-- LONG_OPERATION_TIMEOUT (16 R405): its object shows the state it had reached. -/
def execLongOperationTimeout (s : State) : Host.Outcome State Fault Refusal :=
  .next <|
    match s.od.longop with
    | none => s
    | some o => s.endLong o 2

end Machine
end Sys2Proof
end

