-- ==== Sys2Proof/Machine/Upkeep.lean ====
section
/-!
DEFINITION. The Groundskeeper: patrol scrubs, forced mode, PHY calibration, erase-ahead and telemetry (18 R443-R451, R456; 06 R169, R172).
Resources 0-7 are the Deep Store channels, 8 is the Ring Table.
-/
namespace Sys2Proof
namespace Machine

/-! ### Damage (06 R172) -/

/-- First address of a ring descriptor. -/
def ringAddr (r : Nat) : Nat := 0x20000000 + 32 * r
/-- First address of a quoin entry. -/
def quoinAddr (q : Nat) : Nat := 0x20200000 + 8 * q

/-- What an ECC check of a ring descriptor finds. -/
def State.ringEcc (s : State) (r : Nat) (err : MemErr) : State :=
  match err with
  | .corrected => s.count 0x285A 5
  | .uncorrectable => ((s.putRing r { s.ring r with damaged := true }).count 0x285A 6).raise { code := 0x1506, detail := ringAddr r }
  | _ => s

/-- What an ECC check of a quoin entry finds. -/
def State.quoinEcc (s : State) (q : Nat) (err : MemErr) : State :=
  match err with
  | .corrected => s.count 0x285A 7
  | .uncorrectable =>
    (((s.putQuoin q { s.quoin q with damaged := true }).count 0x285A 8).raise { code := 0x1506, detail := quoinAddr q }).failParked q
  | _ => s

/-! ### Passes (18 R443, R444, R456) -/

/-- A pass runs on the resource; a fenced channel has none. -/
def State.passRuns (s : State) (r : Nat) : Bool :=
  s.gk.passOn.at false r && !(decide (r < 8) && (s.chan r).fenced)

/-- The Groundskeeper works (18 R443, R451). -/
def State.gkRuns (s : State) : Bool := s.computeRuns

/-- Words or descriptors of a pass. -/
def passLen (r : Nat) : Nat := if r = 8 then 65536 else 393216

/-- The next read of a pass, which starts one where none runs; its number. -/
def State.passRead (s : State) (r : Nat) : State × Nat :=
  if s.gk.passOn.at false r then (s, s.gk.pass.at 0 r)
  else ({ s with gk := { s.gk with passOn := s.gk.passOn.put r true, pass := s.gk.pass.put r 0, late := s.gk.late.put r false } }, 0)

/-- A read of a pass is done; at its end the pass counts and the resource yields again (18 R445). -/
def State.passStep (s : State) (r i : Nat) : State :=
  if i + 1 < passLen r then { s with gk := { s.gk with pass := s.gk.pass.put r (i + 1) } }
  else
    let s := { s with gk := { s.gk with
      passOn := s.gk.passOn.put r false, pass := s.gk.pass.put r 0, late := s.gk.late.put r false
      forced := s.gk.forced.put r false, interval := s.gk.interval.put r false } }
    if r = 8 then s.count 0x28F0 1 else s.count (0x2850 + r) 4

/-- DEEP_STORE_SCRUB_READ (18 R444, 06 R169, R170): one 64-byte word of a channel is read in slot 0. -/
def execDeepStoreScrubRead (ch : Fin 8) (err : MemErr) (s : State) : Host.Outcome State Fault Refusal :=
  let c := ch.val
  .next <|
    if !s.gkRuns || !(s.chan c).ready || (s.chan c).fenced then s
    else
      let (s, i) := s.passRead c
      let a := dsBase c + 64 * i
      let s := match err with
        | .corrected =>
          (s.count (0x2850 + c) 1).updChan c (fun d => { d with fix := if d.fix.contains (a / 8) then d.fix else d.fix ++ [a / 8] })
        | .uncorrectable => s.dsUncorrectable c a
        | _ => s
      if (s.chan c).fenced then s else s.passStep c i

/-- RING_TABLE_SCRUB_READ (18 R444): one descriptor is read in a cycle that carries no ring operation. -/
def execRingTableScrubRead (err : MemErr) (s : State) : Host.Outcome State Fault Refusal :=
  .next <|
    if !s.gkRuns then s
    else
      let (s, i) := s.passRead 8
      (s.ringEcc i err).passStep 8 i

/-- SCRUB_PASS_LATE (18 R444): counted once for the pass, which carries on. -/
def execScrubPassLate (res : Fin 9) (s : State) : Host.Outcome State Fault Refusal :=
  let r := res.val
  .next <|
    if !s.gkRuns || !s.passRuns r || s.gk.late.at false r then s
    else ({ s with gk := { s.gk with late := s.gk.late.put r true } } : State).count 0x28F0 (if r = 8 then 3 else 2)

/-- SCRUB_FORCED_MODE (18 R445): ten target periods have passed since the pass started. -/
def execScrubForcedMode (res : Fin 9) (s : State) : Host.Outcome State Fault Refusal :=
  let r := res.val
  .next <|
    if !s.gkRuns || !s.passRuns r || s.gk.forced.at false r then s
    else ({ s with gk := { s.gk with forced := s.gk.forced.put r true } } : State).raise
      { code := 0x1F02, unit := if r = 8 then 255 else r }

/-- FORCED_INTERVAL_START (18 R445): intervals on one resource start at least 10 ms apart. -/
def execForcedIntervalStart (res : Fin 9) (s : State) : Host.Outcome State Fault Refusal :=
  let r := res.val
  let early := match s.gk.lastInt.at none r with
    | none => false
    | some t => decide (s.clk.ref < t + 10 * Config.psPerMs)
  .next <|
    if !s.gkRuns || !s.passRuns r || !s.gk.forced.at false r || s.gk.interval.at false r || early then s
    else
      ({ s with gk := { s.gk with
          interval := s.gk.interval.put r true, lastInt := s.gk.lastInt.put r (some s.clk.ref) } } : State).count 0x28F0 4

/-- FORCED_INTERVAL_END (18 R446): 1,000 µs after it began. -/
def execForcedIntervalEnd (res : Fin 9) (s : State) : Host.Outcome State Fault Refusal :=
  .next { s with gk := { s.gk with interval := s.gk.interval.put res.val false } }

/-! ### PHY calibration (18 R447, R448) -/

/-- A D-PHY channel above 1,500 Mbit/s that has had its initial deskew (04 R106). -/
def State.calibrates (s : State) (n : Nat) : Bool :=
  s.icn n 2 == 0 && decide (1500 < s.icn n 4) && (s.intake n).deskewed

/-- The bound trigger's next installed cue lies at least 40 µs of travel ahead, or the clock stands still. -/
def State.cueFar (s : State) (n : Nat) : Bool :=
  let st := s.channelOwner n
  let v := s.viewAt (s.stClock st)
  let here := v.pos.toNat / 256
  v.health == 1 || (s.rs.cue.filter (fun (x : Nat × CueUse) =>
    x.2.used && !x.2.kick && x.2.station == st && (chanLine (s.layout st) x.2.line).channel == n)).all (fun x =>
      !after 48 x.2.pos here || decide (v.vel * 40 ≤ (((x.2.pos + 2 ^ 48 - here) % 2 ^ 48 * 1000000 : Nat) : Int)))

/-- PHY_CALIBRATION_START (18 R447). -/
def execPhyCalibrationStart (ch : Fin 16) (s : State) : Host.Outcome State Fault Refusal :=
  let n := ch.val
  .next <|
    if s.gkRuns && s.gk.calEn && s.gk.calDue.at false n && s.calibrates n && (s.intake n).state == .ready
        && (s.intake n).exps.isEmpty && s.cueFar n then
      { s with gk := { s.gk with calRun := s.gk.calRun.put n true } }
    else s

/-- PHY_CALIBRATION_COMPLETE (18 R447): 25 µs after its start. -/
def execPhyCalibrationComplete (ch : Fin 16) (s : State) : Host.Outcome State Fault Refusal :=
  let n := ch.val
  .next <|
    if !s.gkRuns || !s.gk.calRun.at false n then s
    else
      ({ s with gk := { s.gk with
          calRun := s.gk.calRun.put n false, calDue := s.gk.calDue.put n false, calDone := s.gk.calDone.put n true
          calMiss := s.gk.calMiss.put n 0, calTemp := s.gk.calTemp.put n s.gk.temp } } : State).count 0x28F0 5

/-- CALIBRATION_PERIOD_END (18 R448, R456): CAL_PERIOD_S has passed; the first one after the initial deskew only makes the calibration due. -/
def execCalibrationPeriodEnd (ch : Fin 16) (s : State) : Host.Outcome State Fault Refusal :=
  let n := ch.val
  let due := s.gk.calDue.at false n
  let done := s.gk.calDone.at false n
  .next <|
    if !s.gkRuns || !s.calibrates n then s
    else if done || !due then
      { s with gk := { s.gk with calDue := s.gk.calDue.put n true, calDone := s.gk.calDone.put n false } }
    else
      let m := s.gk.calMiss.at 0 n + 1
      let s := ({ s with gk := { s.gk with calMiss := s.gk.calMiss.put n m } } : State).count 0x28F0 6
      if m = 10 then s.raise { code := 0x1F03, unit := n } else s

/-! ### Erase-ahead (18 R449) -/

/-- The two sectors ahead of the newest record and its mark words. -/
def State.aheadSectors (s : State) (k : Nat) : List Nat :=
  match s.newest k with
  | none => []
  | some r => [1, 2].map (fun i => ((r.end_ - 1) / 128 + i) % 32)

/-- ERASE_AHEAD (18 R449): the first sector ahead that is not erased. -/
def execEraseAhead (s : State) : Host.Outcome State Fault Refusal :=
  let k := s.boot.slot
  .next <|
    if !s.gkRuns || !s.boot.bootOk || k == 2 || s.boot.flashBusy || s.od.longop.isSome then s
    else
      let kept := s.keptSectors k
      match (s.aheadSectors k).find? (fun c => !s.erased (areaBase k + 4096 * c) 4096 && !kept.contains c) with
      | none => s
      | some c => (s.eraseSector (areaBase k + 4096 * c)).count 0x28F0 8

/-! ### Telemetry (18 R450, R447) -/

/-- A calibration falls due where the junction has moved 10 °C since the channel's last one. -/
def State.tempDue (s : State) : State :=
  s.gk.calTemp.foldl (fun s (x : Nat × Int) =>
    if 100 ≤ (s.gk.temp - x.2).natAbs then { s with gk := { s.gk with calDue := s.gk.calDue.put x.1 true } } else s) s

/-- TELEMETRY_READ (18 R450): four junction sensors, two supplies, and VFIELD as the field die reports it. -/
def execTelemetryRead (t0 t1 t2 t3 : BitVec 16) (neural soc vfield : BitVec 16) (s : State) : Host.Outcome State Fault Refusal :=
  let hot := max (max t0.toInt t1.toInt) (max t2.toInt t3.toInt)
  .next <|
    if !s.gkRuns then s
    else
      let was := s.gk.overTemp
      let now := decide (1050 < hot) || (was && !decide (hot < 1000))
      let s := ({ s with gk := { s.gk with
        temp := hot, vddN := neural.toNat, vddS := soc.toNat, vfield := vfield.toNat, overTemp := now } } : State).tempDue
      if now && !was then (s.count 0x28F0 9).raise { code := 0x1F04 } else s

end Machine
end Sys2Proof
end

