-- ==== Sys2Proof/Machine/Read.lean ====
section
/-!
DEFINITION. What a read of each dictionary entry gives, with the bus state of the CAN ports, the error register 1001h and HEALTH (16 R386-R408, Tables 16-4 to 16-13; 15 R366, R373; each chapter's object table).
-/
namespace Sys2Proof
namespace Machine

/-! ### CAN bus state (15 R366, R368) -/

/-- BUS_STATE: UNAVAILABLE and OFF come first, then BUS_FAULT, then what the counters give. -/
def State.busState (s : State) (p : Nat) : Nat :=
  let c := s.port p
  if !c.avail then 6
  else if s.canSet p 1 = 0 ∧ s.canSet p 7 = 0 then 0
  else if (s.canWire p).short then 5
  else if c.busOff then 3
  else if c.isLonely then 4
  else if 128 ≤ c.tec ∨ 128 ≤ c.recErr then 2
  else 1

/-- Code of NMT_STATE (15 Table 15-5). -/
def nmtCode : NmtState → Nat
  | .initialising => 0
  | .stopped => 4
  | .operational => 5
  | .preOperational => 0x7F

/-! ### 1001h and HEALTH (16 R408, Table 16-7) -/

/-- A read-only entry of the field die as it was last reported (02 R72, 03 R99). -/
def State.reported (s : State) (idx sub : Nat) : Nat := s.link.last.at 0 (key idx sub)

/-- Some kicker's reported STATE is one of the codes. -/
def State.kickerIn (s : State) (codes : List Nat) : Bool :=
  (List.range 8).any (fun n => codes.contains (s.reported (0x2600 + n) 9))

/-- VFIELD is outside its supervision window, absent or reversed. -/
def State.vfieldBad (s : State) : Bool := s.pwr.vfield != .normal || bit s.link.faultRep 7 || bit s.link.faultRep 6

/-- A web clock's reported HEALTH is the code. -/
def State.healthIs (s : State) (code : Nat) : Bool := (List.range 8).any (fun n => (s.view n).health == code)

/-- Some core is retired. -/
def State.anyRetired (s : State) : Bool := s.retiredMask != 0
/-- Some intake channel is FAILED. -/
def State.anyFailed (s : State) : Bool := (List.range 16).any (fun n => (s.intake n).state == .failed)
/-- Some Deep Store channel is fenced. -/
def State.anyFenced (s : State) : Bool := (List.range 8).any (fun c => (s.chan c).fenced)

/-- 1001h, the error register. -/
def State.errorReg (s : State) : Nat :=
  let v := bitIf (s.kickerIn [3, 4, 5] || s.reported 0x2610 4 != 0) 1
    + bitIf s.vfieldBad 2
    + bitIf (s.kickerIn [6] || decide (1050 < s.gk.temp)) 3
    + bitIf ([0, 1].any (fun p => [2, 3, 5].contains (s.busState p))) 4
    + bitIf (s.anyRetired || s.anyFailed || s.anyFenced || s.mem.lpFailed || s.mem.tagLoss || s.healthIs 4) 7
  if v = 0 then 0 else v + 1

/-- An encoder line of an enabled clock is flagged, as last reported. -/
def State.encFlagged (s : State) : Bool :=
  (List.range 8).any (fun m =>
    (List.range 8).any (fun n => s.num (0x2100 + n) 1 0 == 1 && (n == m || s.num (0x2100 + n) 0x13 0xFF == m))
      && s.reported 0x2630 (9 + m) != 0)

/-- HEALTH, 2000h:09. -/
def State.healthWord (s : State) : Nat :=
  bitIf s.od.longop.isSome 13 + bitIf s.mem.tagLoss 12 + bitIf s.mem.lpFailed 11 + bitIf ([0, 1].any (fun p => s.busState p == 5)) 10
    + bitIf s.encFlagged 9 + bitIf (s.reported 0x2610 4 != 0) 8 + bitIf (s.kickerIn [3, 4, 5, 6]) 7 + bitIf s.anyFenced 6
    + bitIf s.anyFailed 5 + bitIf s.anyRetired 4 + bitIf (s.healthIs 4) 3 + bitIf (s.healthIs 3) 2 + bitIf s.vfieldBad 1 + bitIf s.link.up 0

/-! ### Read-only entries by object -/

/-- WC_STATUS as the compute die holds it: the fields last reported, HEALTH and VIEW_VALID (02 Table 2-8). -/
def State.wcStat (s : State) (n : Nat) : Nat :=
  let v := s.view n
  v.stat / 65536 * 65536 + bits v.stat 3 12 * 8 + v.health + bitIf v.valid 15

/-- 2100h + n:17-1D (02 Table 2-5). -/
def State.readWc (s : State) (n sub : Nat) : Nat :=
  let v := s.view n
  match sub with
  | 0x17 => v.pos.toNat
  | 0x18 => unsigned v.vel 32
  | 0x19 => v.idx.toNat
  | 0x1A => v.phase
  | 0x1B => v.health
  | 0x1C => s.wcStat n
  | _ => unsigned v.markErr 32

/-- 2110h:01-10 and 13-1A (02 Table 2-6). -/
def State.readCeiling (s : State) (sub : Nat) : Nat :=
  if sub ≤ 8 then (s.ceil (sub - 1)).value
  else if sub ≤ 0x10 then s.ceilingMm (sub - 9)
  else (s.ceil (sub - 0x13)).reason

/-- Code of a station state (11 Table 11-8). -/
def stationCode : StationState → Nat
  | .empty => 0
  | .configured => 1
  | .admitting => 2
  | .draining => 3
  | .tearingDown => 4

/-- The bits of a mask subindex that no other station holds: S0's remainder (11 R280). -/
def State.remainder (s : State) (sub width : Nat) : Nat :=
  ((List.range width).map (fun b => bitIf (s.maskOwner sub b == 0) b)).sum

/-- 2400h:02-07, 0A-0D and 10, S0's remainder (11 R280). -/
def State.readS0 (s : State) (sub : Nat) : Nat :=
  match sub with
  | 0x02 => s.remainder 2 16
  | 0x03 => s.remainder 3 32
  | 0x04 => s.remainder 4 8
  | 0x06 => s.remainder 6 16
  | 0x07 => s.stNum 0 7
  | 0x10 => s.remainder 0x10 32
  | _ => 0

/-- Read-only entries of a station (11 Table 11-10, 10 Table 10-7). -/
def State.readStation (s : State) (st sub : Nat) : Nat :=
  match sub with
  | 0x01 => stationCode (s.stState st)
  | 0x11 => st
  | 0x26 => (s.chain st).variant
  | 0x27 => s.seqInUse st
  | _ => s.readS0 sub

/-- Code of a core's STATE (08 Table 8-8). -/
def coreCode : CoreState → Nat
  | .idle => 0
  | .running => 1
  | .clearing => 2
  | .testing => 3
  | .retired => 4

/-- CORE_STATE (08 Table 8-8). -/
def State.coreStateWord (s : State) (c : Nat) : Nat := (s.core c).reason * 16 + coreCode (s.core c).state

/-- 2500h (08 Table 8-8). -/
def State.readNeural (s : State) (sub : Nat) : Nat :=
  match sub with
  | 0x01 => s.retiredMask
  | 0x02 => s.liveQuad
  | 0x03 => s.liveDuo
  | 0x17 => s.nc.lastTest
  | _ => s.coreStateWord (sub - 7)

/-- Code of VFIELD_STATE (14 Table 14-8). -/
def vfCode : VfSense → Nat
  | .normal => 0
  | .reversed => 1
  | .absent => 2

/-- 2700h (14 Table 14-8). -/
def State.readPower (s : State) (sub : Nat) : Nat :=
  match sub with
  | 0x01 => if s.pwr.state = .doze then 1 else 0
  | 0x06 => s.pwr.last
  | 0x07 => s.pwr.wakeSrc
  | 0x08 => s.pwr.refuse
  | _ => vfCode s.pwr.vfield

/-- 2000h (16 Table 16-6). -/
def State.readIdentity (s : State) (sub : Nat) : Nat :=
  match sub with
  | 0x01 => s.boot.fuses.grade
  | 0x02 => 0xB0
  | 0x03 => s.img s.boot.slot 4 4
  | 0x04 => s.boot.fuses.serial
  | 0x05 => unsigned s.gk.temp 16
  | 0x06 => s.gk.vddN
  | 0x07 => s.gk.vddS
  | 0x08 => if s.pwr.vfield = .normal then s.gk.vfield else 0
  | 0x09 => s.healthWord
  | 0x0A => (s.clk.ref - s.clk.refReset) / Config.psPerS % 2 ^ 32
  | _ => s.pwr.cause

/-- Version of a slot's image; 0 when the slot is EMPTY (16 Table 16-8). -/
def State.slotVersion (s : State) (k : Nat) : Nat := if s.bootRec.slotIs k .empty then 0 else s.img k 4 4

/-- 2A00h (16 Table 16-8). -/
def State.readUpdate (s : State) (sub : Nat) : Nat :=
  match sub with
  | 0x03 => s.boot.nextBlock
  | 0x04 => s.boot.imageLength
  | 0x05 => s.num 0x2A00 5 0
  | 0x06 => s.bootRec.slot 0
  | 0x07 => s.bootRec.slot 1
  | 0x08 => s.bootRec.result
  | 0x09 => s.boot.slot
  | 0x0A => s.slotVersion 0
  | 0x0B => s.slotVersion 1
  | 0x0C => s.bootRec.boots
  | 0x0D => s.img s.boot.slot 10 2
  | 0x0E => match s.newest s.inactive with | some r => r.schema | none => 0xFFFF
  | 0x0F => s.img 2 4 4
  | 0x10 => s.boot.blocks
  | 0x11 => s.boot.secNew
  | _ => bitIf s.boot.runDef 0

/-- 2B00h (16 Table 16-9). -/
def State.readBoot (s : State) (sub : Nat) : Nat :=
  match sub with
  | 0x01 => s.boot.mode
  | 0x02 => s.boot.slot
  | 0x03 => s.boot.keySlot
  | 0x04 => s.boot.fuses.revoke.toNat
  | 0x06 => s.boot.fuses.level
  | 0x07 => s.bootRec.fallback
  | 0x08 => s.bootRec.count
  | _ => bitIf s.boot.fuses.factoryTestOff 0

/-- The bytes of an event log entry (16 Table 16-10). -/
def logBytes (e : LogEntry) : List Byte :=
  leBytes 4 e.seq ++ leBytes 2 e.code ++ leBytes 1 e.unit ++ leBytes 1 e.station ++ leBytes 8 e.time ++ leBytes 8 e.detail

/-- Code of a package slot's STATE (16 R403). -/
def pkgCode : PkgState → Nat
  | .empty => 0
  | .loading => 1
  | .installed => 2
  | .verified => 3
  | .failed => 4

/-- IN_USE of a package slot (16 Table 16-13). -/
def State.inUse (s : State) (p : Nat) : Nat := ((List.range 32).map (fun st => bitIf (s.stNum st 0x20 == p) st)).sum

/-- 3000h + p (16 Table 16-13). -/
def State.readPackage (s : State) (p sub : Nat) : Nat :=
  let k := s.pk p
  match sub with
  | 0x02 => k.station
  | 0x03 => k.base
  | 0x04 => pkgCode k.state
  | 0x06 => k.size
  | 0x07 => k.result
  | _ => s.inUse p

/-- 2D00h (12 Table 12-8). -/
def State.readHost (s : State) (sub : Nat) : Nat :=
  match sub with
  | 0x01 => s.pcieLink
  | 0x02 => s.host.numVfs
  | 0x0C => (s.macAt 1).link * 16 + (s.macAt 0).link
  | _ => 0

/-- 2E00h + p:0D-10 (15 Table 15-5). -/
def State.readCan (s : State) (p sub : Nat) : Nat :=
  match sub with
  | 0x0D => s.busState p
  | 0x0E => (s.port p).tec
  | 0x0F => (s.port p).recErr
  | _ => nmtCode (s.port p).nmt

/-- 1018h (16 Table 16-4). -/
def State.identity (s : State) (sub : Nat) : Nat :=
  match sub with
  | 1 => 0x0D16
  | 2 => 0x00010016
  | 3 => 0xB0
  | _ => s.boot.fuses.serial

/-- 1200h:01 and 02 of a port (16 R393). -/
def State.sdoCob (s : State) (p sub : Nat) : Nat :=
  (if s.canSet p 1 = 1 then 0 else 0x80000000) + (if sub = 1 then 0x600 else 0x580) + s.nodeId p

/-- Communication entries that are not plain values (16 Table 16-4). -/
def State.readComm (s : State) (p idx sub : Nat) : Nat :=
  if idx = 0x1001 then s.errorReg
  else if idx = 0x1003 then (if sub = 0 then s.rep.hist.length else s.rep.hist.getD (sub - 1) 0)
  else if idx = 0x1010 ∨ idx = 0x1011 then 1
  else if idx = 0x1018 then s.identity sub
  else if idx = 0x1200 then s.sdoCob p sub
  else 0

/-! ### Reading an entry (16 R386-R393, R402; 12 R306; 17 R428) -/

/-- Value of a read-only or constant scalar, and of the writable ones that stand outside the dictionary's own values; `p` is the port that 1200h reads for. -/
def State.readLive (s : State) (p idx sub : Nat) : Nat :=
  if sub = 0 ∧ 0x2000 ≤ idx then entryDflt idx 0
  else if idx < 0x2000 then s.readComm p idx sub
  else if idx = 0x2000 then s.readIdentity sub
  else if idx ≤ 0x2107 then s.readWc (idx - 0x2100) sub
  else if idx = 0x2110 then s.readCeiling sub
  else if idx ≤ 0x220F then (if sub = 0x1B then chanCode (s.intake (idx - 0x2200)).state else (s.intake (idx - 0x2200)).lastStatus)
  else if idx ≤ 0x230F then bitIf (s.pipe (idx - 0x2300)).pend.isSome 0
  else if idx ≤ 0x241F then s.readStation (idx - 0x2400) sub
  else if idx = 0x2500 then s.readNeural sub
  else if idx ≤ 0x2630 then s.reported idx sub
  else if idx = 0x2700 then s.readPower sub
  else if idx < 0x2A00 then (s.counter idx sub).toNat
  else if idx = 0x2A00 then s.readUpdate sub
  else if idx = 0x2B00 then s.readBoot sub
  else if idx = 0x2C00 then (match sub with | 1 => s.rep.log.length | 2 => s.rep.seq | _ => s.od.select)
  else if idx = 0x2D00 then s.readHost sub
  else if idx ≤ 0x2E01 then s.readCan (idx - 0x2E00) sub
  else s.readPackage (idx - 0x3000) sub

/-- A writable entry whose value is not one of the dictionary's own: 1003h:00, 1010h, 1011h, 2A00h, 2C00h, 3000h + p, and the counters. -/
def liveWritable (idx : Nat) : Bool :=
  idx == 0x1003 || idx == 0x1010 || idx == 0x1011 || idx == 0x2A00 || idx == 0x2C00 || decide (0x3000 ≤ idx)
    || decide (0x2800 ≤ idx ∧ idx < 0x2900)

/-- Value of a scalar entry. -/
def State.readNum (s : State) (p idx sub : Nat) (r : Row) : Nat :=
  if (r.acc == .rw || r.acc == .rww) && !liveWritable idx then s.val idx sub else s.readLive p idx sub

/-- Visible strings (16 Table 16-4). -/
def State.readStr (s : State) (idx : Nat) : List Byte :=
  if idx = 0x1008 then [0x4A, 0x61, 0x72, 0x69, 0x6E, 0x6F, 0x20, 0x44, 0x56, 0x31, 0x36]
  else if idx = 0x1009 then [0x42, 0x30]
  else Config.versionText (s.img s.boot.slot 4 4)

/-- S0's remainder of Deep Store shares and of granules (11 R280). -/
def State.readS0Dom (s : State) (sub : Nat) : List Byte :=
  if sub = 5 then (List.range 8).map (fun c => BitVec.ofNat 8 (s.sharesLeft c))
  else (List.range 16).flatMap (fun c =>
    leBytes 8 ((List.range (granules c)).map (fun g => bitIf (s.granuleOf c g == 0) g)).sum)

/-- Value of a DOMAIN. -/
def State.readDom (s : State) (idx sub : Nat) (r : Row) : List Byte :=
  if r.acc = .rw then s.domVal idx sub
  else if idx = 0x2400 then s.readS0Dom sub
  else s.rep.log.reverse.flatMap logBytes

/-- What naming an entry gives under the recovery loader, which serves few objects (17 R428). -/
def State.namedRow (s : State) (idx sub : Nat) : Except Nat Row :=
  if s.boot.recovery = true ∧ ¬ (idx ∈ [0x1000, 0x1001, 0x1008, 0x1018, 0x2000, 0x2A00, 0x2B00]) then .error 0x06020000
  else if s.boot.recovery = true ∧ idx = 0x2000 ∧ ¬ (1 ≤ sub ∧ sub ≤ 4) then .error 0x06090011
  else entryRow idx sub

/-- A whole entry as a read gives it. -/
def State.readEntry (s : State) (p idx sub : Nat) : Resp :=
  match s.namedRow idx sub with
  | .error a => .abort a
  | .ok r =>
    if r.acc = .wo then .abort 0x06010001
    else match r.ty with
      | .str => .value (.bytes (s.readStr idx))
      | .dom => .value (.bytes (s.readDom idx sub r))
      | .oct =>
        match s.rep.log.find? (fun e => e.seq == s.od.select) with
        | some e => .value (.bytes (logBytes e))
        | none => .abort 0x08000024
      | _ => .value (.num r.ty.size (s.readNum p idx sub r))

/-- Bytes of a value (16 R387). -/
def Val.toBytes : Val → List Byte
  | .num n v => leBytes n v
  | .bytes b => b

end Machine
end Sys2Proof
end

