-- ==== Sys2Proof/Machine/CanBus.lean ====
section
/-!
DEFINITION. The CAN ports at bus level: reception, transmission, error counters, LONELY, BUS_FAULT, bus-off, discarded frames and the wake-up of a sleeping bus (15 R361, R362, R366-R368, R372, R380, R381).
-/
namespace Sys2Proof
namespace Machine

/-- Counter object of a port (15 Table 15-6). -/
def canCnt (p : Nat) : Nat := 0x28D0 + p

/-- The port's bit engine is attached to the bus and its protocol side serves it (15 R362, R380). -/
def State.attached (s : State) (p : Nat) : Bool := (s.port p).avail && (s.canSet p 1 != 0 || s.canSet p 7 != 0)

/-- The port runs CANopen or CANopen FD (15 R362). -/
def State.canOpen (s : State) (p : Nat) : Bool := (s.port p).avail && s.canSet p 1 != 0

/-- The port carries the services beyond SDO, which the recovery loader does not (17 R428). -/
def State.fullCan (s : State) (p : Nat) : Bool := s.canOpen p && !s.boot.recovery

/-! ### Error counters (15 R366) -/

/-- The error counters make the port error-passive. -/
def CanPort.passive (c : CanPort) : Bool := decide (128 ≤ c.tec) || decide (128 ≤ c.recErr)

/-- Change a port's error counters; an entry into error-passive counts and raises EV-1D01. -/
def State.errors (s : State) (p : Nat) (f : CanPort → CanPort) : State :=
  let was := (s.port p).passive
  let s := s.updPort p f
  if !was && (s.port p).passive && !(s.port p).busOff then (s.count (canCnt p) 4).raise { code := 0x1D01, unit := p } else s

/-- LONELY ends with EV-1D05, and the lonely count is 0 (15 R367). -/
def State.endLonely (s : State) (p : Nat) : State :=
  let was := (s.port p).isLonely
  let s := s.updPort p (fun c => { c with lonely := 0, isLonely := false })
  if was then s.raise { code := 0x1D05, unit := p } else s

/-- A good reception lowers REC; above 127 it falls to a value from 119 to 127 that ISO 11898-1 leaves open (FREE VALUE, log entry 13). -/
def State.recDown (s : State) (p : Nat) : State :=
  let r := (s.port p).recErr
  if r = 0 then s
  else if r ≤ 127 then s.updPort p (fun c => { c with recErr := c.recErr - 1 })
  else
    let v := 119 + Config.freeNat s.free % 9
    ({ s with free := s.free + 1 } : State).updPort p (fun c => { c with recErr := v })

/-- A frame is received from the bus; it is one occurrence of source 197 + p (15 R366, R367, R384; 13 Table 13-2). -/
def State.receive (s : State) (p : Nat) : State := (((s.count (canCnt p) 1).recDown p).endLonely p).occur (197 + p)

/-- P0 takes the frame that a service is about: the oldest in the receive buffer, or one it received directly. -/
def State.takeFrame (s : State) (p : Nat) : State :=
  match (s.port p).rx with
  | [] => s.receive p
  | _ :: r => s.updPort p (fun c => { c with rx := r })

/-- A service's frame arrives at a port that is attached. -/
def State.onPort (s : State) (p : Nat) (f : State → State) : State := if s.attached p then f (s.takeFrame p) else s

/-- A frame of a CANopen service arrives: a port with PROFILE 0 discards it, and the recovery loader ignores it (15 R362, 17 R428). -/
def State.onCanopen (s : State) (p : Nat) (f : State → State) : State :=
  s.onPort p (fun s => if s.canSet p 1 = 0 then s.count (canCnt p) 0x0E else if s.boot.recovery then s else f s)

/-! ### Sending (15 R366-R368) -/

/-- A JDT response that leaves the port, sent or discarded, ends its requester's request (15 R376). -/
def CanPort.ended (c : CanPort) (m : CanMsg) : CanPort :=
  { c with jdtWait := match m with | .jdt a _ true _ => c.jdtWait.erase a | _ => c.jdtWait }

/-- Give a port a frame to send; in BUS_FAULT a frame due is discarded and counted. -/
def State.sendCan (s : State) (p : Nat) (m : CanMsg) : State :=
  if !s.attached p then s
  else if (s.canWire p).short then (s.updPort p (·.ended m)).count (canCnt p) 7
  else s.updPort p (fun c => { c with tx := c.tx ++ [m] })

/-- A boot-up or heartbeat message. -/
def isHeartbeat : CanMsg → Bool
  | .bootup => true
  | .heartbeat _ => true
  | _ => false

/-- A TPDO or an EMCY message, which LONELY discards. -/
def isProcess : CanMsg → Bool
  | .tpdo _ _ => true
  | .emcy _ => true
  | _ => false

/-- The frame that the port sends next: in LONELY only a boot-up or heartbeat message. -/
def CanPort.nextTx (c : CanPort) : Option CanMsg := if c.isLonely then c.tx.find? isHeartbeat else c.tx.head?

/-- A frame leaves the port's queue, sent or discarded. -/
def State.dropTx (s : State) (p : Nat) (m : CanMsg) : State := s.updPort p (fun c => ({ c with tx := c.tx.erase m } : CanPort).ended m)

/-- LONELY is entered: waiting TPDOs and EMCYs are discarded and counted (15 R367). -/
def State.enterLonely (s : State) (p : Nat) : State :=
  let c := s.port p
  let n := (c.tx.filter isProcess).length + (c.tpdo.filter (fun (x : Nat × TpdoState) => x.2.queued)).length + (s.rep.emcy.at [] p).length
  let s := { s with rep := { s.rep with emcy := s.rep.emcy.put p [] } }
  let s := s.updPort p (fun c => { c with
    isLonely := true, tx := c.tx.filter (fun m => !isProcess m)
    tpdo := c.tpdo.map (fun (x : Nat × TpdoState) => (x.1, { x.2 with queued := false })) })
  ((s.count (canCnt p) 6).raise { code := 0x1D04, unit := p }).countN (canCnt p) 7 n

/-- A transmit error count above 255 takes the port off the bus (15 R366). -/
def State.checkBusOff (s : State) (p : Nat) : State :=
  if 256 ≤ (s.port p).tec ∧ (s.port p).busOff = false then
    ((s.updPort p (fun c => { c with tec := 256, busOff := true })).count (canCnt p) 5).raise { code := 0x1D02, unit := p }
  else s

/-- An acknowledged transmission. -/
def State.txAcked (s : State) (p : Nat) (m : CanMsg) : State :=
  let s := ((s.dropTx p m).count (canCnt p) 2).endLonely p
  s.updPort p (fun c => { c with tec := c.tec - 1, sentLog := [m] })

/-- An attempt that ends in an ACK error; it does not raise TEC when error-passive, and a heartbeat in LONELY is not retried. -/
def State.txAckError (s : State) (p : Nat) (m : CanMsg) : State :=
  let s := s.count (canCnt p) 3
  let s := s.errors p (fun c => if c.passive then c else { c with tec := c.tec + 8 })
  let s := s.updPort p (fun c => { c with lonely := c.lonely + 1 })
  let enter := !(s.port p).isLonely && decide (16 ≤ (s.port p).lonely)
  let s := if enter then s.enterLonely p else s
  if (s.port p).isLonely && isHeartbeat m then s.dropTx p m else s

/-- An attempt that ends in any other error. -/
def State.txError (s : State) (p : Nat) (m : CanMsg) : State :=
  let s := s.errors p (fun c => { c with tec := c.tec + 8 })
  (if (s.port p).isLonely && isHeartbeat m then s.dropTx p m else s).checkBusOff p

/-- CAN_FRAME_TRANSMIT (15 R366-R368): a transmission attempt ends. -/
def execCanFrameTransmit (port : Fin 2) (result : TxResult) (s : State) : Host.Outcome State Fault Refusal :=
  let p := port.val
  .next <|
    if !s.attached p then s
    else if (s.canWire p).short then
      match (s.port p).tx with
      | [] => s
      | m :: _ => (s.dropTx p m).count (canCnt p) 7
    else if (s.port p).busOff then s
    else match (s.port p).nextTx with
      | none => s
      | some m =>
        match result with
        | .acked => s.txAcked p m
        | .ackError => s.txAckError p m
        | .otherError => s.txError p m

/-- BUS_OFF_RECOVERY (15 R366): 128 occurrences of 11 recessive bits have passed. -/
def execBusOffRecovery (port : Fin 2) (s : State) : Host.Outcome State Fault Refusal :=
  let p := port.val
  .next <|
    if (s.port p).busOff then
      (s.updPort p (fun c => { c with busOff := false, tec := 0, recErr := 0 })).raise { code := 0x1D03, unit := p }
    else s

/-- CAN_RECEIVE_ERROR (15 R366): REC rises by 1, or by 8 for the errors to which ISO 11898-1 gives 8. -/
def execCanReceiveError (port : Fin 2) (heavy : Bool) (s : State) : Host.Outcome State Fault Refusal :=
  let p := port.val
  .next <|
    if !s.attached p || (s.port p).busOff then s
    else s.errors p (fun c => { c with recErr := min 255 (c.recErr + (if heavy then 8 else 1)) })

/-! ### Receiving (15 R361, R362, R372) -/

/-- Frames that the port acknowledges and discards: remote frames, SEC, and the wrong format for the profile; LSS runs in classical frames under PROFILE 2 too (15 R374). -/
def State.discards (s : State) (p : Nat) (f : CanFrame) : Bool :=
  f.rtr ||
    match f.fmt with
    | .xl => f.sec || s.canSet p 7 == 0
    | .classical => !(s.canSet p 1 == 1 || (s.canSet p 1 == 2 && f.id == 0x7E5))
    | .fd => s.canSet p 1 != 2

/-- Heartbeat consumer entries of a node (16 Table 16-4). -/
def State.consumersOf (s : State) (node : Nat) : List Nat :=
  (List.range 4).filter (fun i => let v := s.val 0x1016 (i + 1); bits v 16 8 == node && bits v 0 16 != 0 && node != 0)

/-- A heartbeat of a node that the port consumes (15 R370, R372). -/
def State.heartbeatNode (s : State) (p : Nat) (f : CanFrame) : Option Nat :=
  if s.fullCan p && !s.discards p f && decide (f.fmt ≠ .xl) && decide (0x701 ≤ f.id ∧ f.id ≤ 0x77F) && !(s.consumersOf (f.id - 0x700)).isEmpty
  then some (f.id - 0x700) else none

/-- CAN_RX (15 R372): a received frame goes into the port's buffer, or is lost when it is full; a heartbeat goes to its consumer entries. -/
def execCanRx (port : Fin 2) (fmt : FrameFmt) (id : BitVec 29) (rtr sec : Bool) (data : List Byte) (s : State) :
    Host.Outcome State Fault Refusal :=
  let p := port.val
  let f : CanFrame := { fmt := fmt, id := id.toNat, rtr := rtr, sec := sec, data := data }
  .next <|
    if !s.attached p then s
    else
      let s := s.receive p
      if 64 ≤ (s.port p).rx.length then (s.count (canCnt p) 9).raise { code := 0x1D06, unit := p }
      else match s.heartbeatNode p f with
        | some node =>
          s.updPort p (fun c => { c with hb := (s.consumersOf node).foldl (fun (t : Tab HbConsumer) i => t.put i { seen := true }) c.hb })
        | none => s.updPort p (fun c => { c with rx := c.rx ++ [f] })

/-- CAN_FRAME_DISCARD (15 R361, R362, R370): a frame is acknowledged and discarded. -/
def execCanFrameDiscard (port : Fin 2) (s : State) : Host.Outcome State Fault Refusal :=
  let p := port.val
  .next <|
    match (s.port p).rx.head? with
    | none => s.onPort p (fun s => s.count (canCnt p) 0x0E)
    | some f => if s.discards p f then s.onPort p (fun s => s.count (canCnt p) 0x0E) else s

/-! ### Waking (15 R381) -/

/-- CAN_WAKEUP (15 R381): WAKE_MODE 1 takes a dominant phase of 5 µs, WAKE_MODE 2 a wake-up pattern. -/
def execCanWakeup (port : Fin 2) (dominant5us pattern : Bool) (s : State) : Host.Outcome State Fault Refusal :=
  let p := port.val
  let mode := s.fd.canArm.at 0 p
  .next <|
    if s.fd.on && s.fd.autonomy == .orderly && !s.fd.canWake && ((mode == 1 && dominant5us) || (mode == 2 && pattern)) then
      (({ s with fd := { s.fd with canWake := true } } : State).fieldWake 5).fdRaise { code := 0x1D09, unit := p }
    else s

end Machine
end Sys2Proof
end

