-- ==== Sys2Proof/Machine/Pdo.lean ====
section
/-!
DEFINITION. PDOs, SYNC and EMCY messages of the CAN ports (15 R369, R372, R373, R377; 16 R389, R395, R406-R408).
-/
namespace Sys2Proof
namespace Machine

/-! ### Mappings (16 R389, Table 16-4) -/

/-- Mapping entries in force of the record at `base` + n (1600h or 1A00h). -/
def State.pdoMap (s : State) (base n : Nat) : List Nat := (List.range (s.val (base + n) 0)).map (fun i => s.val (base + n) (i + 1))

/-- Index that a mapping entry names. -/
def mapIdx (m : Nat) : Nat := m / 65536
/-- Subindex that a mapping entry names. -/
def mapSub (m : Nat) : Nat := m / 256 % 256
/-- Bytes of a mapping entry. -/
def mapLen (m : Nat) : Nat := m % 256 / 8

/-- Bytes that a mapping holds. -/
def mapBytes (l : List Nat) : Nat := (l.map mapLen).sum

/-- The mapped values of a TPDO as they stand. -/
def State.tpdoBytes (s : State) (n : Nat) : List Byte :=
  (s.pdoMap 0x1A00 n).flatMap (fun m =>
    match s.readEntry 0 (mapIdx m) (mapSub m) with
    | .value v => slice v.toBytes 0 (mapLen m)
    | _ => List.replicate (mapLen m) 0)

/-! ### TPDOs (16 R395) -/

/-- A communication setting of a TPDO. -/
def State.tpdoSet (s : State) (n sub : Nat) : Nat := s.val (0x1800 + n) sub

/-- The TPDO is valid and maps something. -/
def State.tpdoOn (s : State) (n : Nat) : Bool := !bit (s.tpdoSet n 1) 31 && decide (0 < s.val (0x1A00 + n) 0)

/-- The port carries the TPDO: OPERATIONAL, and PROFILE 2 where it is longer than 8 bytes. -/
def State.carries (s : State) (p n : Nat) : Bool :=
  s.fullCan p && (s.port p).nmt == .operational && s.tpdoOn n && (decide (mapBytes (s.pdoMap 0x1A00 n) ≤ 8) || s.canSet p 1 == 2)

/-- Sending state of a TPDO on a port. -/
def State.tpdoAt (s : State) (p n : Nat) : TpdoState := (s.port p).tpdo.at {} n

/-- Change it. -/
def State.updTpdo (s : State) (p n : Nat) (f : TpdoState → TpdoState) : State := s.updPort p (fun c => { c with tpdo := c.tpdo.upd {} n f })

/-- Queue a TPDO with the values now in force: it replaces a waiting instance; in LONELY it is discarded and counted (15 R366, R367). -/
def State.queueTpdo (s : State) (p n : Nat) : State :=
  let x := s.tpdoBytes n
  if (s.port p).isLonely then (s.updTpdo p n (fun t => { t with last := x, sync := 0 })).count (canCnt p) 7
  else s.updTpdo p n (fun t => { t with queued := true, data := x, last := x, sync := 0 })

/-- The inhibit time since the TPDO was last sent has passed. -/
def State.inhibitOver (s : State) (p n : Nat) : Bool :=
  match (s.tpdoAt p n).lastSent with
  | none => true
  | some t => decide (t + s.tpdoSet n 3 * 100 * Config.psPerUs ≤ s.clk.ref)

/-- Queue every TPDO of a port that satisfies a condition. -/
def State.queueWhere (s : State) (p : Nat) (c : State → Nat → Bool) : State :=
  (List.range 8).foldl (fun s n => if s.carries p n && c s n then s.queueTpdo p n else s) s

/-- A port enters OPERATIONAL: each TPDO of type 254 or 255 is queued once. -/
def State.startPdos (s : State) (p : Nat) : State := s.queueWhere p (fun s n => decide (254 ≤ s.tpdoSet n 2))

/-- TPDO_CHANGE_CHECK (16 R395): every 1 ms P0 compares the mapped values of type 254. -/
def execTpdoChangeCheck (s : State) : Host.Outcome State Fault Refusal :=
  let due (p : Nat) (s : State) (n : Nat) : Bool := s.tpdoSet n 2 == 254 && s.tpdoBytes n != (s.tpdoAt p n).last && s.inhibitOver p n
  .next ((s.queueWhere 0 (due 0)).queueWhere 1 (due 1))

/-- TPDO_EVENT_TIMER (16 R395). -/
def execTpdoEventTimer (port : Fin 2) (n : Fin 8) (s : State) : Host.Outcome State Fault Refusal :=
  .next <|
    if s.carries port.val n.val && decide (254 ≤ s.tpdoSet n.val 2) && s.tpdoSet n.val 5 != 0 then s.queueTpdo port.val n.val else s

/-- TPDO_TRANSMIT (16 R395): the waiting instance goes to the bus. -/
def execTpdoTransmit (port : Fin 2) (n : Fin 8) (s : State) : Host.Outcome State Fault Refusal :=
  let p := port.val
  let t := s.tpdoAt p n.val
  .next <|
    if s.carries p n.val && t.queued && !(s.port p).busOff then
      (s.updTpdo p n.val (fun t => { t with queued := false, lastSent := some s.clk.ref })).sendCan p (.tpdo n.val t.data)
    else s

/-! ### RPDOs and SYNC (15 R369, R372, R377; 16 R389) -/

/-- Apply an RPDO's bytes: each mapping entry names ADMIT of a station; a refused one leaves it unchanged (16 decided case). -/
def State.applyRpdo (s : State) : List Nat → List Byte → State
  | [], _ => s
  | m :: ms, x => ((s.writeAdmit (mapIdx m - 0x2400) (leNat (x.take (mapLen m)))).1).applyRpdo ms (x.drop (mapLen m))

/-- An RPDO whose length fits: applied at once, or at the next SYNC. -/
def State.takeRpdo (s : State) (p n : Nat) (x : List Byte) : State :=
  if 254 ≤ s.val (0x1400 + n) 2 then s.applyRpdo (s.pdoMap 0x1600 n) x
  else s.updPort p (fun c => { c with syncTpdos := c.syncTpdos.put n x })

/-- RPDO_RECEIVE (15 R372, R377). -/
def execRpdoReceive (port : Fin 2) (n : Fin 8) (data : List Byte) (s : State) : Host.Outcome State Fault Refusal :=
  let p := port.val
  let need := mapBytes (s.pdoMap 0x1600 n.val)
  .next (s.onCanopen p (fun s =>
    if (s.port p).nmt != .operational || bit (s.val (0x1400 + n.val) 1) 31 then s
    else if s.od.longop.isSome then s.count (canCnt p) 8
    else if data.length < need then (s.count (canCnt p) 0x0A).raise { code := 0x1D08, unit := p, err := 0x8210 }
    else if need < data.length then
      ((s.count (canCnt p) 0x0A).raise { code := 0x1D08, unit := p, err := 0x8220 }).takeRpdo p n.val (data.take need)
    else s.takeRpdo p n.val data))

/-- A synchronous TPDO's turn: type 0 when a value has changed, type k at the k-th SYNC since it was last sent. -/
def State.syncTpdo (s : State) (p n : Nat) : State :=
  let k := s.tpdoSet n 2
  if !s.carries p n || decide (240 < k) then s
  else if k = 0 then (if s.tpdoBytes n = (s.tpdoAt p n).last then s else s.queueTpdo p n)
  else if k ≤ (s.tpdoAt p n).sync + 1 then s.queueTpdo p n
  else s.updTpdo p n (fun t => { t with sync := t.sync + 1 })

/-- SYNC_RECEIVE (15 R372): the port's synchronous RPDOs apply and its synchronous TPDOs are driven. -/
def execSyncReceive (port : Fin 2) (s : State) : Host.Outcome State Fault Refusal :=
  let p := port.val
  .next (s.onCanopen p (fun s =>
    if (s.port p).nmt != .operational then s
    else
      let held := (s.port p).syncTpdos
      let s := s.updPort p (fun c => { c with syncTpdos := [] })
      let s := held.foldl (fun (s : State) (x : Nat × List Byte) => s.applyRpdo (s.pdoMap 0x1600 x.1) x.2) s
      (List.range 8).foldl (fun s n => s.syncTpdo p n) s))

/-! ### EMCY (15 R373; 16 R406-R409) -/

/-- The eight bytes of an EMCY message (16 R406). -/
def emcyBytes (m : Emcy) (reg : Nat) : List Byte :=
  leBytes 2 m.err ++ leBytes 1 reg ++ leBytes 1 (m.code / 256) ++ leBytes 1 (m.code % 256) ++ leBytes 1 m.unit ++ leBytes 2 m.detail

/-- The inhibit time 1015h since the last EMCY has passed (16 R407). -/
def State.emcyReady (s : State) (p : Nat) : Bool :=
  match (s.port p).lastEmcy with
  | none => true
  | some t => decide (t + s.val 0x1015 0 * 100 * Config.psPerUs ≤ s.clk.ref)

/-- EMCY_TRANSMIT (16 R406, R407): the oldest waiting EMCY goes to the bus; with 1014h not valid none is sent. -/
def execEmcyTransmit (port : Fin 2) (s : State) : Host.Outcome State Fault Refusal :=
  let p := port.val
  .next <|
    match s.rep.emcy.at [] p with
    | [] => s
    | m :: r =>
      if s.fullCan p && (s.port p).talks && !(s.port p).isLonely && s.emcyReady p then
        let s := { s with rep := { s.rep with emcy := s.rep.emcy.put p r } }
        if bit (s.val 0x1014 0) 31 then s
        else (s.updPort p (fun c => { c with lastEmcy := some s.clk.ref })).sendCan p (.emcy (emcyBytes m s.errorReg))
      else s

/-- ERROR_REGISTER_CHECK (16 R408): P0 reads 1001h; at its return to 0 the error-reset EMCY is queued. -/
def execErrorRegisterCheck (s : State) : Host.Outcome State Fault Refusal :=
  let p0 : Pressroom := s.host.press.at {} 0
  let v := s.errorReg
  .next <|
    if !s.computeRuns || !p0.run || s.boot.recovery then s
    else
      let was := s.rep.errLast
      let s := { s with rep := { s.rep with errLast := v } }
      if was ≠ 0 ∧ v = 0 then
        s.report (fun r => (r.emcyPort s.env { err := 0, code := 0, unit := 255, detail := 0 } 0).emcyPort s.env
          { err := 0, code := 0, unit := 255, detail := 0 } 1)
      else s

end Machine
end Sys2Proof
end

