-- ==== Sys2Proof/Machine/Can.lean ====
section
/-!
DEFINITION. NMT, error control, LSS and the return of the protocol side (15 R365, R369-R372, R377, R380, R385).
-/
namespace Sys2Proof
namespace Machine

/-! ### Reset communication (15 R365, R371, R385; 17 R428) -/

/-- Settings that a port takes: the dictionary's, or what the recovery loader uses. -/
def State.takenSet (s : State) (p sub : Nat) : Nat :=
  if s.boot.recovery then
    match sub with
    | 1 => if p = 0 then 1 else 0
    | 2 => 127
    | 3 => 2
    | 7 => 0
    | _ => s.canNum p sub
  else s.canNum p sub

/-- The communication layer of a port starts anew with the settings of subindices 01-0B; received frames and the error counters stay. -/
def CanPort.restarted (c : CanPort) (settings : Tab Nat) : CanPort :=
  { inForce := settings, avail := c.avail, tec := c.tec, recErr := c.recErr, busOff := c.busOff, lonely := c.lonely, isLonely := c.isLonely
    rx := c.rx, sentLog := c.sentLog }

/-- A request came over the port. -/
def ofPort (p : Nat) : Path → Bool
  | .sdo q => q.val == p
  | .usdo q => q.val == p
  | .jdt q _ => q.val == p
  | .mailbox _ => false
  | .udp _ _ => false

/-- NMT reset communication: the settings apply, everything waiting is dropped and boot-up is sent. -/
def State.resetComm (s : State) (p : Nat) : State :=
  let settings : Tab Nat := (List.range 11).foldl (fun (t : Tab Nat) i => t.put (i + 1) (s.takenSet p (i + 1))) []
  let s := s.updPort p (fun c => c.restarted settings)
  let s := { s with
    rep := { s.rep with emcy := s.rep.emcy.put p [] }
    od := { s.od with waiting := s.od.waiting.filter (fun (w : Waiting) => !ofPort p w.path) } }
  if s.canSet p 1 = 0 then s
  else (s.sendCan p .bootup).updPort p (fun c => { c with nmt := .preOperational })

/-- A heartbeat consumer entry that was set anew waits for a first heartbeat again, on both ports (15 R372). -/
def State.freshConsumer (s : State) (i : Nat) : State :=
  (s.updPort 0 (fun c => { c with hb := c.hb.put i {} })).updPort 1 (fun c => { c with hb := c.hb.put i {} })

/-- Heartbeat consumer entries that a reload changed are set anew. -/
def State.reloadShared (s : State) : State :=
  let s' := s.reloadComm
  (List.range 4).foldl (fun s' i => if s.val 0x1016 (i + 1) = s'.val 0x1016 (i + 1) then s' else s'.freshConsumer i) s'

/-! ### NMT (15 R371) -/

/-- An NMT command arrives for all nodes (0) or for a node; it is carried out during a long operation too (15 R377). -/
def State.nmt (s : State) (p : Nat) (node : BitVec 8) (f : State → State) : State :=
  s.onCanopen p (fun s => if node = 0 ∨ node.toNat = s.nodeId p then f s else s)

/-- Enter an NMT state. -/
def State.enterNmt (s : State) (p : Nat) (x : NmtState) : State := s.updPort p (fun c => { c with nmt := x })

/-- NMT_START (15 R371, 16 R395): at the entry into OPERATIONAL each TPDO of type 254 or 255 is sent once. -/
def execNmtStart (port : Fin 2) (node : BitVec 8) (s : State) : Host.Outcome State Fault Refusal :=
  let p := port.val
  .next (s.nmt p node (fun s =>
    if (s.port p).nmt = .operational then s else (s.enterNmt p .operational).startPdos p))

/-- NMT_STOP (15 R371). -/
def execNmtStop (port : Fin 2) (node : BitVec 8) (s : State) : Host.Outcome State Fault Refusal :=
  .next (s.nmt port.val node (·.enterNmt port.val .stopped))

/-- NMT_ENTER_PRE_OPERATIONAL (15 R371). -/
def execNmtEnterPreOperational (port : Fin 2) (node : BitVec 8) (s : State) : Host.Outcome State Fault Refusal :=
  .next (s.nmt port.val node (·.enterNmt port.val .preOperational))

/-- NMT_RESET_NODE (15 R371): 1000h-1FFFh are reloaded from the settings store, then the port restarts its communication. -/
def execNmtResetNode (port : Fin 2) (node : BitVec 8) (s : State) : Host.Outcome State Fault Refusal :=
  .next (s.nmt port.val node (fun s => s.reloadShared.resetComm port.val))

/-- NMT_RESET_COMMUNICATION (15 R371). -/
def execNmtResetCommunication (port : Fin 2) (node : BitVec 8) (s : State) : Host.Outcome State Fault Refusal :=
  .next (s.nmt port.val node (·.resetComm port.val))

/-! ### Error control (15 R367, R370, R372) -/

/-- HEARTBEAT_PRODUCER (15 R367, R370): a heartbeat is due; with 1017h = 0 only a LONELY port sends one. -/
def execHeartbeatProducer (port : Fin 2) (s : State) : Host.Outcome State Fault Refusal :=
  let p := port.val
  .next <|
    if s.canOpen p && (s.port p).nmt != .initialising && (s.val 0x1017 0 != 0 || (s.port p).isLonely || s.boot.recovery) then
      s.sendCan p (.heartbeat (nmtCode (s.port p).nmt))
    else s

/-- HEARTBEAT_CONSUMER_TIMEOUT (15 R372): a consumed node has been silent; EMCY 8130h follows from the event. -/
def execHeartbeatConsumerTimeout (port : Fin 2) (entry : Fin 4) (s : State) : Host.Outcome State Fault Refusal :=
  let p := port.val
  let v := s.val 0x1016 (entry.val + 1)
  let h : HbConsumer := (s.port p).hb.at {} entry.val
  .next <|
    if s.fullCan p && bits v 16 8 != 0 && bits v 0 16 != 0 && h.seen then
      ((s.updPort p (fun c => { c with hb := c.hb.put entry.val { seen := false, out := true } })).count (canCnt p) 0x0B).raise
        { code := 0x1D07, unit := p }
    else s

/-! ### LSS (15 R365, R370, R377) -/

/-- An LSS request; none is answered during a long operation. -/
def State.lssOn (s : State) (p : Nat) (f : State → Lss → State) : State :=
  s.onCanopen p (fun s => if s.od.longop.isSome then s else f s (s.port p).lss)

/-- An LSS request of the configuration state. -/
def State.lssConfig (s : State) (p : Nat) (f : State → State) : State := s.lssOn p (fun s l => if l.config then f s else s)

/-- Change a port's LSS slave. -/
def State.setLss (s : State) (p : Nat) (l : Lss) : State := s.updPort p (fun c => { c with lss := l })

/-- LSS_SWITCH_STATE_GLOBAL. -/
def execLssSwitchStateGlobal (port : Fin 2) (config : Bool) (s : State) : Host.Outcome State Fault Refusal :=
  .next (s.lssOn port.val (fun s l => s.setLss port.val { l with config := config, select := 0 }))

/-- LSS_SWITCH_STATE_SELECTIVE: vendor, product, revision and serial number in turn; the four matched enter the configuration state. -/
def execLssSwitchStateSelective (port : Fin 2) (field : Fin 4) (value : BitVec 32) (s : State) : Host.Outcome State Fault Refusal :=
  let k := field.val
  .next (s.lssOn port.val (fun s l =>
    if l.config then s
    else if value.toNat % 2 ^ 32 = s.identity (k + 1) % 2 ^ 32 ∧ (k = 0 ∨ l.select = k) then
      if k = 3 then (s.setLss port.val { l with config := true, select := 0 }).sendCan port.val (.lss 0x44 0)
      else s.setLss port.val { l with select := k + 1 }
    else s.setLss port.val { l with select := 0 }))

/-- LSS_CONFIGURE_NODE_ID (15 R382): writes NODE_ID of the port; answered with error 1 when out of range. -/
def execLssConfigureNodeId (port : Fin 2) (node : BitVec 8) (s : State) : Host.Outcome State Fault Refusal :=
  .next (s.lssConfig port.val (fun s =>
    if 1 ≤ node.toNat ∧ node.toNat ≤ 127 then (s.setNum (0x2E00 + port.val) 2 node.toNat).sendCan port.val (.lss 17 0)
    else s.sendCan port.val (.lss 17 1)))

/-- Indices of the CiA 305 table that NOMINAL_RATE takes (15 R363). -/
def rateIndex (i : Nat) : Bool := decide (i ≤ 8) && i != 5

/-- LSS_CONFIGURE_BIT_TIMING. -/
def execLssConfigureBitTiming (port : Fin 2) (table index : BitVec 8) (s : State) : Host.Outcome State Fault Refusal :=
  .next (s.lssConfig port.val (fun s =>
    if table = 0 ∧ rateIndex index.toNat = true then
      (s.setLss port.val { (s.port port.val).lss with rate := some index.toNat }).sendCan port.val (.lss 19 0)
    else s.sendCan port.val (.lss 19 1)))

/-- LSS_ACTIVATE_BIT_TIMING (15 R365): the configured rate, or NOMINAL_RATE, is in force after the switch delay. -/
def execLssActivateBitTiming (port : Fin 2) (s : State) : Host.Outcome State Fault Refusal :=
  .next (s.lssConfig port.val (fun s =>
    let r := (s.port port.val).lss.rate.getD (s.canNum port.val 3)
    s.updPort port.val (fun c => { c with inForce := c.inForce.put 3 r })))

/-- LSS_STORE_CONFIGURATION (15 R382): writes NOMINAL_RATE of the port; NODE_ID was written when it was configured. -/
def execLssStoreConfiguration (port : Fin 2) (s : State) : Host.Outcome State Fault Refusal :=
  .next (s.lssConfig port.val (fun s =>
    let s := match (s.port port.val).lss.rate with
      | some r => s.setNum (0x2E00 + port.val) 3 r
      | none => s
    s.sendCan port.val (.lss 23 0)))

/-- LSS_INQUIRE_IDENTITY. -/
def execLssInquireIdentity (port : Fin 2) (field : Fin 4) (s : State) : Host.Outcome State Fault Refusal :=
  .next (s.lssConfig port.val (fun s => s.sendCan port.val (.lss (0x5A + field.val) (s.identity (field.val + 1) % 2 ^ 32))))

/-- LSS_INQUIRE_NODE_ID. -/
def execLssInquireNodeId (port : Fin 2) (s : State) : Host.Outcome State Fault Refusal :=
  .next (s.lssConfig port.val (fun s => s.sendCan port.val (.lss 0x5E (s.nodeId port.val))))

/-- One of the six messages of identify remote slave: vendor, product, and the ranges of revision and serial number. -/
def State.remoteMatch (s : State) (k v : Nat) : Bool :=
  match k with
  | 0 => v == s.identity 1
  | 1 => v == s.identity 2
  | 2 => decide (v ≤ s.identity 3)
  | 3 => decide (s.identity 3 ≤ v)
  | 4 => decide (v ≤ s.identity 4 % 2 ^ 32)
  | _ => decide (s.identity 4 % 2 ^ 32 ≤ v)

/-- LSS_IDENTIFY_REMOTE_SLAVE: answered when all six match. -/
def execLssIdentifyRemoteSlave (port : Fin 2) (field : Fin 6) (value : BitVec 32) (s : State) : Host.Outcome State Fault Refusal :=
  let k := field.val
  .next (s.lssOn port.val (fun s l =>
    if s.remoteMatch k value.toNat = true ∧ (k = 0 ∨ l.remote = k) then
      if k = 5 then (s.setLss port.val { l with remote := 0 }).sendCan port.val (.lss 0x4F 0)
      else s.setLss port.val { l with remote := k + 1 }
    else s.setLss port.val { l with remote := 0 }))

/-- LSS_FASTSCAN: bit checked 128 starts a scan; a field whose bits above the one checked match is answered; after the last field the slave is in the configuration state. -/
def execLssFastscan (port : Fin 2) (id : BitVec 32) (bitChecked : Fin 129) (sub next : Fin 4) (s : State) :
    Host.Outcome State Fault Refusal :=
  let p := port.val
  let b := bitChecked.val
  .next (s.lssOn p (fun s l =>
    if l.config then s
    else if b = 128 then (s.setLss p { l with fast := 0 }).sendCan p (.lss 0x4F 0)
    else if b ≤ 31 ∧ l.fast = sub.val ∧ id.toNat / 2 ^ b = s.identity (sub.val + 1) % 2 ^ 32 / 2 ^ b then
      let s := if b = 0 then s.setLss p { l with fast := next.val, config := decide (next.val < sub.val) } else s
      s.sendCan p (.lss 0x4F 0)
    else s))

/-! ### The protocol side (15 R380, R385) -/

/-- Everything that makes the protocol side available holds. -/
def State.protocolSide (s : State) : Bool :=
  let p0 : Pressroom := s.host.press.at {} 0
  s.computeRuns && s.link.up && s.boot.started && s.boot.halt == 0 && p0.run && !p0.restarting

/-- PROTOCOL_SIDE_RETURN (15 R380, R385): each port restarts as at reset communication. -/
def execProtocolSideReturn (s : State) : Host.Outcome State Fault Refusal :=
  .next <|
    if s.protocolSide then
      [0, 1].foldl (fun (s : State) p => if (s.port p).avail then s else (s.updPort p (fun c => { c with avail := true })).resetComm p) s
    else s

end Machine
end Sys2Proof
end

