-- ==== Sys2Proof/Machine/Write.lean ====
section
/-!
DEFINITION. What a dictionary write does to each entry (16 R386-R405 and each chapter's object table; 15 R363, R364, R382; 12 R307).
-/
namespace Sys2Proof
namespace Machine

/-- A write succeeds with the state given. -/
def done (s : State) : State × Resp := (s, .ok)

/-- A plain writable scalar takes its value. -/
def State.setPlain (s : State) (idx sub v : Nat) : State × Resp := done (s.setNum idx sub v)

/-- A DOMAIN of the compute die's dictionary takes its value. -/
def State.putDom (s : State) (idx sub : Nat) (b : List Byte) : State := { s with od := { s.od with cfg := s.od.cfg.setDom idx sub b } }

/-- A value out of range, or refused by the entry's rule. -/
def State.badValue (s : State) : State × Resp := (s, .abort 0x06090030)

/-! ### PDO records (16 R389, R393; 15 R370; CiA 301) -/

/-- The PDO of a communication or mapping record is valid. -/
def State.pdoValid (s : State) (idx : Nat) : Bool :=
  let base := if idx < 0x1800 then 0x1400 else 0x1800
  !bit (s.val (base + idx % 256) 1) 31

/-- Some port has PROFILE 2 in force. -/
def State.anyFd (s : State) : Bool := s.canSet 0 1 == 2 || s.canSet 1 1 == 2

/-- The entry can be mapped with the length given: TPDO entries marked in their table, for RPDOs ADMIT of S1-S31. -/
def mappable (tpdo : Bool) (m : Nat) : Bool :=
  match entryRow (mapIdx m) (mapSub m) with
  | .error _ => false
  | .ok r =>
    decide (r.ty.size ≠ 0 ∧ m % 256 = 8 * r.ty.size) &&
      if tpdo then r.pdo && (r.acc == .ro || r.acc == .rw || r.acc == .rwr)
      else decide (0x2401 ≤ mapIdx m ∧ mapIdx m ≤ 0x241F) && mapSub m == 0x22

/-- Write a PDO communication record: a valid PDO's COB-ID and inhibit time do not change; types 241-253 do not exist. -/
def State.writePdoComm (s : State) (idx sub v : Nat) : State × Resp :=
  let old := s.val idx sub
  if sub = 1 then
    if s.pdoValid idx && !bit v 31 && v != old then s.badValue else s.setPlain idx sub v
  else if sub = 2 then (if 241 ≤ v ∧ v ≤ 253 then s.badValue else s.setPlain idx sub v)
  else if sub = 3 then (if s.pdoValid idx then s.badValue else s.setPlain idx sub v)
  else s.setPlain idx sub v

/-- Write a PDO mapping record by the CiA 301 procedure: the PDO invalid, the count 0 while entries change. -/
def State.writePdoMap (s : State) (idx sub v : Nat) : State × Resp :=
  let tpdo : Bool := decide (0x1A00 ≤ idx)
  if s.pdoValid idx then s.refuse
  else if sub = 0 then
    let l := (List.range v).map (fun i => s.val idx (i + 1))
    let n := mapBytes l
    if l.any (fun m => !mappable tpdo m) then (s, .abort 0x06040041)
    else if 64 < n ∨ (8 < n ∧ s.anyFd = false) then (s, .abort 0x06040042)
    else s.setPlain idx 0 v
  else if s.val idx 0 ≠ 0 then s.refuse
  else if v ≠ 0 ∧ mappable tpdo v = false then (s, .abort 0x06040041)
  else s.setPlain idx sub v

/-- Communication objects 1000h-1FFFh. -/
def State.writeComm (s : State) (idx sub v : Nat) : State × Resp :=
  if idx = 0x1003 then (if v = 0 then done { s with rep := { s.rep with hist := [] } } else s.badValue)
  else if idx = 0x1010 then s.writeStore sub v
  else if idx = 0x1011 then s.writeRestore sub v
  else if idx = 0x1016 then done ((s.setNum idx sub v).freshConsumer (sub - 1))
  else if idx < 0x1400 then s.setPlain idx sub v
  else if idx < 0x1600 ∨ (0x1800 ≤ idx ∧ idx < 0x1A00) then s.writePdoComm idx sub v
  else s.writePdoMap idx sub v

/-! ### The field die's objects (02 R70, R72; 03 R75, R84, R85, R99) -/

/-- A web clock entry: those with rules of their own, then the cue and backup conditions of R70. -/
def State.writeWc (s : State) (n sub v : Nat) : State × Resp :=
  let idx := 0x2100 + n
  match sub with
  | 0x02 => s.writeDecode n v
  | 0x04 => s.writeLen n v
  | 0x0C => s.writeMarkCfg n .pe v
  | 0x0E => s.writeMarkCfg n .phase v
  | 0x0F => s.writeMarkCfg n .window v
  | 0x16 => if v = 1 then s.returnToPrimary n else s.acknowledgeLost n
  | _ =>
    let backup : Bool := decide (0x13 ≤ sub)
    if sub = 0x13 ∧ v = n then s.badValue
    else s.fieldWrite (fun s =>
      if (sub = 3 ∨ backup = true) ∧ s.cuesActive n = true then s.refuse
      else if backup = true ∧ (s.clock n).onBackup = true then s.refuse
      else done (s.applyField idx sub v))

/-- A kicker entry. -/
def State.writeKicker (s : State) (n sub v : Nat) : State × Resp :=
  match sub with
  | 0x01 => s.writeKickEnable n v
  | 0x08 => if v = 1 then s.retryNow n else s.clearOpenOn n
  | _ => s.fieldWrite (fun s => done (s.applyField (0x2600 + n) sub v))

/-- A cue is ARMED or LIVE on a web clock that uses the encoder. -/
def State.encoderBusy (s : State) (m : Nat) : Bool :=
  (List.range 8).any (fun n => (n == m || (s.wcCfg n).backup == m) && s.cuesActive n)

/-- Triggers, photo-eyes and encoder receivers. -/
def State.writePins (s : State) (idx sub v : Nat) : State × Resp :=
  if idx = 0x2610 ∧ sub = 5 then s.retryTriggers v
  else s.fieldWrite (fun s =>
    if idx = 0x2630 ∧ sub ≤ 8 ∧ s.encoderBusy (sub - 1) = true then s.refuse else done (s.applyField idx sub v))

/-! ### Channels and pipelines (04 R127, R128; 05 R150) -/

/-- An intake channel entry; ENABLE = 1 passes the start-up check (its own row says when it fails). -/
def State.writeIc (s : State) (n sub v : Nat) : State × Resp :=
  match sub with
  | 0x01 => if v = 1 then s.enableChannel n true else s.disableChannel n
  | 0x1A => if v = 1 then s.resetChannel n else s.flushSerial n
  | _ =>
    match s.icWriteFault n sub v with
    | some a => (s, .abort a)
    | none => s.setPlain (0x2200 + n) sub v

/-- A change of a shadow set; while the channel is OFF the active set takes it too. -/
def State.bothSets (s s' : State) (n : Nat) : State :=
  if (s.intake n).state = .off then s'.updPipe n (fun p => { p with act := s'.shadowSet n }) else s'

/-- A scalar of a pipeline; while the channel is OFF the entry's own rule is judged at once. -/
def State.writeIsp (s : State) (n sub v : Nat) : State × Resp :=
  if sub = 0x1C then s.applySet n
  else
    let fault := if (s.intake n).state = .off ∧ sub = 0x0A then s.tnrFault n v else none
    match fault with
    | some f => (s, .abort (setAbort f))
    | none => done (s.bothSets (s.setNum (0x2300 + n) sub v) n)

/-- A DOMAIN of a pipeline, or the patch set of 2320h. -/
def State.writeIspDom (s : State) (n idx sub : Nat) (b : List Byte) : State × Resp :=
  let off : Bool := (s.intake n).state == .off
  let fault :=
    if idx = 0x2320 then (if off then s.patchFault n b else none)
    else if ispDomOk sub b = false then some SetFault.range
    else if off = true ∧ sub = 0x1B then s.cropFault n b else none
  match fault with
  | some f => (s, .abort (setAbort f))
  | none => done (s.bothSets (s.putDom idx sub b) n)

/-- RESULT_RING of 2320h: a C3 drop-new ring of the channel's station, or none (05 R149, 07 R186). -/
def State.writeResultRing (s : State) (sub v : Nat) : State × Resp :=
  if v = 0xFFFFFFFF ∨ s.c3Ring (s.channelOwner (sub - 0x11)) v = true then s.setPlain 0x2320 sub v else s.refuse

/-! ### Stations (11 R281-R283, R292; 10 R269, R275) -/

/-- A station entry, its value as bytes. -/
def State.writeStation (s : State) (st sub : Nat) (data : List Byte) : State × Resp :=
  if sub = 9 then s.writeWindowSet st data
  else if sub = 0x12 then s.startTearDown st
  else if sub = 0x22 then s.writeAdmit st (leNat data)
  else if 0x20 ≤ sub then s.writeRoster st sub data
  else s.writeResource st sub data

/-! ### CAN ports (15 R363, R364, R382) -/

/-- A custom nominal bit timing (R364); 0 is always accepted. -/
def nbtOk (v : Nat) : Bool :=
  v == 0 || (bits v 0 2 == 0 && decide (2 ≤ bits v 16 8 + 1) && decide (bits v 2 7 ≤ bits v 9 7)
    && decide (8 ≤ 1 + (bits v 16 8 + 1) + (bits v 9 7 + 1)))

/-- A custom data bit timing (R364); 0 is always accepted. -/
def dbtOk (v : Nat) : Bool :=
  v == 0 || (bits v 0 6 == 0 && decide (bits v 14 4 ≤ bits v 18 4) && decide (8 ≤ 1 + (bits v 22 5 + 1) + (bits v 18 4 + 1)))

/-- A JDT transfer or request of the address is in progress on the port. -/
def State.jdtBusyWith (s : State) (p addr : Nat) : Bool :=
  (s.port p).jdtWait.contains addr || (s.port p).jdtXfer.any (fun (x : Nat × Xfer) => x.1 == addr)

/-- A CAN port entry. -/
def State.writeCan (s : State) (p sub v : Nat) : State × Resp :=
  let get (k : Nat) : Nat := s.canNum p k
  let bad : Bool :=
    match sub with
    | 3 => v == 0xFF && get 5 == 0
    | 4 => v == 0 && get 6 == 0
    | 5 => !nbtOk v || (v == 0 && get 3 == 0xFF)
    | 6 => !dbtOk v || (v == 0 && get 4 == 0)
    | _ => false
  if bad then s.badValue
  else if sub = 7 ∧ v = 1 ∧ s.jdtBusyWith p (get 2) = true then s.refuse
  else s.setPlain (0x2E00 + p) sub v

/-! ### Services (16 R398-R404; 17 R430-R434) -/

/-- 2A00h but BLOCK. -/
def State.writeUpdate (s : State) (sub v : Nat) : State × Resp :=
  match sub with
  | 0x01 =>
    if v = 1 then s.updateBegin
    else if v = 2 then s.updateVerify
    else if v = 3 then s.updateActivate
    else if v = 4 then s.updateConfirm
    else s.updateCancel
  | 0x04 =>
    if s.bootRec.slotIs s.inactive .downloading then s.refuse
    else done { s with boot := { s.boot with imageLength := v } }
  | 0x12 => done { s with boot := { s.boot with runDef := v == 1 } }
  | _ => s.setPlain 0x2A00 sub v

/-- 3000h + p but IMAGE. -/
def State.writePackage (s : State) (p sub v : Nat) : State × Resp :=
  let free : Bool := (s.pk p).state == .empty
  match sub with
  | 0x02 => if free then done (s.updPk p (fun k => { k with station := v })) else s.refuse
  | 0x03 =>
    if v % 4096 ≠ 0 then s.badValue
    else if free then done (s.updPk p (fun k => { k with base := v })) else s.refuse
  | _ => if v = 1 then s.packageVerify p else s.packageRemove p

/-- 2500h and 2700h. -/
def State.writeCore (s : State) (idx sub v : Nat) : State × Resp :=
  if idx = 0x2500 ∧ sub = 5 then s.writeRetire v
  else if idx = 0x2500 ∧ sub = 6 then s.writeTest v
  else if idx = 0x2700 ∧ sub = 2 then s.writeRequest v
  else s.setPlain idx sub v

/-- The event log's writable entries (16 R402). -/
def State.writeLog (s : State) (sub v : Nat) : State × Resp :=
  if sub = 3 then done { s with od := { s.od with select := v } } else done { s with rep := { s.rep with log := [] } }

/-- Clear the counter object whose index is written to 28FFh:01 (00 R14, 18 R453). -/
def State.writeClear (s : State) (v : Nat) : State × Resp :=
  match s.clearObject v with
  | some s' => done s'
  | none => s.badValue

/-! ### One entry -/

/-- A scalar in its row's range is written. -/
def State.writeNum (s : State) (idx sub v : Nat) (data : List Byte) : State × Resp :=
  if idx < 0x2000 then s.writeComm idx sub v
  else if idx ≤ 0x2107 then s.writeWc (idx - 0x2100) sub v
  else if idx = 0x2110 then s.setPlain idx sub v
  else if idx ≤ 0x220F then s.writeIc (idx - 0x2200) sub v
  else if idx ≤ 0x230F then s.writeIsp (idx - 0x2300) sub v
  else if idx = 0x2320 then s.writeResultRing sub v
  else if idx ≤ 0x241F then s.writeStation (idx - 0x2400) sub data
  else if idx = 0x2500 ∨ idx = 0x2700 then s.writeCore idx sub v
  else if idx ≤ 0x2607 then s.writeKicker (idx - 0x2600) sub v
  else if idx ≤ 0x2630 then s.writePins idx sub v
  else if idx = 0x28FF then s.writeClear v
  else if idx < 0x2900 then s.writeCounter idx sub v
  else if idx = 0x2A00 then s.writeUpdate sub v
  else if idx = 0x2B00 then s.revokeKey v
  else if idx = 0x2C00 then s.writeLog sub v
  else if idx = 0x2D00 then s.setPlain idx sub v
  else if idx ≤ 0x2E01 then s.writeCan (idx - 0x2E00) sub v
  else s.writePackage (idx - 0x3000) sub v

/-- A whole DOMAIN of the right length is written. -/
def State.writeDom (s : State) (idx sub : Nat) (data : List Byte) : State × Resp :=
  if idx ≤ 0x230F then s.writeIspDom (idx - 0x2300) idx sub data
  else if idx = 0x2320 then s.writeIspDom (sub - 1) idx sub data
  else if idx ≤ 0x241F then s.writeStation (idx - 0x2400) sub data
  else s.updateBlock data

/-- A whole value is written to an entry whose row is known: type and length, range, then the entry's rule. -/
def State.writeValue (s : State) (idx sub : Nat) (r : Row) (data : List Byte) : State × Resp :=
  if r.ty = .dom then
    if r.ok.any (fun p => decide (p.1 ≤ data.length ∧ data.length ≤ p.2)) then s.writeDom idx sub data else (s, .abort 0x06070010)
  else if data.length ≠ r.ty.size then (s, .abort 0x06070010)
  else if r.inRange (leNat data) = false then s.badValue
  else s.writeNum idx sub (leNat data) data

/-- What a write through VF f may name (12 R307). -/
def State.vfMayWrite (s : State) (f idx sub : Nat) : Bool :=
  if 0x2200 ≤ idx ∧ idx ≤ 0x220F then s.channelOwner (idx - 0x2200) == f
  else if 0x2300 ≤ idx ∧ idx ≤ 0x230F then s.channelOwner (idx - 0x2300) == f
  else if idx = 0x2320 then decide (1 ≤ sub ∧ sub ≤ 0x20) && s.channelOwner ((sub - 1) % 16) == f
  else if 0x2600 ≤ idx ∧ idx ≤ 0x2607 then s.maskOwner 4 (idx - 0x2600) == f
  else if idx = 0x2400 + f then sub == 0x0F || sub == 0x12 || decide (0x20 ≤ sub ∧ sub ≤ 0x25)
  else if 0x3000 ≤ idx ∧ idx ≤ 0x303F then (s.pk (idx - 0x3000)).state == .empty || (s.pk (idx - 0x3000)).via == f
  else false

/-- What refuses a write before its value is looked at: missing entries, the path's rights, and access (16 R388, R391, R392; 12 R307). -/
def State.writeGate (s : State) (f idx sub : Nat) : Except Nat Row :=
  match s.namedRow idx sub with
  | .error a => .error a
  | .ok r =>
    if f ≠ 0 ∧ s.vfMayWrite f idx sub = false then .error 0x06010000
    else if r.acc = .const ∨ r.acc = .ro then .error 0x06010002
    else if s.boot.recovery = true ∧ idx = 0x2B00 then .error 0x06010002
    else .ok r

/-- A write of STATION through a virtual function names that function's station, and its images go to that station (16 R404). -/
def State.vfStationOk (s : State) (f idx sub : Nat) (data : List Byte) : Bool :=
  f == 0 || !(decide (0x3000 ≤ idx)) ||
    (if sub = 2 then leNat data == f else if sub = 1 then (s.pk (idx - 0x3000)).station == f else true)

/-- One IMAGE segment through function f (16 R404). -/
def State.imageSegment (s : State) (f p off : Nat) (last : Bool) (data : List Byte) : State × Resp :=
  match s.packageSegment p off last data with
  | (s, .ok) => done (if off = 0 then s.updPk p (fun k => { k with via := f }) else s)
  | x => x

end Machine
end Sys2Proof
end

