-- ==== Sys2Proof/Machine/Registers.lean ====
section
/-!
DEFINITION. The register space: which offsets hold a register and of what width, what a read gives and what a write does (06 R157, Table 6-3; the register table of each chapter).
-/
namespace Sys2Proof
namespace Machine

/-! ### Which registers there are (06 R157) -/

/-- How a register is accessed. -/
inductive RegAcc where
  | ro | wo | rw
  deriving DecidableEq, Repr

/-- A register: width in bytes and access. -/
structure RegRow where
  size : Nat
  acc : RegAcc
  deriving DecidableEq, Repr

/-- The rows of a block or of one unit of it, by offset. -/
abbrev RegMap := List (Nat × RegRow)

/-- A read-only register. -/
def roReg (off size : Nat) : Nat × RegRow := (off, { size := size, acc := .ro })
/-- A write-only register. -/
def woReg (off size : Nat) : Nat × RegRow := (off, { size := size, acc := .wo })
/-- A register that is read and written. -/
def rwReg (off size : Nat) : Nat × RegRow := (off, { size := size, acc := .rw })

/-- Web clock registers (02 Table 2-8). -/
def wcMap : RegMap := [rwReg 0 4, roReg 8 8, roReg 0x10 4, roReg 0x14 4, roReg 0x18 4, roReg 0x1C 4]
/-- Field die and Field Link registers (03 Table 3-9). -/
def fdMap : RegMap := [rwReg 0 4, roReg 4 4, roReg 8 4]
/-- Intake channel registers (04 Table 4-12). -/
def icMap : RegMap :=
  [rwReg 0 4, roReg 4 4, roReg 8 4, woReg 0x10 8, roReg 0x18 4, woReg 0x20 8, roReg 0x28 8, rwReg 0x30 4, roReg 0x38 8, roReg 0x40 4]
/-- Image pipeline registers (05 Table 5-13). -/
def ispMap : RegMap := [rwReg 0 4, roReg 4 4, roReg 0x10 4]
/-- Neural core registers (08 Table 8-9). -/
def ncMap : RegMap :=
  [roReg 0 4, roReg 8 8, roReg 0x10 8, roReg 0x18 4] ++ (List.range 14).map (fun e => roReg (0x40 + 4 * e) 4)
    ++ (List.range 4).map (fun g => rwReg (0x80 + 8 * g) 8)
/-- Roster registers (10 Table 10-8). -/
def rstMap : RegMap := [rwReg 0 4, roReg 8 8, roReg 0x10 8, roReg 0x18 8, rwReg 0x20 4, roReg 0x40 32]
/-- Referee registers (11 Table 11-11). -/
def refMap : RegMap :=
  [roReg 0 4, roReg 8 8, woReg 0x40 4] ++ (List.range 4).map (fun h => rwReg (0x10 + 8 * h) 4)
    ++ (List.range 64).map (fun i => roReg (0x100 + 0x20 * i) 32)
/-- One EVC target's registers (13 Table 13-6). -/
def tgtMap : RegMap := [rwReg 0 4, rwReg 8 8, roReg 0x20 32]
/-- Power registers (14 Table 14-9). -/
def pwrMap : RegMap := [rwReg 0 4, roReg 8 8, rwReg 0x10 4, rwReg 0x18 8, rwReg 0x20 8]
/-- Boot registers (17 Table 17-12). -/
def bootMap : RegMap := [roReg 0 4, rwReg 8 4, roReg 0x10 4, rwReg 0x20 16, rwReg 0x40 8, woReg 0x48 4, woReg 0x50 32, roReg 0x70 4]
/-- Groundskeeper registers beside the counter mirrors (18 Table 18-6). -/
def gkMap : RegMap := [rwReg 0xFF00 4, woReg 0xFF08 4, roReg 0xFF10 4, roReg 0xFF18 4]
/-- Host port, Ethernet and PTP registers (12 Table 12-9). -/
def hpMap : RegMap :=
  [rwReg 0 4, rwReg 8 8, rwReg 0x120 4, rwReg 0x160 4, roReg 0x200 16, woReg 0x210 16, rwReg 0x220 8]
    ++ (List.range 4).map (fun q => rwReg (0x100 + 8 * q) 8) ++ (List.range 4).map (fun q => rwReg (0x140 + 8 * q) 8)
    ++ (List.range 8).map (fun w => roReg (0x300 + 8 * w) 8)
/-- Operation and result of the rings or the quoins (07 Table 7-8). -/
def opMap : RegMap := [woReg 0 8, roReg 8 8]
/-- Codec registers (12 Table 12-9). -/
def cdcMap : RegMap := [woReg 0 8, roReg 8 8, roReg 0x10 4]

/-- The row of an offset. -/
def regRow (m : RegMap) (off : Nat) : Option RegRow := (m.find? (fun x => x.1 == off)).map Prod.snd

/-- The row of an offset in a block of units `stride` apart. -/
def unitRow (m : RegMap) (stride units off : Nat) : Option RegRow := if off / stride < units then regRow m (off % stride) else none

/-- An 8-byte or 4-byte register in an evenly spaced run. -/
def runRow (first last size : Nat) (acc : RegAcc) (off : Nat) : Option RegRow :=
  if first ≤ off ∧ off < last ∧ (off - first) % size = 0 then some { size := size, acc := acc } else none

/-- EVC registers (13 Table 13-6). -/
def evcRow (off : Nat) : Option RegRow :=
  if off < 0x2100 then runRow 0 0x2100 8 .rw off
  else if off < 0x5000 then runRow 0x2400 0x4500 8 .ro off
  else if off < 0x6000 then unitRow tgtMap 0x40 38 (off - 0x5000)
  else if off = 0x6000 then some { size := 4, acc := .wo }
  else runRow 0x6100 0x6180 4 .ro off

/-- The Groundskeeper's block: the counter mirrors, and its registers (18 R454, R455). -/
def gkRow (off : Nat) : Option RegRow :=
  if off % 4 = 0 ∧ isCounter (0x2800 + off / 256) (off % 256 / 4) = true then some { size := 4, acc := .rw } else regRow gkMap off

/-- The register at an offset of a block; none where the offset holds none (06 R157, Table 6-3). -/
def regAt (block off : Nat) : Option RegRow :=
  match block with
  | 0x00 => unitRow wcMap 0x100 8 off
  | 0x01 => regRow fdMap off
  | 0x10 => unitRow icMap 0x1000 16 off
  | 0x11 => unitRow ispMap 0x1000 16 off
  | 0x12 => unitRow ncMap 0x1000 16 off
  | 0x13 => regRow rstMap off
  | 0x14 => regRow opMap off
  | 0x15 => (regRow opMap off).or (runRow 0x100 0x200 8 .ro off)
  | 0x16 => regRow refMap off
  | 0x17 => evcRow off
  | 0x18 => regRow pwrMap off
  | 0x19 => regRow bootMap off
  | 0x1A => gkRow off
  | 0x1B => unitRow [roReg 0 4] 0x100 2 off
  | 0x1C => regRow hpMap off
  | 0x1E => regRow cdcMap off
  | _ => none

/-! ### Values of registers -/

/-- A meaning's next state. -/
def ran (o : Host.Outcome State Fault Refusal) (s : State) : State :=
  match o with
  | .next t => t
  | .fault _ => s
  | .refused _ => s

/-- A banked result register: the requester's own (07 R204). -/
def banked (t : Tab Nat) (req : Requester) : Nat :=
  match softRequester req with
  | some k => t.at 0 k
  | none => 0

/-- WC_CTRL (02 Table 2-8). -/
def State.wcCtrl (s : State) (n : Nat) : Nat :=
  let c := Machine.wcCfg s.od.cfg n
  (if c.decode = 1 then 0 else if c.decode = 2 then 8 else 16) + bitIf (s.num (0x2100 + n) 3 0 == 1) 2 + bitIf (s.num (0x2100 + n) 1 0 == 1) 0

/-- A web clock's registers. -/
def State.wcReg (s : State) (n off : Nat) : Nat :=
  match off with
  | 0 => s.wcCtrl n
  | 8 => s.readWc n 0x17
  | 0x10 => s.readWc n 0x18
  | 0x14 => s.readWc n 0x19
  | 0x18 => s.readWc n 0x1A
  | _ => s.readWc n 0x1C

/-- The field die's registers, as last reported, and FL_STATUS (03 R100). -/
def State.fdReg (s : State) (off : Nat) : Nat :=
  match off with
  | 0 => s.link.statRep
  | 4 => s.link.faultRep
  | _ => s.flStatus

/-- An intake channel's registers that a read does not change. -/
def State.icReg (s : State) (n off : Nat) : Nat :=
  let c := s.intake n
  match off with
  | 0 => bitIf (s.icn n 1 == 1) 0
  | 4 => s.icStatus n
  | 8 => chanCode c.state
  | 0x30 => c.xtPeriod * 2 ^ 16 + c.xtWidth
  | 0x38 => c.cap.toNat
  | _ => c.capTime.toNat

/-- An image pipeline's registers. -/
def State.ispReg (s : State) (n off : Nat) : Nat :=
  match off with
  | 0 => 0
  | 4 => s.ispStatus n
  | _ => s.pmStatus n

/-- NC_GRANULEg of a core. -/
def State.granuleReg (s : State) (c g : Nat) : Nat :=
  ((List.range 12).map (fun i => if 12 * g + i < granules c then s.granuleOf c (12 * g + i) * 2 ^ (5 * i) else 0)).sum

/-- A neural core's registers. -/
def State.ncReg (s : State) (c off : Nat) : Nat :=
  let k := s.core c
  match off with
  | 0 => k.station * 2 ^ 11 + s.coreStateWord c
  | 8 => k.list
  | 0x10 => k.cause * 2 ^ 56 + k.faultSt * 2 ^ 51 + k.faultCmd
  | 0x18 => k.strideOk
  | _ => if off < 0x80 then k.stride.at 0 ((off - 0x40) / 4 + 1) else s.granuleReg c ((off - 0x80) / 8)

/-- Code of STATE of a sequence entry (10 Table 10-5). -/
def seqCode : SeqState → Nat
  | .free => 0
  | .ready => 1
  | .running => 2

/-- A sequence entry as RST_SEQ shows it (10 Table 10-5). -/
def seqWord (q : SeqEntry) : Nat :=
  seqCode q.state * 2 ^ 253 + q.station * 2 ^ 248 + q.package * 2 ^ 242 + q.variant * 2 ^ 238 + q.step * 2 ^ 227 + q.window * 2 ^ 222
    + q.tag * 2 ^ 218 + q.imp * 2 ^ 186 + q.deadline * 2 ^ 138 + q.homeCore * 2 ^ 134 + q.homeSlot * 2 ^ 132 + bitIf q.homeValid 131
    + q.cue * 2 ^ 118 + q.partsLeft.length * 2 ^ 113 + q.partsRun * 2 ^ 108 + bitIf q.rerun 107 + q.recRing * 2 ^ 91 + q.recStart * 2 ^ 59

/-- Sequences in a state. -/
def State.seqsIn (s : State) (x : SeqState) : Nat := (s.rs.seq.filter (fun e => e.2.state == x)).length

/-- RST_MAP of a core class: byte k for logical core k (10 Table 10-8). -/
def State.rstMap (s : State) (cls : Nat) : Nat := leNat ((s.classMap cls).map (fun c => BitVec.ofNat 8 (128 + c)))

/-- The Roster's registers. -/
def State.rstReg (s : State) (off : Nat) : Nat :=
  match off with
  | 0 => s.stNum 0 0x28
  | 8 => s.rs.live * 2 ^ 48 + s.rs.makeup * 2 ^ 32 + s.seqsIn .ready * 2 ^ 10 + s.seqsIn .running
  | 0x10 => s.rstMap 0
  | 0x18 => s.rstMap 1
  | 0x20 => s.rs.seqSel
  | _ => seqWord (s.rs.seq.at {} s.rs.seqSel)

/-- The Referee's registers. -/
def State.refReg (s : State) (off : Nat) : Nat :=
  if off = 0 then s.ref.written
  else if off = 8 then s.ref.seq * 2 ^ 32 + s.ref.head
  else if off < 0x100 then s.ref.hart.at 0 ((off - 0x10) / 8)
  else s.ref.log.at 0 ((off - 0x100) / 0x20)

/-- EVC_STKDATA: the stack, bottom entry first (13 Table 13-6). -/
def stackWord (t : EvcTarget) : Nat :=
  (t.stack.reverse.zipIdx.map (fun x => (x.1.2 * 2 ^ 11 + x.1.1) * 2 ^ (16 * x.2))).sum

/-- The EVC's registers. -/
def State.evcReg (s : State) (off : Nat) : Nat :=
  let e := s.rep.evc
  if off < 0x2400 then (e.cfg (off / 8)).toNat
  else if off < 0x5000 then
    let x := e.state ((off - 0x2400) / 8)
    bitIf x.pending 15 + bitIf x.inService 14 + x.c
  else if off < 0x6000 then
    let t := e.target ((off - 0x5000) / 0x40)
    match off % 0x40 with
    | 0 => bitIf t.meip 4 + t.thresh
    | 8 => bitIf t.frozen 63 + bitIf t.tagLoss 62 + t.stack.length
    | _ => stackWord t
  else (e.ext ((off - 0x6100) / 4)).xcap.toNat

/-- STATE in PWR_STATUS (14 Table 14-9). -/
def State.pwrCode (s : State) : Nat := if s.pwr.entering then 2 else if s.pwr.state = .doze then 1 else 0

/-- The power registers. -/
def State.pwrReg (s : State) (off : Nat) : Nat :=
  match off with
  | 0 => bitIf s.dozeEn 8
  | 8 => s.pwr.cause * 2 ^ 32 + vfCode s.pwr.vfield * 2 ^ 24 + s.pwr.wakeSrc * 2 ^ 16 + s.pwr.refuse * 2 ^ 8 + s.pwr.last * 16 + s.pwrCode
  | 0x10 => s.wakeEn
  | 0x18 => s.rtc
  | _ => s.pwr.rtcAlarm

/-- BOOT_STATUS (17 Table 17-12). -/
def State.bootStatus (s : State) : Nat :=
  let b := s.boot
  bitIf b.foundryLock 31 + bitIf b.bullpenLock 30 + bitIf b.lastWdog 29 + b.mode * 2 ^ 24 + b.slot * 2 ^ 22 + bitIf b.trial 21
    + s.bootRec.fallback * 2 ^ 19 + b.fuses.level * 2 ^ 8 + b.fuses.revoke.toNat * 16 + b.keySlot * 4

/-- Milliseconds left of the boot watchdog's 10,000 (17 R427). -/
def State.wdogLeft (s : State) : Nat :=
  match s.boot.wdog with
  | none => 0
  | some t => 10000 - (s.clk.ref - t) / Config.psPerMs

/-- The boot registers. -/
def State.bootReg (s : State) (off : Nat) : Nat :=
  match off with
  | 0 => s.bootStatus
  | 8 => bitIf s.boot.bootOk 0
  | 0x10 => s.wdogLeft
  | 0x20 => leNat s.bootRec.lpcfg
  | 0x40 => s.boot.flashAddr
  | _ => bitIf s.boot.flashError 1 + bitIf s.boot.flashBusy 0

/-- The Groundskeeper's registers and the counter mirrors. -/
def State.gkReg (s : State) (off : Nat) : Nat :=
  if off < 0xFF00 then (s.counter (0x2800 + off / 256) (off % 256 / 4)).toNat
  else match off with
    | 0xFF00 => bitIf s.gk.calEn 16 + s.gk.calPeriod
    | 0xFF10 => ((List.range 16).map (fun n => bitIf (s.gk.calDue.at false n) (16 + n))).sum
        + ((List.range 9).map (fun r => bitIf (s.gk.forced.at false r) r)).sum
    | _ => unsigned s.gk.temp 16

/-- CAN_STATUS of a port (15 R383). -/
def State.canStatus (s : State) (p : Nat) : Nat :=
  let c := s.port p
  min c.tec 255 * 2 ^ 24 + min c.recErr 255 * 2 ^ 16 + s.busState p * 2 ^ 8 + bitIf (s.canSet p 7 == 1 && c.avail) 7 + nmtCode c.nmt

/-- The host port's registers. -/
def State.hpReg (s : State) (off : Nat) : Nat :=
  if off = 0 then bitIf s.host.cfgReady 0
  else if off = 8 then s.host.outBase
  else if off < 0x200 then
    let x := s.macAt ((off - 0x100) / 0x40)
    if off % 0x40 = 0x20 then x.tsRing else x.queue (off % 0x40 / 8)
  else if off = 0x200 then s.phcWord
  else if off = 0x220 then unsigned s.host.phcAdj 64
  else (s.host.ppsPos.at 0 ((off - 0x300) / 8)).toNat

/-- The codec's registers. -/
def State.cdcReg (s : State) (req : Requester) (off : Nat) : Nat :=
  if off = 8 then banked s.host.codec.subres req else s.host.codec.queue.length

/-- The value of a register that a read leaves unchanged. -/
def State.regValue (s : State) (req : Requester) (block off : Nat) : Nat :=
  match block with
  | 0x00 => s.wcReg (off / 0x100) (off % 0x100)
  | 0x01 => s.fdReg off
  | 0x10 => s.icReg (off / 0x1000) (off % 0x1000)
  | 0x11 => s.ispReg (off / 0x1000) (off % 0x1000)
  | 0x12 => s.ncReg (off / 0x1000) (off % 0x1000)
  | 0x13 => s.rstReg off
  | 0x14 => banked s.rg.res req
  | 0x15 => banked s.qn.res req
  | 0x16 => s.refReg off
  | 0x17 => s.evcReg off
  | 0x18 => s.pwrReg off
  | 0x19 => s.bootReg off
  | 0x1A => s.gkReg off
  | 0x1B => s.canStatus (off / 0x100)
  | 0x1C => s.hpReg off
  | _ => s.cdcReg req off

end Machine
end Sys2Proof
end

