-- ==== Sys2Proof/Machine/RegWrite.lean ====
section
/-!
DEFINITION. What a write of a register does, and an access to the register space (06 R157, 11 R285; the register table of each chapter). Whether an access got an error response stands in `out.err`, the data of a read in `out.rdata`.
-/
namespace Sys2Proof
namespace Machine

/-- An error response to an access. -/
def State.regError (s : State) : State := s.regAnswer false

/-- A write that is done. -/
def State.regDone (s : State) : State := s.regAnswer true

/-- A register write that the rules of an object entry judge: refused as that entry's write would be, and then nothing changes (02 R72, 05 R150). -/
def State.asEntry (s : State) (f : State → State × Resp) : State :=
  match f s with
  | (_, .abort _) => s.regError
  | (s, .ok) => s.regDone
  | (s, .value _) => s.regDone

/-- A write after another: nothing more once one is refused. -/
def andThen (x : State × Resp) (f : State → State × Resp) : State × Resp :=
  match x with
  | (s, .abort a) => (s, .abort a)
  | (s, _) => f s

/-- A write of an entry that already holds the value changes nothing. -/
def skipIf (same : Bool) (f : State → State × Resp) (s : State) : State × Resp := if same then (s, .ok) else f s

/-- WC_CTRL: DECODE, EXPECT_DIR and ENABLE of 2100h + n in one write (02 R72, Table 2-8). -/
def State.writeWcCtrl (s : State) (n v : Nat) : State :=
  let idx := 0x2100 + n
  let d := 2 ^ bits v 3 2
  let dir := bits v 2 1
  let en := bits v 0 1
  if bits v 3 2 = 3 then s.regError
  else s.asEntry (fun s => s.fieldWrite (fun s =>
    andThen (andThen (skipIf ((s.wcCfg n).decode == d) (·.writeDecode n d) s) (skipIf (s.fnum idx 3 0 == dir) (·.writeWc n 3 dir)))
      (skipIf (s.fnum idx 1 0 == en) (·.writeWc n 1 en))))

/-- FD_STAT, carried to the field die (03 R100). -/
def State.writeFdStat (s : State) (v : Nat) : State :=
  s.asEntry (fun s => s.fieldWrite (fun s => ({ s with fd := { s.fd with stat := BitVec.ofNat 32 v &&& 0x10F#32 } }, .ok)))

/-- An intake channel's registers (04 Table 4-12). -/
def State.writeIcReg (s : State) (n : Fin 16) (off v : Nat) : State :=
  match off with
  | 0 => s.asEntry (fun s => s.writeIc n.val 1 (bits v 0 1))
  | 0x10 => (ran (execScpTxWrite n (BitVec.ofNat 64 v) s) s).regDone
  | 0x20 => (ran (execCciCmdWrite n (BitVec.ofNat 64 v) s) s).regDone
  | _ => (ran (execXtrigPulse n (BitVec.ofNat 32 v) s) s).regDone

/-- NC_GRANULEg: the owners of twelve granules; those a duo core lacks ignore the write (08 Table 8-9). -/
def State.writeGranules (s : State) (c g v : Nat) : State :=
  (s.updCore c (fun k =>
    { k with granule := (List.range 12).foldl (fun (t : Tab Nat) i =>
        if 12 * g + i < granules c then t.put (12 * g + i) (bits v (5 * i) 5) else t) k.granule })).regDone

/-- The Roster's registers (10 Table 10-8). -/
def State.writeRstReg (s : State) (off v : Nat) : State :=
  match off with
  | 0 => s.asEntry (fun s => s.writeRoster 0 0x28 (leBytes 1 v))
  | _ => ({ s with rs := { s.rs with seqSel := v % 1024 } } : State).regDone

/-- RG_OP (07 R204, Table 7-8); an OP that names no operation is refused. -/
def State.writeRgOp (s : State) (req : Requester) (v : Nat) : State :=
  let ring := BitVec.ofNat 16 (bits v 32 16)
  let len := BitVec.ofNat 32 (bits v 0 32)
  match bits v 60 4 with
  | 1 => ran (execRingClaim req ring len s) s
  | 2 => ran (execRingCommit req ring s) s
  | 3 => ran (execRingAbandon req ring s) s
  | 4 => ran (execRingRelease req ring len s) s
  | _ => s.regError

/-- QN_OP (07 R204, Table 7-8); an OP that names no operation is refused. -/
def State.writeQnOp (s : State) (req : Requester) (v : Nat) : State :=
  let quoin := BitVec.ofNat 12 (bits v 32 12)
  let arg := BitVec.ofNat 32 (bits v 0 32)
  match bits v 60 4 with
  | 1 => ran (execQuoinSignal req quoin arg s) s
  | 2 => ran (execQuoinReset req quoin arg s) s
  | 3 => ran (execQuoinPoll req quoin arg s) s
  | _ => s.regError

/-- REF_CARVE: both halves, or neither where a way named in either is not the station's own (11 Table 11-11). -/
def State.writeCarve (s : State) (req : Requester) (v : Nat) : State :=
  let carve := bits v 0 16
  let back := bits v 16 16
  if (List.range 16).all (fun w => !(bit carve w || bit back w) || s.wayOwner w == s.attrib req) then
    (s.carveHalf req carve true).carveHalf req back false
  else s.carveHalf req (carve ||| back) true

/-- The Referee's registers (11 Table 11-11). -/
def State.writeRefReg (s : State) (req : Requester) (off v : Nat) : State :=
  if off = 0x40 then s.writeCarve req v
  else ({ s with ref := { s.ref with hart := s.ref.hart.put ((off - 0x10) / 8) (v % 32) } } : State).regDone

/-- EVC_SRC fields that a source has: RING on ring watches, EDGE on external lines, WAKE on GPIO lines (13 Table 13-6). -/
def srcMask (id v : Nat) : Nat :=
  bits v 32 32 * 2 ^ 32 + (if 512 ≤ id ∧ id < 1024 then bits v 16 16 else 0) * 2 ^ 16
    + (if 1040 ≤ id then bits v 15 1 else 0) * 2 ^ 15 + (if 1024 ≤ id then bits v 12 3 else 0) * 2 ^ 12 + bits v 0 10

/-- The fields of EVC_SRC hold no refused value: TARGET 38-63, or EDGE 5-7 of an external line (13 R322, R323). -/
def srcOk (id v : Nat) : Bool := decide (bits v 4 6 < 38) && !(decide (1024 ≤ id) && decide (4 < bits v 12 3))

/-- A refused EVC field value: error response, register unchanged, counted (13 R338). -/
def State.evcRefuse (s : State) : State := (s.count 0x28B0 9).regError

/-- EVC_SRC: the source's old and new targets are judged again, and a level-mode line is pending while its level is active (13 R324, R327). -/
def State.writeSrc (s : State) (id v : Nat) : State :=
  if srcOk id v then
    let was := srcTarget (s.rep.evc.cfg id)
    let s := s.report (fun r => { r with evc := { r.evc with src := r.evc.src.put id (BitVec.ofNat 64 (srcMask id v)) } })
    let s := s.report (fun r =>
      if r.evc.levelMode id then
        { r with evc := { r.evc with st := r.evc.st.upd {} id (fun x => { x with pending := r.evc.active id && !x.inService }) } }
      else r)
    ((s.evaluate was).evaluate (srcTarget (BitVec.ofNat 64 v))).regDone
  else s.evcRefuse

/-- EVC_TGT (13 Table 13-6). -/
def State.writeTgt (s : State) (t v : Nat) : State :=
  ((s.report (fun r => r.setTarget t { r.evc.target t with meip := bit v 4, thresh := bits v 0 4 })).evaluate t).regDone

/-- EVC_STK: RESET, and TAG_ACK on a host hart target (13 R332, R333). -/
def State.writeStk (s : State) (t : Fin 38) (v : Nat) : State :=
  let s := if bit v 61 then ran (execEvcStackReset (.reg t) s) s else s
  (if h : t.val < 4 then (if bit v 60 then ran (execEvcTagAck ⟨t.val, h⟩ s) s else s) else s).regDone

/-- The EVC's registers (13 Table 13-6). -/
def State.writeEvcReg (s : State) (off v : Nat) : State :=
  if off < 0x2400 then s.writeSrc (off / 8) v
  else if h : (off - 0x5000) / 0x40 < 38 then
    (if off % 0x40 = 0 then s.writeTgt ((off - 0x5000) / 0x40) v else s.writeStk ⟨(off - 0x5000) / 0x40, h⟩ v)
  else (ran (execEvcSwset (BitVec.ofNat 32 v) s) s).regDone

/-- PWR_CTRL: DOZE_EN, and a sleep request; with a request that is refused nothing else changes (14 R349, Table 14-9). -/
def State.writePwrCtrl (s : State) (v : Nat) : State :=
  let req := bits v 0 2
  let s' := s.setNum 0x2700 5 (bits v 8 1)
  if req = 0 then s'.regDone
  else if req = 1 then s.regError
  else
    let t := s.sleepCommand req true
    if t.out.err then t else s'.sleepCommand req true

/-- The power registers (14 Table 14-9). -/
def State.writePwrReg (s : State) (off v : Nat) : State :=
  match off with
  | 0 => s.writePwrCtrl v
  | 0x10 => (s.setNum 0x2700 3 (v % 8)).regDone
  | 0x18 => (s.setRtc v).regDone
  | _ => ({ s with pwr := { s.pwr with rtcAlarm := v } } : State).regDone

/-- BOOT_FLASH_CMD (17 Table 17-12); a code that names no command is refused. -/
def State.writeFlashCmd (s : State) (v : Nat) : State :=
  match bits v 0 4 with
  | 1 => ran (execFlashProgram s) s
  | 2 => ran (execFlashErase s) s
  | _ => s.regError

/-- The boot registers (17 Table 17-12). -/
def State.writeBootReg (s : State) (off v : Nat) : State :=
  match off with
  | 8 => (ran (execBootOk (BitVec.ofNat 32 v) s) s).regDone
  | 0x20 => (ran (execBootLpcfgWrite (BitVec.ofNat 128 v) s) s).regDone
  | 0x40 => ({ s with boot := { s.boot with flashAddr := v % 2 ^ 23 } } : State).regDone
  | 0x48 => s.writeFlashCmd v
  | _ => ({ s with boot := { s.boot with flashData := BitVec.ofNat 256 v } } : State).regDone

/-- GK_CTRL: CAL_PERIOD_S of 0 or above 3,600 is refused (18 Table 18-6). -/
def State.writeGkCtrl (s : State) (v : Nat) : State :=
  let p := bits v 0 16
  if p = 0 ∨ 3600 < p then s.regError
  else ({ s with gk := { s.gk with calEn := bit v 16, calPeriod := p } } : State).regDone

/-- The Groundskeeper's registers and the counter mirrors (18 R454, R455). -/
def State.writeGkReg (s : State) (off v : Nat) : State :=
  if off < 0xFF00 then
    ran (execCounterClear (BitVec.ofNat 16 (0x2800 + off / 256)) (BitVec.ofNat 8 (off % 256 / 4)) (BitVec.ofNat 32 v) true s) s
  else if off = 0xFF00 then s.writeGkCtrl v
  else ran (execCounterObjectClear (BitVec.ofNat 16 v) true s) s

/-- The host port's registers (12 Table 12-9). -/
def State.writeHpReg (s : State) (off v : Nat) : State :=
  if off = 0 then (s.writeHpCtrl v).regDone
  else if off = 8 then ({ s with host := { s.host with outBase := v / 4096 * 4096 } } : State).regDone
  else if off < 0x200 then
    (s.updMac ((off - 0x100) / 0x40) (fun x =>
      if off % 0x40 = 0x20 then { x with tsRing := v } else { x with q := x.q.put (off % 0x40 / 8) (v % 2 ^ 48) })).regDone
  else if off = 0x210 then (ran (execPhcSet (BitVec.ofNat 48 (bits v 32 48)) (BitVec.ofNat 32 v) s) s).regDone
  else (s.setPhcAdj (signed v 64)).regDone

/-- A write of a register, of its own width, that passed the Referee. -/
def State.regWrite (s : State) (req : Requester) (block off v : Nat) : State :=
  match block with
  | 0x00 => s.writeWcCtrl (off / 0x100) v
  | 0x01 => s.writeFdStat v
  | 0x10 => s.writeIcReg (Fin.ofNat 16 (off / 0x1000)) (off % 0x1000) v
  | 0x11 => if bit v 0 then s.asEntry (fun s => s.applySet (off / 0x1000)) else s.regDone
  | 0x12 => s.writeGranules (off / 0x1000) ((off % 0x1000 - 0x80) / 8) v
  | 0x13 => s.writeRstReg off v
  | 0x14 => s.writeRgOp req v
  | 0x15 => s.writeQnOp req v
  | 0x16 => s.writeRefReg req off v
  | 0x17 => s.writeEvcReg off v
  | 0x18 => s.writePwrReg off v
  | 0x19 => s.writeBootReg off v
  | 0x1A => s.writeGkReg off v
  | 0x1C => s.writeHpReg off v
  | 0x1E => (ran (execCodecSubmit req (BitVec.ofNat 40 v) s) s).regDone
  | _ => s.regError

/-- A read of a register, of its own width, that passed the Referee; three kinds of it pop a queue. -/
def State.regRead (s : State) (req : Requester) (block off size : Nat) : State :=
  let plain : State := s.rdata (leBytes size (s.regValue req block off))
  if block = 0x10 ∧ off % 0x1000 = 0x18 then ran (execScpRxRead (Fin.ofNat 16 (off / 0x1000)) s) s
  else if block = 0x10 ∧ off % 0x1000 = 0x28 then ran (execCciRxRead (Fin.ofNat 16 (off / 0x1000)) s) s
  else if block = 0x15 ∧ 0x100 ≤ off then ran (execQnNfyRead req (Fin.ofNat 32 ((off - 0x100) / 8)) s) s
  else plain

/-- An access that R157 refuses: error response, counted in 285Ah:0F. -/
def State.badRegister (s : State) : State := (s.count 0x285A 0x0F).regError

/-- The register block of an address of the register space. -/
def regBlock (a : Nat) : Nat := a / 0x10000 % 0x1000

/-- The offset of an address in its register block. -/
def regOffset (a : Nat) : Nat := a % 0x10000

/-- The width and offset that R157 asks for: the register's row. -/
def regRowFor (a n : Nat) : Option RegRow :=
  match regAt (regBlock a) (regOffset a) with
  | none => none
  | some r => if r.size = n then some r else none

/-- The answer of the last access is forgotten. -/
def State.clearAnswer (s : State) : State := { s with out := { s.out with rdata := [], err := false } }

/-- An access to the register space that has passed the Referee (06 R157). A fetch, a read of a write-only and a write of a read-only register get an error response (DESIGN CHOICE 43). -/
def State.regAccess (s : State) (req : Requester) (a : Nat) (op : FabricOp) : State :=
  let s := s.clearAnswer
  match regRowFor a (fabricLen op) with
  | none => s.badRegister
  | some r =>
    match op with
    | .fetch _ => s.regError
    | .read n => if r.acc = .wo then s.regError else s.regRead req (regBlock a) (regOffset a) n
    | .write d => if r.acc = .ro then s.regError else s.regWrite req (regBlock a) (regOffset a) (leNat d)

/-- A request to the register space: the Referee's check, then R157; the flag tells a request that one of the two refused. -/
def State.regRequest (s : State) (req : Requester) (a : Nat) (op : FabricOp) : State × Bool :=
  let st := s.attrib req
  match s.check req st a (fabricLen op) (accessOf op) with
  | some (l, cause) =>
    ((s.violation req st cause l (accessCode (accessOf op)) (fabricLen op) (s.targetOwner l) 0).regError, true)
  | none => (s.regAccess req a op, (regRowFor a (fabricLen op)).isNone)

end Machine
end Sys2Proof
end

