-- ==== Sys2Proof/Machine/Server.lean ====
section
/-!
DEFINITION. The dictionary server: records, transfers, the access paths and their answers (12 R306, R307; 15 R370, R374-R379; 16 R391; 17 R428).
-/
namespace Sys2Proof
namespace Machine

/-! ### Requests and answers -/

/-- An answer of the server: the outcome, the data of a read, the object value's total size. -/
structure Answer where
  resp : Resp
  data : List Byte := []
  total : Nat := 0
  deriving DecidableEq, Repr

/-- Entry that a request names. -/
def reqEntry : DictReq → Nat × Nat
  | .read i s _ _ => (i, s)
  | .write i s _ _ _ => (i, s)
  | .badOp i s => (i, s)
  | .queueFull i s => (i, s)

/-- Function whose rights a path has: 0 acts as S0 (12 R307). -/
def pathFn : Path → Nat
  | .mailbox f => f.val
  | .sdo _ => 0
  | .usdo _ => 0
  | .jdt _ _ => 0
  | .udp _ _ => 0

/-- Port that 1200h is read for (16 R393). -/
def pathPort : Path → Nat
  | .sdo p => p.val
  | .usdo p => p.val
  | .jdt p _ => p.val
  | .mailbox _ => 0
  | .udp _ _ => 0

/-- Paths that carry records of Table 12-4 in segments of 2,032 bytes. -/
def recordPath : Path → Bool
  | .sdo _ => false
  | .usdo _ => false
  | .jdt _ _ => true
  | .mailbox _ => true
  | .udp _ _ => true

/-- Key of a UDP requester's transfer. -/
def udpKey (m : Fin 2) (src : Nat) : Nat := 2 * src + m.val

/-- The write transfer in progress on a path; its key is 0 when there is none. -/
def State.xferOf (s : State) : Path → Xfer
  | .mailbox f => (s.func f.val).mbx.xfer.getD {}
  | .jdt p a => (s.port p.val).jdtXfer.at {} a
  | .udp m src => s.host.udpXfer.at {} (udpKey m src)
  | .sdo _ => {}
  | .usdo _ => {}

/-- Entries of a table but the one of a key. -/
def without {α : Type} (t : Tab α) (k : Nat) : Tab α := t.filter (fun x => x.1 != k)

/-- Set or end the write transfer of a path. -/
def State.setXfer (s : State) (x : Option Xfer) : Path → State
  | .mailbox f => s.updFunc f.val (fun k => { k with mbx := { k.mbx with xfer := x } })
  | .jdt p a => s.updPort p.val (fun c => { c with jdtXfer := match x with | some v => c.jdtXfer.put a v | none => without c.jdtXfer a })
  | .udp m src => { s with host := { s.host with udpXfer := match x with
      | some v => s.host.udpXfer.put (udpKey m src) v | none => without s.host.udpXfer (udpKey m src) } }
  | .sdo _ => s
  | .usdo _ => s

/-! ### Serving (12 R306, R307; 15 R376, R378) -/

/-- A read: any OFFSET, at most 2,032 bytes in a record. -/
def State.serveRead (s : State) (path : Path) (idx sub max_ off : Nat) : Answer :=
  match s.readEntry (pathPort path) idx sub with
  | .value v =>
    let b := v.toBytes
    let n := if recordPath path then min max_ 2032 else max_
    { resp := .value v, data := (b.drop off).take n, total := b.length }
  | r => { resp := r }

/-- A whole value is written to an entry that passed the gate. -/
def State.writeWhole (s : State) (path : Path) (idx sub : Nat) (r : Row) (data : List Byte) : State × Answer :=
  if s.vfStationOk (pathFn path) idx sub data = false then (s, { resp := .abort 0x06010000 })
  else
    let (s, a) := s.writeValue idx sub r data
    (s, { resp := a, total := data.length })

/-- The transfer that a segment continues: none where it is out of sequence, or where a UDP requester let 5,000 ms pass. -/
def State.continued (s : State) (path : Path) (idx sub off : Nat) : Option Xfer :=
  let x := s.xferOf path
  let late : Bool := match path with
    | .udp _ _ => decide (x.time + 5000 * Config.psPerMs < s.clk.ref)
    | .sdo _ => false
    | .usdo _ => false
    | .jdt _ _ => false
    | .mailbox _ => false
  if off = 0 then some { key := key idx sub, next := 0, data := [] }
  else if x.key = key idx sub ∧ x.next = off ∧ late = false then some x else none

/-- One write segment. -/
def State.serveWrite (s : State) (path : Path) (idx sub : Nat) (last : Bool) (off : Nat) (data : List Byte) : State × Answer :=
  match s.writeGate (pathFn path) idx sub with
  | .error a => (s.setXfer none path, { resp := .abort a })
  | .ok r =>
    let image : Bool := decide (0x3000 ≤ idx) && sub == 1
    if recordPath path = false then
      if image then
        let (s, a) := s.imageSegment 0 (idx - 0x3000) off last data
        (s, { resp := a, total := off + data.length })
      else s.writeWhole path idx sub r data
    else if 2032 < data.length then (s.setXfer none path, { resp := .abort 0x06070010 })
    else match s.continued path idx sub off with
      | none => (s.setXfer none path, { resp := .abort 0x08000000 })
      | some x =>
        if last = false ∧ data.length ≠ 2032 then (s.setXfer none path, { resp := .abort 0x08000000 })
        else
          let s := s.setXfer none path
          let more : Xfer := { key := x.key, next := off + 2032, data := if image then [] else x.data ++ data, time := s.clk.ref }
          if image then
            if s.vfStationOk (pathFn path) idx sub data = false then (s, { resp := .abort 0x06010000 })
            else
              let (s, a) := s.imageSegment (pathFn path) (idx - 0x3000) off last data
              (if last = false ∧ a = .ok then s.setXfer (some more) path else s, { resp := a, total := off + data.length })
          else if last then s.writeWhole path idx sub r (x.data ++ data)
          else (s.setXfer (some more) path, { resp := .ok, total := off + data.length })

/-- P1 serves a request: the busy rule comes first (15 R377, 16 R405). -/
def State.serveReq (s : State) (path : Path) (req : DictReq) : State × Answer :=
  match req with
  | .queueFull _ _ => (s, { resp := .abort 0x08000021 })
  | .badOp _ _ => if s.od.longop.isSome then (s, { resp := .abort 0x08000022 }) else (s, { resp := .abort 0x05040001 })
  | .read idx sub max_ off =>
    if s.od.longop.isSome then (s, { resp := .abort 0x08000022 }) else (s, s.serveRead path idx sub max_ off)
  | .write idx sub last off data =>
    if s.od.longop.isSome then (s, { resp := .abort 0x08000022 }) else s.serveWrite path idx sub last off data

/-! ### Answers on their way (12 Table 12-4; 15 R370, R375, R376, R379) -/

/-- The answer is an abort. -/
def Answer.aborted (a : Answer) : Bool := match a.resp with | .abort _ => true | _ => false

/-- The response record of Table 12-4. -/
def Answer.record (a : Answer) (idx sub token : Nat) : List Byte :=
  let n := match a.resp with
    | .abort c => c
    | .value _ => a.data.length
    | .ok => 0
  leBytes 1 (if a.aborted then 1 else 0) ++ leBytes 1 sub ++ leBytes 2 idx ++ leBytes 4 n ++ leBytes 4 token ++ leBytes 4 a.total ++ a.data

/-- The mailbox takes the response, clears BUSY, sets DONE, and raises its source where IRQ is set (12 R306, Table 12-3). -/
def State.toMailbox (s : State) (f : Nat) (x : List Byte) : State :=
  let s := (s.updFunc f (fun k => { k with mbx := { k.mbx with rsp := overlay k.mbx.rsp 0 x, busy := false, done := true } })).count 0x28A0 7
  if (s.func f).mbx.irq then s.occur (32 + f) else s

/-- An SDO or USDO answer; a value longer than 4 bytes is announced by its size and moves in segments (CiA 301). -/
def State.toSdo (s : State) (p idx sub : Nat) (a : Answer) : State :=
  let s := if a.aborted then s.count (canCnt p) 0x0C else s
  if 4 < a.data.length then
    (s.updPort p (fun c => { c with sdo := some { key := key idx sub, data := a.data, up := true } })).sendCan p
      (.sdo idx sub (.value (.num 4 a.data.length)))
  else s.sendCan p (.sdo idx sub a.resp)

/-- A JDT response frame; `ends` is false for a request that was not taken. -/
def State.toJdt (s : State) (p addr vcid : Nat) (ends : Bool) (a : Answer) (x : List Byte) : State :=
  let s := if a.aborted then s.count (canCnt p) 0x0C else s
  (if ends then s.count (canCnt p) 0x0D else s).sendCan p (.jdt addr vcid ends x)

/-- The answer goes back over the path of its request. -/
def State.deliver (s : State) (w : Waiting) (a : Answer) : State :=
  let (idx, sub) := reqEntry w.req
  let x := a.record idx sub w.token
  let s := s.answer a.resp
  match w.path with
  | .mailbox f => s.toMailbox f.val x
  | .sdo p => s.toSdo p.val idx sub a
  | .usdo p => s.toSdo p.val idx sub a
  | .jdt p addr => s.toJdt p.val addr w.vcid (w.req != .queueFull idx sub) a x
  | .udp m _ => { (s.count (0x28A1 + m.val) 8) with out := { s.out with rdata := x } }

/-- Serve one request and send its answer. -/
def State.serveOne (s : State) (w : Waiting) : State :=
  let (s, a) := s.serveReq w.path w.req
  s.deliver w a

/-- Paths that the recovery loader serves (17 R428). -/
def recoveryPath : Path → Bool
  | .mailbox f => f.val == 0
  | .sdo p => p.val == 0
  | .usdo _ => false
  | .jdt _ _ => false
  | .udp _ _ => false

/-- A whole request reaches P1: served in arrival order, or kept while P1 restarts (12 R300, 15 R378). -/
def State.request (s : State) (w : Waiting) : State :=
  let p1 : Pressroom := s.host.press.at {} 1
  if s.serves then (if s.boot.recovery && !recoveryPath w.path then s else s.serveOne w)
  else if s.computeRuns && s.boot.started && p1.restarting then { s with od := { s.od with waiting := s.od.waiting ++ [w] } }
  else s

/-- A path brings requests: a CAN port in PRE-OPERATIONAL or OPERATIONAL with the path's profile, a port with a JDT service and an address that is neither 0 nor its own, a function that exists, a MAC of SVC_IP (12 R301, R306; 15 R362, R371, R379). -/
def State.pathOpen (s : State) : Path → Bool
  | .sdo p => s.attached p.val && s.canSet p.val 1 == 1 && (s.port p.val).talks
  | .usdo p => s.attached p.val && s.canSet p.val 1 == 2 && (s.port p.val).talks
  | .jdt p a => s.attached p.val && s.canSet p.val 7 != 0 && a != 0 && a != s.nodeId p.val
  | .mailbox f => s.funcOn f.val
  | .udp m _ => s.svcOn m.val

/-- A request of a row of its own: its path brings it, or nothing arrives. -/
def State.arrive (s : State) (w : Waiting) : State := if s.pathOpen w.path then s.request w else s

/-- DICT_READ (15 R378). -/
def execDictRead (path : Path) (index : BitVec 16) (sub : BitVec 8) (max offset : BitVec 32) (s : State) : Host.Outcome State Fault Refusal :=
  .next (s.arrive { path := path, token := 0, vcid := 0, req := .read index.toNat sub.toNat max.toNat offset.toNat })

/-- DICT_WRITE (15 R378). -/
def execDictWrite (path : Path) (index : BitVec 16) (sub : BitVec 8) (last : Bool) (offset : BitVec 32) (data : List Byte) (s : State) :
    Host.Outcome State Fault Refusal :=
  .next (s.arrive { path := path, token := 0, vcid := 0, req := .write index.toNat sub.toNat last offset.toNat data })

/-! ### Records (12 Table 12-4) -/

/-- The request that a record holds. -/
def recordReq (b : List Byte) : DictReq :=
  let op := field b 0 1 % 128
  let idx := field b 2 2
  let sub := field b 1 1
  if op = 1 then .read idx sub (field b 4 4) (field b 12 4)
  else if op = 2 then .write idx sub (bit (field b 0 1) 7) (field b 12 4) (slice b 16 (min 2033 (field b 4 4)))
  else .badOp idx sub

/-- The record fills its frame or datagram exactly (15 R375, R379). -/
def recordLenOk (b : List Byte) : Bool :=
  decide (16 ≤ b.length) &&
    (let op := field b 0 1 % 128
     if op = 1 then b.length == 16 else if op = 2 then b.length == 16 + field b 4 4 else true)

/-- TOKEN of a record. -/
def recordToken (b : List Byte) : Nat := field b 8 4

/-! ### The mailboxes (12 R306) -/

/-- A write to MBX_DOORBELL of an enabled function. -/
def State.doorbell (s : State) (f : Fin 32) (v : Nat) : State :=
  let m := (s.func f.val).mbx
  if !s.computeRuns || !s.funcOn f.val || !bit v 0 then s
  else if m.busy then s.count 0x28A0 6
  else
    let s := s.updFunc f.val (fun k => { k with mbx := { k.mbx with busy := true, done := false } })
    let b := slice m.req 0 2048
    s.request { path := .mailbox f, token := recordToken b, vcid := 0, req := recordReq b }

/-- MBX_DOORBELL (12 R306). -/
def execMbxDoorbell (fn : Fin 32) (value : BitVec 32) (s : State) : Host.Outcome State Fault Refusal := .next (s.doorbell fn value.toNat)

/-! ### SDO and USDO (15 R370, R371, R374, R377) -/

/-- P0 answers an SDO request itself. -/
def State.sdoSay (s : State) (p idx sub : Nat) (r : Resp) : State := (s.answer r).toSdo p idx sub { resp := r }

/-- Set or end the transfer of a port's SDO or USDO server. -/
def State.setSdo (s : State) (p : Nat) (x : Option Xfer) : State := s.updPort p (fun c => { c with sdo := x })

/-- A download's data so far: whole at its last segment, IMAGE segment by segment. -/
def State.sdoData (s : State) (path : Path) (x : Xfer) (last : Bool) (data : List Byte) : State :=
  let p := pathPort path
  let idx := x.key / 256
  let sub := x.key % 256
  if 0x3000 ≤ idx ∧ sub = 1 then
    let s := s.setSdo p (if last then none else some { x with next := x.next + data.length })
    let s := ({ s with out := { s.out with resp := none } } : State).request
      { path := path, token := 0, vcid := 0, req := .write idx sub last x.next data }
    match s.out.resp with
    | some (.abort _) => s.setSdo p none
    | _ => s
  else if last then
    (s.setSdo p none).request { path := path, token := 0, vcid := 0, req := .write idx sub true 0 (x.data ++ data) }
  else (s.setSdo p (some { x with data := x.data ++ data })).sdoSay p idx sub .ok

/-- A request frame at a port's SDO or USDO server. -/
def State.sdoServe (s : State) (path : Path) (op : SdoOp) : State :=
  let p := pathPort path
  let x := (s.port p).sdo.getD {}
  let idx := x.key / 256
  let sub := x.key % 256
  if op = .abort then s.setSdo p none
  else if s.od.longop.isSome then (s.setSdo p none).sdoSay p idx sub (.abort 0x08000022)
  else match op with
    | .upload i j => (s.setSdo p none).request { path := path, token := 0, vcid := 0, req := .read i j (2 ^ 32) 0 }
    | .uploadMore n =>
      if x.up = false then (s.setSdo p none).sdoSay p idx sub (.abort 0x05040001)
      else
        let rest := x.data.drop n
        let s := s.setSdo p (if rest = [] then none else some { x with data := rest })
        (s.answer (.value (.bytes (x.data.take n)))).sendCan p (.sdo idx sub (.value (.bytes (x.data.take n))))
    | .download i j last data =>
      match s.writeGate 0 i j with
      | .error a => (s.setSdo p none).sdoSay p i j (.abort a)
      | .ok _ => (s.setSdo p none).sdoData path { key := key i j } last data
    | .downloadMore last data =>
      if x.key = 0 ∨ x.up = true then (s.setSdo p none).sdoSay p idx sub (.abort 0x05040001) else s.sdoData path x last data
    | .abort => s
    | .unknown => (s.setSdo p none).sdoSay p idx sub (.abort 0x05040001)

/-- The port serves SDO or USDO: pre-operational or operational (15 R371). -/
def State.sdoRequest (s : State) (p profile : Nat) (path : Path) (op : SdoOp) : State :=
  s.onPort p (fun s =>
    if s.canSet p 1 ≠ profile then s.count (canCnt p) 0x0E
    else if (s.port p).talks then s.sdoServe path op else s)

/-- SDO_REQUEST (15 R370). -/
def execSdoRequest (port : Fin 2) (op : SdoOp) (s : State) : Host.Outcome State Fault Refusal := .next (s.sdoRequest port.val 1 (.sdo port) op)

/-- USDO_REQUEST (15 R374). -/
def execUsdoRequest (port : Fin 2) (op : SdoOp) (s : State) : Host.Outcome State Fault Refusal := .next (s.sdoRequest port.val 2 (.usdo port) op)

/-! ### JDT (15 R375, R376) -/

/-- The frame is not for the port: another priority ID, SDT or destination. -/
def State.jdtIgnored (s : State) (p prio sdt dest : Nat) : Bool := prio != s.canSet p 9 || sdt != s.canSet p 8 || dest != s.nodeId p

/-- A JDT request is queued, or answered with abort 0800 0021h. -/
def State.jdtTake (s : State) (port : Fin 2) (addr vcid : Nat) (b : List Byte) : State :=
  let p := port.val
  let r := recordReq b
  let (idx, sub) := reqEntry r
  let full : Bool := (s.port p).jdtWait.contains addr || decide (8 ≤ (s.port p).jdtWait.length)
  if full then s.deliver { path := .jdt port addr, token := recordToken b, vcid := vcid, req := .queueFull idx sub } { resp := .abort 0x08000021 }
  else
    (s.updPort p (fun c => { c with jdtWait := c.jdtWait ++ [addr] })).request
      { path := .jdt port addr, token := recordToken b, vcid := vcid, req := r }

/-- JDT_REQUEST (15 R361, R362, R375, R376). -/
def execJdtRequest (port : Fin 2) (prio : BitVec 11) (sdt vcid : BitVec 8) (sec : Bool) (af : BitVec 32) (data : List Byte) (s : State) :
    Host.Outcome State Fault Refusal :=
  let p := port.val
  let addr := bits af.toNat 16 8
  .next (s.onPort p (fun s =>
    if sec || s.canSet p 7 == 0 then s.count (canCnt p) 0x0E
    else if s.boot.recovery || s.jdtIgnored p prio.toNat sdt.toNat (bits af.toNat 24 8) then s
    else if bits af.toNat 0 16 ≠ 0 ∨ addr = 0 ∨ addr = s.nodeId p ∨ recordLenOk data = false ∨ 2048 < data.length then s.count (canCnt p) 0x0E
    else s.jdtTake port addr vcid.toNat data))

/-- JDT_SEGMENT_TIMEOUT (15 R376): the transfer is discarded; a later segment is out of sequence. -/
def execJdtSegmentTimeout (port : Fin 2) (addr : Fin 256) (s : State) : Host.Outcome State Fault Refusal :=
  let p := port.val
  .next <|
    if (s.port p).jdtXfer.any (fun (x : Nat × Xfer) => x.1 == addr.val) then
      (s.updPort p (fun c => { c with jdtXfer := without c.jdtXfer addr.val })).count (canCnt p) 0x0F
    else s

/-! ### UDP (15 R379) -/

/-- UDP requests of the service that wait for P1. -/
def State.udpWaiting (s : State) : List Path :=
  (s.od.waiting.map (·.path)).filter (fun q => match q with
    | .udp _ _ => true | .sdo _ => false | .usdo _ => false | .jdt _ _ => false | .mailbox _ => false)

/-- UDP_DICT_DATAGRAM (15 R379): one record in a datagram at port 47110 of SVC_IP. -/
def execUdpDictDatagram (mac : Fin 2) (src : BitVec 48) (data : List Byte) (s : State) : Host.Outcome State Fault Refusal :=
  let path : Path := .udp mac src.toNat
  let r := recordReq data
  let (idx, sub) := reqEntry r
  .next <|
    if !s.computeRuns || !s.boot.started || s.boot.recovery || !s.svcOn mac.val then s
    else if recordLenOk data = false then s.count 0x28D2 1
    else if s.udpWaiting.contains path || decide (8 ≤ s.udpWaiting.length) then
      s.deliver { path := path, token := recordToken data, vcid := 0, req := .queueFull idx sub } { resp := .abort 0x08000021 }
    else s.request { path := path, token := recordToken data, vcid := 0, req := r }

/-! ### The pressroom watchdogs (12 R300; 15 R378, R380) -/

/-- P0 stops: its ports are unavailable; received frames stay, everything else on its way is lost. -/
def State.stopP0 (s : State) : State :=
  { s with
    can := s.can.map (fun (x : Nat × CanPort) =>
      (x.1, { x.2 with avail := false, tx := [], tpdo := [], sdo := none, jdtWait := [], jdtXfer := [] }))
    od := { s.od with waiting := s.od.waiting.filter (fun (w : Waiting) => !overCan w.path) } }

/-- PRESSROOM_WATCHDOG_EXPIRY (12 R300, 13 R332): the hart is held in reset, its TCM reloaded and its target's stack emptied. -/
def execPressroomWatchdogExpiry (hart : Fin 2) (s : State) : Host.Outcome State Fault Refusal :=
  let h := hart.val
  let p : Pressroom := s.host.press.at {} h
  .next <|
    if !s.computeRuns || !p.run then s
    else
      let s := s.loadTcm h
      let s := { s with host := { s.host with press := s.host.press.put h { run := false, restarting := true } } }
      let s := s.report (·.emptyStack s.env (4 + h))
      let s := if h = 0 then s.stopP0 else s
      (s.count 0x28A4 (h + 1)).raise { code := 0x1A08, unit := h }

/-- PRESSROOM_RESTART_COMPLETE (12 R300): P1 serves what still waits, in order. -/
def execPressroomRestartComplete (hart : Fin 2) (s : State) : Host.Outcome State Fault Refusal :=
  let h := hart.val
  let p : Pressroom := s.host.press.at {} h
  .next <|
    if !s.computeRuns || !p.restarting then s
    else
      let s := { s with host := { s.host with press := s.host.press.put h { run := true } } }
      if h = 0 then s
      else
        let ws := s.od.waiting
        ws.foldl (fun (s : State) w => s.serveOne w) { s with od := { s.od with waiting := [] } }

end Machine
end Sys2Proof
end

