-- ==== Sys2Proof/Machine/Fabric.lean ====
section
/-!
DEFINITION. Fabric accesses from outside: the Referee's check and the target's answer (06 R155-R173, R181; 11 R285-R288), inbound PCIe requests (12 R302, Table 12-3; 13 Table 13-4) and the start of a Deep Store channel (06 R181).
-/
namespace Sys2Proof
namespace Machine

/-! ### Targets -/

/-- Keep the answer of an access. -/
def State.answered (x : State × Option (List Byte)) : State :=
  match x with
  | (s, some b) => s.rdata b
  | (s, none) => { s.regError with out := { s.regError.out with rdata := [] } }

/-- An access to the Ring Table: aligned 32-byte writes, and reads of any part (07 R184, 06 R172). -/
def State.ringAccess (s : State) (req : Requester) (a : Nat) (op : FabricOp) (err : MemErr) : State :=
  let o := a % 0x200000
  let r := o / 32
  match op with
  | .fetch _ => s.regError
  | .write d =>
    if o % 32 = 0 ∧ d.length = 32 then ran (execRingDescriptorWrite req (Fin.ofNat 65536 r) d s) s
    else (s.count 0x2860 0x0A).regError
  | .read n =>
    let s := s.ringEcc r err
    if err = .uncorrectable then s.regError
    else s.rdata (slice ((List.range ((o % 32 + n + 31) / 32)).flatMap (fun i => leBytes 32 (ringWord (s.ring (r + i))))) (o % 32) n)

/-- An access to the quoin store: aligned 8-byte writes, and reads of any part (07 R195, 06 R172). -/
def State.quoinAccess (s : State) (req : Requester) (a : Nat) (op : FabricOp) (err : MemErr) : State :=
  let o := a % 0x8000
  let q := o / 8
  match op with
  | .fetch _ => s.regError
  | .write d => if o % 8 = 0 ∧ d.length = 8 then ran (execQuoinWrite req (Fin.ofNat 4096 q) d s) s else s.regError
  | .read n =>
    let s := s.quoinEcc q err
    if err = .uncorrectable then s.regError
    else s.rdata (slice ((List.range ((o % 8 + n + 7) / 8)).flatMap (fun i => leBytes 8 (quoinWord (s.quoin (q + i))))) (o % 8) n)

/-- An access to a Deep Store channel that has not finished its start waits (06 R181). -/
def State.waitAccess (s : State) (req : Requester) (st a : Nat) (op : FabricOp) (err : MemErr) (victim : Nat) : State :=
  let x : WaitingAccess := { req := req, station := st, op := op, addr := a, err := err, victim := victim }
  { s with mem := { s.mem with waiting := s.mem.waiting ++ [x] } }

/-- The target serves an access that has passed the Referee. -/
def State.serveTarget (s : State) (req : Requester) (st a : Nat) (op : FabricOp) (err : MemErr) (victim : Nat) : State :=
  match regionOf a with
  | some .ringTable => s.ringAccess req a op err
  | some .quoinStore => s.quoinAccess req a op err
  | some .outbound => State.answered (s.outAccess req st a op)
  | some (.ds c) =>
    if (s.chan c).ready then State.answered (s.memAccess st a op err victim) else s.waitAccess req st a op err victim
  | _ => State.answered (s.memAccess st a op err victim)

/-- An error response ends a neural core's slug (11 Table 11-6); every other requester acts on it outside the fabric. -/
def State.requesterError (s : State) (req : Requester) : State :=
  match req with
  | .core c => if s.out.err && (s.core c.val).state == .running then s.abortSlug c.val 7 else s
  | _ => s

/-- An access enters the fabric (11 R285, R287); the flag tells one that the Referee or R157 refused. -/
def State.fabricRequest (s : State) (req : Requester) (a : Nat) (op : FabricOp) (err : MemErr) (victim : Nat) : State × Bool :=
  let s := { s with out := { s.out with rdata := [], err := false } }
  if fabricLen op = 0 then (s, false)
  else if regionOf a = some .regs then s.regRequest req a op
  else
    let st := s.attrib req
    match s.check req st a (fabricLen op) (accessOf op) with
    | some (l, cause) =>
      ((s.violation req st cause l (accessCode (accessOf op)) (fabricLen op) (s.targetOwner l) 0).regError, true)
    | none => (s.serveTarget req st a op err victim, false)

/-- FABRIC_ACCESS (11 R285): an access enters the fabric, passes the Referee's check and is served by its target. -/
def execFabricAccess (req : Requester) (op : FabricOp) (addr : BitVec 40) (err : MemErr) (victim : Fin 16) (s : State) :
    Host.Outcome State Fault Refusal :=
  .next (if s.computeRuns then (s.fabricRequest req addr.toNat op err victim.val).1.requesterError req else s)

/-- REGISTER_WRITE (06 R157): a write enters the fabric and reaches a register of its own width, or is refused. -/
def execRegisterWrite (req : Requester) (addr : BitVec 40) (data : List Byte) (s : State) : Host.Outcome State Fault Refusal :=
  .next (if s.computeRuns then (s.fabricRequest req addr.toNat (.write data) .none 0).1 else s)

/-! ### Inbound PCIe requests (12 R302) -/

/-- The pending bit array of a function: held messages of its station's vectors (13 R334). -/
def State.pendingBits (s : State) (f : Nat) : Nat :=
  ((List.range 32).map (fun v => bitIf (s.vectorStation v == f && (s.rep.evc.target (6 + v)).held) v)).sum

/-- A write of part of an MSI-X table entry (13 R334). -/
def State.writeVector (s : State) (f v at_ : Nat) (d : List Byte) : State :=
  (s.updFunc f (fun p => { p with vec := p.vec.put v (leNat (overlay (leBytes 16 (p.vector v)) at_ d)) })).regDone

/-- The vector window of a function's BAR0 (13 Table 13-4). -/
def State.vectorWindow (s : State) (f v : Fin 32) (at_ : Nat) (op : FabricOp) : State :=
  match at_, op with
  | 0, .read 4 =>
    let t := ran (execEvcClaim (.window f v) s) s
    if t.out.err then t else t.rdata (leBytes 4 t.out.claim.toNat)
  | 4, .write d =>
    if d.length = 4 then ran (execEvcComplete (.window f v) (Fin.ofNat 2048 (leNat d)) s) s else s.refuseInbound
  | 8, .read 4 =>
    if s.vectorStation v.val = f.val then s.rdata (leBytes 4 (bitIf (s.rep.evc.target (6 + v.val)).frozen 31)) else s.refuseInbound
  | 8, .write d =>
    if d.length ≠ 4 ∨ s.vectorStation v.val ≠ f.val then s.refuseInbound
    else if bit (leNat d) 29 then ran (execEvcStackReset (.window f v) s) s
    else s
  | _, _ => s.refuseInbound

/-- The mailbox registers of a function (12 Table 12-3). -/
def State.mailboxReg (s : State) (f : Fin 32) (at_ : Nat) (op : FabricOp) : State :=
  let m := (s.func f.val).mbx
  match at_, op with
  | 0, .write d => if d.length = 4 then s.doorbell f (leNat d) else s.refuseInbound
  | 4, .read 4 => s.rdata (leBytes 4 (bitIf m.busy 1 + bitIf m.done 0))
  | 8, .read 4 => s.rdata (leBytes 4 (bitIf m.irq 0))
  | 8, .write d =>
    if d.length = 4 then s.updFunc f.val (fun p => { p with mbx := { p.mbx with irq := bit (leNat d) 0 } }) else s.refuseInbound
  | _, _ => s.refuseInbound

/-- A byte buffer of the mailbox, of which the request buffer is written (12 Table 12-3). -/
def State.mailboxBuffer (s : State) (f at_ : Nat) (op : FabricOp) : State :=
  let m := (s.func f).mbx
  match op with
  | .write d =>
    if at_ + d.length ≤ 0x900 then
      s.updFunc f (fun p => { p with mbx := { p.mbx with req := overlay (slice p.mbx.req 0 2048) (at_ - 0x100) d } })
    else s.refuseInbound
  | .read n => s.rdata (slice (slice m.req 0 2048 ++ slice m.rsp 0 2048) (at_ - 0x100) n)
  | .fetch n => s.rdata (slice (slice m.req 0 2048 ++ slice m.rsp 0 2048) (at_ - 0x100) n)

/-- An MSI-X table access (13 R334). -/
def State.msixTable (s : State) (f at_ : Nat) (op : FabricOp) : State :=
  let v := (at_ - 0x8000) / 16
  let n := fabricLen op
  if 16 < at_ % 16 + n then s.refuseInbound
  else match op with
    | .write d => s.writeVector f v (at_ % 16) d
    | _ => s.rdata (slice (leBytes 16 ((s.func f).vector v)) (at_ % 16) n)

/-- A request to a function's BAR0; one that names nothing there is refused as a bad register access is (DESIGN CHOICE 43). -/
def State.bar0Access (s : State) (f : Fin 32) (at_ : Nat) (op : FabricOp) : State :=
  let s := { s with out := { s.out with rdata := [], err := false } }
  let n := fabricLen op
  if at_ < 0x100 then s.mailboxReg f at_ op
  else if at_ + n ≤ 0x1100 then s.mailboxBuffer f.val at_ op
  else if 0x4000 ≤ at_ ∧ at_ < 0x4200 then s.vectorWindow f (Fin.ofNat 32 ((at_ - 0x4000) / 16)) (at_ % 16) op
  else if 0x8000 ≤ at_ ∧ at_ + n ≤ 0x8200 then s.msixTable f.val at_ op
  else if 0x9000 ≤ at_ ∧ at_ + n ≤ 0x9008 ∧ fabricWrites op = false then
    s.rdata (slice (leBytes 8 (s.pendingBits f.val)) (at_ - 0x9000) n)
  else s.refuseInbound

/-- PCIe has no fetch: an inbound request reads or writes. -/
def inboundOp : FabricOp → FabricOp
  | .fetch n => .read n
  | .read n => .read n
  | .write d => .write d

/-- An inbound request through BAR2: offset x is physical address x, up to 64 GiB (12 R302). -/
def State.bar2Access (s : State) (f : Fin 32) (a : Nat) (op : FabricOp) (err : MemErr) (victim : Nat) : State :=
  let (t, refused) := s.fabricRequest (.port f) a op err victim
  if refused then t.count 0x28A0 1 else t

/-- PCIE_INBOUND_REQUEST (12 R302): a request through BAR0 or BAR2 of a function that exists, over a link that is up. -/
def execPcieInboundRequest (fn : Fin 32) (bar0 : Bool) (addr : BitVec 40) (op : FabricOp) (err : MemErr) (victim : Fin 16) (s : State) :
    Host.Outcome State Fault Refusal :=
  .next <|
    if !s.computeRuns || !s.host.linkUp || !s.funcOn fn.val then s
    else if bar0 then (if addr.toNat < 0x10000 then s.bar0Access fn addr.toNat (inboundOp op) else s)
    else if addr.toNat < 0x1000000000 then s.bar2Access fn addr.toNat (inboundOp op) err victim.val
    else s

/-! ### Deep Store start (06 R181) -/

/-- The accesses that waited for a channel are served, in order; a requester acts on an error response (11 Table 11-6). -/
def State.serveWaiting (s : State) (c : Nat) : State :=
  let mine := s.mem.waiting.filter (fun x => regionOf x.addr == some (.ds c))
  let s := { s with mem := { s.mem with waiting := s.mem.waiting.filter (fun x => regionOf x.addr != some (.ds c)) } }
  mine.foldl (fun s x => (State.answered (s.memAccess x.station x.addr x.op x.err x.victim)).requesterError x.req) s

/-- DEEP_STORE_START_COMPLETE (06 R181, 18 R456): the channel is filled with zeros and its first scrub pass starts, or it starts fenced; accesses issued before then go on. -/
def execDeepStoreStartComplete (ch : Fin 8) (passed : Bool) (s : State) : Host.Outcome State Fault Refusal :=
  let c := ch.val
  .next <|
    if !s.computeRuns || (s.chan c).ready then s
    else
      let s := (s.wipe (dsBase c) dsSize).updChan c (fun d => { d with ready := true, poison := [], fix := [] })
      let s := if passed then { s with gk := { s.gk with passOn := s.gk.passOn.put c true, pass := s.gk.pass.put c 0 } } else s.fence c
      s.serveWaiting c

end Machine
end Sys2Proof
end

