-- ==== Sys2Proof/Machine/Dispatch.lean ====
section
/-!
DEFINITION. The dispatch of a command to its meaning: one arm per constructor of Instr.
-/
namespace Sys2Proof
namespace Machine

/-- The effect of a command on the state (everything but the queue). -/
def exec (i : Instr) (s : State) : Host.Outcome State Fault Refusal :=
  match i with
  | .fieldDieStart => Sys2Proof.Machine.execFieldDieStart s
  | .vfieldUndervoltage => Sys2Proof.Machine.execVfieldUndervoltage s
  | .vfieldUndervoltageRecover => Sys2Proof.Machine.execVfieldUndervoltageRecover s
  | .vfieldOvervoltage => Sys2Proof.Machine.execVfieldOvervoltage s
  | .vfieldOvervoltageRecover => Sys2Proof.Machine.execVfieldOvervoltageRecover s
  | .fieldDieReset => Sys2Proof.Machine.execFieldDieReset s
  | .vfieldReversed => Sys2Proof.Machine.execVfieldReversed s
  | .quadratureEdge enc a b => Sys2Proof.Machine.execQuadratureEdge enc a b s
  | .zMarkerEdge enc level => Sys2Proof.Machine.execZMarkerEdge enc level s
  | .velocityUpdate wc => Sys2Proof.Machine.execVelocityUpdate wc s
  | .accelerationCheck wc => Sys2Proof.Machine.execAccelerationCheck wc s
  | .standstillTimeout wc => Sys2Proof.Machine.execStandstillTimeout wc s
  | .peEdge input level => Sys2Proof.Machine.execPeEdge input level s
  | .encoderProbe enc line => Sys2Proof.Machine.execEncoderProbe enc line s
  | .encoderFaultFlag enc line short => Sys2Proof.Machine.execEncoderFaultFlag enc line short s
  | .encoderFlagClear enc line => Sys2Proof.Machine.execEncoderFlagClear enc line s
  | .returnToPrimary wc => Sys2Proof.Machine.execReturnToPrimary wc s
  | .acknowledgeLost wc => Sys2Proof.Machine.execAcknowledgeLost wc s
  | .decodeWrite wc value => Sys2Proof.Machine.execDecodeWrite wc value s
  | .impressionLenWrite wc value => Sys2Proof.Machine.execImpressionLenWrite wc value s
  | .markConfigWrite wc what value => Sys2Proof.Machine.execMarkConfigWrite wc what value s
  | .cueCrossing entry => Sys2Proof.Machine.execCueCrossing entry s
  | .cueExpiry entry => Sys2Proof.Machine.execCueExpiry entry s
  | .triggerPulseEnd out => Sys2Proof.Machine.execTriggerPulseEnd out s
  | .kickPulseEnd kicker meanMa tailMa => Sys2Proof.Machine.execKickPulseEnd kicker meanMa tailMa s
  | .maxOnCutoff kicker meanMa tailMa => Sys2Proof.Machine.execMaxOnCutoff kicker meanMa tailMa s
  | .ceilingRecompute => Sys2Proof.Machine.execCeilingRecompute s
  | .ceilingRaisePublish wc => Sys2Proof.Machine.execCeilingRaisePublish wc s
  | .triggerShortTrip out => Sys2Proof.Machine.execTriggerShortTrip out s
  | .triggerRetry mask => Sys2Proof.Machine.execTriggerRetry mask s
  | .kickerTrip kicker kind => Sys2Proof.Machine.execKickerTrip kicker kind s
  | .kickerRetryDue kicker => Sys2Proof.Machine.execKickerRetryDue kicker s
  | .kickerRetryJudge kicker limitActive over50us => Sys2Proof.Machine.execKickerRetryJudge kicker limitActive over50us s
  | .kickerRetryNow kicker => Sys2Proof.Machine.execKickerRetryNow kicker s
  | .clearOpenOn kicker => Sys2Proof.Machine.execClearOpenOn kicker s
  | .kickerEnableWrite kicker value => Sys2Proof.Machine.execKickerEnableWrite kicker value s
  | .kickerShortVf kicker => Sys2Proof.Machine.execKickerShortVf kicker s
  | .kickerShortVfClear kicker => Sys2Proof.Machine.execKickerShortVfClear kicker s
  | .kickerThermal kicker => Sys2Proof.Machine.execKickerThermal kicker s
  | .kickerThermalClear kicker => Sys2Proof.Machine.execKickerThermalClear kicker s
  | .openOffDetect kicker => Sys2Proof.Machine.execOpenOffDetect kicker s
  | .openOffClear kicker => Sys2Proof.Machine.execOpenOffClear kicker s
  | .canLineShort port => Sys2Proof.Machine.execCanLineShort port s
  | .canLineShortClear port => Sys2Proof.Machine.execCanLineShortClear port s
  | .dominantCutoff port => Sys2Proof.Machine.execDominantCutoff port s
  | .fieldSlotReceive pos crcOk => Sys2Proof.Machine.execFieldSlotReceive pos crcOk s
  | .computeSlotReceive time crcOk => Sys2Proof.Machine.execComputeSlotReceive time crcOk s
  | .heartbeatSend side => Sys2Proof.Machine.execHeartbeatSend side s
  | .heartbeat side state us => Sys2Proof.Machine.execHeartbeat side state us s
  | .heartbeatMiss side => Sys2Proof.Machine.execHeartbeatMiss side s
  | .verdict entry verdict => Sys2Proof.Machine.execVerdict entry verdict s
  | .cuePart entry part data => Sys2Proof.Machine.execCuePart entry part data s
  | .cuePartTimeout entry => Sys2Proof.Machine.execCuePartTimeout entry s
  | .regWrite reg data => Sys2Proof.Machine.execRegWrite reg data s
  | .regRead reg => Sys2Proof.Machine.execRegRead reg s
  | .regData reg data => Sys2Proof.Machine.execRegData reg data s
  | .canTx port count data => Sys2Proof.Machine.execCanTx port count data s
  | .canRx port fmt id rtr sec data => Sys2Proof.Machine.execCanRx port fmt id rtr sec data s
  | .cueResult entry code => Sys2Proof.Machine.execCueResult entry code s
  | .peEdgeMessage input level us => Sys2Proof.Machine.execPeEdgeMessage input level us s
  | .pinEvent code unit station detail counter n => Sys2Proof.Machine.execPinEvent code unit station detail counter n s
  | .sleep kind => Sys2Proof.Machine.execSleep kind s
  | .linkRetrain lanes => Sys2Proof.Machine.execLinkRetrain lanes s
  | .fieldLinkUp => Sys2Proof.Machine.execFieldLinkUp s
  | .linkTrainTimeout lanes => Sys2Proof.Machine.execLinkTrainTimeout lanes s
  | .xinFailure => Sys2Proof.Machine.execXinFailure s
  | .rosterStall => Sys2Proof.Machine.execRosterStall s
  | .channelEnable ch checkOk => Sys2Proof.Machine.execChannelEnable ch checkOk s
  | .channelDisable ch => Sys2Proof.Machine.execChannelDisable ch s
  | .laneStopState ch lanes => Sys2Proof.Machine.execLaneStopState ch lanes s
  | .laneStopTimeout ch lanes => Sys2Proof.Machine.execLaneStopTimeout ch lanes s
  | .deskewSequence ch => Sys2Proof.Machine.execDeskewSequence ch s
  | .frameStart ch vc fn hdr => Sys2Proof.Machine.execFrameStart ch vc fn hdr s
  | .lineReceived ch vc dt data gap hdr crcOk => Sys2Proof.Machine.execLineReceived ch vc dt data gap hdr crcOk s
  | .frameEnd ch vc fn hdr => Sys2Proof.Machine.execFrameEnd ch vc fn hdr s
  | .embeddedData ch vc data hdr crcOk => Sys2Proof.Machine.execEmbeddedData ch vc data hdr crcOk s
  | .packetDiscard ch vc hdr => Sys2Proof.Machine.execPacketDiscard ch vc hdr s
  | .phyError ch => Sys2Proof.Machine.execPhyError ch s
  | .feTimeout ch exp => Sys2Proof.Machine.execFeTimeout ch exp s
  | .xtrigAckEdge ch => Sys2Proof.Machine.execXtrigAckEdge ch s
  | .xtrigPulse ch word => Sys2Proof.Machine.execXtrigPulse ch word s
  | .xtrigPeriod ch => Sys2Proof.Machine.execXtrigPeriod ch s
  | .scpTxWrite ch word => Sys2Proof.Machine.execScpTxWrite ch word s
  | .scpWordStart ch => Sys2Proof.Machine.execScpWordStart ch s
  | .scpWordComplete ch sdi => Sys2Proof.Machine.execScpWordComplete ch sdi s
  | .scpRxRead ch => Sys2Proof.Machine.execScpRxRead ch s
  | .cciCmdWrite ch word => Sys2Proof.Machine.execCciCmdWrite ch word s
  | .cciTransactionStart ch sda => Sys2Proof.Machine.execCciTransactionStart ch sda s
  | .cciTransactionEnd ch nack data => Sys2Proof.Machine.execCciTransactionEnd ch nack data s
  | .cciStretchTimeout ch => Sys2Proof.Machine.execCciStretchTimeout ch s
  | .cciRxRead ch => Sys2Proof.Machine.execCciRxRead ch s
  | .channelFailure ch kind => Sys2Proof.Machine.execChannelFailure ch kind s
  | .channelReset ch => Sys2Proof.Machine.execChannelReset ch s
  | .channelResetComplete ch passed => Sys2Proof.Machine.execChannelResetComplete ch passed s
  | .serialQueueFlush ch => Sys2Proof.Machine.execSerialQueueFlush ch s
  | .pipelineApply ch => Sys2Proof.Machine.execPipelineApply ch s
  | .patchVerdict ch => Sys2Proof.Machine.execPatchVerdict ch s
  | .fabricAccess req op addr err victim => Sys2Proof.Machine.execFabricAccess req op addr err victim s
  | .correctedRewrite word => Sys2Proof.Machine.execCorrectedRewrite word s
  | .wayCarve req ways => Sys2Proof.Machine.execWayCarve req ways s
  | .wayReturn req ways => Sys2Proof.Machine.execWayReturn req ways s
  | .wayTransferComplete way => Sys2Proof.Machine.execWayTransferComplete way s
  | .lpddr5xTrainingFailure => Sys2Proof.Machine.execLpddr5xTrainingFailure s
  | .deepStoreStartComplete ch passed => Sys2Proof.Machine.execDeepStoreStartComplete ch passed s
  | .ringDescriptorWrite req ring data => Sys2Proof.Machine.execRingDescriptorWrite req ring data s
  | .ringClaim req ring len => Sys2Proof.Machine.execRingClaim req ring len s
  | .ringCommit req ring => Sys2Proof.Machine.execRingCommit req ring s
  | .ringAbandon req ring => Sys2Proof.Machine.execRingAbandon req ring s
  | .ringRelease req ring len => Sys2Proof.Machine.execRingRelease req ring len s
  | .blockedClaimRetry ring => Sys2Proof.Machine.execBlockedClaimRetry ring s
  | .quoinWrite req quoin data => Sys2Proof.Machine.execQuoinWrite req quoin data s
  | .quoinSignal req quoin n => Sys2Proof.Machine.execQuoinSignal req quoin n s
  | .quoinReset req quoin value => Sys2Proof.Machine.execQuoinReset req quoin value s
  | .quoinPoll req quoin thresh => Sys2Proof.Machine.execQuoinPoll req quoin thresh s
  | .quoinWait req quoin thresh => Sys2Proof.Machine.execQuoinWait req quoin thresh s
  | .waitLimitExpiry core => Sys2Proof.Machine.execWaitLimitExpiry core s
  | .claimLimitExpiry core => Sys2Proof.Machine.execClaimLimitExpiry core s
  | .qnNfyRead req station => Sys2Proof.Machine.execQnNfyRead req station s
  | .streamEntry core => Sys2Proof.Machine.execStreamEntry core s
  | .streamReadComplete core run err => Sys2Proof.Machine.execStreamReadComplete core run err s
  | .nop core => Sys2Proof.Machine.execNop core s
  | .move core => Sys2Proof.Machine.execMove core s
  | .matmul core => Sys2Proof.Machine.execMatmul core s
  | .tileDrain core array => Sys2Proof.Machine.execTileDrain core array s
  | .post core => Sys2Proof.Machine.execPost core s
  | .expand core => Sys2Proof.Machine.execExpand core s
  | .stream core => Sys2Proof.Machine.execStream core s
  | .stride core => Sys2Proof.Machine.execStride core s
  | .store core => Sys2Proof.Machine.execStore core s
  | .sync core => Sys2Proof.Machine.execSync core s
  | .endCmd core => Sys2Proof.Machine.execEndCmd core s
  | .maxpool core => Sys2Proof.Machine.execMaxpool core s
  | .avgpool core => Sys2Proof.Machine.execAvgpool core s
  | .dwconv core => Sys2Proof.Machine.execDwconv core s
  | .add core => Sys2Proof.Machine.execAdd core s
  | .mul core => Sys2Proof.Machine.execMul core s
  | .max core => Sys2Proof.Machine.execMax core s
  | .min core => Sys2Proof.Machine.execMin core s
  | .lut core => Sys2Proof.Machine.execLut core s
  | .softmax core => Sys2Proof.Machine.execSoftmax core s
  | .reduce core => Sys2Proof.Machine.execReduce core s
  | .matvec core => Sys2Proof.Machine.execMatvec core s
  | .argmax core => Sys2Proof.Machine.execArgmax core s
  | .compare core => Sys2Proof.Machine.execCompare core s
  | .upsample core => Sys2Proof.Machine.execUpsample core s
  | .copy core => Sys2Proof.Machine.execCopy core s
  | .requant core => Sys2Proof.Machine.execRequant core s
  | .slugComplete core galleyFixes formeFixes => Sys2Proof.Machine.execSlugComplete core galleyFixes formeFixes s
  | .slugOverrun core => Sys2Proof.Machine.execSlugOverrun core s
  | .startupTestComplete core passed => Sys2Proof.Machine.execStartupTestComplete core passed s
  | .shortTestComplete core passed => Sys2Proof.Machine.execShortTestComplete core passed s
  | .shortTestDeferred core => Sys2Proof.Machine.execShortTestDeferred core s
  | .retire mask => Sys2Proof.Machine.execRetire mask s
  | .test mask => Sys2Proof.Machine.execTest mask s
  | .coreMemoryUncorrectable core forme => Sys2Proof.Machine.execCoreMemoryUncorrectable core forme s
  | .rosterStep => Sys2Proof.Machine.execRosterStep s
  | .sequenceCreate channel window => Sys2Proof.Machine.execSequenceCreate channel window s
  | .sequenceDeadline entry => Sys2Proof.Machine.execSequenceDeadline entry s
  | .admitWrite station value => Sys2Proof.Machine.execAdmitWrite station value s
  | .rosterRetirement core => Sys2Proof.Machine.execRosterRetirement core s
  | .stationResourceWrite station sub data => Sys2Proof.Machine.execStationResourceWrite station sub data s
  | .stationWindowsWrite station data => Sys2Proof.Machine.execStationWindowsWrite station data s
  | .tearDown station => Sys2Proof.Machine.execTearDown station s
  | .pressroomWatchdogExpiry hart => Sys2Proof.Machine.execPressroomWatchdogExpiry hart s
  | .pressroomRestartComplete hart => Sys2Proof.Machine.execPressroomRestartComplete hart s
  | .pcieInboundRequest fn bar0 addr op err victim => Sys2Proof.Machine.execPcieInboundRequest fn bar0 addr op err victim s
  | .outboundCompletionTimeout tag => Sys2Proof.Machine.execOutboundCompletionTimeout tag s
  | .functionLevelReset fn => Sys2Proof.Machine.execFunctionLevelReset fn s
  | .perstNReset => Sys2Proof.Machine.execPerstNReset s
  | .pcieLinkDown => Sys2Proof.Machine.execPcieLinkDown s
  | .pcieLinkUp width gen => Sys2Proof.Machine.execPcieLinkUp width gen s
  | .cfgReady value => Sys2Proof.Machine.execCfgReady value s
  | .cfgReadyTimeout => Sys2Proof.Machine.execCfgReadyTimeout s
  | .mbxDoorbell fn value => Sys2Proof.Machine.execMbxDoorbell fn value s
  | .dictRead path index sub max offset => Sys2Proof.Machine.execDictRead path index sub max offset s
  | .dictWrite path index sub last offset data => Sys2Proof.Machine.execDictWrite path index sub last offset data s
  | .ethFrameReceive mac frame fcsOk => Sys2Proof.Machine.execEthFrameReceive mac frame fcsOk s
  | .ethFrameTransmit mac queue => Sys2Proof.Machine.execEthFrameTransmit mac queue s
  | .ethLinkChange mac code => Sys2Proof.Machine.execEthLinkChange mac code s
  | .phcSet seconds nanos => Sys2Proof.Machine.execPhcSet seconds nanos s
  | .ppsEdge => Sys2Proof.Machine.execPpsEdge s
  | .codecSubmit req addr => Sys2Proof.Machine.execCodecSubmit req addr s
  | .codecJobStart engine => Sys2Proof.Machine.execCodecJobStart engine s
  | .codecJobComplete engine output refOut frameType badStream => Sys2Proof.Machine.execCodecJobComplete engine output refOut frameType badStream s
  | .evcOccurrence id => Sys2Proof.Machine.execEvcOccurrence id s
  | .evcLineAccept line level samples => Sys2Proof.Machine.execEvcLineAccept line level samples s
  | .evcBatchTimeout id => Sys2Proof.Machine.execEvcBatchTimeout id s
  | .evcClaim port => Sys2Proof.Machine.execEvcClaim port s
  | .evcComplete port id => Sys2Proof.Machine.execEvcComplete port id s
  | .evcStackReset ref => Sys2Proof.Machine.execEvcStackReset ref s
  | .evcTagAck t => Sys2Proof.Machine.execEvcTagAck t s
  | .evcSwset mask => Sys2Proof.Machine.execEvcSwset mask s
  | .msixHeldRelease v => Sys2Proof.Machine.execMsixHeldRelease v s
  | .porstAssert => Sys2Proof.Machine.execPorstAssert s
  | .computeResetRelease bootmode vddioKept lpTrained => Sys2Proof.Machine.execComputeResetRelease bootmode vddioKept lpTrained s
  | .brownOut soc => Sys2Proof.Machine.execBrownOut soc s
  | .supplyExcursion soc => Sys2Proof.Machine.execSupplyExcursion soc s
  | .dozeEntry => Sys2Proof.Machine.execDozeEntry s
  | .dozeExit hart => Sys2Proof.Machine.execDozeExit hart s
  | .requestStop viaRegister => Sys2Proof.Machine.execRequestStop viaRegister s
  | .requestHibernate viaRegister => Sys2Proof.Machine.execRequestHibernate viaRegister s
  | .sleepEntryStart => Sys2Proof.Machine.execSleepEntryStart s
  | .sleepCommit => Sys2Proof.Machine.execSleepCommit s
  | .rtcAlarm => Sys2Proof.Machine.execRtcAlarm s
  | .gpioWakeLatch pin rise => Sys2Proof.Machine.execGpioWakeLatch pin rise s
  | .pwrWakeNFall => Sys2Proof.Machine.execPwrWakeNFall s
  | .wakeDuringEntry bit => Sys2Proof.Machine.execWakeDuringEntry bit s
  | .canFrameTransmit port result => Sys2Proof.Machine.execCanFrameTransmit port result s
  | .busOffRecovery port => Sys2Proof.Machine.execBusOffRecovery port s
  | .canFrameDiscard port => Sys2Proof.Machine.execCanFrameDiscard port s
  | .nmtStart port node => Sys2Proof.Machine.execNmtStart port node s
  | .nmtStop port node => Sys2Proof.Machine.execNmtStop port node s
  | .nmtEnterPreOperational port node => Sys2Proof.Machine.execNmtEnterPreOperational port node s
  | .nmtResetNode port node => Sys2Proof.Machine.execNmtResetNode port node s
  | .nmtResetCommunication port node => Sys2Proof.Machine.execNmtResetCommunication port node s
  | .sdoRequest port op => Sys2Proof.Machine.execSdoRequest port op s
  | .usdoRequest port op => Sys2Proof.Machine.execUsdoRequest port op s
  | .jdtRequest port prio sdt vcid sec af data => Sys2Proof.Machine.execJdtRequest port prio sdt vcid sec af data s
  | .jdtSegmentTimeout port addr => Sys2Proof.Machine.execJdtSegmentTimeout port addr s
  | .udpDictDatagram mac src data => Sys2Proof.Machine.execUdpDictDatagram mac src data s
  | .rpdoReceive port n data => Sys2Proof.Machine.execRpdoReceive port n data s
  | .syncReceive port => Sys2Proof.Machine.execSyncReceive port s
  | .heartbeatConsumerTimeout port entry => Sys2Proof.Machine.execHeartbeatConsumerTimeout port entry s
  | .heartbeatProducer port => Sys2Proof.Machine.execHeartbeatProducer port s
  | .tpdoChangeCheck => Sys2Proof.Machine.execTpdoChangeCheck s
  | .tpdoEventTimer port n => Sys2Proof.Machine.execTpdoEventTimer port n s
  | .tpdoTransmit port n => Sys2Proof.Machine.execTpdoTransmit port n s
  | .emcyTransmit port => Sys2Proof.Machine.execEmcyTransmit port s
  | .errorRegisterCheck => Sys2Proof.Machine.execErrorRegisterCheck s
  | .lssSwitchStateGlobal port config => Sys2Proof.Machine.execLssSwitchStateGlobal port config s
  | .lssSwitchStateSelective port field value => Sys2Proof.Machine.execLssSwitchStateSelective port field value s
  | .lssConfigureNodeId port node => Sys2Proof.Machine.execLssConfigureNodeId port node s
  | .lssConfigureBitTiming port table index => Sys2Proof.Machine.execLssConfigureBitTiming port table index s
  | .lssActivateBitTiming port => Sys2Proof.Machine.execLssActivateBitTiming port s
  | .lssStoreConfiguration port => Sys2Proof.Machine.execLssStoreConfiguration port s
  | .lssInquireIdentity port field => Sys2Proof.Machine.execLssInquireIdentity port field s
  | .lssInquireNodeId port => Sys2Proof.Machine.execLssInquireNodeId port s
  | .lssIdentifyRemoteSlave port field value => Sys2Proof.Machine.execLssIdentifyRemoteSlave port field value s
  | .lssFastscan port id bitChecked sub next => Sys2Proof.Machine.execLssFastscan port id bitChecked sub next s
  | .canWakeup port dominant5us pattern => Sys2Proof.Machine.execCanWakeup port dominant5us pattern s
  | .protocolSideReturn => Sys2Proof.Machine.execProtocolSideReturn s
  | .storeParameters scope value => Sys2Proof.Machine.execStoreParameters scope value s
  | .restoreDefaults scope value => Sys2Proof.Machine.execRestoreDefaults scope value s
  | .longOperationComplete ok failed => Sys2Proof.Machine.execLongOperationComplete ok failed s
  | .longOperationTimeout => Sys2Proof.Machine.execLongOperationTimeout s
  | .errorHistoryClear value => Sys2Proof.Machine.execErrorHistoryClear value s
  | .eventLogClear value => Sys2Proof.Machine.execEventLogClear value s
  | .keyRevoke value => Sys2Proof.Machine.execKeyRevoke value s
  | .updateBegin => Sys2Proof.Machine.execUpdateBegin s
  | .updateBlock data => Sys2Proof.Machine.execUpdateBlock data s
  | .updateVerify => Sys2Proof.Machine.execUpdateVerify s
  | .updateActivate => Sys2Proof.Machine.execUpdateActivate s
  | .activateReset => Sys2Proof.Machine.execActivateReset s
  | .updateConfirm => Sys2Proof.Machine.execUpdateConfirm s
  | .updateCancel => Sys2Proof.Machine.execUpdateCancel s
  | .packageImageSegment slot offset last data => Sys2Proof.Machine.execPackageImageSegment slot offset last data s
  | .packageVerify slot => Sys2Proof.Machine.execPackageVerify slot s
  | .packageRemove slot => Sys2Proof.Machine.execPackageRemove slot s
  | .counterClear index sub value mirror => Sys2Proof.Machine.execCounterClear index sub value mirror s
  | .counterObjectClear index viaRegister => Sys2Proof.Machine.execCounterObjectClear index viaRegister s
  | .bootWatchdogExpiry => Sys2Proof.Machine.execBootWatchdogExpiry s
  | .bootOk value => Sys2Proof.Machine.execBootOk value s
  | .bootLpcfgWrite value => Sys2Proof.Machine.execBootLpcfgWrite value s
  | .flashProgram => Sys2Proof.Machine.execFlashProgram s
  | .flashErase => Sys2Proof.Machine.execFlashErase s
  | .flashCommandComplete => Sys2Proof.Machine.execFlashCommandComplete s
  | .deepStoreScrubRead ch err => Sys2Proof.Machine.execDeepStoreScrubRead ch err s
  | .ringTableScrubRead err => Sys2Proof.Machine.execRingTableScrubRead err s
  | .scrubPassLate res => Sys2Proof.Machine.execScrubPassLate res s
  | .scrubForcedMode res => Sys2Proof.Machine.execScrubForcedMode res s
  | .forcedIntervalStart res => Sys2Proof.Machine.execForcedIntervalStart res s
  | .forcedIntervalEnd res => Sys2Proof.Machine.execForcedIntervalEnd res s
  | .phyCalibrationStart ch => Sys2Proof.Machine.execPhyCalibrationStart ch s
  | .phyCalibrationComplete ch => Sys2Proof.Machine.execPhyCalibrationComplete ch s
  | .calibrationPeriodEnd ch => Sys2Proof.Machine.execCalibrationPeriodEnd ch s
  | .eraseAhead => Sys2Proof.Machine.execEraseAhead s
  | .telemetryRead t0 t1 t2 t3 neural soc vfield => Sys2Proof.Machine.execTelemetryRead t0 t1 t2 t3 neural soc vfield s
  | .registerWrite req addr data => Sys2Proof.Machine.execRegisterWrite req addr data s
  | .xinReturn => Sys2Proof.Machine.execXinReturn s
  | .canReceiveError port heavy => Sys2Proof.Machine.execCanReceiveError port heavy s
  | .outboundCompletion tag status data => Sys2Proof.Machine.execOutboundCompletion tag status data s
  | .pcieConfigRequest fn op => Sys2Proof.Machine.execPcieConfigRequest fn op s
  | .hartTimerInterrupt hart => Sys2Proof.Machine.execHartTimerInterrupt hart s
  | .stopExitComplete => Sys2Proof.Machine.execStopExitComplete s

end Machine
end Sys2Proof
end

