-- ==== Sys2Proof/Machine/Tick.lean ====
section
/-!
DEFINITION. The passing of time, one field sampling cycle, which is what a step does when no command waits (DESIGN CHOICE 2; 01 R29, R30; 17 R426).
-/
namespace Sys2Proof
namespace Machine

/-- The reference clock runs: the compute die runs and XIN has not failed (01 R30, 14 R353). -/
def State.refRuns (s : State) : Bool := s.computeRuns && !s.link.xinFail

/-- One sampling cycle on each clock that runs. -/
def Clocks.advance (c : Clocks) (field ref : Bool) : Clocks :=
  { c with
    wall := c.wall + Config.psPerCycle
    field := if field then c.field + Config.psPerCycle else c.field
    ref := if ref then c.ref + Config.psPerCycle else c.ref }

/-- Time passes; a halted boot writes FORCE_FAULT where its blink changes (17 R426). -/
def State.tick (s : State) : State :=
  let t : State := { s with clk := s.clk.advance s.fd.on s.refRuns }
  if s.boot.halt ≠ 0 ∧ s.computeRuns = true ∧ s.link.up = true ∧ t.blink ≠ s.blink then
    t.sendField (.regWrite .fdStat (t.bootCode + bitIf t.blink 8))
  else t

end Machine
end Sys2Proof
end

