-- ==== Sys2Proof/Safety.lean ====
section
/-!
DEFINITION. The terms that the statements use: a command that completes, the canonical form of memory, and a machine whose log runs.
-/
namespace Sys2Proof
namespace Machine

/-- The command answers a next state, of which `P` holds. -/
def Completes (i : Instr) (s : State) (P : State → Prop) : Prop :=
  ∃ t, exec i s = .next t ∧ P t

/-- The bytes of physical memory are in the one canonical form: rising addresses, and no cell that holds what its address reads as when unlisted. -/
def Memory.wf (m : MemSys) : Bool := cellsWf memDefault m.bytes

/-- The event log runs and no event waits to be entered. -/
def State.settled (s : State) : Prop := s.rep.running = true ∧ s.rep.due = []

/-- Physical memory is in its canonical form, the event log holds at most 256 entries and the pre-defined error field at most 8 (06 R155, 16 R401, R409). -/
def State.wellKept (s : State) : Prop := Memory.wf s.mem = true ∧ s.rep.log.length ≤ 256 ∧ s.rep.hist.length ≤ 8

/-- P1 answers requests to every object at once: it serves, no long operation runs and the firmware is not the recovery loader (12 R300, 15 R377, 17 R428). -/
def State.answers (s : State) : Prop := s.serves = true ∧ s.od.longop = none ∧ s.boot.recovery = false

/-- Counters that reporting itself moves: EMCYs discarded at a LONELY port, EVC saturations, MSI-X messages sent and held. -/
def ownCounters : List Nat := [key 0x28D0 7, key 0x28D1 7, key 0x28B0 4, key 0x28B0 5, key 0x28B0 7]

/-- What adding 1 leaves of a counter (00 R13). -/
def satInc (v : BitVec 32) : BitVec 32 := if v = 0xFFFFFFFF then v else v + 1

/-- A counter by its key (00 R13). -/
def State.tally (s : State) (k : Nat) : BitVec 32 := s.rep.cnt.at 0 k

/-- Every counter listed in `ks` has counted once and every other one stands, but for those that reporting itself moves. -/
def Counted (s t : State) (ks : List Nat) : Prop :=
  ∀ k, k ∉ ownCounters → t.tally k = if k ∈ ks then satInc (s.tally k) else s.tally k

/-- A port serves CANopen: it is attached under a profile, the normal firmware runs, its line is not shorted, and a frame waits in its receive buffer. -/
def State.canServes (s : State) (p : Nat) : Prop :=
  (s.port p).avail = true ∧ s.canSet p 1 ≠ 0 ∧ s.boot.recovery = false ∧ (s.port p).rx ≠ [] ∧ (s.canWire p).short = false

/-- No counter is one short of its last value, so that counting makes no event due (00 R13, R16). -/
def State.roomy (s : State) : Prop := ∀ k, s.tally k ≠ 0xFFFFFFFE

/-- The requester may operate on the ring: it lies in the range of the station that the requester acts for, is valid and undamaged, and that station owns it (07 R187, 11 Table 11-5 check 8). -/
def State.ringOpen (s : State) (req : Requester) (r : Nat) : Prop :=
  s.ringIn (s.attrib req) r = true ∧ (s.ring r).valid = true ∧ (s.ring r).damaged = false ∧ (s.ring r).owner = s.attrib req

/-- The requester may operate on the quoin, as `ringOpen` says of a ring (07 R195, R196, 11 Table 11-5 check 9). -/
def State.quoinOpen (s : State) (req : Requester) (q : Nat) : Prop :=
  s.quoinIn (s.attrib req) q = true ∧ (s.quoin q).valid = true ∧ (s.quoin q).damaged = false ∧ (s.quoin q).owner = s.attrib req

/-- The slug of core `c`, which carries no sequence, has been aborted with a cause: the core takes no command any more, NC_FAULT holds the cause, the station and the number of the command, and the abort is counted (08 R221). -/
def State.slugAborted (u t : State) (c cause : Nat) : Prop :=
  (t.core c).state ≠ .running ∧ (t.core c).cause = cause ∧ (t.core c).faultSt = (u.core c).station ∧ (t.core c).faultCmd = (u.core c).pc % 2 ^ 32
  ∧ (t.core c).waiting = false ∧ (∀ k, k ≠ c → t.core k = u.core k) ∧ Counted u t [key (0x2870 + c) 2]
  ∧ t = { u with nc := { u.nc with core := t.nc.core }, qn := { u.qn with parked := t.qn.parked }, rg := { u.rg with blocked := t.rg.blocked }
                 rs := { u.rs with slug := t.rs.slug }, rep := t.rep }

/-- A command has changed core `c`, and nothing else. -/
def State.onlyCore (u t : State) (c : Nat) (k : NeuralCore) : Prop :=
  t.core c = k ∧ (∀ d, d ≠ c → t.core d = u.core d) ∧ t = { u with nc := { u.nc with core := t.nc.core } }

/-- Core `c` is about to run a command and has run one before: the sequencer is ready, and the fetch of the next command answers `x` in state `u` (08 R219, R220). -/
def State.fetches (s : State) (c : Fin 16) (u : State) (x : Option (List Byte)) : Prop :=
  (s.core c).ready = true ∧ (s.core c).started ≠ none
  ∧ s.fabric (.core c) ((s.core c).list + 16 * (s.core c).pc) (.read 16) .none 0 (s.core c).pc = (u, x)

/-- The compute die has been reset: everything on it stands as at State.reset but for the fuses and what the flash holds, RESET_CAUSE of the next start is `cause` and LAST_WDOG is `wdog`; the field die, the clocks and the queue are as they were (06 R180, R181, 14 R344, 17 R427). -/
def State.computeReset (s t : State) (cause : Nat) (wdog : Bool) : Prop :=
  t = { State.reset with
        clk := { s.clk with refReset := s.clk.ref }, fd := s.fd, wc := s.wc, cue := s.cue
        pwr := { State.reset.pwr with causeNext := cause, vfield := s.pwr.vfield }
        boot := { State.reset.boot with
          fuses := s.boot.fuses, shipA := s.boot.shipA, shipBull := s.boot.shipBull, dlLen := s.boot.dlLen, dlSlot := s.boot.dlSlot
          dlCrc := s.boot.dlCrc, lastWdog := wdog }
        mem := { State.reset.mem with bytes := t.mem.bytes }
        free := s.free, pending := s.pending }
  ∧ ∀ a, t.byte a = if a < 0x800000 then s.byte a else 0

/-- A response record of Table 12-4: status, subindex, index, data length or abort code, token, the value's total length, and the data (12 R306). -/
def responseRecord (status sub idx n token total : Nat) (d : List Byte) : List Byte :=
  leBytes 1 status ++ leBytes 1 sub ++ leBytes 2 idx ++ leBytes 4 n ++ leBytes 4 token ++ leBytes 4 total ++ d

/-- The mailbox of function `f` holds a response: the record lies at the start of its response buffer, BUSY is clear, DONE is set, and the request is counted (12 R306). -/
def State.mailed (s t : State) (f : Fin 32) (r : Resp) (x : List Byte) : Prop :=
  (t.func f).mbx = { (s.func f).mbx with rsp := overlay (s.func f).mbx.rsp 0 x, busy := false, done := true, xfer := (t.func f).mbx.xfer }
  ∧ t.func f = { s.func f with mbx := (t.func f).mbx } ∧ (∀ k, k ≠ f.val → t.func k = s.func k)
  ∧ Counted s t [key 0x28A0 7] ∧ t.out = { s.out with resp := some r }

/-- A CAN port holds a frame more to send, the received frame is gone, and nothing else of it has changed but its dictionary transfers (15 R370, R374-R376). -/
def State.posted (s t : State) (p : Nat) (m : List CanMsg) : Prop :=
  (t.port p).rx = (s.port p).rx.tail ∧ (t.port p).tx = (s.port p).tx ++ m ∧ (∀ q, q ≠ p → t.port q = s.port q)
  ∧ t.port p = { s.port p with rx := (t.port p).rx, tx := (t.port p).tx, sdo := (t.port p).sdo, jdtWait := (t.port p).jdtWait, jdtXfer := (t.port p).jdtXfer }

/-- Number of the next read of a scrub pass on a resource; a resource without a pass starts one (18 R443, R444). -/
def State.scrubPlace (s : State) (r : Nat) : Nat := if s.gk.passOn.at false r then s.gk.pass.at 0 r else 0

/-- Counters that the end of a scrub pass moves when the read at its place is its last (18 R444). -/
def State.scrubEnds (s : State) (r k : Nat) : List Nat := if s.scrubPlace r + 1 < passLen r then [] else [k]

/-- One read of a scrub pass is done: the pass stands at the next place, or has ended and let the resource leave forced mode (18 R444, R445). -/
def State.scrubbed (s t : State) (r : Nat) : Prop :=
  t.gk.passOn.at false r = decide (s.scrubPlace r + 1 < passLen r)
  ∧ t.gk.pass.at 0 r = (if s.scrubPlace r + 1 < passLen r then s.scrubPlace r + 1 else 0)
  ∧ t.gk.forced.at false r = (decide (s.scrubPlace r + 1 < passLen r) && s.gk.forced.at false r)
  ∧ t.gk.interval.at false r = (decide (s.scrubPlace r + 1 < passLen r) && s.gk.interval.at false r)
  ∧ (∀ k, k ≠ r → t.gk.passOn.at false k = s.gk.passOn.at false k ∧ t.gk.pass.at 0 k = s.gk.pass.at 0 k
      ∧ t.gk.forced.at false k = s.gk.forced.at false k ∧ t.gk.interval.at false k = s.gk.interval.at false k)
  ∧ t.gk = { s.gk with passOn := t.gk.passOn, pass := t.gk.pass, late := t.gk.late, forced := t.gk.forced, interval := t.gk.interval }

end Machine
end Sys2Proof
end

