-- ==== Sys2Proof/Certificates/Slice0/Obligations.lean ====
section
/-!
DEFINITION. The statements for the provers. Every command of the opcode table has its completion in one of them, with the state it answers and what it leaves alone.
-/
section
open Sys2Proof Sys2Proof.Machine

/-- A step runs the command at the front of the queue: its outcome is that of the command on the state with the rest of the queue. -/
def Obligations.StepRunsTheFront : Prop :=
  ∀ (s : State) (c : Instr) (rest : List Instr), s.pending = c :: rest → step s = exec c { s with pending := rest }

/-- With no command waiting a step lets one field sampling cycle of 6,250 ps pass and does nothing else; a halted boot may give the Field Link its changed status code. This is the model's own choice (log entry 2). -/
def Obligations.EmptyQueueLetsTimePass : Prop :=
  ∀ s : State, s.pending = [] → ∃ t, step s = .next t
    ∧ t.clk = { s.clk with
        wall := s.clk.wall + 6250, field := if s.fd.on then s.clk.field + 6250 else s.clk.field
        ref := if s.computeRuns && !s.link.xinFail then s.clk.ref + 6250 else s.clk.ref }
    ∧ (s.boot.halt = 0 ∨ s.computeRuns = false ∨ s.link.up = false → t = { s with clk := t.clk }) ∧ t = { s with clk := t.clk, link := { s.link with txq := t.link.txq } }

/-- Every command completes: a step always answers a next state, from which exactly the command that ran is gone from the queue. -/
def Obligations.EveryStepAnswers : Prop :=
  ∀ s : State, ∃ t, step s = .next t ∧ t.pending = s.pending.tail

/-- Every step keeps the canonical form of physical memory and the bounds of the event log and of the pre-defined error field (06 R155; 16 R401, R409). -/
def Obligations.MemoryAndLogsStayInForm : Prop :=
  ∀ s t : State, s.wellKept → step s = .next t → t.wellKept

/-- The machine after reset meets the invariant; no memory byte is listed, every counter reads 0, the event log, the pre-defined error field and the command queue are empty, the compute die is held in reset, the Field Link is down, every cue entry is FREE and every package slot EMPTY (00 R13; 02 R58; 14 R343; 16 R411). -/
def Obligations.ResetState : Prop :=
  State.reset.wellKept ∧ State.reset.mem.bytes = [] ∧ (∀ k, State.reset.tally k = 0) ∧ State.reset.rep.log = [] ∧ State.reset.rep.hist = []
  ∧ State.reset.pending = [] ∧ State.reset.computeRuns = false ∧ State.reset.link.up = false
  ∧ (∀ e, (State.reset.cueAt e).st = .free) ∧ (∀ p, (State.reset.pk p).state = .empty)

/-- Counters (00 R16). The count that takes a counter to 0xFFFF_FFFF raises EV-1F01, whose log entry names the counter's index and subindex; from then on counting changes nothing until the counter is cleared; any other count adds 1 to that counter alone and raises nothing. -/
def Obligations.CountersStickOnce : Prop :=
  ∀ (s : State) (idx sub : Nat), s.settled → sub < 256 →
  (s.counter idx sub = 0xFFFFFFFE → (s.count idx sub).counter idx sub = 0xFFFFFFFF
      ∧ ∃ e ∈ (s.count idx sub).rep.log, e.code = 0x1F01 ∧ e.detail = idx * 2 ^ 16 + sub * 2 ^ 8 ∧ e.seq = s.rep.seq + 1)
  ∧ (s.counter idx sub = 0xFFFFFFFF → s.count idx sub = s)
  ∧ (s.counter idx sub < 0xFFFFFFFE → (s.count idx sub).counter idx sub = s.counter idx sub + 1
      ∧ (∀ k, k ≠ key idx sub → (s.count idx sub).tally k = s.tally k) ∧ s.count idx sub = { s with rep := { s.rep with cnt := (s.count idx sub).rep.cnt } })

/-- Slots of the Field Link (03 R91-R93). With the link up, a slot whose CRC fails changes no position view and is counted; a good one sets SEQ and every HEALTH, makes the view of the clock whose HIGH it carries valid and exact, rebuilds a valid view from LOW modulo 2^48, and makes a view whose JUMP is set invalid; the field die takes TIME from a good slot and counts a bad one. -/
def Obligations.LinkSlots : Prop :=
  ∀ s : State,
  (∀ pos : SlotPos, s.link.up = true →
    Completes (.fieldSlotReceive pos false) s (fun t =>
      t.link.views = s.link.views ∧ t.link.seq = s.link.seq ∧ t.counter 0x2810 1 = satInc (s.counter 0x2810 1)
      ∧ t = { s with link := t.link, rep := t.rep })
    ∧ Completes (.fieldSlotReceive pos true) s (fun t =>
      t.link.seq = pos.seq.val
      ∧ (∀ (n : Nat) (c : SlotClock), n < 8 → pos.clocks[n]? = some c →
          (t.view n).health = c.health.val
          ∧ (pos.seq.val % 8 = n → (t.view n).valid = true
              ∧ (t.view n).pos = BitVec.ofNat 56 ((pos.high.val * 1024 + c.low.val) * 256 + c.frac.val))
          ∧ (pos.seq.val % 8 ≠ n → c.jump = true → (t.view n).valid = false)
          ∧ (pos.seq.val % 8 ≠ n → c.jump = false → (s.view n).valid = true → (t.view n).valid = true
              ∧ (t.view n).pos = BitVec.ofNat 56 (rebuild ((s.view n).pos.toNat / 256) c.low.val * 256 + c.frac.val)))
      ∧ t = { s with link := t.link, rep := t.rep, wc := t.wc }))
  ∧ (∀ time : BitVec 46, s.fd.on = true → s.fd.up = true →
    Completes (.computeSlotReceive time true) s (fun t =>
      t.link.lastTime = time.toNat ∧ t.link.disciplined = (s.fd.autonomy == .none) ∧ t = { s with link := t.link })
    ∧ (s.direct = true → Completes (.computeSlotReceive time false) s (fun t =>
      Counted s t [key 0x2810 4] ∧ t = { s with rep := t.rep })))

/-- Heartbeats, autonomy and training (03 R95-R98; 01 R37). Each side sends at its time; a miss is counted and the third in a row declares the link lost, on the field die with autonomy; a valid heartbeat clears the count, and the eighth in a row ends autonomy; the field die enters orderly autonomy at its heartbeat time after SLEEP; training starts with no cause against it, and on four lanes it brings the link up; a failed XIN and a stalled Roster are such causes. -/
def Obligations.LinkHeartbeats : Prop :=
  ∀ s : State,
  (s.link.up = true → s.heartOk = true → Completes (.heartbeatSend .compute) s (fun t =>
      t.link = { s.link with firstHb := false, txq := s.link.txq ++ [.heartbeat (if s.link.firstHb then 1 else 0) (s.refUs % 2 ^ 32)] }
      ∧ t = { s with link := t.link }))
  ∧ (s.fd.on = true → s.fd.up = true → s.fd.sleepReq = 0 → Completes (.heartbeatSend .field) s (fun t =>
      t.fd = { s.fd with txq := s.fd.txq ++ [.heartbeat 0 s.fieldUs] } ∧ t = { s with fd := t.fd }))
  ∧ (s.fd.on = true → s.fd.up = true → s.fd.sleepReq ≠ 0 → s.fd.autonomy = .none → Completes (.heartbeatSend .field) s (fun t =>
      t.fd.autonomy = .orderly ∧ t.fd.up = false ∧ t.link.up = false ∧ t.fd.hibernated = (s.fd.sleepReq == 2)
      ∧ t.counter 0x2810 7 = satInc (s.counter 0x2810 7)))
  ∧ (∀ (state : BitVec 8) (us : BitVec 32), Completes (.heartbeat .compute state us) s (fun t =>
      t.link = { s.link with missRun := 0 } ∧ t = { s with link := t.link, fd := t.fd }))
  ∧ (∀ (state : BitVec 8) (us : BitVec 32), s.fd.on = true → s.fd.up = true → Completes (.heartbeat .field state us) s (fun t =>
      (s.fd.autonomy = .none → t.fd = { s.fd with missRun := 0, stat := if state = 1 then 1 else s.fd.stat } ∧ t = { s with fd := t.fd, link := t.link })
      ∧ (s.fd.autonomy ≠ .none → s.fd.hbRun < 7 → t.fd.hbRun = s.fd.hbRun + 1 ∧ t.fd.autonomy = s.fd.autonomy ∧ t = { s with fd := t.fd, link := t.link })
      ∧ (s.fd.autonomy ≠ .none → 7 ≤ s.fd.hbRun → t.fd.autonomy = .none)))
  ∧ (s.link.up = true → s.computeRuns = true → Completes (.heartbeatMiss .compute) s (fun t =>
      t.counter 0x2810 2 = satInc (s.counter 0x2810 2)
      ∧ (s.link.missRun < 2 → t.link = { s.link with missRun := s.link.missRun + 1 } ∧ t = { s with rep := t.rep, link := t.link })
      ∧ (2 ≤ s.link.missRun → t.link.up = false ∧ t.link.autonomy = true ∧ (∀ n, (t.view n).valid = false)
          ∧ (∀ p, (t.port p).avail = false ∧ (t.port p).rx = [] ∧ (t.port p).tx = []))))
  ∧ (s.fd.on = true → s.fd.up = true → s.direct = true → Completes (.heartbeatMiss .field) s (fun t =>
      t.counter 0x2810 5 = satInc (s.counter 0x2810 5)
      ∧ (s.fd.missRun < 2 → t.fd = { s.fd with missRun := s.fd.missRun + 1, hbRun := 0 } ∧ t = { s with rep := t.rep, fd := t.fd })
      ∧ (2 ≤ s.fd.missRun → t.fd.up = false ∧ t.fd.autonomy = .fault ∧ t.fd.txq = [])))
  ∧ (∀ lanes : BitVec 4, s.link.up = false → s.heartOk = true → s.fd.on = true → (∀ at_, s.link.lostAt = some at_ → at_ + 10 * Config.psPerMs ≤ s.clk.ref) →
      Completes (.linkRetrain lanes) s (fun t => t = { s with link := { s.link with training := true, lanes := lanes } }))
  ∧ (∀ lanes : BitVec 4, s.link.up = false → s.heartOk = true → Completes (.linkTrainTimeout lanes) s (fun t =>
      t.link = { s.link with training := true, lanes := if s.fd.on then lanes else 0 }
      ∧ t.rep = (({ s with link := t.link } : State).raise { code := 0x1204 }).rep ∧ t = { s with link := t.link, rep := t.rep }))
  ∧ Completes .xinFailure s (fun t => t.heartOk = false ∧ t.link.training = false ∧ t = { s with link := t.link })
  ∧ Completes .xinReturn s (fun t => t = { s with link := { s.link with xinFail := false } })
  ∧ (s.computeRuns = true → Completes .rosterStall s (fun t => t.heartOk = false ∧ t.link.training = false ∧ t = { s with link := t.link }))
  ∧ (s.link.up = false → s.link.training = true → s.link.lanes = 0xF#4 → s.fd.on = true → s.heartOk = true → Completes .fieldLinkUp s (fun t =>
      t.link.up = true ∧ t.fd.up = true ∧ t.fd.everUp = true ∧ t.link.training = false ∧ t.link.seen = true ∧ t.fd.autonomy = s.fd.autonomy))

/-- Messages that the field die takes while a session is up (03 R94, R97, R98; 02 R59, R62, R66). A verdict changes the VERDICT of an ARMED or LIVE kick cue alone, and is counted and discarded for a cue that autonomy made UNSEEN; a fourth cue part installs the cue, ARMED, with EXPIRY filled in, the earlier ones wait, and parts that time out are discarded and counted; a register write applies its value, to FD_STAT its writable bits, to FD_FAULT nothing; a read is answered; bits go to the port's bit engine; SLEEP is noted. -/
def Obligations.MessagesToTheFieldDie : Prop :=
  ∀ s : State, s.fieldHears = true → s.direct = true →
  (∀ (e : Fin 8192) (v : Fin 4), (s.cueAt e).autoUnseen = false → ((s.cueAt e).st = .armed ∨ (s.cueAt e).st = .live) → cueKind (s.cueAt e).word = 1 →
    Completes (.verdict e v) s (fun t =>
      t.cueAt e = { s.cueAt e with word := setCueField (s.cueAt e).word 111 2 v } ∧ (∀ f, f ≠ e.val → t.cueAt f = s.cueAt f)
      ∧ t = { s with link := t.link, cue := t.cue }))
  ∧ (∀ (e : Fin 8192) (v : Fin 4), (s.cueAt e).autoUnseen = true → Completes (.verdict e v) s (fun t =>
      Counted s t [key 0x2810 6] ∧ t = { s with link := t.link, rep := t.rep }))
  ∧ (∀ (e : Fin 8192) (p : Fin 4) (d : BitVec 32), (s.cue.parts.at {} e).got ||| BitVec.ofNat 4 (2 ^ p.val) ≠ 15#4 →
    Completes (.cuePart e p d) s (fun t =>
      (t.cue.parts.at {} e) = { got := (s.cue.parts.at {} e).got ||| BitVec.ofNat 4 (2 ^ p.val), word := setCueField (s.cue.parts.at {} e).word (32 * p.val) 32 d.toNat }
      ∧ t.cue.tab = s.cue.tab ∧ t = { s with link := t.link, cue := t.cue }))
  ∧ (∀ (e : Fin 8192) (p : Fin 4) (d : BitVec 32) (w : BitVec 128), (s.cue.parts.at {} e).got ||| BitVec.ofNat 4 (2 ^ p.val) = 15#4 →
      w = setCueField (s.cue.parts.at {} e).word (32 * p.val) 32 d.toNat → s.cueRefusal e w = none →
    Completes (.cuePart e p d) s (fun t =>
      t.cueAt e = { st := .armed, ahead := true, word := setCueField w 56 32 (s.fieldUs + s.staleMs (cueStation w) * 1000) }
      ∧ (∀ f, f ≠ e.val → t.cueAt f = s.cueAt f) ∧ t.cue.parts.at {} e = {} ∧ t = { s with link := t.link, cue := t.cue }))
  ∧ (∀ e : Fin 8192, (s.cue.parts.at {} e).got ≠ 0 → Completes (.cuePartTimeout e) s (fun t =>
      t.cue.parts.at {} e = {} ∧ t.cue.tab = s.cue.tab ∧ Counted s t [key 0x2828 5] ∧ t = { s with cue := t.cue, rep := t.rep }))
  ∧ (∀ d : BitVec 32, Completes (.regWrite .fdStat d) s (fun t =>
      t.fd = { s.fd with stat := d &&& 0x10F#32 } ∧ t = { s with link := t.link, fd := t.fd }))
  ∧ (∀ d : BitVec 32, Completes (.regWrite .fdFault d) s (fun t => t = { s with link := t.link }))
  ∧ (∀ (st : Nat) (d : BitVec 32), Completes (.regWrite (.spacing st) d) s (fun t =>
      t.spacing st = d.toNat ∧ (∀ k, k ≠ st → t.spacing k = s.spacing k) ∧ t = { s with link := t.link, cue := t.cue }))
  ∧ (∀ (n : Fin 8) (d : BitVec 32), Completes (.regWrite (.entry (0x2100 + n.val) 6) d) s (fun t =>
      t.fnum (0x2100 + n.val) 6 0 = d.toNat ∧ t = { s with link := t.link, fd := t.fd }))
  ∧ (∀ r : FieldReg, Completes (.regRead r) s (fun t =>
      t.fd = { s.fd with txq := s.fd.txq ++ [.regData r (s.fieldRegValue r)] } ∧ t = { s with link := t.link, fd := t.fd }))
  ∧ (∀ (p : Fin 2) (n : Fin 49) (d : BitVec 48), Completes (.canTx p n d) s (fun t =>
      (t.fd.canLine.at {} p.val).bits = (s.fd.canLine.at {} p.val).bits ++ [(n.val, d.toNat)] ∧ t = { s with fd := t.fd }))
  ∧ (∀ k : Fin 3, k ≠ 0 → Completes (.sleep k) s (fun t => t.fd = { s.fd with sleepReq := k.val } ∧ t = { s with link := t.link, fd := t.fd }))

/-- Messages that the compute die takes while the link is up (03 R78, R94, R100; 10 R261, R266; 13 R323; 16 R397). A register's value becomes the last one reported; a photo-eye's level and time reach its EVC line; a pin event is raised and a count it carries is added; the result of a cue that the Roster does not know changes nothing, and that of a known cue frees its entry. -/
def Obligations.MessagesToTheComputeDie : Prop :=
  ∀ s : State, s.link.up = true →
  (∀ d : BitVec 32, Completes (.regData .fdStat d) s (fun t => t.link = { s.link with statRep := d.toNat } ∧ t = { s with link := t.link, fd := t.fd }))
  ∧ (∀ d : BitVec 32, Completes (.regData .fdFault d) s (fun t => t.link = { s.link with faultRep := d.toNat } ∧ t = { s with link := t.link, fd := t.fd }))
  ∧ (∀ (i j : Nat) (d : BitVec 32), Completes (.regData (.entry i j) d) s (fun t =>
      t.link = { s.link with last := s.link.last.put (key i j) d.toNat } ∧ t = { s with link := t.link, fd := t.fd }))
  ∧ (∀ (k : Fin 16) (l : Bool) (us : BitVec 32), Completes (.peEdgeMessage k l us) s (fun t =>
      t.rep.evc.ext k.val = { s.rep.evc.ext k.val with fwd := l, fwdUs := us } ∧ (∀ m, m ≠ k.val → t.rep.evc.ext m = s.rep.evc.ext m)
      ∧ t = { s with fd := t.fd, rep := t.rep }))
  ∧ (∀ (c : BitVec 16) (u st : BitVec 8) (d : BitVec 64) (ctr : BitVec 24), c ≠ 0 → Completes (.pinEvent c u st d ctr 0) s (fun t =>
      t.rep = (s.raise { code := c.toNat, unit := u.toNat, station := st.toNat, detail := d.toNat }).rep ∧ t = { s with fd := t.fd, rep := t.rep }))
  ∧ (∀ (u st : BitVec 8) (d : BitVec 64) (ctr : BitVec 24) (n : Nat), n ≠ 0 → Completes (.pinEvent 0 u st d ctr n) s (fun t =>
      t.rep = (s.countN (ctr.toNat / 256) (ctr.toNat % 256) n).rep ∧ t = { s with fd := t.fd, rep := t.rep }))
  ∧ (∀ (e : Fin 8192) (c : Fin 8), (s.cueUse e).used = false → Completes (.cueResult e c) s (fun t => t = { s with fd := t.fd }))
  ∧ (∀ (e : Fin 8192) (c : Fin 8), s.computeRuns = true → (s.cueUse e).used = true → (s.cueUse e).first = false → (s.cueUse e).kick = true → c.val < 2 →
      Completes (.cueResult e c) s (fun t =>
        t.cueUse e = {} ∧ (∀ f, f ≠ e.val → t.cueUse f = s.cueUse f) ∧ t = { s with fd := t.fd, rs := t.rs, st := t.st, rep := t.rep }))

/-- Counting and the web clock commands (02 R38, R43, R54, R55, R57). A change of an encoder's levels is taken by that encoder alone and moves no clock that does not use it; on a clock that counts it, neither LOST nor on its backup, the x4 count moves by the step of Table 2-1. The velocity update, the standstill time-out, the return to the primary encoder and the acknowledgement of LOST have the effects of R43, R55, R54 and R57. -/
def Obligations.WebClockCommands : Prop :=
  ∀ (s : State) (n : Fin 8), s.fd.on = true →
  (∀ a b : Bool, ((s.enc n).a ≠ a ∨ (s.enc n).b ≠ b) → Completes (.quadratureEdge n a b) s (fun t =>
      t.enc n = { s.enc n with a := a, b := b } ∧ (∀ k, k ≠ n.val → t.enc k = s.enc k)
      ∧ (∀ k, k ≠ n.val → (s.wcCfg k).backup ≠ n.val → t.clock k = s.clock k)
      ∧ ((s.wcCfg n).backup ≠ n.val → (s.clock n).lost = false → (s.clock n).onBackup = false → (s.wcCfg n).expectDir = 0 →
          (t.clock n).x4 = (if (s.enc n).a ≠ a ∧ (s.enc n).b ≠ b then (s.clock n).x4
            else BitVec.ofInt 50 ((s.clock n).x4.toNat + quadStep (s.enc n).a (s.enc n).b a b)))
      ∧ t = { s with fd := t.fd, rep := t.rep, wc := t.wc, cue := t.cue }))
  ∧ Completes (.velocityUpdate n) s (fun t =>
      ((s.clock n).standstill = true ∨ (s.clock n).lost = true → (t.clock n).vel = 0)
      ∧ ((s.clock n).standstill = false → (s.clock n).lost = false →
          (t.clock n).vel = (if (s.clock n).velReset then (s.clock n).raw (s.wcCfg n) s.clk.field
            else (s.clock n).vel + ((s.clock n).raw (s.wcCfg n) s.clk.field - (s.clock n).vel) / ((2 ^ (s.wcCfg n).velFilter : Nat) : Rat)))
      ∧ (t.clock n).x4 = (s.clock n).x4 ∧ (∀ k, k ≠ n.val → t.clock k = s.clock k) ∧ t = { s with wc := t.wc })
  ∧ ((s.clock n).lost = false → Completes (.standstillTimeout n) s (fun t =>
      (t.clock n).standstill = true ∧ ((s.clock n).standstill = false → (t.clock n).vel = 0) ∧ (t.clock n).x4 = (s.clock n).x4
      ∧ (∀ k, k ≠ n.val → t.clock k = s.clock k) ∧ t = { s with fd := t.fd, rep := t.rep, wc := t.wc }))
  ∧ (s.answers → s.fieldWritable = true → (s.clock n).onBackup = true → (s.clock n).lost = false → (s.enc n).healthy = true →
      (s.enc n).okSince + 1000 * Config.psPerMs ≤ s.clk.field → Completes (.returnToPrimary n) s (fun t =>
      (t.clock n).onBackup = false ∧ (t.clock n).suspFail = false ∧ (t.clock n).x4 = (s.clock n).x4 ∧ t.out.resp = some .ok
      ∧ (∀ k, k ≠ n.val → t.clock k = s.clock k) ∧ t = { s with fd := t.fd, rep := t.rep, wc := t.wc, out := t.out }))
  ∧ (s.answers → s.fieldWritable = true → (s.clock n).lost = true →
      (s.enc (if (s.clock n).onBackup then (s.wcCfg n).backup else n)).healthy = true →
      (s.enc (if (s.clock n).onBackup then (s.wcCfg n).backup else n)).okSince + 100 * Config.psPerMs ≤ s.clk.field →
      Completes (.acknowledgeLost n) s (fun t =>
      (t.clock n).lost = false ∧ (t.clock n).standstill = true ∧ (t.clock n).vel = 0 ∧ (t.clock n).x4 = (s.clock n).x4
      ∧ ((s.clock n).mark ≠ .off → (t.clock n).mark = .seeking) ∧ t.out.resp = some .ok
      ∧ (∀ k, k ≠ n.val → t.clock k = s.clock k) ∧ t = { s with fd := t.fd, rep := t.rep, wc := t.wc, out := t.out }))

/-- The supply of the field die (02 R73; 03 R90; 01 R33; 19 R469). A field die that was off starts from its reset values, with its time at 0; undervoltage switches every output off and is counted, overvoltage switches every kicker off and is counted, and their ends clear the condition; below 12 V, or reversed, the field die loses its state, and the compute die reads VFIELD_SNS absent or reversed. -/
def Obligations.FieldSupply : Prop :=
  ∀ s : State,
  (s.fd.on = false → Completes .fieldDieStart s (fun t =>
      t.fd = {} ∧ t.wc = [] ∧ t.cue = {} ∧ t.clk = { s.clk with field := 0 } ∧ t.pwr.vfield = .normal ∧ t.pwr.fieldReversed = false
      ∧ t = { s with fd := t.fd, wc := t.wc, cue := t.cue, clk := t.clk, pwr := t.pwr }))
  ∧ (s.fd.on = true → s.fd.under = false → s.direct = true → Completes .vfieldUndervoltage s (fun t =>
      t.fd.under = true ∧ (∀ n, n < 8 → (t.kick n).on = false) ∧ (∀ k, (t.trg k).on = false)
      ∧ (∀ n, (t.kick n).latch = (s.kick n).latch) ∧ t.counter 0x2811 1 = satInc (s.counter 0x2811 1) ∧ t = { s with fd := t.fd, rep := t.rep }))
  ∧ Completes .vfieldUndervoltageRecover s (fun t => t.fd = { s.fd with under := false } ∧ t = { s with fd := t.fd })
  ∧ (s.fd.on = true → s.fd.overV = false → s.direct = true → Completes .vfieldOvervoltage s (fun t =>
      t.fd.overV = true ∧ (∀ n, n < 8 → (t.kick n).on = false) ∧ t.fd.trg = s.fd.trg
      ∧ (∀ n, (t.kick n).latch = (s.kick n).latch) ∧ t.counter 0x2811 2 = satInc (s.counter 0x2811 2) ∧ t = { s with fd := t.fd, rep := t.rep }))
  ∧ Completes .vfieldOvervoltageRecover s (fun t => t.fd = { s.fd with overV := false } ∧ t = { s with fd := t.fd })
  ∧ (s.fd.on = true → Completes .fieldDieReset s (fun t =>
      t.fd.on = false ∧ t.wc = [] ∧ t.cue = {} ∧ t.pwr.vfield = .absent ∧ t = { s with fd := t.fd, wc := t.wc, cue := t.cue, rep := t.rep, pwr := t.pwr }))
  ∧ Completes .vfieldReversed s (fun t =>
      t.fd.on = false ∧ t.pwr.vfield = .reversed ∧ t.pwr.fieldReversed = true
      ∧ t = { s with fd := t.fd, wc := t.wc, cue := t.cue, rep := t.rep, pwr := t.pwr })

/-- The cue table (02 R61, R63). At the crossing of a group's first trigger, which is ARMED, the admission test decides: every cue of the group becomes LIVE and the trigger fires, or SUPPRESSED and nothing fires. A LIVE trigger fires, a SUPPRESSED one does not; a LIVE kick acts on its verdict, PENDING taken as UNSEEN, any other kick as UNSEEN, but one that is crossed with its group's first trigger acts after it. A crossed cue is freed, counted once and reported. A cue that expires is freed, counted and reported; an expired trigger does nothing, an expired kick takes EXPIRE_ACTION; a crossing in the same cycle is taken instead. -/
def Obligations.CueCrossingAndExpiry : Prop :=
  ∀ (s : State) (e : Fin 8192), s.fd.on = true → s.direct = true →
  let c := s.cueAt e
  let w := c.word
  let n := cueOut w
  let freed (t : State) (b : Bool) := t.cueAt e = { c with st := .free, ahead := false, wasCrossed := b }
  let kept (t : State) := ∀ f, f ≠ e.val → t.cueAt f = s.cueAt f
  let fires := s.trgEnabled n = true ∧ (s.trg n).shorted = false ∧ s.fd.under = false
  let framed (t : State) := t = { s with fd := t.fd, rep := t.rep, cue := t.cue }
  let kicked (t : State) := (t.kick n).on = true ∧ (t.kick n).kicks = (s.kick n).kicks ++ [cueWc w]
  let verdict := if c.st = .live ∧ cueVerdict w ≠ 0 then cueVerdict w else 3
  (s.cueDue e = true → c.st = .armed → cueKind w = 0 → Completes (.cueCrossing e) s (fun t =>
      let ok := s.spacingOk (cueStation w)
      freed t true ∧ (∀ f, f ≠ e.val → t.cueAt f = if (s.cueAt f).st = .armed ∧ sameGroup (s.cueAt f).word w = true then { s.cueAt f with st := if ok then .live else .suppressed } else s.cueAt f)
      ∧ (ok = true → (fires → (t.trg n).on = true) ∧ (∀ k, k ≠ n → t.trg k = s.trg k) ∧ t.fd.txq = s.fd.txq ++ [.cueResult e cueCrossed])
      ∧ (ok = false → t.fd.trg = s.fd.trg ∧ t.fd.txq = s.fd.txq ++ [.cueResult e cueSuppressed] ∧ Counted s t [key 0x2829 (cueStation w + 1), key 0x2828 1])
      ∧ t.counter 0x2828 1 = satInc (s.counter 0x2828 1) ∧ framed t))
  ∧ (s.cueDue e = true → c.st = .live → cueKind w = 0 → Completes (.cueCrossing e) s (fun t =>
      freed t true ∧ kept t ∧ (fires → (t.trg n).on = true) ∧ (∀ k, k ≠ n → t.trg k = s.trg k)
      ∧ t.counter 0x2828 1 = satInc (s.counter 0x2828 1) ∧ t.fd.txq = s.fd.txq ++ [.cueResult e cueCrossed] ∧ framed t))
  ∧ (s.cueDue e = true → c.st = .suppressed → cueKind w = 0 → Completes (.cueCrossing e) s (fun t =>
      freed t true ∧ kept t ∧ t.fd.trg = s.fd.trg ∧ Counted s t [key 0x2828 1] ∧ t.fd.txq = s.fd.txq ++ [.cueResult e cueSuppressed] ∧ framed t))
  ∧ (s.cueDue e = true → cueKind w = 1 → (c.st = .armed → ∀ x, s.firstTrigger w = some x → s.cueDue x = false) → Completes (.cueCrossing e) s (fun t =>
      freed t true ∧ kept t ∧ (s.kickAction n verdict = 1 → s.kickDrives n = true → kicked t) ∧ (s.kickAction n verdict ≠ 1 → t.fd.kck = s.fd.kck ∧ Counted s t [key 0x2828 1, key 0x2800 (verdictSub verdict)])
      ∧ t.fd.trg = s.fd.trg ∧ (n < 8 → t.counter 0x2828 1 = satInc (s.counter 0x2828 1)) ∧ t.fd.txq = s.fd.txq ++ [.cueResult e (if c.st = .live then cueCrossed else cueSuppressed)] ∧ framed t))
  ∧ (∀ x : Fin 8192, s.cueDue e = true → cueKind w = 1 → c.st = .armed → s.firstTrigger w = some x.val → s.cueDue x = true →
      (s.cueAt x).st = .armed → cueKind (s.cueAt x).word = 0 → sameGroup (s.cueAt x).word w = true →
      ∃ u, exec (.cueCrossing x) s = .next u ∧ exec (.cueCrossing e) s = exec (.cueCrossing e) u ∧ (u.cueAt e).st = (if s.spacingOk (cueStation w) then .live else .suppressed))
  ∧ (c.st ≠ .free → s.cueDue e = false → before 32 s.fieldUs (cueExpiry w) = false → Completes (.cueExpiry e) s (fun t =>
      freed t false ∧ kept t ∧ t.fd.trg = s.fd.trg ∧ (n < 8 → t.counter 0x2828 2 = satInc (s.counter 0x2828 2))
      ∧ (cueKind w ≠ 1 → t.fd.kck = s.fd.kck ∧ Counted s t [key 0x2828 2])
      ∧ (cueKind w = 1 → s.fnum (0x2600 + n) 5 0 ≠ 1 → t.fd.kck = s.fd.kck) ∧ (cueKind w = 1 → s.fnum (0x2600 + n) 5 0 = 1 → s.kickDrives n = true → kicked t)
      ∧ t.fd.txq = s.fd.txq ++ [.cueResult e cueExpired] ∧ framed t))
  ∧ (s.cueDue e = true → before 32 s.fieldUs (cueExpiry w) = false → exec (.cueExpiry e) s = exec (.cueCrossing e) s)
  ∧ (before 32 s.fieldUs (cueExpiry w) = true → Completes (.cueExpiry e) s (fun t => t = s))
  ∧ (s.cueDue e = false → Completes (.cueCrossing e) s (fun t => t = s))

/-- Writes of DECODE, of the impression length and of the mark-lock settings (02 R47-R49, R70), on a field die that takes the write. A new DECODE, with no cue of the clock ARMED or LIVE, rescales the clock: its turning point is its position, mark lock seeks anew and the next slot carries JUMP; a length takes effect at once on a clock that has not moved and otherwise waits for the next forward boundary; a mark-lock setting is kept. -/
def Obligations.WebClockWrites : Prop :=
  ∀ (s : State) (n : Fin 8), s.answers → s.fieldWritable = true →
  (∀ v : BitVec 8, (v = 1 ∨ v = 2 ∨ v = 4) → s.cuesActive n = false → (s.wcCfg n).decode ≠ v.toNat → Completes (.decodeWrite n v) s (fun t =>
      t.fnum (0x2100 + n.val) 2 4 = v.toNat ∧ t.out.resp = some .ok ∧ (t.clock n).x4 = (s.clock n).x4 ∧ (t.clock n).jump = true
      ∧ (t.clock n).turn = posOf v.toNat (s.clock n).x4 ∧ ((s.clock n).mark = .locked → (t.clock n).mark = .seeking)
      ∧ (∀ k, k ≠ n.val → t.clock k = s.clock k) ∧ t = { s with fd := t.fd, od := t.od, wc := t.wc, cue := t.cue, out := t.out }))
  ∧ (∀ v : BitVec 32, 1 ≤ v.toNat → v.toNat ≤ 16777216 →
      ((s.wcCfg n).markPe = 0xFF ∨ markRule (s.wcCfg n).markPhase (s.wcCfg n).markWindow v.toNat = true) → Completes (.impressionLenWrite n v) s (fun t =>
      t.fnum (0x2100 + n.val) 4 8192 = v.toNat ∧ t.out.resp = some .ok
      ∧ ((s.clock n).touched = false → (t.clock n).len = v.toNat ∧ (t.clock n).lenPend = none)
      ∧ ((s.clock n).touched = true → (t.clock n).len = (s.clock n).len ∧ (t.clock n).lenPend = if v.toNat = (s.clock n).len then none else some v.toNat)
      ∧ (t.clock n).phase = (s.clock n).phase ∧ (∀ k, k ≠ n.val → t.clock k = s.clock k)
      ∧ t = { s with fd := t.fd, od := t.od, wc := t.wc, out := t.out }))
  ∧ (∀ v : BitVec 32, s.markRuleOk n (s.wcCfg n).markPhase (s.wcCfg n).markWindow = true → v.toNat ≤ 15 → Completes (.markConfigWrite n .pe v) s (fun t =>
      t.fnum (0x2100 + n.val) 0x0C 0xFF = v.toNat ∧ t.out.resp = some .ok
      ∧ ((s.wcCfg n).enable = true → v.toNat ≠ (s.wcCfg n).markPe → (t.clock n).mark = .seeking)
      ∧ (∀ k, k ≠ n.val → t.clock k = s.clock k) ∧ t = { s with fd := t.fd, od := t.od, wc := t.wc, out := t.out }))
  ∧ (∀ v : BitVec 32, ((s.wcCfg n).markPe = 0xFF ∨ s.markRuleOk n v.toNat (s.wcCfg n).markWindow = true) → Completes (.markConfigWrite n .phase v) s (fun t =>
      t.fnum (0x2100 + n.val) 0x0E 0 = v.toNat ∧ t.out.resp = some .ok ∧ t = { s with fd := t.fd, od := t.od, out := t.out }))
  ∧ (∀ v : BitVec 32, ((s.wcCfg n).markPe = 0xFF ∨ s.markRuleOk n (s.wcCfg n).markPhase v.toNat = true) → Completes (.markConfigWrite n .window v) s (fun t =>
      t.fnum (0x2100 + n.val) 0x0F 0 = v.toNat ∧ t.out.resp = some .ok ∧ t = { s with fd := t.fd, od := t.od, out := t.out }))

/-- Photo-eyes, the acceleration check and the speed ceilings (02 R45, R68; 03 R78). An accepted photo-eye level is kept and, a microsecond or more after the last one forwarded, sent across the Field Link with the field die's time; the acceleration check takes the filtered velocity as the next one to compare with and counts a change above the limit; a recomputation never raises a published ceiling, and one that has been higher for RAISE_HOLD_MS is published. -/
def Obligations.PhotoEyesAndCeilings : Prop :=
  ∀ s : State,
  (∀ (k : Fin 16) (level : Bool), s.fd.on = true → (s.eye k).level ≠ level → s.direct = true →
    (∀ at_, (s.eye k).lastFwd = some at_ → at_ + Config.psPerUs ≤ s.clk.field) →
    Completes (.peEdge k level) s (fun t =>
      t.eye k = { s.eye k with level := level, lastFwd := some s.clk.field, fwdLevel := level } ∧ (∀ j, j ≠ k.val → t.eye j = s.eye j)
      ∧ t.fd.txq = s.fd.txq ++ [.peEdge k level s.fieldUs] ∧ t = { s with fd := t.fd, rep := t.rep, wc := t.wc }))
  ∧ (∀ n : Fin 8, s.fd.on = true → Completes (.accelerationCheck n) s (fun t =>
      t.clock n = { s.clock n with velMs := (s.clock n).vel } ∧ (∀ k, k ≠ n.val → t.clock k = s.clock k)
      ∧ (∀ a, s.accelLimit n = some a → s.direct = true → (s.wcCfg n).enable = true →
          ((a : Rat) < ((s.clock n).vel - (s.clock n).velMs) * 1000 ∨ (a : Rat) < ((s.clock n).velMs - (s.clock n).vel) * 1000) →
          Counted s t [key (0x2820 + n.val) 0x0B])
      ∧ t = { s with fd := t.fd, rep := t.rep, wc := t.wc }))
  ∧ (s.computeRuns = true → Completes .ceilingRecompute s (fun t =>
      (∀ w, (t.ceil w).value ≤ (s.ceil w).value) ∧ (t.ceil 0).value = min (s.ceil 0).value (s.ceilingOf 0).1
      ∧ t = { s with rs := t.rs, rep := t.rep, link := t.link }))
  ∧ (∀ (w : Fin 8) (v : Nat), s.computeRuns = true → (s.ceil w).higher = some v →
      (s.ceil w).since + s.num 0x2110 0x12 1000 * Config.psPerMs ≤ s.clk.ref → Completes (.ceilingRaisePublish w) s (fun t =>
      (t.ceil w).value = v ∧ (t.ceil w).higher = none ∧ (∀ u, u ≠ w.val → t.ceil u = s.ceil u)
      ∧ t = { s with rs := t.rs, link := t.link }))

/-- Trigger outputs and the CAN line side (03 R80, R86). A pulse that ends switches its output off; an overload latches an output off and is counted in 2814h; a shorted CAN line disables its transmitter, is counted, and takes the port out of LONELY; its clear and a cut-off of a dominant request touch that line alone. -/
def Obligations.TriggersAndCanLines : Prop :=
  ∀ s : State,
  (∀ k : Fin 32, Completes (.triggerPulseEnd k) s (fun t =>
      t.trg k = { s.trg k with on := false, until_ := 0 } ∧ (∀ j, j ≠ k.val → t.trg j = s.trg j)
      ∧ t.fd = { s.fd with trg := t.fd.trg } ∧ t = { s with fd := t.fd }))
  ∧ (∀ k : Fin 32, s.fd.on = true → s.trgEnabled k = true → (s.trg k).shorted = false → s.fd.under = false → s.direct = true →
    Completes (.triggerShortTrip k) s (fun t =>
      t.trg k = { s.trg k with on := false, shorted := true, until_ := 0 } ∧ (∀ j, j ≠ k.val → t.trg j = s.trg j)
      ∧ Counted s t [key 0x2814 (k.val + 1)] ∧ t.fd = { s.fd with trg := t.fd.trg } ∧ t = { s with fd := t.fd, rep := t.rep }))
  ∧ (∀ p : Fin 2, s.fd.on = true → (s.canWire p).short = false → s.direct = true →
    Completes (.canLineShort p) s (fun t =>
      t.canWire p = { s.canWire p with short := true } ∧ (∀ q, q ≠ p.val → t.canWire q = s.canWire q)
      ∧ t.port p = { s.port p with lonely := 0, isLonely := false } ∧ (∀ q, q ≠ p.val → t.port q = s.port q)
      ∧ Counted s t [key 0x281D (1 + p.val)] ∧ t.fd = { s.fd with canLine := t.fd.canLine } ∧ t = { s with fd := t.fd, rep := t.rep, can := t.can }))
  ∧ (∀ p : Fin 2, Completes (.canLineShortClear p) s (fun t =>
      t.canWire p = { s.canWire p with short := false } ∧ (∀ q, q ≠ p.val → t.canWire q = s.canWire q)
      ∧ t.fd = { s.fd with canLine := t.fd.canLine } ∧ t = { s with fd := t.fd }))
  ∧ (∀ p : Fin 2, s.fd.on = true → s.direct = true → Completes (.dominantCutoff p) s (fun t =>
      t.canWire p = { s.canWire p with cut := true } ∧ (∀ q, q ≠ p.val → t.canWire q = s.canWire q)
      ∧ Counted s t [key 0x281D (3 + p.val)] ∧ t.fd = { s.fd with canLine := t.fd.canLine } ∧ t = { s with fd := t.fd, rep := t.rep }))

/-- Encoder lines (02 R41, R53; 03 R76, R77). A probe runs on a line of an RS-422 encoder; a check that fails flags the line OPEN or SHORT, counts it once where an enabled clock uses the encoder, and ends the probe, an HTL encoder never being flagged SHORT; a clear removes that line's flag; a change of Z is taken by its encoder, and a marker edge starts a new count of forward ticks. -/
def Obligations.EncoderLines : Prop :=
  ∀ (s : State) (m : Fin 8), s.fd.on = true →
  (∀ l : EncLine, s.encMode m ≠ 2 → Completes (.encoderProbe m l) s (fun t =>
      t.enc m = { s.enc m with probe := (s.enc m).probe.put (encLineIndex l) true } ∧ (∀ k, k ≠ m.val → t.enc k = s.enc k)
      ∧ t.fd = { s.fd with enc := t.fd.enc } ∧ t = { s with fd := t.fd }))
  ∧ (∀ (l : EncLine) (short : Bool), ¬ (s.encMode m = 2 ∧ short = true) →
    Completes (.encoderFaultFlag m l short) s (fun t =>
      t.enc m = { (s.enc m).setFlag l (if short then .short else .open_) with probe := (s.enc m).probe.put (encLineIndex l) false }
      ∧ (∀ k, k ≠ m.val → t.enc k = s.enc k) ∧ t = { s with fd := t.fd, rep := t.rep, wc := t.wc }))
  ∧ (∀ l : EncLine, Completes (.encoderFlagClear m l) s (fun t =>
      (t.enc m).flag l = .ok ∧ (∀ k, k ≠ l → (t.enc m).flag k = (s.enc m).flag k) ∧ (∀ k, k ≠ m.val → t.enc k = s.enc k)
      ∧ (t.enc m).a = (s.enc m).a ∧ (t.enc m).b = (s.enc m).b ∧ (t.enc m).z = (s.enc m).z
      ∧ t.fd = { s.fd with enc := t.fd.enc } ∧ t = { s with fd := t.fd }))
  ∧ (∀ level : Bool, (s.enc m).z ≠ level → Completes (.zMarkerEdge m level) s (fun t =>
      t.enc m = { s.enc m with z := level } ∧ (∀ k, k ≠ m.val → t.enc k = s.enc k) ∧ (∀ k, k ≠ m.val → t.clock k = s.clock k)
      ∧ t.clock m = (if level = (s.clock m).zInv then s.clock m else ((s.clock m).marker (s.wcCfg m)).1)
      ∧ ((s.clock m).zInv = false → level = true → (t.clock m).zTicks = 0 ∧ (t.clock m).zSeen = true)
      ∧ t = { s with fd := t.fd, rep := t.rep, wc := t.wc }))

/-- Kicker currents, trips and retries (03 R82-R85). A running kick that ends takes its measured current, goes off and is judged for an open load; a trip switches the output off and latches it with its retry count at 0; a retry pulse starts in LATCHED alone, and its judgement clears the latch or counts a failed retry, the 16th of which holds the output off. -/
def Obligations.KickerTripsAndRetries : Prop :=
  (∀ (s : State) (n : Fin 8) (mean tail : Nat), (s.kick n).on = true → s.direct = true →
    Completes (.kickPulseEnd n mean tail) s (fun t =>
      let openOn := bit (s.fnum (0x2600 + n.val) 6 3) 1 && decide (tail < 20)
      t.kick n = { s.kick n with on := false, kicks := [], pulse := false, kickOn := false, until_ := 0, lastMa := mean
                                 openOn := openOn || (decide (tail < 20) && (s.kick n).openOn) }
      ∧ (∀ m, m ≠ n.val → t.kick m = s.kick m)
      ∧ Counted s t (if openOn && !(s.kick n).openOn then [key (0x2815 + n.val) 7] else [])
      ∧ t.fd = { s.fd with kck := t.fd.kck } ∧ t = { s with fd := t.fd, rep := t.rep })
    ∧ Completes (.maxOnCutoff n mean tail) s (fun t =>
      let openOn := bit (s.fnum (0x2600 + n.val) 6 3) 1 && decide (tail < 20)
      (t.kick n).on = false ∧ (t.kick n).kicks = [] ∧ (t.kick n).lastMa = mean
      ∧ (∀ m, m ≠ n.val → t.kick m = s.kick m)
      ∧ Counted s t (key (0x2815 + n.val) 0x0A :: if openOn && !(s.kick n).openOn then [key (0x2815 + n.val) 7] else [])
      ∧ t.fd = { s.fd with kck := t.fd.kck } ∧ t = { s with fd := t.fd, rep := t.rep }))
  ∧ (∀ (s : State) (n : Fin 8) (kind : TripKind), (s.kick n).on = true → (s.kick n).pulse = false →
    Completes (.kickerTrip n kind) s (fun t =>
      (t.kick n).on = false ∧ (t.kick n).kicks = [] ∧ (t.kick n).latch = true ∧ (t.kick n).held = false ∧ (t.kick n).retries = 0
      ∧ (∀ w, w ∈ (s.kick n).kicks → w ∈ (t.kick n).undeliv)
      ∧ (∀ m, m ≠ n.val → t.kick m = s.kick m)
      ∧ t = { s with fd := t.fd, rep := t.rep }))
  ∧ (∀ (s : State) (n : Fin 8), s.kickState n = 3 → (s.kick n).pulse = false → s.fd.on = true → s.fd.under = false → s.fd.overV = false →
    Completes (.kickerRetryDue n) s (fun t =>
      t.kick n = { s.kick n with pulse := true } ∧ (∀ m, m ≠ n.val → t.kick m = s.kick m)
      ∧ Counted s t [] ∧ t.fd = { s.fd with kck := t.fd.kck } ∧ t = { s with fd := t.fd, rep := t.rep }))
  ∧ (∀ (s : State) (n : Fin 8) (limit over50 : Bool), (s.kick n).pulse = true → s.direct = true →
    Completes (.kickerRetryJudge n limit over50) s (fun t =>
      (t.kick n).pulse = false ∧ (∀ m, m ≠ n.val → t.kick m = s.kick m)
      ∧ (limit = false ∧ over50 = false →
          (t.kick n).latch = false ∧ (t.kick n).held = false ∧ (t.kick n).retries = 0 ∧ (t.kick n).on = (s.kick n).on ∧ Counted s t [])
      ∧ (limit = true ∨ over50 = true →
          (t.kick n).on = false ∧ (t.kick n).latch = (s.kick n).latch
          ∧ ((s.kick n).held = false → (t.kick n).retries = (s.kick n).retries + 1 ∧ (t.kick n).held = decide (16 ≤ (s.kick n).retries + 1))
          ∧ ((s.kick n).held = true → (t.kick n).retries = (s.kick n).retries ∧ (t.kick n).held = true)
          ∧ t.counter (0x2815 + n.val) 5 = satInc (s.counter (0x2815 + n.val) 5))
      ∧ t = { s with fd := t.fd, rep := t.rep }))

/-- Kicker flags (03 Table 3-2, R83-R85). A short to VFIELD, an over-temperature and an open load of an off output each set their flag and are counted; the clear of each clears its flag alone, so that a latch held comes back; over-temperature switches the output off. -/
def Obligations.KickerFlags : Prop :=
  ∀ (s : State) (n : Fin 8),
  (s.kickEnabled n = true → (s.kick n).on = false → (s.kick n).pulse = false → s.direct = true →
    ((s.kick n).svf = false → Completes (.kickerShortVf n) s (fun t =>
        t.kick n = { s.kick n with svf := true } ∧ Counted s t [key (0x2815 + n.val) 8]
        ∧ (∀ m, m ≠ n.val → t.kick m = s.kick m) ∧ t.fd = { s.fd with kck := t.fd.kck } ∧ t = { s with fd := t.fd, rep := t.rep }))
    ∧ ((s.kick n).openOff = false → bit (s.fnum (0x2600 + n.val) 6 3) 0 = true → Completes (.openOffDetect n) s (fun t =>
        t.kick n = { s.kick n with openOff := true } ∧ Counted s t [key (0x2815 + n.val) 6]
        ∧ (∀ m, m ≠ n.val → t.kick m = s.kick m) ∧ t.fd = { s.fd with kck := t.fd.kck } ∧ t = { s with fd := t.fd, rep := t.rep })))
  ∧ ((s.kick n).hot = false → s.kickEnabled n = true → s.direct = true → Completes (.kickerThermal n) s (fun t =>
        (t.kick n).hot = true ∧ (t.kick n).on = false ∧ (t.kick n).kicks = [] ∧ (t.kick n).latch = (s.kick n).latch ∧ (t.kick n).retries = (s.kick n).retries
        ∧ t.counter (0x2815 + n.val) 9 = satInc (s.counter (0x2815 + n.val) 9)
        ∧ (∀ m, m ≠ n.val → t.kick m = s.kick m) ∧ t = { s with fd := t.fd, rep := t.rep }))
  ∧ Completes (.kickerShortVfClear n) s (fun t =>
        t.kick n = { s.kick n with svf := false } ∧ Counted s t []
        ∧ (∀ m, m ≠ n.val → t.kick m = s.kick m) ∧ t.fd = { s.fd with kck := t.fd.kck } ∧ t = { s with fd := t.fd, rep := t.rep })
  ∧ Completes (.kickerThermalClear n) s (fun t =>
        t.kick n = { s.kick n with hot := false } ∧ Counted s t []
        ∧ (∀ m, m ≠ n.val → t.kick m = s.kick m) ∧ t.fd = { s.fd with kck := t.fd.kck } ∧ t = { s with fd := t.fd, rep := t.rep })
  ∧ Completes (.openOffClear n) s (fun t =>
        t.kick n = { s.kick n with openOff := false } ∧ Counted s t []
        ∧ (∀ m, m ≠ n.val → t.kick m = s.kick m) ∧ t.fd = { s.fd with kck := t.fd.kck } ∧ t = { s with fd := t.fd, rep := t.rep })

/-- Kicker commands and trigger retries (03 R80, R83-R85), on a field die that takes the write and a P1 that answers. COMMAND 1 starts a retry pulse in LATCHED or HELD_OFF; COMMAND 2 clears OPEN_ON; a write of ENABLE takes effect, and 0 switches the output off and clears its flags but keeps a latch; a 1 in the retry mask re-enables that trigger output and no other. -/
def Obligations.KickerAndTriggerCommands : Prop :=
  ∀ s : State, s.answers → s.fieldWritable = true →
  (∀ n : Fin 8, (s.kickState n = 3 ∨ s.kickState n = 4) → (s.kick n).pulse = false → s.fd.under = false → s.fd.overV = false →
    Completes (.kickerRetryNow n) s (fun t =>
      t.kick n = { s.kick n with pulse := true } ∧ t.out.resp = some .ok
      ∧ (∀ m, m ≠ n.val → t.kick m = s.kick m) ∧ t.fd = { s.fd with kck := t.fd.kck } ∧ t = { s with fd := t.fd, rep := t.rep, out := t.out }))
  ∧ (∀ n : Fin 8, Completes (.clearOpenOn n) s (fun t =>
      t.kick n = { s.kick n with openOn := false } ∧ t.out.resp = some .ok
      ∧ (∀ m, m ≠ n.val → t.kick m = s.kick m) ∧ t.fd = { s.fd with kck := t.fd.kck } ∧ t = { s with fd := t.fd, rep := t.rep, out := t.out }))
  ∧ (∀ (n : Fin 8) (v : BitVec 8), v.toNat ≤ 1 → Completes (.kickerEnableWrite n v) s (fun t =>
      t.fnum (0x2600 + n.val) 1 0 = v.toNat ∧ t.num (0x2600 + n.val) 1 0 = v.toNat ∧ t.out.resp = some .ok
      ∧ t.kick n = (if v = 0 then { s.kick n with on := false, kicks := [], pulse := false, kickOn := false, svf := false, openOff := false, openOn := false } else s.kick n)
      ∧ (∀ m, m ≠ n.val → t.kick m = s.kick m)
      ∧ t.fd = { s.fd with kck := t.fd.kck, cfg := t.fd.cfg } ∧ t = { s with fd := t.fd, rep := t.rep, out := t.out, od := t.od }))
  ∧ (∀ mask : BitVec 32, Completes (.triggerRetry mask) s (fun t =>
      (∀ k, t.trg k = { s.trg k with shorted := (s.trg k).shorted && !bit mask.toNat k }) ∧ t.out.resp = some .ok
      ∧ t.fd = { s.fd with trg := t.fd.trg } ∧ t = { s with fd := t.fd, out := t.out }))

/-- States of an intake channel (04 R105, R126-R128, R131). A whole configuration starts an OFF channel, whose start-up check leaves it STARTING or FAILED; ENABLE = 0 turns it OFF; lanes seen in stop state are no longer stuck, and the last one makes it READY; lanes that stay away are stuck; the deskew sequence is noted; a failure counts once, and only a FAILED channel can be reset; a passed reset makes it READY. -/
def Obligations.IntakeStates : Prop :=
  ∀ (s : State) (n : Fin 16),
  (s.answers → s.icn n 1 = 0 → s.enableFault n = none → Completes (.channelEnable n true) s (fun t =>
      t.icn n 1 = 1 ∧ t.intake n = { s.intake n with state := .starting, stuck := 0, deskewed := false, buf := 0, ackPend := false }
      ∧ (∀ k, k ≠ n.val → t.intake k = s.intake k) ∧ t.out.resp = some .ok ∧ t = { s with od := t.od, ic := t.ic, isp := t.isp, out := t.out }))
  ∧ (s.answers → s.icn n 1 = 0 → s.enableFault n = none → (s.intake n).frame = none → (s.intake n).exps = [] → Completes (.channelEnable n false) s (fun t =>
      t.icn n 1 = 1 ∧ (t.intake n).state = .failed ∧ Counted s t [key (0x2830 + n.val) 0x18] ∧ (∀ k, k ≠ n.val → t.intake k = s.intake k)
      ∧ t = { s with od := t.od, ic := t.ic, isp := t.isp, rep := t.rep, out := t.out }))
  ∧ (s.answers → s.icn n 1 ≠ 0 → (s.intake n).frame = none → (s.intake n).exps = [] → Completes (.channelDisable n) s (fun t =>
      t.icn n 1 = 0 ∧ t.intake n = { s.intake n with state := .off, stuck := 0, deskewed := false, resetting := false } ∧ (∀ k, k ≠ n.val → t.intake k = s.intake k)
      ∧ t.out.resp = some .ok ∧ t = { s with od := t.od, ic := t.ic, out := t.out }))
  ∧ (∀ l : BitVec 5, s.computeRuns = true → Completes (.laneStopState n l) s (fun t =>
      (t.intake n).stuck = (s.intake n).stuck &&& ~~~l
      ∧ (t.intake n).state = (if (s.intake n).state = .starting ∧ (BitVec.ofNat 5 (s.lanesUsed n) &&& ~~~l) = 0 then .ready else (s.intake n).state)
      ∧ (∀ k, k ≠ n.val → t.intake k = s.intake k) ∧ t = { s with ic := t.ic }))
  ∧ (∀ l : BitVec 5, s.computeRuns = true → (s.intake n).state = .starting → l &&& BitVec.ofNat 5 (s.lanesUsed n) &&& ~~~(s.intake n).stuck ≠ 0 → Completes (.laneStopTimeout n l) s (fun t =>
      t.intake n = { s.intake n with stuck := (s.intake n).stuck ||| (l &&& BitVec.ofNat 5 (s.lanesUsed n) &&& ~~~(s.intake n).stuck) }
      ∧ (∀ k, k ≠ n.val → t.intake k = s.intake k) ∧ t = { s with ic := t.ic, rep := t.rep }))
  ∧ (s.computeRuns = true → (s.intake n).live = true → s.icn n 2 = 0 → Completes (.deskewSequence n) s (fun t =>
      t.intake n = { s.intake n with deskewed := true } ∧ (∀ k, k ≠ n.val → t.intake k = s.intake k) ∧ t = { s with ic := t.ic }))
  ∧ (∀ f : ChanFault, s.computeRuns = true → (s.intake n).live = true → (s.intake n).frame = none → (s.intake n).exps = [] → Completes (.channelFailure n f) s (fun t =>
      t.intake n = { s.intake n with state := .failed } ∧ Counted s t [key (0x2830 + n.val) 0x18] ∧ (∀ k, k ≠ n.val → t.intake k = s.intake k)
      ∧ t = { s with ic := t.ic, rep := t.rep }))
  ∧ (s.answers → (s.intake n).state = .failed → Completes (.channelReset n) s (fun t =>
      t.intake n = { s.intake n with resetting := true } ∧ (∀ k, k ≠ n.val → t.intake k = s.intake k) ∧ t.out.resp = some .ok ∧ t = { s with ic := t.ic, out := t.out }))
  ∧ (s.answers → (s.intake n).state ≠ .failed → Completes (.channelReset n) s (fun t => t.out.resp = some (.abort 0x08000020) ∧ t = { s with out := t.out }))
  ∧ (∀ b : Bool, s.computeRuns = true → (s.intake n).resetting = true → (s.intake n).cciRun = none → Completes (.channelResetComplete n b) s (fun t =>
      t.intake n = { s.intake n with resetting := false, deskewed := false, buf := 0, state := if b then .ready else (s.intake n).state }
      ∧ (∀ k, k ≠ n.val → t.intake k = s.intake k) ∧ t = { s with ic := t.ic, rep := t.rep }))

/-- The XTRIG input and output of an intake channel (04 R119, R120). An edge of ACK captures the position and the microsecond count and marks the oldest expectation that waits for it, or is held for the next one; a write of the pulse register sets the width and the period and fires at once where asked; the period fires again. -/
def Obligations.IntakeXtrig : Prop :=
  ∀ (s : State) (n : Fin 16), s.computeRuns = true →
  (s.icn n 0x14 = 1 → Completes (.xtrigAckEdge n) s (fun t =>
      (t.intake n).cap = (s.viewAt (s.stClock (s.channelOwner n))).pos ∧ (t.intake n).capTime = BitVec.ofNat 32 s.us32
      ∧ ((∀ e ∈ (s.intake n).exps, e.ack = true ∨ e.paired = true) → (t.intake n).ackPend = true ∧ (t.intake n).exps = (s.intake n).exps)
      ∧ (∀ e r, (s.intake n).exps = e :: r → e.ack = false → e.paired = false → (t.intake n).exps = { e with ack := true } :: r ∧ (t.intake n).ackPend = (s.intake n).ackPend)
      ∧ (∀ k, k ≠ n.val → t.intake k = s.intake k) ∧ t = { s with ic := t.ic }))
  ∧ (∀ w : BitVec 32, bit w.toNat 31 = false → Completes (.xtrigPulse n w) s (fun t =>
      t.intake n = { s.intake n with xtPeriod := bits w.toNat 16 15, xtWidth := bits w.toNat 0 16 } ∧ (∀ k, k ≠ n.val → t.intake k = s.intake k) ∧ t = { s with ic := t.ic }))
  ∧ (∀ w : BitVec 32, bit w.toNat 31 = true → s.icn n 0x14 = 2 → (s.intake n).live = true → (s.intake n).exps.length < 4 → Completes (.xtrigPulse n w) s (fun t =>
      (t.intake n).xtUntil = s.clk.ref + bits w.toNat 0 16 * Config.psPerUs
      ∧ (t.intake n).exps = (s.intake n).exps ++ [{ test := true, opened := s.clk.ref, ack := (s.intake n).ackPend }] ∧ (t.intake n).ackPend = false
      ∧ (∀ k, k ≠ n.val → t.intake k = s.intake k) ∧ t = { s with ic := t.ic }))
  ∧ (s.icn n 0x14 = 2 → (s.intake n).xtPeriod ≠ 0 → (s.intake n).live = true → (s.intake n).exps.length < 4 → Completes (.xtrigPeriod n) s (fun t =>
      t.intake n = { s.intake n with xtUntil := s.clk.ref + (s.intake n).xtWidth * Config.psPerUs, ackPend := false, exps := (s.intake n).exps ++ [{ test := true, opened := s.clk.ref, ack := (s.intake n).ackPend }] }
      ∧ (∀ k, k ≠ n.val → t.intake k = s.intake k) ∧ t = { s with ic := t.ic }))

/-- The serial ports of an intake channel (04 R121-R125, R128). A word joins the SCP queue of 64, or sets SCP_OVF; the oldest word that is not held goes out, and a read's result joins the receive queue; a command joins the CCI queue and clears the halt; the oldest that is not held starts; a refused or overlong one is counted, posts its result, and empties the queue behind it; the receive queues are read oldest first and read 0 when empty; a flush empties all four. -/
def Obligations.IntakeSerial : Prop :=
  ∀ (s : State) (n : Fin 16), s.computeRuns = true →
  (∀ w : BitVec 64, Completes (.scpTxWrite n w) s (fun t =>
      t.intake n = (if 64 ≤ (s.intake n).scpTx.length then { s.intake n with scpOvf := true }
        else { s.intake n with scpTx := (s.intake n).scpTx ++ [{ word := w.toNat, held := bit w.toNat 63 }] })
      ∧ (∀ k, k ≠ n.val → t.intake k = s.intake k) ∧ t = { s with ic := t.ic }))
  ∧ (∀ e r, (s.intake n).scpTx = e :: r → (s.intake n).scpRun = none → e.held = false → Completes (.scpWordStart n) s (fun t =>
      t.intake n = { s.intake n with scpTx := r, scpRun := some (e.word % (if s.icn n 0x15 = 0 then 2 ^ 16 else 2 ^ 32)) } ∧ t = { s with ic := t.ic }))
  ∧ (∀ (w : Nat) (d : BitVec 16), (s.intake n).scpRun = some w → s.icn n 0x15 = 0 → Completes (.scpWordComplete n d) s (fun t =>
      t.intake n = { s.intake n with scpRun := none, scpRx := if bit w 15 = true ∧ (s.intake n).scpRx.length < 64 then (s.intake n).scpRx ++ [BitVec.ofNat 32 (2 ^ 31 + bits w 8 7 * 2 ^ 16 + d.toNat % 256)] else (s.intake n).scpRx }
      ∧ t = { s with ic := t.ic }))
  ∧ (∀ x r, (s.intake n).scpRx = x :: r → Completes (.scpRxRead n) s (fun t =>
      t.intake n = { s.intake n with scpRx := r } ∧ t.out.rdata = leBytes 4 x.toNat ∧ t.out.err = false ∧ t = { s with ic := t.ic, out := t.out }))
  ∧ ((s.intake n).scpRx = [] → Completes (.scpRxRead n) s (fun t => t = { s with out := { s.out with rdata := [0, 0, 0, 0], err := false } }))
  ∧ (∀ w : BitVec 64, Completes (.cciCmdWrite n w) s (fun t =>
      t.intake n = { s.intake n with cciHalt := false, cciTx := if (s.intake n).cciTx.length < 64 then (s.intake n).cciTx ++ [{ word := w.toNat, held := bit w.toNat 63 }] else (s.intake n).cciTx }
      ∧ (∀ k, k ≠ n.val → t.intake k = s.intake k) ∧ t = { s with ic := t.ic }))
  ∧ (∀ e r (a : SdaLine), (s.intake n).cciTx = e :: r → (s.intake n).cciRun = none → e.held = false → a ≠ .stuck → Completes (.cciTransactionStart n a) s (fun t =>
      t.intake n = { s.intake n with cciTx := r, cciRun := some e.word } ∧ t = { s with ic := t.ic }))
  ∧ (∀ e r, (s.intake n).cciTx = e :: r → (s.intake n).cciRun = none → e.held = false → r = [] → Completes (.cciTransactionStart n .stuck) s (fun t =>
      (t.intake n).cciRun = none ∧ (t.intake n).cciHalt = true ∧ (t.intake n).cciTx = [] ∧ t = { s with ic := t.ic, rep := t.rep }))
  ∧ (∀ (w : Nat) (d : BitVec 32), (s.intake n).cciRun = some w → Completes (.cciTransactionEnd n false d) s (fun t =>
      (t.intake n).cciRun = none ∧ (t.intake n).cciTx = (s.intake n).cciTx
      ∧ (bit w 62 = false → (t.intake n).cciRx = (s.intake n).cciRx)
      ∧ (bit w 62 = true → bits w 58 2 = 2 → (s.intake n).cciRx.length < 64 → (t.intake n).cciRx = (s.intake n).cciRx ++ [BitVec.ofNat 64 (2 ^ 63 + bits w 32 16 * 2 ^ 32 + d.toNat)])
      ∧ t = { s with ic := t.ic }))
  ∧ (∀ (w : Nat) (d : BitVec 32), (s.intake n).cciRun = some w → (s.intake n).cciTx = [] → Completes (.cciTransactionEnd n true d) s (fun t =>
      (t.intake n).cciRun = none ∧ (t.intake n).cciHalt = true
      ∧ ((s.intake n).cciRx.length < 64 → (t.intake n).cciRx = (s.intake n).cciRx ++ [BitVec.ofNat 64 (2 ^ 63 + 2 ^ 62 + bits w 32 16 * 2 ^ 32)])
      ∧ Counted s t [key (0x2830 + n.val) 0x13] ∧ t = { s with ic := t.ic, rep := t.rep }))
  ∧ (∀ w, (s.intake n).cciRun = some w → (s.intake n).cciTx = [] → Completes (.cciStretchTimeout n) s (fun t =>
      (t.intake n).cciRun = none ∧ (t.intake n).cciHalt = true
      ∧ ((s.intake n).cciRx.length < 64 → (t.intake n).cciRx = (s.intake n).cciRx ++ [BitVec.ofNat 64 (2 ^ 63 + 2 ^ 61 + bits w 32 16 * 2 ^ 32)])
      ∧ Counted s t [key (0x2830 + n.val) 0x14] ∧ t = { s with ic := t.ic, rep := t.rep }))
  ∧ (∀ x r, (s.intake n).cciRx = x :: r → Completes (.cciRxRead n) s (fun t =>
      t.intake n = { s.intake n with cciRx := r } ∧ t.out.rdata = leBytes 8 x.toNat ∧ t.out.err = false ∧ t = { s with ic := t.ic, out := t.out }))
  ∧ (s.answers → (s.intake n).scpTx = [] → (s.intake n).cciTx = [] → Completes (.serialQueueFlush n) s (fun t =>
      t.intake n = { s.intake n with scpTx := [], scpRx := [], cciTx := [], cciRx := [] } ∧ (∀ k, k ≠ n.val → t.intake k = s.intake k)
      ∧ t.out.resp = some .ok ∧ t = { s with ic := t.ic, out := t.out, rep := t.rep }))

/-- Frames of a CSI-2 channel that receives, packets with good headers (04 R107, R109, R112-R119; 05 R136). A FS of the PRIMARY stream pairs with the oldest open expectation and makes the channel STREAMING; a whole line of the expected length is kept, one past the height is counted and dropped; the FE of one stream of a set of several that has all its lines is noted; embedded data goes to the side ring; a packet of a stream that no slot names is counted; a PHY error is counted; an expectation whose timeout runs out is closed. -/
def Obligations.IntakeFrames : Prop :=
  ∀ (s : State) (n vc : Fin 16), s.receiving n = true → s.isPix n = false →
  (∀ slot role e r (fn : BitVec 16), s.slotOf n vc = some (slot, role) → role ≠ 4 → vc.val = s.primaryVc n → (s.intake n).frame = none →
      (s.intake n).exps = e :: r → e.paired = false → s.icn n 0x14 ≠ 1 → Completes (.frameStart n vc fn .ok) s (fun t =>
      (t.intake n).state = .streaming ∧ (t.intake n).exps = { e with paired := true } :: r
      ∧ (∃ f, (t.intake n).frame = some f ∧ f.exp = some e ∧ f.fsTime = s.us32 ∧ f.mem.at {} vc.val = { slot := slot, fn := fn.toNat } ∧ f.claims = [])
      ∧ (t.pipe n).pend = none ∧ t = { s with ic := t.ic, isp := t.isp, gk := t.gk, rep := t.rep }))
  ∧ (∀ slot role f m (data : List Byte) (gap : Nat), s.slotOf n vc = some (slot, role) → role ≠ 4 → (s.intake n).frame = some f →
      f.mem.find? (fun x => x.1 == vc.val) = some (vc.val, m) → m.fe = false → data.length = s.icn n 0x0D * bitsPerPixel (s.icn n 0x0C) / 8 →
      s.bufferAfter n data.length gap * (bitsPerPixel (s.icn n 0x0C) : Nat) ≤ 32768 * 8 → s.icn n 0x0E ≤ m.lines → 0x13 ≤ s.icn n 0x0C → s.icn n 0x0C < 64 →
      Completes (.lineReceived n vc (BitVec.ofNat 6 (s.icn n 0x0C)) data gap .ok true) s (fun t =>
      t.intake n = { s.intake n with buf := s.bufferAfter n data.length gap, frame := some { f with mem := f.mem.put vc.val { m with rx := m.rx + 1, excess := true } } }
      ∧ Counted s t [key (0x2830 + n.val) 3] ∧ t = { s with ic := t.ic, rep := t.rep }))
  ∧ (∀ (data : List Byte) (gap : Nat) (dt : BitVec 6), s.slotOf n vc ≠ none → (dt = 0x10 ∨ dt = 0x11) → (∀ slot, s.slotOf n vc ≠ some (slot, 4)) →
      Completes (.lineReceived n vc dt data gap .ok true) s (fun t => t = s))
  ∧ (∀ slot role f m w (fn : BitVec 16), s.slotOf n vc = some (slot, role) → role ≠ 4 → (s.intake n).frame = some f → f.mem.find? (fun x => x.1 == vc.val) = some (vc.val, m) →
      m.fe = false → fn.toNat = m.fn → s.icn n 0x0E ≤ m.lines → w ∈ s.setVcs n → w ≠ vc.val → (f.mem.at ({} : Member) w).fe = false → Completes (.frameEnd n vc fn .ok) s (fun t =>
      t.intake n = { s.intake n with frame := some { f with mem := f.mem.put vc.val { m with fe := true } } } ∧ t = { s with ic := t.ic }))
  ∧ (∀ (data : List Byte), s.slotOf n vc ≠ none → 65536 ≤ s.icn n 0x13 → Completes (.embeddedData n vc data .ok true) s (fun t =>
      Counted s t [key (0x2830 + n.val) 0x16] ∧ t = { s with rep := t.rep }))
  ∧ (∀ (data : List Byte), s.slotOf n vc ≠ none → Completes (.embeddedData n vc data .ok true) s (fun t => t = s.sideCopy n data))
  ∧ Completes (.packetDiscard n vc .ok) s (fun t => Counted s t [key (0x2830 + n.val) 0x0D] ∧ t = { s with rep := t.rep })
  ∧ Completes (.packetDiscard n vc .corrected) s (fun t => Counted s t [key (0x2830 + n.val) 9, key (0x2830 + n.val) 0x0D] ∧ t = { s with rep := t.rep })
  ∧ ((s.intake n).frame = none → Completes (.packetDiscard n vc .uncorrectable) s (fun t => Counted s t [key (0x2830 + n.val) 0x0A] ∧ t = { s with rep := t.rep }))
  ∧ Completes (.phyError n) s (fun t => Counted s t [key (0x2830 + n.val) 0x12] ∧ (t.intake n).phyTimes = recent (s.intake n).phyTimes s.clk.ref Config.psPerMs 101
      ∧ t = { s with ic := t.ic, rep := t.rep })
  ∧ (∀ (k : Fin 4) (e : Expect), (s.intake n).exps[k.val]? = some e → e.paired = false → Completes (.feTimeout n k) s (fun t =>
      (t.intake n).exps = (s.intake n).exps.eraseIdx k ∧ (t.intake n).lastStatus = 5 ∧ t.counter (0x2830 + n.val) 7 = satInc (s.counter (0x2830 + n.val) 7)))

/-- Stations (11 R280-R283, R290, R292, R293; 10 R269; 14 R350; 17 R429). A resource write takes effect whole or is refused whole: 0609 0011h where the object has no such resource, 0601 0002h for S0, 0607 0010h for a wrong length, 0800 0020h while the station or S0 runs, and the code of the resource's own rule; a station with resources is CONFIGURED. A set of windows that R283 takes stands, another is refused. ADMIT = 1 admits a CONFIGURED station that meets R269, else raises EV-1807 and is refused, ADMIT = 0 stops admission and drains; teardown starts only from CONFIGURED. -/
def Obligations.Stations : Prop :=
  ∀ (s : State) (st : Fin 32), s.answers →
  (∀ (sub : BitVec 8) (d : List Byte) (a : Nat),
      (a = 0x06090011 ∧ resSize sub.toNat = 0
        ∨ resSize sub.toNat ≠ 0 ∧ (a = 0x06010002 ∧ st = 0 ∧ sub ≠ 0x0E ∧ sub ≠ 0x0F
          ∨ (st ≠ 0 ∨ sub = 0x0E ∨ sub = 0x0F) ∧ (a = 0x06070010 ∧ d.length ≠ resSize sub.toNat
            ∨ d.length = resSize sub.toNat ∧ (a = 0x08000020 ∧ s.mayChange st = false ∨ s.mayChange st = true ∧ s.resourceFault st sub.toNat d = some a)))) →
      Completes (.stationResourceWrite st sub d) s (fun t => t = { s with out := { s.out with resp := some (.abort a) } }))
  ∧ (∀ (sub : BitVec 8) (d : List Byte), sub ∈ [0x02#8, 0x03, 0x04, 0x06, 0x0A, 0x0B, 0x0C, 0x0D, 0x0E, 0x0F, 0x10] → (st ≠ 0 ∨ sub = 0x0E ∨ sub = 0x0F) → d.length = resSize sub.toNat →
      s.mayChange st = true → s.resourceFault st sub.toNat d = none → Completes (.stationResourceWrite st sub d) s (fun t =>
        t.stNum st sub.toNat = leNat d ∧ (∀ i j x, key i j ≠ key (0x2400 + st) sub.toNat → t.num i j x = s.num i j x)
        ∧ t.stState st = (if t.bare st then .empty else .configured) ∧ (∀ k, k ≠ st.val → t.stState k = s.stState k) ∧ (t.chain st).fenced = false
        ∧ t.out.resp = some .ok ∧ t = { s with od := t.od, st := t.st, fd := t.fd, rs := t.rs, rep := t.rep, out := t.out }))
  ∧ (∀ (d : List Byte) (x : Nat), st ≠ 0 → d.length = 2 → s.mayChange st = true → x < 32 → x ≠ 0 → x ≠ st.val → s.stNum x 2 &&& leNat d ≠ 0 →
      Completes (.stationResourceWrite st 0x02 d) s (fun t => t = { s with out := { s.out with resp := some (.abort 0x06090030) } }))
  ∧ (∀ d : List Byte, st ≠ 0 → d.length = 128 → s.mayChange st = true → s.granulesFault st d = none → Completes (.stationResourceWrite st 0x08 d) s (fun t =>
        t.stDom st 8 = d ∧ (∀ c g, c < 16 → g < granules c → bit (field d (8 * c) 8) g = true → (t.core c).granule.at 0 g = st)
        ∧ t.out.resp = some .ok ∧ t = { s with od := t.od, nc := { s.nc with core := t.nc.core }, st := t.st, fd := t.fd, rs := t.rs, rep := t.rep, out := t.out }))
  ∧ (∀ d : List Byte, d.length = 256 → s.mayChange st = true →
      (windowsReserved d = true → (windowList d).all (s.windowOk st) = true → Completes (.stationWindowsWrite st d) s (fun t =>
        t.stDom st 9 = d ∧ t.windows st = windowList d ∧ (t.chain st).fenced = false ∧ t.out.resp = some .ok
        ∧ t = { s with od := t.od, st := t.st, rs := t.rs, rep := t.rep, out := t.out }))
      ∧ ((windowsReserved d = false ∨ (windowList d).all (s.windowOk st) = false) → Completes (.stationWindowsWrite st d) s (fun t =>
        t = { s with out := { s.out with resp := some (.abort 0x06090030) } })))
  ∧ (∀ d : List Byte, (d.length ≠ 256 ∨ s.mayChange st = false) → Completes (.stationWindowsWrite st d) s (fun t =>
        t = { s with out := { s.out with resp := some (.abort (if d.length ≠ 256 then 0x06070010 else 0x08000020)) } }))
  ∧ (∀ v : BitVec 8, 1 < v.toNat → Completes (.admitWrite st v) s (fun t => t = { s with out := { s.out with resp := some (.abort 0x06090030) } }))
  ∧ (s.stState st = .admitting → Completes (.admitWrite st 0) s (fun t =>
        t.admits st = false ∧ t.stState st = (if s.quiet st then .configured else .draining) ∧ (t.chain st).imp = none ∧ (∀ k, k ≠ st.val → t.stState k = s.stState k)
        ∧ t.out.resp = some .ok ∧ t = { s with od := t.od, st := t.st, rs := t.rs, rep := t.rep, out := t.out }))
  ∧ ((s.pwr.req ≠ 0 ∨ s.boot.slot = 2) → Completes (.admitWrite st 1) s (fun t => t = { s with out := { s.out with resp := some (.abort 0x08000020) } }))
  ∧ (s.pwr.req = 0 → s.boot.slot ≠ 2 →
      (s.admits st = true → Completes (.admitWrite st 1) s (fun t => t = { s with out := { s.out with resp := some .ok } }))
      ∧ (s.admits st = false → (s.stState st ≠ .configured ∨ (s.chain st).fenced = true ∨ s.mayAdmit st = false) → Completes (.admitWrite st 1) s (fun t =>
        t.out.resp = some (.abort 0x08000020) ∧ t = { s with rep := t.rep, out := t.out }))
      ∧ (s.admits st = false → s.stState st = .configured → (s.chain st).fenced = false → s.mayAdmit st = true → Completes (.admitWrite st 1) s (fun t =>
        t.admits st = true ∧ t.stState st = .admitting ∧ (∀ k, k ≠ st.val → t.stState k = s.stState k) ∧ t.out.resp = some .ok)))
  ∧ ((st = 0 ∨ s.stState st ≠ .configured) → Completes (.tearDown st) s (fun t => t = { s with out := { s.out with resp := some (.abort 0x08000020) } }))
  ∧ (st ≠ 0 → s.stState st = .configured → Completes (.tearDown st) s (fun t =>
        t.stState st = .tearingDown ∧ (∀ k, k ≠ st.val → t.stState k = s.stState k) ∧ t.od.longop = some { code := 7, inst := st, arg := 1, started := s.clk.ref }
        ∧ t.out.resp = some .ok ∧ t = { s with st := t.st, od := { s.od with longop := t.od.longop }, rep := t.rep, out := t.out }))

/-- Parameter sets and patch verdicts of the image pipelines (05 R148, R150; 10 R268). APPLY makes the whole shadow set pending, or is refused with the code of the first rule that fails and leaves a pending set as it is. The verdict of a patch window goes over the link into its kick cue. -/
def Obligations.Pipelines : Prop :=
  ∀ (s : State) (n : Fin 16),
  (s.answers →
      (s.setFault n (s.shadowSet n) = none → Completes (.pipelineApply n) s (fun t =>
        t.pipe n = { s.pipe n with pend := some (s.shadowSet n) } ∧ (∀ k, k ≠ n.val → t.pipe k = s.pipe k) ∧ t.out.resp = some .ok ∧ t = { s with isp := t.isp, out := t.out }))
      ∧ (∀ f, s.setFault n (s.shadowSet n) = some f → Completes (.pipelineApply n) s (fun t =>
        t.out.resp = some (.abort (match f with | .range => 0x06090030 | .ring => 0x08000020)) ∧ t = { s with rep := t.rep, out := t.out })))
  ∧ (s.serves = false → Completes (.pipelineApply n) s (fun t => t = s))
  ∧ (s.serves = true → s.od.longop ≠ none → Completes (.pipelineApply n) s (fun t => t = { s with out := { s.out with resp := some (.abort 0x08000022) } }))
  ∧ (∀ v e, (s.intake n).verdicts = [v] → s.kickOf v.station v.imp v.window = some e → s.link.up = true → (s.cueUse e).used = true → Completes (.patchVerdict n) s (fun t =>
        t.link.txq = s.link.txq ++ [.verdict e (if v.fail then .fail else .pass)] ∧ t.intake n = { s.intake n with verdicts := [] } ∧ (∀ k, k ≠ n.val → t.intake k = s.intake k)
        ∧ t = { s with ic := t.ic, link := { s.link with txq := t.link.txq } }))
  ∧ ((s.intake n).verdicts = [] → Completes (.patchVerdict n) s (fun t => (∀ k, t.intake k = s.intake k) ∧ t = { s with ic := t.ic }))

/-- Type Case ways and the memories' own events (06 R163, R168, R169, 11 Table 11-11). A carve makes the named cache ways leave cache, without their lines, a return the named scratch ways leave scratch; a way that another station owns makes the half a violation with cause 7. A transfer that ends fills the scratch with zeros and maps it, or gives the cache way back. A corrected word is rewritten once. A training failure takes the LPDDR5X range away. -/
def Obligations.TypeCaseWays : Prop :=
  ∀ s : State,
  (∀ (req : Requester) (ways : BitVec 16), (∀ w, w < 16 → bit ways.toNat w = true → s.wayOwner w = s.attrib req) →
    Completes (.wayCarve req ways) s (fun t =>
      (∀ w, w < 16 → t.wayMode w = if bit ways.toNat w = true ∧ s.wayMode w = .cache then .toScratch else s.wayMode w)
      ∧ (∀ w, w < 16 → bit (t.stNum (s.attrib req) 7) w = (bit ways.toNat w || bit (s.stNum (s.attrib req) 7) w))
      ∧ t.mem.lines = s.mem.lines.filter (fun l => !(bit ways.toNat l.way && s.wayMode l.way == .cache))
      ∧ t.out.err = false ∧ t = { s with mem := { s.mem with way := t.mem.way, lines := t.mem.lines }, od := t.od, rep := t.rep, out := t.out }))
  ∧ (∀ (req : Requester) (ways : BitVec 16), (∀ w, w < 16 → bit ways.toNat w = true → s.wayOwner w = s.attrib req) →
    Completes (.wayReturn req ways) s (fun t =>
      (∀ w, w < 16 → t.wayMode w = if bit ways.toNat w = true ∧ s.wayMode w = .scratch then .toCache else s.wayMode w)
      ∧ (∀ w, w < 16 → bit (t.stNum (s.attrib req) 7) w = (!bit ways.toNat w && bit (s.stNum (s.attrib req) 7) w))
      ∧ t.out.err = false ∧ t = { s with mem := { s.mem with way := t.mem.way, lines := t.mem.lines }, od := t.od, out := t.out }))
  ∧ (∀ (req : Requester) (ways : BitVec 16) (w : Nat), w < 16 → bit ways.toNat w = true → s.wayOwner w ≠ s.attrib req → s.attrib req < 32 → s.ref.written < 64 →
    Completes (.wayCarve req ways) s (fun t =>
      Counted s t [key 0x2890 1, key 0x2891 (s.attrib req + 1), key 0x2892 7] ∧ t.out.err = true ∧ t.ref.written = s.ref.written + 1
      ∧ t = { s with ref := t.ref, rep := t.rep, out := t.out })
    ∧ Completes (.wayReturn req ways) s (fun t =>
      Counted s t [key 0x2890 1, key 0x2891 (s.attrib req + 1), key 0x2892 7] ∧ t.out.err = true ∧ t.ref.written = s.ref.written + 1
      ∧ t = { s with ref := t.ref, rep := t.rep, out := t.out }))
  ∧ (∀ w : Fin 16, s.wayMode w = .toScratch ∨ s.wayMode w = .toCache → Completes (.wayTransferComplete w) s (fun t =>
      t.wayMode w = (if s.wayMode w = .toScratch then .scratch else .cache) ∧ (∀ v, v ≠ w.val → t.wayMode v = s.wayMode v)
      ∧ (∀ a, t.byte a = if scratchBase w ≤ a ∧ a < scratchBase w + 0x80000 then 0 else s.byte a)
      ∧ Counted s t [key 0x2858 5] ∧ t = { s with mem := { s.mem with bytes := t.mem.bytes, way := t.mem.way }, rep := t.rep }))
  ∧ (∀ w : Fin 16, s.wayMode w = .cache ∨ s.wayMode w = .scratch → Completes (.wayTransferComplete w) s (fun t => t = s))
  ∧ (∀ (word : BitVec 37) (c : Nat), regionOf (word.toNat * 8) = some (.ds c) → Completes (.correctedRewrite word) s (fun t =>
      t.chan c = { s.chan c with fix := (s.chan c).fix.filter (· ≠ word.toNat) } ∧ (∀ d, d ≠ c → t.chan d = s.chan d)
      ∧ t = { s with mem := { s.mem with ds := t.mem.ds } }))
  ∧ (s.mem.lpUsable ≠ 0 → s.mem.lpFailed = false → Completes .lpddr5xTrainingFailure s (fun t =>
      Counted s t [key 0x2859 5] ∧ t = { s with mem := { s.mem with lpFailed := true }, rep := t.rep }))

/-- Accesses that enter the fabric (06 R155, R159, R163, R166, R169, R170, R173; 11 R285, R287). An access that the Referee refuses gets an error response, is logged and counted, and touches nothing. The Deep Store gives and takes bytes: a write changes its own bytes and no other; a poisoned word and an uncorrectable error refuse a read and are counted, a fenced channel answers with errors, one that has not started makes the access wait. Flash takes no write, scratch answers only where the way is carved, LPDDR5X only within its usable range. Nothing happens while the compute die does not run, and an access of no bytes touches nothing. -/
def Obligations.FabricAccess : Prop :=
  ∀ (s : State) (req : Requester) (a : BitVec 40) (v : Fin 16),
  (∀ op e, s.computeRuns = false → Completes (.fabricAccess req op a e v) s (fun t => t = s))
  ∧ (∀ op e, s.computeRuns = true → fabricLen op = 0 → Completes (.fabricAccess req op a e v) s (fun t =>
      t = { s with out := { s.out with rdata := [], err := false } }))
  ∧ (∀ op e l cause, s.computeRuns = true → coreOf req = none → fabricLen op ≠ 0 → regionOf a.toNat ≠ some .regs →
      s.check req (s.attrib req) a.toNat (fabricLen op) (accessOf op) = some (l, cause) → s.attrib req < 32 → s.ref.written < 64 →
      Completes (.fabricAccess req op a e v) s (fun t =>
        t.out.err = true ∧ t.out.rdata = [] ∧ Counted s t [key 0x2890 1, key 0x2891 (s.attrib req + 1), key 0x2892 cause]
        ∧ t.ref.written = s.ref.written + 1 ∧ t = { s with ref := t.ref, rep := t.rep, out := t.out }))
  ∧ (∀ c n, s.computeRuns = true → regionOf a.toNat = some (.ds c) → (s.chan c).ready = true → (s.chan c).fenced = false → n ≠ 0 →
      s.check req (s.attrib req) a.toNat n .read = none →
      ((∀ w ∈ wordsOf a.toNat n, w ∉ (s.chan c).poison) → Completes (.fabricAccess req (.read n) a .none v) s (fun t =>
        t = { s with mem := { s.mem with lines := t.mem.lines }, rep := t.rep, out := { s.out with rdata := s.peek a.toNat n, err := false } }))
      ∧ ((∃ w ∈ wordsOf a.toNat n, w ∈ (s.chan c).poison) → coreOf req = none → s.mem.lines = [] → Completes (.fabricAccess req (.read n) a .none v) s (fun t =>
        t.out.err = true ∧ Counted s t [key (0x2850 + c) 3] ∧ t = { s with mem := { s.mem with lines := t.mem.lines }, rep := t.rep, out := t.out }))
      ∧ (coreOf req = none → s.mem.lines = [] → (s.chan c).unc = [] → Completes (.fabricAccess req (.read n) a .uncorrectable v) s (fun t =>
        t.out.err = true ∧ Counted s t [key (0x2850 + c) 2] ∧ (t.chan c).unc = [(a.toNat / 64, s.clk.ref)] ∧ (∀ d, d ≠ c → t.chan d = s.chan d)
        ∧ t = { s with mem := { s.mem with lines := t.mem.lines, ds := t.mem.ds }, rep := t.rep, out := t.out })))
  ∧ (∀ c (d : List Byte), s.computeRuns = true → regionOf a.toNat = some (.ds c) → (s.chan c).ready = true → (s.chan c).fenced = false → d ≠ [] →
      s.check req (s.attrib req) a.toNat d.length .write = none → (∀ w ∈ wordsOf a.toNat d.length, w ∉ (s.chan c).poison) →
      Completes (.fabricAccess req (.write d) a .none v) s (fun t =>
        (∀ b, t.byte b = if a.toNat ≤ b ∧ b < a.toNat + d.length then d.getD (b - a.toNat) 0 else s.byte b)
        ∧ t.out.err = false ∧ (∀ k, t.chan k = s.chan k)
        ∧ t = { s with mem := { s.mem with bytes := t.mem.bytes, lines := t.mem.lines, ds := t.mem.ds }, rep := t.rep, out := t.out }))
  ∧ (∀ c op e, s.computeRuns = true → regionOf a.toNat = some (.ds c) → fabricLen op ≠ 0 → s.check req (s.attrib req) a.toNat (fabricLen op) (accessOf op) = none → coreOf req = none →
      ((s.chan c).ready = false → Completes (.fabricAccess req op a e v) s (fun t =>
        t.mem.waiting = s.mem.waiting ++ [{ req := req, station := s.attrib req, op := op, addr := a.toNat, err := e, victim := v.val }]
        ∧ t = { s with mem := { s.mem with waiting := t.mem.waiting }, out := { s.out with rdata := [], err := false } }))
      ∧ ((s.chan c).ready = true → (s.chan c).fenced = true → Completes (.fabricAccess req op a e v) s (fun t =>
        t = { s with out := { s.out with rdata := [], err := true } })))
  ∧ (∀ c op e, s.computeRuns = true → req = .core c → (s.core c).state = .running → s.slugSeqs c = [] → (∃ k, regionOf a.toNat = some (.ds k) ∧ (s.chan k).ready = true ∧ (s.chan k).fenced = true) →
      fabricLen op ≠ 0 → s.check req (s.attrib req) a.toNat (fabricLen op) (accessOf op) = none → Completes (.fabricAccess req op a e v) s (fun t =>
        (t.core c).state ≠ .running ∧ (t.core c).cause = 7 ∧ (t.core c).waiting = false ∧ (∀ k, k ≠ c.val → t.core k = s.core k)
        ∧ t = { s with nc := t.nc, qn := t.qn, rg := t.rg, rs := t.rs, rep := t.rep, out := t.out }))
  ∧ (∀ d e, s.computeRuns = true → regionOf a.toNat = some .flash → d ≠ [] → s.check req (s.attrib req) a.toNat d.length .write = none → coreOf req = none →
      Completes (.fabricAccess req (.write d) a e v) s (fun t => t = { s with out := { s.out with rdata := [], err := true } }))
  ∧ (∀ n, s.computeRuns = true → (regionOf a.toNat = some .flash ∨ ∃ p, regionOf a.toNat = some (.tcm p)) → n ≠ 0 → s.check req (s.attrib req) a.toNat n .read = none →
      Completes (.fabricAccess req (.read n) a .none v) s (fun t => t = { s with out := { s.out with rdata := s.peek a.toNat n, err := false } }))
  ∧ (∀ w op e, s.computeRuns = true → regionOf a.toNat = some (.scratch w) → s.wayMode w ≠ .scratch → fabricLen op ≠ 0 →
      s.check req (s.attrib req) a.toNat (fabricLen op) (accessOf op) = none → coreOf req = none →
      Completes (.fabricAccess req op a e v) s (fun t => t.out.err = true ∧ Counted s t [key 0x2858 6] ∧ t = { s with rep := t.rep, out := t.out }))
  ∧ (∀ op e, s.computeRuns = true → regionOf a.toNat = some .lpddr → s.mem.lpFailed = false → s.mem.lpUsable < a.toNat - lpBase + fabricLen op → fabricLen op ≠ 0 →
      s.check req (s.attrib req) a.toNat (fabricLen op) (accessOf op) = none → coreOf req = none →
      Completes (.fabricAccess req op a e v) s (fun t => t.out.err = true ∧ Counted s t [key 0x2859 6] ∧ t = { s with rep := t.rep, out := t.out }))

/-- Registers, requests over PCIe, and the start of a Deep Store channel (06 R157, R181; 07 R204; 12 R302; 13 R334; 18 R456). A register takes a write of its own width at its own address, another is counted and refused; RG_OP runs the ring operation that it spells. A request through BAR2 is the access of its function's port, counted once more where the Referee refuses it; BAR0 holds the mailbox, its request buffer and the vector table. A channel that passes its start is ready and full of zeros and its first scrub pass runs; one that fails is fenced. -/
def Obligations.RegistersAndHostAccess : Prop :=
  ∀ s : State, s.computeRuns = true →
  (∀ req (d : List Byte), s.attrib req = 0 → d.length = 8 → Completes (.registerWrite req 0x10180020 d) s (fun t =>
      t = { s with pwr := { s.pwr with rtcAlarm := leNat d }, out := { s.out with rdata := [], err := false } }))
  ∧ (∀ req (d : List Byte), s.attrib req = 0 → d.length ≠ 0 → d.length ≤ 32 → d.length ≠ 8 → Completes (.registerWrite req 0x10180020 d) s (fun t =>
      t.out.err = true ∧ t.out.rdata = [] ∧ Counted s t [key 0x285A 0x0F] ∧ t = { s with rep := t.rep, out := t.out }))
  ∧ (∀ req (d : List Byte), s.attrib req = 0 → d.length = 8 → Completes (.registerWrite req 0x10180008 d) s (fun t =>
      t = { s with out := { s.out with rdata := [], err := true } }))
  ∧ (∀ req (d : List Byte), s.attrib req ≠ 0 → s.attrib req < 32 → d.length = 8 → s.ref.written < 64 → Completes (.registerWrite req 0x10180020 d) s (fun t =>
      t.out.err = true ∧ Counted s t [key 0x2890 1, key 0x2891 (s.attrib req + 1), key 0x2892 10] ∧ t.ref.written = s.ref.written + 1
      ∧ t = { s with ref := t.ref, rep := t.rep, out := t.out }))
  ∧ (∀ req (r : BitVec 16) (n : BitVec 32), softRequester req ≠ none →
      exec (.registerWrite req 0x10140000 (leBytes 8 (4 * 2 ^ 60 + r.toNat * 2 ^ 32 + n.toNat))) s
        = exec (.ringRelease req r n) { s with out := { s.out with rdata := [], err := false } })
  ∧ (∀ (f : Fin 32) (a : BitVec 40) n e v, s.host.linkUp = true → s.funcOn f = true → a.toNat < 0x1000000000 → n ≠ 0 → regionOf a.toNat ≠ some .regs →
      (s.check (.port f) f a.toNat n .read = none → Completes (.pcieInboundRequest f false a (.read n) e v) s (fun t =>
        exec (.fabricAccess (.port f) (.read n) a e v) s = .next t))
      ∧ (∀ l cause, s.check (.port f) f a.toNat n .read = some (l, cause) → s.ref.written < 64 → Completes (.pcieInboundRequest f false a (.read n) e v) s (fun t =>
        t.out.err = true ∧ Counted s t [key 0x2890 1, key 0x2891 (f + 1), key 0x2892 cause, key 0x28A0 1] ∧ t = { s with ref := t.ref, rep := t.rep, out := t.out })))
  ∧ (∀ (f : Fin 32) bar0 a op e v, s.host.linkUp = false → Completes (.pcieInboundRequest f bar0 a op e v) s (fun t => t = s))
  ∧ (∀ (f : Fin 32) (x : BitVec 32) e v, s.host.linkUp = true → s.funcOn f = true →
      exec (.pcieInboundRequest f true 0 (.write (leBytes 4 x.toNat)) e v) s = exec (.mbxDoorbell f x) { s with out := { s.out with rdata := [], err := false } })
  ∧ (∀ (f : Fin 32) (d : List Byte) e v, s.host.linkUp = true → s.funcOn f = true → d.length ≤ 2048 →
      Completes (.pcieInboundRequest f true 0x100 (.write d) e v) s (fun t =>
        t.func f = { s.func f with mbx := { (s.func f).mbx with req := overlay (slice (s.func f).mbx.req 0 2048) 0 d } } ∧ (∀ g, g ≠ f.val → t.func g = s.func g)
        ∧ t = { s with host := { s.host with fn := t.host.fn }, out := { s.out with rdata := [], err := false } }))
  ∧ (∀ (f k : Fin 32) (d : List Byte) e v, s.host.linkUp = true → s.funcOn f = true → d.length = 16 →
      Completes (.pcieInboundRequest f true (BitVec.ofNat 40 (0x8000 + 16 * k)) (.write d) e v) s (fun t =>
        (t.func f).vector k = leNat d ∧ (∀ j, j ≠ k.val → (t.func f).vector j = (s.func f).vector j) ∧ (∀ g, g ≠ f.val → t.func g = s.func g)
        ∧ t = { s with host := { s.host with fn := t.host.fn }, out := { s.out with rdata := [], err := false } }))
  ∧ (∀ c : Fin 8, (s.chan c).ready = false → s.mem.waiting = [] →
      Completes (.deepStoreStartComplete c true) s (fun t =>
        t.chan c = { s.chan c with ready := true, poison := [], fix := [] } ∧ (∀ d, d ≠ c.val → t.chan d = s.chan d)
        ∧ (∀ a, t.byte a = if dsBase c ≤ a ∧ a < dsBase c + dsSize then 0 else s.byte a)
        ∧ t.gk.passOn.at false c = true ∧ t.gk.pass.at 0 c = 0
        ∧ t = { s with mem := { s.mem with bytes := t.mem.bytes, ds := t.mem.ds, waiting := [] }, gk := { s.gk with passOn := t.gk.passOn, pass := t.gk.pass } })
      ∧ ((s.chan c).fenced = false → Completes (.deepStoreStartComplete c false) s (fun t =>
        (t.chan c).ready = true ∧ (t.chan c).fenced = true ∧ (∀ d, d ≠ c.val → t.chan d = s.chan d) ∧ Counted s t [key (0x2850 + c) 5]
        ∧ (∀ a, t.byte a = if dsBase c ≤ a ∧ a < dsBase c + dsSize then 0 else s.byte a)
        ∧ t = { s with mem := { s.mem with bytes := t.mem.bytes, ds := t.mem.ds, waiting := [] }, od := t.od, rs := t.rs, st := t.st, rep := t.rep })))
  ∧ (∀ (c : Fin 8) b, (s.chan c).ready = true → Completes (.deepStoreStartComplete c b) s (fun t => t = s))

/-- Claims on rings (07 R187, R188, R191, R204). A claim that fits moves CLAIM past it, makes the requester the producer and answers the record's start; one that does not fit counts FULL on a drop-new ring, gives way to the oldest records on a drop-oldest ring, and on a block ring answers WOULD_BLOCK to software and waits for every other block. A length that the ring does not take, and a claim beside another producer's, are refused and counted. A retry grants the oldest waiting claim of a ring once it fits. -/
def Obligations.RingClaims : Prop :=
  ∀ (s : State) (req : Requester) (r : BitVec 16) (n : BitVec 32), coreOf req = none → s.ringOpen req r.toNat →
  n ≠ 0 → n.toNat % 4 = 0 → n.toNat ≤ (s.ring r.toNat).size → ((s.ring r.toNat).recLog2 = 0 ∨ n.toNat = 2 ^ (s.ring r.toNat).recLog2) →
  ((s.ring r.toNat).ends = [] ∨ (s.ring r.toNat).producer = some req) →
  let d := s.ring r.toNat
  let c := (d.claim + n.toNat) % 2 ^ 32
  (d.fill + n.toNat ≤ d.size → Completes (.ringClaim req r n) s (fun t =>
      t.ring r.toNat = { d with claim := c, producer := some req, ends := d.ends ++ [c], high := max d.high ((c + 2 ^ 32 - d.tail) % 2 ^ 32) }
      ∧ (∀ k, k ≠ r.toNat → t.ring k = s.ring k) ∧ (∀ k, softRequester req = some k → t.rg.res.at 0 k = d.claim)
      ∧ t = { s with rg := { s.rg with ring := t.rg.ring, res := t.rg.res }, out := { s.out with err := false } }))
  ∧ (d.size < d.fill + n.toNat → d.policy = 1 → d.cls < 4 → Completes (.ringClaim req r n) s (fun t =>
      Counted s t [key 0x2860 (1 + d.cls)] ∧ (∀ k, softRequester req = some k → t.rg.res.at 0 k = 2 ^ 60)
      ∧ t = { s with rg := { s.rg with res := t.rg.res }, rep := t.rep, out := { s.out with err := false } }))
  ∧ (d.size < d.fill + n.toNat → d.policy = 0 →
      (∀ k, softRequester req = some k → Completes (.ringClaim req r n) s (fun t =>
        Counted s t [key 0x2860 6] ∧ t.rg.res.at 0 k = 2 * 2 ^ 60 ∧ t = { s with rg := { s.rg with res := t.rg.res }, rep := t.rep, out := { s.out with err := false } }))
      ∧ (softRequester req = none → Completes (.ringClaim req r n) s (fun t =>
        Counted s t [key 0x2860 6] ∧ t = { s with rg := { s.rg with blocked := s.rg.blocked ++ [{ ring := r.toNat, req := req, len := n.toNat }] }, rep := t.rep })))
  ∧ (d.size < d.fill + n.toNat → d.policy = 2 → d.recLog2 ≠ 0 → d.need n.toNat * 2 ^ d.recLog2 ≤ d.content → Completes (.ringClaim req r n) s (fun t =>
      (t.ring r.toNat).tail = (d.tail + d.need n.toNat * 2 ^ d.recLog2) % 2 ^ 32 ∧ (t.ring r.toNat).claim = c ∧ (t.ring r.toNat).ends = d.ends ++ [c]
      ∧ (t.ring r.toNat).producer = some req ∧ (t.ring r.toNat).head = d.head ∧ (∀ k, k ≠ r.toNat → t.ring k = s.ring k)
      ∧ ((s.counter 0x2860 5).toNat + d.need n.toNat < 0xFFFFFFFF → (t.counter 0x2860 5).toNat = (s.counter 0x2860 5).toNat + d.need n.toNat)
      ∧ t = { s with rg := { s.rg with ring := t.rg.ring, res := t.rg.res }, rep := t.rep, out := { s.out with err := false } }))
  ∧ (∀ m : BitVec 32, (m = 0 ∨ m.toNat % 4 ≠ 0 ∨ d.size < m.toNat ∨ (d.recLog2 ≠ 0 ∧ m.toNat ≠ 2 ^ d.recLog2)) → Completes (.ringClaim req r m) s (fun t =>
      Counted s t [key 0x2860 8] ∧ t = { s with rg := { s.rg with res := t.rg.res }, rep := t.rep, out := { s.out with err := true } }))
  ∧ (∀ q, coreOf q = none → s.attrib q = s.attrib req → d.ends ≠ [] → d.producer ≠ some q → Completes (.ringClaim q r n) s (fun t =>
      Counted s t [key 0x2860 7] ∧ t = { s with rg := { s.rg with res := t.rg.res }, rep := t.rep, out := { s.out with err := true } }))
  ∧ (∀ b, s.rg.blocked.find? (fun x => x.ring == r.toNat) = some b → b = { ring := r.toNat, req := req, len := n.toNat } →
      (d.fill + n.toNat ≤ d.size → Completes (.blockedClaimRetry r) s (fun t =>
        (t.ring r.toNat).claim = c ∧ (t.ring r.toNat).producer = some req ∧ (∀ k, k ≠ r.toNat → t.ring k = s.ring k)
        ∧ t = { s with rg := { s.rg with ring := t.rg.ring, blocked := s.rg.blocked.erase b } }))
      ∧ (d.size < d.fill + n.toNat → d.policy = 0 → Completes (.blockedClaimRetry r) s (fun t => t = s)))
  ∧ (s.rg.blocked.find? (fun x => x.ring == r.toNat) = none → Completes (.blockedClaimRetry r) s (fun t => t = s))

/-- Commits, abandons, releases and descriptors of rings (07 R184, R187, R189, R190). A commit moves HEAD to the end of the oldest uncommitted claim and is refused without one; an abandon takes CLAIM back to HEAD; a release moves TAIL within the content; PQUOIN and CQUOIN are signalled where enabled. An invalid and a damaged ring refuse every operation, each under its own counter, and a ring outside the station's range is a violation with cause 8. A descriptor is taken whole where the Ring Table accepts it, and else refused and counted. -/
def Obligations.RingMoves : Prop :=
  ∀ (s : State) (req : Requester) (r : BitVec 16), coreOf req = none →
  let d := s.ring r.toNat
  (s.ringOpen req r.toNat →
    (∀ e rest, d.ends = e :: rest → d.producer = some req → d.pqEn = false → Completes (.ringCommit req r) s (fun t =>
      t.ring r.toNat = { d with head := e, ends := rest, producer := if rest = [] then none else d.producer } ∧ (∀ k, k ≠ r.toNat → t.ring k = s.ring k)
      ∧ (∀ k, softRequester req = some k → t.rg.res.at 0 k = e)
      ∧ t = { s with rg := { s.rg with ring := t.rg.ring, res := t.rg.res }, rep := t.rep, out := { s.out with err := false } }))
    ∧ (∀ e rest, d.ends = e :: rest → d.producer = some req → d.pqEn = true → (s.quoin d.pquoin).valid = true → (s.quoin d.pquoin).damaged = false →
        (s.quoin d.pquoin).count < 0xFFFFFFFF → Completes (.ringCommit req r) s (fun t =>
      (t.ring r.toNat).head = e ∧ (∀ k, k ≠ r.toNat → t.ring k = s.ring k)
      ∧ t.quoin d.pquoin = { s.quoin d.pquoin with count := (s.quoin d.pquoin).count + 1 } ∧ (∀ q, q ≠ d.pquoin → t.quoin q = s.quoin q)
      ∧ t = { s with rg := { s.rg with ring := t.rg.ring, res := t.rg.res }, qn := t.qn, nc := t.nc, rep := t.rep, out := { s.out with err := false } }))
    ∧ (d.ends = [] ∨ d.producer ≠ some req →
      Completes (.ringCommit req r) s (fun t => Counted s t [key 0x2860 8] ∧ t = { s with rg := { s.rg with res := t.rg.res }, rep := t.rep, out := { s.out with err := true } })
      ∧ Completes (.ringAbandon req r) s (fun t => Counted s t [key 0x2860 8] ∧ t = { s with rg := { s.rg with res := t.rg.res }, rep := t.rep, out := { s.out with err := true } }))
    ∧ (d.ends ≠ [] → d.producer = some req → Completes (.ringAbandon req r) s (fun t =>
      t.ring r.toNat = { d with claim := d.head, ends := [], producer := none } ∧ (∀ k, k ≠ r.toNat → t.ring k = s.ring k)
      ∧ t = { s with rg := { s.rg with ring := t.rg.ring, res := t.rg.res }, out := { s.out with err := false } }))
    ∧ (∀ n : BitVec 32, n ≠ 0 → n.toNat % 4 = 0 → n.toNat ≤ d.content → d.cqEn = false → Completes (.ringRelease req r n) s (fun t =>
      t.ring r.toNat = { d with tail := (d.tail + n.toNat) % 2 ^ 32 } ∧ (∀ k, k ≠ r.toNat → t.ring k = s.ring k)
      ∧ t = { s with rg := { s.rg with ring := t.rg.ring, res := t.rg.res }, out := { s.out with err := false } }))
    ∧ (∀ n : BitVec 32, n ≠ 0 → n.toNat % 4 = 0 → n.toNat ≤ d.content → d.cqEn = true → (s.quoin d.cquoin).valid = true → (s.quoin d.cquoin).damaged = false →
        (s.quoin d.cquoin).count < 0xFFFFFFFF → Completes (.ringRelease req r n) s (fun t =>
      t.ring r.toNat = { d with tail := (d.tail + n.toNat) % 2 ^ 32 } ∧ (∀ k, k ≠ r.toNat → t.ring k = s.ring k)
      ∧ t.quoin d.cquoin = { s.quoin d.cquoin with count := (s.quoin d.cquoin).count + 1 } ∧ (∀ q, q ≠ d.cquoin → t.quoin q = s.quoin q)
      ∧ t = { s with rg := { s.rg with ring := t.rg.ring, res := t.rg.res }, qn := t.qn, nc := t.nc, rep := t.rep, out := { s.out with err := false } }))
    ∧ (∀ n : BitVec 32, (n = 0 ∨ n.toNat % 4 ≠ 0 ∨ d.content < n.toNat) → Completes (.ringRelease req r n) s (fun t =>
      Counted s t [key 0x2860 8] ∧ t = { s with rg := { s.rg with res := t.rg.res }, rep := t.rep, out := { s.out with err := true } })))
  ∧ (∀ n : BitVec 32, ∀ i ∈ [Instr.ringClaim req r n, .ringCommit req r, .ringAbandon req r, .ringRelease req r n],
      (s.ringIn (s.attrib req) r.toNat = true → (d.valid = true → d.owner = s.attrib req) →
        (d.damaged = true → Completes i s (fun t => Counted s t [key 0x2860 9] ∧ t = { s with rg := { s.rg with res := t.rg.res }, rep := t.rep, out := { s.out with err := true } }))
        ∧ (d.damaged = false → d.valid = false → Completes i s (fun t =>
            Counted s t [key 0x2860 8] ∧ t = { s with rg := { s.rg with res := t.rg.res }, rep := t.rep, out := { s.out with err := true } })))
      ∧ ((s.ringIn (s.attrib req) r.toNat = false ∨ (d.valid = true ∧ d.owner ≠ s.attrib req)) → s.attrib req < 32 → s.ref.written < 64 → Completes i s (fun t =>
            Counted s t [key 0x2890 1, key 0x2891 (s.attrib req + 1), key 0x2892 8]
            ∧ t = { s with ref := t.ref, rg := { s.rg with res := t.rg.res }, rep := t.rep, out := { s.out with err := true } })))
  ∧ (∀ (x : List Byte) (k : Fin 65536), s.ringIn (s.attrib req) k = true →
      (x.length = 32 → s.ringAcceptable (s.attrib req) (ringOf (leNat x)) = true → Completes (.ringDescriptorWrite req k x) s (fun t =>
        t.ring k = ringOf (leNat x) ∧ (∀ j, j ≠ k.val → t.ring j = s.ring j)
        ∧ t = { s with rg := { s.rg with ring := t.rg.ring }, out := { s.out with err := false } }))
      ∧ ((x.length ≠ 32 ∨ s.ringAcceptable (s.attrib req) (ringOf (leNat x)) = false) → Completes (.ringDescriptorWrite req k x) s (fun t =>
        Counted s t [key 0x2860 0x0A] ∧ t = { s with rep := t.rep, out := { s.out with err := true } })))

/-- Quoins (07 R195-R199, R204). A SIGNAL adds to COUNT, enters the owner's notification queue where NOTIFY is set, and at the top holds FFFF_FFFFh with an error and a count; a RESET sets COUNT; a POLL compares. A wait that is met answers at once; the Roster's is parked until then, 32 at most, and no other block but a core has a place. Reaching the threshold answers a parked wait, so that a core goes on. A direct write sets the entry; a read of QN_NFY pops the oldest number. A damaged or invalid quoin refuses, and one outside the station's range is a violation with cause 9. -/
def Obligations.Quoins : Prop :=
  ∀ (s : State) (req : Requester) (q : BitVec 12), coreOf req = none →
  let x := s.quoin q.toNat
  (s.quoinOpen req q.toNat →
    (∀ n : BitVec 32, x.count + n.toNat ≤ 0xFFFFFFFF → (∀ p ∈ s.qn.parked, p.quoin ≠ q.toNat) →
      (x.notify = false → Completes (.quoinSignal req q n) s (fun t =>
        t.quoin q.toNat = { x with count := x.count + n.toNat } ∧ (∀ k, k ≠ q.toNat → t.quoin k = s.quoin k)
        ∧ (∀ k, softRequester req = some k → t.qn.res.at 0 k = x.count + n.toNat)
        ∧ t = { s with qn := { s.qn with quoin := t.qn.quoin, res := t.qn.res }, out := { s.out with err := false } }))
      ∧ (x.notify = true → (s.qn.nfy.at {} x.owner).q.length < 16 → Completes (.quoinSignal req q n) s (fun t =>
        t.quoin q.toNat = { x with count := x.count + n.toNat } ∧ (t.qn.nfy.at {} x.owner).q = (s.qn.nfy.at {} x.owner).q ++ [q.toNat]
        ∧ (t.qn.nfy.at {} x.owner).ovf = (s.qn.nfy.at {} x.owner).ovf ∧ (∀ k, k ≠ x.owner → t.qn.nfy.at {} k = s.qn.nfy.at {} k)
        ∧ t = { s with qn := { s.qn with quoin := t.qn.quoin, nfy := t.qn.nfy, res := t.qn.res }, rep := t.rep, out := { s.out with err := false } }))
      ∧ (x.notify = true → 16 ≤ (s.qn.nfy.at {} x.owner).q.length → Completes (.quoinSignal req q n) s (fun t =>
        t.quoin q.toNat = { x with count := x.count + n.toNat } ∧ t.qn.nfy.at {} x.owner = { s.qn.nfy.at {} x.owner with ovf := true } ∧ Counted s t [key 0x2861 4]
        ∧ t = { s with qn := { s.qn with quoin := t.qn.quoin, nfy := t.qn.nfy, res := t.qn.res }, rep := t.rep, out := { s.out with err := false } })))
    ∧ (∀ n : BitVec 32, 0xFFFFFFFF < x.count + n.toNat → (∀ p ∈ s.qn.parked, p.quoin ≠ q.toNat) → Completes (.quoinSignal req q n) s (fun t =>
        t.quoin q.toNat = { x with count := 0xFFFFFFFF } ∧ Counted s t [key 0x2861 1] ∧ (∀ k, softRequester req = some k → t.qn.res.at 0 k = 6 * 2 ^ 60 + 0xFFFFFFFF)
        ∧ t = { s with qn := { s.qn with quoin := t.qn.quoin, res := t.qn.res }, rep := t.rep, out := { s.out with err := true } }))
    ∧ (∀ (n : BitVec 32) (c : Fin 16) (th : Nat), x.count + n.toNat ≤ 0xFFFFFFFF → x.notify = false → s.qn.parked = [{ who := .core c, quoin := q.toNat, thresh := th }] →
        (th ≤ x.count + n.toNat → Completes (.quoinSignal req q n) s (fun t =>
          t.qn.parked = [] ∧ t.core c = { s.core c with waiting := false, pc := (s.core c).pc + 1 } ∧ (∀ k, k ≠ c.val → t.core k = s.core k)
          ∧ t = { s with qn := { s.qn with quoin := t.qn.quoin, res := t.qn.res, parked := [] }, nc := { s.nc with core := t.nc.core }, out := { s.out with err := false } }))
        ∧ (x.count + n.toNat < th → Completes (.quoinSignal req q n) s (fun t => t.qn.parked = s.qn.parked ∧ (t.quoin q.toNat).count = x.count + n.toNat
          ∧ t = { s with qn := { s.qn with quoin := t.qn.quoin, res := t.qn.res }, out := { s.out with err := false } })))
    ∧ (∀ v : BitVec 32, (∀ p ∈ s.qn.parked, p.quoin ≠ q.toNat) → Completes (.quoinReset req q v) s (fun t =>
        t.quoin q.toNat = { x with count := v.toNat } ∧ (∀ k, k ≠ q.toNat → t.quoin k = s.quoin k)
        ∧ t = { s with qn := { s.qn with quoin := t.qn.quoin, res := t.qn.res }, out := { s.out with err := false } }))
    ∧ (∀ v : BitVec 32, Completes (.quoinPoll req q v) s (fun t =>
        (∀ k, softRequester req = some k → t.qn.res.at 0 k = (if v.toNat ≤ x.count then 0 else 2 ^ 60) + x.count)
        ∧ t = { s with qn := { s.qn with res := t.qn.res }, out := { s.out with err := false } }))
    ∧ (∀ v : BitVec 32, v.toNat ≤ x.count → Completes (.quoinWait req q v) s (fun t =>
        t = { s with qn := { s.qn with res := t.qn.res }, out := { s.out with err := false } }))
    ∧ (∀ (v : BitVec 32) (st : Fin 32), x.count < v.toNat → req = .roster st →
        ((s.qn.parked.filter (fun p => parkSame p.who req)).length < 32 → Completes (.quoinWait req q v) s (fun t =>
          t = { s with qn := { s.qn with parked := s.qn.parked ++ [{ who := req, quoin := q.toNat, thresh := v.toNat }] }, out := { s.out with err := false } }))
        ∧ (32 ≤ (s.qn.parked.filter (fun p => parkSame p.who req)).length → Completes (.quoinWait req q v) s (fun t =>
          Counted s t [key 0x2861 3] ∧ t = { s with rep := t.rep, out := { s.out with err := true } })))
    ∧ (∀ v : BitVec 32, x.count < v.toNat → parkPlaces req = 0 → Completes (.quoinWait req q v) s (fun t =>
          Counted s t [key 0x2861 3] ∧ t = { s with qn := { s.qn with res := t.qn.res }, rep := t.rep, out := { s.out with err := true } })))
  ∧ (∀ v : BitVec 32, ∀ i ∈ [Instr.quoinSignal req q v, .quoinReset req q v, .quoinPoll req q v, .quoinWait req q v],
      (s.quoinIn (s.attrib req) q.toNat = true → (x.valid = true → x.owner = s.attrib req) → (x.damaged = true ∨ x.valid = false) →
        Completes i s (fun t => Counted s t [key 0x2861 2] ∧ t = { s with qn := { s.qn with res := t.qn.res }, rep := t.rep, out := { s.out with err := true } }))
      ∧ ((s.quoinIn (s.attrib req) q.toNat = false ∨ (x.valid = true ∧ x.owner ≠ s.attrib req)) → s.attrib req < 32 → s.ref.written < 64 → Completes i s (fun t =>
        Counted s t [key 0x2890 1, key 0x2891 (s.attrib req + 1), key 0x2892 9]
        ∧ t = { s with ref := t.ref, qn := { s.qn with res := t.qn.res }, rep := t.rep, out := { s.out with err := true } })))
  ∧ (∀ (k : Fin 4096) (b : List Byte), s.quoinIn (s.attrib req) k = true → b.length = 8 →
      ((quoinOf (leNat b)).owner = s.attrib req → (∀ p ∈ s.qn.parked, p.quoin ≠ k.val) → Completes (.quoinWrite req k b) s (fun t =>
        t.quoin k = quoinOf (leNat b) ∧ (∀ j, j ≠ k.val → t.quoin j = s.quoin j) ∧ t = { s with qn := { s.qn with quoin := t.qn.quoin }, out := { s.out with err := false } }))
      ∧ ((quoinOf (leNat b)).owner ≠ s.attrib req → Completes (.quoinWrite req k b) s (fun t => t = { s with out := { s.out with err := true } })))
  ∧ (∀ st : Fin 32, s.attrib req = st.val →
      (∀ k rest, (s.qn.nfy.at {} st).q = k :: rest → Completes (.qnNfyRead req st) s (fun t =>
        t.qn.nfy.at {} st = { q := rest, ovf := false } ∧ (∀ j, j ≠ st.val → t.qn.nfy.at {} j = s.qn.nfy.at {} j)
        ∧ t = { s with qn := { s.qn with nfy := t.qn.nfy }
                       out := { s.out with rdata := leBytes 8 (2 ^ 63 + bitIf (s.qn.nfy.at {} st).ovf 62 + k), err := false } }))
      ∧ ((s.qn.nfy.at {} st).q = [] → Completes (.qnNfyRead req st) s (fun t =>
        (t.qn.nfy.at {} st).ovf = false
        ∧ t = { s with qn := { s.qn with nfy := t.qn.nfy }, out := { s.out with rdata := leBytes 8 (bitIf (s.qn.nfy.at {} st).ovf 62), err := false } })))

/-- The sequencer of a neural core (08 R219-R221, R223). A row acts on a core that runs a slug, has not reached END and does not wait; the first command starts the slug's time. NOP goes on, SYNC goes on once the engines it names are idle and then forgets their ranges, END ends the fetch, STRIDE loads its entries while the Stream engine is idle. A command that belongs to another row stays for it; an OP that does not exist, a set bit outside the named fields and an error response abort the slug with causes 1, 2 and 7. -/
def Obligations.NeuralSequencer : Prop :=
  ∀ (s u : State) (c : Fin 16),
  ((s.core c).ready = false → ∀ i ∈ [Instr.nop c, .move c, .matmul c, .post c, .expand c, .stride c, .store c, .sync c, .endCmd c, .stream c,
      .maxpool c, .avgpool c, .dwconv c, .add c, .mul c, .max c, .min c, .lut c, .softmax c, .reduce c, .matvec c, .argmax c, .compare c, .upsample c, .copy c, .requant c],
      Completes i s (fun t => t = s))
  ∧ (s.fetches c u (some (leBytes 16 0)) → Completes (.nop c) s (fun t => u.onlyCore t c { u.core c with pc := (u.core c).pc + 1 }))
  ∧ ((s.core c).ready = true → (s.core c).started = none →
      s.fabric (.core c) ((s.core c).list + 16 * (s.core c).pc) (.read 16) .none 0 (s.core c).pc = (u, some (leBytes 16 0)) →
      Completes (.nop c) s (fun t => u.onlyCore t c { u.core c with pc := (u.core c).pc + 1, started := some u.clk.ref }))
  ∧ (s.fetches c u (some (leBytes 16 (0x0C * 2 ^ 120))) →
      Completes (.endCmd c) s (fun t => u.onlyCore t c { u.core c with ended := true }) ∧ Completes (.nop c) s (fun t => t = s))
  ∧ (∀ mask : BitVec 10, s.fetches c u (some (leBytes 16 (0x0B * 2 ^ 120 + mask.toNat))) →
      ((u.core c).synced mask.toNat = true → Completes (.sync c) s (fun t => u.onlyCore t c
        { u.core c with touched := (u.core c).touched.filter (fun x => !bit mask.toNat x.engine), pc := (u.core c).pc + 1 }))
      ∧ ((u.core c).synced mask.toNat = false → Completes (.sync c) s (fun t => t = u)))
  ∧ (∀ (first num : Nat) (src : BitVec 32), 1 ≤ first → 1 ≤ num → first + num ≤ 15 → u.galleyFault c src.toNat (4 * num) = none →
      s.fetches c u (some (leBytes 16 (7 * 2 ^ 120 + first * 2 ^ 116 + num * 2 ^ 112 + src.toNat * 2 ^ 64))) →
      ((u.core c).job = none → (u.core c).strms = [] → Completes (.stride c) s (fun t =>
        (∀ e, (t.core c).stride.at 0 e = if first ≤ e ∧ e < first + num then field (u.galley c src.toNat (4 * num)) (4 * (e - first)) 4 else (u.core c).stride.at 0 e)
        ∧ (∀ e, bit (t.core c).strideOk e = (decide (first ≤ e ∧ e < first + num) || bit (u.core c).strideOk e))
        ∧ u.onlyCore t c { u.core c with stride := (t.core c).stride, strideOk := (t.core c).strideOk, racy := (t.core c).racy, pc := (u.core c).pc + 1 }))
      ∧ ((u.core c).job ≠ none → Completes (.stride c) s (fun t => t = u)))
  ∧ (∀ v : BitVec 128, s.fetches c u (some (leBytes 16 v.toNat)) → u.slugSeqs c = [] → 0x0D ≤ v.toNat / 2 ^ 120 →
      ∀ i ∈ [Instr.nop c, .move c, .store c, .sync c, .copy c, .stream c], Completes i s (fun t => u.slugAborted t c 1))
  ∧ (∀ k : Fin 120, s.fetches c u (some (leBytes 16 (2 ^ k.val))) → u.slugSeqs c = [] → Completes (.nop c) s (fun t => u.slugAborted t c 2))
  ∧ (s.fetches c u none → u.slugSeqs c = [] → ∀ i ∈ [Instr.nop c, .move c, .store c, .sync c, .copy c, .stream c], Completes i s (fun t => u.slugAborted t c 7))

/-- The commands of a neural core's engines (08 R209-R217, R221; 09 R237-R239, R242-R244). MOVE copies galley bytes into a forme, a block into the V-Forme and a thirty-second part into each bank of a W- or A-Forme; MATMUL accumulates the products of its array into the plane it uses and lets it drain where DRAIN is set, or waits in the queue; a tile drains once its slot is FREE; POST requantises a FULL slot into the galley and frees it, or waits; EXPAND writes the expanded rows; STORE writes galley bytes to memory. An operand out of its range aborts the slug with cause 2, a range of the galley that is not there with cause 2 and a granule of another station with cause 3. -/
def Obligations.NeuralCommands : Prop :=
  ∀ (s u : State) (c : Fin 16) (v : Nat),
  (s.fetch c ⟨0x01, none⟩ = .run u v → (u.core c).racy = false → (u.core c).touched = [] → ∀ sp, moveSpace c (bits v 116 4) = some sp →
      let src := bits v 32 32
      let len := bits v 0 32
      let f := bits v 80 16 * 32
      src % 32 = 0 → u.galleyFault c src len = none →
      (sp = 6 → len % 32 = 0 → f + len ≤ 32768 → Completes (.move c) s (fun t =>
        (∀ i, cellGet zeroByte (t.core c).vForme i = if f ≤ i ∧ i < f + len then (u.galley c src len).getD (i - f) 0 else cellGet zeroByte (u.core c).vForme i)
        ∧ u.onlyCore t c { u.core c with vForme := (t.core c).vForme, touched := (t.core c).touched, pc := (u.core c).pc + 1 }))
      ∧ (sp = 1 → len % 1024 = 0 → f + len / 32 ≤ 2048 → Completes (.move c) s (fun t =>
        (∀ b i, b < 32 → i < 2048 → cellGet zeroByte (t.core c).wForme (b * 2048 + i)
          = if f ≤ i ∧ i < f + len / 32 then (u.galley c src len).getD (b * (len / 32) + (i - f)) 0 else cellGet zeroByte (u.core c).wForme (b * 2048 + i))
        ∧ u.onlyCore t c { u.core c with wForme := (t.core c).wForme, touched := (t.core c).touched, pc := (u.core c).pc + 1 }))
      ∧ (2 ≤ sp → sp ≤ 5 → len % 1024 = 0 → f + len / 32 ≤ 1024 → Completes (.move c) s (fun t =>
        (∀ b i, b < 32 → i < 1024 → cellGet zeroByte ((t.core c).aForme.at [] (sp - 2)) (b * 1024 + i)
          = if f ≤ i ∧ i < f + len / 32 then (u.galley c src len).getD (b * (len / 32) + (i - f)) 0 else cellGet zeroByte ((u.core c).aForme.at [] (sp - 2)) (b * 1024 + i))
        ∧ (∀ m, m ≠ sp - 2 → (t.core c).aForme.at [] m = (u.core c).aForme.at [] m)
        ∧ u.onlyCore t c { u.core c with aForme := (t.core c).aForme, touched := (t.core c).touched, pc := (u.core c).pc + 1 })))
  ∧ (s.fetch c ⟨0x01, none⟩ = .run u v → u.slugSeqs c = [] →
      ((moveSpace c (bits v 116 4) = none ∨ bits v 32 32 % 32 ≠ 0 ∨ bits v 0 32 % 32 ≠ 0) → Completes (.move c) s (fun t => u.slugAborted t c 2))
      ∧ (moveSpace c (bits v 116 4) = some 6 → bits v 32 32 % 32 = 0 → bits v 0 32 % 32 = 0 → bits v 80 16 * 32 + bits v 0 32 ≤ 32768 → bits v 0 32 ≠ 0 →
          galleySize c < bits v 32 32 + bits v 0 32 → Completes (.move c) s (fun t => u.slugAborted t c 2))
      ∧ (moveSpace c (bits v 116 4) = some 6 → bits v 32 32 % 32 = 0 → bits v 0 32 = 32 → bits v 80 16 * 32 + 32 ≤ 32768 → bits v 32 32 + 32 ≤ galleySize c →
          u.granuleOf c (bits v 32 32 / 0x8000) ≠ (u.core c).station → Completes (.move c) s (fun t =>
            (t.core c).state ≠ .running ∧ (t.core c).cause = 3 ∧ t.ref.seq = (u.ref.seq + 1) % 2 ^ 32 ∧ (∀ k, k ≠ c.val → t.core k = u.core k) ∧ t.mem = u.mem)))
  ∧ (s.fetch c ⟨0x02, none⟩ = .run u v → ∀ m, matArrays v = [m] → m < arrayCount c → bits v 111 3 < 5 → 1 ≤ bits v 48 16 → bits v 48 16 ≤ 2048 →
      bits v 64 16 + bits v 48 16 * actBytes (bits v 111 3) ≤ 1024 → bits v 80 16 + bits v 48 16 ≤ 2048 → (u.core c).mats = [] → v < 2 ^ 128 →
      let p := (u.core c).planeFor m (bit v 119)
      ((u.core c).matFree v = true → Completes (.matmul c) s (fun t =>
        (∀ n, n < 1024 → Tab.at 0 ((t.core c).plane.at [] (2 * m + p)) n
          = cellSum (bits v 111 3) (bits v 48 16) (fun i => cellGet zeroByte ((u.core c).aForme.at [] m) (n / 32 * 1024 + bits v 64 16 + i))
              (fun i => cellGet zeroByte (u.core c).wForme (n % 32 * 2048 + bits v 80 16 + i)) (if bit v 119 then 0 else Tab.at 0 ((u.core c).plane.at [] (2 * m + p)) n))
        ∧ (∀ k, k ≠ 2 * m + p → (t.core c).plane.at [] k = (u.core c).plane.at [] k) ∧ (t.core c).cur.at 0 m = p
        ∧ (t.core c).drains = (if bit v 118 then (u.core c).drains ++ [{ array := m, plane := p, slot := (bits v 108 3 + m) % 8 }] else (u.core c).drains)
        ∧ u.onlyCore t c { u.core c with plane := (t.core c).plane, cur := (t.core c).cur, drains := (t.core c).drains, touched := (t.core c).touched
                                         racy := (t.core c).racy, mats := [], pc := (u.core c).pc + 1 }))
      ∧ ((u.core c).matFree v = false → Completes (.matmul c) s (fun t =>
        u.onlyCore t c { u.core c with touched := (t.core c).touched, racy := (t.core c).racy, mats := [queued (u.core c).pc v], pc := (u.core c).pc + 1 })))
  ∧ (s.fetch c ⟨0x02, none⟩ = .run u v → u.slugSeqs c = [] →
      (5 ≤ bits v 111 3 ∨ bits v 48 16 = 0 ∨ 2048 < bits v 48 16 ∨ matArrays v = [] ∨ ∃ m ∈ matArrays v, arrayCount c ≤ m) → Completes (.matmul c) s (fun t => u.slugAborted t c 2))
  ∧ (∀ (m : Fin 4) d, (u.core c).state = .running → (u.core c).drains.find? (fun x => x.array == m.val) = some d → (u.core c).mats = [] → (u.core c).posts = [] →
      (bit (u.core c).pFull d.slot = false → Completes (.tileDrain c m) u (fun t =>
        (t.core c).pSlot.at [] d.slot = (u.core c).plane.at [] (2 * d.array + d.plane) ∧ (∀ k, k ≠ d.slot → (t.core c).pSlot.at [] k = (u.core c).pSlot.at [] k)
        ∧ u.onlyCore t c { u.core c with pSlot := (t.core c).pSlot, pFull := (u.core c).pFull + 2 ^ d.slot, drains := (u.core c).drains.erase d }))
      ∧ (bit (u.core c).pFull d.slot = true → Completes (.tileDrain c m) u (fun t => t = u)))
  ∧ (s.fetch c ⟨0x03, none⟩ = .run u v → (u.core c).posts = [] → (u.core c).touched = [] → v < 2 ^ 128 →
      let slot := bits v 117 3
      let param := bits v 64 32
      let dest := bits v 32 32
      let pitch := bits v 96 16
      let b := u.galley c param (postLen (leNat (u.galley c (param + 1) 1)))
      let n := field b 3 1 * elemSize (field b 0 1)
      (bit (u.core c).pFull slot = false → Completes (.post c) s (fun t =>
        u.onlyCore t c { u.core c with posts := [queued (u.core c).pc v], touched := (t.core c).touched, pc := (u.core c).pc + 1 }))
      ∧ (bit (u.core c).pFull slot = true → (u.core c).racy = false → param % 32 = 0 → u.galleyFault c param (postLen (leNat (u.galley c (param + 1) 1))) = none → postOk b = true →
          u.galleyFaults c ((List.range (field b 2 1)).map (fun i => (dest + i * pitch, n))) = none → n ≤ pitch → Completes (.post c) s (fun t =>
        (∀ i j, i < field b 2 1 → j < n → cellGet zeroByte (t.core c).galley (dest + i * pitch + j) = (postRow b ((u.core c).pSlot.at [] slot) i).getD j 0)
        ∧ (∀ a, (∀ i, i < field b 2 1 → ¬ (dest + i * pitch ≤ a ∧ a < dest + i * pitch + n)) → cellGet zeroByte (t.core c).galley a = cellGet zeroByte (u.core c).galley a)
        ∧ u.onlyCore t c { u.core c with galley := (t.core c).galley, pFull := (u.core c).pFull - 2 ^ slot, touched := (t.core c).touched, pc := (u.core c).pc + 1 })))
  ∧ (s.fetch c ⟨0x05, none⟩ = .run u v → (u.core c).racy = false → (u.core c).touched = [] →
      let g := geomOf (u.galley c (bits v 64 32) 64)
      let src := bits v 0 32
      let dest := bits v 32 32
      let n := (g.inH - 1) * g.yp + (g.inW - 1) * g.xp + (g.inC - 1) * g.cp + g.elem
      let m := g.count * g.kp
      bits v 64 32 % 32 = 0 → u.galleyFault c (bits v 64 32) 64 = none →
      (g.ok (galleySize c) = true → (dest + m ≤ src ∨ src + n ≤ dest) → u.galleyFaults c [(src, n), (dest, m)] = none → Completes (.expand c) s (fun t =>
        (∀ r j i, r < g.count → j < g.kp / g.elem → i < g.elem → cellGet zeroByte (t.core c).galley (dest + r * g.kp + j * g.elem + i)
          = (g.element (u.galley c) src (g.oy0 * g.ow + g.ox0 + r) (g.kbeg + j)).getD i 0)
        ∧ (∀ a, ¬ (dest ≤ a ∧ a < dest + m) → cellGet zeroByte (t.core c).galley a = cellGet zeroByte (u.core c).galley a)
        ∧ u.onlyCore t c { u.core c with galley := (t.core c).galley, touched := (t.core c).touched, pc := (u.core c).pc + 1 }))
      ∧ (g.ok (galleySize c) = false → u.slugSeqs c = [] → Completes (.expand c) s (fun t => u.slugAborted t c 2)))
  ∧ (s.fetch c ⟨0x08, none⟩ = .run u v → (u.core c).racy = false → (u.core c).touched = [] → bit v 119 = false →
      let src := bits v 64 32
      let n := bits v 40 24
      let dst := bits v 0 40
      n % 4 = 0 → u.galleyFault c src n = none →
      (∀ p ∈ lineSplit dst n, (∃ w, regionOf p.1 = some (.scratch w) ∧ u.wayMode w = .scratch) ∧ u.check (.core c) (u.core c).station p.1 p.2 .write = none) →
      Completes (.store c) s (fun t =>
        (∀ a, t.byte a = if dst ≤ a ∧ a < dst + n then (u.galley c src n).getD (a - dst) 0 else u.byte a)
        ∧ (∀ d, d ≠ c.val → t.core d = u.core d) ∧ t.core c = { u.core c with touched := (t.core c).touched, pc := (u.core c).pc + 1 }
        ∧ t = { u with nc := { u.nc with core := t.nc.core }, mem := { u.mem with bytes := t.mem.bytes } }))
  ∧ (s.fetch c ⟨0x08, none⟩ = .run u v → u.slugSeqs c = [] → bits v 40 24 % 4 ≠ 0 → Completes (.store c) s (fun t => u.slugAborted t c 2))

/-- The Vector engine (09 R245, R246, R249). Each of the sixteen operations writes, for every output position, the bytes of the codes that Table 9-9 gives there, at the destination pitches and channel offset; a value that the spec does not state is a free byte; nothing else in the galley changes. A parameter block that is not 32-byte aligned, or that R249 refuses, aborts the slug with cause 2. -/
def Obligations.VectorCommands : Prop :=
  ∀ (s u : State) (c : Fin 16) (v : Nat),
  ∀ x ∈ [(0x01, Instr.maxpool c), (0x02, .avgpool c), (0x03, .dwconv c), (0x04, .add c), (0x05, .mul c), (0x06, .max c), (0x07, .min c), (0x08, .lut c),
      (0x09, .softmax c), (0x0A, .reduce c), (0x0B, .matvec c), (0x0C, .argmax c), (0x0D, .compare c), (0x0E, .upsample c), (0x0F, .copy c), (0x10, .requant c)],
  s.fetch c ⟨0x04, some x.1⟩ = .run u v →
  let param := bits v 64 32
  let dest := bits v 32 32
  let blk := u.galley c param (vecLen x.1 (vecBlk (u.galley c param 64)))
  let b := vecBlk blk
  let d := vecDims x.1 b
  let es := elemSize b.outT
  let start (y z : Nat) : Nat := dest + y * b.dyp + z * b.dcp * es + b.dcoff * es
  let codes (y z : Nat) : List (Option Byte) := codeBytes es (vecAt x.1 b blk (cellGet zeroByte (u.core c).vForme) y z)
  (param % 32 = 0 → u.galleyFault c param 64 = none → u.galleyFault c param (vecLen x.1 (vecBlk (u.galley c param 64))) = none → vecOk x.1 blk = true →
      u.galleyFault c dest ((d.1 - 1) * b.dyp + (d.2.1 - 1) * b.dcp * es + (b.dcoff + d.2.2) * es) = none → (d.1 = 1 ∨ d.2.1 * b.dcp * es ≤ b.dyp) →
      (u.core c).racy = false → (u.core c).touched = [] → Completes x.2 s (fun t =>
        (∀ y z i w, y < d.1 → z < d.2.1 → (codes y z)[i]? = some (some w) → cellGet zeroByte (t.core c).galley (start y z + i) = w)
        ∧ (∀ a, (∀ y z, y < d.1 → z < d.2.1 → ¬ (start y z ≤ a ∧ a < start y z + d.2.2 * es)) → cellGet zeroByte (t.core c).galley a = cellGet zeroByte (u.core c).galley a)
        ∧ (∀ k, k ≠ c.val → t.core k = u.core k)
        ∧ t.core c = { u.core c with galley := (t.core c).galley, touched := (t.core c).touched, pc := (u.core c).pc + 1 }
        ∧ t = { u with nc := { u.nc with core := t.nc.core }, free := t.free }))
  ∧ (u.slugSeqs c = [] → (param % 32 ≠ 0 ∨ (u.galleyFault c param 64 = none ∧ u.galleyFault c param (vecLen x.1 (vecBlk (u.galley c param 64))) = none ∧ vecOk x.1 blk = false)) →
      Completes x.2 s (fun t => u.slugAborted t c 2))

/-- The Stream engine (07 R190, R200-R202; 08 R220, R221). STREAM starts its job with BASE and size of the rings as they stand, or waits while a job runs. The next committed index entry is taken: a data entry issues its reads and moves DEST on, DEST and END entries are done at once and released, a SIGNAL waits for everything earlier. The data of a run enter the galley and its entry is released; with the last one the job ends and is counted. An entry that the table does not list, or whose reads leave the galley, stops the job with cause 2, an error response with cause 7, each counted. -/
def Obligations.StreamCommands : Prop :=
  ∀ (s u : State) (c : Fin 16),
  (∀ v, s.fetch c ⟨0x06, none⟩ = .run u v → v < 2 ^ 128 →
      (bits v 40 24 % 64 = 0 → u.galleyFault c (bits v 40 24) 1 = none →
        ((u.core c).job = none → (u.core c).strms = [] → Completes (.stream c) s (fun t =>
          u.onlyCore t c { u.core c with pc := (u.core c).pc + 1, job := some (
            { isRing := bit v 119, src := (if bit v 119 then bits v 0 40 % 65536 else bits v 0 40)
              base := (if bit v 119 then (u.ring (bits v 0 40 % 65536)).base else bits v 0 40), size := (u.ring (bits v 0 40 % 65536)).size
              iring := bits v 84 16, ibase := (u.ring (bits v 84 16)).base, isize := (u.ring (bits v 84 16)).size, pos := (u.ring (bits v 84 16)).tail
              count := bits v 64 20, dest := bits v 40 24, quoin := bits v 100 12 } : StreamJob) }))
        ∧ ((u.core c).job ≠ none → (u.core c).strms.length < 4 → Completes (.stream c) s (fun t =>
          u.onlyCore t c { u.core c with pc := (u.core c).pc + 1, strms := (u.core c).strms ++ [queued (u.core c).pc v] }))
        ∧ (4 ≤ (u.core c).strms.length → Completes (.stream c) s (fun t => t = u)))
      ∧ (bits v 40 24 % 64 ≠ 0 → u.slugSeqs c = [] → Completes (.stream c) s (fun t => u.slugAborted t c 2)))
  ∧ (∀ j, (s.core c).state = .running → (s.core c).job = some j → (j.done = true ∨ after 32 (s.ring j.iring).head j.pos = false) → Completes (.streamEntry c) s (fun t => t = s))
  ∧ ((s.core c).state ≠ .running ∨ (s.core c).job = none → Completes (.streamEntry c) s (fun t => t = s) ∧ ∀ k e, Completes (.streamReadComplete c k e) s (fun t => t = s))
  ∧ (∀ j, (s.core c).state = .running → (s.core c).job = some j → j.done = false → after 32 (s.ring j.iring).head j.pos = true → u.core c = s.core c →
      (∀ e, e < 2 ^ 32 → s.readPieces (.core c) (s.core c).pc (ringPieces j.ibase j.isize j.pos 4) = (u, some (leBytes 4 e)) →
        (bits e 0 4 = 0 → u.galleyFault c j.dest (entryLen e) = none → u.runInside (u.core c).station j (j.piece (bits e 12 20 * 64) (entryLen e)) = true →
          Completes (.streamEntry c) s (fun t => u.onlyCore t c { u.core c with job := some { j with pos := (j.pos + 4) % 2 ^ 32, taken := j.taken + 1, dest := j.dest + entryLen e, runs := j.runs ++ [{ pieces := j.piece (bits e 12 20 * 64) (entryLen e), dest := j.dest }], done := decide (j.count ≠ 0 ∧ j.count ≤ j.taken + 1) } }))
        ∧ (bits e 0 4 = 0 → u.galleyFault c j.dest (entryLen e) = some (2, j.dest) → u.slugSeqs c = [] → Completes (.streamEntry c) s (fun t =>
            (t.core c).state ≠ .running ∧ (t.core c).cause = 2 ∧ (t.core c).job = none ∧ Counted u t [key 0x2862 3, key (0x2870 + c) 2] ∧ (∀ d, d ≠ c.val → t.core d = u.core d)))
        ∧ (bits e 0 4 = 15 → bits e 4 8 = 1 → u.ringOpen (.core c) j.iring → 4 ≤ (u.ring j.iring).content → (u.ring j.iring).cqEn = false → j.count = 0 →
          Completes (.streamEntry c) s (fun t =>
            t.core c = { u.core c with job := some { j with pos := (j.pos + 4) % 2 ^ 32, taken := j.taken + 1, dest := bits e 12 20 * 64 } }
            ∧ (∀ d, d ≠ c.val → t.core d = u.core d) ∧ (t.ring j.iring).tail = ((u.ring j.iring).tail + 4) % 2 ^ 32 ∧ (∀ r, r ≠ j.iring → t.ring r = u.ring r)
            ∧ t = { u with nc := { u.nc with core := t.nc.core }, rg := { u.rg with ring := t.rg.ring } }))
        ∧ (bits e 0 4 = 15 → bits e 4 8 = 2 → j.runs = [] → (u.core c).strms = [] → u.ringOpen (.core c) j.iring → 4 ≤ (u.ring j.iring).content → (u.ring j.iring).cqEn = false →
          Completes (.streamEntry c) s (fun t =>
            t.core c = { u.core c with job := none } ∧ (∀ d, d ≠ c.val → t.core d = u.core d) ∧ (t.ring j.iring).tail = ((u.ring j.iring).tail + 4) % 2 ^ 32
            ∧ Counted u t [key 0x2862 1] ∧ t = { u with nc := { u.nc with core := t.nc.core }, rg := { u.rg with ring := t.rg.ring }, rep := t.rep }))
        ∧ (bits e 0 4 = 15 → bits e 4 8 = 0 → j.runs ≠ [] → Completes (.streamEntry c) s (fun t => t = u))
        ∧ (bits e 0 4 = 15 → 3 ≤ bits e 4 8 → u.slugSeqs c = [] → Completes (.streamEntry c) s (fun t =>
            (t.core c).state ≠ .running ∧ (t.core c).cause = 2 ∧ Counted u t [key 0x2862 3, key (0x2870 + c) 2] ∧ (∀ d, d ≠ c.val → t.core d = u.core d))))
      ∧ (s.readPieces (.core c) (s.core c).pc (ringPieces j.ibase j.isize j.pos 4) = (u, none) → u.slugSeqs c = [] → Completes (.streamEntry c) s (fun t =>
            (t.core c).state ≠ .running ∧ (t.core c).cause = 7 ∧ Counted u t [key 0x2862 4, key (0x2870 + c) 2] ∧ (∀ d, d ≠ c.val → t.core d = u.core d))))
  ∧ (∀ j (k : Nat) r e, (s.core c).state = .running → (s.core c).job = some j → j.runs[k]? = some r →
      (∀ x, s.readRun c e r.pieces = (u, some x) → (u.core c).racy = false → (u.core c).touched = [] → u.core c = s.core c → (j.done = false ∨ j.runs.length ≠ 1) →
        u.ringOpen (.core c) j.iring → 4 ≤ (u.ring j.iring).content → (u.ring j.iring).cqEn = false → Completes (.streamReadComplete c k e) s (fun t =>
          (∀ a, cellGet zeroByte (t.core c).galley a = if r.dest ≤ a ∧ a < r.dest + x.length then x.getD (a - r.dest) 0 else cellGet zeroByte (u.core c).galley a)
          ∧ t.core c = { u.core c with galley := (t.core c).galley, job := some { j with runs := j.runs.eraseIdx k } } ∧ (∀ d, d ≠ c.val → t.core d = u.core d)
          ∧ (t.ring j.iring).tail = ((u.ring j.iring).tail + 4) % 2 ^ 32 ∧ (∀ i, i ≠ j.iring → t.ring i = u.ring i)
          ∧ t = { u with nc := { u.nc with core := t.nc.core }, rg := { u.rg with ring := t.rg.ring } }))
      ∧ (s.readRun c e r.pieces = (u, none) → u.slugSeqs c = [] → Completes (.streamReadComplete c k e) s (fun t =>
          (t.core c).state ≠ .running ∧ (t.core c).cause = 7 ∧ Counted u t [key 0x2862 4, key (0x2870 + c) 2] ∧ (∀ d, d ≠ c.val → t.core d = u.core d))))

/-- Tests, retirement and the ends of slugs (07 R203; 08 R223-R229, R232). A start-up test that passes clears the core and makes it live and idle, one that fails retires it with reason 1; a short test that passes clears the formes and leaves the galley, one that fails gives reason 2; a test with no gap in ten periods is counted once. RETIRE retires the idle cores it names and marks the busy ones; TEST is refused while a station admits, and else tests the cores it names in a long operation. An uncorrectable error in galley or forme retires a core with reason 4 or 5. An overrun, an expired claim or wait and an ended slug free the core, each under its own counter. -/
def Obligations.CoreTestsAndSlugEnds : Prop :=
  ∀ (s : State) (c : Fin 16),
  (s.inStartup c = true →
      ((s.core c).retire = false → Completes (.startupTestComplete c true) s (fun t =>
        t.core c = { s.core c with state := .idle, galley := [], wForme := [], aForme := [], vForme := [], pSlot := [], pFull := 0, plane := [], cur := [], testBase := s.clk.ref }
        ∧ (∀ d, d ≠ c.val → t.core d = s.core d) ∧ t.rs = { s.rs with live := s.rs.live + 2 ^ c.val, started := true }
        ∧ t = { s with nc := { s.nc with core := t.nc.core }, rs := t.rs, rep := t.rep }))
      ∧ Completes (.startupTestComplete c false) s (fun t =>
        (t.core c).state = .retired ∧ (t.core c).reason = 1 ∧ (∀ d, d ≠ c.val → t.core d = s.core d) ∧ Counted s t [key (0x2870 + c) 6]
        ∧ t = { s with nc := { s.nc with core := t.nc.core }, qn := t.qn, rg := t.rg, rep := t.rep }))
  ∧ (s.inStartup c = false → ∀ b, Completes (.startupTestComplete c b) s (fun t => t = s))
  ∧ ((s.core c).state = .testing → bit s.rs.live c = true → bit s.nc.testing c = false →
      ((s.core c).retire = false → Completes (.shortTestComplete c true) s (fun t =>
        t.core c = { s.core c with state := .idle, wForme := [], aForme := [], vForme := [], pSlot := [], pFull := 0, plane := [], cur := [] }
        ∧ (∀ d, d ≠ c.val → t.core d = s.core d) ∧ Counted s t [key (0x2870 + c) 4] ∧ t = { s with nc := { s.nc with core := t.nc.core }, rep := t.rep }))
      ∧ Completes (.shortTestComplete c false) s (fun t =>
        (t.core c).state = .retired ∧ (t.core c).reason = 2 ∧ (∀ d, d ≠ c.val → t.core d = s.core d) ∧ Counted s t [key (0x2870 + c) 6]
        ∧ t = { s with nc := { s.nc with core := t.nc.core }, qn := t.qn, rg := t.rg, rep := t.rep }))
  ∧ (s.testPeriod ≠ 0 → (s.core c).deferred = false → ((s.core c).state = .idle ∨ (s.core c).state = .running) → Completes (.shortTestDeferred c) s (fun t =>
        t.core c = { s.core c with deferred := true } ∧ (∀ d, d ≠ c.val → t.core d = s.core d) ∧ Counted s t [key (0x2870 + c) 5]
        ∧ t = { s with nc := { s.nc with core := t.nc.core }, rep := t.rep }))
  ∧ (s.testPeriod = 0 → Completes (.shortTestDeferred c) s (fun t => t = s))
  ∧ (∀ m : BitVec 16, s.answers → Completes (.retire m) s (fun t =>
        ((bit m.toNat c = false ∨ (s.core c).state = .retired) → t.core c = s.core c)
        ∧ (bit m.toNat c = true → (s.core c).state = .idle → (t.core c).state = .retired ∧ (t.core c).reason = 6)
        ∧ (bit m.toNat c = true → ((s.core c).state = .running ∨ (s.core c).state = .testing) → t.core c = { s.core c with retire := true })
        ∧ t.out.resp = some .ok ∧ t = { s with nc := { s.nc with core := t.nc.core }, qn := t.qn, rg := t.rg, rep := t.rep, out := t.out }))
  ∧ (∀ m : BitVec 16, s.answers →
      (s.anyAdmit = true → Completes (.test m) s (fun t => t = { s with out := { s.out with resp := some (.abort 0x08000020) } }))
      ∧ (s.anyAdmit = false → Completes (.test m) s (fun t =>
        t.od.longop = some { code := 6, inst := 255, arg := m.toNat, started := s.clk.ref } ∧ bit t.nc.testing c = (bit m.toNat c && !s.retired c)
        ∧ t.core c = (if bit m.toNat c = true ∧ (s.core c).state = .idle then { s.core c with state := .testing } else s.core c)
        ∧ t.out.resp = some .ok ∧ t = { s with od := { s.od with longop := t.od.longop }, nc := t.nc, rep := t.rep, out := t.out })))
  ∧ (s.retired c = false → ∀ b : Bool, Completes (.coreMemoryUncorrectable c b) s (fun t =>
        (t.core c).state = .retired ∧ (t.core c).reason = (if b then 5 else 4) ∧ (∀ d, d ≠ c.val → t.core d = s.core d)
        ∧ Counted s t [key 0x285A (if b then 4 else 2)] ∧ t = { s with nc := { s.nc with core := t.nc.core }, qn := t.qn, rg := t.rg, rep := t.rep }))
  ∧ (s.retired c = true → ∀ b : Bool, Completes (.coreMemoryUncorrectable c b) s (fun t => t = s))
  ∧ (s.slugSeqs c = [] →
      ((s.core c).state = .running → (s.core c).started ≠ none → (s.core c).ended = false → Completes (.slugOverrun c) s (fun t =>
        (t.core c).state ≠ .running ∧ (t.core c).cause = 5 ∧ Counted s t [key (0x2870 + c) 3] ∧ (∀ d, d ≠ c.val → t.core d = s.core d)
        ∧ t = { s with nc := { s.nc with core := t.nc.core }, qn := t.qn, rg := t.rg, rs := t.rs, rep := t.rep }))
      ∧ (∀ b, s.rg.blocked.find? (fun x => x.req == .core c) = some b → (s.core c).state = .running → Completes (.claimLimitExpiry c) s (fun t =>
        (t.core c).state ≠ .running ∧ (t.core c).cause = 6 ∧ Counted s t [key 0x2862 2] ∧ (∀ x ∈ t.rg.blocked, x.req ≠ .core c) ∧ (∀ d, d ≠ c.val → t.core d = s.core d)))
      ∧ (∀ b, s.qn.parked.find? (fun x => x.who == .core c) = some b → (s.core c).state = .running → Completes (.waitLimitExpiry c) s (fun t =>
        (t.core c).state ≠ .running ∧ (t.core c).cause = 6 ∧ Counted s t [key 0x2862 2] ∧ (∀ x ∈ t.qn.parked, x.who ≠ .core c) ∧ (∀ d, d ≠ c.val → t.core d = s.core d))))
  ∧ ((s.core c).state ≠ .running → Completes (.slugOverrun c) s (fun t => t = s) ∧ ∀ a b, Completes (.slugComplete c a b) s (fun t => t = s))
  ∧ (s.rg.blocked.find? (fun x => x.req == .core c) = none → Completes (.claimLimitExpiry c) s (fun t => t = s))
  ∧ (s.qn.parked.find? (fun x => x.who == .core c) = none → Completes (.waitLimitExpiry c) s (fun t => t = s))
  ∧ ((s.core c).state = .running → (s.core c).ended = true → (s.core c).enginesIdle = true →
      let sl := s.rs.slug.at ({} : Slug) c
      committedFrom (s.ring (s.carryRing sl.package c)) sl.crStart = 0 →
      (sl.seqs = [] → sl.last = false → Completes (.slugComplete c 0 0) s (fun t =>
        (t.core c).state ≠ .running ∧ (t.core c).ended = false ∧ (t.core c).started = none ∧ t.rs.slug.at ({} : Slug) c = {} ∧ Counted s t [key (0x2870 + c) 1]
        ∧ (∀ d, d ≠ c.val → t.core d = s.core d)))
      ∧ (∀ k e, sl.seqs = [(k, e)] → e < 1024 → sl.last = true → committedFrom (s.ring (s.verdictRing sl.package c)) sl.vrStart < 16 → s.rs.wins = [] →
          (s.seq e).state = .running → (s.seq e).partsRun = 1 → (s.seq e).partsLeft = [] → s.deadlineDue e = false → s.link.up = true →
          (s.cueUse (s.seq e).cue).used = true → s.stState (s.seq e).station ≠ .draining → Completes (.slugComplete c 0 0) s (fun t =>
        (t.core c).state ≠ .running ∧ t.seq e = {} ∧ t.link.txq = s.link.txq ++ [.verdict (s.seq e).cue .unseen] ∧ Counted s t [key (0x2870 + c) 1, key 0x2880 0x0A])))

/-- The Roster (10 R255-R257, R260-R263, R271, R272, R278). Its step does nothing before the first live core and while sleep is entered; a waiting sequence goes as a slug to an idle core that its template names, which then runs, where the Referee grants the Roster what it reads and writes for it, and ends where it does not (11 Table 11-6); with nothing left over, a due test starts on an idle core whose class keeps another. A released window opens a READY sequence in the lowest free entry with its deadline before the kick, or counts a refusal where the quota is used up. A sequence at its deadline ends UNSEEN and is counted; the sequences of a retired core that may not run again end as LOST, and its bit leaves the core map. -/
def Obligations.RosterSteps : Prop :=
  ∀ s : State,
  ((s.rs.started = false ∨ s.computeRuns = false ∨ s.pwr.entering = true) → Completes .rosterStep s (fun t => t = s))
  ∧ (s.rs.started = true → s.computeRuns = true → s.pwr.entering = false → (∀ st, st < 32 → (s.chain st).next = none ∧ s.mayInstall st = false) →
      (s.rs.seq = [] →
        (s.testPeriod = 0 → Completes .rosterStep s (fun t => t = { s with link := { s.link with rosterStall := false }, rs := { s.rs with makeup := 0 } }))
        ∧ (∀ c d : Fin 16, c ≠ d → isQuad c = isQuad d → s.idleCores = [c.val, d.val] → s.testPeriod ≠ 0 →
            (s.core c).testBase + s.testPeriod * Config.psPerS ≤ s.clk.ref → (s.core c).retire = false → Completes .rosterStep s (fun t =>
          t.core c = { s.core c with state := .testing, testBase := s.clk.ref, deferred := false } ∧ (∀ k, k ≠ c.val → t.core k = s.core k)
          ∧ Counted s t [key 0x2880 0x0C]
          ∧ t = { s with link := { s.link with rosterStall := false }, rs := { s.rs with makeup := 0 }, nc := { s.nc with core := t.nc.core }, rep := t.rep })))
      ∧ (∀ (e : Nat) (q : SeqEntry) (c : Fin 16), s.rs.seq = [(e, q)] → q.state = .ready → q.batch = 0 → q.partsLeft = [0] → s.viewOk (s.stClock q.station) = true →
          (s.template q.package q.variant q.model q.step).parts = 1 → s.candidates (s.template q.package q.variant q.model q.step) ≠ [] → s.idleCores = [c.val] →
          (c.val ∈ s.candidates (s.template q.package q.variant q.model q.step) →
            let s1 := { s with link := { s.link with rosterStall := false } }
            ((∀ home warm, (s1.placeGroup (s1.mkGroup [e] 0) c home warm).2 = true) → Completes .rosterStep s (fun t =>
              (t.core c).state = .running ∧ (t.core c).station = q.station ∧ (t.seq e).state = .running ∧ (t.seq e).partsRun = q.partsRun + 1 ∧ (t.seq e).partsLeft = []
              ∧ (t.rs.slug.at ({} : Slug) c).on = true ∧ t.rs.makeup = 1))
            ∧ ((∀ home warm, (s1.placeGroup (s1.mkGroup [e] 0) c home warm).2 = false) → Completes .rosterStep s (fun t =>
              (t.seq e).state = .free ∧ t.rs.makeup = 0)))
          ∧ (c.val ∉ s.candidates (s.template q.package q.variant q.model q.step) → Completes .rosterStep s (fun t =>
            t.seq e = q ∧ Counted s t [key 0x2880 0x0B] ∧ t = { s with link := { s.link with rosterStall := false }, rs := { s.rs with makeup := 0 }, rep := t.rep }))))
  ∧ (∀ (n : Fin 16) (w : Fin 32),
      (s.rs.rel.find? (fun x => x.channel == n.val && x.window == w.val) = none → Completes (.sequenceCreate n w) s (fun t => t = s))
      ∧ (∀ x, s.rs.rel.find? (fun x => x.channel == n.val && x.window == w.val) = some x →
        (s.stPackage (s.channelOwner n) = none → Completes (.sequenceCreate n w) s (fun t => t = { s with rs := { s.rs with rel := s.rs.rel.erase x } }))
        ∧ (∀ p cue v e, s.stPackage (s.channelOwner n) = some p → s.pkKind p x.window = 1 → s.link.up = true → s.pwr.entering = false →
            s.kickOf (s.channelOwner n) x.imp x.window = some cue → v = (if (s.cueUse cue).variant = 255 then (s.chain (s.channelOwner n)).variant else (s.cueUse cue).variant) →
            v ≠ 255 → s.pkHas p v = true →
            (s.seqInUse (s.channelOwner n) < s.stNum (s.channelOwner n) 0x23 → freeEntry s.rs.seq = some e →
              s.candidates (s.template p v (s.pkModel p x.window) 0) ≠ [] → Completes (.sequenceCreate n w) s (fun t =>
              t.seq e = { state := .ready, station := s.channelOwner n, package := p, variant := v, model := s.pkModel p x.window, window := x.window, tag := x.imp % 16, imp := x.imp, deadline := tickAt ((s.cueUse cue).pos / 256) (-(margin (s.pkVmax p) : Int)), cue := cue, partsLeft := List.range (s.template p v (s.pkModel p x.window) 0).parts, recRing := x.ring, recStart := x.start }
              ∧ (∀ k, k ≠ e → t.seq k = s.seq k) ∧ Counted s t [key 0x2880 1]
              ∧ t = { s with rs := { s.rs with rel := s.rs.rel.erase x, seq := t.rs.seq, wins := s.rs.wins ++ [{ ring := x.ring, start := x.start, len := x.len, seq := e }] }, rep := t.rep }))
            ∧ (s.stNum (s.channelOwner n) 0x23 ≤ s.seqInUse (s.channelOwner n) → (s.cueUse cue).used = true → (∀ y ∈ s.rs.wins, y.ring ≠ x.ring) → s.channelOwner n < 32 →
                s.ringOpen (.roster (Fin.ofNat 32 (s.channelOwner n))) x.ring → x.len ≠ 0 → x.len % 4 = 0 → x.len ≤ (s.ring x.ring).content → (s.ring x.ring).cqEn = false →
                Completes (.sequenceCreate n w) s (fun t =>
              t.rs.seq = s.rs.seq ∧ t.link.txq = s.link.txq ++ [.verdict cue .unseen] ∧ Counted s t [key 0x2880 3]
              ∧ (t.ring x.ring).tail = ((s.ring x.ring).tail + x.len) % 2 ^ 32 ∧ (∀ k, k ≠ x.ring → t.ring k = s.ring k))))))
  ∧ (∀ e : Fin 1024, s.rs.wins = [] → (s.seq e).state ≠ .free → (s.viewAt (s.stClock (s.seq e).station)).valid = true → s.deadlineDue e = true →
      s.link.up = true → (s.cueUse (s.seq e).cue).used = true → s.stState (s.seq e).station ≠ .draining → Completes (.sequenceDeadline e) s (fun t =>
        t.seq e = {} ∧ (∀ k, k ≠ e.val → t.seq k = s.seq k) ∧ t.link.txq = s.link.txq ++ [.verdict (s.seq e).cue .unseen] ∧ Counted s t [key 0x2880 4]
        ∧ t = { s with rs := { s.rs with seq := t.rs.seq, slug := t.rs.slug }, link := { s.link with txq := t.link.txq }, rep := t.rep }))
  ∧ (∀ e : Fin 1024, ((s.seq e).state = .free ∨ s.deadlineDue e = false) → Completes (.sequenceDeadline e) s (fun t => t = s))
  ∧ (∀ c : Fin 16, s.retired c = false → Completes (.rosterRetirement c) s (fun t => t = s))
  ∧ (∀ c : Fin 16, s.retired c = true → (∀ st, st < 32 → s.stPackage st = none) →
      (s.rs.seq = [] → s.slugSeqs c = [] → Completes (.rosterRetirement c) s (fun t =>
        (∀ k, k < 16 → bit t.rs.live k = (bit s.rs.live k && decide (k ≠ c.val))) ∧ t.rs.slug.at ({} : Slug) c = {}
        ∧ t = { s with rs := { s.rs with live := t.rs.live, slug := t.rs.slug } }))
      ∧ (∀ e q, s.rs.seq = [(e, q)] → s.slugSeqs c = [e] → q.state ≠ .free → q.rerun = true → s.rs.wins = [] → s.link.up = true → (s.cueUse q.cue).used = true →
          s.stState q.station ≠ .draining → Completes (.rosterRetirement c) s (fun t =>
        t.seq e = {} ∧ t.link.txq = s.link.txq ++ [.verdict q.cue .unseen] ∧ Counted s t [key 0x2880 5] ∧ bit t.rs.live c = false)))

/-- The PCIe host port and the harts' timer (12 R297, R303-R305, R320; 14 R348). An outbound read ends with the data of its completion, or with an error response that is counted, an unsupported request and a timeout included. A function-level reset returns that function, its mailbox and its reads to their reset state and PERST_N all functions, each counted once; the link's fall ends every read and is counted. Configuration requests are retried until CFG_READY or its time-out, then served. A timer interrupt takes its hart out of WFI and the machine out of Doze. -/
def Obligations.HostPort : Prop :=
  ∀ s : State,
  (∀ (tag : Fin 1024) (o : Outbound) (d : List Byte), s.host.outst.find? (fun x => x.tag == tag.val) = some o → s.mem.waiting = [] →
      Completes (.outboundCompletion tag .success d) s (fun t =>
        t = { s with host := { s.host with outst := s.host.outst.erase o }, out := { s.out with rdata := d.take o.len, err := false } })
      ∧ Completes (.outboundCompletion tag .unsupported d) s (fun t => Counted s t [key 0x28A0 2, key 0x28A0 3]
        ∧ t = { s with host := { s.host with outst := s.host.outst.erase o }, out := { s.out with rdata := [], err := true }, rep := t.rep })
      ∧ Completes (.outboundCompletion tag .abort d) s (fun t => Counted s t [key 0x28A0 3]
        ∧ t = { s with host := { s.host with outst := s.host.outst.erase o }, out := { s.out with rdata := [], err := true }, rep := t.rep })
      ∧ Completes (.outboundCompletionTimeout tag) s (fun t => Counted s t [key 0x28A0 3]
        ∧ t = { s with host := { s.host with outst := s.host.outst.erase o }, out := { s.out with rdata := [], err := true }, rep := t.rep }))
  ∧ (∀ (tag : Fin 1024) c d, s.host.outst.find? (fun x => x.tag == tag.val) = none →
      Completes (.outboundCompletion tag c d) s (fun t => t = s) ∧ Completes (.outboundCompletionTimeout tag) s (fun t => t = s))
  ∧ (∀ (tag : Fin 1024) (o : Outbound) (x : WaitingAccess) (d : List Byte) (n : Nat), s.host.outst = [o] → o.tag = tag.val → s.mem.waiting = [x] → regionOf x.addr = some .outbound → x.op = .read n →
      s.host.linkUp = true → s.funcOn x.station = true → (s.func x.station).bme = true → Completes (.outboundCompletion tag .success d) s (fun t =>
        t.mem.waiting = [] ∧ t.host.outst = [{ tag := 0, fn := x.station, addr := s.host.outBase / 4096 * 4096 + (x.addr - outBase), len := n }] ∧ t.out.rdata = d.take o.len))
  ∧ (∀ f : Fin 32, s.computeRuns = true → s.funcOn f = true → Completes (.functionLevelReset f) s (fun t =>
        t.func f = {} ∧ (∀ k, k ≠ f.val → t.func k = s.func k) ∧ t.host.outst = s.host.outst.filter (fun o => o.fn != f.val)
        ∧ t.host.numVfs = (if f = 0 then 0 else s.host.numVfs) ∧ (∀ w ∈ t.od.waiting, w.path ≠ .mailbox f) ∧ Counted s t [key 0x28A0 5]
        ∧ t = { s with host := { s.host with fn := t.host.fn, outst := t.host.outst, numVfs := t.host.numVfs }, od := { s.od with waiting := t.od.waiting }, out := t.out, rep := t.rep }))
  ∧ (∀ f : Fin 32, (s.computeRuns = false ∨ s.funcOn f = false) → Completes (.functionLevelReset f) s (fun t => t = s))
  ∧ (s.computeRuns = true → Completes .perstNReset s (fun t =>
        (∀ k, k < 32 → t.func k = {}) ∧ (∀ o ∈ t.host.outst, 32 ≤ o.fn) ∧ t.host.numVfs = 0 ∧ (∀ w ∈ t.od.waiting, ∀ f, w.path ≠ .mailbox f) ∧ Counted s t [key 0x28A0 5]
        ∧ t = { s with host := { s.host with fn := t.host.fn, outst := t.host.outst, numVfs := 0 }, od := { s.od with waiting := t.od.waiting }, out := t.out, rep := t.rep }))
  ∧ (s.host.linkUp = true → s.mem.waiting = [] →
      (s.host.outst = [] → Completes .pcieLinkDown s (fun t => Counted s t [key 0x28A0 4] ∧ t = { s with host := { s.host with linkUp := false }, rep := t.rep }))
      ∧ (∀ o, s.host.outst = [o] → Completes .pcieLinkDown s (fun t => Counted s t [key 0x28A0 3, key 0x28A0 4]
        ∧ t = { s with host := { s.host with linkUp := false, outst := [] }, out := { s.out with rdata := [], err := true }, rep := t.rep })))
  ∧ (s.host.linkUp = false → Completes .pcieLinkDown s (fun t => t = s)
      ∧ ∀ (w : Fin 3) (g : Fin 4), s.computeRuns = true → s.pwr.entering = false → Completes (.pcieLinkUp w g) s (fun t =>
        t = { s with host := { s.host with linkUp := true, width := w, gen := g }, rep := t.rep } ∧ ∀ k, k ∉ ownCounters → t.tally k = s.tally k))
  ∧ (∀ v : BitVec 32, Completes (.cfgReady v) s (fun t => t = { s with host := { s.host with cfgReady := bit v.toNat 0, crs := s.host.crs && !bit v.toNat 0 } }))
  ∧ Completes .cfgReadyTimeout s (fun t => t = { s with host := { s.host with crs := false } })
  ∧ (∀ f : Fin 32, s.host.linkUp = true → s.funcOn f = true →
      (s.host.crs = true → ∀ op, Completes (.pcieConfigRequest f op) s (fun t => t = { s with out := { s.out with retry := true } }))
      ∧ (s.host.crs = false →
        (∀ off, Completes (.pcieConfigRequest f (.read off)) s (fun t => t = { s with out := { s.out with rdata := leBytes 4 ((s.func f).cfg.at 0 off), err := false, retry := false } }))
        ∧ (∀ b, Completes (.pcieConfigRequest f (.busMaster b)) s (fun t => t.func f = { s.func f with bme := b } ∧ (∀ k, k ≠ f.val → t.func k = s.func k)
            ∧ t = { s with host := { s.host with fn := t.host.fn }, out := { s.out with retry := false } }))
        ∧ (∀ b, Completes (.pcieConfigRequest f (.msixEnable b)) s (fun t => t.func f = { s.func f with msixEn := b } ∧ (∀ k, k ≠ f.val → t.func k = s.func k)
            ∧ t = { s with host := { s.host with fn := t.host.fn }, out := { s.out with retry := false } }))
        ∧ (∀ b, Completes (.pcieConfigRequest f (.msixMask b)) s (fun t => t.func f = { s.func f with msixMask := b } ∧ (∀ k, k ≠ f.val → t.func k = s.func k)
            ∧ t = { s with host := { s.host with fn := t.host.fn }, out := { s.out with retry := false } }))
        ∧ (∀ b, Completes (.pcieConfigRequest f (.d3hot b)) s (fun t => t.func f = { s.func f with d3 := b } ∧ (∀ k, k ≠ f.val → t.func k = s.func k)
            ∧ t = { s with host := { s.host with fn := t.host.fn }, out := { s.out with retry := false } }))
        ∧ (∀ n, n ≤ 31 → f = 0 → Completes (.pcieConfigRequest f (.numVfs n)) s (fun t => t.host.numVfs = n ∧ (∀ k, k ≤ n → t.func k = s.func k)
            ∧ t = { s with host := { s.host with numVfs := n, fn := t.host.fn }, out := { s.out with retry := false } }))))
  ∧ (∀ (f : Fin 32) op, (s.host.linkUp = false ∨ s.funcOn f = false) → Completes (.pcieConfigRequest f op) s (fun t => t = s))
  ∧ (∀ h : Fin 4, s.computeRuns = true → (s.hartAt h).out = true → Completes (.hartTimerInterrupt h) s (fun t =>
        t.hartAt h = { s.hartAt h with wfi := false } ∧ (∀ k, k ≠ h.val → t.hartAt k = s.hartAt k) ∧ t.pwr.state = .run
        ∧ t = { s with host := { s.host with hart := t.host.hart }, pwr := { s.pwr with state := t.pwr.state } }))
  ∧ (∀ h : Fin 4, (s.hartAt h).out = false → Completes (.hartTimerInterrupt h) s (fun t => t = s))

/-- Ethernet and the PTP clock (12 R308-R312). Setting the clock makes it read the time written from now on; a PPS edge latches the eight position views; a change of a link is counted once. A received frame with a bad FCS or a wrong length is counted and dropped; a good one is counted and becomes one record of its queue's ring, or is dropped and counted where there is no room. A transmit record that is whole is sent, counted and released; an incomplete one stays. -/
def Obligations.EthernetAndClock : Prop :=
  ∀ (s : State) (m : Fin 2),
  (∀ (sec : BitVec 48) (ns : BitVec 32), Completes (.phcSet sec ns) s (fun t =>
      t.phcNs = sec.toNat * 1000000000 + ns.toNat
      ∧ t = { s with host := { s.host with phcSet := sec.toNat * 1000000000 + ns.toNat, phcAt := s.clk.ref, phcFrac := 0 }, rep := t.rep }))
  ∧ (s.computeRuns = true → Completes .ppsEdge s (fun t =>
      (∀ n, n < 8 → t.host.ppsPos.at 0 n = (s.viewAt n).pos) ∧ t.ethPps = true
      ∧ t = { s with host := { s.host with ppsAt := some s.clk.ref, ppsPos := t.host.ppsPos }, rep := t.rep }))
  ∧ (s.computeRuns = false → Completes .ppsEdge s (fun t => t = s) ∧ (∀ f b, Completes (.ethFrameReceive m f b) s (fun t => t = s))
      ∧ (∀ q, Completes (.ethFrameTransmit m q) s (fun t => t = s)) ∧ ∀ c, Completes (.ethLinkChange m c) s (fun t => t = s))
  ∧ (∀ c : Fin 5, s.computeRuns = true →
      ((s.macAt m).link ≠ c.val → Completes (.ethLinkChange m c) s (fun t =>
        t.macAt m = { s.macAt m with link := c } ∧ (∀ k, k ≠ m.val → t.macAt k = s.macAt k) ∧ Counted s t [key (0x28A1 + m) 7]
        ∧ t = { s with host := { s.host with mac := t.host.mac }, rep := t.rep }))
      ∧ ((s.macAt m).link = c.val → Completes (.ethLinkChange m c) s (fun t => t = s)))
  ∧ (∀ f : List Byte, s.computeRuns = true → s.pwr.entering = false → s.macMode m ≠ 0 →
      Completes (.ethFrameReceive m f false) s (fun t => Counted s t [key (0x28A1 + m) 4] ∧ t = { s with rep := t.rep })
      ∧ ((f.length < 60 ∨ 9018 < f.length) → Completes (.ethFrameReceive m f true) s (fun t => Counted s t [key (0x28A1 + m) 5] ∧ t = { s with rep := t.rep }))
      ∧ (60 ≤ f.length → f.length ≤ 9018 →
        ((s.macAt m).rxRing (s.rxQueue m f) = none → Completes (.ethFrameReceive m f true) s (fun t =>
          Counted s t [key (0x28A1 + m) 1, key (0x28A1 + m) 3] ∧ t = { s with rep := t.rep }))
        ∧ (∀ r u, (s.macAt m).rxRing (s.rxQueue m f) = some r → (s.count (0x28A1 + m) 1).putRecord (.mac m) r (s.rxRecord f) = (u, .ok) →
          Completes (.ethFrameReceive m f true) s (fun t => t = { u with rep := t.rep } ∧ (∀ k, k ∉ ownCounters → t.tally k = u.tally k)))
        ∧ (∀ r u, (s.macAt m).rxRing (s.rxQueue m f) = some r → (s.count (0x28A1 + m) 1).putRecord (.mac m) r (s.rxRecord f) = (u, .full) →
          Completes (.ethFrameReceive m f true) s (fun t => Counted u t [key (0x28A1 + m) 3] ∧ t = { u with rep := t.rep }))))
  ∧ (∀ q : Fin 4, s.computeRuns = true → s.pwr.entering = false → s.macMode m ≠ 0 →
      let r := (s.macAt m).txRing q
      ((s.ring r).content < 16 → Completes (.ethFrameTransmit m q) s (fun t => t = s))
      ∧ (∀ h f u w, 16 ≤ (s.ring r).content → s.readPieces (.mac m) 0 (s.ringBytes r (s.ring r).tail 16) = (u, some h) →
          (16 + field h 0 2 + 3) / 4 * 4 ≤ (s.ring r).content →
          u.readPieces (.mac m) 0 (u.ringBytes r (((s.ring r).tail + 16) % 2 ^ 32) (field h 0 2)) = (w, some f) → bit (field h 2 1) 1 = false →
          w.rg = s.rg → w.ringOpen (.mac m) r → (s.ring r).cqEn = false → Completes (.ethFrameTransmit m q) s (fun t =>
            (t.macAt m).sent = outFrame (field h 2 1) (w.phcNs + w.num 0x2D00 0x0A 0) f ∧ (∀ k, k ≠ m.val → t.macAt k = w.macAt k) ∧ Counted w t [key (0x28A1 + m) 2]
            ∧ (t.ring r).tail = ((s.ring r).tail + (16 + field h 0 2 + 3) / 4 * 4) % 2 ^ 32 ∧ (∀ k, k ≠ r → t.ring k = s.ring k)
            ∧ t = { w with host := { w.host with mac := t.host.mac }, rg := { w.rg with ring := t.rg.ring }, rep := t.rep })))

/-- The evidence codec (12 R314-R316). A submission reads its descriptor; a good one is queued, one that is misaligned, unreadable or out of range is answered with status 3, one beyond the 64 of the queue or the 16 of its station with status 1 and counted. An idle engine takes its oldest job. A job that ends leaves its engine, writes its result and is counted by its outcome. -/
def Obligations.EvidenceCodec : Prop :=
  ∀ (s : State) (e : Fin 3),
  (∀ (req : Requester) (a : BitVec 40) (st k : Nat), s.attrib req = st → st < 32 → softRequester req = some k →
      (a.toNat % 64 ≠ 0 → Completes (.codecSubmit req a) s (fun t =>
        t.host.codec.subres.at 0 k = 3 * 2 ^ 60 + s.queuedJobs st % 256
        ∧ t = { s with host := { s.host with codec := { s.host.codec with subres := t.host.codec.subres } } }))
      ∧ (∀ u d, a.toNat % 64 = 0 → s.fabric (.codec 0 (Fin.ofNat 32 st)) a.toNat (.read 64) .none 0 0 = (u, some d) →
        (CodecJob.ok { station := st, desc := d } = false → Completes (.codecSubmit req a) s (fun t =>
          t = { u with host := { u.host with codec := { u.host.codec with subres := t.host.codec.subres } } } ∧ t.host.codec.subres.at 0 k / 2 ^ 60 = 3))
        ∧ (CodecJob.ok { station := st, desc := d } = true → u.host.codec.queue.length < 64 → u.queuedJobs st < 16 → Completes (.codecSubmit req a) s (fun t =>
          t.host.codec.queue = u.host.codec.queue ++ [{ station := st, desc := d }] ∧ t.host.codec.subres.at 0 k = u.queuedJobs st + 1
          ∧ t = { u with host := { u.host with codec := { u.host.codec with queue := t.host.codec.queue, subres := t.host.codec.subres } } }))
        ∧ (CodecJob.ok { station := st, desc := d } = true → (64 ≤ u.host.codec.queue.length ∨ 16 ≤ u.queuedJobs st) → Completes (.codecSubmit req a) s (fun t =>
          Counted u t [key 0x28A3 5] ∧ t.host.codec.subres.at 0 k / 2 ^ 60 = 1
          ∧ t = { u with host := { u.host with codec := { u.host.codec with subres := t.host.codec.subres } }, rep := t.rep })))
      ∧ (∀ u, a.toNat % 64 = 0 → s.fabric (.codec 0 (Fin.ofNat 32 st)) a.toNat (.read 64) .none 0 0 = (u, none) → Completes (.codecSubmit req a) s (fun t =>
          t.host.codec.subres.at 0 k / 2 ^ 60 = 3 ∧ t = { u with host := { u.host with codec := { u.host.codec with subres := t.host.codec.subres } } })))
  ∧ (s.computeRuns = true → s.pwr.entering = false → s.codecRun e = none →
      (∀ j, s.host.codec.queue.find? (fun x => x.engine == e.val) = some j → Completes (.codecJobStart e) s (fun t =>
        t.codecRun e = some j ∧ (∀ k, k ≠ e.val → t.codecRun k = s.codecRun k) ∧ t.host.codec.queue = s.host.codec.queue.erase j
        ∧ t = { s with host := { s.host with codec := { s.host.codec with queue := t.host.codec.queue, run := t.host.codec.run } } }))
      ∧ (s.host.codec.queue.find? (fun x => x.engine == e.val) = none → Completes (.codecJobStart e) s (fun t => t = s)))
  ∧ (s.codecRun e ≠ none → Completes (.codecJobStart e) s (fun t => t = s))
  ∧ (s.codecRun e = none → ∀ o r f b, Completes (.codecJobComplete e o r f b) s (fun t => t = s))
  ∧ (∀ j o r (f : Fin 3) u w y, s.computeRuns = true → s.codecRun e = some j → j.station < 32 → j.flag 2 = false →
      let s0 : State := { s with host := { s.host with codec := { s.host.codec with run := s.host.codec.run.put e none } } }
      let req := Requester.codec e (Fin.ofNat 32 j.station)
      (j.encodes = false → s0.fabric req (field j.desc 16 8) (.read (field j.desc 56 8)) .none 0 0 = (u, some y) →
        (∃ z, u.fabric req (field j.desc 40 8) (.write (leBytes 1 6 ++ leBytes 1 0 ++ [0, 0] ++ leBytes 4 0 ++ leBytes 4 0 ++ leBytes 4 (u.refUs % 2 ^ 32))) .none 0 0 = (w, some z)) →
        Completes (.codecJobComplete e o r f true) s (fun t => Counted w t [key 0x28A3 2] ∧ t = { w with rep := t.rep }))
      ∧ (∀ n start, j.encodes = true → s0.encodeJob req j o r = (u, ⟨.ok, n, start⟩) →
        (∃ z, u.fabric req (field j.desc 40 8) (.write (leBytes 1 0 ++ leBytes 1 f.val ++ [0, 0] ++ leBytes 4 n ++ leBytes 4 start ++ leBytes 4 (u.refUs % 2 ^ 32))) .none 0 0 = (w, some z)) →
        Completes (.codecJobComplete e o r f false) s (fun t => Counted w t [key 0x28A3 1] ∧ t = { w with rep := t.rep }))
      ∧ (j.encodes = true → (∃ x, s0.claimOn req j.outRing j.maxOut false = (u, .full, x)) →
        (∃ z, u.fabric req (field j.desc 40 8) (.write (leBytes 1 3 ++ leBytes 1 0 ++ [0, 0] ++ leBytes 4 0 ++ leBytes 4 0 ++ leBytes 4 (u.refUs % 2 ^ 32))) .none 0 0 = (w, some z)) →
        Completes (.codecJobComplete e o r f false) s (fun t => Counted w t [key 0x28A3 2, key 0x28A3 4] ∧ t = { w with rep := t.rep })))

/-- The dictionary over the mailboxes and the rule of every path (12 R301, R306, R307; 15 R377-R379; 16 R388, R391, R392). A path that is not open brings nothing. A read answers with the value from OFFSET on, at most 2,032 bytes, or with the abort code of the rule that fails; a write that may not happen changes nothing and is answered with its code, a segment that is not the last is kept, one out of sequence ends the transfer with 0800 0000h, a last one has the entry's effect. During a long operation every answer is 0800 0022h. A doorbell while BUSY is ignored and counted, one while P1 restarts waits. -/
def Obligations.DictionaryAccess : Prop :=
  ∀ s : State,
  (∀ path i sub m o l d, s.pathOpen path = false → Completes (.dictRead path i sub m o) s (fun t => t = s) ∧ Completes (.dictWrite path i sub l o d) s (fun t => t = s))
  ∧ (∀ (f : Fin 32) (i : BitVec 16) (sub : BitVec 8) (m o : BitVec 32), s.funcOn f = true → s.answers →
      (∀ v, s.readEntry 0 i.toNat sub.toNat = .value v →
        let d := (v.toBytes.drop o.toNat).take (min m.toNat 2032)
        Completes (.dictRead (.mailbox f) i sub m o) s (fun t =>
          s.mailed t f (.value v) (responseRecord 0 sub.toNat i.toNat d.length 0 v.toBytes.length d) ∧ (t.func f).mbx.xfer = (s.func f).mbx.xfer
          ∧ t = { s with host := { s.host with fn := t.host.fn }, rep := t.rep, out := t.out }))
      ∧ (∀ a, s.readEntry 0 i.toNat sub.toNat = .abort a → Completes (.dictRead (.mailbox f) i sub m o) s (fun t =>
          s.mailed t f (.abort a) (responseRecord 1 sub.toNat i.toNat a 0 0 []) ∧ (t.func f).mbx.xfer = (s.func f).mbx.xfer
          ∧ t = { s with host := { s.host with fn := t.host.fn }, rep := t.rep, out := t.out })))
  ∧ (∀ (q i sub a : Nat), s.namedRow i sub = .error a → s.readEntry q i sub = .abort a ∧ ∀ f, s.writeGate f i sub = .error a)
  ∧ (∀ (q i sub : Nat) r, s.namedRow i sub = .ok r → (r.acc = .wo → s.readEntry q i sub = .abort 0x06010001)
      ∧ (∀ f, (f = 0 ∨ s.vfMayWrite f i sub = true) → (r.acc = .ro ∨ r.acc = .const) → s.writeGate f i sub = .error 0x06010002)
      ∧ (∀ f, f ≠ 0 → s.vfMayWrite f i sub = false → s.writeGate f i sub = .error 0x06010000))
  ∧ (∀ (f : Fin 32) (i : BitVec 16) (sub : BitVec 8) (l : Bool) (o : BitVec 32) (d : List Byte), s.funcOn f = true → s.answers →
      let record (a : Nat) := responseRecord 1 sub.toNat i.toNat a 0 0 []
      let refused (a : Nat) := Completes (.dictWrite (.mailbox f) i sub l o d) s (fun t =>
        s.mailed t f (.abort a) (record a) ∧ (t.func f).mbx.xfer = none ∧ t = { s with host := { s.host with fn := t.host.fn }, rep := t.rep, out := t.out })
      (∀ a, s.writeGate f i.toNat sub.toNat = .error a → refused a)
      ∧ (∀ r, s.writeGate f i.toNat sub.toNat = .ok r → 2032 < d.length → refused 0x06070010)
      ∧ (∀ r, s.writeGate f i.toNat sub.toNat = .ok r → d.length ≤ 2032 → o ≠ 0 →
          ((s.func f).mbx.xfer = none ∨ ∃ x, (s.func f).mbx.xfer = some x ∧ (x.key ≠ key i.toNat sub.toNat ∨ x.next ≠ o.toNat)) → refused 0x08000000)
      ∧ (∀ r, s.writeGate f i.toNat sub.toNat = .ok r → l = false → d.length < 2032 → refused 0x08000000)
      ∧ (∀ r p, s.writeGate f i.toNat sub.toNat = .ok r → ¬ (0x3000 ≤ i.toNat ∧ sub = 1) → d.length ≤ 2032 →
          ((o = 0 ∧ p = []) ∨ ∃ x, (s.func f).mbx.xfer = some x ∧ x.key = key i.toNat sub.toNat ∧ x.next = o.toNat ∧ o ≠ 0 ∧ p = x.data) →
          (l = false → d.length = 2032 → Completes (.dictWrite (.mailbox f) i sub l o d) s (fun t =>
            s.mailed t f .ok (responseRecord 0 sub.toNat i.toNat 0 0 (o.toNat + 2032) [])
            ∧ (t.func f).mbx.xfer = some { key := key i.toNat sub.toNat, next := o.toNat + 2032, data := p ++ d, time := s.clk.ref }
            ∧ t = { s with host := { s.host with fn := t.host.fn }, rep := t.rep, out := t.out }))
          ∧ (l = true → r.ty ≠ .dom → (p ++ d).length ≠ r.ty.size → s.vfStationOk f i.toNat sub.toNat (p ++ d) = true → Completes (.dictWrite (.mailbox f) i sub l o d) s (fun t =>
            s.mailed t f (.abort 0x06070010) (responseRecord 1 sub.toNat i.toNat 0x06070010 0 (p ++ d).length []) ∧ (t.func f).mbx.xfer = none
            ∧ t = { s with host := { s.host with fn := t.host.fn }, rep := t.rep, out := t.out }))
          ∧ (l = true → s.vfStationOk f i.toNat sub.toNat (p ++ d) = true →
              let u := s.updFunc f (fun k => { k with mbx := { k.mbx with xfer := none } })
              let w := u.writeValue i.toNat sub.toNat r (p ++ d)
              Completes (.dictWrite (.mailbox f) i sub l o d) s (fun t =>
                t.out.resp = some w.2 ∧ (t.func f).mbx.busy = false ∧ (t.func f).mbx.done = true
                ∧ t = { w.1 with host := { w.1.host with fn := t.host.fn }, rep := t.rep, out := { w.1.out with resp := some w.2 } }))))
  ∧ (∀ (f : Fin 32) i sub m o, s.funcOn f = true → s.serves = true → s.od.longop ≠ none → s.boot.recovery = false → Completes (.dictRead (.mailbox f) i sub m o) s (fun t =>
      s.mailed t f (.abort 0x08000022) (responseRecord 1 sub.toNat i.toNat 0x08000022 0 0 []) ∧ (t.func f).mbx.xfer = (s.func f).mbx.xfer
      ∧ t = { s with host := { s.host with fn := t.host.fn }, rep := t.rep, out := t.out }))
  ∧ (∀ (f : Fin 32) (v : BitVec 32),
      ((s.computeRuns = false ∨ s.funcOn f = false ∨ bit v.toNat 0 = false) → Completes (.mbxDoorbell f v) s (fun t => t = s))
      ∧ (s.computeRuns = true → s.funcOn f = true → bit v.toNat 0 = true →
          ((s.func f).mbx.busy = true → Completes (.mbxDoorbell f v) s (fun t => Counted s t [key 0x28A0 6] ∧ t = { s with rep := t.rep }))
          ∧ ((s.func f).mbx.busy = false →
              let b := slice (s.func f).mbx.req 0 2048
              let u := s.updFunc f (fun k => { k with mbx := { k.mbx with busy := true, done := false } })
              (∀ i sub m o x, recordReq b = .read i sub m o → s.answers → u.readEntry 0 i sub = .value x →
                let d := (x.toBytes.drop o).take (min m 2032)
                Completes (.mbxDoorbell f v) s (fun t => s.mailed t f (.value x) (responseRecord 0 sub i d.length (recordToken b) x.toBytes.length d)
                  ∧ (t.func f).mbx.xfer = (s.func f).mbx.xfer ∧ t = { s with host := { s.host with fn := t.host.fn }, rep := t.rep, out := t.out }))
              ∧ (∀ i sub l o d a, recordReq b = .write i sub l o d → s.answers → u.writeGate f i sub = .error a →
                Completes (.mbxDoorbell f v) s (fun t => s.mailed t f (.abort a) (responseRecord 1 sub i a (recordToken b) 0 [])
                  ∧ (t.func f).mbx.xfer = none ∧ t = { s with host := { s.host with fn := t.host.fn }, rep := t.rep, out := t.out }))
              ∧ (∀ i sub, recordReq b = .badOp i sub → s.answers →
                Completes (.mbxDoorbell f v) s (fun t => s.mailed t f (.abort 0x05040001) (responseRecord 1 sub i 0x05040001 (recordToken b) 0 [])
                  ∧ (t.func f).mbx.xfer = (s.func f).mbx.xfer ∧ t = { s with host := { s.host with fn := t.host.fn }, rep := t.rep, out := t.out }))
              ∧ (s.boot.started = true → s.boot.recovery = false → (s.host.press.at ({} : Pressroom) 1).restarting = true → Completes (.mbxDoorbell f v) s (fun t =>
                t.od.waiting = s.od.waiting ++ [{ path := .mailbox f, token := recordToken b, vcid := 0, req := recordReq b }]
                ∧ (t.func f).mbx = { (s.func f).mbx with busy := true, done := false } ∧ (∀ k, k ≠ f.val → t.func k = s.func k)
                ∧ t = { s with host := { s.host with fn := t.host.fn }, od := { s.od with waiting := t.od.waiting } })))))

/-- SDO and USDO at a port (15 R370, R371, R374, R377). The server of the port's profile answers while the port is pre-operational or operational: an upload with the value, a long one segment by segment, a download segment with its acknowledgement, a rule that fails with its abort code, which is counted; an abort of the client ends the transfer. During a long operation the answer is 0800 0022h; a frame of the other profile is counted, in another NMT state nothing is answered. -/
def Obligations.SdoServers : Prop :=
  ∀ (s : State) (p : Fin 2) (usdo : Bool), s.canServes p →
  let row (op : SdoOp) : Instr := if usdo then .usdoRequest p op else .sdoRequest p op
  let profile := if usdo then 2 else 1
  let x := (s.port p).sdo.getD {}
  let v := s.takeFrame p
  let u := v.setSdo p none
  (∀ op, s.canSet p 1 ≠ profile → Completes (row op) s (fun t => s.posted t p [] ∧ (t.port p).sdo = (s.port p).sdo ∧ Counted s t [key (canCnt p) 0x0E] ∧ t = { s with can := t.can, rep := t.rep }))
  ∧ (∀ op, s.canSet p 1 = profile → (s.port p).talks = false → Completes (row op) s (fun t => s.posted t p [] ∧ (t.port p).sdo = (s.port p).sdo ∧ t = { s with can := t.can }))
  ∧ (s.canSet p 1 = profile → (s.port p).talks = true →
      Completes (row .abort) s (fun t => s.posted t p [] ∧ (t.port p).sdo = none ∧ t = { s with can := t.can })
      ∧ (∀ op, op ≠ .abort → s.od.longop ≠ none → Completes (row op) s (fun t =>
          s.posted t p [.sdo (x.key / 256) (x.key % 256) (.abort 0x08000022)] ∧ (t.port p).sdo = none ∧ Counted s t [key (canCnt p) 0x0C]
          ∧ t = { s with can := t.can, rep := t.rep, out := { s.out with resp := some (.abort 0x08000022) } }))
      ∧ (s.od.longop = none → Completes (row .unknown) s (fun t =>
          s.posted t p [.sdo (x.key / 256) (x.key % 256) (.abort 0x05040001)] ∧ (t.port p).sdo = none ∧ Counted s t [key (canCnt p) 0x0C]
          ∧ t = { s with can := t.can, rep := t.rep, out := { s.out with resp := some (.abort 0x05040001) } }))
      ∧ (s.answers → ∀ i j,
          (∀ y, u.readEntry p i j = .value y → y.toBytes.length ≤ 4 → Completes (row (.upload i j)) s (fun t =>
            s.posted t p [.sdo i j (.value y)] ∧ (t.port p).sdo = none ∧ t = { s with can := t.can, out := { s.out with resp := some (.value y) } }))
          ∧ (∀ y, u.readEntry p i j = .value y → 4 < y.toBytes.length → Completes (row (.upload i j)) s (fun t =>
            s.posted t p [.sdo i j (.value (.num 4 (y.toBytes.take (2 ^ 32)).length))] ∧ (t.port p).sdo = some { key := key i j, data := y.toBytes.take (2 ^ 32), up := true }
            ∧ t = { s with can := t.can, out := { s.out with resp := some (.value y) } }))
          ∧ (∀ a, u.readEntry p i j = .abort a → Completes (row (.upload i j)) s (fun t =>
            s.posted t p [.sdo i j (.abort a)] ∧ (t.port p).sdo = none ∧ Counted s t [key (canCnt p) 0x0C] ∧ t = { s with can := t.can, rep := t.rep, out := { s.out with resp := some (.abort a) } }))
          ∧ (∀ a l d, v.writeGate 0 i j = .error a → Completes (row (.download i j l d)) s (fun t =>
            s.posted t p [.sdo i j (.abort a)] ∧ (t.port p).sdo = none ∧ Counted s t [key (canCnt p) 0x0C] ∧ t = { s with can := t.can, rep := t.rep, out := { s.out with resp := some (.abort a) } }))
          ∧ (∀ r d, v.writeGate 0 i j = .ok r → u.writeGate 0 i j = .ok r → j < 256 → ¬ (0x3000 ≤ i ∧ j = 1) →
              Completes (row (.download i j false d)) s (fun t =>
                s.posted t p [.sdo i j .ok] ∧ (t.port p).sdo = some { key := key i j, data := d } ∧ t = { s with can := t.can, out := { s.out with resp := some .ok } })
              ∧ ((u.writeValue i j r d).2 = .ok → ((u.writeValue i j r d).1.canWire p).short = false → (u.writeValue i j r d).1.attached p = true → Completes (row (.download i j true d)) s (fun t =>
                (t.port p).tx = ((u.writeValue i j r d).1.port p).tx ++ [.sdo i j .ok]
                ∧ t = { (u.writeValue i j r d).1 with can := t.can, out := { (u.writeValue i j r d).1.out with resp := some .ok } }))))
      ∧ (s.od.longop = none →
          (∀ n, x.up = true → Completes (row (.uploadMore n)) s (fun t =>
            s.posted t p [.sdo (x.key / 256) (x.key % 256) (.value (.bytes (x.data.take n)))]
            ∧ (t.port p).sdo = (if x.data.drop n = [] then none else some { x with data := x.data.drop n })
            ∧ t = { s with can := t.can, out := { s.out with resp := some (.value (.bytes (x.data.take n))) } }))
          ∧ (∀ n, x.up = false → Completes (row (.uploadMore n)) s (fun t =>
            s.posted t p [.sdo (x.key / 256) (x.key % 256) (.abort 0x05040001)] ∧ (t.port p).sdo = none ∧ Counted s t [key (canCnt p) 0x0C]
            ∧ t = { s with can := t.can, rep := t.rep, out := { s.out with resp := some (.abort 0x05040001) } }))
          ∧ (∀ l d, (x.key = 0 ∨ x.up = true) → Completes (row (.downloadMore l d)) s (fun t =>
            s.posted t p [.sdo (x.key / 256) (x.key % 256) (.abort 0x05040001)] ∧ (t.port p).sdo = none ∧ Counted s t [key (canCnt p) 0x0C]
            ∧ t = { s with can := t.can, rep := t.rep, out := { s.out with resp := some (.abort 0x05040001) } }))
          ∧ (∀ d, x.key ≠ 0 → x.up = false → ¬ (0x3000 ≤ x.key / 256 ∧ x.key % 256 = 1) → Completes (row (.downloadMore false d)) s (fun t =>
            s.posted t p [.sdo (x.key / 256) (x.key % 256) .ok] ∧ (t.port p).sdo = some { x with data := x.data ++ d }
            ∧ t = { s with can := t.can, out := { s.out with resp := some .ok } }))))

/-- JDT, the UDP service and the pressroom's watchdogs (12 R300; 13 R332; 15 R361, R362, R375, R376, R378-R380). A JDT request that matches the port is answered with its record, one at a time from a requester and eight in all, another with 0800 0021h; frames not for the port are ignored, malformed ones counted. A silent requester's transfer is dropped and counted. A datagram is one record and its answer one datagram. A watchdog holds its hart, reloads its TCM, empties its target's stack and is counted; with P0 its ports leave the bus; after the restart P1 serves what waited. -/
def Obligations.RecordServersAndPressroom : Prop :=
  (∀ (s : State) (p : Fin 2) (prio : BitVec 11) (sdt vcid : BitVec 8) (sec : Bool) (af : BitVec 32) (b : List Byte), s.canServes p →
      let addr := bits af.toNat 16 8
      let row : Instr := .jdtRequest p prio sdt vcid sec af b
      let mine := sec = false ∧ s.canSet p 7 ≠ 0 ∧ prio.toNat = s.canSet p 9 ∧ sdt.toNat = s.canSet p 8 ∧ bits af.toNat 24 8 = s.nodeId p
      let good := bits af.toNat 0 16 = 0 ∧ addr ≠ 0 ∧ addr ≠ s.nodeId p ∧ recordLenOk b = true ∧ b.length ≤ 2048
      let room := addr ∉ (s.port p).jdtWait ∧ (s.port p).jdtWait.length < 8
      let u := (s.takeFrame p).updPort p (fun c => { c with jdtWait := c.jdtWait ++ [addr] })
      ((sec = true ∨ s.canSet p 7 = 0 ∨ (mine ∧ ¬ good)) → Completes row s (fun t => t.port p = { s.port p with rx := (s.port p).rx.tail } ∧ (∀ q, q ≠ p.val → t.port q = s.port q) ∧ Counted s t [key (canCnt p) 0x0E] ∧ t = { s with can := t.can, rep := t.rep }))
      ∧ (sec = false → s.canSet p 7 ≠ 0 → ¬ mine → Completes row s (fun t => t.port p = { s.port p with rx := (s.port p).rx.tail } ∧ (∀ q, q ≠ p.val → t.port q = s.port q) ∧ t = { s with can := t.can }))
      ∧ (mine → good → ¬ room → Completes row s (fun t =>
          s.posted t p [.jdt addr vcid.toNat false (responseRecord 1 (reqEntry (recordReq b)).2 (reqEntry (recordReq b)).1 0x08000021 (recordToken b) 0 [])]
          ∧ (t.port p).jdtWait = (s.port p).jdtWait ∧ Counted s t [key (canCnt p) 0x0C] ∧ t = { s with can := t.can, rep := t.rep, out := { s.out with resp := some (.abort 0x08000021) } }))
      ∧ (∀ i sub m o v, mine → good → room → s.answers → recordReq b = .read i sub m o → u.readEntry p i sub = .value v →
          let d := (v.toBytes.drop o).take (min m 2032)
          Completes row s (fun t =>
          s.posted t p [.jdt addr vcid.toNat true (responseRecord 0 sub i d.length (recordToken b) v.toBytes.length d)]
          ∧ (t.port p).jdtWait = (s.port p).jdtWait ++ [addr] ∧ Counted s t [key (canCnt p) 0x0D] ∧ t = { s with can := t.can, rep := t.rep, out := { s.out with resp := some (.value v) } }))
      ∧ (∀ i sub l o d a, mine → good → room → s.answers → recordReq b = .write i sub l o d → u.writeGate 0 i sub = .error a → Completes row s (fun t =>
          s.posted t p [.jdt addr vcid.toNat true (responseRecord 1 sub i a (recordToken b) 0 [])]
          ∧ (t.port p).jdtWait = (s.port p).jdtWait ++ [addr] ∧ (∀ x ∈ (t.port p).jdtXfer, x.1 ≠ addr) ∧ Counted s t [key (canCnt p) 0x0C, key (canCnt p) 0x0D]
          ∧ t = { s with can := t.can, rep := t.rep, out := { s.out with resp := some (.abort a) } })))
  ∧ (∀ (s : State) (p : Fin 2) (a : Fin 256),
      ((∀ x ∈ (s.port p).jdtXfer, x.1 ≠ a.val) → Completes (.jdtSegmentTimeout p a) s (fun t => t = s))
      ∧ ((∃ x ∈ (s.port p).jdtXfer, x.1 = a.val) → Completes (.jdtSegmentTimeout p a) s (fun t =>
          t.port p = { s.port p with jdtXfer := (s.port p).jdtXfer.filter (fun x => x.1 != a.val) } ∧ (∀ q, q ≠ p.val → t.port q = s.port q)
          ∧ Counted s t [key (canCnt p) 0x0F] ∧ t = { s with can := t.can, rep := t.rep })))
  ∧ (∀ (s : State) (m : Fin 2) (src : BitVec 48) (b : List Byte),
      let row : Instr := .udpDictDatagram m src b
      ((s.computeRuns = false ∨ s.boot.started = false ∨ s.boot.recovery = true ∨ s.svcOn m = false) → Completes row s (fun t => t = s))
      ∧ (s.computeRuns = true → s.boot.started = true → s.boot.recovery = false → s.svcOn m = true →
          (recordLenOk b = false → Completes row s (fun t => Counted s t [key 0x28D2 1] ∧ t = { s with rep := t.rep }))
          ∧ (recordLenOk b = true → (Path.udp m src.toNat ∈ s.udpWaiting ∨ 8 ≤ s.udpWaiting.length) → Completes row s (fun t =>
            t.out = { s.out with resp := some (.abort 0x08000021), rdata := responseRecord 1 (reqEntry (recordReq b)).2 (reqEntry (recordReq b)).1 0x08000021 (recordToken b) 0 [] }
            ∧ Counted s t [key (0x28A1 + m) 8] ∧ t = { s with rep := t.rep, out := t.out }))
          ∧ (recordLenOk b = true → Path.udp m src.toNat ∉ s.udpWaiting → s.udpWaiting.length < 8 →
            (∀ i sub mx o v, s.answers → recordReq b = .read i sub mx o → s.readEntry 0 i sub = .value v →
              let d := (v.toBytes.drop o).take (min mx 2032)
              Completes row s (fun t => t.out = { s.out with resp := some (.value v), rdata := responseRecord 0 sub i d.length (recordToken b) v.toBytes.length d }
                ∧ Counted s t [key (0x28A1 + m) 8] ∧ t = { s with rep := t.rep, out := t.out }))
            ∧ (∀ i sub l o d a, s.answers → recordReq b = .write i sub l o d → s.writeGate 0 i sub = .error a → Completes row s (fun t =>
                t.out = { s.out with resp := some (.abort a), rdata := responseRecord 1 sub i a (recordToken b) 0 [] }
                ∧ Counted s t [key (0x28A1 + m) 8] ∧ t = { s with host := { s.host with udpXfer := t.host.udpXfer }, rep := t.rep, out := t.out }))
            ∧ ((s.host.press.at ({} : Pressroom) 1).restarting = true → Completes row s (fun t =>
                t = { s with od := { s.od with waiting := s.od.waiting ++ [{ path := .udp m src.toNat, token := recordToken b, vcid := 0, req := recordReq b }] } })))))
  ∧ (∀ (s : State) (h : Fin 2),
      ((s.computeRuns = false ∨ (s.host.press.at ({} : Pressroom) h).run = false) → Completes (.pressroomWatchdogExpiry h) s (fun t => t = s))
      ∧ (s.computeRuns = true → (s.host.press.at ({} : Pressroom) h).run = true → Completes (.pressroomWatchdogExpiry h) s (fun t =>
          t.host.press.at {} h = { run := false, restarting := true } ∧ (∀ k, k ≠ h.val → t.host.press.at {} k = s.host.press.at {} k)
          ∧ (∀ a, (a < tcmBase h ∨ tcmBase h + 262144 ≤ a) → t.byte a = s.byte a) ∧ t.counter 0x28A4 (h + 1) = satInc (s.counter 0x28A4 (h + 1))
          ∧ (h = 0 → ∀ q, (t.port q).avail = false ∧ (t.port q).tx = [] ∧ (t.port q).rx = (s.port q).rx)
          ∧ (h = 1 → t.can = s.can ∧ t.od = s.od)
          ∧ t = { s with mem := { s.mem with bytes := t.mem.bytes }, host := { s.host with press := t.host.press }, can := t.can, od := { s.od with waiting := t.od.waiting }, rep := t.rep }))
      ∧ ((s.computeRuns = false ∨ (s.host.press.at ({} : Pressroom) h).restarting = false) → Completes (.pressroomRestartComplete h) s (fun t => t = s))
      ∧ (s.computeRuns = true → (s.host.press.at ({} : Pressroom) h).restarting = true →
          ((h = 0 ∨ s.od.waiting = []) → Completes (.pressroomRestartComplete h) s (fun t =>
            t.host.press.at {} h = { run := true } ∧ (∀ k, k ≠ h.val → t.host.press.at {} k = s.host.press.at {} k) ∧ t = { s with host := { s.host with press := t.host.press } }))
          ∧ (∀ f w, h = 1 → s.od.waiting = [w] → w.path = .mailbox f → s.od.longop ≠ none → (∀ i j, w.req ≠ .queueFull i j) → Completes (.pressroomRestartComplete h) s (fun t =>
            t.od.waiting = [] ∧ t.host.press.at {} 1 = { run := true }
            ∧ s.mailed t f (.abort 0x08000022) (responseRecord 1 (reqEntry w.req).2 (reqEntry w.req).1 0x08000022 w.token 0 [])
            ∧ t = { s with host := { s.host with fn := t.host.fn, press := t.host.press }, od := { s.od with waiting := [] }, rep := t.rep, out := t.out }))))

/-- Sources of the Event Concentrator (13 R321, R323-R326). An occurrence of a source that is not reserved joins its batch: C counts up to 255, the first one starts the timer, and the batch is pending once C reaches COUNT; every bit of SWSET is one occurrence of its software source; an accepted change of a line's level is an occurrence on the configured edges alone, and makes a level-mode source pending exactly while the level is active; too few equal samples are counted and change no line; a batch that times out is pending. -/
def Obligations.EvcSources : Prop :=
  ∀ s : State, s.settled → State.roomy s →
  (∀ id : Fin 1024, evcReserved id = false → (s.rep.evc.state id).c ≠ 254 → Completes (.evcOccurrence id) s (fun t =>
      t.rep.evc.state id = { s.rep.evc.state id with
        c := if 255 ≤ (s.rep.evc.state id).c then 255 else (s.rep.evc.state id).c + 1
        timer := if (s.rep.evc.state id).c = 0 then some s.refUs else (s.rep.evc.state id).timer
        pending := (s.rep.evc.state id).pending || decide (srcCount (s.rep.evc.cfg id) ≤ if 255 ≤ (s.rep.evc.state id).c then 255 else (s.rep.evc.state id).c + 1) }
      ∧ (∀ j, j ≠ id.val → t.rep.evc.state j = s.rep.evc.state j) ∧ t.rep.log = s.rep.log ∧ t = { s with rep := t.rep }))
  ∧ (∀ m : BitVec 32, (∀ k, k < 32 → (s.rep.evc.state (256 + k)).c < 254) → Completes (.evcSwset m) s (fun t =>
      (∀ k, k < 32 → (t.rep.evc.state (256 + k)).c = if bit m.toNat k then (s.rep.evc.state (256 + k)).c + 1 else (s.rep.evc.state (256 + k)).c)
      ∧ (∀ j, (j < 256 ∨ 288 ≤ j) → t.rep.evc.state j = s.rep.evc.state j) ∧ t = { s with rep := t.rep }))
  ∧ (∀ (n : Fin 32) (l : Bool) (k : Nat), (s.rep.evc.ext n).level ≠ l → srcFilter (s.rep.evc.cfg (1024 + n.val)) ≤ k →
      (s.rep.evc.state (1024 + n.val)).c ≠ 254 → Completes (.evcLineAccept n l k) s (fun t =>
      (t.rep.evc.ext n).level = l ∧ (n.val < 16 → (t.rep.evc.ext n).xcap = (s.rep.evc.ext n).fwdUs)
      ∧ (∀ j, j ≠ n.val → t.rep.evc.ext j = s.rep.evc.ext j) ∧ (∀ j, j ≠ 1024 + n.val → t.rep.evc.state j = s.rep.evc.state j)
      ∧ (srcEdge (s.rep.evc.cfg (1024 + n.val)) < 3 →
          (t.rep.evc.state (1024 + n.val)).c = if (srcEdge (s.rep.evc.cfg (1024 + n.val)) = 0 ∧ l = true) ∨ (srcEdge (s.rep.evc.cfg (1024 + n.val)) = 1 ∧ l = false)
              ∨ srcEdge (s.rep.evc.cfg (1024 + n.val)) = 2
            then (if 255 ≤ (s.rep.evc.state (1024 + n.val)).c then 255 else (s.rep.evc.state (1024 + n.val)).c + 1) else (s.rep.evc.state (1024 + n.val)).c)
      ∧ (3 ≤ srcEdge (s.rep.evc.cfg (1024 + n.val)) → (s.rep.evc.state (1024 + n.val)).inService = false →
          (t.rep.evc.state (1024 + n.val)).pending = ((srcEdge (s.rep.evc.cfg (1024 + n.val)) == 3 && l) || (srcEdge (s.rep.evc.cfg (1024 + n.val)) == 4 && !l)))
      ∧ t = { s with rep := t.rep }))
  ∧ (∀ (n : Fin 32) (l : Bool) (k : Nat), (s.rep.evc.ext n).level ≠ l → k < srcFilter (s.rep.evc.cfg (1024 + n.val)) → Completes (.evcLineAccept n l k) s (fun t =>
      Counted s t [key 0x28B0 8] ∧ t.rep.evc = s.rep.evc ∧ t = { s with rep := t.rep }))
  ∧ (∀ id : Fin 1056, (s.rep.evc.state id).c ≠ 0 → (s.rep.evc.state id).pending = false → (s.rep.evc.state id).timer ≠ none → srcTime (s.rep.evc.cfg id) ≠ 0 →
      Completes (.evcBatchTimeout id) s (fun t =>
      t.rep.evc.state id = { s.rep.evc.state id with pending := true } ∧ (∀ j, j ≠ id.val → t.rep.evc.state j = s.rep.evc.state j) ∧ t = { s with rep := t.rep }))

/-- Claims and completions at the Event Concentrator (13 R330-R334). A claim, through a hart's CSR or through the window of a vector that the function's station owns, takes the source on offer, a candidate of the highest priority: it returns VALID, PRIO, C and the ID, pushes the ID and PRIO on the stack, puts the source in service, clears its pending state and ends its batch; with no candidate it returns 0 and pushes nothing; a frozen stack or a lost tag answers with its fault code. A claim in user mode only raises an illegal instruction exception, one through another station's window is refused. Completing the top source takes it off; completing another freezes the stack and is counted. A stack reset empties the stack, takes its sources out of service and unfreezes it. TAG_ACK clears TAG_LOSS. A held message that no cause holds is sent while its vector is signalled, else dropped. -/
def Obligations.EvcTargets : Prop :=
  ∀ s : State, s.settled → State.roomy s →
  (∀ (port : EvcPort) (t : Nat), evcIllegal port = false → s.evcPort port = some t →
    ((s.rep.evc.target t).frozen = false → (s.rep.evc.target t).tagLoss = false →
      (∀ id, s.rep.evc.best t = some id → s.rep.evc.candidate t id = true ∧ (∀ j, s.rep.evc.candidate t j = true → srcPrio (s.rep.evc.cfg j) ≤ srcPrio (s.rep.evc.cfg id))
        ∧ Completes (.evcClaim port) s (fun u =>
          u.out = { s.out with illegal := false, err := false
                               claim := BitVec.ofNat 32 (2 ^ 31 + srcPrio (s.rep.evc.cfg id) * 2 ^ 24 + (if s.rep.evc.levelMode id then 1 else (s.rep.evc.state id).c) * 2 ^ 16 + id) }
          ∧ u.rep.evc.state id = { c := 0, timer := none, pending := false, inService := true }
          ∧ (∀ j, j ≠ id → u.rep.evc.state j = s.rep.evc.state j)
          ∧ (u.rep.evc.target t).stack = (id, srcPrio (s.rep.evc.cfg id)) :: (s.rep.evc.target t).stack
          ∧ (∀ j, j ≠ t → u.rep.evc.target j = s.rep.evc.target j) ∧ u = { s with rep := u.rep, out := u.out }))
      ∧ (s.rep.evc.best t = none → (∀ j, s.rep.evc.candidate t j = false) ∧ Completes (.evcClaim port) s (fun u =>
          u.out = { s.out with illegal := false, err := false, claim := 0 } ∧ u.rep.evc.st = s.rep.evc.st
          ∧ (u.rep.evc.target t).stack = (s.rep.evc.target t).stack ∧ (∀ j, j ≠ t → u.rep.evc.target j = s.rep.evc.target j) ∧ u = { s with rep := u.rep, out := u.out })))
    ∧ ((s.rep.evc.target t).frozen = true ∨ (s.rep.evc.target t).tagLoss = true → Completes (.evcClaim port) s (fun u =>
        u.out = { s.out with illegal := false, err := false, claim := if (s.rep.evc.target t).frozen then 0xC0000001 else 0xC0000002 }
        ∧ u.rep.evc.st = s.rep.evc.st ∧ (u.rep.evc.target t).stack = (s.rep.evc.target t).stack ∧ u = { s with rep := u.rep, out := u.out })))
  ∧ (∀ t : Fin 6, Completes (.evcClaim (.hart t true)) s (fun u => u = { s with out := { s.out with illegal := true } }))
  ∧ (∀ fn v, s.evcPort (.window fn v) = none → Completes (.evcClaim (.window fn v)) s (fun u => Counted s u [key 0x28A0 1] ∧ u = { s with rep := u.rep, out := { s.out with err := true } }))
  ∧ (∀ (t : Fin 6) (id : Fin 2048) (p : Nat) (rest : List (Nat × Nat)), (s.rep.evc.target t).frozen = false → (s.rep.evc.target t).stack = (id.val, p) :: rest →
    Completes (.evcComplete (.hart t false) id) s (fun u =>
      (u.rep.evc.target t).stack = rest ∧ (u.rep.evc.state id).inService = false
      ∧ (u.rep.evc.state id).pending = ((s.rep.evc.state id).pending || s.rep.evc.active id)
      ∧ (∀ j, j ≠ id.val → u.rep.evc.state j = s.rep.evc.state j) ∧ u = { s with rep := u.rep }))
  ∧ (∀ (t : Fin 6) (id : Fin 2048), (s.rep.evc.target t).frozen = false → (∀ p rest, (s.rep.evc.target t).stack ≠ (id.val, p) :: rest) →
    Completes (.evcComplete (.hart t false) id) s (fun u =>
      (u.rep.evc.target t).frozen = true ∧ (u.rep.evc.target t).stack = (s.rep.evc.target t).stack ∧ Counted s u [key 0x28B0 1] ∧ u = { s with rep := u.rep }))
  ∧ (∀ t : Fin 38, Completes (.evcStackReset (.reg t)) s (fun u =>
      (u.rep.evc.target t).stack = [] ∧ (u.rep.evc.target t).frozen = false
      ∧ (∀ x ∈ (s.rep.evc.target t).stack, (u.rep.evc.state x.1).inService = false) ∧ Counted s u [key 0x28B0 3] ∧ u = { s with rep := u.rep }))
  ∧ (∀ t : Fin 4, Completes (.evcTagAck t) s (fun u =>
      (u.rep.evc.target t).tagLoss = false ∧ (u.rep.evc.target t).stack = (s.rep.evc.target t).stack ∧ u.rep.evc.st = s.rep.evc.st ∧ u = { s with rep := u.rep }))
  ∧ (∀ v : Fin 32, (s.rep.evc.target (6 + v.val)).held = true → s.msixOk v = true → Completes (.msixHeldRelease v) s (fun u =>
      (u.rep.evc.target (6 + v.val)).held = false
      ∧ u.rep.msixOut = (if (s.rep.evc.target (6 + v.val)).signalled then s.rep.msixOut + 1 else s.rep.msixOut) ∧ u = { s with rep := u.rep }))

/-- NMT, error control and the return of the protocol side (15 R365, R369-R372, R380, R385). A command for all nodes or for this node enters its state on the port that took the frame and on no other; a reset of the communication keeps the error counters, takes the settings of 2E00h, drops what waits and sends boot-up in PRE-OPERATIONAL, and a reset of the node reloads 1000h-1FFFh before that; a due heartbeat carries the NMT state; a silent consumed node is counted and heard anew; when the protocol side returns each port that was away restarts. -/
def Obligations.CanNmt : Prop :=
  ∀ (s : State) (p : Fin 2) (node : BitVec 8), (node = 0 ∨ node.toNat = s.nodeId p) → s.canServes p →
  ((s.port p).nmt ≠ .operational → Completes (.nmtStart p node) s (fun t =>
      (t.port p).nmt = .operational ∧ (t.port p).rx = (s.port p).rx.tail ∧ (∀ q, q ≠ p.val → t.port q = s.port q) ∧ t = { s with can := t.can, rep := t.rep }))
  ∧ Completes (.nmtStop p node) s (fun t =>
      t.port p = { s.port p with rx := (s.port p).rx.tail, nmt := .stopped } ∧ (∀ q, q ≠ p.val → t.port q = s.port q) ∧ t = { s with can := t.can })
  ∧ Completes (.nmtEnterPreOperational p node) s (fun t =>
      t.port p = { s.port p with rx := (s.port p).rx.tail, nmt := .preOperational } ∧ (∀ q, q ≠ p.val → t.port q = s.port q) ∧ t = { s with can := t.can })
  ∧ (s.takenSet p 1 ≠ 0 → Completes (.nmtResetCommunication p node) s (fun t =>
      (t.port p).nmt = .preOperational ∧ (t.port p).tx = [.bootup] ∧ (∀ k, 1 ≤ k → k ≤ 11 → t.canSet p k = s.takenSet p k)
      ∧ (t.port p).tec = (s.port p).tec ∧ (t.port p).recErr = (s.port p).recErr ∧ t.rep.emcy.at [] p = []
      ∧ (∀ q, q ≠ p.val → t.port q = s.port q) ∧ t = { s with can := t.can, rep := t.rep, od := t.od }))
  ∧ Completes (.nmtResetNode p node) s (fun t =>
      t = (({ s with can := s.can.upd {} p (fun c => { c with rx := c.rx.tail }) } : State).reloadShared).resetComm p)
  ∧ ((s.port p).nmt ≠ .initialising → s.val 0x1017 0 ≠ 0 → Completes (.heartbeatProducer p) s (fun t =>
      t.port p = { s.port p with tx := (s.port p).tx ++ [.heartbeat (nmtCode (s.port p).nmt)] } ∧ (∀ q, q ≠ p.val → t.port q = s.port q) ∧ t = { s with can := t.can }))
  ∧ (∀ e : Fin 4, bits (s.val 0x1016 (e.val + 1)) 16 8 ≠ 0 → bits (s.val 0x1016 (e.val + 1)) 0 16 ≠ 0 → ((s.port p).hb.at ({} : HbConsumer) e.val).seen = true →
      Completes (.heartbeatConsumerTimeout p e) s (fun t =>
      (t.port p).hb.at {} e.val = { seen := false, out := true } ∧ (t.port p).nmt = (s.port p).nmt ∧ Counted s t [key (canCnt p) 0x0B]
      ∧ (∀ q, q ≠ p.val → t.port q = s.port q) ∧ t = { s with can := t.can, rep := t.rep }))
  ∧ (∀ u : State, u.protocolSide = true → (u.port p).avail = false → u.takenSet p 1 ≠ 0 → (u.canWire p).short = false → Completes .protocolSideReturn u (fun t =>
      (t.port p).avail = true ∧ (t.port p).nmt = .preOperational ∧ (t.port p).tx = [.bootup] ∧ t = { u with can := t.can, rep := t.rep, od := t.od }))

/-- Layer setting services (15 R365, R370, R377, R382), outside a long operation. Switching the state globally enters or leaves the configuration state; the four identity values in turn enter it selectively; in it a node-ID from 1 to 127 is written to NODE_ID and answered 0, another is answered 1; a bit timing of the CiA table waits until it is activated or stored; the inquiries are answered from the identity; identification and the fast scan answer a slave that matches. -/
def Obligations.CanLss : Prop :=
  ∀ (s : State) (p : Fin 2), s.canServes p → s.od.longop = none →
  (∀ c : Bool, Completes (.lssSwitchStateGlobal p c) s (fun t =>
      t.port p = { s.port p with rx := (s.port p).rx.tail, lss := { (s.port p).lss with config := c, select := 0 } } ∧ t = { s with can := t.can }))
  ∧ (∀ (k : Fin 4) (v : BitVec 32), (s.port p).lss.config = false → v.toNat = s.identity (k.val + 1) % 2 ^ 32 → (k = 0 ∨ (s.port p).lss.select = k.val) →
      Completes (.lssSwitchStateSelective p k v) s (fun t =>
        (k.val < 3 → (t.port p).lss = { (s.port p).lss with select := k.val + 1 } ∧ (t.port p).tx = (s.port p).tx)
        ∧ (k.val = 3 → (t.port p).lss = { (s.port p).lss with config := true, select := 0 } ∧ (t.port p).tx = (s.port p).tx ++ [.lss 0x44 0])
        ∧ t = { s with can := t.can }))
  ∧ (∀ n : BitVec 8, (s.port p).lss.config = true → 1 ≤ n.toNat → n.toNat ≤ 127 → Completes (.lssConfigureNodeId p n) s (fun t =>
      t.canNum p 2 = n.toNat ∧ (t.port p).tx = (s.port p).tx ++ [.lss 17 0] ∧ t = { s with can := t.can, od := t.od }))
  ∧ (∀ n : BitVec 8, (s.port p).lss.config = true → (n = 0 ∨ 127 < n.toNat) → Completes (.lssConfigureNodeId p n) s (fun t =>
      (t.port p).tx = (s.port p).tx ++ [.lss 17 1] ∧ t = { s with can := t.can }))
  ∧ (∀ (b i : BitVec 8), (s.port p).lss.config = true → Completes (.lssConfigureBitTiming p b i) s (fun t =>
      (b = 0 → rateIndex i.toNat = true → (t.port p).lss = { (s.port p).lss with rate := some i.toNat } ∧ (t.port p).tx = (s.port p).tx ++ [.lss 19 0])
      ∧ ((b ≠ 0 ∨ rateIndex i.toNat = false) → (t.port p).lss = (s.port p).lss ∧ (t.port p).tx = (s.port p).tx ++ [.lss 19 1])
      ∧ t = { s with can := t.can }))
  ∧ ((s.port p).lss.config = true → Completes (.lssActivateBitTiming p) s (fun t =>
      t.canSet p 3 = (s.port p).lss.rate.getD (s.canNum p 3) ∧ (t.port p).lss = (s.port p).lss ∧ t = { s with can := t.can }))
  ∧ ((s.port p).lss.config = true → Completes (.lssStoreConfiguration p) s (fun t =>
      t.canNum p 3 = (s.port p).lss.rate.getD (s.canNum p 3) ∧ (t.port p).tx = (s.port p).tx ++ [.lss 23 0] ∧ t = { s with can := t.can, od := t.od }))
  ∧ (∀ k : Fin 4, (s.port p).lss.config = true → Completes (.lssInquireIdentity p k) s (fun t =>
      (t.port p).tx = (s.port p).tx ++ [.lss (0x5A + k.val) (s.identity (k.val + 1) % 2 ^ 32)] ∧ t = { s with can := t.can }))
  ∧ ((s.port p).lss.config = true → Completes (.lssInquireNodeId p) s (fun t =>
      (t.port p).tx = (s.port p).tx ++ [.lss 0x5E (s.nodeId p)] ∧ t = { s with can := t.can }))
  ∧ (∀ (k : Fin 6) (v : BitVec 32), s.remoteMatch k v.toNat = true → (k = 0 ∨ (s.port p).lss.remote = k.val) → Completes (.lssIdentifyRemoteSlave p k v) s (fun t =>
      (k.val < 5 → (t.port p).lss = { (s.port p).lss with remote := k.val + 1 } ∧ (t.port p).tx = (s.port p).tx)
      ∧ (k.val = 5 → (t.port p).lss = { (s.port p).lss with remote := 0 } ∧ (t.port p).tx = (s.port p).tx ++ [.lss 0x4F 0])
      ∧ t = { s with can := t.can }))
  ∧ (∀ (id : BitVec 32) (b : Fin 129) (k n : Fin 4), (s.port p).lss.config = false → Completes (.lssFastscan p id b k n) s (fun t =>
      (b.val = 128 → (t.port p).lss = { (s.port p).lss with fast := 0 } ∧ (t.port p).tx = (s.port p).tx ++ [.lss 0x4F 0])
      ∧ (b.val = 0 → (s.port p).lss.fast = k.val → id.toNat = s.identity (k.val + 1) % 2 ^ 32 →
          (t.port p).lss = { (s.port p).lss with fast := n.val, config := decide (n.val < k.val) } ∧ (t.port p).tx = (s.port p).tx ++ [.lss 0x4F 0])
      ∧ t = { s with can := t.can }))

/-- Frames on a CAN bus (15 R361, R362, R366-R368, R372, R380, R381). An acknowledged frame leaves the queue, is counted and lowers TEC; an ACK error raises TEC by 8 unless the port is error-passive, another error always; 256 takes the port off the bus; 128 times 11 recessive bits bring it back with both counters 0; a receive error raises REC by 1 or 8 up to 255; a received frame goes into the buffer of 64 or is counted lost; a discarded one is counted; a wake-up arms the field die's wake once. -/
def Obligations.CanFrames : Prop :=
  ∀ (s : State) (p : Fin 2), (s.port p).avail = true → s.canSet p 1 ≠ 0 → (s.canWire p).short = false →
  (∀ m q, (s.port p).busOff = false → (s.port p).isLonely = false → (s.port p).tx = m :: q →
      Completes (.canFrameTransmit p .acked) s (fun t =>
        (t.port p).tx = q ∧ (t.port p).tec = (s.port p).tec - 1 ∧ (t.port p).lonely = 0 ∧ Counted s t [key (canCnt p) 2]
        ∧ (∀ r, r ≠ p.val → t.port r = s.port r) ∧ t = { s with can := t.can, rep := t.rep })
      ∧ ((s.port p).lonely < 15 → Completes (.canFrameTransmit p .ackError) s (fun t =>
        (t.port p).tx = (s.port p).tx ∧ (t.port p).lonely = (s.port p).lonely + 1 ∧ t.counter (canCnt p) 3 = satInc (s.counter (canCnt p) 3)
        ∧ (t.port p).tec = (if (s.port p).passive then (s.port p).tec else (s.port p).tec + 8)
        ∧ (∀ r, r ≠ p.val → t.port r = s.port r) ∧ t = { s with can := t.can, rep := t.rep }))
      ∧ Completes (.canFrameTransmit p .otherError) s (fun t =>
        (t.port p).tx = (s.port p).tx ∧ (t.port p).tec = min 256 ((s.port p).tec + 8) ∧ ((t.port p).busOff = true ↔ 256 ≤ (s.port p).tec + 8)
        ∧ (∀ r, r ≠ p.val → t.port r = s.port r) ∧ t = { s with can := t.can, rep := t.rep }))
  ∧ ((s.port p).busOff = true → Completes (.busOffRecovery p) s (fun t =>
      t.port p = { s.port p with busOff := false, tec := 0, recErr := 0 } ∧ (∀ r, r ≠ p.val → t.port r = s.port r) ∧ t = { s with can := t.can, rep := t.rep }))
  ∧ (∀ h : Bool, (s.port p).busOff = false → Completes (.canReceiveError p h) s (fun t =>
      t.port p = { s.port p with recErr := min 255 ((s.port p).recErr + if h then 8 else 1) } ∧ (∀ r, r ≠ p.val → t.port r = s.port r) ∧ t = { s with can := t.can, rep := t.rep }))
  ∧ (∀ (f : FrameFmt) (id : BitVec 29) (r c : Bool) (d : List Byte), (s.port p).rx.length < 64 → s.heartbeatNode p { fmt := f, id := id.toNat, rtr := r, sec := c, data := d } = none →
      Completes (.canRx p f id r c d) s (fun t =>
        (t.port p).rx = (s.port p).rx ++ [{ fmt := f, id := id.toNat, rtr := r, sec := c, data := d }] ∧ t.counter (canCnt p) 1 = satInc (s.counter (canCnt p) 1)
        ∧ (∀ q, q ≠ p.val → t.port q = s.port q) ∧ t = { s with can := t.can, rep := t.rep, free := t.free }))
  ∧ (∀ (f : FrameFmt) (id : BitVec 29) (r c : Bool) (d : List Byte), (s.port p).rx.length = 64 → Completes (.canRx p f id r c d) s (fun t =>
        (t.port p).rx = (s.port p).rx ∧ Counted s t [key (canCnt p) 1, key (canCnt p) 9] ∧ t = { s with can := t.can, rep := t.rep, free := t.free }))
  ∧ (∀ f q, (s.port p).rx = f :: q → s.discards p f = true → Completes (.canFrameDiscard p) s (fun t =>
      t.port p = { s.port p with rx := q } ∧ Counted s t [key (canCnt p) 0x0E] ∧ t = { s with can := t.can, rep := t.rep }))
  ∧ (∀ (d w : Bool), s.fd.on = true → s.fd.autonomy = .orderly → s.fd.canWake = false → ((s.fd.canArm.at 0 p.val = 1 ∧ d = true) ∨ (s.fd.canArm.at 0 p.val = 2 ∧ w = true)) →
      Completes (.canWakeup p d w) s (fun t => t.fd.canWake = true ∧ t.can = s.can ∧ t = { s with fd := t.fd, rep := t.rep }))

/-- PDOs, SYNC and EMCY messages (15 R369, R372, R373, R377; 16 R389, R395, R406-R408). An RPDO of too few bytes is counted and dropped, one during a long operation is counted and dropped; an asynchronous one writes the ADMIT of the stations it names; a SYNC applies the held RPDOs; a due TPDO is queued with the values now in force and goes to the bus once; the oldest waiting EMCY goes to the bus with the error register, and the error register that P0 saw last is the one it compares with. -/
def Obligations.CanPdos : Prop :=
  ∀ (s : State) (p : Fin 2), s.canServes p → (s.port p).nmt = .operational →
  (∀ (n : Fin 8) (d : List Byte), bit (s.val (0x1400 + n.val) 1) 31 = false → s.od.longop = none → d.length < mapBytes (s.pdoMap 0x1600 n) → Completes (.rpdoReceive p n d) s (fun t =>
      t.port p = { s.port p with rx := (s.port p).rx.tail } ∧ Counted s t [key (canCnt p) 0x0A] ∧ t = { s with can := t.can, rep := t.rep }))
  ∧ (∀ (n : Fin 8) (d : List Byte), bit (s.val (0x1400 + n.val) 1) 31 = false → s.od.longop = none → d.length = mapBytes (s.pdoMap 0x1600 n) →
      s.val (0x1400 + n.val) 2 < 254 → Completes (.rpdoReceive p n d) s (fun t =>
      t.port p = { s.port p with rx := (s.port p).rx.tail, syncTpdos := (s.port p).syncTpdos.put n d } ∧ t = { s with can := t.can }))
  ∧ (∀ (n : Fin 8) (d : List Byte), bit (s.val (0x1400 + n.val) 1) 31 = false → s.od.longop = none → d.length = mapBytes (s.pdoMap 0x1600 n) →
      254 ≤ s.val (0x1400 + n.val) 2 → Completes (.rpdoReceive p n d) s (fun t =>
      t = ({ s with can := s.can.upd {} p (fun c => { c with rx := c.rx.tail }) } : State).applyRpdo (s.pdoMap 0x1600 n) d))
  ∧ (∀ n : Fin 8, (s.port p).syncTpdos = [] → (∀ k, k < 8 → k ≠ n.val → s.carries p k = false) → s.carries p n = true → 1 ≤ s.tpdoSet n 2 → s.tpdoSet n 2 ≤ 240 →
      (s.port p).isLonely = false → Completes (.syncReceive p) s (fun t =>
      (t.port p).rx = (s.port p).rx.tail ∧ (∀ q, q ≠ p.val → t.port q = s.port q) ∧ (∀ k, k ≠ n.val → t.tpdoAt p k = s.tpdoAt p k)
      ∧ (s.tpdoSet n 2 ≤ (s.tpdoAt p n).sync + 1 → (t.tpdoAt p n).queued = true ∧ (t.tpdoAt p n).sync = 0)
      ∧ ((s.tpdoAt p n).sync + 1 < s.tpdoSet n 2 → t.tpdoAt p n = { s.tpdoAt p n with sync := (s.tpdoAt p n).sync + 1 })
      ∧ t = { s with can := t.can }))
  ∧ (∀ n : Fin 8, s.carries p n = true → 254 ≤ s.tpdoSet n 2 → s.tpdoSet n 5 ≠ 0 → (s.port p).isLonely = false → Completes (.tpdoEventTimer p n) s (fun t =>
      t.tpdoAt p n = { s.tpdoAt p n with queued := true, data := s.tpdoBytes n, last := s.tpdoBytes n, sync := 0 }
      ∧ (∀ k, k ≠ n.val → t.tpdoAt p k = s.tpdoAt p k) ∧ t = { s with can := t.can }))
  ∧ (∀ n : Fin 8, s.carries p n = true → s.tpdoSet n 2 = 254 → s.tpdoBytes n ≠ (s.tpdoAt p n).last → s.inhibitOver p n = true → (s.port p).isLonely = false →
      (∀ k, k < 8 → k ≠ n.val → s.tpdoSet k 2 ≠ 254) → s.carries (1 - p.val) n = false → Completes .tpdoChangeCheck s (fun t =>
      t.tpdoAt p n = { s.tpdoAt p n with queued := true, data := s.tpdoBytes n, last := s.tpdoBytes n, sync := 0 }
      ∧ (∀ k, k ≠ n.val → t.tpdoAt p k = s.tpdoAt p k) ∧ (∀ q, q ≠ p.val → t.port q = s.port q) ∧ t = { s with can := t.can }))
  ∧ (∀ n : Fin 8, s.carries p n = true → (s.tpdoAt p n).queued = true → (s.port p).busOff = false → Completes (.tpdoTransmit p n) s (fun t =>
      (t.port p).tx = (s.port p).tx ++ [.tpdo n.val (s.tpdoAt p n).data] ∧ t.tpdoAt p n = { s.tpdoAt p n with queued := false, lastSent := some s.clk.ref }
      ∧ t = { s with can := t.can }))
  ∧ (∀ m r, s.rep.emcy.at [] p.val = m :: r → (s.port p).isLonely = false → s.emcyReady p = true → bit (s.val 0x1014 0) 31 = false → Completes (.emcyTransmit p) s (fun t =>
      t.rep.emcy.at [] p.val = r ∧ (t.port p).tx = (s.port p).tx ++ [.emcy (emcyBytes m ({ s with rep := { s.rep with emcy := s.rep.emcy.put p r } } : State).errorReg)] ∧ (t.port p).lastEmcy = some s.clk.ref
      ∧ t = { s with can := t.can, rep := t.rep }))
  ∧ (s.computeRuns = true → (s.host.press.at ({} : Pressroom) 0).run = true → (s.rep.errLast = 0 ∨ s.errorReg ≠ 0) → Completes .errorRegisterCheck s (fun t =>
      t.rep.errLast = s.errorReg ∧ t = { s with rep := { s.rep with errLast := s.errorReg } }))

/-- Resets of the compute die (06 R180, R181; 14 R342-R344, R346; 17 R427, R433). PORST_N low, a brown-out, the boot watchdog and the reset of an activation return everything on the compute die to its reset state, leave the flash, the fuses, the field die and the clocks as they are, and name their cause; a supply excursion only counts. -/
def Obligations.ComputeResets : Prop :=
  ∀ s : State,
  Completes .porstAssert s (fun t => s.computeReset t (if s.pwr.state = .hibernate then 0 else if s.pwr.state = .off then s.pwr.causeNext else 1) false)
  ∧ (∀ b : Bool, s.pwr.state ≠ .off → s.pwr.state ≠ .hibernate → Completes (.brownOut b) s (fun t => s.computeReset t (if b then 3 else 2) false))
  ∧ (∀ b : Bool, (s.pwr.state = .off ∨ s.pwr.state = .hibernate) → Completes (.brownOut b) s (fun t => t = s))
  ∧ (s.boot.wdog ≠ none → Completes .bootWatchdogExpiry s (fun t => s.computeReset t 1 true))
  ∧ (s.boot.wdog = none → Completes .bootWatchdogExpiry s (fun t => t = s))
  ∧ (s.boot.resetDue = true → Completes .activateReset s (fun t => s.computeReset t 1 false))
  ∧ (s.boot.resetDue = false → Completes .activateReset s (fun t => t = s))
  ∧ (∀ b : Bool, s.computeRuns = true → Completes (.supplyExcursion b) s (fun t => Counted s t [key 0x28C0 (if b then 6 else 5)] ∧ t = { s with rep := t.rep }))
  ∧ (∀ b : Bool, s.computeRuns = false → Completes (.supplyExcursion b) s (fun t => t = s))

/-- Doze, sleep and waking (13 R336; 14 R348-R356, R358; 15 R380). A request on either path stands where no reason of Table 14-5 holds, and sets the alarm it asks for; it is refused with the lowest reason otherwise, and counted. Entry starts while a request stands, unless WAKE_N is low already; at the commit point the link goes down with a SLEEP message, views and CAN traffic are dropped, and Stop or Hibernate is entered. In Stop an enabled wake is noted with its source and lets the clocks start again; before the commit point it abandons the entry, which is counted. Doze is entered once, when every hart waits, and left with a hart's wake. -/
def Obligations.SleepAndWake : Prop :=
  ∀ s : State,
  (s.pwr.req = 0 → s.sleepRefusal 2 = 0 →
      (s.answers → Completes (.requestStop false) s (fun t => t = { s with pwr := { s.pwr with req := 2, rtcAlarm := if s.num 0x2700 4 0 = 0 then s.pwr.rtcAlarm else (s.rtc + 32768 * s.num 0x2700 4 0) % 2 ^ 64 }, out := { s.out with resp := some .ok } }))
      ∧ (s.computeRuns = true → Completes (.requestStop true) s (fun t => t.pwr.req = 2 ∧ t = { s with pwr := t.pwr, out := { s.out with err := false } })))
  ∧ (s.pwr.req = 0 → s.sleepRefusal 3 = 0 →
      (s.answers → Completes (.requestHibernate false) s (fun t => t = { s with pwr := { s.pwr with req := 3, rtcAlarm := if s.num 0x2700 4 0 = 0 then s.pwr.rtcAlarm else (s.rtc + 32768 * s.num 0x2700 4 0) % 2 ^ 64 }, out := { s.out with resp := some .ok } }))
      ∧ (s.computeRuns = true → Completes (.requestHibernate true) s (fun t => t.pwr.req = 3 ∧ t = { s with pwr := t.pwr, out := { s.out with err := false } })))
  ∧ (s.pwr.req = 0 → s.sleepRefusal 2 ≠ 0 →
      (s.answers → Completes (.requestStop false) s (fun t => t.out.resp = some (.abort 0x08000020) ∧ Counted s t [key 0x28C0 3]
        ∧ t = { s with pwr := { s.pwr with refuse := s.sleepRefusal 2 }, rep := t.rep, out := t.out }))
      ∧ (s.computeRuns = true → Completes (.requestStop true) s (fun t => Counted s t [key 0x28C0 3]
        ∧ t = { s with pwr := { s.pwr with refuse := s.sleepRefusal 2 }, rep := t.rep, out := { s.out with err := true } })))
  ∧ (s.pwr.req = 0 → s.sleepRefusal 3 ≠ 0 → s.answers → Completes (.requestHibernate false) s (fun t => t.out.resp = some (.abort 0x08000020) ∧ Counted s t [key 0x28C0 3]
        ∧ t = { s with pwr := { s.pwr with refuse := s.sleepRefusal 3 }, rep := t.rep, out := t.out }))
  ∧ (s.pwr.req ≠ 0 → s.computeRuns = true →
      ((s.fd.wakeN = false ∨ bit s.wakeEn 2 = false) → Completes .sleepEntryStart s (fun t => t = { s with pwr := { s.pwr with entering := true } }))
      ∧ (s.fd.wakeN = true → bit s.wakeEn 2 = true → Completes .sleepEntryStart s (fun t =>
        Counted s t [key 0x28C0 4] ∧ t = { s with pwr := { s.pwr with req := 0, entering := false, last := 4 }, rep := t.rep }))
      ∧ (∀ b : Fin 3, bit s.wakeEn b = true → Completes (.wakeDuringEntry b) s (fun t =>
        Counted s t [key 0x28C0 4] ∧ t = { s with pwr := { s.pwr with req := 0, entering := false, last := 4 }, rep := t.rep })))
  ∧ ((s.pwr.req = 0 ∨ s.computeRuns = false) → Completes .sleepEntryStart s (fun t => t = s) ∧ ∀ b, Completes (.wakeDuringEntry b) s (fun t => t = s))
  ∧ (s.pwr.entering = true → s.computeRuns = true → s.woundDown = true →
      (s.pwr.req = 2 → Completes .sleepCommit s (fun t =>
        t.pwr = { s.pwr with state := .stop, hold := true, entering := false, req := 0, stopDue := false } ∧ t.link.up = false ∧ t.link.orderly = true
        ∧ t.link.txq = s.link.txq ++ [.sleep 1] ∧ (∀ n, (t.viewAt n).valid = false) ∧ (∀ p, (t.port p).avail = false ∧ (t.port p).rx = [] ∧ (t.port p).tx = [])
        ∧ t.host.linkUp = false ∧ t.fd.canArm = s.wakeModes ∧ Counted s t [key 0x28C0 2]
        ∧ t = { s with fd := t.fd, gk := t.gk, link := t.link, host := t.host, pwr := t.pwr, can := t.can, od := t.od, rep := t.rep }))
      ∧ (s.pwr.req = 3 → Completes .sleepCommit s (fun t =>
        t.pwr = { s.pwr with state := .hibernate, hold := false, entering := false, req := 0, stopDue := false } ∧ t.link.up = false ∧ t.link.txq = s.link.txq ++ [.sleep 2]
        ∧ t.host.linkUp = false ∧ t = { s with fd := t.fd, gk := t.gk, link := t.link, host := t.host, pwr := t.pwr, can := t.can, od := t.od })))
  ∧ ((s.pwr.entering = false ∨ s.woundDown = false) → Completes .sleepCommit s (fun t => t = s))
  ∧ (s.pwr.state = .stop →
      (s.pwr.stopDue = false → s.pwr.rtcAlarm ≠ 0 → s.pwr.rtcAlarm ≤ s.rtc → bit s.wakeEn 0 = true → Completes .rtcAlarm s (fun t =>
        t = { s with pwr := { s.pwr with stopDue := true, wakeSrc := 1, wakeAt := s.clk.wall } }))
      ∧ (s.pwr.stopDue = false → bit s.wakeEn 2 = true → Completes .pwrWakeNFall s (fun t =>
        t = { s with pwr := { s.pwr with stopDue := true, wakeSrc := 0, wakeAt := s.clk.wall } }))
      ∧ (∀ (k : Fin 16) (b : Bool), srcWake (s.rep.evc.cfg (1040 + k)) = true → edgeNamed (srcEdge (s.rep.evc.cfg (1040 + k))) b = true → bit s.wakeEn 1 = true → s.pwr.stopDue = false →
          s.settled → Completes (.gpioWakeLatch k b) s (fun t =>
        (t.rep.evc.ext (16 + k)).latch = true ∧ (∀ j, j ≠ 16 + k.val → t.rep.evc.ext j = s.rep.evc.ext j)
        ∧ t = { s with pwr := { s.pwr with stopDue := true, wakeSrc := 2, wakeAt := s.clk.wall }, rep := t.rep }))
      ∧ (s.pwr.stopDue = true → (∀ k, k < 16 → (s.rep.evc.ext (16 + k)).latch = false) → Completes .stopExitComplete s (fun t =>
        t = { s with pwr := { s.pwr with state := .run, stopDue := false, last := 2, wakeEvent := some 2 } }))
      ∧ (s.pwr.stopDue = false → Completes .stopExitComplete s (fun t => t = s)))
  ∧ (s.pwr.state ≠ .stop → Completes .stopExitComplete s (fun t => t = s) ∧ ∀ k b, Completes (.gpioWakeLatch k b) s (fun t => t = s))
  ∧ (bit s.wakeEn 0 = false → Completes .rtcAlarm s (fun t => t = s))
  ∧ (bit s.wakeEn 2 = false → Completes .pwrWakeNFall s (fun t => t = s))
  ∧ (s.pwr.state = .run → s.pwr.entering = false → s.dozeEn = true → s.hartSignalled = false → (s.hartAt 0).out = true → Completes .dozeEntry s (fun t =>
        t.pwr = { s.pwr with state := .doze } ∧ (∀ h, (t.hartAt h).out = (s.hartAt h).out ∧ (t.hartAt h).wfi = (s.hartAt h).out) ∧ Counted s t [key 0x28C0 1]
        ∧ t = { s with host := { s.host with hart := t.host.hart }, pwr := t.pwr, rep := t.rep }))
  ∧ ((s.pwr.state ≠ .run ∨ s.dozeEn = false ∨ s.hartSignalled = true) → Completes .dozeEntry s (fun t => t = s))
  ∧ (∀ h : Fin 4, s.pwr.state = .doze → Completes (.dozeExit h) s (fun t =>
        t.pwr = { s.pwr with state := .run } ∧ t.hartAt h = { s.hartAt h with wfi := false } ∧ (∀ k, k ≠ h.val → t.hartAt k = s.hartAt k)
        ∧ t = { s with host := { s.host with hart := t.host.hart }, pwr := t.pwr }))
  ∧ (∀ h : Fin 4, s.pwr.state ≠ .doze → Completes (.dozeExit h) s (fun t => t = s))

/-- Start of the compute die (14 R343, R344; 17 R421-R429). When PORST_N is released the die runs, holds its supplies and starts hart H0, with the cause of the reset kept where VDDIO stayed. A fuse check that fails halts with code 9, a forbidden factory test with code 8; BOOTMODE 10 counts the boot and starts the recovery loader; an image that the Proof stage picks is in force, locked and watched, and its pressroom harts and the event log run; with no image to pick the boot halts, with code 7 where one was passed over for LPDDR5X, or recovers in BOOTMODE 01. BOOT_OK ends the boot watchdog. A released die ignores a second release. -/
def Obligations.ComputeBoot : Prop :=
  ∀ (s : State) (k lp : Bool),
  (∀ m : Fin 4, s.pwr.state ≠ .off → Completes (.computeResetRelease m k lp) s (fun t => t = s))
  ∧ (s.pwr.state = .off →
      (∀ m : Fin 4, (s.boot.fuses.badCheck = true ∨ 2 ≤ m.val ∨ ∀ j, (((s.leaveReset m k).trainLp lp).choice).pick = some j → (((s.leaveReset m k).trainLp lp).choice).rec_.trial ≠ j) →
        Completes (.computeResetRelease m k lp) s (fun t =>
        t.pwr.state = .run ∧ t.pwr.hold = true ∧ t.pwr.cause = (if k then s.pwr.causeNext else 0) ∧ t.boot.mode = m ∧ (t.hartAt 0).out = true ∧ t.boot.lastWdog = (k && s.boot.lastWdog)
        ∧ t.wc = s.wc ∧ t.cue = s.cue ∧ t.pending = s.pending))
      ∧ (∀ m : Fin 4, s.boot.fuses.badCheck = true → Completes (.computeResetRelease m k lp) s (fun t => t.boot.halt = 9 ∧ t.boot.started = false))
      ∧ (s.boot.fuses.badCheck = false →
        Completes (.computeResetRelease 3 k lp) s (fun t => t.boot.halt = (if s.boot.fuses.factoryTestOff then 8 else 0) ∧ t.boot.started = false)
        ∧ Completes (.computeResetRelease 2 k lp) s (fun t =>
          t.boot.recovery = true ∧ t.boot.started = true ∧ (t.host.press.at ({} : Pressroom) 0).run = true ∧ t.host.cfgReady = true ∧ t.boot.halt = 0)
        ∧ (∀ m : Fin 4, m.val < 2 → ∀ j, (((s.leaveReset m k).trainLp lp).choice).pick = some j → (((s.leaveReset m k).trainLp lp).choice).rec_.trial ≠ j → Completes (.computeResetRelease m k lp) s (fun t =>
          t.boot.started = true ∧ t.boot.recovery = false ∧ t.boot.halt = 0 ∧ t.boot.slot = j ∧ t.boot.foundryLock = true ∧ t.boot.bullpenLock = true
          ∧ (t.boot.wdog = none ↔ j = 2) ∧ (t.host.press.at ({} : Pressroom) 0).run = true ∧ (t.host.press.at ({} : Pressroom) 1).run = true ∧ t.rep.running = true))
        ∧ ((((s.leaveReset 0 k).trainLp lp).choice).pick = none → Completes (.computeResetRelease 0 k lp) s (fun t =>
          t.boot.started = false ∧ t.boot.halt = (if (((s.leaveReset 0 k).trainLp lp).choice).passed then 7 else 6)))
        ∧ ((((s.leaveReset 1 k).trainLp lp).choice).pick = none → Completes (.computeResetRelease 1 k lp) s (fun t =>
          t.boot.started = true ∧ t.boot.recovery = true ∧ t.boot.halt = 0))))
  ∧ (∀ v : BitVec 32, Completes (.bootOk v) s (fun t => t = if bit v.toNat 0 then { s with boot := { s.boot with bootOk := true, wdog := none } } else s))

/-- On-chip flash and its registers (17 R412, R413, R418, R419, R440). A locked address refuses program and erase with an error; else a program leaves the data where 32 bytes were erased, an erase leaves its 4 KiB sector at FFh and is counted, and BUSY stands until the command is complete; no other byte of memory changes. LPCFG goes into the boot record, one write that moves SEQ on and keeps the other fields. -/
def Obligations.FlashCommands : Prop :=
  ∀ s : State,
  (s.flashLocked (s.boot.flashAddr % 0x800000) = true →
      Completes .flashProgram s (fun t => t = { s with boot := { s.boot with flashError := true }, out := { s.out with err := true } })
      ∧ Completes .flashErase s (fun t => t = { s with boot := { s.boot with flashError := true }, out := { s.out with err := true } }))
  ∧ (s.flashLocked (s.boot.flashAddr % 0x800000) = false →
      let a := s.boot.flashAddr % 0x800000
      (s.erased (a / 32 * 32) 32 = true → Completes .flashProgram s (fun t =>
        (∀ b, t.byte b = if a / 32 * 32 ≤ b ∧ b < a / 32 * 32 + 32 then BitVec.ofNat 8 (s.boot.flashData.toNat / 256 ^ (b - a / 32 * 32)) else s.byte b)
        ∧ t.boot.flashBusy = true ∧ t.boot.flashError = false
        ∧ t = { s with mem := { s.mem with bytes := t.mem.bytes }, boot := { s.boot with flashBusy := true, flashError := false, shipA := t.boot.shipA, shipBull := t.boot.shipBull }
                       free := t.free, out := { s.out with err := false } }))
      ∧ Completes .flashErase s (fun t =>
        (∀ b, t.byte b = if a / 4096 * 4096 ≤ b ∧ b < a / 4096 * 4096 + 4096 then 0xFF else s.byte b) ∧ Counted s t [key 0x28E0 7]
        ∧ t = { s with mem := { s.mem with bytes := t.mem.bytes }, rep := t.rep, out := { s.out with err := false }
                       boot := { s.boot with flashBusy := true, flashError := false, shipA := t.boot.shipA, shipBull := t.boot.shipBull, dlLen := t.boot.dlLen, dlCrc := t.boot.dlCrc } }))
  ∧ Completes .flashCommandComplete s (fun t => t = { s with boot := { s.boot with flashBusy := false } })
  ∧ (∀ v : BitVec 128, Memory.wf s.mem = true → s.bootRec.seq < 0xFFFFFFFF → Completes (.bootLpcfgWrite v) s (fun t =>
        t.bootRec = { s.bootRec with seq := s.bootRec.seq + 1, lpcfg := leBytes 16 v.toNat } ∧ Memory.wf t.mem = true
        ∧ (∀ b, (b < 0x10000 ∨ 0x12000 ≤ b) → t.byte b = s.byte b) ∧ Counted s t [key 0x28E0 7]
        ∧ t = { s with mem := { s.mem with bytes := t.mem.bytes }, free := t.free, rep := t.rep }))

/-- Firmware update (16 R399; 17 R430-R434). BEGIN opens a download of the announced length into the inactive slot, and is refused without a length or while a slot is on trial. A block is taken in order with its own length and CRC: its bytes then stand in the slot and it is counted; one out of order, of a wrong length or with a bad CRC is counted and refused. VERIFY starts a long operation on a whole download; ACTIVATE needs a VERIFIED slot and no running station and makes the reset due; CONFIRM ends the trial of the image in force; CANCEL empties a slot that holds a download. Each is refused in any other state. -/
def Obligations.FirmwareUpdate : Prop :=
  ∀ s : State, s.answers →
  let k := s.inactive
  let refused (t : State) : Prop := t = { s with out := { s.out with resp := some (.abort 0x08000020) } }
  ((s.boot.imageLength = 0 ∨ s.bootRec.slotIs 0 .trial = true ∨ s.bootRec.slotIs 1 .trial = true) → Completes .updateBegin s refused)
  ∧ (s.boot.imageLength ≠ 0 → s.bootRec.slotIs 0 .trial = false → s.bootRec.slotIs 1 .trial = false → (s.num 0x2A00 5 0 ≠ 1 ∨ s.boot.dlLen ≠ some s.boot.imageLength) → Completes .updateBegin s (fun t =>
      t.boot.dlLen = some s.boot.imageLength ∧ t.boot.dlSlot = k ∧ t.boot.dlCrc = [] ∧ t.boot.nextBlock = 0 ∧ t.boot.blocks = 0 ∧ t.out.resp = some .ok
      ∧ t = { s with mem := { s.mem with bytes := t.mem.bytes }, boot := t.boot, free := t.free, rep := t.rep, out := { s.out with resp := some .ok } }))
  ∧ (∀ d : List Byte,
      let len := s.boot.dlLen.getD 0
      ((d.length < 9 ∨ 4104 < d.length) → Completes (.updateBlock d) s (fun t => t = { s with out := { s.out with resp := some (.abort 0x06070010) } }))
      ∧ (9 ≤ d.length → d.length ≤ 4104 →
        ((s.bootRec.slotIs k .downloading = false ∨ field d 0 4 ≠ s.boot.nextBlock) → Completes (.updateBlock d) s (fun t =>
          Counted s t [key 0x28E0 2] ∧ t = { s with rep := t.rep, out := { s.out with resp := some (.abort 0x08000020) } }))
        ∧ (s.bootRec.slotIs k .downloading = true → field d 0 4 = s.boot.nextBlock →
          ((d.drop 8).length ≠ blockLen len s.boot.nextBlock → Completes (.updateBlock d) s (fun t =>
            Counted s t [key 0x28E0 2] ∧ t = { s with rep := t.rep, out := { s.out with resp := some (.abort 0x06070010) } }))
          ∧ ((d.drop 8).length = blockLen len s.boot.nextBlock → crc32 (d.drop 8) ≠ BitVec.ofNat 32 (field d 4 4) → Completes (.updateBlock d) s (fun t =>
            Counted s t [key 0x28E0 3] ∧ t = { s with rep := t.rep, out := { s.out with resp := some (.abort 0x08000000) } }))
          ∧ ((d.drop 8).length = blockLen len s.boot.nextBlock → crc32 (d.drop 8) = BitVec.ofNat 32 (field d 4 4) → Memory.wf s.mem = true → s.boot.nextBlock < 768 → k < 2 → Completes (.updateBlock d) s (fun t =>
            (∀ i, i < (d.drop 8).length → t.byte (imgBase k + 4096 * s.boot.nextBlock + i) = (d.drop 8).getD i 0)
            ∧ t.boot.dlCrc.at 0 s.boot.nextBlock = crc32 (d.drop 8) ∧ t.counter 0x28E0 1 = satInc (s.counter 0x28E0 1) ∧ t.out.resp = some .ok
            ∧ t = { s with mem := { s.mem with bytes := t.mem.bytes }, boot := t.boot, free := t.free, rep := t.rep, out := { s.out with resp := some .ok } })))))
  ∧ ((s.bootRec.slotIs k .unverified = true ∨ s.bootRec.slotIs k .verified = true) → Completes .updateVerify s (fun t =>
      t = { s with od := { s.od with longop := some { code := 5, inst := 255, arg := k, started := s.clk.ref } }, out := { s.out with resp := some .ok } }))
  ∧ (s.bootRec.slotIs k .unverified = false → s.bootRec.slotIs k .verified = false → Completes .updateVerify s refused)
  ∧ (s.bootRec.slotIs k .verified = true → (∀ st, st < 32 → s.stState st ≠ .admitting ∧ s.stState st ≠ .draining) → Completes .updateActivate s (fun t =>
      t.boot.resetDue = true ∧ t = { s with mem := { s.mem with bytes := t.mem.bytes }, boot := t.boot, free := t.free, rep := t.rep, out := { s.out with resp := some .ok } }))
  ∧ ((s.bootRec.slotIs k .verified = false ∨ ∃ st, st < 32 ∧ (s.stState st = .admitting ∨ s.stState st = .draining)) → Completes .updateActivate s refused)
  ∧ (s.boot.slot ≠ 2 → s.bootRec.slotIs s.boot.slot .trial = true → Completes .updateConfirm s (fun t =>
      t.boot.trial = false ∧ t = { s with mem := { s.mem with bytes := t.mem.bytes }, boot := t.boot, free := t.free, rep := t.rep, out := { s.out with resp := some .ok } }))
  ∧ ((s.boot.slot = 2 ∨ s.bootRec.slotIs s.boot.slot .trial = false) → Completes .updateConfirm s refused)
  ∧ ((s.bootRec.slotIs k .downloading = true ∨ s.bootRec.slotIs k .unverified = true ∨ s.bootRec.slotIs k .verified = true ∨ s.bootRec.slotIs k .failed = true) → Completes .updateCancel s (fun t =>
      t.boot.nextBlock = 0 ∧ t.boot.blocks = 0
      ∧ t = { s with mem := { s.mem with bytes := t.mem.bytes }, boot := t.boot, free := t.free, rep := t.rep, out := { s.out with resp := some .ok } }))
  ∧ ((s.bootRec.slotIs k .empty = true ∨ s.bootRec.slotIs k .trial = true ∨ s.bootRec.slotIs k .confirmed = true) → Completes .updateCancel s refused)

/-- Packages (16 R403, R404). An IMAGE segment is taken in order into a slot that is EMPTY, FAILED or LOADING and stands at LOAD_BASE plus its offset; the last one starts the installation. VERIFY starts a check of an installed package, REMOVE empties a slot that no running station names. Whatever else is asked is refused and changes nothing. -/
def Obligations.Packages : Prop :=
  ∀ (s : State) (p : Fin 64), s.answers →
  let refused (t : State) : Prop := t = { s with out := { s.out with resp := some (.abort 0x08000020) } }
  (((s.pk p).state = .installed ∨ (s.pk p).state = .verified) →
      (∀ o l d, Completes (.packageImageSegment p o l d) s refused)
      ∧ Completes (.packageVerify p) s (fun t => t = { s with od := { s.od with longop := some { code := 4, inst := p, arg := 0, started := s.clk.ref } }, out := { s.out with resp := some .ok } }))
  ∧ ((s.pk p).state ≠ .installed → (s.pk p).state ≠ .verified → Completes (.packageVerify p) s refused
      ∧ (∀ (o : BitVec 32) l d, o ≠ 0 → ((s.pk p).state ≠ .loading ∨ o.toNat ≠ (s.pk p).size) → Completes (.packageImageSegment p o l d) s (fun t =>
        t = { s with out := { s.out with resp := some (.abort 0x08000000) } }))
      ∧ (∀ (o : BitVec 32) (l : Bool), (o = 0 ∨ ((s.pk p).state = .loading ∧ o.toNat = (s.pk p).size)) → Completes (.packageImageSegment p o l []) s (fun t =>
        t.pk p = { s.pk p with state := .loading, size := o.toNat, result := 0 } ∧ (∀ q, q ≠ p.val → t.pk q = s.pk q)
        ∧ t.od.longop = (if l then some { code := 3, inst := p, arg := 0, started := s.clk.ref } else none)
        ∧ t = { s with pkg := t.pkg, od := { s.od with longop := t.od.longop }, out := { s.out with resp := some .ok } }))
      ∧ (∀ (o : BitVec 32) (l : Bool) (d : List Byte), (o = 0 ∨ ((s.pk p).state = .loading ∧ o.toNat = (s.pk p).size)) → d ≠ [] →
        regionOf ((s.pk p).base + o.toNat) = some .lpddr → s.mem.lpFailed = false → (s.pk p).base + o.toNat - lpBase + d.length ≤ s.mem.lpUsable → s.mem.lpPoison = [] → s.mem.lines = [] →
        s.check (.press 1) (s.pk p).station ((s.pk p).base + o.toNat) d.length .write = none → Completes (.packageImageSegment p o l d) s (fun t =>
        t.pk p = { s.pk p with state := .loading, size := o.toNat + d.length, result := 0 } ∧ (∀ q, q ≠ p.val → t.pk q = s.pk q)
        ∧ (∀ a, t.byte a = if (s.pk p).base + o.toNat ≤ a ∧ a < (s.pk p).base + o.toNat + d.length then d.getD (a - ((s.pk p).base + o.toNat)) 0 else s.byte a)
        ∧ t.od.longop = (if l then some { code := 3, inst := p, arg := 0, started := s.clk.ref } else none)
        ∧ t = { s with pkg := t.pkg, mem := { s.mem with bytes := t.mem.bytes, lines := t.mem.lines, lpPoison := [] }, od := { s.od with longop := t.od.longop }
                       out := { s.out with resp := some .ok } }))
      ∧ (∀ (o : BitVec 32) (l : Bool) (d : List Byte) (x : Nat × Nat), (o = 0 ∨ ((s.pk p).state = .loading ∧ o.toNat = (s.pk p).size)) → d ≠ [] →
        s.check (.press 1) (s.pk p).station ((s.pk p).base + o.toNat) d.length .write = some x → Completes (.packageImageSegment p o l d) s (fun t =>
        t.out.resp = some (.abort 0x06090030) ∧ t.mem = s.mem ∧ (∀ q, q ≠ p.val → t.pk q = s.pk q) ∧ t.ref.seq = (s.ref.seq + 1) % 2 ^ 32)))
  ∧ ((∀ st, st < 32 → s.stNum st 0x20 = p.val → s.stState st ≠ .admitting ∧ s.stState st ≠ .draining) → Completes (.packageRemove p) s (fun t =>
        t.pk p = { s.pk p with state := .empty, size := 0, result := 0 } ∧ (∀ q, q ≠ p.val → t.pk q = s.pk q) ∧ t = { s with pkg := t.pkg, out := { s.out with resp := some .ok } }))
  ∧ (∀ st, st < 32 → s.stNum st 0x20 = p.val → (s.stState st = .admitting ∨ s.stState st = .draining) → Completes (.packageRemove p) s refused)

/-- Long operations (16 R394, R404, R405; 17 R437; 08 R228; 11 R292). "save" starts a store and "load" a restore of their scope; another value, and a store under the Bullpen, is refused. An operation that completes ends the busy period: a verification leaves its package VERIFIED, or FAILED with result 4, an installation with a bad header FAILED with result 2, a store that fails is counted, a full test retires the cores that failed with reason 3 and frees the others, a teardown drops the station's rings and quoins and leaves it CONFIGURED and counted. One that times out ends with its objects as they are. -/
def Obligations.LongOperations : Prop :=
  ∀ s : State,
  (s.answers → ∀ (scope : Fin 4) (v : BitVec 32),
      (v = 0x65766173 → s.boot.slot ≠ 2 → Completes (.storeParameters scope v) s (fun t =>
        t = { s with od := { s.od with longop := some { code := 1, inst := scope.val + 1, arg := 0, started := s.clk.ref } }, out := { s.out with resp := some .ok } }))
      ∧ ((v ≠ 0x65766173 ∨ s.boot.slot = 2) → Completes (.storeParameters scope v) s (fun t => t = { s with out := { s.out with resp := some (.abort 0x08000020) } }))
      ∧ (v = 0x64616F6C → Completes (.restoreDefaults scope v) s (fun t =>
        t = { s with od := { s.od with longop := some { code := 2, inst := scope.val + 1, arg := 0, started := s.clk.ref } }, out := { s.out with resp := some .ok } }))
      ∧ (v ≠ 0x64616F6C → Completes (.restoreDefaults scope v) s (fun t => t = { s with out := { s.out with resp := some (.abort 0x08000020) } })))
  ∧ (s.od.longop = none → Completes .longOperationTimeout s (fun t => t = s) ∧ ∀ ok f, Completes (.longOperationComplete ok f) s (fun t => t = s))
  ∧ (∀ o, s.od.longop = some o → Completes .longOperationTimeout s (fun t => t = { s with od := { s.od with longop := none }, rep := t.rep } ∧ ∀ k, k ∉ ownCounters → t.tally k = s.tally k))
  ∧ (∀ o (ok : Bool) (f : BitVec 16), s.od.longop = some o →
      (o.code = 1 → Completes (.longOperationComplete false f) s (fun t => Counted s t [key 0x28E0 6] ∧ t = { s with od := { s.od with longop := none }, rep := t.rep }))
      ∧ (o.code = 2 → Completes (.longOperationComplete false f) s (fun t => t = { s with od := { s.od with longop := none }, rep := t.rep }))
      ∧ (o.code = 2 → s.boot.slot = 2 → Completes (.longOperationComplete ok f) s (fun t => t = { s with od := { s.od with longop := none }, rep := t.rep }))
      ∧ (o.code = 3 → Config.packageFormat (s.peek (s.pk o.inst).base (s.pk o.inst).size) = false → Completes (.longOperationComplete ok f) s (fun t =>
        t.pk o.inst = { s.pk o.inst with state := .failed, result := 2 } ∧ (∀ q, q ≠ o.inst → t.pk q = s.pk q) ∧ t = { s with pkg := t.pkg, od := { s.od with longop := none }, rep := t.rep }))
      ∧ (o.code = 4 → Completes (.longOperationComplete ok f) s (fun t =>
        t.pk o.inst = (if Config.packageDigest (s.pk o.inst).base (s.peek (s.pk o.inst).base (s.pk o.inst).size) then { s.pk o.inst with state := .verified, result := 1 } else { s.pk o.inst with state := .failed, result := 4 })
        ∧ (∀ q, q ≠ o.inst → t.pk q = s.pk q) ∧ t = { s with pkg := t.pkg, od := { s.od with longop := none }, rep := t.rep }))
      ∧ (o.code = 6 → (∃ c, c < 16 ∧ bit s.nc.testing c = true ∧ (s.core c).state = .running) → Completes (.longOperationComplete ok f) s (fun t => t = s))
      ∧ (o.code = 6 → (∀ c, c < 16 → bit s.nc.testing c = true → (s.core c).state = .testing ∧ (s.core c).retire = false) → Completes (.longOperationComplete ok f) s (fun t =>
        (∀ c, c < 16 → (bit s.nc.testing c = false → t.core c = s.core c)
          ∧ (bit s.nc.testing c = true → bit f.toNat c = true → (t.core c).state = .retired ∧ (t.core c).reason = 3 ∧ t.counter (0x2870 + c) 6 = satInc (s.counter (0x2870 + c) 6))
          ∧ (bit s.nc.testing c = true → bit f.toNat c = false → (t.core c).state = .idle ∧ (t.core c).galley = [] ∧ (t.core c).wForme = []))
        ∧ t.nc.testing = 0 ∧ t = { s with nc := t.nc, qn := t.qn, rg := t.rg, od := { s.od with longop := none }, rep := t.rep }))
      ∧ (o.code = 7 → o.inst < 32 → (∀ n, n < 16 → s.channelOwner n = o.inst → s.icn n 1 = 0) → Completes (.longOperationComplete ok f) s (fun t =>
        t.stState o.inst = .configured ∧ (∀ k, k ≠ o.inst → t.stState k = s.stState k) ∧ t.od.longop = none
        ∧ (∀ r, s.ringIn o.inst r = true → t.ring r = {}) ∧ (∀ r, s.ringIn o.inst r = false → t.ring r = s.ring r)
        ∧ (∀ q, s.quoinIn o.inst q = true → t.quoin q = {}) ∧ (∀ q, s.quoinIn o.inst q = false → t.quoin q = s.quoin q)
        ∧ (∀ w, w < 16 → bit (s.stNum o.inst 7) w = true → bit (t.stNum o.inst 7) w = false) ∧ t.counter 0x2890 3 = satInc (s.counter 0x2890 3))))

/-- Clearing counters and logs, and revoking a key (00 R14; 16 R400, R402, R409; 18 R453-R455). A zero written to a counter or to its mirror clears that counter and no other, another value is refused; an index clears every counter of its object. The pre-defined error field is cleared by 0, the event log by 1, and its SEQ goes on. A key slot is revoked by its fuse, unless it is the one in use or the last. -/
def Obligations.ClearsAndKeys : Prop :=
  ∀ s : State,
  (∀ (i : BitVec 16) (sub : BitVec 8) (h : Nat), s.answers → counterHigh i.toNat = some h →
      (sub ≠ 0 → sub.toNat ≤ h → Completes (.counterClear i sub 0 false) s (fun t =>
        (∀ k, t.tally k = if k = key i.toNat sub.toNat then 0 else s.tally k)
        ∧ t = { s with rep := { s.rep with cnt := t.rep.cnt }, out := { s.out with resp := some .ok } }))
      ∧ (∀ v : BitVec 32, sub ≠ 0 → sub.toNat ≤ h → v ≠ 0 → Completes (.counterClear i sub v false) s (fun t => t = { s with out := { s.out with resp := some (.abort 0x06090030) } }))
      ∧ (∀ v, Completes (.counterClear i 0 v false) s (fun t => t = { s with out := { s.out with resp := some (.abort 0x06010002) } }))
      ∧ (∀ v, h < sub.toNat → Completes (.counterClear i sub v false) s (fun t => t = { s with out := { s.out with resp := some (.abort 0x06090011) } }))
      ∧ Completes (.counterObjectClear i false) s (fun t => (∀ k, t.tally k = if k / 256 = i.toNat then 0 else s.tally k)
        ∧ t = { s with rep := { s.rep with cnt := t.rep.cnt }, out := { s.out with resp := some .ok } }))
  ∧ (∀ (i : BitVec 16) (sub : BitVec 8) v, s.answers → counterHigh i.toNat = none →
      Completes (.counterClear i sub v false) s (fun t => t = { s with out := { s.out with resp := some (.abort 0x06020000) } })
      ∧ Completes (.counterObjectClear i false) s (fun t => t = { s with out := { s.out with resp := some (.abort 0x06090030) } }))
  ∧ (∀ (i : BitVec 16) (sub : BitVec 8), s.computeRuns = true →
      (isCounter i.toNat sub.toNat = true → Completes (.counterClear i sub 0 true) s (fun t =>
          (∀ k, t.tally k = if k = key i.toNat sub.toNat then 0 else s.tally k) ∧ t = { s with rep := { s.rep with cnt := t.rep.cnt }, out := { s.out with err := false } })
        ∧ ∀ v : BitVec 32, v ≠ 0 → Completes (.counterClear i sub v true) s (fun t => t = { s with out := { s.out with err := true } }))
      ∧ (isCounter i.toNat sub.toNat = false → ∀ v, Completes (.counterClear i sub v true) s (fun t => Counted s t [key 0x285A 0x0F] ∧ t = { s with rep := t.rep, out := { s.out with err := true } }))
      ∧ (∀ h, counterHigh i.toNat = some h → Completes (.counterObjectClear i true) s (fun t => (∀ k, t.tally k = if k / 256 = i.toNat then 0 else s.tally k)
        ∧ t = { s with rep := { s.rep with cnt := t.rep.cnt }, out := { s.out with err := false } }))
      ∧ (counterHigh i.toNat = none → Completes (.counterObjectClear i true) s (fun t => t = { s with out := { s.out with err := true } })))
  ∧ (s.answers → Completes (.errorHistoryClear 0) s (fun t => t = { s with rep := { s.rep with hist := [] }, out := { s.out with resp := some .ok } })
      ∧ (∀ v : BitVec 8, v ≠ 0 → Completes (.errorHistoryClear v) s (fun t => t = { s with out := { s.out with resp := some (.abort 0x06090030) } }))
      ∧ Completes (.eventLogClear 1) s (fun t => t = { s with rep := { s.rep with log := [] }, out := { s.out with resp := some .ok } })
      ∧ (∀ v : BitVec 8, v ≠ 1 → Completes (.eventLogClear v) s (fun t => t = { s with out := { s.out with resp := some (.abort 0x06090030) } })))
  ∧ (∀ v : BitVec 8, s.answers →
      (v.toNat ≤ 3 → v.toNat ≠ s.boot.keySlot → s.boot.fuses.revoke ||| BitVec.ofNat 4 (2 ^ v.toNat) ≠ 0xF#4 → Completes (.keyRevoke v) s (fun t =>
        t.boot = { s.boot with fuses := { s.boot.fuses with revoke := s.boot.fuses.revoke ||| BitVec.ofNat 4 (2 ^ v.toNat) } }
        ∧ t = { s with boot := t.boot, rep := t.rep, out := { s.out with resp := some .ok } } ∧ ∀ k, k ∉ ownCounters → t.tally k = s.tally k))
      ∧ (v.toNat ≤ 3 → (v.toNat = s.boot.keySlot ∨ s.boot.fuses.revoke ||| BitVec.ofNat 4 (2 ^ v.toNat) = 0xF#4) → Completes (.keyRevoke v) s (fun t =>
        t = { s with out := { s.out with resp := some (.abort 0x08000020) } }))
      ∧ (3 < v.toNat → Completes (.keyRevoke v) s (fun t => t = { s with out := { s.out with resp := some (.abort 0x06090030) } })))

/-- Patrol scrubs (06 R169, R172, R173; 18 R443-R446, R456). Each read moves its pass on by one; the last read ends and counts the pass and lets the resource leave forced mode. A corrected word is counted and waits to be rewritten, an uncorrectable one is counted and remembered, and the third such place within 60 s fences the channel; a descriptor with an uncorrectable error is damaged. A pass is counted late once; forced intervals run in forced mode only, at least 10 ms apart. -/
def Obligations.PatrolScrubs : Prop :=
  ∀ s : State,
  (∀ (c : Fin 8) e, (s.computeRuns = false ∨ (s.chan c).ready = false ∨ (s.chan c).fenced = true) → Completes (.deepStoreScrubRead c e) s (fun t => t = s))
  ∧ (∀ c : Fin 8, s.computeRuns = true → (s.chan c).ready = true → (s.chan c).fenced = false →
      let w := (dsBase c + 64 * s.scrubPlace c) / 8
      let recent := (s.chan c).unc.filter (fun x => x.1 != w / 8 && decide (s.clk.ref ≤ x.2 + 60 * Config.psPerS))
      Completes (.deepStoreScrubRead c .none) s (fun t =>
        s.scrubbed t c ∧ Counted s t (s.scrubEnds c (key (0x2850 + c) 4)) ∧ t = { s with gk := t.gk, rep := t.rep })
      ∧ Completes (.deepStoreScrubRead c .corrected) s (fun t =>
        s.scrubbed t c ∧ Counted s t (key (0x2850 + c) 1 :: s.scrubEnds c (key (0x2850 + c) 4)) ∧ w ∈ (t.chan c).fix
        ∧ t.chan c = { s.chan c with fix := (t.chan c).fix } ∧ (∀ x, x ∈ (t.chan c).fix ↔ x = w ∨ x ∈ (s.chan c).fix) ∧ (∀ d, d ≠ c.val → t.chan d = s.chan d)
        ∧ t = { s with gk := t.gk, mem := { s.mem with ds := t.mem.ds }, rep := t.rep })
      ∧ (recent.length < 2 → Completes (.deepStoreScrubRead c .uncorrectable) s (fun t =>
        s.scrubbed t c ∧ Counted s t (key (0x2850 + c) 2 :: s.scrubEnds c (key (0x2850 + c) 4))
        ∧ t.chan c = { s.chan c with unc := (w / 8, s.clk.ref) :: recent } ∧ (∀ d, d ≠ c.val → t.chan d = s.chan d)
        ∧ t = { s with gk := t.gk, mem := { s.mem with ds := t.mem.ds }, rep := t.rep }))
      ∧ (2 ≤ recent.length → Completes (.deepStoreScrubRead c .uncorrectable) s (fun t =>
        (t.chan c).fenced = true ∧ (∀ d, d ≠ c.val → t.chan d = s.chan d) ∧ (∀ st, st < 32 → s.holdsShare st c = true → t.admits st = false)
        ∧ t.counter (0x2850 + c) 2 = satInc (s.counter (0x2850 + c) 2) ∧ t.counter (0x2850 + c) 5 = satInc (s.counter (0x2850 + c) 5) ∧ t.mem.bytes = s.mem.bytes)))
  ∧ (∀ e, s.computeRuns = false → Completes (.ringTableScrubRead e) s (fun t => t = s))
  ∧ (s.computeRuns = true →
      Completes (.ringTableScrubRead .none) s (fun t =>
        s.scrubbed t 8 ∧ Counted s t (s.scrubEnds 8 (key 0x28F0 1)) ∧ t = { s with gk := t.gk, rep := t.rep })
      ∧ Completes (.ringTableScrubRead .corrected) s (fun t =>
        s.scrubbed t 8 ∧ Counted s t (key 0x285A 5 :: s.scrubEnds 8 (key 0x28F0 1)) ∧ t = { s with gk := t.gk, rep := t.rep })
      ∧ Completes (.ringTableScrubRead .uncorrectable) s (fun t =>
        s.scrubbed t 8 ∧ Counted s t (key 0x285A 6 :: s.scrubEnds 8 (key 0x28F0 1))
        ∧ t.ring (s.scrubPlace 8) = { s.ring (s.scrubPlace 8) with damaged := true } ∧ (∀ r, r ≠ s.scrubPlace 8 → t.ring r = s.ring r)
        ∧ t = { s with gk := t.gk, rg := { s.rg with ring := t.rg.ring }, rep := t.rep }))
  ∧ (∀ r : Fin 9,
      (s.computeRuns = true → s.passRuns r = true →
        (s.gk.late.at false r = false → Completes (.scrubPassLate r) s (fun t =>
          t.gk.late.at false r = true ∧ Counted s t [key 0x28F0 (if r = 8 then 3 else 2)] ∧ t = { s with gk := { s.gk with late := t.gk.late }, rep := t.rep }))
        ∧ (s.gk.forced.at false r = false → Completes (.scrubForcedMode r) s (fun t =>
          t.gk.forced.at false r = true ∧ Counted s t [] ∧ t = { s with gk := { s.gk with forced := t.gk.forced }, rep := t.rep }))
        ∧ (s.gk.forced.at false r = true → s.gk.interval.at false r = false → (∀ x, s.gk.lastInt.at none r = some x → x + 10 * Config.psPerMs ≤ s.clk.ref) →
          Completes (.forcedIntervalStart r) s (fun t =>
            t.gk.interval.at false r = true ∧ t.gk.lastInt.at none r = some s.clk.ref ∧ (∀ k, k ≠ r.val → t.gk.interval.at false k = s.gk.interval.at false k)
            ∧ Counted s t [key 0x28F0 4] ∧ t = { s with gk := { s.gk with interval := t.gk.interval, lastInt := t.gk.lastInt }, rep := t.rep })))
      ∧ (s.computeRuns = false ∨ s.passRuns r = false ∨ s.gk.late.at false r = true → Completes (.scrubPassLate r) s (fun t => t = s))
      ∧ (s.computeRuns = false ∨ s.passRuns r = false ∨ s.gk.forced.at false r = true → Completes (.scrubForcedMode r) s (fun t => t = s))
      ∧ (s.computeRuns = false ∨ s.passRuns r = false ∨ s.gk.forced.at false r = false ∨ s.gk.interval.at false r = true
          ∨ (∃ x, s.gk.lastInt.at none r = some x ∧ s.clk.ref < x + 10 * Config.psPerMs) → Completes (.forcedIntervalStart r) s (fun t => t = s))
      ∧ Completes (.forcedIntervalEnd r) s (fun t =>
          t.gk.interval.at false r = false ∧ (∀ k, k ≠ r.val → t.gk.interval.at false k = s.gk.interval.at false k) ∧ t = { s with gk := { s.gk with interval := t.gk.interval } }))

/-- Calibration, erase-ahead and telemetry (17 R435, R440; 18 R447-R450, R456). A calibration starts on a READY channel with nothing in flight and no cue near, its completion ends the dueness and is counted; a period without one counts as missed, the tenth in a row raises EV-1F03. Erase-ahead erases and counts the first of the two sectors ahead that is not erased and not kept. A telemetry read takes the hottest of four sensors and the supplies; over-temperature starts above 105.0 °C, is counted, and ends below 100.0 °C. -/
def Obligations.CalibrationAndTelemetry : Prop :=
  ∀ s : State,
  (∀ n : Fin 16,
      (s.computeRuns = true → s.gk.calEn = true → s.gk.calDue.at false n = true → s.calibrates n = true → (s.intake n).state = .ready → (s.intake n).exps = [] → s.cueFar n = true →
        Completes (.phyCalibrationStart n) s (fun t =>
          t.gk.calRun.at false n = true ∧ (∀ k, k ≠ n.val → t.gk.calRun.at false k = s.gk.calRun.at false k) ∧ t = { s with gk := { s.gk with calRun := t.gk.calRun } }))
      ∧ ((s.computeRuns = false ∨ s.gk.calEn = false ∨ s.gk.calDue.at false n = false ∨ s.calibrates n = false ∨ (s.intake n).state ≠ .ready ∨ (s.intake n).exps ≠ [] ∨ s.cueFar n = false) →
        Completes (.phyCalibrationStart n) s (fun t => t = s))
      ∧ (s.computeRuns = true → s.gk.calRun.at false n = true → Completes (.phyCalibrationComplete n) s (fun t =>
          t.gk.calRun.at false n = false ∧ t.gk.calDue.at false n = false ∧ t.gk.calDone.at false n = true ∧ t.gk.calMiss.at 0 n = 0 ∧ t.gk.calTemp.at 0 n = s.gk.temp
          ∧ (∀ k, k ≠ n.val → t.gk.calRun.at false k = s.gk.calRun.at false k ∧ t.gk.calDue.at false k = s.gk.calDue.at false k ∧ t.gk.calDone.at false k = s.gk.calDone.at false k
              ∧ t.gk.calMiss.at 0 k = s.gk.calMiss.at 0 k ∧ t.gk.calTemp.at 0 k = s.gk.calTemp.at 0 k)
          ∧ Counted s t [key 0x28F0 5]
          ∧ t = { s with gk := { s.gk with calRun := t.gk.calRun, calDue := t.gk.calDue, calDone := t.gk.calDone, calMiss := t.gk.calMiss, calTemp := t.gk.calTemp }, rep := t.rep }))
      ∧ ((s.computeRuns = false ∨ s.gk.calRun.at false n = false) → Completes (.phyCalibrationComplete n) s (fun t => t = s))
      ∧ (s.computeRuns = true → s.calibrates n = true → (s.gk.calDone.at false n = true ∨ s.gk.calDue.at false n = false) → Completes (.calibrationPeriodEnd n) s (fun t =>
          t.gk.calDue.at false n = true ∧ t.gk.calDone.at false n = false
          ∧ (∀ k, k ≠ n.val → t.gk.calDue.at false k = s.gk.calDue.at false k ∧ t.gk.calDone.at false k = s.gk.calDone.at false k)
          ∧ t = { s with gk := { s.gk with calDue := t.gk.calDue, calDone := t.gk.calDone } }))
      ∧ (s.computeRuns = true → s.calibrates n = true → s.gk.calDone.at false n = false → s.gk.calDue.at false n = true → Completes (.calibrationPeriodEnd n) s (fun t =>
          t.gk.calMiss.at 0 n = s.gk.calMiss.at 0 n + 1 ∧ (∀ k, k ≠ n.val → t.gk.calMiss.at 0 k = s.gk.calMiss.at 0 k) ∧ Counted s t [key 0x28F0 6]
          ∧ (s.settled → s.roomy → if s.gk.calMiss.at 0 n = 9 then ∃ e ∈ t.rep.log, e.code = 0x1F03 ∧ e.unit = n ∧ e.seq = s.rep.seq + 1 else t.rep.log = s.rep.log)
          ∧ t = { s with gk := { s.gk with calMiss := t.gk.calMiss }, rep := t.rep }))
      ∧ ((s.computeRuns = false ∨ s.calibrates n = false) → Completes (.calibrationPeriodEnd n) s (fun t => t = s)))
  ∧ ((s.computeRuns = false ∨ s.boot.bootOk = false ∨ s.boot.slot = 2 ∨ s.boot.flashBusy = true ∨ s.od.longop ≠ none) → Completes .eraseAhead s (fun t => t = s))
  ∧ (s.computeRuns = true → s.boot.bootOk = true → s.boot.slot ≠ 2 → s.boot.flashBusy = false → s.od.longop = none →
      let free (x : Nat) : Prop := s.erased (areaBase s.boot.slot + 4096 * x) 4096 = false ∧ x ∉ s.keptSectors s.boot.slot
      ((∀ x ∈ s.aheadSectors s.boot.slot, ¬ free x) → Completes .eraseAhead s (fun t => t = s))
      ∧ (∀ xs x ys, s.aheadSectors s.boot.slot = xs ++ x :: ys → (∀ y ∈ xs, ¬ free y) → free x → Completes .eraseAhead s (fun t =>
          (∀ b, t.byte b = if areaBase s.boot.slot + 4096 * x ≤ b ∧ b < areaBase s.boot.slot + 4096 * x + 4096 then 0xFF else s.byte b)
          ∧ Counted s t [key 0x28E0 7, key 0x28F0 8]
          ∧ t = { s with mem := { s.mem with bytes := t.mem.bytes }, rep := t.rep })))
  ∧ (∀ t0 t1 t2 t3 vn vs vf, s.computeRuns = false → Completes (.telemetryRead t0 t1 t2 t3 vn vs vf) s (fun t => t = s))
  ∧ (∀ (t0 t1 t2 t3 vn vs vf : BitVec 16), s.computeRuns = true →
      let hot := max (max t0.toInt t1.toInt) (max t2.toInt t3.toInt)
      Completes (.telemetryRead t0 t1 t2 t3 vn vs vf) s (fun t =>
        t.gk.temp = hot ∧ t.gk.vddN = vn.toNat ∧ t.gk.vddS = vs.toNat ∧ t.gk.vfield = vf.toNat
        ∧ (1050 < hot → t.gk.overTemp = true) ∧ (hot < 1000 → t.gk.overTemp = false) ∧ (1000 ≤ hot → hot ≤ 1050 → t.gk.overTemp = s.gk.overTemp)
        ∧ Counted s t (if 1050 < hot ∧ s.gk.overTemp = false then [key 0x28F0 9] else [])
        ∧ (∀ n x, (n, x) ∈ s.gk.calTemp → 100 ≤ (hot - x).natAbs → t.gk.calDue.at false n = true)
        ∧ (∀ n, (∀ x, (n, x) ∈ s.gk.calTemp → (hot - x).natAbs < 100) → t.gk.calDue.at false n = s.gk.calDue.at false n)
        ∧ t = { s with gk := { s.gk with temp := t.gk.temp, vddN := t.gk.vddN, vddS := t.gk.vddS, vfield := t.gk.vfield, overTemp := t.gk.overTemp, calDue := t.gk.calDue }, rep := t.rep }))

end
end

