-- ==== Sys2Proof/Laws/State.lean ====
section
/-!
SUPPORT. What the shared updates of the state leave alone, one lemma per field per update, and what each writes.
-/
namespace Sys2Proof
namespace Machine

/-! ### `State.report` -/

@[simp] theorem State.report_clk (s : State) (f : Reporting → Reporting) : (s.report f).clk = s.clk := rfl
@[simp] theorem State.report_fd (s : State) (f : Reporting → Reporting) : (s.report f).fd = s.fd := rfl
@[simp] theorem State.report_wc (s : State) (f : Reporting → Reporting) : (s.report f).wc = s.wc := rfl
@[simp] theorem State.report_cue (s : State) (f : Reporting → Reporting) : (s.report f).cue = s.cue := rfl
@[simp] theorem State.report_link (s : State) (f : Reporting → Reporting) : (s.report f).link = s.link := rfl
@[simp] theorem State.report_can (s : State) (f : Reporting → Reporting) : (s.report f).can = s.can := rfl
@[simp] theorem State.report_pwr (s : State) (f : Reporting → Reporting) : (s.report f).pwr = s.pwr := rfl
@[simp] theorem State.report_ic (s : State) (f : Reporting → Reporting) : (s.report f).ic = s.ic := rfl
@[simp] theorem State.report_isp (s : State) (f : Reporting → Reporting) : (s.report f).isp = s.isp := rfl
@[simp] theorem State.report_host (s : State) (f : Reporting → Reporting) : (s.report f).host = s.host := rfl
@[simp] theorem State.report_boot (s : State) (f : Reporting → Reporting) : (s.report f).boot = s.boot := rfl
@[simp] theorem State.report_gk (s : State) (f : Reporting → Reporting) : (s.report f).gk = s.gk := rfl
@[simp] theorem State.report_od (s : State) (f : Reporting → Reporting) : (s.report f).od = s.od := rfl
@[simp] theorem State.report_mem (s : State) (f : Reporting → Reporting) : (s.report f).mem = s.mem := rfl
@[simp] theorem State.report_rg (s : State) (f : Reporting → Reporting) : (s.report f).rg = s.rg := rfl
@[simp] theorem State.report_qn (s : State) (f : Reporting → Reporting) : (s.report f).qn = s.qn := rfl
@[simp] theorem State.report_nc (s : State) (f : Reporting → Reporting) : (s.report f).nc = s.nc := rfl
@[simp] theorem State.report_rs (s : State) (f : Reporting → Reporting) : (s.report f).rs = s.rs := rfl
@[simp] theorem State.report_ref (s : State) (f : Reporting → Reporting) : (s.report f).ref = s.ref := rfl
@[simp] theorem State.report_pkg (s : State) (f : Reporting → Reporting) : (s.report f).pkg = s.pkg := rfl
@[simp] theorem State.report_st (s : State) (f : Reporting → Reporting) : (s.report f).st = s.st := rfl
@[simp] theorem State.report_out (s : State) (f : Reporting → Reporting) : (s.report f).out = s.out := rfl
@[simp] theorem State.report_free (s : State) (f : Reporting → Reporting) : (s.report f).free = s.free := rfl
@[simp] theorem State.report_pending (s : State) (f : Reporting → Reporting) : (s.report f).pending = s.pending := rfl

/-! ### `State.count` -/

@[simp] theorem State.count_clk (s : State) (idx sub : Nat) : (s.count idx sub).clk = s.clk := rfl
@[simp] theorem State.count_fd (s : State) (idx sub : Nat) : (s.count idx sub).fd = s.fd := rfl
@[simp] theorem State.count_wc (s : State) (idx sub : Nat) : (s.count idx sub).wc = s.wc := rfl
@[simp] theorem State.count_cue (s : State) (idx sub : Nat) : (s.count idx sub).cue = s.cue := rfl
@[simp] theorem State.count_link (s : State) (idx sub : Nat) : (s.count idx sub).link = s.link := rfl
@[simp] theorem State.count_can (s : State) (idx sub : Nat) : (s.count idx sub).can = s.can := rfl
@[simp] theorem State.count_pwr (s : State) (idx sub : Nat) : (s.count idx sub).pwr = s.pwr := rfl
@[simp] theorem State.count_ic (s : State) (idx sub : Nat) : (s.count idx sub).ic = s.ic := rfl
@[simp] theorem State.count_isp (s : State) (idx sub : Nat) : (s.count idx sub).isp = s.isp := rfl
@[simp] theorem State.count_host (s : State) (idx sub : Nat) : (s.count idx sub).host = s.host := rfl
@[simp] theorem State.count_boot (s : State) (idx sub : Nat) : (s.count idx sub).boot = s.boot := rfl
@[simp] theorem State.count_gk (s : State) (idx sub : Nat) : (s.count idx sub).gk = s.gk := rfl
@[simp] theorem State.count_od (s : State) (idx sub : Nat) : (s.count idx sub).od = s.od := rfl
@[simp] theorem State.count_mem (s : State) (idx sub : Nat) : (s.count idx sub).mem = s.mem := rfl
@[simp] theorem State.count_rg (s : State) (idx sub : Nat) : (s.count idx sub).rg = s.rg := rfl
@[simp] theorem State.count_qn (s : State) (idx sub : Nat) : (s.count idx sub).qn = s.qn := rfl
@[simp] theorem State.count_nc (s : State) (idx sub : Nat) : (s.count idx sub).nc = s.nc := rfl
@[simp] theorem State.count_rs (s : State) (idx sub : Nat) : (s.count idx sub).rs = s.rs := rfl
@[simp] theorem State.count_ref (s : State) (idx sub : Nat) : (s.count idx sub).ref = s.ref := rfl
@[simp] theorem State.count_pkg (s : State) (idx sub : Nat) : (s.count idx sub).pkg = s.pkg := rfl
@[simp] theorem State.count_st (s : State) (idx sub : Nat) : (s.count idx sub).st = s.st := rfl
@[simp] theorem State.count_out (s : State) (idx sub : Nat) : (s.count idx sub).out = s.out := rfl
@[simp] theorem State.count_free (s : State) (idx sub : Nat) : (s.count idx sub).free = s.free := rfl
@[simp] theorem State.count_pending (s : State) (idx sub : Nat) : (s.count idx sub).pending = s.pending := rfl

/-! ### `State.countN` -/

@[simp] theorem State.countN_clk (s : State) (idx sub n : Nat) : (s.countN idx sub n).clk = s.clk := rfl
@[simp] theorem State.countN_fd (s : State) (idx sub n : Nat) : (s.countN idx sub n).fd = s.fd := rfl
@[simp] theorem State.countN_wc (s : State) (idx sub n : Nat) : (s.countN idx sub n).wc = s.wc := rfl
@[simp] theorem State.countN_cue (s : State) (idx sub n : Nat) : (s.countN idx sub n).cue = s.cue := rfl
@[simp] theorem State.countN_link (s : State) (idx sub n : Nat) : (s.countN idx sub n).link = s.link := rfl
@[simp] theorem State.countN_can (s : State) (idx sub n : Nat) : (s.countN idx sub n).can = s.can := rfl
@[simp] theorem State.countN_pwr (s : State) (idx sub n : Nat) : (s.countN idx sub n).pwr = s.pwr := rfl
@[simp] theorem State.countN_ic (s : State) (idx sub n : Nat) : (s.countN idx sub n).ic = s.ic := rfl
@[simp] theorem State.countN_isp (s : State) (idx sub n : Nat) : (s.countN idx sub n).isp = s.isp := rfl
@[simp] theorem State.countN_host (s : State) (idx sub n : Nat) : (s.countN idx sub n).host = s.host := rfl
@[simp] theorem State.countN_boot (s : State) (idx sub n : Nat) : (s.countN idx sub n).boot = s.boot := rfl
@[simp] theorem State.countN_gk (s : State) (idx sub n : Nat) : (s.countN idx sub n).gk = s.gk := rfl
@[simp] theorem State.countN_od (s : State) (idx sub n : Nat) : (s.countN idx sub n).od = s.od := rfl
@[simp] theorem State.countN_mem (s : State) (idx sub n : Nat) : (s.countN idx sub n).mem = s.mem := rfl
@[simp] theorem State.countN_rg (s : State) (idx sub n : Nat) : (s.countN idx sub n).rg = s.rg := rfl
@[simp] theorem State.countN_qn (s : State) (idx sub n : Nat) : (s.countN idx sub n).qn = s.qn := rfl
@[simp] theorem State.countN_nc (s : State) (idx sub n : Nat) : (s.countN idx sub n).nc = s.nc := rfl
@[simp] theorem State.countN_rs (s : State) (idx sub n : Nat) : (s.countN idx sub n).rs = s.rs := rfl
@[simp] theorem State.countN_ref (s : State) (idx sub n : Nat) : (s.countN idx sub n).ref = s.ref := rfl
@[simp] theorem State.countN_pkg (s : State) (idx sub n : Nat) : (s.countN idx sub n).pkg = s.pkg := rfl
@[simp] theorem State.countN_st (s : State) (idx sub n : Nat) : (s.countN idx sub n).st = s.st := rfl
@[simp] theorem State.countN_out (s : State) (idx sub n : Nat) : (s.countN idx sub n).out = s.out := rfl
@[simp] theorem State.countN_free (s : State) (idx sub n : Nat) : (s.countN idx sub n).free = s.free := rfl
@[simp] theorem State.countN_pending (s : State) (idx sub n : Nat) : (s.countN idx sub n).pending = s.pending := rfl

/-! ### `State.raise` -/

@[simp] theorem State.raise_clk (s : State) (e : Ev) : (s.raise e).clk = s.clk := rfl
@[simp] theorem State.raise_fd (s : State) (e : Ev) : (s.raise e).fd = s.fd := rfl
@[simp] theorem State.raise_wc (s : State) (e : Ev) : (s.raise e).wc = s.wc := rfl
@[simp] theorem State.raise_cue (s : State) (e : Ev) : (s.raise e).cue = s.cue := rfl
@[simp] theorem State.raise_link (s : State) (e : Ev) : (s.raise e).link = s.link := rfl
@[simp] theorem State.raise_can (s : State) (e : Ev) : (s.raise e).can = s.can := rfl
@[simp] theorem State.raise_pwr (s : State) (e : Ev) : (s.raise e).pwr = s.pwr := rfl
@[simp] theorem State.raise_ic (s : State) (e : Ev) : (s.raise e).ic = s.ic := rfl
@[simp] theorem State.raise_isp (s : State) (e : Ev) : (s.raise e).isp = s.isp := rfl
@[simp] theorem State.raise_host (s : State) (e : Ev) : (s.raise e).host = s.host := rfl
@[simp] theorem State.raise_boot (s : State) (e : Ev) : (s.raise e).boot = s.boot := rfl
@[simp] theorem State.raise_gk (s : State) (e : Ev) : (s.raise e).gk = s.gk := rfl
@[simp] theorem State.raise_od (s : State) (e : Ev) : (s.raise e).od = s.od := rfl
@[simp] theorem State.raise_mem (s : State) (e : Ev) : (s.raise e).mem = s.mem := rfl
@[simp] theorem State.raise_rg (s : State) (e : Ev) : (s.raise e).rg = s.rg := rfl
@[simp] theorem State.raise_qn (s : State) (e : Ev) : (s.raise e).qn = s.qn := rfl
@[simp] theorem State.raise_nc (s : State) (e : Ev) : (s.raise e).nc = s.nc := rfl
@[simp] theorem State.raise_rs (s : State) (e : Ev) : (s.raise e).rs = s.rs := rfl
@[simp] theorem State.raise_ref (s : State) (e : Ev) : (s.raise e).ref = s.ref := rfl
@[simp] theorem State.raise_pkg (s : State) (e : Ev) : (s.raise e).pkg = s.pkg := rfl
@[simp] theorem State.raise_st (s : State) (e : Ev) : (s.raise e).st = s.st := rfl
@[simp] theorem State.raise_out (s : State) (e : Ev) : (s.raise e).out = s.out := rfl
@[simp] theorem State.raise_free (s : State) (e : Ev) : (s.raise e).free = s.free := rfl
@[simp] theorem State.raise_pending (s : State) (e : Ev) : (s.raise e).pending = s.pending := rfl

/-! ### `State.raiseSec` -/

@[simp] theorem State.raiseSec_clk (s : State) (scope : Nat) (e : Ev) : (s.raiseSec scope e).clk = s.clk := rfl
@[simp] theorem State.raiseSec_fd (s : State) (scope : Nat) (e : Ev) : (s.raiseSec scope e).fd = s.fd := rfl
@[simp] theorem State.raiseSec_wc (s : State) (scope : Nat) (e : Ev) : (s.raiseSec scope e).wc = s.wc := rfl
@[simp] theorem State.raiseSec_cue (s : State) (scope : Nat) (e : Ev) : (s.raiseSec scope e).cue = s.cue := rfl
@[simp] theorem State.raiseSec_link (s : State) (scope : Nat) (e : Ev) : (s.raiseSec scope e).link = s.link := rfl
@[simp] theorem State.raiseSec_can (s : State) (scope : Nat) (e : Ev) : (s.raiseSec scope e).can = s.can := rfl
@[simp] theorem State.raiseSec_pwr (s : State) (scope : Nat) (e : Ev) : (s.raiseSec scope e).pwr = s.pwr := rfl
@[simp] theorem State.raiseSec_ic (s : State) (scope : Nat) (e : Ev) : (s.raiseSec scope e).ic = s.ic := rfl
@[simp] theorem State.raiseSec_isp (s : State) (scope : Nat) (e : Ev) : (s.raiseSec scope e).isp = s.isp := rfl
@[simp] theorem State.raiseSec_host (s : State) (scope : Nat) (e : Ev) : (s.raiseSec scope e).host = s.host := rfl
@[simp] theorem State.raiseSec_boot (s : State) (scope : Nat) (e : Ev) : (s.raiseSec scope e).boot = s.boot := rfl
@[simp] theorem State.raiseSec_gk (s : State) (scope : Nat) (e : Ev) : (s.raiseSec scope e).gk = s.gk := rfl
@[simp] theorem State.raiseSec_od (s : State) (scope : Nat) (e : Ev) : (s.raiseSec scope e).od = s.od := rfl
@[simp] theorem State.raiseSec_mem (s : State) (scope : Nat) (e : Ev) : (s.raiseSec scope e).mem = s.mem := rfl
@[simp] theorem State.raiseSec_rg (s : State) (scope : Nat) (e : Ev) : (s.raiseSec scope e).rg = s.rg := rfl
@[simp] theorem State.raiseSec_qn (s : State) (scope : Nat) (e : Ev) : (s.raiseSec scope e).qn = s.qn := rfl
@[simp] theorem State.raiseSec_nc (s : State) (scope : Nat) (e : Ev) : (s.raiseSec scope e).nc = s.nc := rfl
@[simp] theorem State.raiseSec_rs (s : State) (scope : Nat) (e : Ev) : (s.raiseSec scope e).rs = s.rs := rfl
@[simp] theorem State.raiseSec_ref (s : State) (scope : Nat) (e : Ev) : (s.raiseSec scope e).ref = s.ref := rfl
@[simp] theorem State.raiseSec_pkg (s : State) (scope : Nat) (e : Ev) : (s.raiseSec scope e).pkg = s.pkg := rfl
@[simp] theorem State.raiseSec_st (s : State) (scope : Nat) (e : Ev) : (s.raiseSec scope e).st = s.st := rfl
@[simp] theorem State.raiseSec_out (s : State) (scope : Nat) (e : Ev) : (s.raiseSec scope e).out = s.out := rfl
@[simp] theorem State.raiseSec_free (s : State) (scope : Nat) (e : Ev) : (s.raiseSec scope e).free = s.free := rfl
@[simp] theorem State.raiseSec_pending (s : State) (scope : Nat) (e : Ev) : (s.raiseSec scope e).pending = s.pending := rfl

/-! ### `State.raiseImp` -/

@[simp] theorem State.raiseImp_clk (s : State) (scope imp : Nat) (e : Ev) : (s.raiseImp scope imp e).clk = s.clk := by unfold State.raiseImp; split <;> rfl
@[simp] theorem State.raiseImp_fd (s : State) (scope imp : Nat) (e : Ev) : (s.raiseImp scope imp e).fd = s.fd := by unfold State.raiseImp; split <;> rfl
@[simp] theorem State.raiseImp_wc (s : State) (scope imp : Nat) (e : Ev) : (s.raiseImp scope imp e).wc = s.wc := by unfold State.raiseImp; split <;> rfl
@[simp] theorem State.raiseImp_cue (s : State) (scope imp : Nat) (e : Ev) : (s.raiseImp scope imp e).cue = s.cue := by unfold State.raiseImp; split <;> rfl
@[simp] theorem State.raiseImp_link (s : State) (scope imp : Nat) (e : Ev) : (s.raiseImp scope imp e).link = s.link := by unfold State.raiseImp; split <;> rfl
@[simp] theorem State.raiseImp_can (s : State) (scope imp : Nat) (e : Ev) : (s.raiseImp scope imp e).can = s.can := by unfold State.raiseImp; split <;> rfl
@[simp] theorem State.raiseImp_pwr (s : State) (scope imp : Nat) (e : Ev) : (s.raiseImp scope imp e).pwr = s.pwr := by unfold State.raiseImp; split <;> rfl
@[simp] theorem State.raiseImp_ic (s : State) (scope imp : Nat) (e : Ev) : (s.raiseImp scope imp e).ic = s.ic := by unfold State.raiseImp; split <;> rfl
@[simp] theorem State.raiseImp_isp (s : State) (scope imp : Nat) (e : Ev) : (s.raiseImp scope imp e).isp = s.isp := by unfold State.raiseImp; split <;> rfl
@[simp] theorem State.raiseImp_host (s : State) (scope imp : Nat) (e : Ev) : (s.raiseImp scope imp e).host = s.host := by unfold State.raiseImp; split <;> rfl
@[simp] theorem State.raiseImp_boot (s : State) (scope imp : Nat) (e : Ev) : (s.raiseImp scope imp e).boot = s.boot := by unfold State.raiseImp; split <;> rfl
@[simp] theorem State.raiseImp_gk (s : State) (scope imp : Nat) (e : Ev) : (s.raiseImp scope imp e).gk = s.gk := by unfold State.raiseImp; split <;> rfl
@[simp] theorem State.raiseImp_od (s : State) (scope imp : Nat) (e : Ev) : (s.raiseImp scope imp e).od = s.od := by unfold State.raiseImp; split <;> rfl
@[simp] theorem State.raiseImp_mem (s : State) (scope imp : Nat) (e : Ev) : (s.raiseImp scope imp e).mem = s.mem := by unfold State.raiseImp; split <;> rfl
@[simp] theorem State.raiseImp_rg (s : State) (scope imp : Nat) (e : Ev) : (s.raiseImp scope imp e).rg = s.rg := by unfold State.raiseImp; split <;> rfl
@[simp] theorem State.raiseImp_qn (s : State) (scope imp : Nat) (e : Ev) : (s.raiseImp scope imp e).qn = s.qn := by unfold State.raiseImp; split <;> rfl
@[simp] theorem State.raiseImp_nc (s : State) (scope imp : Nat) (e : Ev) : (s.raiseImp scope imp e).nc = s.nc := by unfold State.raiseImp; split <;> rfl
@[simp] theorem State.raiseImp_rs (s : State) (scope imp : Nat) (e : Ev) : (s.raiseImp scope imp e).rs = s.rs := by unfold State.raiseImp; split <;> rfl
@[simp] theorem State.raiseImp_ref (s : State) (scope imp : Nat) (e : Ev) : (s.raiseImp scope imp e).ref = s.ref := by unfold State.raiseImp; split <;> rfl
@[simp] theorem State.raiseImp_pkg (s : State) (scope imp : Nat) (e : Ev) : (s.raiseImp scope imp e).pkg = s.pkg := by unfold State.raiseImp; split <;> rfl
@[simp] theorem State.raiseImp_st (s : State) (scope imp : Nat) (e : Ev) : (s.raiseImp scope imp e).st = s.st := by unfold State.raiseImp; split <;> rfl
@[simp] theorem State.raiseImp_out (s : State) (scope imp : Nat) (e : Ev) : (s.raiseImp scope imp e).out = s.out := by unfold State.raiseImp; split <;> rfl
@[simp] theorem State.raiseImp_free (s : State) (scope imp : Nat) (e : Ev) : (s.raiseImp scope imp e).free = s.free := by unfold State.raiseImp; split <;> rfl
@[simp] theorem State.raiseImp_pending (s : State) (scope imp : Nat) (e : Ev) : (s.raiseImp scope imp e).pending = s.pending := by unfold State.raiseImp; split <;> rfl

/-! ### `State.occur` -/

@[simp] theorem State.occur_clk (s : State) (id : Nat) : (s.occur id).clk = s.clk := rfl
@[simp] theorem State.occur_fd (s : State) (id : Nat) : (s.occur id).fd = s.fd := rfl
@[simp] theorem State.occur_wc (s : State) (id : Nat) : (s.occur id).wc = s.wc := rfl
@[simp] theorem State.occur_cue (s : State) (id : Nat) : (s.occur id).cue = s.cue := rfl
@[simp] theorem State.occur_link (s : State) (id : Nat) : (s.occur id).link = s.link := rfl
@[simp] theorem State.occur_can (s : State) (id : Nat) : (s.occur id).can = s.can := rfl
@[simp] theorem State.occur_pwr (s : State) (id : Nat) : (s.occur id).pwr = s.pwr := rfl
@[simp] theorem State.occur_ic (s : State) (id : Nat) : (s.occur id).ic = s.ic := rfl
@[simp] theorem State.occur_isp (s : State) (id : Nat) : (s.occur id).isp = s.isp := rfl
@[simp] theorem State.occur_host (s : State) (id : Nat) : (s.occur id).host = s.host := rfl
@[simp] theorem State.occur_boot (s : State) (id : Nat) : (s.occur id).boot = s.boot := rfl
@[simp] theorem State.occur_gk (s : State) (id : Nat) : (s.occur id).gk = s.gk := rfl
@[simp] theorem State.occur_od (s : State) (id : Nat) : (s.occur id).od = s.od := rfl
@[simp] theorem State.occur_mem (s : State) (id : Nat) : (s.occur id).mem = s.mem := rfl
@[simp] theorem State.occur_rg (s : State) (id : Nat) : (s.occur id).rg = s.rg := rfl
@[simp] theorem State.occur_qn (s : State) (id : Nat) : (s.occur id).qn = s.qn := rfl
@[simp] theorem State.occur_nc (s : State) (id : Nat) : (s.occur id).nc = s.nc := rfl
@[simp] theorem State.occur_rs (s : State) (id : Nat) : (s.occur id).rs = s.rs := rfl
@[simp] theorem State.occur_ref (s : State) (id : Nat) : (s.occur id).ref = s.ref := rfl
@[simp] theorem State.occur_pkg (s : State) (id : Nat) : (s.occur id).pkg = s.pkg := rfl
@[simp] theorem State.occur_st (s : State) (id : Nat) : (s.occur id).st = s.st := rfl
@[simp] theorem State.occur_out (s : State) (id : Nat) : (s.occur id).out = s.out := rfl
@[simp] theorem State.occur_free (s : State) (id : Nat) : (s.occur id).free = s.free := rfl
@[simp] theorem State.occur_pending (s : State) (id : Nat) : (s.occur id).pending = s.pending := rfl

/-! ### `State.evaluate` -/

@[simp] theorem State.evaluate_clk (s : State) (t : Nat) : (s.evaluate t).clk = s.clk := rfl
@[simp] theorem State.evaluate_fd (s : State) (t : Nat) : (s.evaluate t).fd = s.fd := rfl
@[simp] theorem State.evaluate_wc (s : State) (t : Nat) : (s.evaluate t).wc = s.wc := rfl
@[simp] theorem State.evaluate_cue (s : State) (t : Nat) : (s.evaluate t).cue = s.cue := rfl
@[simp] theorem State.evaluate_link (s : State) (t : Nat) : (s.evaluate t).link = s.link := rfl
@[simp] theorem State.evaluate_can (s : State) (t : Nat) : (s.evaluate t).can = s.can := rfl
@[simp] theorem State.evaluate_pwr (s : State) (t : Nat) : (s.evaluate t).pwr = s.pwr := rfl
@[simp] theorem State.evaluate_ic (s : State) (t : Nat) : (s.evaluate t).ic = s.ic := rfl
@[simp] theorem State.evaluate_isp (s : State) (t : Nat) : (s.evaluate t).isp = s.isp := rfl
@[simp] theorem State.evaluate_host (s : State) (t : Nat) : (s.evaluate t).host = s.host := rfl
@[simp] theorem State.evaluate_boot (s : State) (t : Nat) : (s.evaluate t).boot = s.boot := rfl
@[simp] theorem State.evaluate_gk (s : State) (t : Nat) : (s.evaluate t).gk = s.gk := rfl
@[simp] theorem State.evaluate_od (s : State) (t : Nat) : (s.evaluate t).od = s.od := rfl
@[simp] theorem State.evaluate_mem (s : State) (t : Nat) : (s.evaluate t).mem = s.mem := rfl
@[simp] theorem State.evaluate_rg (s : State) (t : Nat) : (s.evaluate t).rg = s.rg := rfl
@[simp] theorem State.evaluate_qn (s : State) (t : Nat) : (s.evaluate t).qn = s.qn := rfl
@[simp] theorem State.evaluate_nc (s : State) (t : Nat) : (s.evaluate t).nc = s.nc := rfl
@[simp] theorem State.evaluate_rs (s : State) (t : Nat) : (s.evaluate t).rs = s.rs := rfl
@[simp] theorem State.evaluate_ref (s : State) (t : Nat) : (s.evaluate t).ref = s.ref := rfl
@[simp] theorem State.evaluate_pkg (s : State) (t : Nat) : (s.evaluate t).pkg = s.pkg := rfl
@[simp] theorem State.evaluate_st (s : State) (t : Nat) : (s.evaluate t).st = s.st := rfl
@[simp] theorem State.evaluate_out (s : State) (t : Nat) : (s.evaluate t).out = s.out := rfl
@[simp] theorem State.evaluate_free (s : State) (t : Nat) : (s.evaluate t).free = s.free := rfl
@[simp] theorem State.evaluate_pending (s : State) (t : Nat) : (s.evaluate t).pending = s.pending := rfl

/-! ### `State.fdCount` -/

@[simp] theorem State.fdCount_clk (s : State) (idx sub : Nat) : (s.fdCount idx sub).clk = s.clk := by unfold State.fdCount; split <;> rfl
@[simp] theorem State.fdCount_wc (s : State) (idx sub : Nat) : (s.fdCount idx sub).wc = s.wc := by unfold State.fdCount; split <;> rfl
@[simp] theorem State.fdCount_cue (s : State) (idx sub : Nat) : (s.fdCount idx sub).cue = s.cue := by unfold State.fdCount; split <;> rfl
@[simp] theorem State.fdCount_link (s : State) (idx sub : Nat) : (s.fdCount idx sub).link = s.link := by unfold State.fdCount; split <;> rfl
@[simp] theorem State.fdCount_can (s : State) (idx sub : Nat) : (s.fdCount idx sub).can = s.can := by unfold State.fdCount; split <;> rfl
@[simp] theorem State.fdCount_pwr (s : State) (idx sub : Nat) : (s.fdCount idx sub).pwr = s.pwr := by unfold State.fdCount; split <;> rfl
@[simp] theorem State.fdCount_ic (s : State) (idx sub : Nat) : (s.fdCount idx sub).ic = s.ic := by unfold State.fdCount; split <;> rfl
@[simp] theorem State.fdCount_isp (s : State) (idx sub : Nat) : (s.fdCount idx sub).isp = s.isp := by unfold State.fdCount; split <;> rfl
@[simp] theorem State.fdCount_host (s : State) (idx sub : Nat) : (s.fdCount idx sub).host = s.host := by unfold State.fdCount; split <;> rfl
@[simp] theorem State.fdCount_boot (s : State) (idx sub : Nat) : (s.fdCount idx sub).boot = s.boot := by unfold State.fdCount; split <;> rfl
@[simp] theorem State.fdCount_gk (s : State) (idx sub : Nat) : (s.fdCount idx sub).gk = s.gk := by unfold State.fdCount; split <;> rfl
@[simp] theorem State.fdCount_od (s : State) (idx sub : Nat) : (s.fdCount idx sub).od = s.od := by unfold State.fdCount; split <;> rfl
@[simp] theorem State.fdCount_mem (s : State) (idx sub : Nat) : (s.fdCount idx sub).mem = s.mem := by unfold State.fdCount; split <;> rfl
@[simp] theorem State.fdCount_rg (s : State) (idx sub : Nat) : (s.fdCount idx sub).rg = s.rg := by unfold State.fdCount; split <;> rfl
@[simp] theorem State.fdCount_qn (s : State) (idx sub : Nat) : (s.fdCount idx sub).qn = s.qn := by unfold State.fdCount; split <;> rfl
@[simp] theorem State.fdCount_nc (s : State) (idx sub : Nat) : (s.fdCount idx sub).nc = s.nc := by unfold State.fdCount; split <;> rfl
@[simp] theorem State.fdCount_rs (s : State) (idx sub : Nat) : (s.fdCount idx sub).rs = s.rs := by unfold State.fdCount; split <;> rfl
@[simp] theorem State.fdCount_ref (s : State) (idx sub : Nat) : (s.fdCount idx sub).ref = s.ref := by unfold State.fdCount; split <;> rfl
@[simp] theorem State.fdCount_pkg (s : State) (idx sub : Nat) : (s.fdCount idx sub).pkg = s.pkg := by unfold State.fdCount; split <;> rfl
@[simp] theorem State.fdCount_st (s : State) (idx sub : Nat) : (s.fdCount idx sub).st = s.st := by unfold State.fdCount; split <;> rfl
@[simp] theorem State.fdCount_out (s : State) (idx sub : Nat) : (s.fdCount idx sub).out = s.out := by unfold State.fdCount; split <;> rfl
@[simp] theorem State.fdCount_free (s : State) (idx sub : Nat) : (s.fdCount idx sub).free = s.free := by unfold State.fdCount; split <;> rfl
@[simp] theorem State.fdCount_pending (s : State) (idx sub : Nat) : (s.fdCount idx sub).pending = s.pending := by unfold State.fdCount; split <;> rfl

/-! ### `State.fdRaise` -/

@[simp] theorem State.fdRaise_clk (s : State) (e : Ev) : (s.fdRaise e).clk = s.clk := by unfold State.fdRaise; split <;> rfl
@[simp] theorem State.fdRaise_wc (s : State) (e : Ev) : (s.fdRaise e).wc = s.wc := by unfold State.fdRaise; split <;> rfl
@[simp] theorem State.fdRaise_cue (s : State) (e : Ev) : (s.fdRaise e).cue = s.cue := by unfold State.fdRaise; split <;> rfl
@[simp] theorem State.fdRaise_link (s : State) (e : Ev) : (s.fdRaise e).link = s.link := by unfold State.fdRaise; split <;> rfl
@[simp] theorem State.fdRaise_can (s : State) (e : Ev) : (s.fdRaise e).can = s.can := by unfold State.fdRaise; split <;> rfl
@[simp] theorem State.fdRaise_pwr (s : State) (e : Ev) : (s.fdRaise e).pwr = s.pwr := by unfold State.fdRaise; split <;> rfl
@[simp] theorem State.fdRaise_ic (s : State) (e : Ev) : (s.fdRaise e).ic = s.ic := by unfold State.fdRaise; split <;> rfl
@[simp] theorem State.fdRaise_isp (s : State) (e : Ev) : (s.fdRaise e).isp = s.isp := by unfold State.fdRaise; split <;> rfl
@[simp] theorem State.fdRaise_host (s : State) (e : Ev) : (s.fdRaise e).host = s.host := by unfold State.fdRaise; split <;> rfl
@[simp] theorem State.fdRaise_boot (s : State) (e : Ev) : (s.fdRaise e).boot = s.boot := by unfold State.fdRaise; split <;> rfl
@[simp] theorem State.fdRaise_gk (s : State) (e : Ev) : (s.fdRaise e).gk = s.gk := by unfold State.fdRaise; split <;> rfl
@[simp] theorem State.fdRaise_od (s : State) (e : Ev) : (s.fdRaise e).od = s.od := by unfold State.fdRaise; split <;> rfl
@[simp] theorem State.fdRaise_mem (s : State) (e : Ev) : (s.fdRaise e).mem = s.mem := by unfold State.fdRaise; split <;> rfl
@[simp] theorem State.fdRaise_rg (s : State) (e : Ev) : (s.fdRaise e).rg = s.rg := by unfold State.fdRaise; split <;> rfl
@[simp] theorem State.fdRaise_qn (s : State) (e : Ev) : (s.fdRaise e).qn = s.qn := by unfold State.fdRaise; split <;> rfl
@[simp] theorem State.fdRaise_nc (s : State) (e : Ev) : (s.fdRaise e).nc = s.nc := by unfold State.fdRaise; split <;> rfl
@[simp] theorem State.fdRaise_rs (s : State) (e : Ev) : (s.fdRaise e).rs = s.rs := by unfold State.fdRaise; split <;> rfl
@[simp] theorem State.fdRaise_ref (s : State) (e : Ev) : (s.fdRaise e).ref = s.ref := by unfold State.fdRaise; split <;> rfl
@[simp] theorem State.fdRaise_pkg (s : State) (e : Ev) : (s.fdRaise e).pkg = s.pkg := by unfold State.fdRaise; split <;> rfl
@[simp] theorem State.fdRaise_st (s : State) (e : Ev) : (s.fdRaise e).st = s.st := by unfold State.fdRaise; split <;> rfl
@[simp] theorem State.fdRaise_out (s : State) (e : Ev) : (s.fdRaise e).out = s.out := by unfold State.fdRaise; split <;> rfl
@[simp] theorem State.fdRaise_free (s : State) (e : Ev) : (s.fdRaise e).free = s.free := by unfold State.fdRaise; split <;> rfl
@[simp] theorem State.fdRaise_pending (s : State) (e : Ev) : (s.fdRaise e).pending = s.pending := by unfold State.fdRaise; split <;> rfl

/-! ### `State.fdOccur` -/

@[simp] theorem State.fdOccur_clk (s : State) (id : Nat) : (s.fdOccur id).clk = s.clk := by unfold State.fdOccur; split <;> rfl
@[simp] theorem State.fdOccur_fd (s : State) (id : Nat) : (s.fdOccur id).fd = s.fd := by unfold State.fdOccur; split <;> rfl
@[simp] theorem State.fdOccur_wc (s : State) (id : Nat) : (s.fdOccur id).wc = s.wc := by unfold State.fdOccur; split <;> rfl
@[simp] theorem State.fdOccur_cue (s : State) (id : Nat) : (s.fdOccur id).cue = s.cue := by unfold State.fdOccur; split <;> rfl
@[simp] theorem State.fdOccur_link (s : State) (id : Nat) : (s.fdOccur id).link = s.link := by unfold State.fdOccur; split <;> rfl
@[simp] theorem State.fdOccur_can (s : State) (id : Nat) : (s.fdOccur id).can = s.can := by unfold State.fdOccur; split <;> rfl
@[simp] theorem State.fdOccur_pwr (s : State) (id : Nat) : (s.fdOccur id).pwr = s.pwr := by unfold State.fdOccur; split <;> rfl
@[simp] theorem State.fdOccur_ic (s : State) (id : Nat) : (s.fdOccur id).ic = s.ic := by unfold State.fdOccur; split <;> rfl
@[simp] theorem State.fdOccur_isp (s : State) (id : Nat) : (s.fdOccur id).isp = s.isp := by unfold State.fdOccur; split <;> rfl
@[simp] theorem State.fdOccur_host (s : State) (id : Nat) : (s.fdOccur id).host = s.host := by unfold State.fdOccur; split <;> rfl
@[simp] theorem State.fdOccur_boot (s : State) (id : Nat) : (s.fdOccur id).boot = s.boot := by unfold State.fdOccur; split <;> rfl
@[simp] theorem State.fdOccur_gk (s : State) (id : Nat) : (s.fdOccur id).gk = s.gk := by unfold State.fdOccur; split <;> rfl
@[simp] theorem State.fdOccur_od (s : State) (id : Nat) : (s.fdOccur id).od = s.od := by unfold State.fdOccur; split <;> rfl
@[simp] theorem State.fdOccur_mem (s : State) (id : Nat) : (s.fdOccur id).mem = s.mem := by unfold State.fdOccur; split <;> rfl
@[simp] theorem State.fdOccur_rg (s : State) (id : Nat) : (s.fdOccur id).rg = s.rg := by unfold State.fdOccur; split <;> rfl
@[simp] theorem State.fdOccur_qn (s : State) (id : Nat) : (s.fdOccur id).qn = s.qn := by unfold State.fdOccur; split <;> rfl
@[simp] theorem State.fdOccur_nc (s : State) (id : Nat) : (s.fdOccur id).nc = s.nc := by unfold State.fdOccur; split <;> rfl
@[simp] theorem State.fdOccur_rs (s : State) (id : Nat) : (s.fdOccur id).rs = s.rs := by unfold State.fdOccur; split <;> rfl
@[simp] theorem State.fdOccur_ref (s : State) (id : Nat) : (s.fdOccur id).ref = s.ref := by unfold State.fdOccur; split <;> rfl
@[simp] theorem State.fdOccur_pkg (s : State) (id : Nat) : (s.fdOccur id).pkg = s.pkg := by unfold State.fdOccur; split <;> rfl
@[simp] theorem State.fdOccur_st (s : State) (id : Nat) : (s.fdOccur id).st = s.st := by unfold State.fdOccur; split <;> rfl
@[simp] theorem State.fdOccur_out (s : State) (id : Nat) : (s.fdOccur id).out = s.out := by unfold State.fdOccur; split <;> rfl
@[simp] theorem State.fdOccur_free (s : State) (id : Nat) : (s.fdOccur id).free = s.free := by unfold State.fdOccur; split <;> rfl
@[simp] theorem State.fdOccur_pending (s : State) (id : Nat) : (s.fdOccur id).pending = s.pending := by unfold State.fdOccur; split <;> rfl

/-! ### `State.updPort` -/

@[simp] theorem State.updPort_clk (s : State) (p : Nat) (f : CanPort → CanPort) : (s.updPort p f).clk = s.clk := rfl
@[simp] theorem State.updPort_fd (s : State) (p : Nat) (f : CanPort → CanPort) : (s.updPort p f).fd = s.fd := rfl
@[simp] theorem State.updPort_wc (s : State) (p : Nat) (f : CanPort → CanPort) : (s.updPort p f).wc = s.wc := rfl
@[simp] theorem State.updPort_cue (s : State) (p : Nat) (f : CanPort → CanPort) : (s.updPort p f).cue = s.cue := rfl
@[simp] theorem State.updPort_link (s : State) (p : Nat) (f : CanPort → CanPort) : (s.updPort p f).link = s.link := rfl
@[simp] theorem State.updPort_rep (s : State) (p : Nat) (f : CanPort → CanPort) : (s.updPort p f).rep = s.rep := rfl
@[simp] theorem State.updPort_pwr (s : State) (p : Nat) (f : CanPort → CanPort) : (s.updPort p f).pwr = s.pwr := rfl
@[simp] theorem State.updPort_ic (s : State) (p : Nat) (f : CanPort → CanPort) : (s.updPort p f).ic = s.ic := rfl
@[simp] theorem State.updPort_isp (s : State) (p : Nat) (f : CanPort → CanPort) : (s.updPort p f).isp = s.isp := rfl
@[simp] theorem State.updPort_host (s : State) (p : Nat) (f : CanPort → CanPort) : (s.updPort p f).host = s.host := rfl
@[simp] theorem State.updPort_boot (s : State) (p : Nat) (f : CanPort → CanPort) : (s.updPort p f).boot = s.boot := rfl
@[simp] theorem State.updPort_gk (s : State) (p : Nat) (f : CanPort → CanPort) : (s.updPort p f).gk = s.gk := rfl
@[simp] theorem State.updPort_od (s : State) (p : Nat) (f : CanPort → CanPort) : (s.updPort p f).od = s.od := rfl
@[simp] theorem State.updPort_mem (s : State) (p : Nat) (f : CanPort → CanPort) : (s.updPort p f).mem = s.mem := rfl
@[simp] theorem State.updPort_rg (s : State) (p : Nat) (f : CanPort → CanPort) : (s.updPort p f).rg = s.rg := rfl
@[simp] theorem State.updPort_qn (s : State) (p : Nat) (f : CanPort → CanPort) : (s.updPort p f).qn = s.qn := rfl
@[simp] theorem State.updPort_nc (s : State) (p : Nat) (f : CanPort → CanPort) : (s.updPort p f).nc = s.nc := rfl
@[simp] theorem State.updPort_rs (s : State) (p : Nat) (f : CanPort → CanPort) : (s.updPort p f).rs = s.rs := rfl
@[simp] theorem State.updPort_ref (s : State) (p : Nat) (f : CanPort → CanPort) : (s.updPort p f).ref = s.ref := rfl
@[simp] theorem State.updPort_pkg (s : State) (p : Nat) (f : CanPort → CanPort) : (s.updPort p f).pkg = s.pkg := rfl
@[simp] theorem State.updPort_st (s : State) (p : Nat) (f : CanPort → CanPort) : (s.updPort p f).st = s.st := rfl
@[simp] theorem State.updPort_out (s : State) (p : Nat) (f : CanPort → CanPort) : (s.updPort p f).out = s.out := rfl
@[simp] theorem State.updPort_free (s : State) (p : Nat) (f : CanPort → CanPort) : (s.updPort p f).free = s.free := rfl
@[simp] theorem State.updPort_pending (s : State) (p : Nat) (f : CanPort → CanPort) : (s.updPort p f).pending = s.pending := rfl

/-! ### `State.sendCompute` -/

@[simp] theorem State.sendCompute_clk (s : State) (m : Msg) : (s.sendCompute m).clk = s.clk := rfl
@[simp] theorem State.sendCompute_wc (s : State) (m : Msg) : (s.sendCompute m).wc = s.wc := rfl
@[simp] theorem State.sendCompute_cue (s : State) (m : Msg) : (s.sendCompute m).cue = s.cue := rfl
@[simp] theorem State.sendCompute_link (s : State) (m : Msg) : (s.sendCompute m).link = s.link := rfl
@[simp] theorem State.sendCompute_rep (s : State) (m : Msg) : (s.sendCompute m).rep = s.rep := rfl
@[simp] theorem State.sendCompute_can (s : State) (m : Msg) : (s.sendCompute m).can = s.can := rfl
@[simp] theorem State.sendCompute_pwr (s : State) (m : Msg) : (s.sendCompute m).pwr = s.pwr := rfl
@[simp] theorem State.sendCompute_ic (s : State) (m : Msg) : (s.sendCompute m).ic = s.ic := rfl
@[simp] theorem State.sendCompute_isp (s : State) (m : Msg) : (s.sendCompute m).isp = s.isp := rfl
@[simp] theorem State.sendCompute_host (s : State) (m : Msg) : (s.sendCompute m).host = s.host := rfl
@[simp] theorem State.sendCompute_boot (s : State) (m : Msg) : (s.sendCompute m).boot = s.boot := rfl
@[simp] theorem State.sendCompute_gk (s : State) (m : Msg) : (s.sendCompute m).gk = s.gk := rfl
@[simp] theorem State.sendCompute_od (s : State) (m : Msg) : (s.sendCompute m).od = s.od := rfl
@[simp] theorem State.sendCompute_mem (s : State) (m : Msg) : (s.sendCompute m).mem = s.mem := rfl
@[simp] theorem State.sendCompute_rg (s : State) (m : Msg) : (s.sendCompute m).rg = s.rg := rfl
@[simp] theorem State.sendCompute_qn (s : State) (m : Msg) : (s.sendCompute m).qn = s.qn := rfl
@[simp] theorem State.sendCompute_nc (s : State) (m : Msg) : (s.sendCompute m).nc = s.nc := rfl
@[simp] theorem State.sendCompute_rs (s : State) (m : Msg) : (s.sendCompute m).rs = s.rs := rfl
@[simp] theorem State.sendCompute_ref (s : State) (m : Msg) : (s.sendCompute m).ref = s.ref := rfl
@[simp] theorem State.sendCompute_pkg (s : State) (m : Msg) : (s.sendCompute m).pkg = s.pkg := rfl
@[simp] theorem State.sendCompute_st (s : State) (m : Msg) : (s.sendCompute m).st = s.st := rfl
@[simp] theorem State.sendCompute_out (s : State) (m : Msg) : (s.sendCompute m).out = s.out := rfl
@[simp] theorem State.sendCompute_free (s : State) (m : Msg) : (s.sendCompute m).free = s.free := rfl
@[simp] theorem State.sendCompute_pending (s : State) (m : Msg) : (s.sendCompute m).pending = s.pending := rfl

/-! ### `State.sendField` -/

@[simp] theorem State.sendField_clk (s : State) (m : Msg) : (s.sendField m).clk = s.clk := rfl
@[simp] theorem State.sendField_fd (s : State) (m : Msg) : (s.sendField m).fd = s.fd := rfl
@[simp] theorem State.sendField_wc (s : State) (m : Msg) : (s.sendField m).wc = s.wc := rfl
@[simp] theorem State.sendField_cue (s : State) (m : Msg) : (s.sendField m).cue = s.cue := rfl
@[simp] theorem State.sendField_rep (s : State) (m : Msg) : (s.sendField m).rep = s.rep := rfl
@[simp] theorem State.sendField_can (s : State) (m : Msg) : (s.sendField m).can = s.can := rfl
@[simp] theorem State.sendField_pwr (s : State) (m : Msg) : (s.sendField m).pwr = s.pwr := rfl
@[simp] theorem State.sendField_ic (s : State) (m : Msg) : (s.sendField m).ic = s.ic := rfl
@[simp] theorem State.sendField_isp (s : State) (m : Msg) : (s.sendField m).isp = s.isp := rfl
@[simp] theorem State.sendField_host (s : State) (m : Msg) : (s.sendField m).host = s.host := rfl
@[simp] theorem State.sendField_boot (s : State) (m : Msg) : (s.sendField m).boot = s.boot := rfl
@[simp] theorem State.sendField_gk (s : State) (m : Msg) : (s.sendField m).gk = s.gk := rfl
@[simp] theorem State.sendField_od (s : State) (m : Msg) : (s.sendField m).od = s.od := rfl
@[simp] theorem State.sendField_mem (s : State) (m : Msg) : (s.sendField m).mem = s.mem := rfl
@[simp] theorem State.sendField_rg (s : State) (m : Msg) : (s.sendField m).rg = s.rg := rfl
@[simp] theorem State.sendField_qn (s : State) (m : Msg) : (s.sendField m).qn = s.qn := rfl
@[simp] theorem State.sendField_nc (s : State) (m : Msg) : (s.sendField m).nc = s.nc := rfl
@[simp] theorem State.sendField_rs (s : State) (m : Msg) : (s.sendField m).rs = s.rs := rfl
@[simp] theorem State.sendField_ref (s : State) (m : Msg) : (s.sendField m).ref = s.ref := rfl
@[simp] theorem State.sendField_pkg (s : State) (m : Msg) : (s.sendField m).pkg = s.pkg := rfl
@[simp] theorem State.sendField_st (s : State) (m : Msg) : (s.sendField m).st = s.st := rfl
@[simp] theorem State.sendField_out (s : State) (m : Msg) : (s.sendField m).out = s.out := rfl
@[simp] theorem State.sendField_free (s : State) (m : Msg) : (s.sendField m).free = s.free := rfl
@[simp] theorem State.sendField_pending (s : State) (m : Msg) : (s.sendField m).pending = s.pending := rfl

/-! ### `State.updClock` -/

@[simp] theorem State.updClock_clk (s : State) (n : Nat) (f : WebClock → WebClock) : (s.updClock n f).clk = s.clk := rfl
@[simp] theorem State.updClock_fd (s : State) (n : Nat) (f : WebClock → WebClock) : (s.updClock n f).fd = s.fd := rfl
@[simp] theorem State.updClock_cue (s : State) (n : Nat) (f : WebClock → WebClock) : (s.updClock n f).cue = s.cue := rfl
@[simp] theorem State.updClock_link (s : State) (n : Nat) (f : WebClock → WebClock) : (s.updClock n f).link = s.link := rfl
@[simp] theorem State.updClock_rep (s : State) (n : Nat) (f : WebClock → WebClock) : (s.updClock n f).rep = s.rep := rfl
@[simp] theorem State.updClock_can (s : State) (n : Nat) (f : WebClock → WebClock) : (s.updClock n f).can = s.can := rfl
@[simp] theorem State.updClock_pwr (s : State) (n : Nat) (f : WebClock → WebClock) : (s.updClock n f).pwr = s.pwr := rfl
@[simp] theorem State.updClock_ic (s : State) (n : Nat) (f : WebClock → WebClock) : (s.updClock n f).ic = s.ic := rfl
@[simp] theorem State.updClock_isp (s : State) (n : Nat) (f : WebClock → WebClock) : (s.updClock n f).isp = s.isp := rfl
@[simp] theorem State.updClock_host (s : State) (n : Nat) (f : WebClock → WebClock) : (s.updClock n f).host = s.host := rfl
@[simp] theorem State.updClock_boot (s : State) (n : Nat) (f : WebClock → WebClock) : (s.updClock n f).boot = s.boot := rfl
@[simp] theorem State.updClock_gk (s : State) (n : Nat) (f : WebClock → WebClock) : (s.updClock n f).gk = s.gk := rfl
@[simp] theorem State.updClock_od (s : State) (n : Nat) (f : WebClock → WebClock) : (s.updClock n f).od = s.od := rfl
@[simp] theorem State.updClock_mem (s : State) (n : Nat) (f : WebClock → WebClock) : (s.updClock n f).mem = s.mem := rfl
@[simp] theorem State.updClock_rg (s : State) (n : Nat) (f : WebClock → WebClock) : (s.updClock n f).rg = s.rg := rfl
@[simp] theorem State.updClock_qn (s : State) (n : Nat) (f : WebClock → WebClock) : (s.updClock n f).qn = s.qn := rfl
@[simp] theorem State.updClock_nc (s : State) (n : Nat) (f : WebClock → WebClock) : (s.updClock n f).nc = s.nc := rfl
@[simp] theorem State.updClock_rs (s : State) (n : Nat) (f : WebClock → WebClock) : (s.updClock n f).rs = s.rs := rfl
@[simp] theorem State.updClock_ref (s : State) (n : Nat) (f : WebClock → WebClock) : (s.updClock n f).ref = s.ref := rfl
@[simp] theorem State.updClock_pkg (s : State) (n : Nat) (f : WebClock → WebClock) : (s.updClock n f).pkg = s.pkg := rfl
@[simp] theorem State.updClock_st (s : State) (n : Nat) (f : WebClock → WebClock) : (s.updClock n f).st = s.st := rfl
@[simp] theorem State.updClock_out (s : State) (n : Nat) (f : WebClock → WebClock) : (s.updClock n f).out = s.out := rfl
@[simp] theorem State.updClock_free (s : State) (n : Nat) (f : WebClock → WebClock) : (s.updClock n f).free = s.free := rfl
@[simp] theorem State.updClock_pending (s : State) (n : Nat) (f : WebClock → WebClock) : (s.updClock n f).pending = s.pending := rfl

/-! ### `State.updEnc` -/

@[simp] theorem State.updEnc_clk (s : State) (n : Nat) (f : Encoder → Encoder) : (s.updEnc n f).clk = s.clk := rfl
@[simp] theorem State.updEnc_wc (s : State) (n : Nat) (f : Encoder → Encoder) : (s.updEnc n f).wc = s.wc := rfl
@[simp] theorem State.updEnc_cue (s : State) (n : Nat) (f : Encoder → Encoder) : (s.updEnc n f).cue = s.cue := rfl
@[simp] theorem State.updEnc_link (s : State) (n : Nat) (f : Encoder → Encoder) : (s.updEnc n f).link = s.link := rfl
@[simp] theorem State.updEnc_rep (s : State) (n : Nat) (f : Encoder → Encoder) : (s.updEnc n f).rep = s.rep := rfl
@[simp] theorem State.updEnc_can (s : State) (n : Nat) (f : Encoder → Encoder) : (s.updEnc n f).can = s.can := rfl
@[simp] theorem State.updEnc_pwr (s : State) (n : Nat) (f : Encoder → Encoder) : (s.updEnc n f).pwr = s.pwr := rfl
@[simp] theorem State.updEnc_ic (s : State) (n : Nat) (f : Encoder → Encoder) : (s.updEnc n f).ic = s.ic := rfl
@[simp] theorem State.updEnc_isp (s : State) (n : Nat) (f : Encoder → Encoder) : (s.updEnc n f).isp = s.isp := rfl
@[simp] theorem State.updEnc_host (s : State) (n : Nat) (f : Encoder → Encoder) : (s.updEnc n f).host = s.host := rfl
@[simp] theorem State.updEnc_boot (s : State) (n : Nat) (f : Encoder → Encoder) : (s.updEnc n f).boot = s.boot := rfl
@[simp] theorem State.updEnc_gk (s : State) (n : Nat) (f : Encoder → Encoder) : (s.updEnc n f).gk = s.gk := rfl
@[simp] theorem State.updEnc_od (s : State) (n : Nat) (f : Encoder → Encoder) : (s.updEnc n f).od = s.od := rfl
@[simp] theorem State.updEnc_mem (s : State) (n : Nat) (f : Encoder → Encoder) : (s.updEnc n f).mem = s.mem := rfl
@[simp] theorem State.updEnc_rg (s : State) (n : Nat) (f : Encoder → Encoder) : (s.updEnc n f).rg = s.rg := rfl
@[simp] theorem State.updEnc_qn (s : State) (n : Nat) (f : Encoder → Encoder) : (s.updEnc n f).qn = s.qn := rfl
@[simp] theorem State.updEnc_nc (s : State) (n : Nat) (f : Encoder → Encoder) : (s.updEnc n f).nc = s.nc := rfl
@[simp] theorem State.updEnc_rs (s : State) (n : Nat) (f : Encoder → Encoder) : (s.updEnc n f).rs = s.rs := rfl
@[simp] theorem State.updEnc_ref (s : State) (n : Nat) (f : Encoder → Encoder) : (s.updEnc n f).ref = s.ref := rfl
@[simp] theorem State.updEnc_pkg (s : State) (n : Nat) (f : Encoder → Encoder) : (s.updEnc n f).pkg = s.pkg := rfl
@[simp] theorem State.updEnc_st (s : State) (n : Nat) (f : Encoder → Encoder) : (s.updEnc n f).st = s.st := rfl
@[simp] theorem State.updEnc_out (s : State) (n : Nat) (f : Encoder → Encoder) : (s.updEnc n f).out = s.out := rfl
@[simp] theorem State.updEnc_free (s : State) (n : Nat) (f : Encoder → Encoder) : (s.updEnc n f).free = s.free := rfl
@[simp] theorem State.updEnc_pending (s : State) (n : Nat) (f : Encoder → Encoder) : (s.updEnc n f).pending = s.pending := rfl

/-! ### `State.answer` -/

@[simp] theorem State.answer_clk (s : State) (r : Resp) : (s.answer r).clk = s.clk := rfl
@[simp] theorem State.answer_fd (s : State) (r : Resp) : (s.answer r).fd = s.fd := rfl
@[simp] theorem State.answer_wc (s : State) (r : Resp) : (s.answer r).wc = s.wc := rfl
@[simp] theorem State.answer_cue (s : State) (r : Resp) : (s.answer r).cue = s.cue := rfl
@[simp] theorem State.answer_link (s : State) (r : Resp) : (s.answer r).link = s.link := rfl
@[simp] theorem State.answer_rep (s : State) (r : Resp) : (s.answer r).rep = s.rep := rfl
@[simp] theorem State.answer_can (s : State) (r : Resp) : (s.answer r).can = s.can := rfl
@[simp] theorem State.answer_pwr (s : State) (r : Resp) : (s.answer r).pwr = s.pwr := rfl
@[simp] theorem State.answer_ic (s : State) (r : Resp) : (s.answer r).ic = s.ic := rfl
@[simp] theorem State.answer_isp (s : State) (r : Resp) : (s.answer r).isp = s.isp := rfl
@[simp] theorem State.answer_host (s : State) (r : Resp) : (s.answer r).host = s.host := rfl
@[simp] theorem State.answer_boot (s : State) (r : Resp) : (s.answer r).boot = s.boot := rfl
@[simp] theorem State.answer_gk (s : State) (r : Resp) : (s.answer r).gk = s.gk := rfl
@[simp] theorem State.answer_od (s : State) (r : Resp) : (s.answer r).od = s.od := rfl
@[simp] theorem State.answer_mem (s : State) (r : Resp) : (s.answer r).mem = s.mem := rfl
@[simp] theorem State.answer_rg (s : State) (r : Resp) : (s.answer r).rg = s.rg := rfl
@[simp] theorem State.answer_qn (s : State) (r : Resp) : (s.answer r).qn = s.qn := rfl
@[simp] theorem State.answer_nc (s : State) (r : Resp) : (s.answer r).nc = s.nc := rfl
@[simp] theorem State.answer_rs (s : State) (r : Resp) : (s.answer r).rs = s.rs := rfl
@[simp] theorem State.answer_ref (s : State) (r : Resp) : (s.answer r).ref = s.ref := rfl
@[simp] theorem State.answer_pkg (s : State) (r : Resp) : (s.answer r).pkg = s.pkg := rfl
@[simp] theorem State.answer_st (s : State) (r : Resp) : (s.answer r).st = s.st := rfl
@[simp] theorem State.answer_free (s : State) (r : Resp) : (s.answer r).free = s.free := rfl
@[simp] theorem State.answer_pending (s : State) (r : Resp) : (s.answer r).pending = s.pending := rfl

/-! ### `State.setNum` -/

@[simp] theorem State.setNum_clk (s : State) (idx sub v : Nat) : (s.setNum idx sub v).clk = s.clk := rfl
@[simp] theorem State.setNum_fd (s : State) (idx sub v : Nat) : (s.setNum idx sub v).fd = s.fd := rfl
@[simp] theorem State.setNum_wc (s : State) (idx sub v : Nat) : (s.setNum idx sub v).wc = s.wc := rfl
@[simp] theorem State.setNum_cue (s : State) (idx sub v : Nat) : (s.setNum idx sub v).cue = s.cue := rfl
@[simp] theorem State.setNum_link (s : State) (idx sub v : Nat) : (s.setNum idx sub v).link = s.link := rfl
@[simp] theorem State.setNum_rep (s : State) (idx sub v : Nat) : (s.setNum idx sub v).rep = s.rep := rfl
@[simp] theorem State.setNum_can (s : State) (idx sub v : Nat) : (s.setNum idx sub v).can = s.can := rfl
@[simp] theorem State.setNum_pwr (s : State) (idx sub v : Nat) : (s.setNum idx sub v).pwr = s.pwr := rfl
@[simp] theorem State.setNum_ic (s : State) (idx sub v : Nat) : (s.setNum idx sub v).ic = s.ic := rfl
@[simp] theorem State.setNum_isp (s : State) (idx sub v : Nat) : (s.setNum idx sub v).isp = s.isp := rfl
@[simp] theorem State.setNum_host (s : State) (idx sub v : Nat) : (s.setNum idx sub v).host = s.host := rfl
@[simp] theorem State.setNum_boot (s : State) (idx sub v : Nat) : (s.setNum idx sub v).boot = s.boot := rfl
@[simp] theorem State.setNum_gk (s : State) (idx sub v : Nat) : (s.setNum idx sub v).gk = s.gk := rfl
@[simp] theorem State.setNum_mem (s : State) (idx sub v : Nat) : (s.setNum idx sub v).mem = s.mem := rfl
@[simp] theorem State.setNum_rg (s : State) (idx sub v : Nat) : (s.setNum idx sub v).rg = s.rg := rfl
@[simp] theorem State.setNum_qn (s : State) (idx sub v : Nat) : (s.setNum idx sub v).qn = s.qn := rfl
@[simp] theorem State.setNum_nc (s : State) (idx sub v : Nat) : (s.setNum idx sub v).nc = s.nc := rfl
@[simp] theorem State.setNum_rs (s : State) (idx sub v : Nat) : (s.setNum idx sub v).rs = s.rs := rfl
@[simp] theorem State.setNum_ref (s : State) (idx sub v : Nat) : (s.setNum idx sub v).ref = s.ref := rfl
@[simp] theorem State.setNum_pkg (s : State) (idx sub v : Nat) : (s.setNum idx sub v).pkg = s.pkg := rfl
@[simp] theorem State.setNum_st (s : State) (idx sub v : Nat) : (s.setNum idx sub v).st = s.st := rfl
@[simp] theorem State.setNum_out (s : State) (idx sub v : Nat) : (s.setNum idx sub v).out = s.out := rfl
@[simp] theorem State.setNum_free (s : State) (idx sub v : Nat) : (s.setNum idx sub v).free = s.free := rfl
@[simp] theorem State.setNum_pending (s : State) (idx sub v : Nat) : (s.setNum idx sub v).pending = s.pending := rfl

/-! ### `State.putCue` -/

@[simp] theorem State.putCue_clk (s : State) (e : Nat) (c : CueEntry) : (s.putCue e c).clk = s.clk := rfl
@[simp] theorem State.putCue_fd (s : State) (e : Nat) (c : CueEntry) : (s.putCue e c).fd = s.fd := rfl
@[simp] theorem State.putCue_wc (s : State) (e : Nat) (c : CueEntry) : (s.putCue e c).wc = s.wc := rfl
@[simp] theorem State.putCue_link (s : State) (e : Nat) (c : CueEntry) : (s.putCue e c).link = s.link := rfl
@[simp] theorem State.putCue_rep (s : State) (e : Nat) (c : CueEntry) : (s.putCue e c).rep = s.rep := rfl
@[simp] theorem State.putCue_can (s : State) (e : Nat) (c : CueEntry) : (s.putCue e c).can = s.can := rfl
@[simp] theorem State.putCue_pwr (s : State) (e : Nat) (c : CueEntry) : (s.putCue e c).pwr = s.pwr := rfl
@[simp] theorem State.putCue_ic (s : State) (e : Nat) (c : CueEntry) : (s.putCue e c).ic = s.ic := rfl
@[simp] theorem State.putCue_isp (s : State) (e : Nat) (c : CueEntry) : (s.putCue e c).isp = s.isp := rfl
@[simp] theorem State.putCue_host (s : State) (e : Nat) (c : CueEntry) : (s.putCue e c).host = s.host := rfl
@[simp] theorem State.putCue_boot (s : State) (e : Nat) (c : CueEntry) : (s.putCue e c).boot = s.boot := rfl
@[simp] theorem State.putCue_gk (s : State) (e : Nat) (c : CueEntry) : (s.putCue e c).gk = s.gk := rfl
@[simp] theorem State.putCue_od (s : State) (e : Nat) (c : CueEntry) : (s.putCue e c).od = s.od := rfl
@[simp] theorem State.putCue_mem (s : State) (e : Nat) (c : CueEntry) : (s.putCue e c).mem = s.mem := rfl
@[simp] theorem State.putCue_rg (s : State) (e : Nat) (c : CueEntry) : (s.putCue e c).rg = s.rg := rfl
@[simp] theorem State.putCue_qn (s : State) (e : Nat) (c : CueEntry) : (s.putCue e c).qn = s.qn := rfl
@[simp] theorem State.putCue_nc (s : State) (e : Nat) (c : CueEntry) : (s.putCue e c).nc = s.nc := rfl
@[simp] theorem State.putCue_rs (s : State) (e : Nat) (c : CueEntry) : (s.putCue e c).rs = s.rs := rfl
@[simp] theorem State.putCue_ref (s : State) (e : Nat) (c : CueEntry) : (s.putCue e c).ref = s.ref := rfl
@[simp] theorem State.putCue_pkg (s : State) (e : Nat) (c : CueEntry) : (s.putCue e c).pkg = s.pkg := rfl
@[simp] theorem State.putCue_st (s : State) (e : Nat) (c : CueEntry) : (s.putCue e c).st = s.st := rfl
@[simp] theorem State.putCue_out (s : State) (e : Nat) (c : CueEntry) : (s.putCue e c).out = s.out := rfl
@[simp] theorem State.putCue_free (s : State) (e : Nat) (c : CueEntry) : (s.putCue e c).free = s.free := rfl
@[simp] theorem State.putCue_pending (s : State) (e : Nat) (c : CueEntry) : (s.putCue e c).pending = s.pending := rfl

/-! ### `State.poke` -/

@[simp] theorem State.poke_clk (s : State) (a : Nat) (x : List Byte) : (s.poke a x).clk = s.clk := rfl
@[simp] theorem State.poke_fd (s : State) (a : Nat) (x : List Byte) : (s.poke a x).fd = s.fd := rfl
@[simp] theorem State.poke_wc (s : State) (a : Nat) (x : List Byte) : (s.poke a x).wc = s.wc := rfl
@[simp] theorem State.poke_cue (s : State) (a : Nat) (x : List Byte) : (s.poke a x).cue = s.cue := rfl
@[simp] theorem State.poke_link (s : State) (a : Nat) (x : List Byte) : (s.poke a x).link = s.link := rfl
@[simp] theorem State.poke_rep (s : State) (a : Nat) (x : List Byte) : (s.poke a x).rep = s.rep := rfl
@[simp] theorem State.poke_can (s : State) (a : Nat) (x : List Byte) : (s.poke a x).can = s.can := rfl
@[simp] theorem State.poke_pwr (s : State) (a : Nat) (x : List Byte) : (s.poke a x).pwr = s.pwr := rfl
@[simp] theorem State.poke_ic (s : State) (a : Nat) (x : List Byte) : (s.poke a x).ic = s.ic := rfl
@[simp] theorem State.poke_isp (s : State) (a : Nat) (x : List Byte) : (s.poke a x).isp = s.isp := rfl
@[simp] theorem State.poke_host (s : State) (a : Nat) (x : List Byte) : (s.poke a x).host = s.host := rfl
@[simp] theorem State.poke_boot (s : State) (a : Nat) (x : List Byte) : (s.poke a x).boot = s.boot := rfl
@[simp] theorem State.poke_gk (s : State) (a : Nat) (x : List Byte) : (s.poke a x).gk = s.gk := rfl
@[simp] theorem State.poke_od (s : State) (a : Nat) (x : List Byte) : (s.poke a x).od = s.od := rfl
@[simp] theorem State.poke_rg (s : State) (a : Nat) (x : List Byte) : (s.poke a x).rg = s.rg := rfl
@[simp] theorem State.poke_qn (s : State) (a : Nat) (x : List Byte) : (s.poke a x).qn = s.qn := rfl
@[simp] theorem State.poke_nc (s : State) (a : Nat) (x : List Byte) : (s.poke a x).nc = s.nc := rfl
@[simp] theorem State.poke_rs (s : State) (a : Nat) (x : List Byte) : (s.poke a x).rs = s.rs := rfl
@[simp] theorem State.poke_ref (s : State) (a : Nat) (x : List Byte) : (s.poke a x).ref = s.ref := rfl
@[simp] theorem State.poke_pkg (s : State) (a : Nat) (x : List Byte) : (s.poke a x).pkg = s.pkg := rfl
@[simp] theorem State.poke_st (s : State) (a : Nat) (x : List Byte) : (s.poke a x).st = s.st := rfl
@[simp] theorem State.poke_out (s : State) (a : Nat) (x : List Byte) : (s.poke a x).out = s.out := rfl
@[simp] theorem State.poke_free (s : State) (a : Nat) (x : List Byte) : (s.poke a x).free = s.free := rfl
@[simp] theorem State.poke_pending (s : State) (a : Nat) (x : List Byte) : (s.poke a x).pending = s.pending := rfl

/-! ### `State.wipe` -/

@[simp] theorem State.wipe_clk (s : State) (a n : Nat) : (s.wipe a n).clk = s.clk := rfl
@[simp] theorem State.wipe_fd (s : State) (a n : Nat) : (s.wipe a n).fd = s.fd := rfl
@[simp] theorem State.wipe_wc (s : State) (a n : Nat) : (s.wipe a n).wc = s.wc := rfl
@[simp] theorem State.wipe_cue (s : State) (a n : Nat) : (s.wipe a n).cue = s.cue := rfl
@[simp] theorem State.wipe_link (s : State) (a n : Nat) : (s.wipe a n).link = s.link := rfl
@[simp] theorem State.wipe_rep (s : State) (a n : Nat) : (s.wipe a n).rep = s.rep := rfl
@[simp] theorem State.wipe_can (s : State) (a n : Nat) : (s.wipe a n).can = s.can := rfl
@[simp] theorem State.wipe_pwr (s : State) (a n : Nat) : (s.wipe a n).pwr = s.pwr := rfl
@[simp] theorem State.wipe_ic (s : State) (a n : Nat) : (s.wipe a n).ic = s.ic := rfl
@[simp] theorem State.wipe_isp (s : State) (a n : Nat) : (s.wipe a n).isp = s.isp := rfl
@[simp] theorem State.wipe_host (s : State) (a n : Nat) : (s.wipe a n).host = s.host := rfl
@[simp] theorem State.wipe_boot (s : State) (a n : Nat) : (s.wipe a n).boot = s.boot := rfl
@[simp] theorem State.wipe_gk (s : State) (a n : Nat) : (s.wipe a n).gk = s.gk := rfl
@[simp] theorem State.wipe_od (s : State) (a n : Nat) : (s.wipe a n).od = s.od := rfl
@[simp] theorem State.wipe_rg (s : State) (a n : Nat) : (s.wipe a n).rg = s.rg := rfl
@[simp] theorem State.wipe_qn (s : State) (a n : Nat) : (s.wipe a n).qn = s.qn := rfl
@[simp] theorem State.wipe_nc (s : State) (a n : Nat) : (s.wipe a n).nc = s.nc := rfl
@[simp] theorem State.wipe_rs (s : State) (a n : Nat) : (s.wipe a n).rs = s.rs := rfl
@[simp] theorem State.wipe_ref (s : State) (a n : Nat) : (s.wipe a n).ref = s.ref := rfl
@[simp] theorem State.wipe_pkg (s : State) (a n : Nat) : (s.wipe a n).pkg = s.pkg := rfl
@[simp] theorem State.wipe_st (s : State) (a n : Nat) : (s.wipe a n).st = s.st := rfl
@[simp] theorem State.wipe_out (s : State) (a n : Nat) : (s.wipe a n).out = s.out := rfl
@[simp] theorem State.wipe_free (s : State) (a n : Nat) : (s.wipe a n).free = s.free := rfl
@[simp] theorem State.wipe_pending (s : State) (a n : Nat) : (s.wipe a n).pending = s.pending := rfl

/-! ### `State.updChan` -/

@[simp] theorem State.updChan_clk (s : State) (c : Nat) (f : DsChan → DsChan) : (s.updChan c f).clk = s.clk := rfl
@[simp] theorem State.updChan_fd (s : State) (c : Nat) (f : DsChan → DsChan) : (s.updChan c f).fd = s.fd := rfl
@[simp] theorem State.updChan_wc (s : State) (c : Nat) (f : DsChan → DsChan) : (s.updChan c f).wc = s.wc := rfl
@[simp] theorem State.updChan_cue (s : State) (c : Nat) (f : DsChan → DsChan) : (s.updChan c f).cue = s.cue := rfl
@[simp] theorem State.updChan_link (s : State) (c : Nat) (f : DsChan → DsChan) : (s.updChan c f).link = s.link := rfl
@[simp] theorem State.updChan_rep (s : State) (c : Nat) (f : DsChan → DsChan) : (s.updChan c f).rep = s.rep := rfl
@[simp] theorem State.updChan_can (s : State) (c : Nat) (f : DsChan → DsChan) : (s.updChan c f).can = s.can := rfl
@[simp] theorem State.updChan_pwr (s : State) (c : Nat) (f : DsChan → DsChan) : (s.updChan c f).pwr = s.pwr := rfl
@[simp] theorem State.updChan_ic (s : State) (c : Nat) (f : DsChan → DsChan) : (s.updChan c f).ic = s.ic := rfl
@[simp] theorem State.updChan_isp (s : State) (c : Nat) (f : DsChan → DsChan) : (s.updChan c f).isp = s.isp := rfl
@[simp] theorem State.updChan_host (s : State) (c : Nat) (f : DsChan → DsChan) : (s.updChan c f).host = s.host := rfl
@[simp] theorem State.updChan_boot (s : State) (c : Nat) (f : DsChan → DsChan) : (s.updChan c f).boot = s.boot := rfl
@[simp] theorem State.updChan_gk (s : State) (c : Nat) (f : DsChan → DsChan) : (s.updChan c f).gk = s.gk := rfl
@[simp] theorem State.updChan_od (s : State) (c : Nat) (f : DsChan → DsChan) : (s.updChan c f).od = s.od := rfl
@[simp] theorem State.updChan_rg (s : State) (c : Nat) (f : DsChan → DsChan) : (s.updChan c f).rg = s.rg := rfl
@[simp] theorem State.updChan_qn (s : State) (c : Nat) (f : DsChan → DsChan) : (s.updChan c f).qn = s.qn := rfl
@[simp] theorem State.updChan_nc (s : State) (c : Nat) (f : DsChan → DsChan) : (s.updChan c f).nc = s.nc := rfl
@[simp] theorem State.updChan_rs (s : State) (c : Nat) (f : DsChan → DsChan) : (s.updChan c f).rs = s.rs := rfl
@[simp] theorem State.updChan_ref (s : State) (c : Nat) (f : DsChan → DsChan) : (s.updChan c f).ref = s.ref := rfl
@[simp] theorem State.updChan_pkg (s : State) (c : Nat) (f : DsChan → DsChan) : (s.updChan c f).pkg = s.pkg := rfl
@[simp] theorem State.updChan_st (s : State) (c : Nat) (f : DsChan → DsChan) : (s.updChan c f).st = s.st := rfl
@[simp] theorem State.updChan_out (s : State) (c : Nat) (f : DsChan → DsChan) : (s.updChan c f).out = s.out := rfl
@[simp] theorem State.updChan_free (s : State) (c : Nat) (f : DsChan → DsChan) : (s.updChan c f).free = s.free := rfl
@[simp] theorem State.updChan_pending (s : State) (c : Nat) (f : DsChan → DsChan) : (s.updChan c f).pending = s.pending := rfl

/-! ### `State.updCore` -/

@[simp] theorem State.updCore_clk (s : State) (c : Nat) (f : NeuralCore → NeuralCore) : (s.updCore c f).clk = s.clk := rfl
@[simp] theorem State.updCore_fd (s : State) (c : Nat) (f : NeuralCore → NeuralCore) : (s.updCore c f).fd = s.fd := rfl
@[simp] theorem State.updCore_wc (s : State) (c : Nat) (f : NeuralCore → NeuralCore) : (s.updCore c f).wc = s.wc := rfl
@[simp] theorem State.updCore_cue (s : State) (c : Nat) (f : NeuralCore → NeuralCore) : (s.updCore c f).cue = s.cue := rfl
@[simp] theorem State.updCore_link (s : State) (c : Nat) (f : NeuralCore → NeuralCore) : (s.updCore c f).link = s.link := rfl
@[simp] theorem State.updCore_rep (s : State) (c : Nat) (f : NeuralCore → NeuralCore) : (s.updCore c f).rep = s.rep := rfl
@[simp] theorem State.updCore_can (s : State) (c : Nat) (f : NeuralCore → NeuralCore) : (s.updCore c f).can = s.can := rfl
@[simp] theorem State.updCore_pwr (s : State) (c : Nat) (f : NeuralCore → NeuralCore) : (s.updCore c f).pwr = s.pwr := rfl
@[simp] theorem State.updCore_ic (s : State) (c : Nat) (f : NeuralCore → NeuralCore) : (s.updCore c f).ic = s.ic := rfl
@[simp] theorem State.updCore_isp (s : State) (c : Nat) (f : NeuralCore → NeuralCore) : (s.updCore c f).isp = s.isp := rfl
@[simp] theorem State.updCore_host (s : State) (c : Nat) (f : NeuralCore → NeuralCore) : (s.updCore c f).host = s.host := rfl
@[simp] theorem State.updCore_boot (s : State) (c : Nat) (f : NeuralCore → NeuralCore) : (s.updCore c f).boot = s.boot := rfl
@[simp] theorem State.updCore_gk (s : State) (c : Nat) (f : NeuralCore → NeuralCore) : (s.updCore c f).gk = s.gk := rfl
@[simp] theorem State.updCore_od (s : State) (c : Nat) (f : NeuralCore → NeuralCore) : (s.updCore c f).od = s.od := rfl
@[simp] theorem State.updCore_mem (s : State) (c : Nat) (f : NeuralCore → NeuralCore) : (s.updCore c f).mem = s.mem := rfl
@[simp] theorem State.updCore_rg (s : State) (c : Nat) (f : NeuralCore → NeuralCore) : (s.updCore c f).rg = s.rg := rfl
@[simp] theorem State.updCore_qn (s : State) (c : Nat) (f : NeuralCore → NeuralCore) : (s.updCore c f).qn = s.qn := rfl
@[simp] theorem State.updCore_rs (s : State) (c : Nat) (f : NeuralCore → NeuralCore) : (s.updCore c f).rs = s.rs := rfl
@[simp] theorem State.updCore_ref (s : State) (c : Nat) (f : NeuralCore → NeuralCore) : (s.updCore c f).ref = s.ref := rfl
@[simp] theorem State.updCore_pkg (s : State) (c : Nat) (f : NeuralCore → NeuralCore) : (s.updCore c f).pkg = s.pkg := rfl
@[simp] theorem State.updCore_st (s : State) (c : Nat) (f : NeuralCore → NeuralCore) : (s.updCore c f).st = s.st := rfl
@[simp] theorem State.updCore_out (s : State) (c : Nat) (f : NeuralCore → NeuralCore) : (s.updCore c f).out = s.out := rfl
@[simp] theorem State.updCore_free (s : State) (c : Nat) (f : NeuralCore → NeuralCore) : (s.updCore c f).free = s.free := rfl
@[simp] theorem State.updCore_pending (s : State) (c : Nat) (f : NeuralCore → NeuralCore) : (s.updCore c f).pending = s.pending := rfl

/-! ### `State.putRing` -/

@[simp] theorem State.putRing_clk (s : State) (r : Nat) (d : Ring) : (s.putRing r d).clk = s.clk := rfl
@[simp] theorem State.putRing_fd (s : State) (r : Nat) (d : Ring) : (s.putRing r d).fd = s.fd := rfl
@[simp] theorem State.putRing_wc (s : State) (r : Nat) (d : Ring) : (s.putRing r d).wc = s.wc := rfl
@[simp] theorem State.putRing_cue (s : State) (r : Nat) (d : Ring) : (s.putRing r d).cue = s.cue := rfl
@[simp] theorem State.putRing_link (s : State) (r : Nat) (d : Ring) : (s.putRing r d).link = s.link := rfl
@[simp] theorem State.putRing_rep (s : State) (r : Nat) (d : Ring) : (s.putRing r d).rep = s.rep := rfl
@[simp] theorem State.putRing_can (s : State) (r : Nat) (d : Ring) : (s.putRing r d).can = s.can := rfl
@[simp] theorem State.putRing_pwr (s : State) (r : Nat) (d : Ring) : (s.putRing r d).pwr = s.pwr := rfl
@[simp] theorem State.putRing_ic (s : State) (r : Nat) (d : Ring) : (s.putRing r d).ic = s.ic := rfl
@[simp] theorem State.putRing_isp (s : State) (r : Nat) (d : Ring) : (s.putRing r d).isp = s.isp := rfl
@[simp] theorem State.putRing_host (s : State) (r : Nat) (d : Ring) : (s.putRing r d).host = s.host := rfl
@[simp] theorem State.putRing_boot (s : State) (r : Nat) (d : Ring) : (s.putRing r d).boot = s.boot := rfl
@[simp] theorem State.putRing_gk (s : State) (r : Nat) (d : Ring) : (s.putRing r d).gk = s.gk := rfl
@[simp] theorem State.putRing_od (s : State) (r : Nat) (d : Ring) : (s.putRing r d).od = s.od := rfl
@[simp] theorem State.putRing_mem (s : State) (r : Nat) (d : Ring) : (s.putRing r d).mem = s.mem := rfl
@[simp] theorem State.putRing_qn (s : State) (r : Nat) (d : Ring) : (s.putRing r d).qn = s.qn := rfl
@[simp] theorem State.putRing_nc (s : State) (r : Nat) (d : Ring) : (s.putRing r d).nc = s.nc := rfl
@[simp] theorem State.putRing_rs (s : State) (r : Nat) (d : Ring) : (s.putRing r d).rs = s.rs := rfl
@[simp] theorem State.putRing_ref (s : State) (r : Nat) (d : Ring) : (s.putRing r d).ref = s.ref := rfl
@[simp] theorem State.putRing_pkg (s : State) (r : Nat) (d : Ring) : (s.putRing r d).pkg = s.pkg := rfl
@[simp] theorem State.putRing_st (s : State) (r : Nat) (d : Ring) : (s.putRing r d).st = s.st := rfl
@[simp] theorem State.putRing_out (s : State) (r : Nat) (d : Ring) : (s.putRing r d).out = s.out := rfl
@[simp] theorem State.putRing_free (s : State) (r : Nat) (d : Ring) : (s.putRing r d).free = s.free := rfl
@[simp] theorem State.putRing_pending (s : State) (r : Nat) (d : Ring) : (s.putRing r d).pending = s.pending := rfl

/-! ### `State.putQuoin` -/

@[simp] theorem State.putQuoin_clk (s : State) (q : Nat) (x : Quoin) : (s.putQuoin q x).clk = s.clk := rfl
@[simp] theorem State.putQuoin_fd (s : State) (q : Nat) (x : Quoin) : (s.putQuoin q x).fd = s.fd := rfl
@[simp] theorem State.putQuoin_wc (s : State) (q : Nat) (x : Quoin) : (s.putQuoin q x).wc = s.wc := rfl
@[simp] theorem State.putQuoin_cue (s : State) (q : Nat) (x : Quoin) : (s.putQuoin q x).cue = s.cue := rfl
@[simp] theorem State.putQuoin_link (s : State) (q : Nat) (x : Quoin) : (s.putQuoin q x).link = s.link := rfl
@[simp] theorem State.putQuoin_rep (s : State) (q : Nat) (x : Quoin) : (s.putQuoin q x).rep = s.rep := rfl
@[simp] theorem State.putQuoin_can (s : State) (q : Nat) (x : Quoin) : (s.putQuoin q x).can = s.can := rfl
@[simp] theorem State.putQuoin_pwr (s : State) (q : Nat) (x : Quoin) : (s.putQuoin q x).pwr = s.pwr := rfl
@[simp] theorem State.putQuoin_ic (s : State) (q : Nat) (x : Quoin) : (s.putQuoin q x).ic = s.ic := rfl
@[simp] theorem State.putQuoin_isp (s : State) (q : Nat) (x : Quoin) : (s.putQuoin q x).isp = s.isp := rfl
@[simp] theorem State.putQuoin_host (s : State) (q : Nat) (x : Quoin) : (s.putQuoin q x).host = s.host := rfl
@[simp] theorem State.putQuoin_boot (s : State) (q : Nat) (x : Quoin) : (s.putQuoin q x).boot = s.boot := rfl
@[simp] theorem State.putQuoin_gk (s : State) (q : Nat) (x : Quoin) : (s.putQuoin q x).gk = s.gk := rfl
@[simp] theorem State.putQuoin_od (s : State) (q : Nat) (x : Quoin) : (s.putQuoin q x).od = s.od := rfl
@[simp] theorem State.putQuoin_mem (s : State) (q : Nat) (x : Quoin) : (s.putQuoin q x).mem = s.mem := rfl
@[simp] theorem State.putQuoin_rg (s : State) (q : Nat) (x : Quoin) : (s.putQuoin q x).rg = s.rg := rfl
@[simp] theorem State.putQuoin_nc (s : State) (q : Nat) (x : Quoin) : (s.putQuoin q x).nc = s.nc := rfl
@[simp] theorem State.putQuoin_rs (s : State) (q : Nat) (x : Quoin) : (s.putQuoin q x).rs = s.rs := rfl
@[simp] theorem State.putQuoin_ref (s : State) (q : Nat) (x : Quoin) : (s.putQuoin q x).ref = s.ref := rfl
@[simp] theorem State.putQuoin_pkg (s : State) (q : Nat) (x : Quoin) : (s.putQuoin q x).pkg = s.pkg := rfl
@[simp] theorem State.putQuoin_st (s : State) (q : Nat) (x : Quoin) : (s.putQuoin q x).st = s.st := rfl
@[simp] theorem State.putQuoin_out (s : State) (q : Nat) (x : Quoin) : (s.putQuoin q x).out = s.out := rfl
@[simp] theorem State.putQuoin_free (s : State) (q : Nat) (x : Quoin) : (s.putQuoin q x).free = s.free := rfl
@[simp] theorem State.putQuoin_pending (s : State) (q : Nat) (x : Quoin) : (s.putQuoin q x).pending = s.pending := rfl

/-! ### `State.updIntake` -/

@[simp] theorem State.updIntake_clk (s : State) (n : Nat) (f : Channel → Channel) : (s.updIntake n f).clk = s.clk := rfl
@[simp] theorem State.updIntake_fd (s : State) (n : Nat) (f : Channel → Channel) : (s.updIntake n f).fd = s.fd := rfl
@[simp] theorem State.updIntake_wc (s : State) (n : Nat) (f : Channel → Channel) : (s.updIntake n f).wc = s.wc := rfl
@[simp] theorem State.updIntake_cue (s : State) (n : Nat) (f : Channel → Channel) : (s.updIntake n f).cue = s.cue := rfl
@[simp] theorem State.updIntake_link (s : State) (n : Nat) (f : Channel → Channel) : (s.updIntake n f).link = s.link := rfl
@[simp] theorem State.updIntake_rep (s : State) (n : Nat) (f : Channel → Channel) : (s.updIntake n f).rep = s.rep := rfl
@[simp] theorem State.updIntake_can (s : State) (n : Nat) (f : Channel → Channel) : (s.updIntake n f).can = s.can := rfl
@[simp] theorem State.updIntake_pwr (s : State) (n : Nat) (f : Channel → Channel) : (s.updIntake n f).pwr = s.pwr := rfl
@[simp] theorem State.updIntake_isp (s : State) (n : Nat) (f : Channel → Channel) : (s.updIntake n f).isp = s.isp := rfl
@[simp] theorem State.updIntake_host (s : State) (n : Nat) (f : Channel → Channel) : (s.updIntake n f).host = s.host := rfl
@[simp] theorem State.updIntake_boot (s : State) (n : Nat) (f : Channel → Channel) : (s.updIntake n f).boot = s.boot := rfl
@[simp] theorem State.updIntake_gk (s : State) (n : Nat) (f : Channel → Channel) : (s.updIntake n f).gk = s.gk := rfl
@[simp] theorem State.updIntake_od (s : State) (n : Nat) (f : Channel → Channel) : (s.updIntake n f).od = s.od := rfl
@[simp] theorem State.updIntake_mem (s : State) (n : Nat) (f : Channel → Channel) : (s.updIntake n f).mem = s.mem := rfl
@[simp] theorem State.updIntake_rg (s : State) (n : Nat) (f : Channel → Channel) : (s.updIntake n f).rg = s.rg := rfl
@[simp] theorem State.updIntake_qn (s : State) (n : Nat) (f : Channel → Channel) : (s.updIntake n f).qn = s.qn := rfl
@[simp] theorem State.updIntake_nc (s : State) (n : Nat) (f : Channel → Channel) : (s.updIntake n f).nc = s.nc := rfl
@[simp] theorem State.updIntake_rs (s : State) (n : Nat) (f : Channel → Channel) : (s.updIntake n f).rs = s.rs := rfl
@[simp] theorem State.updIntake_ref (s : State) (n : Nat) (f : Channel → Channel) : (s.updIntake n f).ref = s.ref := rfl
@[simp] theorem State.updIntake_pkg (s : State) (n : Nat) (f : Channel → Channel) : (s.updIntake n f).pkg = s.pkg := rfl
@[simp] theorem State.updIntake_st (s : State) (n : Nat) (f : Channel → Channel) : (s.updIntake n f).st = s.st := rfl
@[simp] theorem State.updIntake_out (s : State) (n : Nat) (f : Channel → Channel) : (s.updIntake n f).out = s.out := rfl
@[simp] theorem State.updIntake_free (s : State) (n : Nat) (f : Channel → Channel) : (s.updIntake n f).free = s.free := rfl
@[simp] theorem State.updIntake_pending (s : State) (n : Nat) (f : Channel → Channel) : (s.updIntake n f).pending = s.pending := rfl

/-! ### `State.updPipe` -/

@[simp] theorem State.updPipe_clk (s : State) (n : Nat) (f : Pipeline → Pipeline) : (s.updPipe n f).clk = s.clk := rfl
@[simp] theorem State.updPipe_fd (s : State) (n : Nat) (f : Pipeline → Pipeline) : (s.updPipe n f).fd = s.fd := rfl
@[simp] theorem State.updPipe_wc (s : State) (n : Nat) (f : Pipeline → Pipeline) : (s.updPipe n f).wc = s.wc := rfl
@[simp] theorem State.updPipe_cue (s : State) (n : Nat) (f : Pipeline → Pipeline) : (s.updPipe n f).cue = s.cue := rfl
@[simp] theorem State.updPipe_link (s : State) (n : Nat) (f : Pipeline → Pipeline) : (s.updPipe n f).link = s.link := rfl
@[simp] theorem State.updPipe_rep (s : State) (n : Nat) (f : Pipeline → Pipeline) : (s.updPipe n f).rep = s.rep := rfl
@[simp] theorem State.updPipe_can (s : State) (n : Nat) (f : Pipeline → Pipeline) : (s.updPipe n f).can = s.can := rfl
@[simp] theorem State.updPipe_pwr (s : State) (n : Nat) (f : Pipeline → Pipeline) : (s.updPipe n f).pwr = s.pwr := rfl
@[simp] theorem State.updPipe_ic (s : State) (n : Nat) (f : Pipeline → Pipeline) : (s.updPipe n f).ic = s.ic := rfl
@[simp] theorem State.updPipe_host (s : State) (n : Nat) (f : Pipeline → Pipeline) : (s.updPipe n f).host = s.host := rfl
@[simp] theorem State.updPipe_boot (s : State) (n : Nat) (f : Pipeline → Pipeline) : (s.updPipe n f).boot = s.boot := rfl
@[simp] theorem State.updPipe_gk (s : State) (n : Nat) (f : Pipeline → Pipeline) : (s.updPipe n f).gk = s.gk := rfl
@[simp] theorem State.updPipe_od (s : State) (n : Nat) (f : Pipeline → Pipeline) : (s.updPipe n f).od = s.od := rfl
@[simp] theorem State.updPipe_mem (s : State) (n : Nat) (f : Pipeline → Pipeline) : (s.updPipe n f).mem = s.mem := rfl
@[simp] theorem State.updPipe_rg (s : State) (n : Nat) (f : Pipeline → Pipeline) : (s.updPipe n f).rg = s.rg := rfl
@[simp] theorem State.updPipe_qn (s : State) (n : Nat) (f : Pipeline → Pipeline) : (s.updPipe n f).qn = s.qn := rfl
@[simp] theorem State.updPipe_nc (s : State) (n : Nat) (f : Pipeline → Pipeline) : (s.updPipe n f).nc = s.nc := rfl
@[simp] theorem State.updPipe_rs (s : State) (n : Nat) (f : Pipeline → Pipeline) : (s.updPipe n f).rs = s.rs := rfl
@[simp] theorem State.updPipe_ref (s : State) (n : Nat) (f : Pipeline → Pipeline) : (s.updPipe n f).ref = s.ref := rfl
@[simp] theorem State.updPipe_pkg (s : State) (n : Nat) (f : Pipeline → Pipeline) : (s.updPipe n f).pkg = s.pkg := rfl
@[simp] theorem State.updPipe_st (s : State) (n : Nat) (f : Pipeline → Pipeline) : (s.updPipe n f).st = s.st := rfl
@[simp] theorem State.updPipe_out (s : State) (n : Nat) (f : Pipeline → Pipeline) : (s.updPipe n f).out = s.out := rfl
@[simp] theorem State.updPipe_free (s : State) (n : Nat) (f : Pipeline → Pipeline) : (s.updPipe n f).free = s.free := rfl
@[simp] theorem State.updPipe_pending (s : State) (n : Nat) (f : Pipeline → Pipeline) : (s.updPipe n f).pending = s.pending := rfl

/-! ### `State.updMac` -/

@[simp] theorem State.updMac_clk (s : State) (n : Nat) (f : Mac → Mac) : (s.updMac n f).clk = s.clk := rfl
@[simp] theorem State.updMac_fd (s : State) (n : Nat) (f : Mac → Mac) : (s.updMac n f).fd = s.fd := rfl
@[simp] theorem State.updMac_wc (s : State) (n : Nat) (f : Mac → Mac) : (s.updMac n f).wc = s.wc := rfl
@[simp] theorem State.updMac_cue (s : State) (n : Nat) (f : Mac → Mac) : (s.updMac n f).cue = s.cue := rfl
@[simp] theorem State.updMac_link (s : State) (n : Nat) (f : Mac → Mac) : (s.updMac n f).link = s.link := rfl
@[simp] theorem State.updMac_rep (s : State) (n : Nat) (f : Mac → Mac) : (s.updMac n f).rep = s.rep := rfl
@[simp] theorem State.updMac_can (s : State) (n : Nat) (f : Mac → Mac) : (s.updMac n f).can = s.can := rfl
@[simp] theorem State.updMac_pwr (s : State) (n : Nat) (f : Mac → Mac) : (s.updMac n f).pwr = s.pwr := rfl
@[simp] theorem State.updMac_ic (s : State) (n : Nat) (f : Mac → Mac) : (s.updMac n f).ic = s.ic := rfl
@[simp] theorem State.updMac_isp (s : State) (n : Nat) (f : Mac → Mac) : (s.updMac n f).isp = s.isp := rfl
@[simp] theorem State.updMac_boot (s : State) (n : Nat) (f : Mac → Mac) : (s.updMac n f).boot = s.boot := rfl
@[simp] theorem State.updMac_gk (s : State) (n : Nat) (f : Mac → Mac) : (s.updMac n f).gk = s.gk := rfl
@[simp] theorem State.updMac_od (s : State) (n : Nat) (f : Mac → Mac) : (s.updMac n f).od = s.od := rfl
@[simp] theorem State.updMac_mem (s : State) (n : Nat) (f : Mac → Mac) : (s.updMac n f).mem = s.mem := rfl
@[simp] theorem State.updMac_rg (s : State) (n : Nat) (f : Mac → Mac) : (s.updMac n f).rg = s.rg := rfl
@[simp] theorem State.updMac_qn (s : State) (n : Nat) (f : Mac → Mac) : (s.updMac n f).qn = s.qn := rfl
@[simp] theorem State.updMac_nc (s : State) (n : Nat) (f : Mac → Mac) : (s.updMac n f).nc = s.nc := rfl
@[simp] theorem State.updMac_rs (s : State) (n : Nat) (f : Mac → Mac) : (s.updMac n f).rs = s.rs := rfl
@[simp] theorem State.updMac_ref (s : State) (n : Nat) (f : Mac → Mac) : (s.updMac n f).ref = s.ref := rfl
@[simp] theorem State.updMac_pkg (s : State) (n : Nat) (f : Mac → Mac) : (s.updMac n f).pkg = s.pkg := rfl
@[simp] theorem State.updMac_st (s : State) (n : Nat) (f : Mac → Mac) : (s.updMac n f).st = s.st := rfl
@[simp] theorem State.updMac_out (s : State) (n : Nat) (f : Mac → Mac) : (s.updMac n f).out = s.out := rfl
@[simp] theorem State.updMac_free (s : State) (n : Nat) (f : Mac → Mac) : (s.updMac n f).free = s.free := rfl
@[simp] theorem State.updMac_pending (s : State) (n : Nat) (f : Mac → Mac) : (s.updMac n f).pending = s.pending := rfl

/-! ### `State.updFunc` -/

@[simp] theorem State.updFunc_clk (s : State) (n : Nat) (f : Pf → Pf) : (s.updFunc n f).clk = s.clk := rfl
@[simp] theorem State.updFunc_fd (s : State) (n : Nat) (f : Pf → Pf) : (s.updFunc n f).fd = s.fd := rfl
@[simp] theorem State.updFunc_wc (s : State) (n : Nat) (f : Pf → Pf) : (s.updFunc n f).wc = s.wc := rfl
@[simp] theorem State.updFunc_cue (s : State) (n : Nat) (f : Pf → Pf) : (s.updFunc n f).cue = s.cue := rfl
@[simp] theorem State.updFunc_link (s : State) (n : Nat) (f : Pf → Pf) : (s.updFunc n f).link = s.link := rfl
@[simp] theorem State.updFunc_rep (s : State) (n : Nat) (f : Pf → Pf) : (s.updFunc n f).rep = s.rep := rfl
@[simp] theorem State.updFunc_can (s : State) (n : Nat) (f : Pf → Pf) : (s.updFunc n f).can = s.can := rfl
@[simp] theorem State.updFunc_pwr (s : State) (n : Nat) (f : Pf → Pf) : (s.updFunc n f).pwr = s.pwr := rfl
@[simp] theorem State.updFunc_ic (s : State) (n : Nat) (f : Pf → Pf) : (s.updFunc n f).ic = s.ic := rfl
@[simp] theorem State.updFunc_isp (s : State) (n : Nat) (f : Pf → Pf) : (s.updFunc n f).isp = s.isp := rfl
@[simp] theorem State.updFunc_boot (s : State) (n : Nat) (f : Pf → Pf) : (s.updFunc n f).boot = s.boot := rfl
@[simp] theorem State.updFunc_gk (s : State) (n : Nat) (f : Pf → Pf) : (s.updFunc n f).gk = s.gk := rfl
@[simp] theorem State.updFunc_od (s : State) (n : Nat) (f : Pf → Pf) : (s.updFunc n f).od = s.od := rfl
@[simp] theorem State.updFunc_mem (s : State) (n : Nat) (f : Pf → Pf) : (s.updFunc n f).mem = s.mem := rfl
@[simp] theorem State.updFunc_rg (s : State) (n : Nat) (f : Pf → Pf) : (s.updFunc n f).rg = s.rg := rfl
@[simp] theorem State.updFunc_qn (s : State) (n : Nat) (f : Pf → Pf) : (s.updFunc n f).qn = s.qn := rfl
@[simp] theorem State.updFunc_nc (s : State) (n : Nat) (f : Pf → Pf) : (s.updFunc n f).nc = s.nc := rfl
@[simp] theorem State.updFunc_rs (s : State) (n : Nat) (f : Pf → Pf) : (s.updFunc n f).rs = s.rs := rfl
@[simp] theorem State.updFunc_ref (s : State) (n : Nat) (f : Pf → Pf) : (s.updFunc n f).ref = s.ref := rfl
@[simp] theorem State.updFunc_pkg (s : State) (n : Nat) (f : Pf → Pf) : (s.updFunc n f).pkg = s.pkg := rfl
@[simp] theorem State.updFunc_st (s : State) (n : Nat) (f : Pf → Pf) : (s.updFunc n f).st = s.st := rfl
@[simp] theorem State.updFunc_out (s : State) (n : Nat) (f : Pf → Pf) : (s.updFunc n f).out = s.out := rfl
@[simp] theorem State.updFunc_free (s : State) (n : Nat) (f : Pf → Pf) : (s.updFunc n f).free = s.free := rfl
@[simp] theorem State.updFunc_pending (s : State) (n : Nat) (f : Pf → Pf) : (s.updFunc n f).pending = s.pending := rfl

/-! ### `State.updPk` -/

@[simp] theorem State.updPk_clk (s : State) (n : Nat) (f : Package → Package) : (s.updPk n f).clk = s.clk := rfl
@[simp] theorem State.updPk_fd (s : State) (n : Nat) (f : Package → Package) : (s.updPk n f).fd = s.fd := rfl
@[simp] theorem State.updPk_wc (s : State) (n : Nat) (f : Package → Package) : (s.updPk n f).wc = s.wc := rfl
@[simp] theorem State.updPk_cue (s : State) (n : Nat) (f : Package → Package) : (s.updPk n f).cue = s.cue := rfl
@[simp] theorem State.updPk_link (s : State) (n : Nat) (f : Package → Package) : (s.updPk n f).link = s.link := rfl
@[simp] theorem State.updPk_rep (s : State) (n : Nat) (f : Package → Package) : (s.updPk n f).rep = s.rep := rfl
@[simp] theorem State.updPk_can (s : State) (n : Nat) (f : Package → Package) : (s.updPk n f).can = s.can := rfl
@[simp] theorem State.updPk_pwr (s : State) (n : Nat) (f : Package → Package) : (s.updPk n f).pwr = s.pwr := rfl
@[simp] theorem State.updPk_ic (s : State) (n : Nat) (f : Package → Package) : (s.updPk n f).ic = s.ic := rfl
@[simp] theorem State.updPk_isp (s : State) (n : Nat) (f : Package → Package) : (s.updPk n f).isp = s.isp := rfl
@[simp] theorem State.updPk_host (s : State) (n : Nat) (f : Package → Package) : (s.updPk n f).host = s.host := rfl
@[simp] theorem State.updPk_boot (s : State) (n : Nat) (f : Package → Package) : (s.updPk n f).boot = s.boot := rfl
@[simp] theorem State.updPk_gk (s : State) (n : Nat) (f : Package → Package) : (s.updPk n f).gk = s.gk := rfl
@[simp] theorem State.updPk_od (s : State) (n : Nat) (f : Package → Package) : (s.updPk n f).od = s.od := rfl
@[simp] theorem State.updPk_mem (s : State) (n : Nat) (f : Package → Package) : (s.updPk n f).mem = s.mem := rfl
@[simp] theorem State.updPk_rg (s : State) (n : Nat) (f : Package → Package) : (s.updPk n f).rg = s.rg := rfl
@[simp] theorem State.updPk_qn (s : State) (n : Nat) (f : Package → Package) : (s.updPk n f).qn = s.qn := rfl
@[simp] theorem State.updPk_nc (s : State) (n : Nat) (f : Package → Package) : (s.updPk n f).nc = s.nc := rfl
@[simp] theorem State.updPk_rs (s : State) (n : Nat) (f : Package → Package) : (s.updPk n f).rs = s.rs := rfl
@[simp] theorem State.updPk_ref (s : State) (n : Nat) (f : Package → Package) : (s.updPk n f).ref = s.ref := rfl
@[simp] theorem State.updPk_st (s : State) (n : Nat) (f : Package → Package) : (s.updPk n f).st = s.st := rfl
@[simp] theorem State.updPk_out (s : State) (n : Nat) (f : Package → Package) : (s.updPk n f).out = s.out := rfl
@[simp] theorem State.updPk_free (s : State) (n : Nat) (f : Package → Package) : (s.updPk n f).free = s.free := rfl
@[simp] theorem State.updPk_pending (s : State) (n : Nat) (f : Package → Package) : (s.updPk n f).pending = s.pending := rfl

/-! ### `State.rdata` -/

@[simp] theorem State.rdata_clk (s : State) (b : List (BitVec 8)) : (s.rdata b).clk = s.clk := rfl
@[simp] theorem State.rdata_fd (s : State) (b : List (BitVec 8)) : (s.rdata b).fd = s.fd := rfl
@[simp] theorem State.rdata_wc (s : State) (b : List (BitVec 8)) : (s.rdata b).wc = s.wc := rfl
@[simp] theorem State.rdata_cue (s : State) (b : List (BitVec 8)) : (s.rdata b).cue = s.cue := rfl
@[simp] theorem State.rdata_link (s : State) (b : List (BitVec 8)) : (s.rdata b).link = s.link := rfl
@[simp] theorem State.rdata_rep (s : State) (b : List (BitVec 8)) : (s.rdata b).rep = s.rep := rfl
@[simp] theorem State.rdata_can (s : State) (b : List (BitVec 8)) : (s.rdata b).can = s.can := rfl
@[simp] theorem State.rdata_pwr (s : State) (b : List (BitVec 8)) : (s.rdata b).pwr = s.pwr := rfl
@[simp] theorem State.rdata_ic (s : State) (b : List (BitVec 8)) : (s.rdata b).ic = s.ic := rfl
@[simp] theorem State.rdata_isp (s : State) (b : List (BitVec 8)) : (s.rdata b).isp = s.isp := rfl
@[simp] theorem State.rdata_host (s : State) (b : List (BitVec 8)) : (s.rdata b).host = s.host := rfl
@[simp] theorem State.rdata_boot (s : State) (b : List (BitVec 8)) : (s.rdata b).boot = s.boot := rfl
@[simp] theorem State.rdata_gk (s : State) (b : List (BitVec 8)) : (s.rdata b).gk = s.gk := rfl
@[simp] theorem State.rdata_od (s : State) (b : List (BitVec 8)) : (s.rdata b).od = s.od := rfl
@[simp] theorem State.rdata_mem (s : State) (b : List (BitVec 8)) : (s.rdata b).mem = s.mem := rfl
@[simp] theorem State.rdata_rg (s : State) (b : List (BitVec 8)) : (s.rdata b).rg = s.rg := rfl
@[simp] theorem State.rdata_qn (s : State) (b : List (BitVec 8)) : (s.rdata b).qn = s.qn := rfl
@[simp] theorem State.rdata_nc (s : State) (b : List (BitVec 8)) : (s.rdata b).nc = s.nc := rfl
@[simp] theorem State.rdata_rs (s : State) (b : List (BitVec 8)) : (s.rdata b).rs = s.rs := rfl
@[simp] theorem State.rdata_ref (s : State) (b : List (BitVec 8)) : (s.rdata b).ref = s.ref := rfl
@[simp] theorem State.rdata_pkg (s : State) (b : List (BitVec 8)) : (s.rdata b).pkg = s.pkg := rfl
@[simp] theorem State.rdata_st (s : State) (b : List (BitVec 8)) : (s.rdata b).st = s.st := rfl
@[simp] theorem State.rdata_free (s : State) (b : List (BitVec 8)) : (s.rdata b).free = s.free := rfl
@[simp] theorem State.rdata_pending (s : State) (b : List (BitVec 8)) : (s.rdata b).pending = s.pending := rfl

/-! ### `State.regAnswer` -/

@[simp] theorem State.regAnswer_clk (s : State) (ok : Bool) : (s.regAnswer ok).clk = s.clk := rfl
@[simp] theorem State.regAnswer_fd (s : State) (ok : Bool) : (s.regAnswer ok).fd = s.fd := rfl
@[simp] theorem State.regAnswer_wc (s : State) (ok : Bool) : (s.regAnswer ok).wc = s.wc := rfl
@[simp] theorem State.regAnswer_cue (s : State) (ok : Bool) : (s.regAnswer ok).cue = s.cue := rfl
@[simp] theorem State.regAnswer_link (s : State) (ok : Bool) : (s.regAnswer ok).link = s.link := rfl
@[simp] theorem State.regAnswer_rep (s : State) (ok : Bool) : (s.regAnswer ok).rep = s.rep := rfl
@[simp] theorem State.regAnswer_can (s : State) (ok : Bool) : (s.regAnswer ok).can = s.can := rfl
@[simp] theorem State.regAnswer_pwr (s : State) (ok : Bool) : (s.regAnswer ok).pwr = s.pwr := rfl
@[simp] theorem State.regAnswer_ic (s : State) (ok : Bool) : (s.regAnswer ok).ic = s.ic := rfl
@[simp] theorem State.regAnswer_isp (s : State) (ok : Bool) : (s.regAnswer ok).isp = s.isp := rfl
@[simp] theorem State.regAnswer_host (s : State) (ok : Bool) : (s.regAnswer ok).host = s.host := rfl
@[simp] theorem State.regAnswer_boot (s : State) (ok : Bool) : (s.regAnswer ok).boot = s.boot := rfl
@[simp] theorem State.regAnswer_gk (s : State) (ok : Bool) : (s.regAnswer ok).gk = s.gk := rfl
@[simp] theorem State.regAnswer_od (s : State) (ok : Bool) : (s.regAnswer ok).od = s.od := rfl
@[simp] theorem State.regAnswer_mem (s : State) (ok : Bool) : (s.regAnswer ok).mem = s.mem := rfl
@[simp] theorem State.regAnswer_rg (s : State) (ok : Bool) : (s.regAnswer ok).rg = s.rg := rfl
@[simp] theorem State.regAnswer_qn (s : State) (ok : Bool) : (s.regAnswer ok).qn = s.qn := rfl
@[simp] theorem State.regAnswer_nc (s : State) (ok : Bool) : (s.regAnswer ok).nc = s.nc := rfl
@[simp] theorem State.regAnswer_rs (s : State) (ok : Bool) : (s.regAnswer ok).rs = s.rs := rfl
@[simp] theorem State.regAnswer_ref (s : State) (ok : Bool) : (s.regAnswer ok).ref = s.ref := rfl
@[simp] theorem State.regAnswer_pkg (s : State) (ok : Bool) : (s.regAnswer ok).pkg = s.pkg := rfl
@[simp] theorem State.regAnswer_st (s : State) (ok : Bool) : (s.regAnswer ok).st = s.st := rfl
@[simp] theorem State.regAnswer_free (s : State) (ok : Bool) : (s.regAnswer ok).free = s.free := rfl
@[simp] theorem State.regAnswer_pending (s : State) (ok : Bool) : (s.regAnswer ok).pending = s.pending := rfl

/-! ### `State.putDom` -/

@[simp] theorem State.putDom_clk (s : State) (idx sub : Nat) (b : List Byte) : (s.putDom idx sub b).clk = s.clk := rfl
@[simp] theorem State.putDom_fd (s : State) (idx sub : Nat) (b : List Byte) : (s.putDom idx sub b).fd = s.fd := rfl
@[simp] theorem State.putDom_wc (s : State) (idx sub : Nat) (b : List Byte) : (s.putDom idx sub b).wc = s.wc := rfl
@[simp] theorem State.putDom_cue (s : State) (idx sub : Nat) (b : List Byte) : (s.putDom idx sub b).cue = s.cue := rfl
@[simp] theorem State.putDom_link (s : State) (idx sub : Nat) (b : List Byte) : (s.putDom idx sub b).link = s.link := rfl
@[simp] theorem State.putDom_rep (s : State) (idx sub : Nat) (b : List Byte) : (s.putDom idx sub b).rep = s.rep := rfl
@[simp] theorem State.putDom_can (s : State) (idx sub : Nat) (b : List Byte) : (s.putDom idx sub b).can = s.can := rfl
@[simp] theorem State.putDom_pwr (s : State) (idx sub : Nat) (b : List Byte) : (s.putDom idx sub b).pwr = s.pwr := rfl
@[simp] theorem State.putDom_ic (s : State) (idx sub : Nat) (b : List Byte) : (s.putDom idx sub b).ic = s.ic := rfl
@[simp] theorem State.putDom_isp (s : State) (idx sub : Nat) (b : List Byte) : (s.putDom idx sub b).isp = s.isp := rfl
@[simp] theorem State.putDom_host (s : State) (idx sub : Nat) (b : List Byte) : (s.putDom idx sub b).host = s.host := rfl
@[simp] theorem State.putDom_boot (s : State) (idx sub : Nat) (b : List Byte) : (s.putDom idx sub b).boot = s.boot := rfl
@[simp] theorem State.putDom_gk (s : State) (idx sub : Nat) (b : List Byte) : (s.putDom idx sub b).gk = s.gk := rfl
@[simp] theorem State.putDom_mem (s : State) (idx sub : Nat) (b : List Byte) : (s.putDom idx sub b).mem = s.mem := rfl
@[simp] theorem State.putDom_rg (s : State) (idx sub : Nat) (b : List Byte) : (s.putDom idx sub b).rg = s.rg := rfl
@[simp] theorem State.putDom_qn (s : State) (idx sub : Nat) (b : List Byte) : (s.putDom idx sub b).qn = s.qn := rfl
@[simp] theorem State.putDom_nc (s : State) (idx sub : Nat) (b : List Byte) : (s.putDom idx sub b).nc = s.nc := rfl
@[simp] theorem State.putDom_rs (s : State) (idx sub : Nat) (b : List Byte) : (s.putDom idx sub b).rs = s.rs := rfl
@[simp] theorem State.putDom_ref (s : State) (idx sub : Nat) (b : List Byte) : (s.putDom idx sub b).ref = s.ref := rfl
@[simp] theorem State.putDom_pkg (s : State) (idx sub : Nat) (b : List Byte) : (s.putDom idx sub b).pkg = s.pkg := rfl
@[simp] theorem State.putDom_st (s : State) (idx sub : Nat) (b : List Byte) : (s.putDom idx sub b).st = s.st := rfl
@[simp] theorem State.putDom_out (s : State) (idx sub : Nat) (b : List Byte) : (s.putDom idx sub b).out = s.out := rfl
@[simp] theorem State.putDom_free (s : State) (idx sub : Nat) (b : List Byte) : (s.putDom idx sub b).free = s.free := rfl
@[simp] theorem State.putDom_pending (s : State) (idx sub : Nat) (b : List Byte) : (s.putDom idx sub b).pending = s.pending := rfl

/-! ### What the keyed updates write -/

@[simp] theorem State.clock_updClock (s : State) (n : Nat) (f : WebClock → WebClock) : (s.updClock n f).clock n = f (s.clock n) := by
  simp [State.clock, State.updClock]

theorem State.clock_updClock_other (s : State) {m n : Nat} (f : WebClock → WebClock) (h : m ≠ n) : (s.updClock n f).clock m = s.clock m := by
  simp [State.clock, State.updClock, Tab.at_upd_other _ _ _ h]

@[simp] theorem State.enc_updEnc (s : State) (n : Nat) (f : Encoder → Encoder) : (s.updEnc n f).enc n = f (s.enc n) := by
  simp [State.enc, State.updEnc]

theorem State.enc_updEnc_other (s : State) {m n : Nat} (f : Encoder → Encoder) (h : m ≠ n) : (s.updEnc n f).enc m = s.enc m := by
  simp [State.enc, State.updEnc, Tab.at_upd_other _ _ _ h]

@[simp] theorem State.port_updPort (s : State) (n : Nat) (f : CanPort → CanPort) : (s.updPort n f).port n = f (s.port n) := by
  simp [State.port, State.updPort]

theorem State.port_updPort_other (s : State) {m n : Nat} (f : CanPort → CanPort) (h : m ≠ n) : (s.updPort n f).port m = s.port m := by
  simp [State.port, State.updPort, Tab.at_upd_other _ _ _ h]

@[simp] theorem State.chan_updChan (s : State) (n : Nat) (f : DsChan → DsChan) : (s.updChan n f).chan n = f (s.chan n) := by
  simp [State.chan, State.updChan]

theorem State.chan_updChan_other (s : State) {m n : Nat} (f : DsChan → DsChan) (h : m ≠ n) : (s.updChan n f).chan m = s.chan m := by
  simp [State.chan, State.updChan, Tab.at_upd_other _ _ _ h]

@[simp] theorem State.num_setNum (s : State) (idx sub v d : Nat) : (s.setNum idx sub v).num idx sub d = v := by
  simp [State.num, State.setNum, Cfg.get, Cfg.set]

/-- Two entries have one key only when index and subindex agree. -/
theorem key_inj {i j i' j' : Nat} (hj : j < 256) (hj' : j' < 256) (h : key i j = key i' j') : i = i' ∧ j = j' := by
  unfold key at h
  omega

theorem State.num_setNum_other (s : State) {idx sub idx' sub' : Nat} (v d : Nat) (h : key idx' sub' ≠ key idx sub) :
    (s.setNum idx sub v).num idx' sub' d = s.num idx' sub' d := by
  simp [State.num, State.setNum, Cfg.get, Cfg.set, Tab.at_put_other _ _ _ h]

/-- A fold of steps that leave a projection alone leaves it alone. -/
theorem foldl_keeps {α β : Type} (g : State → β) (f : State → α → State) (h : ∀ s x, g (f s x) = g s) (l : List α) (s : State) :
    g (l.foldl f s) = g s := by
  induction l generalizing s with
  | nil => rfl
  | cons x l ih => rw [List.foldl_cons, ih, h]

/-- Two states agree when every field agrees. -/
theorem State.eq_of_fields {t u : State}
    (h0 : t.clk = u.clk)
    (h1 : t.fd = u.fd)
    (h2 : t.wc = u.wc)
    (h3 : t.cue = u.cue)
    (h4 : t.link = u.link)
    (h5 : t.rep = u.rep)
    (h6 : t.can = u.can)
    (h7 : t.pwr = u.pwr)
    (h8 : t.ic = u.ic)
    (h9 : t.isp = u.isp)
    (h10 : t.host = u.host)
    (h11 : t.boot = u.boot)
    (h12 : t.gk = u.gk)
    (h13 : t.od = u.od)
    (h14 : t.mem = u.mem)
    (h15 : t.rg = u.rg)
    (h16 : t.qn = u.qn)
    (h17 : t.nc = u.nc)
    (h18 : t.rs = u.rs)
    (h19 : t.ref = u.ref)
    (h20 : t.pkg = u.pkg)
    (h21 : t.st = u.st)
    (h22 : t.out = u.out)
    (h23 : t.free = u.free)
    (h24 : t.pending = u.pending) : t = u := by
  cases t
  cases u
  simp_all

/-! ### Folds of steps that leave a field alone -/

@[simp] theorem State.foldl_clk {α : Type} (f : State → α → State) (h : ∀ s x, (f s x).clk = s.clk) (l : List α) (s : State) :
    (l.foldl f s).clk = s.clk := foldl_keeps State.clk f h l s
@[simp] theorem State.foldl_fd {α : Type} (f : State → α → State) (h : ∀ s x, (f s x).fd = s.fd) (l : List α) (s : State) :
    (l.foldl f s).fd = s.fd := foldl_keeps State.fd f h l s
@[simp] theorem State.foldl_wc {α : Type} (f : State → α → State) (h : ∀ s x, (f s x).wc = s.wc) (l : List α) (s : State) :
    (l.foldl f s).wc = s.wc := foldl_keeps State.wc f h l s
@[simp] theorem State.foldl_cue {α : Type} (f : State → α → State) (h : ∀ s x, (f s x).cue = s.cue) (l : List α) (s : State) :
    (l.foldl f s).cue = s.cue := foldl_keeps State.cue f h l s
@[simp] theorem State.foldl_link {α : Type} (f : State → α → State) (h : ∀ s x, (f s x).link = s.link) (l : List α) (s : State) :
    (l.foldl f s).link = s.link := foldl_keeps State.link f h l s
@[simp] theorem State.foldl_rep {α : Type} (f : State → α → State) (h : ∀ s x, (f s x).rep = s.rep) (l : List α) (s : State) :
    (l.foldl f s).rep = s.rep := foldl_keeps State.rep f h l s
@[simp] theorem State.foldl_can {α : Type} (f : State → α → State) (h : ∀ s x, (f s x).can = s.can) (l : List α) (s : State) :
    (l.foldl f s).can = s.can := foldl_keeps State.can f h l s
@[simp] theorem State.foldl_pwr {α : Type} (f : State → α → State) (h : ∀ s x, (f s x).pwr = s.pwr) (l : List α) (s : State) :
    (l.foldl f s).pwr = s.pwr := foldl_keeps State.pwr f h l s
@[simp] theorem State.foldl_ic {α : Type} (f : State → α → State) (h : ∀ s x, (f s x).ic = s.ic) (l : List α) (s : State) :
    (l.foldl f s).ic = s.ic := foldl_keeps State.ic f h l s
@[simp] theorem State.foldl_isp {α : Type} (f : State → α → State) (h : ∀ s x, (f s x).isp = s.isp) (l : List α) (s : State) :
    (l.foldl f s).isp = s.isp := foldl_keeps State.isp f h l s
@[simp] theorem State.foldl_host {α : Type} (f : State → α → State) (h : ∀ s x, (f s x).host = s.host) (l : List α) (s : State) :
    (l.foldl f s).host = s.host := foldl_keeps State.host f h l s
@[simp] theorem State.foldl_boot {α : Type} (f : State → α → State) (h : ∀ s x, (f s x).boot = s.boot) (l : List α) (s : State) :
    (l.foldl f s).boot = s.boot := foldl_keeps State.boot f h l s
@[simp] theorem State.foldl_gk {α : Type} (f : State → α → State) (h : ∀ s x, (f s x).gk = s.gk) (l : List α) (s : State) :
    (l.foldl f s).gk = s.gk := foldl_keeps State.gk f h l s
@[simp] theorem State.foldl_od {α : Type} (f : State → α → State) (h : ∀ s x, (f s x).od = s.od) (l : List α) (s : State) :
    (l.foldl f s).od = s.od := foldl_keeps State.od f h l s
@[simp] theorem State.foldl_mem {α : Type} (f : State → α → State) (h : ∀ s x, (f s x).mem = s.mem) (l : List α) (s : State) :
    (l.foldl f s).mem = s.mem := foldl_keeps State.mem f h l s
@[simp] theorem State.foldl_rg {α : Type} (f : State → α → State) (h : ∀ s x, (f s x).rg = s.rg) (l : List α) (s : State) :
    (l.foldl f s).rg = s.rg := foldl_keeps State.rg f h l s
@[simp] theorem State.foldl_qn {α : Type} (f : State → α → State) (h : ∀ s x, (f s x).qn = s.qn) (l : List α) (s : State) :
    (l.foldl f s).qn = s.qn := foldl_keeps State.qn f h l s
@[simp] theorem State.foldl_nc {α : Type} (f : State → α → State) (h : ∀ s x, (f s x).nc = s.nc) (l : List α) (s : State) :
    (l.foldl f s).nc = s.nc := foldl_keeps State.nc f h l s
@[simp] theorem State.foldl_rs {α : Type} (f : State → α → State) (h : ∀ s x, (f s x).rs = s.rs) (l : List α) (s : State) :
    (l.foldl f s).rs = s.rs := foldl_keeps State.rs f h l s
@[simp] theorem State.foldl_ref {α : Type} (f : State → α → State) (h : ∀ s x, (f s x).ref = s.ref) (l : List α) (s : State) :
    (l.foldl f s).ref = s.ref := foldl_keeps State.ref f h l s
@[simp] theorem State.foldl_pkg {α : Type} (f : State → α → State) (h : ∀ s x, (f s x).pkg = s.pkg) (l : List α) (s : State) :
    (l.foldl f s).pkg = s.pkg := foldl_keeps State.pkg f h l s
@[simp] theorem State.foldl_st {α : Type} (f : State → α → State) (h : ∀ s x, (f s x).st = s.st) (l : List α) (s : State) :
    (l.foldl f s).st = s.st := foldl_keeps State.st f h l s
@[simp] theorem State.foldl_out {α : Type} (f : State → α → State) (h : ∀ s x, (f s x).out = s.out) (l : List α) (s : State) :
    (l.foldl f s).out = s.out := foldl_keeps State.out f h l s
@[simp] theorem State.foldl_free {α : Type} (f : State → α → State) (h : ∀ s x, (f s x).free = s.free) (l : List α) (s : State) :
    (l.foldl f s).free = s.free := foldl_keeps State.free f h l s
@[simp] theorem State.foldl_pending {α : Type} (f : State → α → State) (h : ∀ s x, (f s x).pending = s.pending) (l : List α) (s : State) :
    (l.foldl f s).pending = s.pending := foldl_keeps State.pending f h l s

end Machine
end Sys2Proof
end

