-- ==== Sys2Proof/Laws/Report.lean ====
section
/-!
SUPPORT. Laws of reporting: what counting, raising an event and an occurrence of an EVC source do to the counters and the log (00 R13, R16; 13 R325; 16 R401, R407).
-/
namespace Sys2Proof
namespace Machine

theorem Reporting.bump_same (r : Reporting) (i j : Nat) :
    (r.bump i j).cnt.at 0 (key i j) = satInc (r.cnt.at 0 (key i j)) := by
  unfold Reporting.bump satInc
  dsimp only
  split
  · rfl
  · simp

theorem Reporting.bump_other (r : Reporting) (i j k : Nat) (h : k ≠ key i j) :
    (r.bump i j).cnt.at 0 k = r.cnt.at 0 k := by
  unfold Reporting.bump
  dsimp only
  split
  · rfl
  · simp [Tab.at_put_other _ _ _ h]

theorem Reporting.limited_cnt (r : Reporting) (now scope : Nat) (e : Ev) : (r.limited now scope e).cnt = r.cnt := by
  unfold Reporting.limited
  dsimp only
  split <;> rfl

theorem Reporting.evaluate_cnt (r : Reporting) (env : Env) (t k : Nat) (h : k ∉ ownCounters) :
    (r.evaluate env t).cnt.at 0 k = r.cnt.at 0 k := by
  simp only [ownCounters, List.mem_cons, List.not_mem_nil, or_false, not_or] at h
  unfold Reporting.evaluate
  dsimp only
  split
  · split
    · simpa using Reporting.bump_other _ _ _ _ h.2.2.2.1
    · split
      · rfl
      · rw [Reporting.bump_other _ _ _ _ h.2.2.2.2]
  · rfl

theorem Reporting.occur_cnt (r : Reporting) (env : Env) (id k : Nat) (h : k ∉ ownCounters) :
    (r.occur env id).cnt.at 0 k = r.cnt.at 0 k := by
  have h' := h
  simp only [ownCounters, List.mem_cons, List.not_mem_nil, or_false, not_or] at h
  unfold Reporting.occur
  dsimp only
  split
  · rfl
  · rw [Reporting.evaluate_cnt _ _ _ _ h']
    split
    · rw [Reporting.limited_cnt, Reporting.bump_other _ _ _ _ h.2.2.1]
    · rfl

theorem Reporting.emcyPort_cnt (r : Reporting) (env : Env) (m : Emcy) (p k : Nat) (h : k ≠ key (0x28D0 + p) 7) :
    (r.emcyPort env m p).cnt.at 0 k = r.cnt.at 0 k := by
  unfold Reporting.emcyPort
  split
  · rfl
  · split
    · exact Reporting.bump_other _ _ _ _ h
    · rfl

theorem Reporting.enter_cnt (r : Reporting) (env : Env) (e : Ev) (k : Nat) (h : k ∉ ownCounters) :
    (r.enter env e).cnt.at 0 k = r.cnt.at 0 k := by
  have h' := h
  simp only [ownCounters, List.mem_cons, List.not_mem_nil, or_false, not_or] at h
  unfold Reporting.enter
  dsimp only
  rw [Reporting.occur_cnt _ _ _ _ h']
  split
  · rfl
  · rw [Reporting.emcyPort_cnt _ _ _ 1 _ h.2.1, Reporting.emcyPort_cnt _ _ _ 0 _ h.1]

theorem Reporting.drainN_cnt (env : Env) (n k : Nat) (h : k ∉ ownCounters) :
    ∀ r : Reporting, (Reporting.drainN env n r).cnt.at 0 k = r.cnt.at 0 k := by
  induction n with
  | zero => intro r; rfl
  | succ n ih =>
    intro r
    unfold Reporting.drainN
    split
    · split
      · rfl
      · rw [ih, Reporting.enter_cnt _ _ _ _ h]
    · rfl

theorem Reporting.settle_cnt (r : Reporting) (env : Env) (k : Nat) (h : k ∉ ownCounters) :
    (r.settle env).cnt.at 0 k = r.cnt.at 0 k := by
  unfold Reporting.settle
  generalize r.due.length + 8 = n
  exact Reporting.drainN_cnt env n k h r

/-- A counter of a report is what the report made it, but for the counters that reporting itself moves. -/
theorem State.report_counter (s : State) (f : Reporting → Reporting) (i j : Nat) (h : key i j ∉ ownCounters) :
    (s.report f).counter i j = (f s.rep).cnt.at 0 (key i j) := by
  unfold State.counter State.report
  exact Reporting.settle_cnt (f s.rep) s.env (key i j) h

/-- Counting adds 1 and sticks at FFFF_FFFFh (00 R13). -/
theorem State.count_counter (s : State) (i j : Nat) (h : key i j ∉ ownCounters) :
    (s.count i j).counter i j = satInc (s.counter i j) := by
  rw [State.count, State.report_counter _ _ _ _ h, Reporting.bump_same]
  rfl

/-- Counting leaves every other counter alone, but for those that reporting itself moves. -/
theorem State.count_counter_other (s : State) (i j i' j' : Nat) (h : key i' j' ∉ ownCounters) (hne : key i' j' ≠ key i j) :
    (s.count i j).counter i' j' = s.counter i' j' := by
  rw [State.count, State.report_counter _ _ _ _ h, Reporting.bump_other _ _ _ _ hne]
  rfl

theorem State.raise_counter (s : State) (e : Ev) (i j : Nat) (h : key i j ∉ ownCounters) :
    (s.raise e).counter i j = s.counter i j := by
  rw [State.raise, State.report_counter _ _ _ _ h]
  rfl

theorem State.raiseSec_counter (s : State) (n : Nat) (e : Ev) (i j : Nat) (h : key i j ∉ ownCounters) :
    (s.raiseSec n e).counter i j = s.counter i j := by
  rw [State.raiseSec, State.report_counter _ _ _ _ h, Reporting.limited_cnt]
  rfl

theorem State.raiseImp_counter (s : State) (n m : Nat) (e : Ev) (i j : Nat) (h : key i j ∉ ownCounters) :
    (s.raiseImp n m e).counter i j = s.counter i j := by
  unfold State.raiseImp
  split
  · rfl
  · rw [State.report_counter _ _ _ _ h]
    rfl

theorem State.occur_counter (s : State) (id i j : Nat) (h : key i j ∉ ownCounters) :
    (s.occur id).counter i j = s.counter i j := by
  rw [State.occur, State.report_counter _ _ _ _ h, Reporting.occur_cnt _ _ _ _ h]
  rfl

theorem State.evaluate_counter (s : State) (t i j : Nat) (h : key i j ∉ ownCounters) :
    (s.evaluate t).counter i j = s.counter i j := by
  rw [State.evaluate, State.report_counter _ _ _ _ h, Reporting.evaluate_cnt _ _ _ _ h]
  rfl

/-! ### Counters by key -/

theorem State.tally_of_rep (s t : State) (h : t.rep = s.rep) (k : Nat) : t.tally k = s.tally k := by
  unfold State.tally
  rw [h]

theorem State.counter_eq (s : State) (i j : Nat) : s.counter i j = s.tally (key i j) := rfl

@[simp] theorem State.tally_count (s : State) (i j k : Nat) (h : k ∉ ownCounters) :
    (s.count i j).tally k = if k = key i j then satInc (s.tally k) else s.tally k := by
  have e : (s.count i j).tally k = (s.rep.bump i j).cnt.at 0 k := Reporting.settle_cnt _ _ _ h
  rw [e]
  split
  · rename_i hk
    subst hk
    exact Reporting.bump_same _ _ _
  · rename_i hk
    exact Reporting.bump_other _ _ _ _ hk

@[simp] theorem State.tally_raise (s : State) (e : Ev) (k : Nat) (h : k ∉ ownCounters) :
    (s.raise e).tally k = s.tally k := by
  unfold State.raise State.report State.tally
  dsimp only
  rw [Reporting.settle_cnt _ _ _ h]

@[simp] theorem State.tally_raiseSec (s : State) (n : Nat) (e : Ev) (k : Nat) (h : k ∉ ownCounters) :
    (s.raiseSec n e).tally k = s.tally k := by
  unfold State.raiseSec State.report State.tally
  dsimp only
  rw [Reporting.settle_cnt _ _ _ h, Reporting.limited_cnt]

@[simp] theorem State.tally_raiseImp (s : State) (n m : Nat) (e : Ev) (k : Nat) (h : k ∉ ownCounters) :
    (s.raiseImp n m e).tally k = s.tally k := by
  unfold State.raiseImp
  split
  · rfl
  · unfold State.report State.tally
    dsimp only
    rw [Reporting.settle_cnt _ _ _ h]

@[simp] theorem State.tally_occur (s : State) (id k : Nat) (h : k ∉ ownCounters) :
    (s.occur id).tally k = s.tally k := by
  unfold State.occur State.report State.tally
  dsimp only
  rw [Reporting.settle_cnt _ _ _ h, Reporting.occur_cnt _ _ _ _ h]

@[simp] theorem State.tally_evaluate (s : State) (t k : Nat) (h : k ∉ ownCounters) :
    (s.evaluate t).tally k = s.tally k := by
  unfold State.evaluate State.report State.tally
  dsimp only
  rw [Reporting.settle_cnt _ _ _ h, Reporting.evaluate_cnt _ _ _ _ h]

@[simp] theorem State.tally_fdOccur (s : State) (id k : Nat) (h : k ∉ ownCounters) :
    (s.fdOccur id).tally k = s.tally k := by
  unfold State.fdOccur
  split <;> simp [h]

theorem State.direct_iff (s : State) : s.direct = true ↔ s.fd.up = true ∧ s.fd.autonomy = .none ∧ s.link.up = true := by
  simp [State.direct, and_assoc]

theorem State.direct_of {s t : State} (h1 : t.fd.up = s.fd.up) (h2 : t.fd.autonomy = s.fd.autonomy) (h3 : t.link.up = s.link.up) :
    t.direct = s.direct := by
  simp [State.direct, h1, h2, h3]

/-- While a session is up the field die counts at once. -/
theorem State.fdCount_direct {s : State} (h : s.direct = true) (i j : Nat) : s.fdCount i j = s.count i j := by
  simp [State.fdCount, h]

/-- While a session is up the field die raises an event at once. -/
theorem State.fdRaise_direct {s : State} (h : s.direct = true) (e : Ev) : s.fdRaise e = s.raise e := by
  simp [State.fdRaise, h]

@[simp] theorem State.direct_count (s : State) (i j : Nat) : (s.count i j).direct = s.direct := rfl
@[simp] theorem State.direct_raise (s : State) (e : Ev) : (s.raise e).direct = s.direct := rfl
@[simp] theorem State.direct_occur (s : State) (i : Nat) : (s.occur i).direct = s.direct := rfl
@[simp] theorem State.direct_fdCount (s : State) (i j : Nat) : (s.fdCount i j).direct = s.direct := by
  unfold State.fdCount
  split <;> rfl
@[simp] theorem State.direct_fdRaise (s : State) (e : Ev) : (s.fdRaise e).direct = s.direct := by
  unfold State.fdRaise
  split <;> rfl
@[simp] theorem State.direct_fdOccur (s : State) (i : Nat) : (s.fdOccur i).direct = s.direct := by
  unfold State.fdOccur
  split <;> rfl

end Machine
end Sys2Proof
end

