-- ==== Sys2Proof/Laws/Field.lean ====
section
/-!
SUPPORT. What the operations of the field die leave alone.
-/
set_option linter.unusedTactic false
set_option linter.unnecessarySeqFocus false
set_option linter.unreachableTactic false
set_option linter.unusedSimpArgs false

namespace Sys2Proof
namespace Machine

/-! ### `State.kickChanged` -/

@[simp] theorem State.kickChanged_clk (s : State) (s0 : State) (n : Nat) : (s.kickChanged s0 n).clk = s.clk := by unfold State.kickChanged; (try dsimp only) <;> (repeat' split) <;> (try simp [apply_ite State.clk])
@[simp] theorem State.kickChanged_fd (s : State) (s0 : State) (n : Nat) : (s.kickChanged s0 n).fd = s.fd := by unfold State.kickChanged; (try dsimp only) <;> (repeat' split) <;> (try simp [apply_ite State.fd])
@[simp] theorem State.kickChanged_wc (s : State) (s0 : State) (n : Nat) : (s.kickChanged s0 n).wc = s.wc := by unfold State.kickChanged; (try dsimp only) <;> (repeat' split) <;> (try simp [apply_ite State.wc])
@[simp] theorem State.kickChanged_cue (s : State) (s0 : State) (n : Nat) : (s.kickChanged s0 n).cue = s.cue := by unfold State.kickChanged; (try dsimp only) <;> (repeat' split) <;> (try simp [apply_ite State.cue])
@[simp] theorem State.kickChanged_link (s : State) (s0 : State) (n : Nat) : (s.kickChanged s0 n).link = s.link := by unfold State.kickChanged; (try dsimp only) <;> (repeat' split) <;> (try simp [apply_ite State.link])
@[simp] theorem State.kickChanged_can (s : State) (s0 : State) (n : Nat) : (s.kickChanged s0 n).can = s.can := by unfold State.kickChanged; (try dsimp only) <;> (repeat' split) <;> (try simp [apply_ite State.can])
@[simp] theorem State.kickChanged_pwr (s : State) (s0 : State) (n : Nat) : (s.kickChanged s0 n).pwr = s.pwr := by unfold State.kickChanged; (try dsimp only) <;> (repeat' split) <;> (try simp [apply_ite State.pwr])
@[simp] theorem State.kickChanged_ic (s : State) (s0 : State) (n : Nat) : (s.kickChanged s0 n).ic = s.ic := by unfold State.kickChanged; (try dsimp only) <;> (repeat' split) <;> (try simp [apply_ite State.ic])
@[simp] theorem State.kickChanged_isp (s : State) (s0 : State) (n : Nat) : (s.kickChanged s0 n).isp = s.isp := by unfold State.kickChanged; (try dsimp only) <;> (repeat' split) <;> (try simp [apply_ite State.isp])
@[simp] theorem State.kickChanged_host (s : State) (s0 : State) (n : Nat) : (s.kickChanged s0 n).host = s.host := by unfold State.kickChanged; (try dsimp only) <;> (repeat' split) <;> (try simp [apply_ite State.host])
@[simp] theorem State.kickChanged_boot (s : State) (s0 : State) (n : Nat) : (s.kickChanged s0 n).boot = s.boot := by unfold State.kickChanged; (try dsimp only) <;> (repeat' split) <;> (try simp [apply_ite State.boot])
@[simp] theorem State.kickChanged_gk (s : State) (s0 : State) (n : Nat) : (s.kickChanged s0 n).gk = s.gk := by unfold State.kickChanged; (try dsimp only) <;> (repeat' split) <;> (try simp [apply_ite State.gk])
@[simp] theorem State.kickChanged_od (s : State) (s0 : State) (n : Nat) : (s.kickChanged s0 n).od = s.od := by unfold State.kickChanged; (try dsimp only) <;> (repeat' split) <;> (try simp [apply_ite State.od])
@[simp] theorem State.kickChanged_mem (s : State) (s0 : State) (n : Nat) : (s.kickChanged s0 n).mem = s.mem := by unfold State.kickChanged; (try dsimp only) <;> (repeat' split) <;> (try simp [apply_ite State.mem])
@[simp] theorem State.kickChanged_rg (s : State) (s0 : State) (n : Nat) : (s.kickChanged s0 n).rg = s.rg := by unfold State.kickChanged; (try dsimp only) <;> (repeat' split) <;> (try simp [apply_ite State.rg])
@[simp] theorem State.kickChanged_qn (s : State) (s0 : State) (n : Nat) : (s.kickChanged s0 n).qn = s.qn := by unfold State.kickChanged; (try dsimp only) <;> (repeat' split) <;> (try simp [apply_ite State.qn])
@[simp] theorem State.kickChanged_nc (s : State) (s0 : State) (n : Nat) : (s.kickChanged s0 n).nc = s.nc := by unfold State.kickChanged; (try dsimp only) <;> (repeat' split) <;> (try simp [apply_ite State.nc])
@[simp] theorem State.kickChanged_rs (s : State) (s0 : State) (n : Nat) : (s.kickChanged s0 n).rs = s.rs := by unfold State.kickChanged; (try dsimp only) <;> (repeat' split) <;> (try simp [apply_ite State.rs])
@[simp] theorem State.kickChanged_ref (s : State) (s0 : State) (n : Nat) : (s.kickChanged s0 n).ref = s.ref := by unfold State.kickChanged; (try dsimp only) <;> (repeat' split) <;> (try simp [apply_ite State.ref])
@[simp] theorem State.kickChanged_pkg (s : State) (s0 : State) (n : Nat) : (s.kickChanged s0 n).pkg = s.pkg := by unfold State.kickChanged; (try dsimp only) <;> (repeat' split) <;> (try simp [apply_ite State.pkg])
@[simp] theorem State.kickChanged_st (s : State) (s0 : State) (n : Nat) : (s.kickChanged s0 n).st = s.st := by unfold State.kickChanged; (try dsimp only) <;> (repeat' split) <;> (try simp [apply_ite State.st])
@[simp] theorem State.kickChanged_out (s : State) (s0 : State) (n : Nat) : (s.kickChanged s0 n).out = s.out := by unfold State.kickChanged; (try dsimp only) <;> (repeat' split) <;> (try simp [apply_ite State.out])
@[simp] theorem State.kickChanged_free (s : State) (s0 : State) (n : Nat) : (s.kickChanged s0 n).free = s.free := by unfold State.kickChanged; (try dsimp only) <;> (repeat' split) <;> (try simp [apply_ite State.free])
@[simp] theorem State.kickChanged_pending (s : State) (s0 : State) (n : Nat) : (s.kickChanged s0 n).pending = s.pending := by unfold State.kickChanged; (try dsimp only) <;> (repeat' split) <;> (try simp [apply_ite State.pending])

/-! ### `State.putKick` -/

@[simp] theorem State.putKick_clk (s : State) (n : Nat) (k : Kicker) : (s.putKick n k).clk = s.clk := by unfold State.putKick; (try dsimp only) <;> (repeat' split) <;> (try simp [apply_ite State.clk])
@[simp] theorem State.putKick_wc (s : State) (n : Nat) (k : Kicker) : (s.putKick n k).wc = s.wc := by unfold State.putKick; (try dsimp only) <;> (repeat' split) <;> (try simp [apply_ite State.wc])
@[simp] theorem State.putKick_cue (s : State) (n : Nat) (k : Kicker) : (s.putKick n k).cue = s.cue := by unfold State.putKick; (try dsimp only) <;> (repeat' split) <;> (try simp [apply_ite State.cue])
@[simp] theorem State.putKick_link (s : State) (n : Nat) (k : Kicker) : (s.putKick n k).link = s.link := by unfold State.putKick; (try dsimp only) <;> (repeat' split) <;> (try simp [apply_ite State.link])
@[simp] theorem State.putKick_can (s : State) (n : Nat) (k : Kicker) : (s.putKick n k).can = s.can := by unfold State.putKick; (try dsimp only) <;> (repeat' split) <;> (try simp [apply_ite State.can])
@[simp] theorem State.putKick_pwr (s : State) (n : Nat) (k : Kicker) : (s.putKick n k).pwr = s.pwr := by unfold State.putKick; (try dsimp only) <;> (repeat' split) <;> (try simp [apply_ite State.pwr])
@[simp] theorem State.putKick_ic (s : State) (n : Nat) (k : Kicker) : (s.putKick n k).ic = s.ic := by unfold State.putKick; (try dsimp only) <;> (repeat' split) <;> (try simp [apply_ite State.ic])
@[simp] theorem State.putKick_isp (s : State) (n : Nat) (k : Kicker) : (s.putKick n k).isp = s.isp := by unfold State.putKick; (try dsimp only) <;> (repeat' split) <;> (try simp [apply_ite State.isp])
@[simp] theorem State.putKick_host (s : State) (n : Nat) (k : Kicker) : (s.putKick n k).host = s.host := by unfold State.putKick; (try dsimp only) <;> (repeat' split) <;> (try simp [apply_ite State.host])
@[simp] theorem State.putKick_boot (s : State) (n : Nat) (k : Kicker) : (s.putKick n k).boot = s.boot := by unfold State.putKick; (try dsimp only) <;> (repeat' split) <;> (try simp [apply_ite State.boot])
@[simp] theorem State.putKick_gk (s : State) (n : Nat) (k : Kicker) : (s.putKick n k).gk = s.gk := by unfold State.putKick; (try dsimp only) <;> (repeat' split) <;> (try simp [apply_ite State.gk])
@[simp] theorem State.putKick_od (s : State) (n : Nat) (k : Kicker) : (s.putKick n k).od = s.od := by unfold State.putKick; (try dsimp only) <;> (repeat' split) <;> (try simp [apply_ite State.od])
@[simp] theorem State.putKick_mem (s : State) (n : Nat) (k : Kicker) : (s.putKick n k).mem = s.mem := by unfold State.putKick; (try dsimp only) <;> (repeat' split) <;> (try simp [apply_ite State.mem])
@[simp] theorem State.putKick_rg (s : State) (n : Nat) (k : Kicker) : (s.putKick n k).rg = s.rg := by unfold State.putKick; (try dsimp only) <;> (repeat' split) <;> (try simp [apply_ite State.rg])
@[simp] theorem State.putKick_qn (s : State) (n : Nat) (k : Kicker) : (s.putKick n k).qn = s.qn := by unfold State.putKick; (try dsimp only) <;> (repeat' split) <;> (try simp [apply_ite State.qn])
@[simp] theorem State.putKick_nc (s : State) (n : Nat) (k : Kicker) : (s.putKick n k).nc = s.nc := by unfold State.putKick; (try dsimp only) <;> (repeat' split) <;> (try simp [apply_ite State.nc])
@[simp] theorem State.putKick_rs (s : State) (n : Nat) (k : Kicker) : (s.putKick n k).rs = s.rs := by unfold State.putKick; (try dsimp only) <;> (repeat' split) <;> (try simp [apply_ite State.rs])
@[simp] theorem State.putKick_ref (s : State) (n : Nat) (k : Kicker) : (s.putKick n k).ref = s.ref := by unfold State.putKick; (try dsimp only) <;> (repeat' split) <;> (try simp [apply_ite State.ref])
@[simp] theorem State.putKick_pkg (s : State) (n : Nat) (k : Kicker) : (s.putKick n k).pkg = s.pkg := by unfold State.putKick; (try dsimp only) <;> (repeat' split) <;> (try simp [apply_ite State.pkg])
@[simp] theorem State.putKick_st (s : State) (n : Nat) (k : Kicker) : (s.putKick n k).st = s.st := by unfold State.putKick; (try dsimp only) <;> (repeat' split) <;> (try simp [apply_ite State.st])
@[simp] theorem State.putKick_out (s : State) (n : Nat) (k : Kicker) : (s.putKick n k).out = s.out := by unfold State.putKick; (try dsimp only) <;> (repeat' split) <;> (try simp [apply_ite State.out])
@[simp] theorem State.putKick_free (s : State) (n : Nat) (k : Kicker) : (s.putKick n k).free = s.free := by unfold State.putKick; (try dsimp only) <;> (repeat' split) <;> (try simp [apply_ite State.free])
@[simp] theorem State.putKick_pending (s : State) (n : Nat) (k : Kicker) : (s.putKick n k).pending = s.pending := by unfold State.putKick; (try dsimp only) <;> (repeat' split) <;> (try simp [apply_ite State.pending])

/-! ### `State.fdRaiseImp` -/

@[simp] theorem State.fdRaiseImp_clk (s : State) (scope imp : Nat) (e : Ev) : (s.fdRaiseImp scope imp e).clk = s.clk := by unfold State.fdRaiseImp; (try dsimp only) <;> (repeat' split) <;> (try simp [apply_ite State.clk])
@[simp] theorem State.fdRaiseImp_wc (s : State) (scope imp : Nat) (e : Ev) : (s.fdRaiseImp scope imp e).wc = s.wc := by unfold State.fdRaiseImp; (try dsimp only) <;> (repeat' split) <;> (try simp [apply_ite State.wc])
@[simp] theorem State.fdRaiseImp_cue (s : State) (scope imp : Nat) (e : Ev) : (s.fdRaiseImp scope imp e).cue = s.cue := by unfold State.fdRaiseImp; (try dsimp only) <;> (repeat' split) <;> (try simp [apply_ite State.cue])
@[simp] theorem State.fdRaiseImp_link (s : State) (scope imp : Nat) (e : Ev) : (s.fdRaiseImp scope imp e).link = s.link := by unfold State.fdRaiseImp; (try dsimp only) <;> (repeat' split) <;> (try simp [apply_ite State.link])
@[simp] theorem State.fdRaiseImp_can (s : State) (scope imp : Nat) (e : Ev) : (s.fdRaiseImp scope imp e).can = s.can := by unfold State.fdRaiseImp; (try dsimp only) <;> (repeat' split) <;> (try simp [apply_ite State.can])
@[simp] theorem State.fdRaiseImp_pwr (s : State) (scope imp : Nat) (e : Ev) : (s.fdRaiseImp scope imp e).pwr = s.pwr := by unfold State.fdRaiseImp; (try dsimp only) <;> (repeat' split) <;> (try simp [apply_ite State.pwr])
@[simp] theorem State.fdRaiseImp_ic (s : State) (scope imp : Nat) (e : Ev) : (s.fdRaiseImp scope imp e).ic = s.ic := by unfold State.fdRaiseImp; (try dsimp only) <;> (repeat' split) <;> (try simp [apply_ite State.ic])
@[simp] theorem State.fdRaiseImp_isp (s : State) (scope imp : Nat) (e : Ev) : (s.fdRaiseImp scope imp e).isp = s.isp := by unfold State.fdRaiseImp; (try dsimp only) <;> (repeat' split) <;> (try simp [apply_ite State.isp])
@[simp] theorem State.fdRaiseImp_host (s : State) (scope imp : Nat) (e : Ev) : (s.fdRaiseImp scope imp e).host = s.host := by unfold State.fdRaiseImp; (try dsimp only) <;> (repeat' split) <;> (try simp [apply_ite State.host])
@[simp] theorem State.fdRaiseImp_boot (s : State) (scope imp : Nat) (e : Ev) : (s.fdRaiseImp scope imp e).boot = s.boot := by unfold State.fdRaiseImp; (try dsimp only) <;> (repeat' split) <;> (try simp [apply_ite State.boot])
@[simp] theorem State.fdRaiseImp_gk (s : State) (scope imp : Nat) (e : Ev) : (s.fdRaiseImp scope imp e).gk = s.gk := by unfold State.fdRaiseImp; (try dsimp only) <;> (repeat' split) <;> (try simp [apply_ite State.gk])
@[simp] theorem State.fdRaiseImp_od (s : State) (scope imp : Nat) (e : Ev) : (s.fdRaiseImp scope imp e).od = s.od := by unfold State.fdRaiseImp; (try dsimp only) <;> (repeat' split) <;> (try simp [apply_ite State.od])
@[simp] theorem State.fdRaiseImp_mem (s : State) (scope imp : Nat) (e : Ev) : (s.fdRaiseImp scope imp e).mem = s.mem := by unfold State.fdRaiseImp; (try dsimp only) <;> (repeat' split) <;> (try simp [apply_ite State.mem])
@[simp] theorem State.fdRaiseImp_rg (s : State) (scope imp : Nat) (e : Ev) : (s.fdRaiseImp scope imp e).rg = s.rg := by unfold State.fdRaiseImp; (try dsimp only) <;> (repeat' split) <;> (try simp [apply_ite State.rg])
@[simp] theorem State.fdRaiseImp_qn (s : State) (scope imp : Nat) (e : Ev) : (s.fdRaiseImp scope imp e).qn = s.qn := by unfold State.fdRaiseImp; (try dsimp only) <;> (repeat' split) <;> (try simp [apply_ite State.qn])
@[simp] theorem State.fdRaiseImp_nc (s : State) (scope imp : Nat) (e : Ev) : (s.fdRaiseImp scope imp e).nc = s.nc := by unfold State.fdRaiseImp; (try dsimp only) <;> (repeat' split) <;> (try simp [apply_ite State.nc])
@[simp] theorem State.fdRaiseImp_rs (s : State) (scope imp : Nat) (e : Ev) : (s.fdRaiseImp scope imp e).rs = s.rs := by unfold State.fdRaiseImp; (try dsimp only) <;> (repeat' split) <;> (try simp [apply_ite State.rs])
@[simp] theorem State.fdRaiseImp_ref (s : State) (scope imp : Nat) (e : Ev) : (s.fdRaiseImp scope imp e).ref = s.ref := by unfold State.fdRaiseImp; (try dsimp only) <;> (repeat' split) <;> (try simp [apply_ite State.ref])
@[simp] theorem State.fdRaiseImp_pkg (s : State) (scope imp : Nat) (e : Ev) : (s.fdRaiseImp scope imp e).pkg = s.pkg := by unfold State.fdRaiseImp; (try dsimp only) <;> (repeat' split) <;> (try simp [apply_ite State.pkg])
@[simp] theorem State.fdRaiseImp_st (s : State) (scope imp : Nat) (e : Ev) : (s.fdRaiseImp scope imp e).st = s.st := by unfold State.fdRaiseImp; (try dsimp only) <;> (repeat' split) <;> (try simp [apply_ite State.st])
@[simp] theorem State.fdRaiseImp_out (s : State) (scope imp : Nat) (e : Ev) : (s.fdRaiseImp scope imp e).out = s.out := by unfold State.fdRaiseImp; (try dsimp only) <;> (repeat' split) <;> (try simp [apply_ite State.out])
@[simp] theorem State.fdRaiseImp_free (s : State) (scope imp : Nat) (e : Ev) : (s.fdRaiseImp scope imp e).free = s.free := by unfold State.fdRaiseImp; (try dsimp only) <;> (repeat' split) <;> (try simp [apply_ite State.free])
@[simp] theorem State.fdRaiseImp_pending (s : State) (scope imp : Nat) (e : Ev) : (s.fdRaiseImp scope imp e).pending = s.pending := by unfold State.fdRaiseImp; (try dsimp only) <;> (repeat' split) <;> (try simp [apply_ite State.pending])

/-! ### `State.undelivered` -/

@[simp] theorem State.undelivered_clk (s : State) (n w : Nat) : (s.undelivered n w).clk = s.clk := by unfold State.undelivered; (try dsimp only) <;> (repeat' split) <;> (try simp [apply_ite State.clk])
@[simp] theorem State.undelivered_wc (s : State) (n w : Nat) : (s.undelivered n w).wc = s.wc := by unfold State.undelivered; (try dsimp only) <;> (repeat' split) <;> (try simp [apply_ite State.wc])
@[simp] theorem State.undelivered_cue (s : State) (n w : Nat) : (s.undelivered n w).cue = s.cue := by unfold State.undelivered; (try dsimp only) <;> (repeat' split) <;> (try simp [apply_ite State.cue])
@[simp] theorem State.undelivered_link (s : State) (n w : Nat) : (s.undelivered n w).link = s.link := by unfold State.undelivered; (try dsimp only) <;> (repeat' split) <;> (try simp [apply_ite State.link])
@[simp] theorem State.undelivered_can (s : State) (n w : Nat) : (s.undelivered n w).can = s.can := by unfold State.undelivered; (try dsimp only) <;> (repeat' split) <;> (try simp [apply_ite State.can])
@[simp] theorem State.undelivered_pwr (s : State) (n w : Nat) : (s.undelivered n w).pwr = s.pwr := by unfold State.undelivered; (try dsimp only) <;> (repeat' split) <;> (try simp [apply_ite State.pwr])
@[simp] theorem State.undelivered_ic (s : State) (n w : Nat) : (s.undelivered n w).ic = s.ic := by unfold State.undelivered; (try dsimp only) <;> (repeat' split) <;> (try simp [apply_ite State.ic])
@[simp] theorem State.undelivered_isp (s : State) (n w : Nat) : (s.undelivered n w).isp = s.isp := by unfold State.undelivered; (try dsimp only) <;> (repeat' split) <;> (try simp [apply_ite State.isp])
@[simp] theorem State.undelivered_host (s : State) (n w : Nat) : (s.undelivered n w).host = s.host := by unfold State.undelivered; (try dsimp only) <;> (repeat' split) <;> (try simp [apply_ite State.host])
@[simp] theorem State.undelivered_boot (s : State) (n w : Nat) : (s.undelivered n w).boot = s.boot := by unfold State.undelivered; (try dsimp only) <;> (repeat' split) <;> (try simp [apply_ite State.boot])
@[simp] theorem State.undelivered_gk (s : State) (n w : Nat) : (s.undelivered n w).gk = s.gk := by unfold State.undelivered; (try dsimp only) <;> (repeat' split) <;> (try simp [apply_ite State.gk])
@[simp] theorem State.undelivered_od (s : State) (n w : Nat) : (s.undelivered n w).od = s.od := by unfold State.undelivered; (try dsimp only) <;> (repeat' split) <;> (try simp [apply_ite State.od])
@[simp] theorem State.undelivered_mem (s : State) (n w : Nat) : (s.undelivered n w).mem = s.mem := by unfold State.undelivered; (try dsimp only) <;> (repeat' split) <;> (try simp [apply_ite State.mem])
@[simp] theorem State.undelivered_rg (s : State) (n w : Nat) : (s.undelivered n w).rg = s.rg := by unfold State.undelivered; (try dsimp only) <;> (repeat' split) <;> (try simp [apply_ite State.rg])
@[simp] theorem State.undelivered_qn (s : State) (n w : Nat) : (s.undelivered n w).qn = s.qn := by unfold State.undelivered; (try dsimp only) <;> (repeat' split) <;> (try simp [apply_ite State.qn])
@[simp] theorem State.undelivered_nc (s : State) (n w : Nat) : (s.undelivered n w).nc = s.nc := by unfold State.undelivered; (try dsimp only) <;> (repeat' split) <;> (try simp [apply_ite State.nc])
@[simp] theorem State.undelivered_rs (s : State) (n w : Nat) : (s.undelivered n w).rs = s.rs := by unfold State.undelivered; (try dsimp only) <;> (repeat' split) <;> (try simp [apply_ite State.rs])
@[simp] theorem State.undelivered_ref (s : State) (n w : Nat) : (s.undelivered n w).ref = s.ref := by unfold State.undelivered; (try dsimp only) <;> (repeat' split) <;> (try simp [apply_ite State.ref])
@[simp] theorem State.undelivered_pkg (s : State) (n w : Nat) : (s.undelivered n w).pkg = s.pkg := by unfold State.undelivered; (try dsimp only) <;> (repeat' split) <;> (try simp [apply_ite State.pkg])
@[simp] theorem State.undelivered_st (s : State) (n w : Nat) : (s.undelivered n w).st = s.st := by unfold State.undelivered; (try dsimp only) <;> (repeat' split) <;> (try simp [apply_ite State.st])
@[simp] theorem State.undelivered_out (s : State) (n w : Nat) : (s.undelivered n w).out = s.out := by unfold State.undelivered; (try dsimp only) <;> (repeat' split) <;> (try simp [apply_ite State.out])
@[simp] theorem State.undelivered_free (s : State) (n w : Nat) : (s.undelivered n w).free = s.free := by unfold State.undelivered; (try dsimp only) <;> (repeat' split) <;> (try simp [apply_ite State.free])
@[simp] theorem State.undelivered_pending (s : State) (n w : Nat) : (s.undelivered n w).pending = s.pending := by unfold State.undelivered; (try dsimp only) <;> (repeat' split) <;> (try simp [apply_ite State.pending])

/-! ### `State.cutKick` -/

@[simp] theorem State.cutKick_clk (s : State) (n : Nat) : (s.cutKick n).clk = s.clk := by unfold State.cutKick; dsimp only; rw [foldl_keeps State.clk _ (fun s x => by simp)] <;> simp
@[simp] theorem State.cutKick_wc (s : State) (n : Nat) : (s.cutKick n).wc = s.wc := by unfold State.cutKick; dsimp only; rw [foldl_keeps State.wc _ (fun s x => by simp)] <;> simp
@[simp] theorem State.cutKick_cue (s : State) (n : Nat) : (s.cutKick n).cue = s.cue := by unfold State.cutKick; dsimp only; rw [foldl_keeps State.cue _ (fun s x => by simp)] <;> simp
@[simp] theorem State.cutKick_link (s : State) (n : Nat) : (s.cutKick n).link = s.link := by unfold State.cutKick; dsimp only; rw [foldl_keeps State.link _ (fun s x => by simp)] <;> simp
@[simp] theorem State.cutKick_can (s : State) (n : Nat) : (s.cutKick n).can = s.can := by unfold State.cutKick; dsimp only; rw [foldl_keeps State.can _ (fun s x => by simp)] <;> simp
@[simp] theorem State.cutKick_pwr (s : State) (n : Nat) : (s.cutKick n).pwr = s.pwr := by unfold State.cutKick; dsimp only; rw [foldl_keeps State.pwr _ (fun s x => by simp)] <;> simp
@[simp] theorem State.cutKick_ic (s : State) (n : Nat) : (s.cutKick n).ic = s.ic := by unfold State.cutKick; dsimp only; rw [foldl_keeps State.ic _ (fun s x => by simp)] <;> simp
@[simp] theorem State.cutKick_isp (s : State) (n : Nat) : (s.cutKick n).isp = s.isp := by unfold State.cutKick; dsimp only; rw [foldl_keeps State.isp _ (fun s x => by simp)] <;> simp
@[simp] theorem State.cutKick_host (s : State) (n : Nat) : (s.cutKick n).host = s.host := by unfold State.cutKick; dsimp only; rw [foldl_keeps State.host _ (fun s x => by simp)] <;> simp
@[simp] theorem State.cutKick_boot (s : State) (n : Nat) : (s.cutKick n).boot = s.boot := by unfold State.cutKick; dsimp only; rw [foldl_keeps State.boot _ (fun s x => by simp)] <;> simp
@[simp] theorem State.cutKick_gk (s : State) (n : Nat) : (s.cutKick n).gk = s.gk := by unfold State.cutKick; dsimp only; rw [foldl_keeps State.gk _ (fun s x => by simp)] <;> simp
@[simp] theorem State.cutKick_od (s : State) (n : Nat) : (s.cutKick n).od = s.od := by unfold State.cutKick; dsimp only; rw [foldl_keeps State.od _ (fun s x => by simp)] <;> simp
@[simp] theorem State.cutKick_mem (s : State) (n : Nat) : (s.cutKick n).mem = s.mem := by unfold State.cutKick; dsimp only; rw [foldl_keeps State.mem _ (fun s x => by simp)] <;> simp
@[simp] theorem State.cutKick_rg (s : State) (n : Nat) : (s.cutKick n).rg = s.rg := by unfold State.cutKick; dsimp only; rw [foldl_keeps State.rg _ (fun s x => by simp)] <;> simp
@[simp] theorem State.cutKick_qn (s : State) (n : Nat) : (s.cutKick n).qn = s.qn := by unfold State.cutKick; dsimp only; rw [foldl_keeps State.qn _ (fun s x => by simp)] <;> simp
@[simp] theorem State.cutKick_nc (s : State) (n : Nat) : (s.cutKick n).nc = s.nc := by unfold State.cutKick; dsimp only; rw [foldl_keeps State.nc _ (fun s x => by simp)] <;> simp
@[simp] theorem State.cutKick_rs (s : State) (n : Nat) : (s.cutKick n).rs = s.rs := by unfold State.cutKick; dsimp only; rw [foldl_keeps State.rs _ (fun s x => by simp)] <;> simp
@[simp] theorem State.cutKick_ref (s : State) (n : Nat) : (s.cutKick n).ref = s.ref := by unfold State.cutKick; dsimp only; rw [foldl_keeps State.ref _ (fun s x => by simp)] <;> simp
@[simp] theorem State.cutKick_pkg (s : State) (n : Nat) : (s.cutKick n).pkg = s.pkg := by unfold State.cutKick; dsimp only; rw [foldl_keeps State.pkg _ (fun s x => by simp)] <;> simp
@[simp] theorem State.cutKick_st (s : State) (n : Nat) : (s.cutKick n).st = s.st := by unfold State.cutKick; dsimp only; rw [foldl_keeps State.st _ (fun s x => by simp)] <;> simp
@[simp] theorem State.cutKick_out (s : State) (n : Nat) : (s.cutKick n).out = s.out := by unfold State.cutKick; dsimp only; rw [foldl_keeps State.out _ (fun s x => by simp)] <;> simp
@[simp] theorem State.cutKick_free (s : State) (n : Nat) : (s.cutKick n).free = s.free := by unfold State.cutKick; dsimp only; rw [foldl_keeps State.free _ (fun s x => by simp)] <;> simp
@[simp] theorem State.cutKick_pending (s : State) (n : Nat) : (s.cutKick n).pending = s.pending := by unfold State.cutKick; dsimp only; rw [foldl_keeps State.pending _ (fun s x => by simp)] <;> simp

/-! ### `State.kickEnd` -/

@[simp] theorem State.kickEnd_clk (s : State) (n a b : Nat) : (s.kickEnd n a b).clk = s.clk := by unfold State.kickEnd; (try dsimp only) <;> (repeat' split) <;> (try simp [apply_ite State.clk])
@[simp] theorem State.kickEnd_wc (s : State) (n a b : Nat) : (s.kickEnd n a b).wc = s.wc := by unfold State.kickEnd; (try dsimp only) <;> (repeat' split) <;> (try simp [apply_ite State.wc])
@[simp] theorem State.kickEnd_cue (s : State) (n a b : Nat) : (s.kickEnd n a b).cue = s.cue := by unfold State.kickEnd; (try dsimp only) <;> (repeat' split) <;> (try simp [apply_ite State.cue])
@[simp] theorem State.kickEnd_link (s : State) (n a b : Nat) : (s.kickEnd n a b).link = s.link := by unfold State.kickEnd; (try dsimp only) <;> (repeat' split) <;> (try simp [apply_ite State.link])
@[simp] theorem State.kickEnd_can (s : State) (n a b : Nat) : (s.kickEnd n a b).can = s.can := by unfold State.kickEnd; (try dsimp only) <;> (repeat' split) <;> (try simp [apply_ite State.can])
@[simp] theorem State.kickEnd_pwr (s : State) (n a b : Nat) : (s.kickEnd n a b).pwr = s.pwr := by unfold State.kickEnd; (try dsimp only) <;> (repeat' split) <;> (try simp [apply_ite State.pwr])
@[simp] theorem State.kickEnd_ic (s : State) (n a b : Nat) : (s.kickEnd n a b).ic = s.ic := by unfold State.kickEnd; (try dsimp only) <;> (repeat' split) <;> (try simp [apply_ite State.ic])
@[simp] theorem State.kickEnd_isp (s : State) (n a b : Nat) : (s.kickEnd n a b).isp = s.isp := by unfold State.kickEnd; (try dsimp only) <;> (repeat' split) <;> (try simp [apply_ite State.isp])
@[simp] theorem State.kickEnd_host (s : State) (n a b : Nat) : (s.kickEnd n a b).host = s.host := by unfold State.kickEnd; (try dsimp only) <;> (repeat' split) <;> (try simp [apply_ite State.host])
@[simp] theorem State.kickEnd_boot (s : State) (n a b : Nat) : (s.kickEnd n a b).boot = s.boot := by unfold State.kickEnd; (try dsimp only) <;> (repeat' split) <;> (try simp [apply_ite State.boot])
@[simp] theorem State.kickEnd_gk (s : State) (n a b : Nat) : (s.kickEnd n a b).gk = s.gk := by unfold State.kickEnd; (try dsimp only) <;> (repeat' split) <;> (try simp [apply_ite State.gk])
@[simp] theorem State.kickEnd_od (s : State) (n a b : Nat) : (s.kickEnd n a b).od = s.od := by unfold State.kickEnd; (try dsimp only) <;> (repeat' split) <;> (try simp [apply_ite State.od])
@[simp] theorem State.kickEnd_mem (s : State) (n a b : Nat) : (s.kickEnd n a b).mem = s.mem := by unfold State.kickEnd; (try dsimp only) <;> (repeat' split) <;> (try simp [apply_ite State.mem])
@[simp] theorem State.kickEnd_rg (s : State) (n a b : Nat) : (s.kickEnd n a b).rg = s.rg := by unfold State.kickEnd; (try dsimp only) <;> (repeat' split) <;> (try simp [apply_ite State.rg])
@[simp] theorem State.kickEnd_qn (s : State) (n a b : Nat) : (s.kickEnd n a b).qn = s.qn := by unfold State.kickEnd; (try dsimp only) <;> (repeat' split) <;> (try simp [apply_ite State.qn])
@[simp] theorem State.kickEnd_nc (s : State) (n a b : Nat) : (s.kickEnd n a b).nc = s.nc := by unfold State.kickEnd; (try dsimp only) <;> (repeat' split) <;> (try simp [apply_ite State.nc])
@[simp] theorem State.kickEnd_rs (s : State) (n a b : Nat) : (s.kickEnd n a b).rs = s.rs := by unfold State.kickEnd; (try dsimp only) <;> (repeat' split) <;> (try simp [apply_ite State.rs])
@[simp] theorem State.kickEnd_ref (s : State) (n a b : Nat) : (s.kickEnd n a b).ref = s.ref := by unfold State.kickEnd; (try dsimp only) <;> (repeat' split) <;> (try simp [apply_ite State.ref])
@[simp] theorem State.kickEnd_pkg (s : State) (n a b : Nat) : (s.kickEnd n a b).pkg = s.pkg := by unfold State.kickEnd; (try dsimp only) <;> (repeat' split) <;> (try simp [apply_ite State.pkg])
@[simp] theorem State.kickEnd_st (s : State) (n a b : Nat) : (s.kickEnd n a b).st = s.st := by unfold State.kickEnd; (try dsimp only) <;> (repeat' split) <;> (try simp [apply_ite State.st])
@[simp] theorem State.kickEnd_out (s : State) (n a b : Nat) : (s.kickEnd n a b).out = s.out := by unfold State.kickEnd; (try dsimp only) <;> (repeat' split) <;> (try simp [apply_ite State.out])
@[simp] theorem State.kickEnd_free (s : State) (n a b : Nat) : (s.kickEnd n a b).free = s.free := by unfold State.kickEnd; (try dsimp only) <;> (repeat' split) <;> (try simp [apply_ite State.free])
@[simp] theorem State.kickEnd_pending (s : State) (n a b : Nat) : (s.kickEnd n a b).pending = s.pending := by unfold State.kickEnd; (try dsimp only) <;> (repeat' split) <;> (try simp [apply_ite State.pending])

/-! ### `State.startKick` -/

@[simp] theorem State.startKick_clk (s : State) (n w x y : Nat) : (s.startKick n w x y).clk = s.clk := by unfold State.startKick; (try dsimp only) <;> (repeat' split) <;> (try simp [apply_ite State.clk])
@[simp] theorem State.startKick_wc (s : State) (n w x y : Nat) : (s.startKick n w x y).wc = s.wc := by unfold State.startKick; (try dsimp only) <;> (repeat' split) <;> (try simp [apply_ite State.wc])
@[simp] theorem State.startKick_cue (s : State) (n w x y : Nat) : (s.startKick n w x y).cue = s.cue := by unfold State.startKick; (try dsimp only) <;> (repeat' split) <;> (try simp [apply_ite State.cue])
@[simp] theorem State.startKick_link (s : State) (n w x y : Nat) : (s.startKick n w x y).link = s.link := by unfold State.startKick; (try dsimp only) <;> (repeat' split) <;> (try simp [apply_ite State.link])
@[simp] theorem State.startKick_can (s : State) (n w x y : Nat) : (s.startKick n w x y).can = s.can := by unfold State.startKick; (try dsimp only) <;> (repeat' split) <;> (try simp [apply_ite State.can])
@[simp] theorem State.startKick_pwr (s : State) (n w x y : Nat) : (s.startKick n w x y).pwr = s.pwr := by unfold State.startKick; (try dsimp only) <;> (repeat' split) <;> (try simp [apply_ite State.pwr])
@[simp] theorem State.startKick_ic (s : State) (n w x y : Nat) : (s.startKick n w x y).ic = s.ic := by unfold State.startKick; (try dsimp only) <;> (repeat' split) <;> (try simp [apply_ite State.ic])
@[simp] theorem State.startKick_isp (s : State) (n w x y : Nat) : (s.startKick n w x y).isp = s.isp := by unfold State.startKick; (try dsimp only) <;> (repeat' split) <;> (try simp [apply_ite State.isp])
@[simp] theorem State.startKick_host (s : State) (n w x y : Nat) : (s.startKick n w x y).host = s.host := by unfold State.startKick; (try dsimp only) <;> (repeat' split) <;> (try simp [apply_ite State.host])
@[simp] theorem State.startKick_boot (s : State) (n w x y : Nat) : (s.startKick n w x y).boot = s.boot := by unfold State.startKick; (try dsimp only) <;> (repeat' split) <;> (try simp [apply_ite State.boot])
@[simp] theorem State.startKick_gk (s : State) (n w x y : Nat) : (s.startKick n w x y).gk = s.gk := by unfold State.startKick; (try dsimp only) <;> (repeat' split) <;> (try simp [apply_ite State.gk])
@[simp] theorem State.startKick_od (s : State) (n w x y : Nat) : (s.startKick n w x y).od = s.od := by unfold State.startKick; (try dsimp only) <;> (repeat' split) <;> (try simp [apply_ite State.od])
@[simp] theorem State.startKick_mem (s : State) (n w x y : Nat) : (s.startKick n w x y).mem = s.mem := by unfold State.startKick; (try dsimp only) <;> (repeat' split) <;> (try simp [apply_ite State.mem])
@[simp] theorem State.startKick_rg (s : State) (n w x y : Nat) : (s.startKick n w x y).rg = s.rg := by unfold State.startKick; (try dsimp only) <;> (repeat' split) <;> (try simp [apply_ite State.rg])
@[simp] theorem State.startKick_qn (s : State) (n w x y : Nat) : (s.startKick n w x y).qn = s.qn := by unfold State.startKick; (try dsimp only) <;> (repeat' split) <;> (try simp [apply_ite State.qn])
@[simp] theorem State.startKick_nc (s : State) (n w x y : Nat) : (s.startKick n w x y).nc = s.nc := by unfold State.startKick; (try dsimp only) <;> (repeat' split) <;> (try simp [apply_ite State.nc])
@[simp] theorem State.startKick_rs (s : State) (n w x y : Nat) : (s.startKick n w x y).rs = s.rs := by unfold State.startKick; (try dsimp only) <;> (repeat' split) <;> (try simp [apply_ite State.rs])
@[simp] theorem State.startKick_ref (s : State) (n w x y : Nat) : (s.startKick n w x y).ref = s.ref := by unfold State.startKick; (try dsimp only) <;> (repeat' split) <;> (try simp [apply_ite State.ref])
@[simp] theorem State.startKick_pkg (s : State) (n w x y : Nat) : (s.startKick n w x y).pkg = s.pkg := by unfold State.startKick; (try dsimp only) <;> (repeat' split) <;> (try simp [apply_ite State.pkg])
@[simp] theorem State.startKick_st (s : State) (n w x y : Nat) : (s.startKick n w x y).st = s.st := by unfold State.startKick; (try dsimp only) <;> (repeat' split) <;> (try simp [apply_ite State.st])
@[simp] theorem State.startKick_out (s : State) (n w x y : Nat) : (s.startKick n w x y).out = s.out := by unfold State.startKick; (try dsimp only) <;> (repeat' split) <;> (try simp [apply_ite State.out])
@[simp] theorem State.startKick_free (s : State) (n w x y : Nat) : (s.startKick n w x y).free = s.free := by unfold State.startKick; (try dsimp only) <;> (repeat' split) <;> (try simp [apply_ite State.free])
@[simp] theorem State.startKick_pending (s : State) (n w x y : Nat) : (s.startKick n w x y).pending = s.pending := by unfold State.startKick; (try dsimp only) <;> (repeat' split) <;> (try simp [apply_ite State.pending])

/-! ### `State.clearUndelivered` -/

@[simp] theorem State.clearUndelivered_clk (s : State) (n : Nat) : (s.clearUndelivered n).clk = s.clk := by unfold State.clearUndelivered; (try dsimp only) <;> (repeat' split) <;> (try simp [apply_ite State.clk])
@[simp] theorem State.clearUndelivered_wc (s : State) (n : Nat) : (s.clearUndelivered n).wc = s.wc := by unfold State.clearUndelivered; (try dsimp only) <;> (repeat' split) <;> (try simp [apply_ite State.wc])
@[simp] theorem State.clearUndelivered_cue (s : State) (n : Nat) : (s.clearUndelivered n).cue = s.cue := by unfold State.clearUndelivered; (try dsimp only) <;> (repeat' split) <;> (try simp [apply_ite State.cue])
@[simp] theorem State.clearUndelivered_link (s : State) (n : Nat) : (s.clearUndelivered n).link = s.link := by unfold State.clearUndelivered; (try dsimp only) <;> (repeat' split) <;> (try simp [apply_ite State.link])
@[simp] theorem State.clearUndelivered_rep (s : State) (n : Nat) : (s.clearUndelivered n).rep = s.rep := by unfold State.clearUndelivered; (try dsimp only) <;> (repeat' split) <;> (try simp [apply_ite State.rep])
@[simp] theorem State.clearUndelivered_can (s : State) (n : Nat) : (s.clearUndelivered n).can = s.can := by unfold State.clearUndelivered; (try dsimp only) <;> (repeat' split) <;> (try simp [apply_ite State.can])
@[simp] theorem State.clearUndelivered_pwr (s : State) (n : Nat) : (s.clearUndelivered n).pwr = s.pwr := by unfold State.clearUndelivered; (try dsimp only) <;> (repeat' split) <;> (try simp [apply_ite State.pwr])
@[simp] theorem State.clearUndelivered_ic (s : State) (n : Nat) : (s.clearUndelivered n).ic = s.ic := by unfold State.clearUndelivered; (try dsimp only) <;> (repeat' split) <;> (try simp [apply_ite State.ic])
@[simp] theorem State.clearUndelivered_isp (s : State) (n : Nat) : (s.clearUndelivered n).isp = s.isp := by unfold State.clearUndelivered; (try dsimp only) <;> (repeat' split) <;> (try simp [apply_ite State.isp])
@[simp] theorem State.clearUndelivered_host (s : State) (n : Nat) : (s.clearUndelivered n).host = s.host := by unfold State.clearUndelivered; (try dsimp only) <;> (repeat' split) <;> (try simp [apply_ite State.host])
@[simp] theorem State.clearUndelivered_boot (s : State) (n : Nat) : (s.clearUndelivered n).boot = s.boot := by unfold State.clearUndelivered; (try dsimp only) <;> (repeat' split) <;> (try simp [apply_ite State.boot])
@[simp] theorem State.clearUndelivered_gk (s : State) (n : Nat) : (s.clearUndelivered n).gk = s.gk := by unfold State.clearUndelivered; (try dsimp only) <;> (repeat' split) <;> (try simp [apply_ite State.gk])
@[simp] theorem State.clearUndelivered_od (s : State) (n : Nat) : (s.clearUndelivered n).od = s.od := by unfold State.clearUndelivered; (try dsimp only) <;> (repeat' split) <;> (try simp [apply_ite State.od])
@[simp] theorem State.clearUndelivered_mem (s : State) (n : Nat) : (s.clearUndelivered n).mem = s.mem := by unfold State.clearUndelivered; (try dsimp only) <;> (repeat' split) <;> (try simp [apply_ite State.mem])
@[simp] theorem State.clearUndelivered_rg (s : State) (n : Nat) : (s.clearUndelivered n).rg = s.rg := by unfold State.clearUndelivered; (try dsimp only) <;> (repeat' split) <;> (try simp [apply_ite State.rg])
@[simp] theorem State.clearUndelivered_qn (s : State) (n : Nat) : (s.clearUndelivered n).qn = s.qn := by unfold State.clearUndelivered; (try dsimp only) <;> (repeat' split) <;> (try simp [apply_ite State.qn])
@[simp] theorem State.clearUndelivered_nc (s : State) (n : Nat) : (s.clearUndelivered n).nc = s.nc := by unfold State.clearUndelivered; (try dsimp only) <;> (repeat' split) <;> (try simp [apply_ite State.nc])
@[simp] theorem State.clearUndelivered_rs (s : State) (n : Nat) : (s.clearUndelivered n).rs = s.rs := by unfold State.clearUndelivered; (try dsimp only) <;> (repeat' split) <;> (try simp [apply_ite State.rs])
@[simp] theorem State.clearUndelivered_ref (s : State) (n : Nat) : (s.clearUndelivered n).ref = s.ref := by unfold State.clearUndelivered; (try dsimp only) <;> (repeat' split) <;> (try simp [apply_ite State.ref])
@[simp] theorem State.clearUndelivered_pkg (s : State) (n : Nat) : (s.clearUndelivered n).pkg = s.pkg := by unfold State.clearUndelivered; (try dsimp only) <;> (repeat' split) <;> (try simp [apply_ite State.pkg])
@[simp] theorem State.clearUndelivered_st (s : State) (n : Nat) : (s.clearUndelivered n).st = s.st := by unfold State.clearUndelivered; (try dsimp only) <;> (repeat' split) <;> (try simp [apply_ite State.st])
@[simp] theorem State.clearUndelivered_out (s : State) (n : Nat) : (s.clearUndelivered n).out = s.out := by unfold State.clearUndelivered; (try dsimp only) <;> (repeat' split) <;> (try simp [apply_ite State.out])
@[simp] theorem State.clearUndelivered_free (s : State) (n : Nat) : (s.clearUndelivered n).free = s.free := by unfold State.clearUndelivered; (try dsimp only) <;> (repeat' split) <;> (try simp [apply_ite State.free])
@[simp] theorem State.clearUndelivered_pending (s : State) (n : Nat) : (s.clearUndelivered n).pending = s.pending := by unfold State.clearUndelivered; (try dsimp only) <;> (repeat' split) <;> (try simp [apply_ite State.pending])

/-! ### `State.wcNote` -/

@[simp] theorem State.wcNote_clk (s : State) (n : Nat) (x : WcNote) : (s.wcNote n x).clk = s.clk := by unfold State.wcNote; cases x <;> (repeat' split) <;> simp
@[simp] theorem State.wcNote_wc (s : State) (n : Nat) (x : WcNote) : (s.wcNote n x).wc = s.wc := by unfold State.wcNote; cases x <;> (repeat' split) <;> simp
@[simp] theorem State.wcNote_cue (s : State) (n : Nat) (x : WcNote) : (s.wcNote n x).cue = s.cue := by unfold State.wcNote; cases x <;> (repeat' split) <;> simp
@[simp] theorem State.wcNote_link (s : State) (n : Nat) (x : WcNote) : (s.wcNote n x).link = s.link := by unfold State.wcNote; cases x <;> (repeat' split) <;> simp
@[simp] theorem State.wcNote_can (s : State) (n : Nat) (x : WcNote) : (s.wcNote n x).can = s.can := by unfold State.wcNote; cases x <;> (repeat' split) <;> simp
@[simp] theorem State.wcNote_pwr (s : State) (n : Nat) (x : WcNote) : (s.wcNote n x).pwr = s.pwr := by unfold State.wcNote; cases x <;> (repeat' split) <;> simp
@[simp] theorem State.wcNote_ic (s : State) (n : Nat) (x : WcNote) : (s.wcNote n x).ic = s.ic := by unfold State.wcNote; cases x <;> (repeat' split) <;> simp
@[simp] theorem State.wcNote_isp (s : State) (n : Nat) (x : WcNote) : (s.wcNote n x).isp = s.isp := by unfold State.wcNote; cases x <;> (repeat' split) <;> simp
@[simp] theorem State.wcNote_host (s : State) (n : Nat) (x : WcNote) : (s.wcNote n x).host = s.host := by unfold State.wcNote; cases x <;> (repeat' split) <;> simp
@[simp] theorem State.wcNote_boot (s : State) (n : Nat) (x : WcNote) : (s.wcNote n x).boot = s.boot := by unfold State.wcNote; cases x <;> (repeat' split) <;> simp
@[simp] theorem State.wcNote_gk (s : State) (n : Nat) (x : WcNote) : (s.wcNote n x).gk = s.gk := by unfold State.wcNote; cases x <;> (repeat' split) <;> simp
@[simp] theorem State.wcNote_od (s : State) (n : Nat) (x : WcNote) : (s.wcNote n x).od = s.od := by unfold State.wcNote; cases x <;> (repeat' split) <;> simp
@[simp] theorem State.wcNote_mem (s : State) (n : Nat) (x : WcNote) : (s.wcNote n x).mem = s.mem := by unfold State.wcNote; cases x <;> (repeat' split) <;> simp
@[simp] theorem State.wcNote_rg (s : State) (n : Nat) (x : WcNote) : (s.wcNote n x).rg = s.rg := by unfold State.wcNote; cases x <;> (repeat' split) <;> simp
@[simp] theorem State.wcNote_qn (s : State) (n : Nat) (x : WcNote) : (s.wcNote n x).qn = s.qn := by unfold State.wcNote; cases x <;> (repeat' split) <;> simp
@[simp] theorem State.wcNote_nc (s : State) (n : Nat) (x : WcNote) : (s.wcNote n x).nc = s.nc := by unfold State.wcNote; cases x <;> (repeat' split) <;> simp
@[simp] theorem State.wcNote_rs (s : State) (n : Nat) (x : WcNote) : (s.wcNote n x).rs = s.rs := by unfold State.wcNote; cases x <;> (repeat' split) <;> simp
@[simp] theorem State.wcNote_ref (s : State) (n : Nat) (x : WcNote) : (s.wcNote n x).ref = s.ref := by unfold State.wcNote; cases x <;> (repeat' split) <;> simp
@[simp] theorem State.wcNote_pkg (s : State) (n : Nat) (x : WcNote) : (s.wcNote n x).pkg = s.pkg := by unfold State.wcNote; cases x <;> (repeat' split) <;> simp
@[simp] theorem State.wcNote_st (s : State) (n : Nat) (x : WcNote) : (s.wcNote n x).st = s.st := by unfold State.wcNote; cases x <;> (repeat' split) <;> simp
@[simp] theorem State.wcNote_out (s : State) (n : Nat) (x : WcNote) : (s.wcNote n x).out = s.out := by unfold State.wcNote; cases x <;> (repeat' split) <;> simp
@[simp] theorem State.wcNote_free (s : State) (n : Nat) (x : WcNote) : (s.wcNote n x).free = s.free := by unfold State.wcNote; cases x <;> (repeat' split) <;> simp
@[simp] theorem State.wcNote_pending (s : State) (n : Nat) (x : WcNote) : (s.wcNote n x).pending = s.pending := by unfold State.wcNote; cases x <;> (repeat' split) <;> simp

/-! ### `State.wcApply` -/

@[simp] theorem State.wcApply_clk (s : State) (n : Nat) (r : WebClock × List WcNote) : (s.wcApply n r).clk = s.clk := by unfold State.wcApply; rw [foldl_keeps State.clk _ (fun s x => by simp)]
@[simp] theorem State.wcApply_cue (s : State) (n : Nat) (r : WebClock × List WcNote) : (s.wcApply n r).cue = s.cue := by unfold State.wcApply; rw [foldl_keeps State.cue _ (fun s x => by simp)]
@[simp] theorem State.wcApply_link (s : State) (n : Nat) (r : WebClock × List WcNote) : (s.wcApply n r).link = s.link := by unfold State.wcApply; rw [foldl_keeps State.link _ (fun s x => by simp)]
@[simp] theorem State.wcApply_can (s : State) (n : Nat) (r : WebClock × List WcNote) : (s.wcApply n r).can = s.can := by unfold State.wcApply; rw [foldl_keeps State.can _ (fun s x => by simp)]
@[simp] theorem State.wcApply_pwr (s : State) (n : Nat) (r : WebClock × List WcNote) : (s.wcApply n r).pwr = s.pwr := by unfold State.wcApply; rw [foldl_keeps State.pwr _ (fun s x => by simp)]
@[simp] theorem State.wcApply_ic (s : State) (n : Nat) (r : WebClock × List WcNote) : (s.wcApply n r).ic = s.ic := by unfold State.wcApply; rw [foldl_keeps State.ic _ (fun s x => by simp)]
@[simp] theorem State.wcApply_isp (s : State) (n : Nat) (r : WebClock × List WcNote) : (s.wcApply n r).isp = s.isp := by unfold State.wcApply; rw [foldl_keeps State.isp _ (fun s x => by simp)]
@[simp] theorem State.wcApply_host (s : State) (n : Nat) (r : WebClock × List WcNote) : (s.wcApply n r).host = s.host := by unfold State.wcApply; rw [foldl_keeps State.host _ (fun s x => by simp)]
@[simp] theorem State.wcApply_boot (s : State) (n : Nat) (r : WebClock × List WcNote) : (s.wcApply n r).boot = s.boot := by unfold State.wcApply; rw [foldl_keeps State.boot _ (fun s x => by simp)]
@[simp] theorem State.wcApply_gk (s : State) (n : Nat) (r : WebClock × List WcNote) : (s.wcApply n r).gk = s.gk := by unfold State.wcApply; rw [foldl_keeps State.gk _ (fun s x => by simp)]
@[simp] theorem State.wcApply_od (s : State) (n : Nat) (r : WebClock × List WcNote) : (s.wcApply n r).od = s.od := by unfold State.wcApply; rw [foldl_keeps State.od _ (fun s x => by simp)]
@[simp] theorem State.wcApply_mem (s : State) (n : Nat) (r : WebClock × List WcNote) : (s.wcApply n r).mem = s.mem := by unfold State.wcApply; rw [foldl_keeps State.mem _ (fun s x => by simp)]
@[simp] theorem State.wcApply_rg (s : State) (n : Nat) (r : WebClock × List WcNote) : (s.wcApply n r).rg = s.rg := by unfold State.wcApply; rw [foldl_keeps State.rg _ (fun s x => by simp)]
@[simp] theorem State.wcApply_qn (s : State) (n : Nat) (r : WebClock × List WcNote) : (s.wcApply n r).qn = s.qn := by unfold State.wcApply; rw [foldl_keeps State.qn _ (fun s x => by simp)]
@[simp] theorem State.wcApply_nc (s : State) (n : Nat) (r : WebClock × List WcNote) : (s.wcApply n r).nc = s.nc := by unfold State.wcApply; rw [foldl_keeps State.nc _ (fun s x => by simp)]
@[simp] theorem State.wcApply_rs (s : State) (n : Nat) (r : WebClock × List WcNote) : (s.wcApply n r).rs = s.rs := by unfold State.wcApply; rw [foldl_keeps State.rs _ (fun s x => by simp)]
@[simp] theorem State.wcApply_ref (s : State) (n : Nat) (r : WebClock × List WcNote) : (s.wcApply n r).ref = s.ref := by unfold State.wcApply; rw [foldl_keeps State.ref _ (fun s x => by simp)]
@[simp] theorem State.wcApply_pkg (s : State) (n : Nat) (r : WebClock × List WcNote) : (s.wcApply n r).pkg = s.pkg := by unfold State.wcApply; rw [foldl_keeps State.pkg _ (fun s x => by simp)]
@[simp] theorem State.wcApply_st (s : State) (n : Nat) (r : WebClock × List WcNote) : (s.wcApply n r).st = s.st := by unfold State.wcApply; rw [foldl_keeps State.st _ (fun s x => by simp)]
@[simp] theorem State.wcApply_out (s : State) (n : Nat) (r : WebClock × List WcNote) : (s.wcApply n r).out = s.out := by unfold State.wcApply; rw [foldl_keeps State.out _ (fun s x => by simp)]
@[simp] theorem State.wcApply_free (s : State) (n : Nat) (r : WebClock × List WcNote) : (s.wcApply n r).free = s.free := by unfold State.wcApply; rw [foldl_keeps State.free _ (fun s x => by simp)]
@[simp] theorem State.wcApply_pending (s : State) (n : Nat) (r : WebClock × List WcNote) : (s.wcApply n r).pending = s.pending := by unfold State.wcApply; rw [foldl_keeps State.pending _ (fun s x => by simp)]

/-! ### `State.rearmCues` -/

@[simp] theorem State.rearmCues_clk (s : State) (n : Nat) : (s.rearmCues n).clk = s.clk := by unfold State.rearmCues; (try dsimp only) <;> (repeat' split) <;> (try simp [apply_ite State.clk])
@[simp] theorem State.rearmCues_fd (s : State) (n : Nat) : (s.rearmCues n).fd = s.fd := by unfold State.rearmCues; (try dsimp only) <;> (repeat' split) <;> (try simp [apply_ite State.fd])
@[simp] theorem State.rearmCues_wc (s : State) (n : Nat) : (s.rearmCues n).wc = s.wc := by unfold State.rearmCues; (try dsimp only) <;> (repeat' split) <;> (try simp [apply_ite State.wc])
@[simp] theorem State.rearmCues_link (s : State) (n : Nat) : (s.rearmCues n).link = s.link := by unfold State.rearmCues; (try dsimp only) <;> (repeat' split) <;> (try simp [apply_ite State.link])
@[simp] theorem State.rearmCues_rep (s : State) (n : Nat) : (s.rearmCues n).rep = s.rep := by unfold State.rearmCues; (try dsimp only) <;> (repeat' split) <;> (try simp [apply_ite State.rep])
@[simp] theorem State.rearmCues_can (s : State) (n : Nat) : (s.rearmCues n).can = s.can := by unfold State.rearmCues; (try dsimp only) <;> (repeat' split) <;> (try simp [apply_ite State.can])
@[simp] theorem State.rearmCues_pwr (s : State) (n : Nat) : (s.rearmCues n).pwr = s.pwr := by unfold State.rearmCues; (try dsimp only) <;> (repeat' split) <;> (try simp [apply_ite State.pwr])
@[simp] theorem State.rearmCues_ic (s : State) (n : Nat) : (s.rearmCues n).ic = s.ic := by unfold State.rearmCues; (try dsimp only) <;> (repeat' split) <;> (try simp [apply_ite State.ic])
@[simp] theorem State.rearmCues_isp (s : State) (n : Nat) : (s.rearmCues n).isp = s.isp := by unfold State.rearmCues; (try dsimp only) <;> (repeat' split) <;> (try simp [apply_ite State.isp])
@[simp] theorem State.rearmCues_host (s : State) (n : Nat) : (s.rearmCues n).host = s.host := by unfold State.rearmCues; (try dsimp only) <;> (repeat' split) <;> (try simp [apply_ite State.host])
@[simp] theorem State.rearmCues_boot (s : State) (n : Nat) : (s.rearmCues n).boot = s.boot := by unfold State.rearmCues; (try dsimp only) <;> (repeat' split) <;> (try simp [apply_ite State.boot])
@[simp] theorem State.rearmCues_gk (s : State) (n : Nat) : (s.rearmCues n).gk = s.gk := by unfold State.rearmCues; (try dsimp only) <;> (repeat' split) <;> (try simp [apply_ite State.gk])
@[simp] theorem State.rearmCues_od (s : State) (n : Nat) : (s.rearmCues n).od = s.od := by unfold State.rearmCues; (try dsimp only) <;> (repeat' split) <;> (try simp [apply_ite State.od])
@[simp] theorem State.rearmCues_mem (s : State) (n : Nat) : (s.rearmCues n).mem = s.mem := by unfold State.rearmCues; (try dsimp only) <;> (repeat' split) <;> (try simp [apply_ite State.mem])
@[simp] theorem State.rearmCues_rg (s : State) (n : Nat) : (s.rearmCues n).rg = s.rg := by unfold State.rearmCues; (try dsimp only) <;> (repeat' split) <;> (try simp [apply_ite State.rg])
@[simp] theorem State.rearmCues_qn (s : State) (n : Nat) : (s.rearmCues n).qn = s.qn := by unfold State.rearmCues; (try dsimp only) <;> (repeat' split) <;> (try simp [apply_ite State.qn])
@[simp] theorem State.rearmCues_nc (s : State) (n : Nat) : (s.rearmCues n).nc = s.nc := by unfold State.rearmCues; (try dsimp only) <;> (repeat' split) <;> (try simp [apply_ite State.nc])
@[simp] theorem State.rearmCues_rs (s : State) (n : Nat) : (s.rearmCues n).rs = s.rs := by unfold State.rearmCues; (try dsimp only) <;> (repeat' split) <;> (try simp [apply_ite State.rs])
@[simp] theorem State.rearmCues_ref (s : State) (n : Nat) : (s.rearmCues n).ref = s.ref := by unfold State.rearmCues; (try dsimp only) <;> (repeat' split) <;> (try simp [apply_ite State.ref])
@[simp] theorem State.rearmCues_pkg (s : State) (n : Nat) : (s.rearmCues n).pkg = s.pkg := by unfold State.rearmCues; (try dsimp only) <;> (repeat' split) <;> (try simp [apply_ite State.pkg])
@[simp] theorem State.rearmCues_st (s : State) (n : Nat) : (s.rearmCues n).st = s.st := by unfold State.rearmCues; (try dsimp only) <;> (repeat' split) <;> (try simp [apply_ite State.st])
@[simp] theorem State.rearmCues_out (s : State) (n : Nat) : (s.rearmCues n).out = s.out := by unfold State.rearmCues; (try dsimp only) <;> (repeat' split) <;> (try simp [apply_ite State.out])
@[simp] theorem State.rearmCues_free (s : State) (n : Nat) : (s.rearmCues n).free = s.free := by unfold State.rearmCues; (try dsimp only) <;> (repeat' split) <;> (try simp [apply_ite State.free])
@[simp] theorem State.rearmCues_pending (s : State) (n : Nat) : (s.rearmCues n).pending = s.pending := by unfold State.rearmCues; (try dsimp only) <;> (repeat' split) <;> (try simp [apply_ite State.pending])

/-! ### `State.putTrg` -/

@[simp] theorem State.putTrg_clk (s : State) (k : Nat) (t : Trigger) : (s.putTrg k t).clk = s.clk := by unfold State.putTrg; (try dsimp only) <;> (repeat' split) <;> (try simp [apply_ite State.clk])
@[simp] theorem State.putTrg_wc (s : State) (k : Nat) (t : Trigger) : (s.putTrg k t).wc = s.wc := by unfold State.putTrg; (try dsimp only) <;> (repeat' split) <;> (try simp [apply_ite State.wc])
@[simp] theorem State.putTrg_cue (s : State) (k : Nat) (t : Trigger) : (s.putTrg k t).cue = s.cue := by unfold State.putTrg; (try dsimp only) <;> (repeat' split) <;> (try simp [apply_ite State.cue])
@[simp] theorem State.putTrg_link (s : State) (k : Nat) (t : Trigger) : (s.putTrg k t).link = s.link := by unfold State.putTrg; (try dsimp only) <;> (repeat' split) <;> (try simp [apply_ite State.link])
@[simp] theorem State.putTrg_rep (s : State) (k : Nat) (t : Trigger) : (s.putTrg k t).rep = s.rep := by unfold State.putTrg; (try dsimp only) <;> (repeat' split) <;> (try simp [apply_ite State.rep])
@[simp] theorem State.putTrg_can (s : State) (k : Nat) (t : Trigger) : (s.putTrg k t).can = s.can := by unfold State.putTrg; (try dsimp only) <;> (repeat' split) <;> (try simp [apply_ite State.can])
@[simp] theorem State.putTrg_pwr (s : State) (k : Nat) (t : Trigger) : (s.putTrg k t).pwr = s.pwr := by unfold State.putTrg; (try dsimp only) <;> (repeat' split) <;> (try simp [apply_ite State.pwr])
@[simp] theorem State.putTrg_ic (s : State) (k : Nat) (t : Trigger) : (s.putTrg k t).ic = s.ic := by unfold State.putTrg; (try dsimp only) <;> (repeat' split) <;> (try simp [apply_ite State.ic])
@[simp] theorem State.putTrg_isp (s : State) (k : Nat) (t : Trigger) : (s.putTrg k t).isp = s.isp := by unfold State.putTrg; (try dsimp only) <;> (repeat' split) <;> (try simp [apply_ite State.isp])
@[simp] theorem State.putTrg_host (s : State) (k : Nat) (t : Trigger) : (s.putTrg k t).host = s.host := by unfold State.putTrg; (try dsimp only) <;> (repeat' split) <;> (try simp [apply_ite State.host])
@[simp] theorem State.putTrg_boot (s : State) (k : Nat) (t : Trigger) : (s.putTrg k t).boot = s.boot := by unfold State.putTrg; (try dsimp only) <;> (repeat' split) <;> (try simp [apply_ite State.boot])
@[simp] theorem State.putTrg_gk (s : State) (k : Nat) (t : Trigger) : (s.putTrg k t).gk = s.gk := by unfold State.putTrg; (try dsimp only) <;> (repeat' split) <;> (try simp [apply_ite State.gk])
@[simp] theorem State.putTrg_od (s : State) (k : Nat) (t : Trigger) : (s.putTrg k t).od = s.od := by unfold State.putTrg; (try dsimp only) <;> (repeat' split) <;> (try simp [apply_ite State.od])
@[simp] theorem State.putTrg_mem (s : State) (k : Nat) (t : Trigger) : (s.putTrg k t).mem = s.mem := by unfold State.putTrg; (try dsimp only) <;> (repeat' split) <;> (try simp [apply_ite State.mem])
@[simp] theorem State.putTrg_rg (s : State) (k : Nat) (t : Trigger) : (s.putTrg k t).rg = s.rg := by unfold State.putTrg; (try dsimp only) <;> (repeat' split) <;> (try simp [apply_ite State.rg])
@[simp] theorem State.putTrg_qn (s : State) (k : Nat) (t : Trigger) : (s.putTrg k t).qn = s.qn := by unfold State.putTrg; (try dsimp only) <;> (repeat' split) <;> (try simp [apply_ite State.qn])
@[simp] theorem State.putTrg_nc (s : State) (k : Nat) (t : Trigger) : (s.putTrg k t).nc = s.nc := by unfold State.putTrg; (try dsimp only) <;> (repeat' split) <;> (try simp [apply_ite State.nc])
@[simp] theorem State.putTrg_rs (s : State) (k : Nat) (t : Trigger) : (s.putTrg k t).rs = s.rs := by unfold State.putTrg; (try dsimp only) <;> (repeat' split) <;> (try simp [apply_ite State.rs])
@[simp] theorem State.putTrg_ref (s : State) (k : Nat) (t : Trigger) : (s.putTrg k t).ref = s.ref := by unfold State.putTrg; (try dsimp only) <;> (repeat' split) <;> (try simp [apply_ite State.ref])
@[simp] theorem State.putTrg_pkg (s : State) (k : Nat) (t : Trigger) : (s.putTrg k t).pkg = s.pkg := by unfold State.putTrg; (try dsimp only) <;> (repeat' split) <;> (try simp [apply_ite State.pkg])
@[simp] theorem State.putTrg_st (s : State) (k : Nat) (t : Trigger) : (s.putTrg k t).st = s.st := by unfold State.putTrg; (try dsimp only) <;> (repeat' split) <;> (try simp [apply_ite State.st])
@[simp] theorem State.putTrg_out (s : State) (k : Nat) (t : Trigger) : (s.putTrg k t).out = s.out := by unfold State.putTrg; (try dsimp only) <;> (repeat' split) <;> (try simp [apply_ite State.out])
@[simp] theorem State.putTrg_free (s : State) (k : Nat) (t : Trigger) : (s.putTrg k t).free = s.free := by unfold State.putTrg; (try dsimp only) <;> (repeat' split) <;> (try simp [apply_ite State.free])
@[simp] theorem State.putTrg_pending (s : State) (k : Nat) (t : Trigger) : (s.putTrg k t).pending = s.pending := by unfold State.putTrg; (try dsimp only) <;> (repeat' split) <;> (try simp [apply_ite State.pending])

/-! ### `State.fieldWake` -/

@[simp] theorem State.fieldWake_clk (s : State) (k : Nat) : (s.fieldWake k).clk = s.clk := by unfold State.fieldWake; (try dsimp only) <;> (repeat' split) <;> (try simp [apply_ite State.clk])
@[simp] theorem State.fieldWake_wc (s : State) (k : Nat) : (s.fieldWake k).wc = s.wc := by unfold State.fieldWake; (try dsimp only) <;> (repeat' split) <;> (try simp [apply_ite State.wc])
@[simp] theorem State.fieldWake_cue (s : State) (k : Nat) : (s.fieldWake k).cue = s.cue := by unfold State.fieldWake; (try dsimp only) <;> (repeat' split) <;> (try simp [apply_ite State.cue])
@[simp] theorem State.fieldWake_link (s : State) (k : Nat) : (s.fieldWake k).link = s.link := by unfold State.fieldWake; (try dsimp only) <;> (repeat' split) <;> (try simp [apply_ite State.link])
@[simp] theorem State.fieldWake_rep (s : State) (k : Nat) : (s.fieldWake k).rep = s.rep := by unfold State.fieldWake; (try dsimp only) <;> (repeat' split) <;> (try simp [apply_ite State.rep])
@[simp] theorem State.fieldWake_can (s : State) (k : Nat) : (s.fieldWake k).can = s.can := by unfold State.fieldWake; (try dsimp only) <;> (repeat' split) <;> (try simp [apply_ite State.can])
@[simp] theorem State.fieldWake_pwr (s : State) (k : Nat) : (s.fieldWake k).pwr = s.pwr := by unfold State.fieldWake; (try dsimp only) <;> (repeat' split) <;> (try simp [apply_ite State.pwr])
@[simp] theorem State.fieldWake_ic (s : State) (k : Nat) : (s.fieldWake k).ic = s.ic := by unfold State.fieldWake; (try dsimp only) <;> (repeat' split) <;> (try simp [apply_ite State.ic])
@[simp] theorem State.fieldWake_isp (s : State) (k : Nat) : (s.fieldWake k).isp = s.isp := by unfold State.fieldWake; (try dsimp only) <;> (repeat' split) <;> (try simp [apply_ite State.isp])
@[simp] theorem State.fieldWake_host (s : State) (k : Nat) : (s.fieldWake k).host = s.host := by unfold State.fieldWake; (try dsimp only) <;> (repeat' split) <;> (try simp [apply_ite State.host])
@[simp] theorem State.fieldWake_boot (s : State) (k : Nat) : (s.fieldWake k).boot = s.boot := by unfold State.fieldWake; (try dsimp only) <;> (repeat' split) <;> (try simp [apply_ite State.boot])
@[simp] theorem State.fieldWake_gk (s : State) (k : Nat) : (s.fieldWake k).gk = s.gk := by unfold State.fieldWake; (try dsimp only) <;> (repeat' split) <;> (try simp [apply_ite State.gk])
@[simp] theorem State.fieldWake_od (s : State) (k : Nat) : (s.fieldWake k).od = s.od := by unfold State.fieldWake; (try dsimp only) <;> (repeat' split) <;> (try simp [apply_ite State.od])
@[simp] theorem State.fieldWake_mem (s : State) (k : Nat) : (s.fieldWake k).mem = s.mem := by unfold State.fieldWake; (try dsimp only) <;> (repeat' split) <;> (try simp [apply_ite State.mem])
@[simp] theorem State.fieldWake_rg (s : State) (k : Nat) : (s.fieldWake k).rg = s.rg := by unfold State.fieldWake; (try dsimp only) <;> (repeat' split) <;> (try simp [apply_ite State.rg])
@[simp] theorem State.fieldWake_qn (s : State) (k : Nat) : (s.fieldWake k).qn = s.qn := by unfold State.fieldWake; (try dsimp only) <;> (repeat' split) <;> (try simp [apply_ite State.qn])
@[simp] theorem State.fieldWake_nc (s : State) (k : Nat) : (s.fieldWake k).nc = s.nc := by unfold State.fieldWake; (try dsimp only) <;> (repeat' split) <;> (try simp [apply_ite State.nc])
@[simp] theorem State.fieldWake_rs (s : State) (k : Nat) : (s.fieldWake k).rs = s.rs := by unfold State.fieldWake; (try dsimp only) <;> (repeat' split) <;> (try simp [apply_ite State.rs])
@[simp] theorem State.fieldWake_ref (s : State) (k : Nat) : (s.fieldWake k).ref = s.ref := by unfold State.fieldWake; (try dsimp only) <;> (repeat' split) <;> (try simp [apply_ite State.ref])
@[simp] theorem State.fieldWake_pkg (s : State) (k : Nat) : (s.fieldWake k).pkg = s.pkg := by unfold State.fieldWake; (try dsimp only) <;> (repeat' split) <;> (try simp [apply_ite State.pkg])
@[simp] theorem State.fieldWake_st (s : State) (k : Nat) : (s.fieldWake k).st = s.st := by unfold State.fieldWake; (try dsimp only) <;> (repeat' split) <;> (try simp [apply_ite State.st])
@[simp] theorem State.fieldWake_out (s : State) (k : Nat) : (s.fieldWake k).out = s.out := by unfold State.fieldWake; (try dsimp only) <;> (repeat' split) <;> (try simp [apply_ite State.out])
@[simp] theorem State.fieldWake_free (s : State) (k : Nat) : (s.fieldWake k).free = s.free := by unfold State.fieldWake; (try dsimp only) <;> (repeat' split) <;> (try simp [apply_ite State.free])
@[simp] theorem State.fieldWake_pending (s : State) (k : Nat) : (s.fieldWake k).pending = s.pending := by unfold State.fieldWake; (try dsimp only) <;> (repeat' split) <;> (try simp [apply_ite State.pending])

/-! ### `State.wakeTick` -/

@[simp] theorem State.wakeTick_clk (s : State) (k : Nat) : (s.wakeTick k).clk = s.clk := by unfold State.wakeTick; (try dsimp only) <;> (repeat' split) <;> (try simp [apply_ite State.clk])
@[simp] theorem State.wakeTick_cue (s : State) (k : Nat) : (s.wakeTick k).cue = s.cue := by unfold State.wakeTick; (try dsimp only) <;> (repeat' split) <;> (try simp [apply_ite State.cue])
@[simp] theorem State.wakeTick_link (s : State) (k : Nat) : (s.wakeTick k).link = s.link := by unfold State.wakeTick; (try dsimp only) <;> (repeat' split) <;> (try simp [apply_ite State.link])
@[simp] theorem State.wakeTick_rep (s : State) (k : Nat) : (s.wakeTick k).rep = s.rep := by unfold State.wakeTick; (try dsimp only) <;> (repeat' split) <;> (try simp [apply_ite State.rep])
@[simp] theorem State.wakeTick_can (s : State) (k : Nat) : (s.wakeTick k).can = s.can := by unfold State.wakeTick; (try dsimp only) <;> (repeat' split) <;> (try simp [apply_ite State.can])
@[simp] theorem State.wakeTick_pwr (s : State) (k : Nat) : (s.wakeTick k).pwr = s.pwr := by unfold State.wakeTick; (try dsimp only) <;> (repeat' split) <;> (try simp [apply_ite State.pwr])
@[simp] theorem State.wakeTick_ic (s : State) (k : Nat) : (s.wakeTick k).ic = s.ic := by unfold State.wakeTick; (try dsimp only) <;> (repeat' split) <;> (try simp [apply_ite State.ic])
@[simp] theorem State.wakeTick_isp (s : State) (k : Nat) : (s.wakeTick k).isp = s.isp := by unfold State.wakeTick; (try dsimp only) <;> (repeat' split) <;> (try simp [apply_ite State.isp])
@[simp] theorem State.wakeTick_host (s : State) (k : Nat) : (s.wakeTick k).host = s.host := by unfold State.wakeTick; (try dsimp only) <;> (repeat' split) <;> (try simp [apply_ite State.host])
@[simp] theorem State.wakeTick_boot (s : State) (k : Nat) : (s.wakeTick k).boot = s.boot := by unfold State.wakeTick; (try dsimp only) <;> (repeat' split) <;> (try simp [apply_ite State.boot])
@[simp] theorem State.wakeTick_gk (s : State) (k : Nat) : (s.wakeTick k).gk = s.gk := by unfold State.wakeTick; (try dsimp only) <;> (repeat' split) <;> (try simp [apply_ite State.gk])
@[simp] theorem State.wakeTick_od (s : State) (k : Nat) : (s.wakeTick k).od = s.od := by unfold State.wakeTick; (try dsimp only) <;> (repeat' split) <;> (try simp [apply_ite State.od])
@[simp] theorem State.wakeTick_mem (s : State) (k : Nat) : (s.wakeTick k).mem = s.mem := by unfold State.wakeTick; (try dsimp only) <;> (repeat' split) <;> (try simp [apply_ite State.mem])
@[simp] theorem State.wakeTick_rg (s : State) (k : Nat) : (s.wakeTick k).rg = s.rg := by unfold State.wakeTick; (try dsimp only) <;> (repeat' split) <;> (try simp [apply_ite State.rg])
@[simp] theorem State.wakeTick_qn (s : State) (k : Nat) : (s.wakeTick k).qn = s.qn := by unfold State.wakeTick; (try dsimp only) <;> (repeat' split) <;> (try simp [apply_ite State.qn])
@[simp] theorem State.wakeTick_nc (s : State) (k : Nat) : (s.wakeTick k).nc = s.nc := by unfold State.wakeTick; (try dsimp only) <;> (repeat' split) <;> (try simp [apply_ite State.nc])
@[simp] theorem State.wakeTick_rs (s : State) (k : Nat) : (s.wakeTick k).rs = s.rs := by unfold State.wakeTick; (try dsimp only) <;> (repeat' split) <;> (try simp [apply_ite State.rs])
@[simp] theorem State.wakeTick_ref (s : State) (k : Nat) : (s.wakeTick k).ref = s.ref := by unfold State.wakeTick; (try dsimp only) <;> (repeat' split) <;> (try simp [apply_ite State.ref])
@[simp] theorem State.wakeTick_pkg (s : State) (k : Nat) : (s.wakeTick k).pkg = s.pkg := by unfold State.wakeTick; (try dsimp only) <;> (repeat' split) <;> (try simp [apply_ite State.pkg])
@[simp] theorem State.wakeTick_st (s : State) (k : Nat) : (s.wakeTick k).st = s.st := by unfold State.wakeTick; (try dsimp only) <;> (repeat' split) <;> (try simp [apply_ite State.st])
@[simp] theorem State.wakeTick_out (s : State) (k : Nat) : (s.wakeTick k).out = s.out := by unfold State.wakeTick; (try dsimp only) <;> (repeat' split) <;> (try simp [apply_ite State.out])
@[simp] theorem State.wakeTick_free (s : State) (k : Nat) : (s.wakeTick k).free = s.free := by unfold State.wakeTick; (try dsimp only) <;> (repeat' split) <;> (try simp [apply_ite State.free])
@[simp] theorem State.wakeTick_pending (s : State) (k : Nat) : (s.wakeTick k).pending = s.pending := by unfold State.wakeTick; (try dsimp only) <;> (repeat' split) <;> (try simp [apply_ite State.pending])

/-! ### `State.fireTrigger` -/

@[simp] theorem State.fireTrigger_clk (s : State) (k a b : Nat) : (s.fireTrigger k a b).clk = s.clk := by unfold State.fireTrigger; (try dsimp only) <;> (repeat' split) <;> (try simp [apply_ite State.clk])
@[simp] theorem State.fireTrigger_wc (s : State) (k a b : Nat) : (s.fireTrigger k a b).wc = s.wc := by unfold State.fireTrigger; (try dsimp only) <;> (repeat' split) <;> (try simp [apply_ite State.wc])
@[simp] theorem State.fireTrigger_cue (s : State) (k a b : Nat) : (s.fireTrigger k a b).cue = s.cue := by unfold State.fireTrigger; (try dsimp only) <;> (repeat' split) <;> (try simp [apply_ite State.cue])
@[simp] theorem State.fireTrigger_link (s : State) (k a b : Nat) : (s.fireTrigger k a b).link = s.link := by unfold State.fireTrigger; (try dsimp only) <;> (repeat' split) <;> (try simp [apply_ite State.link])
@[simp] theorem State.fireTrigger_can (s : State) (k a b : Nat) : (s.fireTrigger k a b).can = s.can := by unfold State.fireTrigger; (try dsimp only) <;> (repeat' split) <;> (try simp [apply_ite State.can])
@[simp] theorem State.fireTrigger_pwr (s : State) (k a b : Nat) : (s.fireTrigger k a b).pwr = s.pwr := by unfold State.fireTrigger; (try dsimp only) <;> (repeat' split) <;> (try simp [apply_ite State.pwr])
@[simp] theorem State.fireTrigger_ic (s : State) (k a b : Nat) : (s.fireTrigger k a b).ic = s.ic := by unfold State.fireTrigger; (try dsimp only) <;> (repeat' split) <;> (try simp [apply_ite State.ic])
@[simp] theorem State.fireTrigger_isp (s : State) (k a b : Nat) : (s.fireTrigger k a b).isp = s.isp := by unfold State.fireTrigger; (try dsimp only) <;> (repeat' split) <;> (try simp [apply_ite State.isp])
@[simp] theorem State.fireTrigger_host (s : State) (k a b : Nat) : (s.fireTrigger k a b).host = s.host := by unfold State.fireTrigger; (try dsimp only) <;> (repeat' split) <;> (try simp [apply_ite State.host])
@[simp] theorem State.fireTrigger_boot (s : State) (k a b : Nat) : (s.fireTrigger k a b).boot = s.boot := by unfold State.fireTrigger; (try dsimp only) <;> (repeat' split) <;> (try simp [apply_ite State.boot])
@[simp] theorem State.fireTrigger_gk (s : State) (k a b : Nat) : (s.fireTrigger k a b).gk = s.gk := by unfold State.fireTrigger; (try dsimp only) <;> (repeat' split) <;> (try simp [apply_ite State.gk])
@[simp] theorem State.fireTrigger_od (s : State) (k a b : Nat) : (s.fireTrigger k a b).od = s.od := by unfold State.fireTrigger; (try dsimp only) <;> (repeat' split) <;> (try simp [apply_ite State.od])
@[simp] theorem State.fireTrigger_mem (s : State) (k a b : Nat) : (s.fireTrigger k a b).mem = s.mem := by unfold State.fireTrigger; (try dsimp only) <;> (repeat' split) <;> (try simp [apply_ite State.mem])
@[simp] theorem State.fireTrigger_rg (s : State) (k a b : Nat) : (s.fireTrigger k a b).rg = s.rg := by unfold State.fireTrigger; (try dsimp only) <;> (repeat' split) <;> (try simp [apply_ite State.rg])
@[simp] theorem State.fireTrigger_qn (s : State) (k a b : Nat) : (s.fireTrigger k a b).qn = s.qn := by unfold State.fireTrigger; (try dsimp only) <;> (repeat' split) <;> (try simp [apply_ite State.qn])
@[simp] theorem State.fireTrigger_nc (s : State) (k a b : Nat) : (s.fireTrigger k a b).nc = s.nc := by unfold State.fireTrigger; (try dsimp only) <;> (repeat' split) <;> (try simp [apply_ite State.nc])
@[simp] theorem State.fireTrigger_rs (s : State) (k a b : Nat) : (s.fireTrigger k a b).rs = s.rs := by unfold State.fireTrigger; (try dsimp only) <;> (repeat' split) <;> (try simp [apply_ite State.rs])
@[simp] theorem State.fireTrigger_ref (s : State) (k a b : Nat) : (s.fireTrigger k a b).ref = s.ref := by unfold State.fireTrigger; (try dsimp only) <;> (repeat' split) <;> (try simp [apply_ite State.ref])
@[simp] theorem State.fireTrigger_pkg (s : State) (k a b : Nat) : (s.fireTrigger k a b).pkg = s.pkg := by unfold State.fireTrigger; (try dsimp only) <;> (repeat' split) <;> (try simp [apply_ite State.pkg])
@[simp] theorem State.fireTrigger_st (s : State) (k a b : Nat) : (s.fireTrigger k a b).st = s.st := by unfold State.fireTrigger; (try dsimp only) <;> (repeat' split) <;> (try simp [apply_ite State.st])
@[simp] theorem State.fireTrigger_out (s : State) (k a b : Nat) : (s.fireTrigger k a b).out = s.out := by unfold State.fireTrigger; (try dsimp only) <;> (repeat' split) <;> (try simp [apply_ite State.out])
@[simp] theorem State.fireTrigger_free (s : State) (k a b : Nat) : (s.fireTrigger k a b).free = s.free := by unfold State.fireTrigger; (try dsimp only) <;> (repeat' split) <;> (try simp [apply_ite State.free])
@[simp] theorem State.fireTrigger_pending (s : State) (k a b : Nat) : (s.fireTrigger k a b).pending = s.pending := by unfold State.fireTrigger; (try dsimp only) <;> (repeat' split) <;> (try simp [apply_ite State.pending])

/-! ### `State.setField` -/

@[simp] theorem State.setField_clk (s : State) (k a b : Nat) : (s.setField k a b).clk = s.clk := by unfold State.setField; (try dsimp only) <;> (repeat' split) <;> (try simp [apply_ite State.clk])
@[simp] theorem State.setField_wc (s : State) (k a b : Nat) : (s.setField k a b).wc = s.wc := by unfold State.setField; (try dsimp only) <;> (repeat' split) <;> (try simp [apply_ite State.wc])
@[simp] theorem State.setField_cue (s : State) (k a b : Nat) : (s.setField k a b).cue = s.cue := by unfold State.setField; (try dsimp only) <;> (repeat' split) <;> (try simp [apply_ite State.cue])
@[simp] theorem State.setField_link (s : State) (k a b : Nat) : (s.setField k a b).link = s.link := by unfold State.setField; (try dsimp only) <;> (repeat' split) <;> (try simp [apply_ite State.link])
@[simp] theorem State.setField_rep (s : State) (k a b : Nat) : (s.setField k a b).rep = s.rep := by unfold State.setField; (try dsimp only) <;> (repeat' split) <;> (try simp [apply_ite State.rep])
@[simp] theorem State.setField_can (s : State) (k a b : Nat) : (s.setField k a b).can = s.can := by unfold State.setField; (try dsimp only) <;> (repeat' split) <;> (try simp [apply_ite State.can])
@[simp] theorem State.setField_pwr (s : State) (k a b : Nat) : (s.setField k a b).pwr = s.pwr := by unfold State.setField; (try dsimp only) <;> (repeat' split) <;> (try simp [apply_ite State.pwr])
@[simp] theorem State.setField_ic (s : State) (k a b : Nat) : (s.setField k a b).ic = s.ic := by unfold State.setField; (try dsimp only) <;> (repeat' split) <;> (try simp [apply_ite State.ic])
@[simp] theorem State.setField_isp (s : State) (k a b : Nat) : (s.setField k a b).isp = s.isp := by unfold State.setField; (try dsimp only) <;> (repeat' split) <;> (try simp [apply_ite State.isp])
@[simp] theorem State.setField_host (s : State) (k a b : Nat) : (s.setField k a b).host = s.host := by unfold State.setField; (try dsimp only) <;> (repeat' split) <;> (try simp [apply_ite State.host])
@[simp] theorem State.setField_boot (s : State) (k a b : Nat) : (s.setField k a b).boot = s.boot := by unfold State.setField; (try dsimp only) <;> (repeat' split) <;> (try simp [apply_ite State.boot])
@[simp] theorem State.setField_gk (s : State) (k a b : Nat) : (s.setField k a b).gk = s.gk := by unfold State.setField; (try dsimp only) <;> (repeat' split) <;> (try simp [apply_ite State.gk])
@[simp] theorem State.setField_mem (s : State) (k a b : Nat) : (s.setField k a b).mem = s.mem := by unfold State.setField; (try dsimp only) <;> (repeat' split) <;> (try simp [apply_ite State.mem])
@[simp] theorem State.setField_rg (s : State) (k a b : Nat) : (s.setField k a b).rg = s.rg := by unfold State.setField; (try dsimp only) <;> (repeat' split) <;> (try simp [apply_ite State.rg])
@[simp] theorem State.setField_qn (s : State) (k a b : Nat) : (s.setField k a b).qn = s.qn := by unfold State.setField; (try dsimp only) <;> (repeat' split) <;> (try simp [apply_ite State.qn])
@[simp] theorem State.setField_nc (s : State) (k a b : Nat) : (s.setField k a b).nc = s.nc := by unfold State.setField; (try dsimp only) <;> (repeat' split) <;> (try simp [apply_ite State.nc])
@[simp] theorem State.setField_rs (s : State) (k a b : Nat) : (s.setField k a b).rs = s.rs := by unfold State.setField; (try dsimp only) <;> (repeat' split) <;> (try simp [apply_ite State.rs])
@[simp] theorem State.setField_ref (s : State) (k a b : Nat) : (s.setField k a b).ref = s.ref := by unfold State.setField; (try dsimp only) <;> (repeat' split) <;> (try simp [apply_ite State.ref])
@[simp] theorem State.setField_pkg (s : State) (k a b : Nat) : (s.setField k a b).pkg = s.pkg := by unfold State.setField; (try dsimp only) <;> (repeat' split) <;> (try simp [apply_ite State.pkg])
@[simp] theorem State.setField_st (s : State) (k a b : Nat) : (s.setField k a b).st = s.st := by unfold State.setField; (try dsimp only) <;> (repeat' split) <;> (try simp [apply_ite State.st])
@[simp] theorem State.setField_out (s : State) (k a b : Nat) : (s.setField k a b).out = s.out := by unfold State.setField; (try dsimp only) <;> (repeat' split) <;> (try simp [apply_ite State.out])
@[simp] theorem State.setField_free (s : State) (k a b : Nat) : (s.setField k a b).free = s.free := by unfold State.setField; (try dsimp only) <;> (repeat' split) <;> (try simp [apply_ite State.free])
@[simp] theorem State.setField_pending (s : State) (k a b : Nat) : (s.setField k a b).pending = s.pending := by unfold State.setField; (try dsimp only) <;> (repeat' split) <;> (try simp [apply_ite State.pending])

/-! ### `State.clockFault` -/

@[simp] theorem State.clockFault_clk (s : State) (m n : Nat) : (s.clockFault m n).clk = s.clk := by unfold State.clockFault; (try dsimp only) <;> (repeat' split) <;> (try simp [apply_ite State.clk])
@[simp] theorem State.clockFault_cue (s : State) (m n : Nat) : (s.clockFault m n).cue = s.cue := by unfold State.clockFault; (try dsimp only) <;> (repeat' split) <;> (try simp [apply_ite State.cue])
@[simp] theorem State.clockFault_link (s : State) (m n : Nat) : (s.clockFault m n).link = s.link := by unfold State.clockFault; (try dsimp only) <;> (repeat' split) <;> (try simp [apply_ite State.link])
@[simp] theorem State.clockFault_can (s : State) (m n : Nat) : (s.clockFault m n).can = s.can := by unfold State.clockFault; (try dsimp only) <;> (repeat' split) <;> (try simp [apply_ite State.can])
@[simp] theorem State.clockFault_pwr (s : State) (m n : Nat) : (s.clockFault m n).pwr = s.pwr := by unfold State.clockFault; (try dsimp only) <;> (repeat' split) <;> (try simp [apply_ite State.pwr])
@[simp] theorem State.clockFault_ic (s : State) (m n : Nat) : (s.clockFault m n).ic = s.ic := by unfold State.clockFault; (try dsimp only) <;> (repeat' split) <;> (try simp [apply_ite State.ic])
@[simp] theorem State.clockFault_isp (s : State) (m n : Nat) : (s.clockFault m n).isp = s.isp := by unfold State.clockFault; (try dsimp only) <;> (repeat' split) <;> (try simp [apply_ite State.isp])
@[simp] theorem State.clockFault_host (s : State) (m n : Nat) : (s.clockFault m n).host = s.host := by unfold State.clockFault; (try dsimp only) <;> (repeat' split) <;> (try simp [apply_ite State.host])
@[simp] theorem State.clockFault_boot (s : State) (m n : Nat) : (s.clockFault m n).boot = s.boot := by unfold State.clockFault; (try dsimp only) <;> (repeat' split) <;> (try simp [apply_ite State.boot])
@[simp] theorem State.clockFault_gk (s : State) (m n : Nat) : (s.clockFault m n).gk = s.gk := by unfold State.clockFault; (try dsimp only) <;> (repeat' split) <;> (try simp [apply_ite State.gk])
@[simp] theorem State.clockFault_od (s : State) (m n : Nat) : (s.clockFault m n).od = s.od := by unfold State.clockFault; (try dsimp only) <;> (repeat' split) <;> (try simp [apply_ite State.od])
@[simp] theorem State.clockFault_mem (s : State) (m n : Nat) : (s.clockFault m n).mem = s.mem := by unfold State.clockFault; (try dsimp only) <;> (repeat' split) <;> (try simp [apply_ite State.mem])
@[simp] theorem State.clockFault_rg (s : State) (m n : Nat) : (s.clockFault m n).rg = s.rg := by unfold State.clockFault; (try dsimp only) <;> (repeat' split) <;> (try simp [apply_ite State.rg])
@[simp] theorem State.clockFault_qn (s : State) (m n : Nat) : (s.clockFault m n).qn = s.qn := by unfold State.clockFault; (try dsimp only) <;> (repeat' split) <;> (try simp [apply_ite State.qn])
@[simp] theorem State.clockFault_nc (s : State) (m n : Nat) : (s.clockFault m n).nc = s.nc := by unfold State.clockFault; (try dsimp only) <;> (repeat' split) <;> (try simp [apply_ite State.nc])
@[simp] theorem State.clockFault_rs (s : State) (m n : Nat) : (s.clockFault m n).rs = s.rs := by unfold State.clockFault; (try dsimp only) <;> (repeat' split) <;> (try simp [apply_ite State.rs])
@[simp] theorem State.clockFault_ref (s : State) (m n : Nat) : (s.clockFault m n).ref = s.ref := by unfold State.clockFault; (try dsimp only) <;> (repeat' split) <;> (try simp [apply_ite State.ref])
@[simp] theorem State.clockFault_pkg (s : State) (m n : Nat) : (s.clockFault m n).pkg = s.pkg := by unfold State.clockFault; (try dsimp only) <;> (repeat' split) <;> (try simp [apply_ite State.pkg])
@[simp] theorem State.clockFault_st (s : State) (m n : Nat) : (s.clockFault m n).st = s.st := by unfold State.clockFault; (try dsimp only) <;> (repeat' split) <;> (try simp [apply_ite State.st])
@[simp] theorem State.clockFault_out (s : State) (m n : Nat) : (s.clockFault m n).out = s.out := by unfold State.clockFault; (try dsimp only) <;> (repeat' split) <;> (try simp [apply_ite State.out])
@[simp] theorem State.clockFault_free (s : State) (m n : Nat) : (s.clockFault m n).free = s.free := by unfold State.clockFault; (try dsimp only) <;> (repeat' split) <;> (try simp [apply_ite State.free])
@[simp] theorem State.clockFault_pending (s : State) (m n : Nat) : (s.clockFault m n).pending = s.pending := by unfold State.clockFault; (try dsimp only) <;> (repeat' split) <;> (try simp [apply_ite State.pending])

/-! ### `State.flagLine` -/

@[simp] theorem State.flagLine_clk (s : State) (m : Nat) (l : EncLine) (x : Bool) : (s.flagLine m l x).clk = s.clk := by unfold State.flagLine; (try dsimp only) <;> (repeat' split) <;> (try simp [apply_ite State.clk])
@[simp] theorem State.flagLine_wc (s : State) (m : Nat) (l : EncLine) (x : Bool) : (s.flagLine m l x).wc = s.wc := by unfold State.flagLine; (try dsimp only) <;> (repeat' split) <;> (try simp [apply_ite State.wc])
@[simp] theorem State.flagLine_cue (s : State) (m : Nat) (l : EncLine) (x : Bool) : (s.flagLine m l x).cue = s.cue := by unfold State.flagLine; (try dsimp only) <;> (repeat' split) <;> (try simp [apply_ite State.cue])
@[simp] theorem State.flagLine_link (s : State) (m : Nat) (l : EncLine) (x : Bool) : (s.flagLine m l x).link = s.link := by unfold State.flagLine; (try dsimp only) <;> (repeat' split) <;> (try simp [apply_ite State.link])
@[simp] theorem State.flagLine_can (s : State) (m : Nat) (l : EncLine) (x : Bool) : (s.flagLine m l x).can = s.can := by unfold State.flagLine; (try dsimp only) <;> (repeat' split) <;> (try simp [apply_ite State.can])
@[simp] theorem State.flagLine_pwr (s : State) (m : Nat) (l : EncLine) (x : Bool) : (s.flagLine m l x).pwr = s.pwr := by unfold State.flagLine; (try dsimp only) <;> (repeat' split) <;> (try simp [apply_ite State.pwr])
@[simp] theorem State.flagLine_ic (s : State) (m : Nat) (l : EncLine) (x : Bool) : (s.flagLine m l x).ic = s.ic := by unfold State.flagLine; (try dsimp only) <;> (repeat' split) <;> (try simp [apply_ite State.ic])
@[simp] theorem State.flagLine_isp (s : State) (m : Nat) (l : EncLine) (x : Bool) : (s.flagLine m l x).isp = s.isp := by unfold State.flagLine; (try dsimp only) <;> (repeat' split) <;> (try simp [apply_ite State.isp])
@[simp] theorem State.flagLine_host (s : State) (m : Nat) (l : EncLine) (x : Bool) : (s.flagLine m l x).host = s.host := by unfold State.flagLine; (try dsimp only) <;> (repeat' split) <;> (try simp [apply_ite State.host])
@[simp] theorem State.flagLine_boot (s : State) (m : Nat) (l : EncLine) (x : Bool) : (s.flagLine m l x).boot = s.boot := by unfold State.flagLine; (try dsimp only) <;> (repeat' split) <;> (try simp [apply_ite State.boot])
@[simp] theorem State.flagLine_gk (s : State) (m : Nat) (l : EncLine) (x : Bool) : (s.flagLine m l x).gk = s.gk := by unfold State.flagLine; (try dsimp only) <;> (repeat' split) <;> (try simp [apply_ite State.gk])
@[simp] theorem State.flagLine_od (s : State) (m : Nat) (l : EncLine) (x : Bool) : (s.flagLine m l x).od = s.od := by unfold State.flagLine; (try dsimp only) <;> (repeat' split) <;> (try simp [apply_ite State.od])
@[simp] theorem State.flagLine_mem (s : State) (m : Nat) (l : EncLine) (x : Bool) : (s.flagLine m l x).mem = s.mem := by unfold State.flagLine; (try dsimp only) <;> (repeat' split) <;> (try simp [apply_ite State.mem])
@[simp] theorem State.flagLine_rg (s : State) (m : Nat) (l : EncLine) (x : Bool) : (s.flagLine m l x).rg = s.rg := by unfold State.flagLine; (try dsimp only) <;> (repeat' split) <;> (try simp [apply_ite State.rg])
@[simp] theorem State.flagLine_qn (s : State) (m : Nat) (l : EncLine) (x : Bool) : (s.flagLine m l x).qn = s.qn := by unfold State.flagLine; (try dsimp only) <;> (repeat' split) <;> (try simp [apply_ite State.qn])
@[simp] theorem State.flagLine_nc (s : State) (m : Nat) (l : EncLine) (x : Bool) : (s.flagLine m l x).nc = s.nc := by unfold State.flagLine; (try dsimp only) <;> (repeat' split) <;> (try simp [apply_ite State.nc])
@[simp] theorem State.flagLine_rs (s : State) (m : Nat) (l : EncLine) (x : Bool) : (s.flagLine m l x).rs = s.rs := by unfold State.flagLine; (try dsimp only) <;> (repeat' split) <;> (try simp [apply_ite State.rs])
@[simp] theorem State.flagLine_ref (s : State) (m : Nat) (l : EncLine) (x : Bool) : (s.flagLine m l x).ref = s.ref := by unfold State.flagLine; (try dsimp only) <;> (repeat' split) <;> (try simp [apply_ite State.ref])
@[simp] theorem State.flagLine_pkg (s : State) (m : Nat) (l : EncLine) (x : Bool) : (s.flagLine m l x).pkg = s.pkg := by unfold State.flagLine; (try dsimp only) <;> (repeat' split) <;> (try simp [apply_ite State.pkg])
@[simp] theorem State.flagLine_st (s : State) (m : Nat) (l : EncLine) (x : Bool) : (s.flagLine m l x).st = s.st := by unfold State.flagLine; (try dsimp only) <;> (repeat' split) <;> (try simp [apply_ite State.st])
@[simp] theorem State.flagLine_out (s : State) (m : Nat) (l : EncLine) (x : Bool) : (s.flagLine m l x).out = s.out := by unfold State.flagLine; (try dsimp only) <;> (repeat' split) <;> (try simp [apply_ite State.out])
@[simp] theorem State.flagLine_free (s : State) (m : Nat) (l : EncLine) (x : Bool) : (s.flagLine m l x).free = s.free := by unfold State.flagLine; (try dsimp only) <;> (repeat' split) <;> (try simp [apply_ite State.free])
@[simp] theorem State.flagLine_pending (s : State) (m : Nat) (l : EncLine) (x : Bool) : (s.flagLine m l x).pending = s.pending := by unfold State.flagLine; (try dsimp only) <;> (repeat' split) <;> (try simp [apply_ite State.pending])

/-! ### `State.faultOf` -/

@[simp] theorem State.faultOf_clk (s : State) (m n : Nat) : (s.faultOf m n).clk = s.clk := by unfold State.faultOf; (try dsimp only) <;> (repeat' split) <;> (try simp [apply_ite State.clk])
@[simp] theorem State.faultOf_cue (s : State) (m n : Nat) : (s.faultOf m n).cue = s.cue := by unfold State.faultOf; (try dsimp only) <;> (repeat' split) <;> (try simp [apply_ite State.cue])
@[simp] theorem State.faultOf_link (s : State) (m n : Nat) : (s.faultOf m n).link = s.link := by unfold State.faultOf; (try dsimp only) <;> (repeat' split) <;> (try simp [apply_ite State.link])
@[simp] theorem State.faultOf_can (s : State) (m n : Nat) : (s.faultOf m n).can = s.can := by unfold State.faultOf; (try dsimp only) <;> (repeat' split) <;> (try simp [apply_ite State.can])
@[simp] theorem State.faultOf_pwr (s : State) (m n : Nat) : (s.faultOf m n).pwr = s.pwr := by unfold State.faultOf; (try dsimp only) <;> (repeat' split) <;> (try simp [apply_ite State.pwr])
@[simp] theorem State.faultOf_ic (s : State) (m n : Nat) : (s.faultOf m n).ic = s.ic := by unfold State.faultOf; (try dsimp only) <;> (repeat' split) <;> (try simp [apply_ite State.ic])
@[simp] theorem State.faultOf_isp (s : State) (m n : Nat) : (s.faultOf m n).isp = s.isp := by unfold State.faultOf; (try dsimp only) <;> (repeat' split) <;> (try simp [apply_ite State.isp])
@[simp] theorem State.faultOf_host (s : State) (m n : Nat) : (s.faultOf m n).host = s.host := by unfold State.faultOf; (try dsimp only) <;> (repeat' split) <;> (try simp [apply_ite State.host])
@[simp] theorem State.faultOf_boot (s : State) (m n : Nat) : (s.faultOf m n).boot = s.boot := by unfold State.faultOf; (try dsimp only) <;> (repeat' split) <;> (try simp [apply_ite State.boot])
@[simp] theorem State.faultOf_gk (s : State) (m n : Nat) : (s.faultOf m n).gk = s.gk := by unfold State.faultOf; (try dsimp only) <;> (repeat' split) <;> (try simp [apply_ite State.gk])
@[simp] theorem State.faultOf_od (s : State) (m n : Nat) : (s.faultOf m n).od = s.od := by unfold State.faultOf; (try dsimp only) <;> (repeat' split) <;> (try simp [apply_ite State.od])
@[simp] theorem State.faultOf_mem (s : State) (m n : Nat) : (s.faultOf m n).mem = s.mem := by unfold State.faultOf; (try dsimp only) <;> (repeat' split) <;> (try simp [apply_ite State.mem])
@[simp] theorem State.faultOf_rg (s : State) (m n : Nat) : (s.faultOf m n).rg = s.rg := by unfold State.faultOf; (try dsimp only) <;> (repeat' split) <;> (try simp [apply_ite State.rg])
@[simp] theorem State.faultOf_qn (s : State) (m n : Nat) : (s.faultOf m n).qn = s.qn := by unfold State.faultOf; (try dsimp only) <;> (repeat' split) <;> (try simp [apply_ite State.qn])
@[simp] theorem State.faultOf_nc (s : State) (m n : Nat) : (s.faultOf m n).nc = s.nc := by unfold State.faultOf; (try dsimp only) <;> (repeat' split) <;> (try simp [apply_ite State.nc])
@[simp] theorem State.faultOf_rs (s : State) (m n : Nat) : (s.faultOf m n).rs = s.rs := by unfold State.faultOf; (try dsimp only) <;> (repeat' split) <;> (try simp [apply_ite State.rs])
@[simp] theorem State.faultOf_ref (s : State) (m n : Nat) : (s.faultOf m n).ref = s.ref := by unfold State.faultOf; (try dsimp only) <;> (repeat' split) <;> (try simp [apply_ite State.ref])
@[simp] theorem State.faultOf_pkg (s : State) (m n : Nat) : (s.faultOf m n).pkg = s.pkg := by unfold State.faultOf; (try dsimp only) <;> (repeat' split) <;> (try simp [apply_ite State.pkg])
@[simp] theorem State.faultOf_st (s : State) (m n : Nat) : (s.faultOf m n).st = s.st := by unfold State.faultOf; (try dsimp only) <;> (repeat' split) <;> (try simp [apply_ite State.st])
@[simp] theorem State.faultOf_out (s : State) (m n : Nat) : (s.faultOf m n).out = s.out := by unfold State.faultOf; (try dsimp only) <;> (repeat' split) <;> (try simp [apply_ite State.out])
@[simp] theorem State.faultOf_free (s : State) (m n : Nat) : (s.faultOf m n).free = s.free := by unfold State.faultOf; (try dsimp only) <;> (repeat' split) <;> (try simp [apply_ite State.free])
@[simp] theorem State.faultOf_pending (s : State) (m n : Nat) : (s.faultOf m n).pending = s.pending := by unfold State.faultOf; (try dsimp only) <;> (repeat' split) <;> (try simp [apply_ite State.pending])

/-! ### `State.lineFaults` -/

@[simp] theorem State.lineFaults_clk (s : State) (m : Nat) : (s.lineFaults m).clk = s.clk := by unfold State.lineFaults; rw [foldl_keeps State.clk _ (fun s x => by simp)]
@[simp] theorem State.lineFaults_cue (s : State) (m : Nat) : (s.lineFaults m).cue = s.cue := by unfold State.lineFaults; rw [foldl_keeps State.cue _ (fun s x => by simp)]
@[simp] theorem State.lineFaults_link (s : State) (m : Nat) : (s.lineFaults m).link = s.link := by unfold State.lineFaults; rw [foldl_keeps State.link _ (fun s x => by simp)]
@[simp] theorem State.lineFaults_can (s : State) (m : Nat) : (s.lineFaults m).can = s.can := by unfold State.lineFaults; rw [foldl_keeps State.can _ (fun s x => by simp)]
@[simp] theorem State.lineFaults_pwr (s : State) (m : Nat) : (s.lineFaults m).pwr = s.pwr := by unfold State.lineFaults; rw [foldl_keeps State.pwr _ (fun s x => by simp)]
@[simp] theorem State.lineFaults_ic (s : State) (m : Nat) : (s.lineFaults m).ic = s.ic := by unfold State.lineFaults; rw [foldl_keeps State.ic _ (fun s x => by simp)]
@[simp] theorem State.lineFaults_isp (s : State) (m : Nat) : (s.lineFaults m).isp = s.isp := by unfold State.lineFaults; rw [foldl_keeps State.isp _ (fun s x => by simp)]
@[simp] theorem State.lineFaults_host (s : State) (m : Nat) : (s.lineFaults m).host = s.host := by unfold State.lineFaults; rw [foldl_keeps State.host _ (fun s x => by simp)]
@[simp] theorem State.lineFaults_boot (s : State) (m : Nat) : (s.lineFaults m).boot = s.boot := by unfold State.lineFaults; rw [foldl_keeps State.boot _ (fun s x => by simp)]
@[simp] theorem State.lineFaults_gk (s : State) (m : Nat) : (s.lineFaults m).gk = s.gk := by unfold State.lineFaults; rw [foldl_keeps State.gk _ (fun s x => by simp)]
@[simp] theorem State.lineFaults_od (s : State) (m : Nat) : (s.lineFaults m).od = s.od := by unfold State.lineFaults; rw [foldl_keeps State.od _ (fun s x => by simp)]
@[simp] theorem State.lineFaults_mem (s : State) (m : Nat) : (s.lineFaults m).mem = s.mem := by unfold State.lineFaults; rw [foldl_keeps State.mem _ (fun s x => by simp)]
@[simp] theorem State.lineFaults_rg (s : State) (m : Nat) : (s.lineFaults m).rg = s.rg := by unfold State.lineFaults; rw [foldl_keeps State.rg _ (fun s x => by simp)]
@[simp] theorem State.lineFaults_qn (s : State) (m : Nat) : (s.lineFaults m).qn = s.qn := by unfold State.lineFaults; rw [foldl_keeps State.qn _ (fun s x => by simp)]
@[simp] theorem State.lineFaults_nc (s : State) (m : Nat) : (s.lineFaults m).nc = s.nc := by unfold State.lineFaults; rw [foldl_keeps State.nc _ (fun s x => by simp)]
@[simp] theorem State.lineFaults_rs (s : State) (m : Nat) : (s.lineFaults m).rs = s.rs := by unfold State.lineFaults; rw [foldl_keeps State.rs _ (fun s x => by simp)]
@[simp] theorem State.lineFaults_ref (s : State) (m : Nat) : (s.lineFaults m).ref = s.ref := by unfold State.lineFaults; rw [foldl_keeps State.ref _ (fun s x => by simp)]
@[simp] theorem State.lineFaults_pkg (s : State) (m : Nat) : (s.lineFaults m).pkg = s.pkg := by unfold State.lineFaults; rw [foldl_keeps State.pkg _ (fun s x => by simp)]
@[simp] theorem State.lineFaults_st (s : State) (m : Nat) : (s.lineFaults m).st = s.st := by unfold State.lineFaults; rw [foldl_keeps State.st _ (fun s x => by simp)]
@[simp] theorem State.lineFaults_out (s : State) (m : Nat) : (s.lineFaults m).out = s.out := by unfold State.lineFaults; rw [foldl_keeps State.out _ (fun s x => by simp)]
@[simp] theorem State.lineFaults_free (s : State) (m : Nat) : (s.lineFaults m).free = s.free := by unfold State.lineFaults; rw [foldl_keeps State.free _ (fun s x => by simp)]
@[simp] theorem State.lineFaults_pending (s : State) (m : Nat) : (s.lineFaults m).pending = s.pending := by unfold State.lineFaults; rw [foldl_keeps State.pending _ (fun s x => by simp)]

/-! ### `State.clockEdge` -/

@[simp] theorem State.clockEdge_clk (s : State) (m n : Nat) (q : Int) (g : Bool) : (s.clockEdge m n q g).clk = s.clk := by unfold State.clockEdge; (try dsimp only) <;> (repeat' split) <;> (try simp [apply_ite State.clk])
@[simp] theorem State.clockEdge_link (s : State) (m n : Nat) (q : Int) (g : Bool) : (s.clockEdge m n q g).link = s.link := by unfold State.clockEdge; (try dsimp only) <;> (repeat' split) <;> (try simp [apply_ite State.link])
@[simp] theorem State.clockEdge_can (s : State) (m n : Nat) (q : Int) (g : Bool) : (s.clockEdge m n q g).can = s.can := by unfold State.clockEdge; (try dsimp only) <;> (repeat' split) <;> (try simp [apply_ite State.can])
@[simp] theorem State.clockEdge_pwr (s : State) (m n : Nat) (q : Int) (g : Bool) : (s.clockEdge m n q g).pwr = s.pwr := by unfold State.clockEdge; (try dsimp only) <;> (repeat' split) <;> (try simp [apply_ite State.pwr])
@[simp] theorem State.clockEdge_ic (s : State) (m n : Nat) (q : Int) (g : Bool) : (s.clockEdge m n q g).ic = s.ic := by unfold State.clockEdge; (try dsimp only) <;> (repeat' split) <;> (try simp [apply_ite State.ic])
@[simp] theorem State.clockEdge_isp (s : State) (m n : Nat) (q : Int) (g : Bool) : (s.clockEdge m n q g).isp = s.isp := by unfold State.clockEdge; (try dsimp only) <;> (repeat' split) <;> (try simp [apply_ite State.isp])
@[simp] theorem State.clockEdge_host (s : State) (m n : Nat) (q : Int) (g : Bool) : (s.clockEdge m n q g).host = s.host := by unfold State.clockEdge; (try dsimp only) <;> (repeat' split) <;> (try simp [apply_ite State.host])
@[simp] theorem State.clockEdge_boot (s : State) (m n : Nat) (q : Int) (g : Bool) : (s.clockEdge m n q g).boot = s.boot := by unfold State.clockEdge; (try dsimp only) <;> (repeat' split) <;> (try simp [apply_ite State.boot])
@[simp] theorem State.clockEdge_gk (s : State) (m n : Nat) (q : Int) (g : Bool) : (s.clockEdge m n q g).gk = s.gk := by unfold State.clockEdge; (try dsimp only) <;> (repeat' split) <;> (try simp [apply_ite State.gk])
@[simp] theorem State.clockEdge_od (s : State) (m n : Nat) (q : Int) (g : Bool) : (s.clockEdge m n q g).od = s.od := by unfold State.clockEdge; (try dsimp only) <;> (repeat' split) <;> (try simp [apply_ite State.od])
@[simp] theorem State.clockEdge_mem (s : State) (m n : Nat) (q : Int) (g : Bool) : (s.clockEdge m n q g).mem = s.mem := by unfold State.clockEdge; (try dsimp only) <;> (repeat' split) <;> (try simp [apply_ite State.mem])
@[simp] theorem State.clockEdge_rg (s : State) (m n : Nat) (q : Int) (g : Bool) : (s.clockEdge m n q g).rg = s.rg := by unfold State.clockEdge; (try dsimp only) <;> (repeat' split) <;> (try simp [apply_ite State.rg])
@[simp] theorem State.clockEdge_qn (s : State) (m n : Nat) (q : Int) (g : Bool) : (s.clockEdge m n q g).qn = s.qn := by unfold State.clockEdge; (try dsimp only) <;> (repeat' split) <;> (try simp [apply_ite State.qn])
@[simp] theorem State.clockEdge_nc (s : State) (m n : Nat) (q : Int) (g : Bool) : (s.clockEdge m n q g).nc = s.nc := by unfold State.clockEdge; (try dsimp only) <;> (repeat' split) <;> (try simp [apply_ite State.nc])
@[simp] theorem State.clockEdge_rs (s : State) (m n : Nat) (q : Int) (g : Bool) : (s.clockEdge m n q g).rs = s.rs := by unfold State.clockEdge; (try dsimp only) <;> (repeat' split) <;> (try simp [apply_ite State.rs])
@[simp] theorem State.clockEdge_ref (s : State) (m n : Nat) (q : Int) (g : Bool) : (s.clockEdge m n q g).ref = s.ref := by unfold State.clockEdge; (try dsimp only) <;> (repeat' split) <;> (try simp [apply_ite State.ref])
@[simp] theorem State.clockEdge_pkg (s : State) (m n : Nat) (q : Int) (g : Bool) : (s.clockEdge m n q g).pkg = s.pkg := by unfold State.clockEdge; (try dsimp only) <;> (repeat' split) <;> (try simp [apply_ite State.pkg])
@[simp] theorem State.clockEdge_st (s : State) (m n : Nat) (q : Int) (g : Bool) : (s.clockEdge m n q g).st = s.st := by unfold State.clockEdge; (try dsimp only) <;> (repeat' split) <;> (try simp [apply_ite State.st])
@[simp] theorem State.clockEdge_out (s : State) (m n : Nat) (q : Int) (g : Bool) : (s.clockEdge m n q g).out = s.out := by unfold State.clockEdge; (try dsimp only) <;> (repeat' split) <;> (try simp [apply_ite State.out])
@[simp] theorem State.clockEdge_free (s : State) (m n : Nat) (q : Int) (g : Bool) : (s.clockEdge m n q g).free = s.free := by unfold State.clockEdge; (try dsimp only) <;> (repeat' split) <;> (try simp [apply_ite State.free])
@[simp] theorem State.clockEdge_pending (s : State) (m n : Nat) (q : Int) (g : Bool) : (s.clockEdge m n q g).pending = s.pending := by unfold State.clockEdge; (try dsimp only) <;> (repeat' split) <;> (try simp [apply_ite State.pending])

/-! ### `State.markEdges` -/

@[simp] theorem State.markEdges_clk (s : State) (k : Nat) (l : Bool) : (s.markEdges k l).clk = s.clk := by unfold State.markEdges; rw [foldl_keeps State.clk _ (fun s x => by try (dsimp only; split <;> simp))]
@[simp] theorem State.markEdges_cue (s : State) (k : Nat) (l : Bool) : (s.markEdges k l).cue = s.cue := by unfold State.markEdges; rw [foldl_keeps State.cue _ (fun s x => by try (dsimp only; split <;> simp))]
@[simp] theorem State.markEdges_link (s : State) (k : Nat) (l : Bool) : (s.markEdges k l).link = s.link := by unfold State.markEdges; rw [foldl_keeps State.link _ (fun s x => by try (dsimp only; split <;> simp))]
@[simp] theorem State.markEdges_can (s : State) (k : Nat) (l : Bool) : (s.markEdges k l).can = s.can := by unfold State.markEdges; rw [foldl_keeps State.can _ (fun s x => by try (dsimp only; split <;> simp))]
@[simp] theorem State.markEdges_pwr (s : State) (k : Nat) (l : Bool) : (s.markEdges k l).pwr = s.pwr := by unfold State.markEdges; rw [foldl_keeps State.pwr _ (fun s x => by try (dsimp only; split <;> simp))]
@[simp] theorem State.markEdges_ic (s : State) (k : Nat) (l : Bool) : (s.markEdges k l).ic = s.ic := by unfold State.markEdges; rw [foldl_keeps State.ic _ (fun s x => by try (dsimp only; split <;> simp))]
@[simp] theorem State.markEdges_isp (s : State) (k : Nat) (l : Bool) : (s.markEdges k l).isp = s.isp := by unfold State.markEdges; rw [foldl_keeps State.isp _ (fun s x => by try (dsimp only; split <;> simp))]
@[simp] theorem State.markEdges_host (s : State) (k : Nat) (l : Bool) : (s.markEdges k l).host = s.host := by unfold State.markEdges; rw [foldl_keeps State.host _ (fun s x => by try (dsimp only; split <;> simp))]
@[simp] theorem State.markEdges_boot (s : State) (k : Nat) (l : Bool) : (s.markEdges k l).boot = s.boot := by unfold State.markEdges; rw [foldl_keeps State.boot _ (fun s x => by try (dsimp only; split <;> simp))]
@[simp] theorem State.markEdges_gk (s : State) (k : Nat) (l : Bool) : (s.markEdges k l).gk = s.gk := by unfold State.markEdges; rw [foldl_keeps State.gk _ (fun s x => by try (dsimp only; split <;> simp))]
@[simp] theorem State.markEdges_od (s : State) (k : Nat) (l : Bool) : (s.markEdges k l).od = s.od := by unfold State.markEdges; rw [foldl_keeps State.od _ (fun s x => by try (dsimp only; split <;> simp))]
@[simp] theorem State.markEdges_mem (s : State) (k : Nat) (l : Bool) : (s.markEdges k l).mem = s.mem := by unfold State.markEdges; rw [foldl_keeps State.mem _ (fun s x => by try (dsimp only; split <;> simp))]
@[simp] theorem State.markEdges_rg (s : State) (k : Nat) (l : Bool) : (s.markEdges k l).rg = s.rg := by unfold State.markEdges; rw [foldl_keeps State.rg _ (fun s x => by try (dsimp only; split <;> simp))]
@[simp] theorem State.markEdges_qn (s : State) (k : Nat) (l : Bool) : (s.markEdges k l).qn = s.qn := by unfold State.markEdges; rw [foldl_keeps State.qn _ (fun s x => by try (dsimp only; split <;> simp))]
@[simp] theorem State.markEdges_nc (s : State) (k : Nat) (l : Bool) : (s.markEdges k l).nc = s.nc := by unfold State.markEdges; rw [foldl_keeps State.nc _ (fun s x => by try (dsimp only; split <;> simp))]
@[simp] theorem State.markEdges_rs (s : State) (k : Nat) (l : Bool) : (s.markEdges k l).rs = s.rs := by unfold State.markEdges; rw [foldl_keeps State.rs _ (fun s x => by try (dsimp only; split <;> simp))]
@[simp] theorem State.markEdges_ref (s : State) (k : Nat) (l : Bool) : (s.markEdges k l).ref = s.ref := by unfold State.markEdges; rw [foldl_keeps State.ref _ (fun s x => by try (dsimp only; split <;> simp))]
@[simp] theorem State.markEdges_pkg (s : State) (k : Nat) (l : Bool) : (s.markEdges k l).pkg = s.pkg := by unfold State.markEdges; rw [foldl_keeps State.pkg _ (fun s x => by try (dsimp only; split <;> simp))]
@[simp] theorem State.markEdges_st (s : State) (k : Nat) (l : Bool) : (s.markEdges k l).st = s.st := by unfold State.markEdges; rw [foldl_keeps State.st _ (fun s x => by try (dsimp only; split <;> simp))]
@[simp] theorem State.markEdges_out (s : State) (k : Nat) (l : Bool) : (s.markEdges k l).out = s.out := by unfold State.markEdges; rw [foldl_keeps State.out _ (fun s x => by try (dsimp only; split <;> simp))]
@[simp] theorem State.markEdges_free (s : State) (k : Nat) (l : Bool) : (s.markEdges k l).free = s.free := by unfold State.markEdges; rw [foldl_keeps State.free _ (fun s x => by try (dsimp only; split <;> simp))]
@[simp] theorem State.markEdges_pending (s : State) (k : Nat) (l : Bool) : (s.markEdges k l).pending = s.pending := by unfold State.markEdges; rw [foldl_keeps State.pending _ (fun s x => by try (dsimp only; split <;> simp))]

/-! ### `State.forwardEye` -/

@[simp] theorem State.forwardEye_clk (s : State) (k : Nat) (l : Bool) : (s.forwardEye k l).clk = s.clk := by unfold State.forwardEye; (try dsimp only) <;> (repeat' split) <;> (try simp [apply_ite State.clk])
@[simp] theorem State.forwardEye_wc (s : State) (k : Nat) (l : Bool) : (s.forwardEye k l).wc = s.wc := by unfold State.forwardEye; (try dsimp only) <;> (repeat' split) <;> (try simp [apply_ite State.wc])
@[simp] theorem State.forwardEye_cue (s : State) (k : Nat) (l : Bool) : (s.forwardEye k l).cue = s.cue := by unfold State.forwardEye; (try dsimp only) <;> (repeat' split) <;> (try simp [apply_ite State.cue])
@[simp] theorem State.forwardEye_link (s : State) (k : Nat) (l : Bool) : (s.forwardEye k l).link = s.link := by unfold State.forwardEye; (try dsimp only) <;> (repeat' split) <;> (try simp [apply_ite State.link])
@[simp] theorem State.forwardEye_can (s : State) (k : Nat) (l : Bool) : (s.forwardEye k l).can = s.can := by unfold State.forwardEye; (try dsimp only) <;> (repeat' split) <;> (try simp [apply_ite State.can])
@[simp] theorem State.forwardEye_pwr (s : State) (k : Nat) (l : Bool) : (s.forwardEye k l).pwr = s.pwr := by unfold State.forwardEye; (try dsimp only) <;> (repeat' split) <;> (try simp [apply_ite State.pwr])
@[simp] theorem State.forwardEye_ic (s : State) (k : Nat) (l : Bool) : (s.forwardEye k l).ic = s.ic := by unfold State.forwardEye; (try dsimp only) <;> (repeat' split) <;> (try simp [apply_ite State.ic])
@[simp] theorem State.forwardEye_isp (s : State) (k : Nat) (l : Bool) : (s.forwardEye k l).isp = s.isp := by unfold State.forwardEye; (try dsimp only) <;> (repeat' split) <;> (try simp [apply_ite State.isp])
@[simp] theorem State.forwardEye_host (s : State) (k : Nat) (l : Bool) : (s.forwardEye k l).host = s.host := by unfold State.forwardEye; (try dsimp only) <;> (repeat' split) <;> (try simp [apply_ite State.host])
@[simp] theorem State.forwardEye_boot (s : State) (k : Nat) (l : Bool) : (s.forwardEye k l).boot = s.boot := by unfold State.forwardEye; (try dsimp only) <;> (repeat' split) <;> (try simp [apply_ite State.boot])
@[simp] theorem State.forwardEye_gk (s : State) (k : Nat) (l : Bool) : (s.forwardEye k l).gk = s.gk := by unfold State.forwardEye; (try dsimp only) <;> (repeat' split) <;> (try simp [apply_ite State.gk])
@[simp] theorem State.forwardEye_od (s : State) (k : Nat) (l : Bool) : (s.forwardEye k l).od = s.od := by unfold State.forwardEye; (try dsimp only) <;> (repeat' split) <;> (try simp [apply_ite State.od])
@[simp] theorem State.forwardEye_mem (s : State) (k : Nat) (l : Bool) : (s.forwardEye k l).mem = s.mem := by unfold State.forwardEye; (try dsimp only) <;> (repeat' split) <;> (try simp [apply_ite State.mem])
@[simp] theorem State.forwardEye_rg (s : State) (k : Nat) (l : Bool) : (s.forwardEye k l).rg = s.rg := by unfold State.forwardEye; (try dsimp only) <;> (repeat' split) <;> (try simp [apply_ite State.rg])
@[simp] theorem State.forwardEye_qn (s : State) (k : Nat) (l : Bool) : (s.forwardEye k l).qn = s.qn := by unfold State.forwardEye; (try dsimp only) <;> (repeat' split) <;> (try simp [apply_ite State.qn])
@[simp] theorem State.forwardEye_nc (s : State) (k : Nat) (l : Bool) : (s.forwardEye k l).nc = s.nc := by unfold State.forwardEye; (try dsimp only) <;> (repeat' split) <;> (try simp [apply_ite State.nc])
@[simp] theorem State.forwardEye_rs (s : State) (k : Nat) (l : Bool) : (s.forwardEye k l).rs = s.rs := by unfold State.forwardEye; (try dsimp only) <;> (repeat' split) <;> (try simp [apply_ite State.rs])
@[simp] theorem State.forwardEye_ref (s : State) (k : Nat) (l : Bool) : (s.forwardEye k l).ref = s.ref := by unfold State.forwardEye; (try dsimp only) <;> (repeat' split) <;> (try simp [apply_ite State.ref])
@[simp] theorem State.forwardEye_pkg (s : State) (k : Nat) (l : Bool) : (s.forwardEye k l).pkg = s.pkg := by unfold State.forwardEye; (try dsimp only) <;> (repeat' split) <;> (try simp [apply_ite State.pkg])
@[simp] theorem State.forwardEye_st (s : State) (k : Nat) (l : Bool) : (s.forwardEye k l).st = s.st := by unfold State.forwardEye; (try dsimp only) <;> (repeat' split) <;> (try simp [apply_ite State.st])
@[simp] theorem State.forwardEye_out (s : State) (k : Nat) (l : Bool) : (s.forwardEye k l).out = s.out := by unfold State.forwardEye; (try dsimp only) <;> (repeat' split) <;> (try simp [apply_ite State.out])
@[simp] theorem State.forwardEye_free (s : State) (k : Nat) (l : Bool) : (s.forwardEye k l).free = s.free := by unfold State.forwardEye; (try dsimp only) <;> (repeat' split) <;> (try simp [apply_ite State.free])
@[simp] theorem State.forwardEye_pending (s : State) (k : Nat) (l : Bool) : (s.forwardEye k l).pending = s.pending := by unfold State.forwardEye; (try dsimp only) <;> (repeat' split) <;> (try simp [apply_ite State.pending])

/-! ### `State.cutAllKicks` -/

@[simp] theorem State.cutAllKicks_clk (s : State)  : (s.cutAllKicks ).clk = s.clk := by unfold State.cutAllKicks; rw [foldl_keeps State.clk _ (fun s x => by simp)]
@[simp] theorem State.cutAllKicks_wc (s : State)  : (s.cutAllKicks ).wc = s.wc := by unfold State.cutAllKicks; rw [foldl_keeps State.wc _ (fun s x => by simp)]
@[simp] theorem State.cutAllKicks_cue (s : State)  : (s.cutAllKicks ).cue = s.cue := by unfold State.cutAllKicks; rw [foldl_keeps State.cue _ (fun s x => by simp)]
@[simp] theorem State.cutAllKicks_link (s : State)  : (s.cutAllKicks ).link = s.link := by unfold State.cutAllKicks; rw [foldl_keeps State.link _ (fun s x => by simp)]
@[simp] theorem State.cutAllKicks_can (s : State)  : (s.cutAllKicks ).can = s.can := by unfold State.cutAllKicks; rw [foldl_keeps State.can _ (fun s x => by simp)]
@[simp] theorem State.cutAllKicks_pwr (s : State)  : (s.cutAllKicks ).pwr = s.pwr := by unfold State.cutAllKicks; rw [foldl_keeps State.pwr _ (fun s x => by simp)]
@[simp] theorem State.cutAllKicks_ic (s : State)  : (s.cutAllKicks ).ic = s.ic := by unfold State.cutAllKicks; rw [foldl_keeps State.ic _ (fun s x => by simp)]
@[simp] theorem State.cutAllKicks_isp (s : State)  : (s.cutAllKicks ).isp = s.isp := by unfold State.cutAllKicks; rw [foldl_keeps State.isp _ (fun s x => by simp)]
@[simp] theorem State.cutAllKicks_host (s : State)  : (s.cutAllKicks ).host = s.host := by unfold State.cutAllKicks; rw [foldl_keeps State.host _ (fun s x => by simp)]
@[simp] theorem State.cutAllKicks_boot (s : State)  : (s.cutAllKicks ).boot = s.boot := by unfold State.cutAllKicks; rw [foldl_keeps State.boot _ (fun s x => by simp)]
@[simp] theorem State.cutAllKicks_gk (s : State)  : (s.cutAllKicks ).gk = s.gk := by unfold State.cutAllKicks; rw [foldl_keeps State.gk _ (fun s x => by simp)]
@[simp] theorem State.cutAllKicks_od (s : State)  : (s.cutAllKicks ).od = s.od := by unfold State.cutAllKicks; rw [foldl_keeps State.od _ (fun s x => by simp)]
@[simp] theorem State.cutAllKicks_mem (s : State)  : (s.cutAllKicks ).mem = s.mem := by unfold State.cutAllKicks; rw [foldl_keeps State.mem _ (fun s x => by simp)]
@[simp] theorem State.cutAllKicks_rg (s : State)  : (s.cutAllKicks ).rg = s.rg := by unfold State.cutAllKicks; rw [foldl_keeps State.rg _ (fun s x => by simp)]
@[simp] theorem State.cutAllKicks_qn (s : State)  : (s.cutAllKicks ).qn = s.qn := by unfold State.cutAllKicks; rw [foldl_keeps State.qn _ (fun s x => by simp)]
@[simp] theorem State.cutAllKicks_nc (s : State)  : (s.cutAllKicks ).nc = s.nc := by unfold State.cutAllKicks; rw [foldl_keeps State.nc _ (fun s x => by simp)]
@[simp] theorem State.cutAllKicks_rs (s : State)  : (s.cutAllKicks ).rs = s.rs := by unfold State.cutAllKicks; rw [foldl_keeps State.rs _ (fun s x => by simp)]
@[simp] theorem State.cutAllKicks_ref (s : State)  : (s.cutAllKicks ).ref = s.ref := by unfold State.cutAllKicks; rw [foldl_keeps State.ref _ (fun s x => by simp)]
@[simp] theorem State.cutAllKicks_pkg (s : State)  : (s.cutAllKicks ).pkg = s.pkg := by unfold State.cutAllKicks; rw [foldl_keeps State.pkg _ (fun s x => by simp)]
@[simp] theorem State.cutAllKicks_st (s : State)  : (s.cutAllKicks ).st = s.st := by unfold State.cutAllKicks; rw [foldl_keeps State.st _ (fun s x => by simp)]
@[simp] theorem State.cutAllKicks_out (s : State)  : (s.cutAllKicks ).out = s.out := by unfold State.cutAllKicks; rw [foldl_keeps State.out _ (fun s x => by simp)]
@[simp] theorem State.cutAllKicks_free (s : State)  : (s.cutAllKicks ).free = s.free := by unfold State.cutAllKicks; rw [foldl_keeps State.free _ (fun s x => by simp)]
@[simp] theorem State.cutAllKicks_pending (s : State)  : (s.cutAllKicks ).pending = s.pending := by unfold State.cutAllKicks; rw [foldl_keeps State.pending _ (fun s x => by simp)]

/-! ### `State.allTriggersOff` -/

@[simp] theorem State.allTriggersOff_clk (s : State)  : (s.allTriggersOff ).clk = s.clk := by unfold State.allTriggersOff; (try dsimp only) <;> (repeat' split) <;> (try simp [apply_ite State.clk])
@[simp] theorem State.allTriggersOff_wc (s : State)  : (s.allTriggersOff ).wc = s.wc := by unfold State.allTriggersOff; (try dsimp only) <;> (repeat' split) <;> (try simp [apply_ite State.wc])
@[simp] theorem State.allTriggersOff_cue (s : State)  : (s.allTriggersOff ).cue = s.cue := by unfold State.allTriggersOff; (try dsimp only) <;> (repeat' split) <;> (try simp [apply_ite State.cue])
@[simp] theorem State.allTriggersOff_link (s : State)  : (s.allTriggersOff ).link = s.link := by unfold State.allTriggersOff; (try dsimp only) <;> (repeat' split) <;> (try simp [apply_ite State.link])
@[simp] theorem State.allTriggersOff_rep (s : State)  : (s.allTriggersOff ).rep = s.rep := by unfold State.allTriggersOff; (try dsimp only) <;> (repeat' split) <;> (try simp [apply_ite State.rep])
@[simp] theorem State.allTriggersOff_can (s : State)  : (s.allTriggersOff ).can = s.can := by unfold State.allTriggersOff; (try dsimp only) <;> (repeat' split) <;> (try simp [apply_ite State.can])
@[simp] theorem State.allTriggersOff_pwr (s : State)  : (s.allTriggersOff ).pwr = s.pwr := by unfold State.allTriggersOff; (try dsimp only) <;> (repeat' split) <;> (try simp [apply_ite State.pwr])
@[simp] theorem State.allTriggersOff_ic (s : State)  : (s.allTriggersOff ).ic = s.ic := by unfold State.allTriggersOff; (try dsimp only) <;> (repeat' split) <;> (try simp [apply_ite State.ic])
@[simp] theorem State.allTriggersOff_isp (s : State)  : (s.allTriggersOff ).isp = s.isp := by unfold State.allTriggersOff; (try dsimp only) <;> (repeat' split) <;> (try simp [apply_ite State.isp])
@[simp] theorem State.allTriggersOff_host (s : State)  : (s.allTriggersOff ).host = s.host := by unfold State.allTriggersOff; (try dsimp only) <;> (repeat' split) <;> (try simp [apply_ite State.host])
@[simp] theorem State.allTriggersOff_boot (s : State)  : (s.allTriggersOff ).boot = s.boot := by unfold State.allTriggersOff; (try dsimp only) <;> (repeat' split) <;> (try simp [apply_ite State.boot])
@[simp] theorem State.allTriggersOff_gk (s : State)  : (s.allTriggersOff ).gk = s.gk := by unfold State.allTriggersOff; (try dsimp only) <;> (repeat' split) <;> (try simp [apply_ite State.gk])
@[simp] theorem State.allTriggersOff_od (s : State)  : (s.allTriggersOff ).od = s.od := by unfold State.allTriggersOff; (try dsimp only) <;> (repeat' split) <;> (try simp [apply_ite State.od])
@[simp] theorem State.allTriggersOff_mem (s : State)  : (s.allTriggersOff ).mem = s.mem := by unfold State.allTriggersOff; (try dsimp only) <;> (repeat' split) <;> (try simp [apply_ite State.mem])
@[simp] theorem State.allTriggersOff_rg (s : State)  : (s.allTriggersOff ).rg = s.rg := by unfold State.allTriggersOff; (try dsimp only) <;> (repeat' split) <;> (try simp [apply_ite State.rg])
@[simp] theorem State.allTriggersOff_qn (s : State)  : (s.allTriggersOff ).qn = s.qn := by unfold State.allTriggersOff; (try dsimp only) <;> (repeat' split) <;> (try simp [apply_ite State.qn])
@[simp] theorem State.allTriggersOff_nc (s : State)  : (s.allTriggersOff ).nc = s.nc := by unfold State.allTriggersOff; (try dsimp only) <;> (repeat' split) <;> (try simp [apply_ite State.nc])
@[simp] theorem State.allTriggersOff_rs (s : State)  : (s.allTriggersOff ).rs = s.rs := by unfold State.allTriggersOff; (try dsimp only) <;> (repeat' split) <;> (try simp [apply_ite State.rs])
@[simp] theorem State.allTriggersOff_ref (s : State)  : (s.allTriggersOff ).ref = s.ref := by unfold State.allTriggersOff; (try dsimp only) <;> (repeat' split) <;> (try simp [apply_ite State.ref])
@[simp] theorem State.allTriggersOff_pkg (s : State)  : (s.allTriggersOff ).pkg = s.pkg := by unfold State.allTriggersOff; (try dsimp only) <;> (repeat' split) <;> (try simp [apply_ite State.pkg])
@[simp] theorem State.allTriggersOff_st (s : State)  : (s.allTriggersOff ).st = s.st := by unfold State.allTriggersOff; (try dsimp only) <;> (repeat' split) <;> (try simp [apply_ite State.st])
@[simp] theorem State.allTriggersOff_out (s : State)  : (s.allTriggersOff ).out = s.out := by unfold State.allTriggersOff; (try dsimp only) <;> (repeat' split) <;> (try simp [apply_ite State.out])
@[simp] theorem State.allTriggersOff_free (s : State)  : (s.allTriggersOff ).free = s.free := by unfold State.allTriggersOff; (try dsimp only) <;> (repeat' split) <;> (try simp [apply_ite State.free])
@[simp] theorem State.allTriggersOff_pending (s : State)  : (s.allTriggersOff ).pending = s.pending := by unfold State.allTriggersOff; (try dsimp only) <;> (repeat' split) <;> (try simp [apply_ite State.pending])

/-! ### `State.cueReport` -/

@[simp] theorem State.cueReport_clk (s : State) (e c : Nat) : (s.cueReport e c).clk = s.clk := by unfold State.cueReport; (try dsimp only) <;> (repeat' split) <;> (try simp [apply_ite State.clk])
@[simp] theorem State.cueReport_wc (s : State) (e c : Nat) : (s.cueReport e c).wc = s.wc := by unfold State.cueReport; (try dsimp only) <;> (repeat' split) <;> (try simp [apply_ite State.wc])
@[simp] theorem State.cueReport_cue (s : State) (e c : Nat) : (s.cueReport e c).cue = s.cue := by unfold State.cueReport; (try dsimp only) <;> (repeat' split) <;> (try simp [apply_ite State.cue])
@[simp] theorem State.cueReport_link (s : State) (e c : Nat) : (s.cueReport e c).link = s.link := by unfold State.cueReport; (try dsimp only) <;> (repeat' split) <;> (try simp [apply_ite State.link])
@[simp] theorem State.cueReport_rep (s : State) (e c : Nat) : (s.cueReport e c).rep = s.rep := by unfold State.cueReport; (try dsimp only) <;> (repeat' split) <;> (try simp [apply_ite State.rep])
@[simp] theorem State.cueReport_can (s : State) (e c : Nat) : (s.cueReport e c).can = s.can := by unfold State.cueReport; (try dsimp only) <;> (repeat' split) <;> (try simp [apply_ite State.can])
@[simp] theorem State.cueReport_pwr (s : State) (e c : Nat) : (s.cueReport e c).pwr = s.pwr := by unfold State.cueReport; (try dsimp only) <;> (repeat' split) <;> (try simp [apply_ite State.pwr])
@[simp] theorem State.cueReport_ic (s : State) (e c : Nat) : (s.cueReport e c).ic = s.ic := by unfold State.cueReport; (try dsimp only) <;> (repeat' split) <;> (try simp [apply_ite State.ic])
@[simp] theorem State.cueReport_isp (s : State) (e c : Nat) : (s.cueReport e c).isp = s.isp := by unfold State.cueReport; (try dsimp only) <;> (repeat' split) <;> (try simp [apply_ite State.isp])
@[simp] theorem State.cueReport_host (s : State) (e c : Nat) : (s.cueReport e c).host = s.host := by unfold State.cueReport; (try dsimp only) <;> (repeat' split) <;> (try simp [apply_ite State.host])
@[simp] theorem State.cueReport_boot (s : State) (e c : Nat) : (s.cueReport e c).boot = s.boot := by unfold State.cueReport; (try dsimp only) <;> (repeat' split) <;> (try simp [apply_ite State.boot])
@[simp] theorem State.cueReport_gk (s : State) (e c : Nat) : (s.cueReport e c).gk = s.gk := by unfold State.cueReport; (try dsimp only) <;> (repeat' split) <;> (try simp [apply_ite State.gk])
@[simp] theorem State.cueReport_od (s : State) (e c : Nat) : (s.cueReport e c).od = s.od := by unfold State.cueReport; (try dsimp only) <;> (repeat' split) <;> (try simp [apply_ite State.od])
@[simp] theorem State.cueReport_mem (s : State) (e c : Nat) : (s.cueReport e c).mem = s.mem := by unfold State.cueReport; (try dsimp only) <;> (repeat' split) <;> (try simp [apply_ite State.mem])
@[simp] theorem State.cueReport_rg (s : State) (e c : Nat) : (s.cueReport e c).rg = s.rg := by unfold State.cueReport; (try dsimp only) <;> (repeat' split) <;> (try simp [apply_ite State.rg])
@[simp] theorem State.cueReport_qn (s : State) (e c : Nat) : (s.cueReport e c).qn = s.qn := by unfold State.cueReport; (try dsimp only) <;> (repeat' split) <;> (try simp [apply_ite State.qn])
@[simp] theorem State.cueReport_nc (s : State) (e c : Nat) : (s.cueReport e c).nc = s.nc := by unfold State.cueReport; (try dsimp only) <;> (repeat' split) <;> (try simp [apply_ite State.nc])
@[simp] theorem State.cueReport_rs (s : State) (e c : Nat) : (s.cueReport e c).rs = s.rs := by unfold State.cueReport; (try dsimp only) <;> (repeat' split) <;> (try simp [apply_ite State.rs])
@[simp] theorem State.cueReport_ref (s : State) (e c : Nat) : (s.cueReport e c).ref = s.ref := by unfold State.cueReport; (try dsimp only) <;> (repeat' split) <;> (try simp [apply_ite State.ref])
@[simp] theorem State.cueReport_pkg (s : State) (e c : Nat) : (s.cueReport e c).pkg = s.pkg := by unfold State.cueReport; (try dsimp only) <;> (repeat' split) <;> (try simp [apply_ite State.pkg])
@[simp] theorem State.cueReport_st (s : State) (e c : Nat) : (s.cueReport e c).st = s.st := by unfold State.cueReport; (try dsimp only) <;> (repeat' split) <;> (try simp [apply_ite State.st])
@[simp] theorem State.cueReport_out (s : State) (e c : Nat) : (s.cueReport e c).out = s.out := by unfold State.cueReport; (try dsimp only) <;> (repeat' split) <;> (try simp [apply_ite State.out])
@[simp] theorem State.cueReport_free (s : State) (e c : Nat) : (s.cueReport e c).free = s.free := by unfold State.cueReport; (try dsimp only) <;> (repeat' split) <;> (try simp [apply_ite State.free])
@[simp] theorem State.cueReport_pending (s : State) (e c : Nat) : (s.cueReport e c).pending = s.pending := by unfold State.cueReport; (try dsimp only) <;> (repeat' split) <;> (try simp [apply_ite State.pending])

/-! ### `State.refuseCue` -/

@[simp] theorem State.refuseCue_clk (s : State) (e : Nat) (w : BitVec 128) (c : Nat) : (s.refuseCue e w c).clk = s.clk := by unfold State.refuseCue; (try dsimp only) <;> (repeat' split) <;> (try simp [apply_ite State.clk])
@[simp] theorem State.refuseCue_wc (s : State) (e : Nat) (w : BitVec 128) (c : Nat) : (s.refuseCue e w c).wc = s.wc := by unfold State.refuseCue; (try dsimp only) <;> (repeat' split) <;> (try simp [apply_ite State.wc])
@[simp] theorem State.refuseCue_cue (s : State) (e : Nat) (w : BitVec 128) (c : Nat) : (s.refuseCue e w c).cue = s.cue := by unfold State.refuseCue; (try dsimp only) <;> (repeat' split) <;> (try simp [apply_ite State.cue])
@[simp] theorem State.refuseCue_link (s : State) (e : Nat) (w : BitVec 128) (c : Nat) : (s.refuseCue e w c).link = s.link := by unfold State.refuseCue; (try dsimp only) <;> (repeat' split) <;> (try simp [apply_ite State.link])
@[simp] theorem State.refuseCue_can (s : State) (e : Nat) (w : BitVec 128) (c : Nat) : (s.refuseCue e w c).can = s.can := by unfold State.refuseCue; (try dsimp only) <;> (repeat' split) <;> (try simp [apply_ite State.can])
@[simp] theorem State.refuseCue_pwr (s : State) (e : Nat) (w : BitVec 128) (c : Nat) : (s.refuseCue e w c).pwr = s.pwr := by unfold State.refuseCue; (try dsimp only) <;> (repeat' split) <;> (try simp [apply_ite State.pwr])
@[simp] theorem State.refuseCue_ic (s : State) (e : Nat) (w : BitVec 128) (c : Nat) : (s.refuseCue e w c).ic = s.ic := by unfold State.refuseCue; (try dsimp only) <;> (repeat' split) <;> (try simp [apply_ite State.ic])
@[simp] theorem State.refuseCue_isp (s : State) (e : Nat) (w : BitVec 128) (c : Nat) : (s.refuseCue e w c).isp = s.isp := by unfold State.refuseCue; (try dsimp only) <;> (repeat' split) <;> (try simp [apply_ite State.isp])
@[simp] theorem State.refuseCue_host (s : State) (e : Nat) (w : BitVec 128) (c : Nat) : (s.refuseCue e w c).host = s.host := by unfold State.refuseCue; (try dsimp only) <;> (repeat' split) <;> (try simp [apply_ite State.host])
@[simp] theorem State.refuseCue_boot (s : State) (e : Nat) (w : BitVec 128) (c : Nat) : (s.refuseCue e w c).boot = s.boot := by unfold State.refuseCue; (try dsimp only) <;> (repeat' split) <;> (try simp [apply_ite State.boot])
@[simp] theorem State.refuseCue_gk (s : State) (e : Nat) (w : BitVec 128) (c : Nat) : (s.refuseCue e w c).gk = s.gk := by unfold State.refuseCue; (try dsimp only) <;> (repeat' split) <;> (try simp [apply_ite State.gk])
@[simp] theorem State.refuseCue_od (s : State) (e : Nat) (w : BitVec 128) (c : Nat) : (s.refuseCue e w c).od = s.od := by unfold State.refuseCue; (try dsimp only) <;> (repeat' split) <;> (try simp [apply_ite State.od])
@[simp] theorem State.refuseCue_mem (s : State) (e : Nat) (w : BitVec 128) (c : Nat) : (s.refuseCue e w c).mem = s.mem := by unfold State.refuseCue; (try dsimp only) <;> (repeat' split) <;> (try simp [apply_ite State.mem])
@[simp] theorem State.refuseCue_rg (s : State) (e : Nat) (w : BitVec 128) (c : Nat) : (s.refuseCue e w c).rg = s.rg := by unfold State.refuseCue; (try dsimp only) <;> (repeat' split) <;> (try simp [apply_ite State.rg])
@[simp] theorem State.refuseCue_qn (s : State) (e : Nat) (w : BitVec 128) (c : Nat) : (s.refuseCue e w c).qn = s.qn := by unfold State.refuseCue; (try dsimp only) <;> (repeat' split) <;> (try simp [apply_ite State.qn])
@[simp] theorem State.refuseCue_nc (s : State) (e : Nat) (w : BitVec 128) (c : Nat) : (s.refuseCue e w c).nc = s.nc := by unfold State.refuseCue; (try dsimp only) <;> (repeat' split) <;> (try simp [apply_ite State.nc])
@[simp] theorem State.refuseCue_rs (s : State) (e : Nat) (w : BitVec 128) (c : Nat) : (s.refuseCue e w c).rs = s.rs := by unfold State.refuseCue; (try dsimp only) <;> (repeat' split) <;> (try simp [apply_ite State.rs])
@[simp] theorem State.refuseCue_ref (s : State) (e : Nat) (w : BitVec 128) (c : Nat) : (s.refuseCue e w c).ref = s.ref := by unfold State.refuseCue; (try dsimp only) <;> (repeat' split) <;> (try simp [apply_ite State.ref])
@[simp] theorem State.refuseCue_pkg (s : State) (e : Nat) (w : BitVec 128) (c : Nat) : (s.refuseCue e w c).pkg = s.pkg := by unfold State.refuseCue; (try dsimp only) <;> (repeat' split) <;> (try simp [apply_ite State.pkg])
@[simp] theorem State.refuseCue_st (s : State) (e : Nat) (w : BitVec 128) (c : Nat) : (s.refuseCue e w c).st = s.st := by unfold State.refuseCue; (try dsimp only) <;> (repeat' split) <;> (try simp [apply_ite State.st])
@[simp] theorem State.refuseCue_out (s : State) (e : Nat) (w : BitVec 128) (c : Nat) : (s.refuseCue e w c).out = s.out := by unfold State.refuseCue; (try dsimp only) <;> (repeat' split) <;> (try simp [apply_ite State.out])
@[simp] theorem State.refuseCue_free (s : State) (e : Nat) (w : BitVec 128) (c : Nat) : (s.refuseCue e w c).free = s.free := by unfold State.refuseCue; (try dsimp only) <;> (repeat' split) <;> (try simp [apply_ite State.free])
@[simp] theorem State.refuseCue_pending (s : State) (e : Nat) (w : BitVec 128) (c : Nat) : (s.refuseCue e w c).pending = s.pending := by unfold State.refuseCue; (try dsimp only) <;> (repeat' split) <;> (try simp [apply_ite State.pending])

/-! ### `State.installCue` -/

@[simp] theorem State.installCue_clk (s : State) (e : Nat) (w : BitVec 128) : (s.installCue e w).clk = s.clk := by unfold State.installCue; split <;> simp
@[simp] theorem State.installCue_wc (s : State) (e : Nat) (w : BitVec 128) : (s.installCue e w).wc = s.wc := by unfold State.installCue; split <;> simp
@[simp] theorem State.installCue_link (s : State) (e : Nat) (w : BitVec 128) : (s.installCue e w).link = s.link := by unfold State.installCue; split <;> simp
@[simp] theorem State.installCue_can (s : State) (e : Nat) (w : BitVec 128) : (s.installCue e w).can = s.can := by unfold State.installCue; split <;> simp
@[simp] theorem State.installCue_pwr (s : State) (e : Nat) (w : BitVec 128) : (s.installCue e w).pwr = s.pwr := by unfold State.installCue; split <;> simp
@[simp] theorem State.installCue_ic (s : State) (e : Nat) (w : BitVec 128) : (s.installCue e w).ic = s.ic := by unfold State.installCue; split <;> simp
@[simp] theorem State.installCue_isp (s : State) (e : Nat) (w : BitVec 128) : (s.installCue e w).isp = s.isp := by unfold State.installCue; split <;> simp
@[simp] theorem State.installCue_host (s : State) (e : Nat) (w : BitVec 128) : (s.installCue e w).host = s.host := by unfold State.installCue; split <;> simp
@[simp] theorem State.installCue_boot (s : State) (e : Nat) (w : BitVec 128) : (s.installCue e w).boot = s.boot := by unfold State.installCue; split <;> simp
@[simp] theorem State.installCue_gk (s : State) (e : Nat) (w : BitVec 128) : (s.installCue e w).gk = s.gk := by unfold State.installCue; split <;> simp
@[simp] theorem State.installCue_od (s : State) (e : Nat) (w : BitVec 128) : (s.installCue e w).od = s.od := by unfold State.installCue; split <;> simp
@[simp] theorem State.installCue_mem (s : State) (e : Nat) (w : BitVec 128) : (s.installCue e w).mem = s.mem := by unfold State.installCue; split <;> simp
@[simp] theorem State.installCue_rg (s : State) (e : Nat) (w : BitVec 128) : (s.installCue e w).rg = s.rg := by unfold State.installCue; split <;> simp
@[simp] theorem State.installCue_qn (s : State) (e : Nat) (w : BitVec 128) : (s.installCue e w).qn = s.qn := by unfold State.installCue; split <;> simp
@[simp] theorem State.installCue_nc (s : State) (e : Nat) (w : BitVec 128) : (s.installCue e w).nc = s.nc := by unfold State.installCue; split <;> simp
@[simp] theorem State.installCue_rs (s : State) (e : Nat) (w : BitVec 128) : (s.installCue e w).rs = s.rs := by unfold State.installCue; split <;> simp
@[simp] theorem State.installCue_ref (s : State) (e : Nat) (w : BitVec 128) : (s.installCue e w).ref = s.ref := by unfold State.installCue; split <;> simp
@[simp] theorem State.installCue_pkg (s : State) (e : Nat) (w : BitVec 128) : (s.installCue e w).pkg = s.pkg := by unfold State.installCue; split <;> simp
@[simp] theorem State.installCue_st (s : State) (e : Nat) (w : BitVec 128) : (s.installCue e w).st = s.st := by unfold State.installCue; split <;> simp
@[simp] theorem State.installCue_out (s : State) (e : Nat) (w : BitVec 128) : (s.installCue e w).out = s.out := by unfold State.installCue; split <;> simp
@[simp] theorem State.installCue_free (s : State) (e : Nat) (w : BitVec 128) : (s.installCue e w).free = s.free := by unfold State.installCue; split <;> simp
@[simp] theorem State.installCue_pending (s : State) (e : Nat) (w : BitVec 128) : (s.installCue e w).pending = s.pending := by unfold State.installCue; split <;> simp

/-! ### `State.decideGroup` -/

@[simp] theorem State.decideGroup_clk (s : State) (w : BitVec 128) : (s.decideGroup w).clk = s.clk := by unfold State.decideGroup; (try dsimp only) <;> (repeat' split) <;> (try simp [apply_ite State.clk])
@[simp] theorem State.decideGroup_wc (s : State) (w : BitVec 128) : (s.decideGroup w).wc = s.wc := by unfold State.decideGroup; (try dsimp only) <;> (repeat' split) <;> (try simp [apply_ite State.wc])
@[simp] theorem State.decideGroup_link (s : State) (w : BitVec 128) : (s.decideGroup w).link = s.link := by unfold State.decideGroup; (try dsimp only) <;> (repeat' split) <;> (try simp [apply_ite State.link])
@[simp] theorem State.decideGroup_can (s : State) (w : BitVec 128) : (s.decideGroup w).can = s.can := by unfold State.decideGroup; (try dsimp only) <;> (repeat' split) <;> (try simp [apply_ite State.can])
@[simp] theorem State.decideGroup_pwr (s : State) (w : BitVec 128) : (s.decideGroup w).pwr = s.pwr := by unfold State.decideGroup; (try dsimp only) <;> (repeat' split) <;> (try simp [apply_ite State.pwr])
@[simp] theorem State.decideGroup_ic (s : State) (w : BitVec 128) : (s.decideGroup w).ic = s.ic := by unfold State.decideGroup; (try dsimp only) <;> (repeat' split) <;> (try simp [apply_ite State.ic])
@[simp] theorem State.decideGroup_isp (s : State) (w : BitVec 128) : (s.decideGroup w).isp = s.isp := by unfold State.decideGroup; (try dsimp only) <;> (repeat' split) <;> (try simp [apply_ite State.isp])
@[simp] theorem State.decideGroup_host (s : State) (w : BitVec 128) : (s.decideGroup w).host = s.host := by unfold State.decideGroup; (try dsimp only) <;> (repeat' split) <;> (try simp [apply_ite State.host])
@[simp] theorem State.decideGroup_boot (s : State) (w : BitVec 128) : (s.decideGroup w).boot = s.boot := by unfold State.decideGroup; (try dsimp only) <;> (repeat' split) <;> (try simp [apply_ite State.boot])
@[simp] theorem State.decideGroup_gk (s : State) (w : BitVec 128) : (s.decideGroup w).gk = s.gk := by unfold State.decideGroup; (try dsimp only) <;> (repeat' split) <;> (try simp [apply_ite State.gk])
@[simp] theorem State.decideGroup_od (s : State) (w : BitVec 128) : (s.decideGroup w).od = s.od := by unfold State.decideGroup; (try dsimp only) <;> (repeat' split) <;> (try simp [apply_ite State.od])
@[simp] theorem State.decideGroup_mem (s : State) (w : BitVec 128) : (s.decideGroup w).mem = s.mem := by unfold State.decideGroup; (try dsimp only) <;> (repeat' split) <;> (try simp [apply_ite State.mem])
@[simp] theorem State.decideGroup_rg (s : State) (w : BitVec 128) : (s.decideGroup w).rg = s.rg := by unfold State.decideGroup; (try dsimp only) <;> (repeat' split) <;> (try simp [apply_ite State.rg])
@[simp] theorem State.decideGroup_qn (s : State) (w : BitVec 128) : (s.decideGroup w).qn = s.qn := by unfold State.decideGroup; (try dsimp only) <;> (repeat' split) <;> (try simp [apply_ite State.qn])
@[simp] theorem State.decideGroup_nc (s : State) (w : BitVec 128) : (s.decideGroup w).nc = s.nc := by unfold State.decideGroup; (try dsimp only) <;> (repeat' split) <;> (try simp [apply_ite State.nc])
@[simp] theorem State.decideGroup_rs (s : State) (w : BitVec 128) : (s.decideGroup w).rs = s.rs := by unfold State.decideGroup; (try dsimp only) <;> (repeat' split) <;> (try simp [apply_ite State.rs])
@[simp] theorem State.decideGroup_ref (s : State) (w : BitVec 128) : (s.decideGroup w).ref = s.ref := by unfold State.decideGroup; (try dsimp only) <;> (repeat' split) <;> (try simp [apply_ite State.ref])
@[simp] theorem State.decideGroup_pkg (s : State) (w : BitVec 128) : (s.decideGroup w).pkg = s.pkg := by unfold State.decideGroup; (try dsimp only) <;> (repeat' split) <;> (try simp [apply_ite State.pkg])
@[simp] theorem State.decideGroup_st (s : State) (w : BitVec 128) : (s.decideGroup w).st = s.st := by unfold State.decideGroup; (try dsimp only) <;> (repeat' split) <;> (try simp [apply_ite State.st])
@[simp] theorem State.decideGroup_out (s : State) (w : BitVec 128) : (s.decideGroup w).out = s.out := by unfold State.decideGroup; (try dsimp only) <;> (repeat' split) <;> (try simp [apply_ite State.out])
@[simp] theorem State.decideGroup_free (s : State) (w : BitVec 128) : (s.decideGroup w).free = s.free := by unfold State.decideGroup; (try dsimp only) <;> (repeat' split) <;> (try simp [apply_ite State.free])
@[simp] theorem State.decideGroup_pending (s : State) (w : BitVec 128) : (s.decideGroup w).pending = s.pending := by unfold State.decideGroup; (try dsimp only) <;> (repeat' split) <;> (try simp [apply_ite State.pending])

/-! ### `State.freeCue` -/

@[simp] theorem State.freeCue_clk (s : State) (e : Nat) (c : Bool) : (s.freeCue e c).clk = s.clk := by unfold State.freeCue; (try dsimp only) <;> (repeat' split) <;> (try simp [apply_ite State.clk])
@[simp] theorem State.freeCue_fd (s : State) (e : Nat) (c : Bool) : (s.freeCue e c).fd = s.fd := by unfold State.freeCue; (try dsimp only) <;> (repeat' split) <;> (try simp [apply_ite State.fd])
@[simp] theorem State.freeCue_wc (s : State) (e : Nat) (c : Bool) : (s.freeCue e c).wc = s.wc := by unfold State.freeCue; (try dsimp only) <;> (repeat' split) <;> (try simp [apply_ite State.wc])
@[simp] theorem State.freeCue_link (s : State) (e : Nat) (c : Bool) : (s.freeCue e c).link = s.link := by unfold State.freeCue; (try dsimp only) <;> (repeat' split) <;> (try simp [apply_ite State.link])
@[simp] theorem State.freeCue_rep (s : State) (e : Nat) (c : Bool) : (s.freeCue e c).rep = s.rep := by unfold State.freeCue; (try dsimp only) <;> (repeat' split) <;> (try simp [apply_ite State.rep])
@[simp] theorem State.freeCue_can (s : State) (e : Nat) (c : Bool) : (s.freeCue e c).can = s.can := by unfold State.freeCue; (try dsimp only) <;> (repeat' split) <;> (try simp [apply_ite State.can])
@[simp] theorem State.freeCue_pwr (s : State) (e : Nat) (c : Bool) : (s.freeCue e c).pwr = s.pwr := by unfold State.freeCue; (try dsimp only) <;> (repeat' split) <;> (try simp [apply_ite State.pwr])
@[simp] theorem State.freeCue_ic (s : State) (e : Nat) (c : Bool) : (s.freeCue e c).ic = s.ic := by unfold State.freeCue; (try dsimp only) <;> (repeat' split) <;> (try simp [apply_ite State.ic])
@[simp] theorem State.freeCue_isp (s : State) (e : Nat) (c : Bool) : (s.freeCue e c).isp = s.isp := by unfold State.freeCue; (try dsimp only) <;> (repeat' split) <;> (try simp [apply_ite State.isp])
@[simp] theorem State.freeCue_host (s : State) (e : Nat) (c : Bool) : (s.freeCue e c).host = s.host := by unfold State.freeCue; (try dsimp only) <;> (repeat' split) <;> (try simp [apply_ite State.host])
@[simp] theorem State.freeCue_boot (s : State) (e : Nat) (c : Bool) : (s.freeCue e c).boot = s.boot := by unfold State.freeCue; (try dsimp only) <;> (repeat' split) <;> (try simp [apply_ite State.boot])
@[simp] theorem State.freeCue_gk (s : State) (e : Nat) (c : Bool) : (s.freeCue e c).gk = s.gk := by unfold State.freeCue; (try dsimp only) <;> (repeat' split) <;> (try simp [apply_ite State.gk])
@[simp] theorem State.freeCue_od (s : State) (e : Nat) (c : Bool) : (s.freeCue e c).od = s.od := by unfold State.freeCue; (try dsimp only) <;> (repeat' split) <;> (try simp [apply_ite State.od])
@[simp] theorem State.freeCue_mem (s : State) (e : Nat) (c : Bool) : (s.freeCue e c).mem = s.mem := by unfold State.freeCue; (try dsimp only) <;> (repeat' split) <;> (try simp [apply_ite State.mem])
@[simp] theorem State.freeCue_rg (s : State) (e : Nat) (c : Bool) : (s.freeCue e c).rg = s.rg := by unfold State.freeCue; (try dsimp only) <;> (repeat' split) <;> (try simp [apply_ite State.rg])
@[simp] theorem State.freeCue_qn (s : State) (e : Nat) (c : Bool) : (s.freeCue e c).qn = s.qn := by unfold State.freeCue; (try dsimp only) <;> (repeat' split) <;> (try simp [apply_ite State.qn])
@[simp] theorem State.freeCue_nc (s : State) (e : Nat) (c : Bool) : (s.freeCue e c).nc = s.nc := by unfold State.freeCue; (try dsimp only) <;> (repeat' split) <;> (try simp [apply_ite State.nc])
@[simp] theorem State.freeCue_rs (s : State) (e : Nat) (c : Bool) : (s.freeCue e c).rs = s.rs := by unfold State.freeCue; (try dsimp only) <;> (repeat' split) <;> (try simp [apply_ite State.rs])
@[simp] theorem State.freeCue_ref (s : State) (e : Nat) (c : Bool) : (s.freeCue e c).ref = s.ref := by unfold State.freeCue; (try dsimp only) <;> (repeat' split) <;> (try simp [apply_ite State.ref])
@[simp] theorem State.freeCue_pkg (s : State) (e : Nat) (c : Bool) : (s.freeCue e c).pkg = s.pkg := by unfold State.freeCue; (try dsimp only) <;> (repeat' split) <;> (try simp [apply_ite State.pkg])
@[simp] theorem State.freeCue_st (s : State) (e : Nat) (c : Bool) : (s.freeCue e c).st = s.st := by unfold State.freeCue; (try dsimp only) <;> (repeat' split) <;> (try simp [apply_ite State.st])
@[simp] theorem State.freeCue_out (s : State) (e : Nat) (c : Bool) : (s.freeCue e c).out = s.out := by unfold State.freeCue; (try dsimp only) <;> (repeat' split) <;> (try simp [apply_ite State.out])
@[simp] theorem State.freeCue_free (s : State) (e : Nat) (c : Bool) : (s.freeCue e c).free = s.free := by unfold State.freeCue; (try dsimp only) <;> (repeat' split) <;> (try simp [apply_ite State.free])
@[simp] theorem State.freeCue_pending (s : State) (e : Nat) (c : Bool) : (s.freeCue e c).pending = s.pending := by unfold State.freeCue; (try dsimp only) <;> (repeat' split) <;> (try simp [apply_ite State.pending])

/-! ### `State.crossTrigger` -/

@[simp] theorem State.crossTrigger_clk (s : State) (e : Nat) : (s.crossTrigger e).clk = s.clk := by unfold State.crossTrigger; (try dsimp only) <;> (repeat' split) <;> (try simp [apply_ite State.clk])
@[simp] theorem State.crossTrigger_wc (s : State) (e : Nat) : (s.crossTrigger e).wc = s.wc := by unfold State.crossTrigger; (try dsimp only) <;> (repeat' split) <;> (try simp [apply_ite State.wc])
@[simp] theorem State.crossTrigger_link (s : State) (e : Nat) : (s.crossTrigger e).link = s.link := by unfold State.crossTrigger; (try dsimp only) <;> (repeat' split) <;> (try simp [apply_ite State.link])
@[simp] theorem State.crossTrigger_can (s : State) (e : Nat) : (s.crossTrigger e).can = s.can := by unfold State.crossTrigger; (try dsimp only) <;> (repeat' split) <;> (try simp [apply_ite State.can])
@[simp] theorem State.crossTrigger_pwr (s : State) (e : Nat) : (s.crossTrigger e).pwr = s.pwr := by unfold State.crossTrigger; (try dsimp only) <;> (repeat' split) <;> (try simp [apply_ite State.pwr])
@[simp] theorem State.crossTrigger_ic (s : State) (e : Nat) : (s.crossTrigger e).ic = s.ic := by unfold State.crossTrigger; (try dsimp only) <;> (repeat' split) <;> (try simp [apply_ite State.ic])
@[simp] theorem State.crossTrigger_isp (s : State) (e : Nat) : (s.crossTrigger e).isp = s.isp := by unfold State.crossTrigger; (try dsimp only) <;> (repeat' split) <;> (try simp [apply_ite State.isp])
@[simp] theorem State.crossTrigger_host (s : State) (e : Nat) : (s.crossTrigger e).host = s.host := by unfold State.crossTrigger; (try dsimp only) <;> (repeat' split) <;> (try simp [apply_ite State.host])
@[simp] theorem State.crossTrigger_boot (s : State) (e : Nat) : (s.crossTrigger e).boot = s.boot := by unfold State.crossTrigger; (try dsimp only) <;> (repeat' split) <;> (try simp [apply_ite State.boot])
@[simp] theorem State.crossTrigger_gk (s : State) (e : Nat) : (s.crossTrigger e).gk = s.gk := by unfold State.crossTrigger; (try dsimp only) <;> (repeat' split) <;> (try simp [apply_ite State.gk])
@[simp] theorem State.crossTrigger_od (s : State) (e : Nat) : (s.crossTrigger e).od = s.od := by unfold State.crossTrigger; (try dsimp only) <;> (repeat' split) <;> (try simp [apply_ite State.od])
@[simp] theorem State.crossTrigger_mem (s : State) (e : Nat) : (s.crossTrigger e).mem = s.mem := by unfold State.crossTrigger; (try dsimp only) <;> (repeat' split) <;> (try simp [apply_ite State.mem])
@[simp] theorem State.crossTrigger_rg (s : State) (e : Nat) : (s.crossTrigger e).rg = s.rg := by unfold State.crossTrigger; (try dsimp only) <;> (repeat' split) <;> (try simp [apply_ite State.rg])
@[simp] theorem State.crossTrigger_qn (s : State) (e : Nat) : (s.crossTrigger e).qn = s.qn := by unfold State.crossTrigger; (try dsimp only) <;> (repeat' split) <;> (try simp [apply_ite State.qn])
@[simp] theorem State.crossTrigger_nc (s : State) (e : Nat) : (s.crossTrigger e).nc = s.nc := by unfold State.crossTrigger; (try dsimp only) <;> (repeat' split) <;> (try simp [apply_ite State.nc])
@[simp] theorem State.crossTrigger_rs (s : State) (e : Nat) : (s.crossTrigger e).rs = s.rs := by unfold State.crossTrigger; (try dsimp only) <;> (repeat' split) <;> (try simp [apply_ite State.rs])
@[simp] theorem State.crossTrigger_ref (s : State) (e : Nat) : (s.crossTrigger e).ref = s.ref := by unfold State.crossTrigger; (try dsimp only) <;> (repeat' split) <;> (try simp [apply_ite State.ref])
@[simp] theorem State.crossTrigger_pkg (s : State) (e : Nat) : (s.crossTrigger e).pkg = s.pkg := by unfold State.crossTrigger; (try dsimp only) <;> (repeat' split) <;> (try simp [apply_ite State.pkg])
@[simp] theorem State.crossTrigger_st (s : State) (e : Nat) : (s.crossTrigger e).st = s.st := by unfold State.crossTrigger; (try dsimp only) <;> (repeat' split) <;> (try simp [apply_ite State.st])
@[simp] theorem State.crossTrigger_out (s : State) (e : Nat) : (s.crossTrigger e).out = s.out := by unfold State.crossTrigger; (try dsimp only) <;> (repeat' split) <;> (try simp [apply_ite State.out])
@[simp] theorem State.crossTrigger_free (s : State) (e : Nat) : (s.crossTrigger e).free = s.free := by unfold State.crossTrigger; (try dsimp only) <;> (repeat' split) <;> (try simp [apply_ite State.free])
@[simp] theorem State.crossTrigger_pending (s : State) (e : Nat) : (s.crossTrigger e).pending = s.pending := by unfold State.crossTrigger; (try dsimp only) <;> (repeat' split) <;> (try simp [apply_ite State.pending])

/-! ### `State.crossKick` -/

@[simp] theorem State.crossKick_clk (s : State) (e : Nat) : (s.crossKick e).clk = s.clk := by unfold State.crossKick; (try dsimp only) <;> (repeat' split) <;> (try simp [apply_ite State.clk])
@[simp] theorem State.crossKick_wc (s : State) (e : Nat) : (s.crossKick e).wc = s.wc := by unfold State.crossKick; (try dsimp only) <;> (repeat' split) <;> (try simp [apply_ite State.wc])
@[simp] theorem State.crossKick_link (s : State) (e : Nat) : (s.crossKick e).link = s.link := by unfold State.crossKick; (try dsimp only) <;> (repeat' split) <;> (try simp [apply_ite State.link])
@[simp] theorem State.crossKick_can (s : State) (e : Nat) : (s.crossKick e).can = s.can := by unfold State.crossKick; (try dsimp only) <;> (repeat' split) <;> (try simp [apply_ite State.can])
@[simp] theorem State.crossKick_pwr (s : State) (e : Nat) : (s.crossKick e).pwr = s.pwr := by unfold State.crossKick; (try dsimp only) <;> (repeat' split) <;> (try simp [apply_ite State.pwr])
@[simp] theorem State.crossKick_ic (s : State) (e : Nat) : (s.crossKick e).ic = s.ic := by unfold State.crossKick; (try dsimp only) <;> (repeat' split) <;> (try simp [apply_ite State.ic])
@[simp] theorem State.crossKick_isp (s : State) (e : Nat) : (s.crossKick e).isp = s.isp := by unfold State.crossKick; (try dsimp only) <;> (repeat' split) <;> (try simp [apply_ite State.isp])
@[simp] theorem State.crossKick_host (s : State) (e : Nat) : (s.crossKick e).host = s.host := by unfold State.crossKick; (try dsimp only) <;> (repeat' split) <;> (try simp [apply_ite State.host])
@[simp] theorem State.crossKick_boot (s : State) (e : Nat) : (s.crossKick e).boot = s.boot := by unfold State.crossKick; (try dsimp only) <;> (repeat' split) <;> (try simp [apply_ite State.boot])
@[simp] theorem State.crossKick_gk (s : State) (e : Nat) : (s.crossKick e).gk = s.gk := by unfold State.crossKick; (try dsimp only) <;> (repeat' split) <;> (try simp [apply_ite State.gk])
@[simp] theorem State.crossKick_od (s : State) (e : Nat) : (s.crossKick e).od = s.od := by unfold State.crossKick; (try dsimp only) <;> (repeat' split) <;> (try simp [apply_ite State.od])
@[simp] theorem State.crossKick_mem (s : State) (e : Nat) : (s.crossKick e).mem = s.mem := by unfold State.crossKick; (try dsimp only) <;> (repeat' split) <;> (try simp [apply_ite State.mem])
@[simp] theorem State.crossKick_rg (s : State) (e : Nat) : (s.crossKick e).rg = s.rg := by unfold State.crossKick; (try dsimp only) <;> (repeat' split) <;> (try simp [apply_ite State.rg])
@[simp] theorem State.crossKick_qn (s : State) (e : Nat) : (s.crossKick e).qn = s.qn := by unfold State.crossKick; (try dsimp only) <;> (repeat' split) <;> (try simp [apply_ite State.qn])
@[simp] theorem State.crossKick_nc (s : State) (e : Nat) : (s.crossKick e).nc = s.nc := by unfold State.crossKick; (try dsimp only) <;> (repeat' split) <;> (try simp [apply_ite State.nc])
@[simp] theorem State.crossKick_rs (s : State) (e : Nat) : (s.crossKick e).rs = s.rs := by unfold State.crossKick; (try dsimp only) <;> (repeat' split) <;> (try simp [apply_ite State.rs])
@[simp] theorem State.crossKick_ref (s : State) (e : Nat) : (s.crossKick e).ref = s.ref := by unfold State.crossKick; (try dsimp only) <;> (repeat' split) <;> (try simp [apply_ite State.ref])
@[simp] theorem State.crossKick_pkg (s : State) (e : Nat) : (s.crossKick e).pkg = s.pkg := by unfold State.crossKick; (try dsimp only) <;> (repeat' split) <;> (try simp [apply_ite State.pkg])
@[simp] theorem State.crossKick_st (s : State) (e : Nat) : (s.crossKick e).st = s.st := by unfold State.crossKick; (try dsimp only) <;> (repeat' split) <;> (try simp [apply_ite State.st])
@[simp] theorem State.crossKick_out (s : State) (e : Nat) : (s.crossKick e).out = s.out := by unfold State.crossKick; (try dsimp only) <;> (repeat' split) <;> (try simp [apply_ite State.out])
@[simp] theorem State.crossKick_free (s : State) (e : Nat) : (s.crossKick e).free = s.free := by unfold State.crossKick; (try dsimp only) <;> (repeat' split) <;> (try simp [apply_ite State.free])
@[simp] theorem State.crossKick_pending (s : State) (e : Nat) : (s.crossKick e).pending = s.pending := by unfold State.crossKick; (try dsimp only) <;> (repeat' split) <;> (try simp [apply_ite State.pending])

/-! ### `State.crossCue` -/

@[simp] theorem State.crossCue_clk (s : State) (e : Nat) : (s.crossCue e).clk = s.clk := by unfold State.crossCue; (try dsimp only) <;> (repeat' split) <;> (try simp [apply_ite State.clk])
@[simp] theorem State.crossCue_wc (s : State) (e : Nat) : (s.crossCue e).wc = s.wc := by unfold State.crossCue; (try dsimp only) <;> (repeat' split) <;> (try simp [apply_ite State.wc])
@[simp] theorem State.crossCue_link (s : State) (e : Nat) : (s.crossCue e).link = s.link := by unfold State.crossCue; (try dsimp only) <;> (repeat' split) <;> (try simp [apply_ite State.link])
@[simp] theorem State.crossCue_can (s : State) (e : Nat) : (s.crossCue e).can = s.can := by unfold State.crossCue; (try dsimp only) <;> (repeat' split) <;> (try simp [apply_ite State.can])
@[simp] theorem State.crossCue_pwr (s : State) (e : Nat) : (s.crossCue e).pwr = s.pwr := by unfold State.crossCue; (try dsimp only) <;> (repeat' split) <;> (try simp [apply_ite State.pwr])
@[simp] theorem State.crossCue_ic (s : State) (e : Nat) : (s.crossCue e).ic = s.ic := by unfold State.crossCue; (try dsimp only) <;> (repeat' split) <;> (try simp [apply_ite State.ic])
@[simp] theorem State.crossCue_isp (s : State) (e : Nat) : (s.crossCue e).isp = s.isp := by unfold State.crossCue; (try dsimp only) <;> (repeat' split) <;> (try simp [apply_ite State.isp])
@[simp] theorem State.crossCue_host (s : State) (e : Nat) : (s.crossCue e).host = s.host := by unfold State.crossCue; (try dsimp only) <;> (repeat' split) <;> (try simp [apply_ite State.host])
@[simp] theorem State.crossCue_boot (s : State) (e : Nat) : (s.crossCue e).boot = s.boot := by unfold State.crossCue; (try dsimp only) <;> (repeat' split) <;> (try simp [apply_ite State.boot])
@[simp] theorem State.crossCue_gk (s : State) (e : Nat) : (s.crossCue e).gk = s.gk := by unfold State.crossCue; (try dsimp only) <;> (repeat' split) <;> (try simp [apply_ite State.gk])
@[simp] theorem State.crossCue_od (s : State) (e : Nat) : (s.crossCue e).od = s.od := by unfold State.crossCue; (try dsimp only) <;> (repeat' split) <;> (try simp [apply_ite State.od])
@[simp] theorem State.crossCue_mem (s : State) (e : Nat) : (s.crossCue e).mem = s.mem := by unfold State.crossCue; (try dsimp only) <;> (repeat' split) <;> (try simp [apply_ite State.mem])
@[simp] theorem State.crossCue_rg (s : State) (e : Nat) : (s.crossCue e).rg = s.rg := by unfold State.crossCue; (try dsimp only) <;> (repeat' split) <;> (try simp [apply_ite State.rg])
@[simp] theorem State.crossCue_qn (s : State) (e : Nat) : (s.crossCue e).qn = s.qn := by unfold State.crossCue; (try dsimp only) <;> (repeat' split) <;> (try simp [apply_ite State.qn])
@[simp] theorem State.crossCue_nc (s : State) (e : Nat) : (s.crossCue e).nc = s.nc := by unfold State.crossCue; (try dsimp only) <;> (repeat' split) <;> (try simp [apply_ite State.nc])
@[simp] theorem State.crossCue_rs (s : State) (e : Nat) : (s.crossCue e).rs = s.rs := by unfold State.crossCue; (try dsimp only) <;> (repeat' split) <;> (try simp [apply_ite State.rs])
@[simp] theorem State.crossCue_ref (s : State) (e : Nat) : (s.crossCue e).ref = s.ref := by unfold State.crossCue; (try dsimp only) <;> (repeat' split) <;> (try simp [apply_ite State.ref])
@[simp] theorem State.crossCue_pkg (s : State) (e : Nat) : (s.crossCue e).pkg = s.pkg := by unfold State.crossCue; (try dsimp only) <;> (repeat' split) <;> (try simp [apply_ite State.pkg])
@[simp] theorem State.crossCue_st (s : State) (e : Nat) : (s.crossCue e).st = s.st := by unfold State.crossCue; (try dsimp only) <;> (repeat' split) <;> (try simp [apply_ite State.st])
@[simp] theorem State.crossCue_out (s : State) (e : Nat) : (s.crossCue e).out = s.out := by unfold State.crossCue; (try dsimp only) <;> (repeat' split) <;> (try simp [apply_ite State.out])
@[simp] theorem State.crossCue_free (s : State) (e : Nat) : (s.crossCue e).free = s.free := by unfold State.crossCue; (try dsimp only) <;> (repeat' split) <;> (try simp [apply_ite State.free])
@[simp] theorem State.crossCue_pending (s : State) (e : Nat) : (s.crossCue e).pending = s.pending := by unfold State.crossCue; (try dsimp only) <;> (repeat' split) <;> (try simp [apply_ite State.pending])

/-! ### `State.expireCue` -/

@[simp] theorem State.expireCue_clk (s : State) (e : Nat) : (s.expireCue e).clk = s.clk := by unfold State.expireCue; (try dsimp only) <;> (repeat' split) <;> (try simp [apply_ite State.clk])
@[simp] theorem State.expireCue_wc (s : State) (e : Nat) : (s.expireCue e).wc = s.wc := by unfold State.expireCue; (try dsimp only) <;> (repeat' split) <;> (try simp [apply_ite State.wc])
@[simp] theorem State.expireCue_link (s : State) (e : Nat) : (s.expireCue e).link = s.link := by unfold State.expireCue; (try dsimp only) <;> (repeat' split) <;> (try simp [apply_ite State.link])
@[simp] theorem State.expireCue_can (s : State) (e : Nat) : (s.expireCue e).can = s.can := by unfold State.expireCue; (try dsimp only) <;> (repeat' split) <;> (try simp [apply_ite State.can])
@[simp] theorem State.expireCue_pwr (s : State) (e : Nat) : (s.expireCue e).pwr = s.pwr := by unfold State.expireCue; (try dsimp only) <;> (repeat' split) <;> (try simp [apply_ite State.pwr])
@[simp] theorem State.expireCue_ic (s : State) (e : Nat) : (s.expireCue e).ic = s.ic := by unfold State.expireCue; (try dsimp only) <;> (repeat' split) <;> (try simp [apply_ite State.ic])
@[simp] theorem State.expireCue_isp (s : State) (e : Nat) : (s.expireCue e).isp = s.isp := by unfold State.expireCue; (try dsimp only) <;> (repeat' split) <;> (try simp [apply_ite State.isp])
@[simp] theorem State.expireCue_host (s : State) (e : Nat) : (s.expireCue e).host = s.host := by unfold State.expireCue; (try dsimp only) <;> (repeat' split) <;> (try simp [apply_ite State.host])
@[simp] theorem State.expireCue_boot (s : State) (e : Nat) : (s.expireCue e).boot = s.boot := by unfold State.expireCue; (try dsimp only) <;> (repeat' split) <;> (try simp [apply_ite State.boot])
@[simp] theorem State.expireCue_gk (s : State) (e : Nat) : (s.expireCue e).gk = s.gk := by unfold State.expireCue; (try dsimp only) <;> (repeat' split) <;> (try simp [apply_ite State.gk])
@[simp] theorem State.expireCue_od (s : State) (e : Nat) : (s.expireCue e).od = s.od := by unfold State.expireCue; (try dsimp only) <;> (repeat' split) <;> (try simp [apply_ite State.od])
@[simp] theorem State.expireCue_mem (s : State) (e : Nat) : (s.expireCue e).mem = s.mem := by unfold State.expireCue; (try dsimp only) <;> (repeat' split) <;> (try simp [apply_ite State.mem])
@[simp] theorem State.expireCue_rg (s : State) (e : Nat) : (s.expireCue e).rg = s.rg := by unfold State.expireCue; (try dsimp only) <;> (repeat' split) <;> (try simp [apply_ite State.rg])
@[simp] theorem State.expireCue_qn (s : State) (e : Nat) : (s.expireCue e).qn = s.qn := by unfold State.expireCue; (try dsimp only) <;> (repeat' split) <;> (try simp [apply_ite State.qn])
@[simp] theorem State.expireCue_nc (s : State) (e : Nat) : (s.expireCue e).nc = s.nc := by unfold State.expireCue; (try dsimp only) <;> (repeat' split) <;> (try simp [apply_ite State.nc])
@[simp] theorem State.expireCue_rs (s : State) (e : Nat) : (s.expireCue e).rs = s.rs := by unfold State.expireCue; (try dsimp only) <;> (repeat' split) <;> (try simp [apply_ite State.rs])
@[simp] theorem State.expireCue_ref (s : State) (e : Nat) : (s.expireCue e).ref = s.ref := by unfold State.expireCue; (try dsimp only) <;> (repeat' split) <;> (try simp [apply_ite State.ref])
@[simp] theorem State.expireCue_pkg (s : State) (e : Nat) : (s.expireCue e).pkg = s.pkg := by unfold State.expireCue; (try dsimp only) <;> (repeat' split) <;> (try simp [apply_ite State.pkg])
@[simp] theorem State.expireCue_st (s : State) (e : Nat) : (s.expireCue e).st = s.st := by unfold State.expireCue; (try dsimp only) <;> (repeat' split) <;> (try simp [apply_ite State.st])
@[simp] theorem State.expireCue_out (s : State) (e : Nat) : (s.expireCue e).out = s.out := by unfold State.expireCue; (try dsimp only) <;> (repeat' split) <;> (try simp [apply_ite State.out])
@[simp] theorem State.expireCue_free (s : State) (e : Nat) : (s.expireCue e).free = s.free := by unfold State.expireCue; (try dsimp only) <;> (repeat' split) <;> (try simp [apply_ite State.free])
@[simp] theorem State.expireCue_pending (s : State) (e : Nat) : (s.expireCue e).pending = s.pending := by unfold State.expireCue; (try dsimp only) <;> (repeat' split) <;> (try simp [apply_ite State.pending])

/-! ### `State.writeVerdict` -/

@[simp] theorem State.writeVerdict_clk (s : State) (e v : Nat) : (s.writeVerdict e v).clk = s.clk := by unfold State.writeVerdict; (try dsimp only) <;> (repeat' split) <;> (try simp [apply_ite State.clk])
@[simp] theorem State.writeVerdict_wc (s : State) (e v : Nat) : (s.writeVerdict e v).wc = s.wc := by unfold State.writeVerdict; (try dsimp only) <;> (repeat' split) <;> (try simp [apply_ite State.wc])
@[simp] theorem State.writeVerdict_link (s : State) (e v : Nat) : (s.writeVerdict e v).link = s.link := by unfold State.writeVerdict; (try dsimp only) <;> (repeat' split) <;> (try simp [apply_ite State.link])
@[simp] theorem State.writeVerdict_can (s : State) (e v : Nat) : (s.writeVerdict e v).can = s.can := by unfold State.writeVerdict; (try dsimp only) <;> (repeat' split) <;> (try simp [apply_ite State.can])
@[simp] theorem State.writeVerdict_pwr (s : State) (e v : Nat) : (s.writeVerdict e v).pwr = s.pwr := by unfold State.writeVerdict; (try dsimp only) <;> (repeat' split) <;> (try simp [apply_ite State.pwr])
@[simp] theorem State.writeVerdict_ic (s : State) (e v : Nat) : (s.writeVerdict e v).ic = s.ic := by unfold State.writeVerdict; (try dsimp only) <;> (repeat' split) <;> (try simp [apply_ite State.ic])
@[simp] theorem State.writeVerdict_isp (s : State) (e v : Nat) : (s.writeVerdict e v).isp = s.isp := by unfold State.writeVerdict; (try dsimp only) <;> (repeat' split) <;> (try simp [apply_ite State.isp])
@[simp] theorem State.writeVerdict_host (s : State) (e v : Nat) : (s.writeVerdict e v).host = s.host := by unfold State.writeVerdict; (try dsimp only) <;> (repeat' split) <;> (try simp [apply_ite State.host])
@[simp] theorem State.writeVerdict_boot (s : State) (e v : Nat) : (s.writeVerdict e v).boot = s.boot := by unfold State.writeVerdict; (try dsimp only) <;> (repeat' split) <;> (try simp [apply_ite State.boot])
@[simp] theorem State.writeVerdict_gk (s : State) (e v : Nat) : (s.writeVerdict e v).gk = s.gk := by unfold State.writeVerdict; (try dsimp only) <;> (repeat' split) <;> (try simp [apply_ite State.gk])
@[simp] theorem State.writeVerdict_od (s : State) (e v : Nat) : (s.writeVerdict e v).od = s.od := by unfold State.writeVerdict; (try dsimp only) <;> (repeat' split) <;> (try simp [apply_ite State.od])
@[simp] theorem State.writeVerdict_mem (s : State) (e v : Nat) : (s.writeVerdict e v).mem = s.mem := by unfold State.writeVerdict; (try dsimp only) <;> (repeat' split) <;> (try simp [apply_ite State.mem])
@[simp] theorem State.writeVerdict_rg (s : State) (e v : Nat) : (s.writeVerdict e v).rg = s.rg := by unfold State.writeVerdict; (try dsimp only) <;> (repeat' split) <;> (try simp [apply_ite State.rg])
@[simp] theorem State.writeVerdict_qn (s : State) (e v : Nat) : (s.writeVerdict e v).qn = s.qn := by unfold State.writeVerdict; (try dsimp only) <;> (repeat' split) <;> (try simp [apply_ite State.qn])
@[simp] theorem State.writeVerdict_nc (s : State) (e v : Nat) : (s.writeVerdict e v).nc = s.nc := by unfold State.writeVerdict; (try dsimp only) <;> (repeat' split) <;> (try simp [apply_ite State.nc])
@[simp] theorem State.writeVerdict_rs (s : State) (e v : Nat) : (s.writeVerdict e v).rs = s.rs := by unfold State.writeVerdict; (try dsimp only) <;> (repeat' split) <;> (try simp [apply_ite State.rs])
@[simp] theorem State.writeVerdict_ref (s : State) (e v : Nat) : (s.writeVerdict e v).ref = s.ref := by unfold State.writeVerdict; (try dsimp only) <;> (repeat' split) <;> (try simp [apply_ite State.ref])
@[simp] theorem State.writeVerdict_pkg (s : State) (e v : Nat) : (s.writeVerdict e v).pkg = s.pkg := by unfold State.writeVerdict; (try dsimp only) <;> (repeat' split) <;> (try simp [apply_ite State.pkg])
@[simp] theorem State.writeVerdict_st (s : State) (e v : Nat) : (s.writeVerdict e v).st = s.st := by unfold State.writeVerdict; (try dsimp only) <;> (repeat' split) <;> (try simp [apply_ite State.st])
@[simp] theorem State.writeVerdict_out (s : State) (e v : Nat) : (s.writeVerdict e v).out = s.out := by unfold State.writeVerdict; (try dsimp only) <;> (repeat' split) <;> (try simp [apply_ite State.out])
@[simp] theorem State.writeVerdict_free (s : State) (e v : Nat) : (s.writeVerdict e v).free = s.free := by unfold State.writeVerdict; (try dsimp only) <;> (repeat' split) <;> (try simp [apply_ite State.free])
@[simp] theorem State.writeVerdict_pending (s : State) (e v : Nat) : (s.writeVerdict e v).pending = s.pending := by unfold State.writeVerdict; (try dsimp only) <;> (repeat' split) <;> (try simp [apply_ite State.pending])

/-! ### `State.unseenPending` -/

@[simp] theorem State.unseenPending_clk (s : State)  : (s.unseenPending ).clk = s.clk := by unfold State.unseenPending; (try dsimp only) <;> (repeat' split) <;> (try simp [apply_ite State.clk])
@[simp] theorem State.unseenPending_fd (s : State)  : (s.unseenPending ).fd = s.fd := by unfold State.unseenPending; (try dsimp only) <;> (repeat' split) <;> (try simp [apply_ite State.fd])
@[simp] theorem State.unseenPending_wc (s : State)  : (s.unseenPending ).wc = s.wc := by unfold State.unseenPending; (try dsimp only) <;> (repeat' split) <;> (try simp [apply_ite State.wc])
@[simp] theorem State.unseenPending_link (s : State)  : (s.unseenPending ).link = s.link := by unfold State.unseenPending; (try dsimp only) <;> (repeat' split) <;> (try simp [apply_ite State.link])
@[simp] theorem State.unseenPending_rep (s : State)  : (s.unseenPending ).rep = s.rep := by unfold State.unseenPending; (try dsimp only) <;> (repeat' split) <;> (try simp [apply_ite State.rep])
@[simp] theorem State.unseenPending_can (s : State)  : (s.unseenPending ).can = s.can := by unfold State.unseenPending; (try dsimp only) <;> (repeat' split) <;> (try simp [apply_ite State.can])
@[simp] theorem State.unseenPending_pwr (s : State)  : (s.unseenPending ).pwr = s.pwr := by unfold State.unseenPending; (try dsimp only) <;> (repeat' split) <;> (try simp [apply_ite State.pwr])
@[simp] theorem State.unseenPending_ic (s : State)  : (s.unseenPending ).ic = s.ic := by unfold State.unseenPending; (try dsimp only) <;> (repeat' split) <;> (try simp [apply_ite State.ic])
@[simp] theorem State.unseenPending_isp (s : State)  : (s.unseenPending ).isp = s.isp := by unfold State.unseenPending; (try dsimp only) <;> (repeat' split) <;> (try simp [apply_ite State.isp])
@[simp] theorem State.unseenPending_host (s : State)  : (s.unseenPending ).host = s.host := by unfold State.unseenPending; (try dsimp only) <;> (repeat' split) <;> (try simp [apply_ite State.host])
@[simp] theorem State.unseenPending_boot (s : State)  : (s.unseenPending ).boot = s.boot := by unfold State.unseenPending; (try dsimp only) <;> (repeat' split) <;> (try simp [apply_ite State.boot])
@[simp] theorem State.unseenPending_gk (s : State)  : (s.unseenPending ).gk = s.gk := by unfold State.unseenPending; (try dsimp only) <;> (repeat' split) <;> (try simp [apply_ite State.gk])
@[simp] theorem State.unseenPending_od (s : State)  : (s.unseenPending ).od = s.od := by unfold State.unseenPending; (try dsimp only) <;> (repeat' split) <;> (try simp [apply_ite State.od])
@[simp] theorem State.unseenPending_mem (s : State)  : (s.unseenPending ).mem = s.mem := by unfold State.unseenPending; (try dsimp only) <;> (repeat' split) <;> (try simp [apply_ite State.mem])
@[simp] theorem State.unseenPending_rg (s : State)  : (s.unseenPending ).rg = s.rg := by unfold State.unseenPending; (try dsimp only) <;> (repeat' split) <;> (try simp [apply_ite State.rg])
@[simp] theorem State.unseenPending_qn (s : State)  : (s.unseenPending ).qn = s.qn := by unfold State.unseenPending; (try dsimp only) <;> (repeat' split) <;> (try simp [apply_ite State.qn])
@[simp] theorem State.unseenPending_nc (s : State)  : (s.unseenPending ).nc = s.nc := by unfold State.unseenPending; (try dsimp only) <;> (repeat' split) <;> (try simp [apply_ite State.nc])
@[simp] theorem State.unseenPending_rs (s : State)  : (s.unseenPending ).rs = s.rs := by unfold State.unseenPending; (try dsimp only) <;> (repeat' split) <;> (try simp [apply_ite State.rs])
@[simp] theorem State.unseenPending_ref (s : State)  : (s.unseenPending ).ref = s.ref := by unfold State.unseenPending; (try dsimp only) <;> (repeat' split) <;> (try simp [apply_ite State.ref])
@[simp] theorem State.unseenPending_pkg (s : State)  : (s.unseenPending ).pkg = s.pkg := by unfold State.unseenPending; (try dsimp only) <;> (repeat' split) <;> (try simp [apply_ite State.pkg])
@[simp] theorem State.unseenPending_st (s : State)  : (s.unseenPending ).st = s.st := by unfold State.unseenPending; (try dsimp only) <;> (repeat' split) <;> (try simp [apply_ite State.st])
@[simp] theorem State.unseenPending_out (s : State)  : (s.unseenPending ).out = s.out := by unfold State.unseenPending; (try dsimp only) <;> (repeat' split) <;> (try simp [apply_ite State.out])
@[simp] theorem State.unseenPending_free (s : State)  : (s.unseenPending ).free = s.free := by unfold State.unseenPending; (try dsimp only) <;> (repeat' split) <;> (try simp [apply_ite State.free])
@[simp] theorem State.unseenPending_pending (s : State)  : (s.unseenPending ).pending = s.pending := by unfold State.unseenPending; (try dsimp only) <;> (repeat' split) <;> (try simp [apply_ite State.pending])

/-- A row that is a dictionary write of its own does what its rule does, and answers. -/
theorem State.served_answers {s : State} (h : s.answers) (idx : Nat) (f : State → State × Resp) :
    s.served idx f = (f s).1.answer (f s).2 := by
  obtain ⟨h1, h2, h3⟩ := h
  simp [State.served, h1, h2, h3]

/-- Looking a key up in a table whose values were changed by a function that keeps the default. -/
theorem Tab.at_map {α : Type} (d : α) (t : Tab α) (g : Nat → α → α) (h : ∀ k, g k d = d) (k : Nat) :
    Tab.at d (t.map (fun x => (x.1, g x.1 x.2))) k = g k (Tab.at d t k) := by
  induction t with
  | nil => simp [Tab.at, h]
  | cons p r ih =>
    obtain ⟨j, x⟩ := p
    simp only [List.map_cons, Tab.at]
    split
    · rename_i hj
      rw [hj]
    · exact ih

/-! ### Kickers -/

theorem State.kick_of_fd {s t : State} (h : t.fd.kck = s.fd.kck) (n : Nat) : t.kick n = s.kick n := by
  simp [State.kick, h]

@[simp] theorem State.kickChanged_direct (s s0 : State) (n : Nat) : (s.kickChanged s0 n).direct = s.direct :=
  State.direct_of (by simp) (by simp) (by simp)

@[simp] theorem State.tally_kickChanged (s s0 : State) (n k : Nat) (h : k ∉ ownCounters) : (s.kickChanged s0 n).tally k = s.tally k := by
  unfold State.kickChanged
  split <;> simp [h]

theorem State.putKick_fd (s : State) (n : Nat) (k : Kicker) : (s.putKick n k).fd = { s.fd with kck := s.fd.kck.put n k } := by
  simp [State.putKick]

@[simp] theorem State.putKick_kick (s : State) (n : Nat) (k : Kicker) : (s.putKick n k).kick n = k := by
  simp [State.kick, State.putKick_fd]

theorem State.putKick_kick_other (s : State) {m n : Nat} (k : Kicker) (h : m ≠ n) : (s.putKick n k).kick m = s.kick m := by
  simp [State.kick, State.putKick_fd, Tab.at_put_other _ _ _ h]

@[simp] theorem State.tally_putKick (s : State) (n : Nat) (x : Kicker) (k : Nat) (h : k ∉ ownCounters) : (s.putKick n x).tally k = s.tally k := by
  unfold State.putKick
  rw [State.tally_kickChanged _ _ _ _ h]
  rfl

@[simp] theorem State.direct_putKick (s : State) (n : Nat) (k : Kicker) : (s.putKick n k).direct = s.direct :=
  State.direct_of (by simp [State.putKick_fd]) (by simp [State.putKick_fd]) (by simp)

@[simp] theorem State.fdCount_kick (s : State) (i j n : Nat) : (s.fdCount i j).kick n = s.kick n := by
  unfold State.fdCount
  split <;> rfl

@[simp] theorem State.fdRaise_kick (s : State) (e : Ev) (n : Nat) : (s.fdRaise e).kick n = s.kick n := by
  unfold State.fdRaise
  split <;> rfl

@[simp] theorem State.fdRaiseImp_kick (s : State) (a b : Nat) (e : Ev) (n : Nat) : (s.fdRaiseImp a b e).kick n = s.kick n := by
  unfold State.fdRaiseImp
  split
  · rfl
  · rw [State.fdRaise_kick]
    rfl

theorem State.undelivered_kick (s : State) (n w : Nat) :
    (s.undelivered n w).kick n =
      { s.kick n with undeliv := if (s.kick n).undeliv.contains w then (s.kick n).undeliv else w :: (s.kick n).undeliv } := by
  have h : ((s.fdCount (0x2815 + n) 2).fdRaiseImp (n * 8 + w) (((s.fdCount (0x2815 + n) 2)).clock w).idx.toNat { code := 0x110D, unit := n }).kick n = s.kick n := by
    simp
  unfold State.undelivered
  dsimp only
  unfold State.kick at *
  dsimp only
  rw [Tab.at_upd_same, h]

theorem State.undelivered_kick_other (s : State) (n w : Nat) {m : Nat} (hm : m ≠ n) : (s.undelivered n w).kick m = s.kick m := by
  have h : ((s.fdCount (0x2815 + n) 2).fdRaiseImp (n * 8 + w) (((s.fdCount (0x2815 + n) 2)).clock w).idx.toNat { code := 0x110D, unit := n }).kick m = s.kick m := by
    simp
  unfold State.undelivered
  dsimp only
  unfold State.kick at *
  dsimp only
  rw [Tab.at_upd_other _ _ _ hm, h]

theorem State.undelivered_fold (s : State) (n : Nat) (l : List Nat) :
   ((l.foldl (fun s w => s.undelivered n w) s).kick n).on = (s.kick n).on ∧
   ((l.foldl (fun s w => s.undelivered n w) s).kick n) = { s.kick n with undeliv := ((l.foldl (fun s w => s.undelivered n w) s).kick n).undeliv } ∧
   (∀ w, w ∈ l ∨ w ∈ (s.kick n).undeliv → w ∈ ((l.foldl (fun s w => s.undelivered n w) s).kick n).undeliv) ∧
   (∀ m, m ≠ n → ((l.foldl (fun s w => s.undelivered n w) s).kick m) = s.kick m) := by
  induction l generalizing s with
  | nil => simp
  | cons x l ih =>
    obtain ⟨h1, h2, h3, h4⟩ := ih (s.undelivered n x)
    simp only [List.foldl_cons]
    refine ⟨by rw [h1, State.undelivered_kick], by rw [h2, State.undelivered_kick], ?_, ?_⟩
    · intro w hw
      apply h3
      rw [State.undelivered_kick]
      dsimp only
      have hx : w = x ∨ w ∈ l ∨ w ∈ (s.kick n).undeliv := by
        rcases hw with hw | hw
        · rcases List.mem_cons.1 hw with h | h
          · exact .inl h
          · exact .inr (.inl h)
        · exact .inr (.inr hw)
      rcases hx with rfl | h | h
      · right
        split
        · rename_i hc; simpa using hc
        · exact List.mem_cons_self
      · exact .inl h
      · right
        split
        · exact h
        · exact List.mem_cons_of_mem _ h
    · intro m hm
      rw [h4 m hm, State.undelivered_kick_other _ _ _ hm]

theorem State.kickEnd_kick (s : State) (n a b : Nat) : (s.kickEnd n a b).kick n =  { s.kick n with on := false, kicks := [], pulse := false, kickOn := false, until_ := 0, lastMa := a, openOn := (bit (s.fnum (0x2600 + n) 6 3) 1 && decide (b < 20)) || (decide (b < 20) && (s.kick n).openOn) } := by
  unfold State.kickEnd
  dsimp only
  by_cases hb : b < 20 <;> by_cases h : bit (s.fnum (0x2600 + n) 6 3) 1 = true <;> cases ho : (s.kick n).openOn <;> simp [h, hb, ho]
theorem State.kickEnd_kick_other (s : State) (n a b : Nat) (m : Nat) (hm : m ≠ n) : (s.kickEnd n a b).kick m = s.kick m := by
  unfold State.kickEnd
  dsimp only
  split <;> simp [State.putKick_kick_other _ _ hm]
theorem State.kickEnd_direct (s : State) (n a b : Nat)  : (s.kickEnd n a b).direct = s.direct := by
  unfold State.kickEnd
  dsimp only
  split <;> simp 
theorem State.kickEnd_tally (s : State) (hd : s.direct = true) (n a b : Nat) (k : Nat) (h : k ∉ ownCounters) : (s.kickEnd n a b).tally k =
   if (bit (s.fnum (0x2600 + n) 6 3) 1 && decide (b < 20)) && !(s.kick n).openOn then (if k = key (0x2815 + n) 7 then satInc (s.tally k) else s.tally k) else s.tally k := by
  unfold State.kickEnd
  dsimp only
  split <;> simp [h, State.fdRaise_direct, State.fdCount_direct, hd]
theorem State.kickEnd_fd (s : State) (hd : s.direct = true) (n a b : Nat) : (s.kickEnd n a b).fd = { s.fd with kck := (s.kickEnd n a b).fd.kck } := by
  unfold State.kickEnd
  dsimp only
  split <;> simp [State.fdRaise_direct, State.fdCount_direct, hd, State.putKick_fd]


theorem State.direct_undelivered (s : State) (n w : Nat) : (s.undelivered n w).direct = s.direct := by
  have h : ∀ t : State, ({ t with fd := { t.fd with kck := t.fd.kck.upd {} n (fun k => { k with undeliv := if k.undeliv.contains w then k.undeliv else w :: k.undeliv }) } } : State).direct = t.direct := fun t => rfl
  unfold State.undelivered
  dsimp only
  rw [h]
  unfold State.fdRaiseImp
  split
  · simp
  · rw [State.direct_fdRaise]
    show (s.fdCount (0x2815 + n) 2).direct = s.direct
    simp

theorem State.tally_undelivered (s : State) (n w k : Nat) (hk : k ∉ ownCounters) (h : k ≠ key (0x2815 + n) 2) :
    (s.undelivered n w).tally k = s.tally k := by
  have hc : ∀ t : State, (t.fdCount (0x2815 + n) 2).tally k = t.tally k := by
    intro t
    unfold State.fdCount
    split
    · rw [State.tally_count _ _ _ _ hk, if_neg h]
    · rfl
  have hr : ∀ (t : State) (e : Ev), (t.fdRaise e).tally k = t.tally k := by
    intro t e
    unfold State.fdRaise
    split
    · rw [State.tally_raise _ _ _ hk]
    · rfl
  have hi : ∀ (t : State) (a b : Nat) (e : Ev), (t.fdRaiseImp a b e).tally k = t.tally k := by
    intro t a b e
    unfold State.fdRaiseImp
    split
    · rfl
    · rw [hr]
      rfl
  have hu : ∀ t : State, ({ t with fd := { t.fd with kck := t.fd.kck.upd {} n (fun k => { k with undeliv := if k.undeliv.contains w then k.undeliv else w :: k.undeliv }) } } : State).tally k = t.tally k := fun t => rfl
  unfold State.undelivered
  dsimp only
  rw [hu, hi, hc]

/-- Switching a kicker off: nothing of it changes but the output, its kicks, a retry pulse and the list of kicks not delivered. -/
theorem State.cutKick_kick (s : State) (n : Nat) : (s.cutKick n).kick n =
    { s.kick n with on := false, kicks := [], pulse := false, kickOn := false, undeliv := ((s.cutKick n).kick n).undeliv } := by
  have h := (State.undelivered_fold (s.putKick n { s.kick n with on := false, kicks := [], pulse := false, kickOn := false }) n (s.kick n).kicks).2.1
  unfold State.cutKick
  dsimp only
  rw [h]
  simp

theorem State.cutKick_undeliv (s : State) (n w : Nat) (h : w ∈ (s.kick n).kicks) : w ∈ ((s.cutKick n).kick n).undeliv :=
  (State.undelivered_fold (s.putKick n { s.kick n with on := false, kicks := [], pulse := false, kickOn := false }) n (s.kick n).kicks).2.2.1 w (.inl h)

theorem State.cutKick_kick_other (s : State) (n m : Nat) (h : m ≠ n) : (s.cutKick n).kick m = s.kick m := by
  have h' := (State.undelivered_fold (s.putKick n { s.kick n with on := false, kicks := [], pulse := false, kickOn := false }) n (s.kick n).kicks).2.2.2 m h
  unfold State.cutKick
  dsimp only
  rw [h', State.putKick_kick_other _ _ h]

theorem State.direct_cutKick (s : State) (n : Nat) : (s.cutKick n).direct = s.direct := by
  unfold State.cutKick
  dsimp only
  rw [foldl_keeps State.direct _ (fun s x => State.direct_undelivered s n x), State.direct_putKick]

theorem State.tally_cutKick (s : State) (n k : Nat) (hk : k ∉ ownCounters) (h : k ≠ key (0x2815 + n) 2) : (s.cutKick n).tally k = s.tally k := by
  unfold State.cutKick
  dsimp only
  rw [foldl_keeps (fun s => s.tally k) _ (fun s x => State.tally_undelivered s n x k hk h), State.tally_putKick _ _ _ _ hk]

/-! ### Reports leave the rest of the field die alone -/

theorem State.fdCount_fd (s : State) (i j : Nat) : (s.fdCount i j).fd = { s.fd with gatherCnt := (s.fdCount i j).fd.gatherCnt } := by
  unfold State.fdCount
  split <;> rfl

theorem State.fdRaise_fd (s : State) (e : Ev) : (s.fdRaise e).fd = { s.fd with gathered := (s.fdRaise e).fd.gathered } := by
  unfold State.fdRaise
  split <;> rfl

theorem State.fdRaiseImp_fd (s : State) (a b : Nat) (e : Ev) :
    (s.fdRaiseImp a b e).fd = { s.fd with gathered := (s.fdRaiseImp a b e).fd.gathered, stamps := (s.fdRaiseImp a b e).fd.stamps } := by
  unfold State.fdRaiseImp
  split
  · rfl
  · rw [State.fdRaise_fd]

theorem State.undelivered_fd (s : State) (n w : Nat) :
    (s.undelivered n w).fd = { s.fd with kck := (s.undelivered n w).fd.kck, gathered := (s.undelivered n w).fd.gathered
                                         gatherCnt := (s.undelivered n w).fd.gatherCnt, stamps := (s.undelivered n w).fd.stamps } := by
  unfold State.undelivered
  dsimp only
  rw [State.fdRaiseImp_fd, State.fdCount_fd]

theorem State.cutKick_fd (s : State) (n : Nat) :
    (s.cutKick n).fd = { s.fd with kck := (s.cutKick n).fd.kck, gathered := (s.cutKick n).fd.gathered
                                   gatherCnt := (s.cutKick n).fd.gatherCnt, stamps := (s.cutKick n).fd.stamps } := by
  have h : ∀ (l : List Nat) (s : State), (l.foldl (fun s w => s.undelivered n w) s).fd =
      { s.fd with kck := (l.foldl (fun s w => s.undelivered n w) s).fd.kck, gathered := (l.foldl (fun s w => s.undelivered n w) s).fd.gathered
                  gatherCnt := (l.foldl (fun s w => s.undelivered n w) s).fd.gatherCnt, stamps := (l.foldl (fun s w => s.undelivered n w) s).fd.stamps } := by
    intro l
    induction l with
    | nil => intro s; rfl
    | cons x l ih =>
      intro s
      rw [List.foldl_cons, ih, State.undelivered_fd]
  unfold State.cutKick
  dsimp only
  rw [h, State.putKick_fd]

/-! ### Clocks and encoders under a clock's notes -/

theorem enc_of_fd {s t : State} (h : t.fd.enc = s.fd.enc) (k : Nat) : t.enc k = s.enc k := by simp [State.enc, h]
theorem wcNote_enc (s : State) (n k : Nat) (x : WcNote) : (s.wcNote n x).enc k = s.enc k := by
  unfold State.wcNote State.fdCount State.fdRaise State.fdRaiseImp State.fdRaise State.clearUndelivered
  cases x <;> (repeat' split) <;> rfl
theorem wcApply_enc (s : State) (n k : Nat) (r : WebClock × List WcNote) : (s.wcApply n r).enc k = s.enc k := by
  unfold State.wcApply
  rw [foldl_keeps (fun s => s.enc k) _ (fun s x => wcNote_enc s n k x)]
  rfl
theorem clockFault_enc (s : State) (m n k : Nat) : (s.clockFault m n).enc k = s.enc k := by
  unfold State.clockFault
  dsimp only
  (repeat' split) <;> simp [wcApply_enc]
theorem fdCount_enc (s : State) (i j k : Nat) : (s.fdCount i j).enc k = s.enc k := enc_of_fd (by rw [State.fdCount_fd]) k
theorem fdRaise_enc (s : State) (e : Ev) (k : Nat) : (s.fdRaise e).enc k = s.enc k := enc_of_fd (by rw [State.fdRaise_fd]) k
theorem wcNote_clock (s : State) (n k : Nat) (x : WcNote) : (s.wcNote n x).clock k = s.clock k := by
  have : (s.wcNote n x).wc = s.wc := by simp
  simp [State.clock, this]
theorem wcApply_clock (s : State) (n : Nat) (r : WebClock × List WcNote) : (s.wcApply n r).clock n = r.1 := by
  unfold State.wcApply
  rw [foldl_keeps (fun s => s.clock n) _ (fun s x => wcNote_clock s n n x)]
  simp [State.clock]
theorem wcApply_clock_other (s : State) (n k : Nat) (h : k ≠ n) (r : WebClock × List WcNote) : (s.wcApply n r).clock k = s.clock k := by
  unfold State.wcApply
  rw [foldl_keeps (fun s => s.clock k) _ (fun s x => wcNote_clock s n k x)]
  simp [State.clock, Tab.at_put_other _ _ _ h]

theorem clock_of_wc {s t : State} (h : t.wc = s.wc) (k : Nat) : t.clock k = s.clock k := by simp [State.clock, h]


end Machine
end Sys2Proof
end

