-- ==== Sys2Proof/Laws/Memory.lean ====
section
/-!
SUPPORT. Laws of byte storage: every operation keeps the canonical form; a read after a write gives what was written, and every other byte stands.
-/
namespace Sys2Proof
namespace Machine

variable {d : Nat → Byte}

theorem cellsFrom_mono {lo lo' : Nat} {m : List Host.Cell} (h : lo ≤ lo') (hm : cellsFrom d lo' m = true) :
    cellsFrom d lo m = true := by
  cases m with
  | nil => rfl
  | cons c r =>
    obtain ⟨k, b⟩ := c
    simp only [cellsFrom, Bool.and_eq_true, decide_eq_true_eq] at hm ⊢
    exact ⟨⟨by omega, hm.1.2⟩, hm.2⟩

theorem cellsFrom_filter (p : Host.Cell → Bool) {lo : Nat} {m : List Host.Cell} (hm : cellsFrom d lo m = true) :
    cellsFrom d lo (m.filter p) = true := by
  induction m generalizing lo with
  | nil => rfl
  | cons c r ih =>
    obtain ⟨k, b⟩ := c
    simp only [cellsFrom, Bool.and_eq_true, decide_eq_true_eq] at hm
    rw [List.filter_cons]
    split
    · simp only [cellsFrom, Bool.and_eq_true, decide_eq_true_eq]
      exact ⟨hm.1, ih hm.2⟩
    · exact cellsFrom_mono (by omega) (ih hm.2)

theorem cellsFrom_above {lo b : Nat} {m : List Host.Cell} (hm : cellsFrom d lo m = true) :
    cellsFrom d b (m.filter (fun c => decide (b ≤ c.1))) = true := by
  induction m generalizing lo with
  | nil => rfl
  | cons c r ih =>
    obtain ⟨k, x⟩ := c
    simp only [cellsFrom, Bool.and_eq_true, decide_eq_true_eq] at hm
    rw [List.filter_cons]
    split
    · rename_i h
      simp only [decide_eq_true_eq] at h
      simp only [cellsFrom, Bool.and_eq_true, decide_eq_true_eq]
      exact ⟨⟨h, hm.1.2⟩, cellsFrom_filter _ hm.2⟩
    · exact ih hm.2

theorem cellsFrom_append {lo b : Nat} {m n : List Host.Cell} (hlo : lo ≤ b) (hm : cellsFrom d lo m = true)
    (hk : ∀ c ∈ m, c.1 < b) (hn : cellsFrom d b n = true) : cellsFrom d lo (m ++ n) = true := by
  induction m generalizing lo with
  | nil => exact cellsFrom_mono hlo hn
  | cons c r ih =>
    obtain ⟨k, x⟩ := c
    simp only [cellsFrom, List.cons_append, Bool.and_eq_true, decide_eq_true_eq] at hm ⊢
    have hkb : k < b := hk _ List.mem_cons_self
    exact ⟨hm.1, ih (by omega) hm.2 (fun c hc => hk c (List.mem_cons_of_mem _ hc))⟩

theorem cellsOf_nil (a : Nat) : cellsOf d a [] = [] := rfl

theorem cellsOf_cons (a : Nat) (y : Byte) (x : List Byte) :
    cellsOf d a (y :: x) = if y = d a then cellsOf d (a + 1) x else (a, y) :: cellsOf d (a + 1) x := by
  simp only [cellsOf, List.zipIdx_cons, List.filterMap_cons]
  split <;> simp_all

theorem cellsFrom_cellsOf (a : Nat) (x : List Byte) : cellsFrom d a (cellsOf d a x) = true := by
  induction x generalizing a with
  | nil => rfl
  | cons y x ih =>
    rw [cellsOf_cons]
    split
    · exact cellsFrom_mono (Nat.le_succ a) (ih (a + 1))
    · rename_i h
      simp [cellsFrom, h, ih]

theorem cellsOf_bounds (a : Nat) (x : List Byte) : ∀ c ∈ cellsOf d a x, a ≤ c.1 ∧ c.1 < a + x.length := by
  induction x generalizing a with
  | nil => simp [cellsOf_nil]
  | cons y x ih =>
    intro c hc
    rw [cellsOf_cons] at hc
    simp only [List.length_cons]
    split at hc
    · have := ih (a + 1) c hc
      omega
    · rcases List.mem_cons.1 hc with rfl | hc
      · exact ⟨Nat.le_refl _, by omega⟩
      · have := ih (a + 1) c hc
        omega

/-- A write keeps the canonical form. -/
theorem cellWrite_wf {m : List Host.Cell} (a : Nat) (x : List Byte) (h : cellsWf d m = true) :
    cellsWf d (cellWrite d m a x) = true := by
  unfold cellsWf cellWrite at *
  rw [List.append_assoc]
  refine cellsFrom_append (b := a) (Nat.zero_le _) (cellsFrom_filter _ h) ?_ ?_
  · intro c hc
    simpa using (List.mem_filter.1 hc).2
  · exact cellsFrom_append (Nat.le_add_right a x.length) (cellsFrom_cellsOf a x)
      (fun c hc => (cellsOf_bounds a x c hc).2) (cellsFrom_above h)

/-- A wipe keeps the canonical form. -/
theorem cellWipe_wf {m : List Host.Cell} (a n : Nat) (h : cellsWf d m = true) :
    cellsWf d (cellWipe m a n) = true := cellsFrom_filter _ h

theorem cellGet_eq_default {m : List Host.Cell} {a : Nat} (h : ∀ c ∈ m, c.1 ≠ a) : cellGet d m a = d a := by
  induction m with
  | nil => rfl
  | cons c r ih =>
    obtain ⟨k, b⟩ := c
    simp only [cellGet, h (k, b) List.mem_cons_self, if_false]
    exact ih (fun c hc => h c (List.mem_cons_of_mem _ hc))

theorem cellGet_append_right {m n : List Host.Cell} {a : Nat} (h : ∀ c ∈ m, c.1 ≠ a) :
    cellGet d (m ++ n) a = cellGet d n a := by
  induction m with
  | nil => rfl
  | cons c r ih =>
    obtain ⟨k, b⟩ := c
    simp only [cellGet, List.cons_append, h (k, b) List.mem_cons_self, if_false]
    exact ih (fun c hc => h c (List.mem_cons_of_mem _ hc))

theorem cellGet_append_left {m n : List Host.Cell} {a : Nat} (h : ∀ c ∈ n, c.1 ≠ a) :
    cellGet d (m ++ n) a = cellGet d m a := by
  induction m with
  | nil => exact cellGet_eq_default h
  | cons c r ih =>
    obtain ⟨k, b⟩ := c
    simp only [cellGet, List.cons_append]
    rw [ih]

theorem cellGet_filter {m : List Host.Cell} {p : Host.Cell → Bool} {a : Nat} (h : ∀ b, p (a, b) = true) :
    cellGet d (m.filter p) a = cellGet d m a := by
  induction m with
  | nil => rfl
  | cons c r ih =>
    obtain ⟨k, b⟩ := c
    rw [List.filter_cons]
    split
    · simp only [cellGet, ih]
    · rename_i hp
      by_cases hk : k = a
      · exact absurd (hk ▸ h b) hp
      · simp [cellGet, hk, ih]

theorem cellGet_cellsOf (a : Nat) (x : List Byte) (i : Nat) (hi : i < x.length) :
    cellGet d (cellsOf d a x) (a + i) = x[i] := by
  induction x generalizing a i with
  | nil => simp at hi
  | cons y x ih =>
    rw [cellsOf_cons]
    cases i with
    | zero =>
      simp only [Nat.add_zero, List.getElem_cons_zero]
      split
      · rename_i hy
        rw [hy]
        refine cellGet_eq_default (fun c hc => ?_)
        have := cellsOf_bounds (a + 1) x c hc
        omega
      · simp [cellGet]
    | succ i =>
      have hi' : i < x.length := by simpa using hi
      have e : a + (i + 1) = a + 1 + i := by omega
      simp only [List.getElem_cons_succ]
      rw [e]
      split
      · exact ih (a + 1) i hi'
      · have : ¬ a = a + 1 + i := by omega
        simp only [cellGet, this, if_false]
        exact ih (a + 1) i hi'

/-- A byte of a range just written reads as it was written. -/
theorem cellGet_write_inside (m : List Host.Cell) (a : Nat) (x : List Byte) (i : Nat) (hi : i < x.length) :
    cellGet d (cellWrite d m a x) (a + i) = x[i] := by
  unfold cellWrite
  rw [cellGet_append_left, cellGet_append_right, cellGet_cellsOf a x i hi]
  · intro c hc
    have := (List.mem_filter.1 hc).2
    simp only [decide_eq_true_eq] at this
    omega
  · intro c hc
    have := (List.mem_filter.1 hc).2
    simp only [decide_eq_true_eq] at this
    omega

/-- A byte outside a written range stands. -/
theorem cellGet_write_outside (m : List Host.Cell) (a : Nat) (x : List Byte) (k : Nat) (h : k < a ∨ a + x.length ≤ k) :
    cellGet d (cellWrite d m a x) k = cellGet d m k := by
  unfold cellWrite
  rcases h with h | h
  · rw [cellGet_append_left, cellGet_append_left, cellGet_filter]
    · simpa using h
    · intro c hc
      have := cellsOf_bounds a x c hc
      omega
    · intro c hc
      have := (List.mem_filter.1 hc).2
      simp only [decide_eq_true_eq] at this
      omega
  · rw [List.append_assoc, cellGet_append_right, cellGet_append_right, cellGet_filter]
    · simpa using h
    · intro c hc
      have := cellsOf_bounds a x c hc
      omega
    · intro c hc
      have := (List.mem_filter.1 hc).2
      simp only [decide_eq_true_eq] at this
      omega

/-- A byte of a wiped range reads as its default. -/
theorem cellGet_wipe_inside (m : List Host.Cell) (a n k : Nat) (h : a ≤ k ∧ k < a + n) :
    cellGet d (cellWipe m a n) k = d k := by
  refine cellGet_eq_default (fun c hc => ?_)
  have := (List.mem_filter.1 hc).2
  simp only [Bool.not_eq_true', Bool.and_eq_false_iff, decide_eq_false_iff_not] at this
  omega

/-- A byte outside a wiped range stands. -/
theorem cellGet_wipe_outside (m : List Host.Cell) (a n k : Nat) (h : k < a ∨ a + n ≤ k) :
    cellGet d (cellWipe m a n) k = cellGet d m k := by
  refine cellGet_filter (fun b => ?_)
  simp only [Bool.not_eq_true', Bool.and_eq_false_iff, decide_eq_false_iff_not]
  omega

theorem cellTake_eq (n : Nat) {m : List Host.Cell} {a : Nat} (acc : List Byte) (h : cellsFrom d a m = true) :
    (cellTake d n m a acc).reverse = acc.reverse ++ (List.range n).map (fun i => cellGet d m (a + i)) := by
  induction n generalizing m a acc with
  | zero => simp [cellTake]
  | succ n ih =>
    have tail : (List.range (n + 1)).map (fun i => cellGet d m (a + i))
        = cellGet d m a :: (List.range n).map (fun i => cellGet d m (a + 1 + i)) := by
      simp [List.range_succ_eq_map, Function.comp_def, Nat.add_assoc, Nat.add_comm 1]
    rw [tail]
    cases m with
    | nil =>
      rw [cellTake, ih _ (by rfl)]
      simp [cellGet]
    | cons c r =>
      obtain ⟨k, b⟩ := c
      simp only [cellsFrom, Bool.and_eq_true, decide_eq_true_eq] at h
      rw [cellTake]
      split
      · rename_i hk
        subst hk
        rw [ih _ h.2]
        simp only [List.reverse_cons, List.append_assoc, List.singleton_append, cellGet, if_true]
        congr 1
        congr 1
        refine List.map_congr_left (fun i _ => ?_)
        have : ¬ k = k + 1 + i := by omega
        simp [this]
      · rename_i hk
        rw [ih]
        · simp [cellGet, hk]
          refine cellGet_eq_default (fun c hc => ?_) |>.symm
          have hr : ∀ {lo : Nat} {q : List Host.Cell}, cellsFrom d lo q = true → ∀ c ∈ q, lo ≤ c.1 := by
            intro lo q
            induction q generalizing lo with
            | nil => simp
            | cons e q ihq =>
              obtain ⟨j, y⟩ := e
              intro hq c hc
              simp only [cellsFrom, Bool.and_eq_true, decide_eq_true_eq] at hq
              rcases List.mem_cons.1 hc with rfl | hc
              · exact hq.1.1
              · have := ihq hq.2 c hc
                omega
          have := hr h.2 c hc
          omega
        · simp only [cellsFrom, Bool.and_eq_true, decide_eq_true_eq]
          exact ⟨⟨by omega, h.1.2⟩, h.2⟩

/-- Reading a range of a canonical memory reads each of its bytes. -/
theorem cellRead_eq {m : List Host.Cell} (a n : Nat) (h : cellsWf d m = true) :
    cellRead d m a n = (List.range n).map (fun i => cellGet d m (a + i)) := by
  unfold cellRead
  rw [cellTake_eq n [] (cellsFrom_above h)]
  simp only [List.reverse_nil, List.nil_append]
  refine List.map_congr_left (fun i _ => ?_)
  exact cellGet_filter (fun b => by simp)

/-- The memory at reset lists nothing and so is canonical. -/
theorem reset_bytes_wf : cellsWf memDefault State.reset.mem.bytes = true := rfl

theorem poke_wf (s : State) (a : Nat) (x : List Byte) (h : cellsWf memDefault s.mem.bytes = true) :
    cellsWf memDefault (s.poke a x).mem.bytes = true := cellWrite_wf a x h

theorem wipe_wf (s : State) (a n : Nat) (h : cellsWf memDefault s.mem.bytes = true) :
    cellsWf memDefault (s.wipe a n).mem.bytes = true := cellWipe_wf a n h

end Machine
end Sys2Proof
end

