-- ==== Sys2Proof/WellFormed.lean ====
section
/-!
DEFINITION. Which commands are events of the DV16 at all: the bounds on operands that their types do not already hold. A command outside them is no event the part can meet, and its meaning stands for nothing.
-/
namespace Sys2Proof

/-- An access covers at least one byte and ends inside the 40-bit address space (06 R155). -/
def fabricOpOk (addr : Nat) (op : FabricOp) : Bool :=
  let n := match op with
    | .read n => n
    | .fetch n => n
    | .write d => d.length
  decide (1 ≤ n ∧ addr + n ≤ 2 ^ 40)

/-- An instruction fetch, which PCIe does not make (12 R302). -/
def fetches : FabricOp → Bool
  | .fetch _ => true
  | .read _ => false
  | .write _ => false

/-- Software makes accesses as a host hart, a pressroom hart or through a function (11 Table 11-4, 07 R204). -/
def software : Requester → Bool
  | .hart _ _ => true
  | .press _ => true
  | .port _ => true
  | .intake _ => false
  | .pipeline _ => false
  | .meter _ => false
  | .core _ => false
  | .roster _ => false
  | .codec _ _ => false
  | .mac _ => false
  | .gk => false

/-- A neural core or the Roster issues a WAIT (07 R197). -/
def waits : Requester → Bool
  | .core _ => true
  | .roster _ => true
  | .hart _ _ => false
  | .press _ => false
  | .port _ => false
  | .intake _ => false
  | .pipeline _ => false
  | .meter _ => false
  | .codec _ _ => false
  | .mac _ => false
  | .gk => false

/-- What a scrub of the Deep Store or the Ring Table can find (06 Table 6-8). -/
def targetErr : MemErr → Bool
  | .none => true
  | .corrected => true
  | .uncorrectable => true
  | _ => false

/-- A received frame fits its format (15 R361): classical 0-8 bytes, FD up to 64, XL 1-2,048 with an 11-bit priority ID. -/
def frameOk (fmt : FrameFmt) (id : BitVec 29) (rtr sec : Bool) (len : Nat) : Bool :=
  match fmt with
  | .classical => decide (len ≤ 8) && !sec
  | .fd => decide (len ≤ 64) && !sec && !rtr
  | .xl => decide (1 ≤ len ∧ len ≤ 2048) && !rtr && decide (id.toNat < 2048)

/-- A path's addresses are in range: a JDT requester address of 8 bits, a UDP source of 48 (15 R376, R379). -/
def pathOk : Path → Bool
  | .sdo _ => true
  | .usdo _ => true
  | .jdt _ a => decide (a < 256)
  | .mailbox _ => true
  | .udp _ a => decide (a < 2 ^ 48)

/-- A register that Field Link messages name is one the field die holds (03 R94, R99). -/
def fieldRegOk : FieldReg → Bool
  | .fdStat => true
  | .fdFault => true
  | .entry idx sub =>
    (decide (0x2100 ≤ idx ∧ idx ≤ 0x2107) || decide (0x2600 ≤ idx ∧ idx ≤ 0x2607) || idx == 0x2610 || idx == 0x2620 || idx == 0x2630)
      && decide (sub < 256)
  | .spacing st => decide (st < 32)

/-- A configuration request names a register of the 4 KiB configuration space, and at most 31 virtual functions (12 R301). -/
def cfgOk : CfgOp → Bool
  | .read off => decide (off < 4096)
  | .numVfs n => decide (n ≤ 31)
  | .busMaster _ => true
  | .msixEnable _ => true
  | .msixMask _ => true
  | .d3hot _ => true
  | .write off v => decide (off < 4096 ∧ v < 2 ^ 32)

/-- The command is an event of the DV16. -/
def wellFormed : Instr → Bool
  | .fieldDieStart => true
  | .vfieldUndervoltage => true
  | .vfieldUndervoltageRecover => true
  | .vfieldOvervoltage => true
  | .vfieldOvervoltageRecover => true
  | .fieldDieReset => true
  | .vfieldReversed => true
  | .quadratureEdge _ _ _ => true
  | .zMarkerEdge _ _ => true
  | .velocityUpdate _ => true
  | .accelerationCheck _ => true
  | .standstillTimeout _ => true
  | .peEdge _ _ => true
  | .encoderProbe _ _ => true
  | .encoderFaultFlag _ _ _ => true
  | .encoderFlagClear _ _ => true
  | .returnToPrimary _ => true
  | .acknowledgeLost _ => true
  | .decodeWrite _ _ => true
  | .impressionLenWrite _ _ => true
  | .markConfigWrite _ _ _ => true
  | .cueCrossing _ => true
  | .cueExpiry _ => true
  | .triggerPulseEnd _ => true
  | .kickPulseEnd _ _ _ => true
  | .maxOnCutoff _ _ _ => true
  | .ceilingRecompute => true
  | .ceilingRaisePublish _ => true
  | .triggerShortTrip _ => true
  | .triggerRetry _ => true
  | .kickerTrip _ _ => true
  | .kickerRetryDue _ => true
  | .kickerRetryJudge _ _ _ => true
  | .kickerRetryNow _ => true
  | .clearOpenOn _ => true
  | .kickerEnableWrite _ _ => true
  | .kickerShortVf _ => true
  | .kickerShortVfClear _ => true
  | .kickerThermal _ => true
  | .kickerThermalClear _ => true
  | .openOffDetect _ => true
  | .openOffClear _ => true
  | .canLineShort _ => true
  | .canLineShortClear _ => true
  | .dominantCutoff _ => true
  | .fieldSlotReceive _ _ => true
  | .computeSlotReceive _ _ => true
  | .heartbeatSend _ => true
  | .heartbeat _ _ _ => true
  | .heartbeatMiss _ => true
  | .verdict _ _ => true
  | .cuePart _ _ _ => true
  | .cuePartTimeout _ => true
  | .regWrite reg _ => fieldRegOk reg
  | .regRead reg => fieldRegOk reg
  | .regData reg _ => fieldRegOk reg
  | .canTx _ _ _ => true
  | .canRx _ fmt id rtr sec data => frameOk fmt id rtr sec data.length
  | .cueResult _ _ => true
  | .peEdgeMessage _ _ _ => true
  | .pinEvent _ _ _ _ _ _ => true
  | .sleep _ => true
  | .linkRetrain _ => true
  | .fieldLinkUp => true
  | .linkTrainTimeout _ => true
  | .xinFailure => true
  | .rosterStall => true
  | .channelEnable _ _ => true
  | .channelDisable _ => true
  | .laneStopState _ _ => true
  | .laneStopTimeout _ _ => true
  | .deskewSequence _ => true
  | .frameStart _ _ _ _ => true
  | .lineReceived _ _ _ _ _ _ _ => true
  | .frameEnd _ _ _ _ => true
  | .embeddedData _ _ _ _ _ => true
  | .packetDiscard _ _ _ => true
  | .phyError _ => true
  | .feTimeout _ _ => true
  | .xtrigAckEdge _ => true
  | .xtrigPulse _ _ => true
  | .xtrigPeriod _ => true
  | .scpTxWrite _ _ => true
  | .scpWordStart _ => true
  | .scpWordComplete _ _ => true
  | .scpRxRead _ => true
  | .cciCmdWrite _ _ => true
  | .cciTransactionStart _ _ => true
  | .cciTransactionEnd _ _ _ => true
  | .cciStretchTimeout _ => true
  | .cciRxRead _ => true
  | .channelFailure _ _ => true
  | .channelReset _ => true
  | .channelResetComplete _ _ => true
  | .serialQueueFlush _ => true
  | .pipelineApply _ => true
  | .patchVerdict _ => true
  | .fabricAccess _ op addr _ _ => fabricOpOk addr.toNat op
  | .correctedRewrite word => decide (0x8000000 ≤ word.toNat ∧ word.toNat < 0x9800000)
  | .wayCarve req _ => software req
  | .wayReturn req _ => software req
  | .wayTransferComplete _ => true
  | .lpddr5xTrainingFailure => true
  | .deepStoreStartComplete _ _ => true
  | .ringDescriptorWrite req _ _ => software req
  | .ringClaim _ _ _ => true
  | .ringCommit _ _ => true
  | .ringAbandon _ _ => true
  | .ringRelease _ _ _ => true
  | .blockedClaimRetry _ => true
  | .quoinWrite req _ _ => software req
  | .quoinSignal _ _ _ => true
  | .quoinReset _ _ _ => true
  | .quoinPoll _ _ _ => true
  | .quoinWait req _ _ => waits req
  | .waitLimitExpiry _ => true
  | .claimLimitExpiry _ => true
  | .qnNfyRead req _ => software req
  | .streamEntry _ => true
  | .streamReadComplete _ _ _ => true
  | .nop _ => true
  | .move _ => true
  | .matmul _ => true
  | .tileDrain core array => decide (core.val < 8 ∨ array.val < 2)
  | .post _ => true
  | .expand _ => true
  | .stream _ => true
  | .stride _ => true
  | .store _ => true
  | .sync _ => true
  | .endCmd _ => true
  | .maxpool _ => true
  | .avgpool _ => true
  | .dwconv _ => true
  | .add _ => true
  | .mul _ => true
  | .max _ => true
  | .min _ => true
  | .lut _ => true
  | .softmax _ => true
  | .reduce _ => true
  | .matvec _ => true
  | .argmax _ => true
  | .compare _ => true
  | .upsample _ => true
  | .copy _ => true
  | .requant _ => true
  | .slugComplete _ _ _ => true
  | .slugOverrun _ => true
  | .startupTestComplete _ _ => true
  | .shortTestComplete _ _ => true
  | .shortTestDeferred _ => true
  | .retire _ => true
  | .test _ => true
  | .coreMemoryUncorrectable _ _ => true
  | .rosterStep => true
  | .sequenceCreate _ _ => true
  | .sequenceDeadline _ => true
  | .admitWrite _ _ => true
  | .rosterRetirement _ => true
  | .stationResourceWrite _ _ _ => true
  | .stationWindowsWrite _ _ => true
  | .tearDown _ => true
  | .pressroomWatchdogExpiry _ => true
  | .pressroomRestartComplete _ => true
  | .pcieInboundRequest _ _ addr op _ _ => fabricOpOk addr.toNat op && !fetches op
  | .outboundCompletionTimeout _ => true
  | .functionLevelReset _ => true
  | .perstNReset => true
  | .pcieLinkDown => true
  | .pcieLinkUp _ _ => true
  | .cfgReady _ => true
  | .cfgReadyTimeout => true
  | .mbxDoorbell _ _ => true
  | .dictRead path _ _ _ _ => pathOk path
  | .dictWrite path _ _ _ _ _ => pathOk path
  | .ethFrameReceive _ frame _ => decide (frame.length ≤ 65535)
  | .ethFrameTransmit _ _ => true
  | .ethLinkChange _ _ => true
  | .phcSet _ _ => true
  | .ppsEdge => true
  | .codecSubmit req _ => software req
  | .codecJobStart _ => true
  | .codecJobComplete _ _ _ _ _ => true
  | .evcOccurrence _ => true
  | .evcLineAccept _ _ samples => decide (1 ≤ samples)
  | .evcBatchTimeout _ => true
  | .evcClaim _ => true
  | .evcComplete _ _ => true
  | .evcStackReset _ => true
  | .evcTagAck _ => true
  | .evcSwset _ => true
  | .msixHeldRelease _ => true
  | .porstAssert => true
  | .computeResetRelease _ _ _ => true
  | .brownOut _ => true
  | .supplyExcursion _ => true
  | .dozeEntry => true
  | .dozeExit _ => true
  | .requestStop _ => true
  | .requestHibernate _ => true
  | .sleepEntryStart => true
  | .sleepCommit => true
  | .rtcAlarm => true
  | .gpioWakeLatch _ _ => true
  | .pwrWakeNFall => true
  | .wakeDuringEntry _ => true
  | .canFrameTransmit _ _ => true
  | .busOffRecovery _ => true
  | .canFrameDiscard _ => true
  | .nmtStart _ _ => true
  | .nmtStop _ _ => true
  | .nmtEnterPreOperational _ _ => true
  | .nmtResetNode _ _ => true
  | .nmtResetCommunication _ _ => true
  | .sdoRequest _ _ => true
  | .usdoRequest _ _ => true
  | .jdtRequest _ _ _ _ _ _ data => decide (data.length ≤ 2048)
  | .jdtSegmentTimeout _ _ => true
  | .udpDictDatagram _ _ data => decide (data.length ≤ 9018)
  | .rpdoReceive _ _ data => decide (data.length ≤ 64)
  | .syncReceive _ => true
  | .heartbeatConsumerTimeout _ _ => true
  | .heartbeatProducer _ => true
  | .tpdoChangeCheck => true
  | .tpdoEventTimer _ _ => true
  | .tpdoTransmit _ _ => true
  | .emcyTransmit _ => true
  | .errorRegisterCheck => true
  | .lssSwitchStateGlobal _ _ => true
  | .lssSwitchStateSelective _ _ _ => true
  | .lssConfigureNodeId _ _ => true
  | .lssConfigureBitTiming _ _ _ => true
  | .lssActivateBitTiming _ => true
  | .lssStoreConfiguration _ => true
  | .lssInquireIdentity _ _ => true
  | .lssInquireNodeId _ => true
  | .lssIdentifyRemoteSlave _ _ _ => true
  | .lssFastscan _ _ _ _ _ => true
  | .canWakeup _ _ _ => true
  | .protocolSideReturn => true
  | .storeParameters _ _ => true
  | .restoreDefaults _ _ => true
  | .longOperationComplete _ _ => true
  | .longOperationTimeout => true
  | .errorHistoryClear _ => true
  | .eventLogClear _ => true
  | .keyRevoke _ => true
  | .updateBegin => true
  | .updateBlock _ => true
  | .updateVerify => true
  | .updateActivate => true
  | .activateReset => true
  | .updateConfirm => true
  | .updateCancel => true
  | .packageImageSegment _ _ _ _ => true
  | .packageVerify _ => true
  | .packageRemove _ => true
  | .counterClear _ _ _ _ => true
  | .counterObjectClear _ _ => true
  | .bootWatchdogExpiry => true
  | .bootOk _ => true
  | .bootLpcfgWrite _ => true
  | .flashProgram => true
  | .flashErase => true
  | .flashCommandComplete => true
  | .deepStoreScrubRead _ err => targetErr err
  | .ringTableScrubRead err => targetErr err
  | .scrubPassLate _ => true
  | .scrubForcedMode _ => true
  | .forcedIntervalStart _ => true
  | .forcedIntervalEnd _ => true
  | .phyCalibrationStart _ => true
  | .phyCalibrationComplete _ => true
  | .calibrationPeriodEnd _ => true
  | .eraseAhead => true
  | .telemetryRead _ _ _ _ _ _ _ => true
  | .registerWrite req _ data => software req && decide (data.length ≠ 0)
  | .xinReturn => true
  | .canReceiveError _ _ => true
  | .outboundCompletion _ _ data => decide (data.length ≤ 4096)
  | .pcieConfigRequest _ op => cfgOk op
  | .hartTimerInterrupt _ => true
  | .stopExitComplete => true

end Sys2Proof
end

