-- ==== Sys2Proof/Tests/Slice0.lean ====
section
/-!
SUPPORT. Tests: ill-formed commands, states that meet the statements' hypotheses (`wit_…`), and single steps whose results the spec gives (`test_…`).
-/
namespace Sys2Proof
namespace Machine
set_option Elab.async false

/-! ### The states the tests start from -/

/-- Both dies run with a session up, the boot is done and nothing is configured. -/
def up : State :=
  { State.reset with
    fd := { State.reset.fd with up := true, everUp := true }
    link := { State.reset.link with up := true, seen := true, firstHb := false }
    pwr := { State.reset.pwr with state := .run, hold := true }
    boot := { State.reset.boot with started := true, bootOk := true }
    host := { State.reset.host with press := [(0, { run := true }), (1, { run := true })] }
    rep := { State.reset.rep with running := true } }

/-- `up` with entries of the field die's configuration, by key. -/
def withField (l : Tab Nat) : State := { up with fd := { up.fd with cfg := { num := l } } }

/-- `up` with dictionary entries, by key. -/
def withNum (l : Tab Nat) : State := { up with od := { up.od with cfg := { num := l } } }

theorem up_settled : up.settled := ⟨rfl, rfl⟩
theorem up_roomy : up.roomy := by intro k; simp [State.tally, up, State.reset]
theorem up_answers : up.answers := ⟨by decide, rfl, rfl⟩

/-- The state after a command; the state before where there is none. -/
def after1 (i : Instr) (s : State) : State := match exec i s with | .next t => t | _ => s

/-! ### Queue, reset, counters -/

theorem wit_StepRunsTheFront : ({ up with pending := [Instr.xinFailure] } : State).pending = Instr.xinFailure :: [] := rfl
theorem wit_EmptyQueueLetsTimePass : up.pending = [] ∧ up.boot.halt = 0 := ⟨rfl, rfl⟩
theorem wit_MemoryAndLogsStayInForm : up.wellKept := ⟨rfl, by decide, by decide⟩
theorem wit_CountersStickOnce :
    up.settled ∧ up.counter 0x2810 1 < 0xFFFFFFFE
    ∧ ({ up with rep := { up.rep with cnt := [(key 0x2810 1, 0xFFFFFFFE)] } } : State).counter 0x2810 1 = 0xFFFFFFFE
    ∧ ({ up with rep := { up.rep with cnt := [(key 0x2810 1, 0xFFFFFFFF)] } } : State).counter 0x2810 1 = 0xFFFFFFFF := ⟨up_settled, by decide⟩
theorem test_step_front : step { up with pending := [.xinFailure, .xinReturn] } = exec .xinFailure { up with pending := [.xinReturn] } := rfl
theorem test_empty_queue : (match step up with | .next t => t.clk.wall | _ => 0) = 6250 := by decide
theorem test_counter_sticks : (({ up with rep := { up.rep with cnt := [(key 0x2810 1, 0xFFFFFFFE)] } } : State).count 0x2810 1).rep.log.map (·.detail) = [0x28100100] := by decide

/-! ### The Field Link -/

def slot : SlotPos := { seq := 9, auto := false, high := 5, clocks := [{ jump := false, health := 0, low := 1, frac := 0 }, { jump := false, health := 2, low := 7, frac := 128 }] }
theorem wit_LinkSlots : up.link.up = true ∧ up.fd.on = true ∧ up.fd.up = true ∧ up.direct = true
    ∧ slot.clocks[1]? = some { jump := false, health := 2, low := 7, frac := 128 } ∧ slot.seq.val % 8 = 1 := by decide
theorem test_slot_view : ((after1 (.fieldSlotReceive slot true) up).view 1).pos = BitVec.ofNat 56 ((5 * 1024 + 7) * 256 + 128) := by decide
theorem test_slot_crc : (after1 (.fieldSlotReceive slot false) up).counter 0x2810 1 = 1 := by decide
theorem wit_LinkHeartbeats :
    (up.link.up = true ∧ up.heartOk = true) ∧ (up.fd.on = true ∧ up.fd.up = true ∧ up.fd.sleepReq = 0)
    ∧ (let s : State := { up with fd := { up.fd with sleepReq := 1 } }; s.fd.sleepReq ≠ 0 ∧ s.fd.autonomy = .none)
    ∧ (let s : State := { up with fd := { up.fd with autonomy := .fault, hbRun := 7 } }; s.fd.autonomy ≠ .none ∧ 7 ≤ s.fd.hbRun)
    ∧ (up.link.up = true ∧ up.computeRuns = true ∧ up.link.missRun < 2) ∧ 2 ≤ ({ up with link := { up.link with missRun := 2 } } : State).link.missRun
    ∧ (let s : State := { up with link := { up.link with up := false } }; s.link.up = false ∧ s.heartOk = true ∧ s.fd.on = true ∧ s.link.lostAt = none)
    ∧ (let s : State := { up with link := { up.link with up := false, training := true, lanes := 0xF } }
       s.link.up = false ∧ s.link.training = true ∧ s.link.lanes = 0xF#4 ∧ s.fd.on = true ∧ s.heartOk = true) := by decide
theorem test_third_miss : (after1 (.heartbeatMiss .field) { up with fd := { up.fd with missRun := 2 } }).fd.autonomy = .fault := by decide
theorem test_second_miss : (after1 (.heartbeatMiss .field) { up with fd := { up.fd with missRun := 1 } }).fd.up = true := by decide

/-- A kick cue on KCK 2 of clock 0 at position 100. -/
def kickWord : BitVec 128 := BitVec.ofNat 128 (2 ^ 118 + 2 * 2 ^ 113 + 100 * 256 + 2 ^ 92)
theorem wit_MessagesToTheFieldDie :
    (up.fieldHears = true ∧ up.direct = true)
    ∧ (let s : State := { up with cue := { tab := [(3, { st := .armed, word := kickWord })] } }; (s.cueAt 3).autoUnseen = false ∧ (s.cueAt 3).st = .armed ∧ cueKind (s.cueAt 3).word = 1)
    ∧ (let s : State := { up with cue := { tab := [(8191, { st := .live, word := kickWord, autoUnseen := true })] } }; (s.cueAt 8191).autoUnseen = true)
    ∧ (up.cue.parts.at ({} : CueParts) 0).got ||| BitVec.ofNat 4 (2 ^ 0) ≠ 15#4
    ∧ (let s : State := { up with cue := { parts := [(0, { got := 7 })] } }; (s.cue.parts.at ({} : CueParts) 0).got ||| BitVec.ofNat 4 (2 ^ 3) = 15#4 ∧ (s.cue.parts.at ({} : CueParts) 0).got ≠ 0) := by decide
/-- A session in which station 1 may install a trigger cue on TRG 4 of clock 0. -/
def installing : State :=
  { withField [(key 0x2100 1, 1), (key 0x2610 2, 16)] with
    fd := { (withField [(key 0x2100 1, 1), (key 0x2610 2, 16)]).fd with mapT := [(4, 1)] }
    od := { up.od with cfg := { num := [(key 0x2401 0x0E, 8)] } }
    cue := { parts := [(0, { got := 7, word := 0x08000000000000000000000000006400 })] } }
theorem wit_cue_install : installing.cueRefusal 0 (setCueField 0x08000000000000000000000000006400 96 32 0x08080010) = none := by decide
theorem test_cue_install : ((after1 (.cuePart 0 3 0x08080010) installing).cueAt 0).st = .armed := by decide
theorem wit_MessagesToTheComputeDie : up.link.up = true ∧ (up.cueUse 5).used = false
    ∧ (let s : State := { up with rs := { up.rs with cue := [(5, { used := true, kick := true })] } }
       s.computeRuns = true ∧ (s.cueUse 5).used = true ∧ (s.cueUse 5).first = false ∧ (s.cueUse 5).kick = true) := by decide
theorem test_spacing : (after1 (.regWrite (.spacing 3) 500) up).spacing 3 = 500 := by decide

/-! ### The field die -/

/-- Clock 0 and 1 enabled, KCK 0-7 enabled, TRG 0-31 enabled. -/
def driving : State :=
  withField ([(key 0x2100 1, 1), (key 0x2101 1, 1)] ++ (List.range 8).map (fun n => (key (0x2600 + n) 1, 1)) ++ [(key 0x2610 2, 0xFFFFFFFF)])
/-- `driving` with the state of one clock. -/
def clocked (n : Nat) (w : WebClock) : State := { driving with wc := [(n, w)] }
/-- `driving` with the state of one kicker. -/
def kicking (n : Nat) (k : Kicker) : State := { driving with fd := { driving.fd with kck := [(n, k)] } }

theorem wit_WebClockCommands :
    (up.fd.on = true ∧ (up.enc 7).a ≠ true ∧ (up.wcCfg 7).backup ≠ 7 ∧ (up.clock 7).lost = false ∧ (up.clock 7).onBackup = false ∧ (up.wcCfg 7).expectDir = 0)
    ∧ ((clocked 0 { standstill := false }).clock 0).standstill = false ∧ ((clocked 0 { lost := true }).clock 0).lost = true
    ∧ (let s := { clocked 1 { onBackup := true } with clk := { up.clk with field := 1000 * Config.psPerMs } }
       s.fieldWritable = true ∧ (s.clock 1).onBackup = true ∧ (s.clock 1).lost = false ∧ (s.enc 1).healthy = true ∧ (s.enc 1).okSince + 1000 * Config.psPerMs ≤ s.clk.field)
    ∧ (let s := { clocked 1 { lost := true } with clk := { up.clk with field := 100 * Config.psPerMs } }
       s.fieldWritable = true ∧ (s.clock 1).lost = true ∧ (s.enc (if (s.clock 1).onBackup then (s.wcCfg 1).backup else 1)).healthy = true
       ∧ (s.enc (if (s.clock 1).onBackup then (s.wcCfg 1).backup else 1)).okSince + 100 * Config.psPerMs ≤ s.clk.field) := by decide
theorem test_forward_edge : ((after1 (.quadratureEdge 0 true false) driving).clock 0).x4 = 1 := by decide
theorem test_both_lines : ((after1 (.quadratureEdge 0 true true) driving).clock 0).x4 = 0 := by decide

theorem wit_FieldSupply :
    (let s : State := { up with fd := { up.fd with on := false } }; s.fd.on = false)
    ∧ (up.fd.on = true ∧ up.fd.under = false ∧ up.direct = true ∧ up.fd.overV = false) := by decide
theorem test_undervoltage : ((after1 .vfieldUndervoltage (kicking 7 { on := true, kicks := [0] })).kick 7).on = false := by decide
theorem test_die_reset : (after1 .fieldDieReset up).pwr.vfield = .absent := by decide

theorem wit_PhotoEyesAndCeilings :
    (up.fd.on = true ∧ (up.eye 15).level ≠ true ∧ up.direct = true ∧ (up.eye 15).lastFwd = none ∧ up.computeRuns = true)
    ∧ (let s : State := { up with rs := { up.rs with ceiling := [(7, { value := 10, higher := some 20 })] }, clk := { up.clk with ref := 1000 * Config.psPerMs } }
       (s.ceil 7).higher = some 20 ∧ (s.ceil 7).since + s.num 0x2110 0x12 1000 * Config.psPerMs ≤ s.clk.ref) := by decide
theorem test_pe_forwarded : (after1 (.peEdge 15 true) up).fd.txq = [.peEdge 15 true 0] := by decide

theorem wit_KickerTripsAndRetries :
    (((kicking 0 { on := true }).kick 0).on = true ∧ (kicking 0 { on := true }).direct = true ∧ ((kicking 0 { on := true }).kick 0).pulse = false)
    ∧ (let s := kicking 7 { latch := true }; s.kickState 7 = 3 ∧ (s.kick 7).pulse = false ∧ s.fd.on = true ∧ s.fd.under = false ∧ s.fd.overV = false)
    ∧ (let s := kicking 7 { latch := true, pulse := true, retries := 15 }; (s.kick 7).pulse = true ∧ (s.kick 7).held = false ∧ s.direct = true) := by decide
theorem test_sixteenth_retry : ((after1 (.kickerRetryJudge 7 true false) (kicking 7 { latch := true, pulse := true, retries := 15 })).kick 7).held = true := by decide
theorem test_trip : ((after1 (.kickerTrip 0 .limit6A) (kicking 0 { on := true, kicks := [2] })).kick 0).latch = true := by decide
theorem wit_KickerFlags :
    (driving.kickEnabled 7 = true ∧ (driving.kick 7).on = false ∧ (driving.kick 7).pulse = false ∧ driving.direct = true ∧ (driving.kick 7).svf = false ∧ (driving.kick 7).hot = false)
    ∧ (driving.kick 7).openOff = false ∧ bit (driving.fnum (0x2600 + 7) 6 3) 0 = true := by decide
theorem test_short_vf : (after1 (.kickerShortVf 3) driving).kickState 3 = 5 := by decide
theorem wit_KickerAndTriggerCommands :
    (driving.fieldWritable = true ∧ driving.serves = true ∧ driving.od.longop = none ∧ driving.boot.recovery = false)
    ∧ (let s := kicking 0 { latch := true, held := true }; s.kickState 0 = 4 ∧ (s.kick 0).pulse = false ∧ s.fd.under = false ∧ s.fd.overV = false) := by decide
theorem test_enable_off_keeps_latch : ((after1 (.kickerEnableWrite 0 0) (kicking 0 { latch := true, svf := true })).kick 0) = { latch := true } := by decide
theorem wit_TriggersAndCanLines :
    (driving.fd.on = true ∧ driving.trgEnabled 31 = true ∧ (driving.trg 31).shorted = false ∧ driving.fd.under = false ∧ driving.direct = true)
    ∧ (driving.canWire 1).short = false := by decide
theorem test_trigger_trip : (after1 (.triggerShortTrip 31) driving).counter 0x2814 32 = 1 := by decide
theorem wit_EncoderLines : up.fd.on = true ∧ up.encMode 7 ≠ 2 ∧ ¬ (up.encMode 7 = 2 ∧ true = true) ∧ (up.enc 7).z ≠ true := by decide
theorem test_z_marker : ((after1 (.zMarkerEdge 0 true) (clocked 0 { zTicks := 9 })).clock 0).zTicks = 0 := by decide

/-! ### The cue table -/

/-- A trigger cue of station 1, clock 0, TRG 4, at position 100 ticks; width 1 µs. -/
def trigWord : BitVec 128 := BitVec.ofNat 128 (2 ^ 123 + 4 * 2 ^ 113 + 2 ^ 92 + 100 * 256)
/-- A kick cue of the same group on KCK 2, VERDICT PENDING, at the same position. -/
def sameKick : BitVec 128 := BitVec.ofNat 128 (2 ^ 123 + 2 ^ 118 + 2 * 2 ^ 113 + 2 ^ 92 + 100 * 256)
/-- Clock 0 has moved past the cues, which stand as given; station 1 has a spacing of 0 µs or none. -/
def crossing (l : Tab CueEntry) (sp : Tab Nat) : State := { clocked 0 { x4 := 1600 } with cue := { tab := l, spacing := sp } }
theorem wit_CueCrossingAndExpiry :
    (let s := crossing [(0, { st := .armed, word := trigWord, ahead := true })] [(1, 0)]; s.fd.on = true ∧ s.direct = true ∧ s.cueDue 0 = true ∧ (s.cueAt 0).st = .armed ∧ cueKind (s.cueAt 0).word = 0 ∧ s.spacingOk 1 = true)
    ∧ (let s := crossing [(0, { st := .live, word := trigWord, ahead := true })] []; s.cueDue 0 = true ∧ (s.cueAt 0).st = .live ∧ s.trgEnabled 4 = true ∧ (s.trg 4).shorted = false)
    ∧ (let s := crossing [(0, { st := .suppressed, word := trigWord, ahead := true })] []; s.cueDue 0 = true ∧ (s.cueAt 0).st = .suppressed)
    ∧ (let s := crossing [(8191, { st := .live, word := sameKick, ahead := true })] []; s.cueDue 8191 = true ∧ (s.cueAt 8191).st = .live ∧ cueKind (s.cueAt 8191).word = 1 ∧ s.kickAction 2 3 = 1 ∧ s.kickDrives 2 = true)
    ∧ (let s := crossing [(0, { st := .armed, word := trigWord, ahead := true }), (8191, { st := .armed, word := sameKick, ahead := true })] []
       s.cueDue 8191 = true ∧ (s.cueAt 8191).st = .armed ∧ s.firstTrigger (s.cueAt 8191).word = some 0 ∧ s.cueDue 0 = true ∧ sameGroup (s.cueAt 0).word (s.cueAt 8191).word = true)
    ∧ (let s : State := { up with cue := { tab := [(3, { st := .armed, word := trigWord, ahead := false })] }, clk := { up.clk with field := 1 } }
       (s.cueAt 3).st ≠ .free ∧ s.cueDue 3 = false ∧ before 32 s.fieldUs (cueExpiry (s.cueAt 3).word) = false) := by decide
theorem test_admitted : ((after1 (.cueCrossing 0) (crossing [(0, { st := .armed, word := trigWord, ahead := true })] [(1, 0)])).trg 4).on = true := by decide
theorem test_no_spacing_loaded :
    (after1 (.cueCrossing 0) (crossing [(0, { st := .armed, word := trigWord, ahead := true }), (8191, { st := .armed, word := sameKick })] [])).cueAt 8191 = { st := .suppressed, word := sameKick } := by decide
theorem test_pending_kick_is_unseen : ((after1 (.cueCrossing 8191) (crossing [(8191, { st := .live, word := sameKick, ahead := true })] [])).kick 2).on = true := by decide

theorem wit_WebClockWrites :
    (driving.fieldWritable = true ∧ driving.cuesActive 7 = false ∧ (driving.wcCfg 7).decode ≠ 1 ∧ (driving.wcCfg 7).markPe = 0xFF)
    ∧ driving.markRuleOk 7 2 1 = true ∧ ((clocked 7 { touched := true }).clock 7).touched = true
    ∧ (let s := withField [(key 0x2107 0x0E, 2), (key 0x2107 0x0F, 1)]; s.markRuleOk 7 (s.wcCfg 7).markPhase (s.wcCfg 7).markWindow = true) := by decide
theorem test_decode : ((after1 (.decodeWrite 0 1) (clocked 0 { x4 := 7 })).clock 0).turn = 1 := by decide
theorem test_length_waits : ((after1 (.impressionLenWrite 0 4096) (clocked 0 { touched := true })).clock 0).lenPend = some 4096 := by decide

/-! ### Intake channels and pipelines -/

/-- Station 1 holds channels 1 and 15, TRG 3 and rings 64-127; ring 64 is a C3 drop-new ring of it, and each channel binds TRG 3. -/
def camera (l : Tab Nat) (ic : Tab Channel) : State :=
  { withNum ([(key 0x2201 0x0F, 3), (key 0x2201 0x12, 64), (key 0x220F 0x0F, 3), (key 0x220F 0x12, 64), (key 0x2401 2, 0x8002), (key 0x2401 3, 8), (key 0x2401 0x0A, 64), (key 0x2401 0x0B, 64)] ++ l) with
    rg := { up.rg with ring := [(64, { owner := 1, cls := 3, policy := 1, valid := true, sizeLog2 := 12 })] }
    ic := ic }
theorem wit_IntakeStates :
    ((camera [] []).icn 15 1 = 0 ∧ (camera [] []).enableFault 15 = none ∧ ((camera [] []).intake 15).frame = none ∧ ((camera [] []).intake 15).exps = [] ∧ (camera [] []).serves = true)
    ∧ (camera [(key 0x220F 1, 1)] []).icn 15 1 = 1
    ∧ (let s := camera [] [(15, { state := .starting })]; s.computeRuns = true ∧ (s.intake 15).state = .starting ∧ 1#5 &&& BitVec.ofNat 5 (s.lanesUsed 15) &&& ~~~(s.intake 15).stuck ≠ 0 ∧ (s.intake 15).live = true ∧ s.icn 15 2 = 0)
    ∧ ((camera [] [(15, { state := .failed })]).intake 15).state = .failed ∧ ((camera [] []).intake 15).state ≠ .failed
    ∧ (let s := camera [] [(15, { state := .failed, resetting := true })]; (s.intake 15).resetting = true ∧ (s.intake 15).cciRun = none) := by decide
theorem test_channel_starts : ((after1 (.channelEnable 15 true) (camera [] [])).intake 15).state = .starting := by decide +kernel
theorem test_last_lane : ((after1 (.laneStopState 15 0x1F) (camera [] [(15, { state := .starting })])).intake 15).state = .ready := by decide +kernel
theorem wit_IntakeXtrig :
    up.computeRuns = true ∧ (camera [(key 0x220F 0x14, 1)] []).icn 15 0x14 = 1
    ∧ (let s := camera [] [(15, { exps := [{}] })]; (s.intake 15).exps = [{}] ∧ ({} : Expect).ack = false ∧ ({} : Expect).paired = false)
    ∧ bit (0x80000000#32).toNat 31 = true ∧ bit (0x7FFFFFFF#32).toNat 31 = false
    ∧ (let s := camera [(key 0x220F 0x14, 2)] [(15, { state := .ready, xtPeriod := 1 })]; s.icn 15 0x14 = 2 ∧ (s.intake 15).xtPeriod ≠ 0 ∧ (s.intake 15).live = true ∧ (s.intake 15).exps.length < 4) := by decide
theorem test_xtrig_pulse : ((after1 (.xtrigPulse 15 0x80000002) (camera [(key 0x220F 0x14, 2)] [(15, { state := .ready })])).intake 15).xtUntil = 2000000 := by decide
theorem wit_IntakeSerial :
    (let s := camera [] [(1, { scpTx := [{ word := 5 }], cciTx := [{ word := 7 }] })]
     (s.intake 1).scpTx = [{ word := 5 }] ∧ (s.intake 1).cciTx = [{ word := 7 }] ∧ (s.intake 1).scpRun = none ∧ (s.intake 1).cciRun = none ∧ (s.intake 1).scpRx = [])
    ∧ (let s := camera [] [(1, { scpRun := some 0x8000, cciRun := some (2 ^ 62 + 2 ^ 59), scpRx := [1], cciRx := [2] })]
       (s.intake 1).scpRun = some 0x8000 ∧ (s.intake 1).cciRun = some (2 ^ 62 + 2 ^ 59) ∧ s.icn 1 0x15 = 0 ∧ (s.intake 1).scpRx = [1] ∧ (s.intake 1).cciRx = [2] ∧ (s.intake 1).cciTx = []
       ∧ bit (2 ^ 62 + 2 ^ 59) 62 = true ∧ bits (2 ^ 62 + 2 ^ 59) 58 2 = 2) := by decide
theorem test_scp_read_word : ((after1 (.scpWordComplete 1 0x34) (camera [] [(1, { scpRun := some 0x9200 })])).intake 1).scpRx = [0x80120034] := by decide
theorem test_cci_nack : ((after1 (.cciTransactionEnd 1 true 0) (camera [] [(1, { cciRun := some 3, cciTx := [{ word := 7 }] })])).intake 1).cciTx = [] := by decide
/-- A channel that receives one stream on VC 0, with an expectation open, and a second one on VC 1. -/
def receivingOn (l : Tab Nat) (c : Channel) : State := camera l [(1, { c with state := .streaming })]
theorem wit_IntakeFrames :
    (let s := receivingOn [] { exps := [{}] }
     s.receiving 1 = true ∧ s.isPix 1 = false ∧ s.slotOf 1 0 = some (0, 1) ∧ (0 : Nat) = s.primaryVc 1 ∧ (s.intake 1).frame = none ∧ (s.intake 1).exps = [{}] ∧ s.icn 1 0x14 ≠ 1)
    ∧ (let s := receivingOn [(key 0x2201 0x0D, 4), (key 0x2201 0x0E, 1)] { frame := some { mem := [(0, { lines := 1 })] } }
       (s.intake 1).frame = some { mem := [(0, { lines := 1 })] } ∧ ([1, 2, 3, 4, 5] : List Byte).length = s.icn 1 0x0D * bitsPerPixel (s.icn 1 0x0C) / 8
       ∧ s.icn 1 0x0E ≤ 1 ∧ 0x13 ≤ s.icn 1 0x0C ∧ s.icn 1 0x0C < 64)
    ∧ (let s := receivingOn [(key 0x2201 9, 0x3001), (key 0x2201 0x0E, 1)] { frame := some { mem := [(0, { lines := 1 })] } }
       1 ∈ s.setVcs 1 ∧ (({ mem := [(0, { lines := 1 })] } : FrameIn).mem.at ({} : Member) 1).fe = false)
    ∧ (let s := receivingOn [(key 0x2201 0x13, 0xFFFFFFFF)] {}; s.slotOf 1 0 ≠ none ∧ 65536 ≤ s.icn 1 0x13 ∧ s.slotOf 1 0 ≠ some (0, 4) ∧ (s.intake 1).frame = none)
    ∧ ((receivingOn [] { exps := [{}] }).intake 1).exps[0]? = some ({} : Expect) := by decide
theorem test_frame_start : ((after1 (.frameStart 1 0 9 .ok) (receivingOn [] { exps := [{}] })).intake 1).exps = [{ paired := true }] := by decide
theorem test_packet_discard : (after1 (.packetDiscard 1 3 .corrected) (receivingOn [] {})).counter 0x2831 9 = 1 := by decide +kernel
theorem wit_Pipelines :
    (up.setFault 15 (up.shadowSet 15) = none ∧ up.serves = true ∧ up.od.longop = none)
    ∧ (let s := withNum [(key 0x230F 4, 1), (key 0x230F 3, 5)]; s.setFault 15 (s.shadowSet 15) = some .range)
    ∧ State.reset.serves = false ∧ ({ up with od := { up.od with longop := some { code := 1, inst := 1, arg := 0, started := 0 } } } : State).od.longop ≠ none
    ∧ (let s : State := { up with ic := [(2, { verdicts := [{ station := 1, imp := 7, window := 3, fail := true }] })], rs := { up.rs with cue := [(9, { used := true, kick := true, station := 1, imp := 7, line := 3 })] } }
       (s.intake 2).verdicts = [{ station := 1, imp := 7, window := 3, fail := true }] ∧ s.kickOf 1 7 3 = some 9 ∧ s.link.up = true ∧ (s.cueUse 9).used = true) ∧ (up.intake 2).verdicts = [] := by decide +kernel
theorem test_patch_verdict :
    (after1 (.patchVerdict 2) { up with ic := [(2, { verdicts := [{ station := 1, imp := 7, window := 3, fail := true }] })], rs := { up.rs with cue := [(9, { used := true, kick := true, station := 1, imp := 7, line := 3 })] } }).link.txq
      = [.verdict 9 .fail] := by decide

/-! ### Stations -/

/-- Station 1 in a state. -/
def station1 (x : StationState) : State := { camera [] [] with st := [(1, { state := x })] }
/-- 256 bytes of windows: one writable window of station 1 in the Deep Store. -/
def oneWindow : List Byte := leBytes 16 (3 + 0x4000000000000000) ++ List.replicate 240 0
theorem wit_Stations :
    up.serves = true ∧ resSize 0x30 = 0 ∧ (resSize 2 = 2 ∧ (2#8 : BitVec 8) ≠ 0x0E)
    ∧ (up.mayChange 1 = true ∧ up.resourceFault 1 2 [1, 0] = none ∧ ([1, 0] : List Byte).length = resSize 2)
    ∧ (up.resourceFault 31 0x0A [0, 0] = none ∧ up.resourceFault 1 0x0B [1, 0, 1, 0] = some 0x06090030)
    ∧ (station1 .admitting).mayChange 1 = false ∧ (camera [] []).stNum 1 2 &&& leNat [2, 0] ≠ 0
    ∧ up.granulesFault 1 (List.replicate 128 0) = none
    ∧ (windowsReserved (List.replicate 256 0) = true ∧ (windowList (List.replicate 256 0)).all (up.windowOk 1) = true)
    ∧ windowsReserved (List.replicate 256 0xFF) = false
    ∧ (station1 .admitting).stState 1 = .admitting ∧ (station1 .configured).stState 1 = .configured
    ∧ up.pwr.req = 0 ∧ up.boot.slot ≠ 2 ∧ up.admits 1 = false ∧ up.stState 1 ≠ .configured ∧ (withNum [(key 0x2401 0x22, 1)]).admits 1 = true := by decide
theorem test_channel_granted : (after1 (.stationResourceWrite 1 2 [2, 0]) up).stState 1 = .configured := by decide
theorem test_channel_taken : (after1 (.stationResourceWrite 2 2 [2, 0]) (camera [] [])).out.resp = some (.abort 0x06090030) := by decide
theorem test_tear_down : (after1 (.tearDown 1) (station1 .configured)).stState 1 = .tearingDown := by decide
theorem test_admission_ends : (after1 (.admitWrite 1 0) (station1 .admitting)).stState 1 = .configured := by decide
/-- The channel that receives a line of four RAW10 pixels. -/
def bufState : State := { withNum [(key 0x2201 0x0D, 4), (key 0x2201 0x0E, 1)] with ic := [(1, { state := .streaming, frame := some { mem := [(0, { lines := 1 })] } })] }
theorem wit_IntakeBuffer : bufState.bufferAfter 1 5 0 * (bitsPerPixel (bufState.icn 1 0x0C) : Nat) ≤ 32768 * 8 := by
  have e : bufState.intake 1 = { state := .streaming, frame := some { mem := [(0, { lines := 1 })] } } := by decide
  have h : bitsPerPixel (bufState.icn 1 0x0C) = 10 := by decide
  have h2 : bufState.icn 1 2 = 0 := by decide
  have h3 : bufState.icn 1 3 = 4 := by decide
  have h4 : bufState.icn 1 4 = 1500 := by decide
  unfold State.bufferAfter State.burst
  rw [h, h2, h3, h4, e]
  norm_num

/-! ### Memory, rings, quoins -/

/-- A 16-byte window with all rights from `a` to `b`. -/
def windowBytes (a b : Nat) : List Byte := leBytes 16 (a * 2 ^ 88 + b * 2 ^ 48 + 7)
/-- Station 1 owns ways 14 and 15, way 15 as scratch, rings and quoins 64-127, one share of channel 0, and windows over flash, scratch, the whole Deep Store and LPDDR5X. Station 0 keeps the rest. -/
def owned : State :=
  { withNum [(key 0x2401 6, 0xC000), (key 0x2401 7, 0x8000), (key 0x2401 0x0A, 64), (key 0x2401 0x0B, 64), (key 0x2401 0x0C, 64), (key 0x2401 0x0D, 64)] with
    od := { (withNum [(key 0x2401 6, 0xC000), (key 0x2401 7, 0x8000), (key 0x2401 0x0A, 64), (key 0x2401 0x0B, 64), (key 0x2401 0x0C, 64), (key 0x2401 0x0D, 64)]).od with
      cfg := { (withNum [(key 0x2401 6, 0xC000), (key 0x2401 7, 0x8000), (key 0x2401 0x0A, 64), (key 0x2401 0x0B, 64), (key 0x2401 0x0C, 64), (key 0x2401 0x0D, 64)]).od.cfg with
        dom := [(key 0x2401 5, [1]), (key 0x2401 9, windowBytes 0x30000000 0x307FFFFF ++ windowBytes 0x40000000 0x4BFFFFFF ++ windowBytes 0x400000000 0x4FFFFFFFF),
                (key 0x2400 9, windowBytes 0x30000000 0x4BFFFFFF ++ windowBytes 0x400000000 0x4FFFFFFFF)] } }
    mem := { up.mem with way := [(15, .scratch)], ds := [(0, { ready := true }), (7, { ready := true })] } }
theorem wit_TypeCaseWays :
    (∀ w, w < 16 → bit (0xC000#16).toNat w = true → owned.wayOwner w = owned.attrib (.port 1))
    ∧ (owned.wayOwner 0 ≠ owned.attrib (.port 1) ∧ owned.attrib (.port 1) < 32 ∧ owned.ref.written < 64)
    ∧ ({ up with mem := { up.mem with way := [(0, .toScratch), (15, .toCache)] } } : State).wayMode 0 = .toScratch
    ∧ ({ up with mem := { up.mem with way := [(0, .toScratch), (15, .toCache)] } } : State).wayMode 15 = .toCache
    ∧ owned.wayMode 15 = .scratch ∧ regionOf ((0x9800000#37 - 1).toNat * 8) = some (.ds 7)
    ∧ (let s : State := { up with mem := { up.mem with lpUsable := 8 } }; s.mem.lpUsable ≠ 0 ∧ s.mem.lpFailed = false) := by decide
theorem test_carve : (after1 (.wayCarve (.port 1) 0x4000) owned).wayMode 14 = .toScratch := by decide
theorem test_carve_other : (after1 (.wayCarve (.port 1) 1) owned).counter 0x2892 7 = 1 := by decide +kernel
/-- `owned` with channel 0 in a condition. -/
def channel (c : DsChan) : State := { owned with mem := { owned.mem with ds := [(0, c)] } }
theorem wit_FabricAccess :
    State.reset.computeRuns = false ∧ (owned.computeRuns = true ∧ fabricLen (.read 0) = 0)
    ∧ (coreOf (.port 1) = none ∧ regionOf 0x20000000 ≠ some .regs ∧ owned.check (.port 1) (owned.attrib (.port 1)) 0x20000000 4 .read = some (0x20000000, 8) ∧ owned.attrib (.port 1) < 32 ∧ owned.ref.written < 64)
    ∧ (regionOf (0x4BFFFFFF#40).toNat = some (.ds 7) ∧ regionOf (0x417FFFFF#40).toNat = some (.ds 0) ∧ (owned.chan 0).ready = true ∧ (owned.chan 0).fenced = false
       ∧ owned.check (.port 1) (owned.attrib (.port 1)) (0x417FFFFF#40).toNat 1 .read = none ∧ owned.check (.port 1) (owned.attrib (.port 1)) (0x41700000#40).toNat 3 .write = none
       ∧ (∀ w ∈ wordsOf (0x417FFFFF#40).toNat 1, w ∉ (owned.chan 0).poison) ∧ owned.mem.lines = [] ∧ (owned.chan 0).unc = [])
    ∧ (∃ w ∈ wordsOf (0x40000000#40).toNat 1, w ∈ ((channel { ready := true, poison := [0x8000000] }).chan 0).poison)
    ∧ (channel {}).check (.port 1) ((channel {}).attrib (.port 1)) 0x40000000 1 .read = none ∧ ((channel {}).chan 0).ready = false
    ∧ ((channel { ready := true, fenced := true }).check (.port 1) ((channel {}).attrib (.port 1)) 0x40000000 1 .read = none ∧ ((channel { ready := true, fenced := true }).chan 0).fenced = true)
    ∧ (let s : State := { channel { ready := true, fenced := true } with nc := { up.nc with core := [(15, { state := .running, station := 1 })] } }
       s.computeRuns = true ∧ (s.core 15).state = .running ∧ s.slugSeqs 15 = [] ∧ regionOf (0x40000000#40).toNat = some (.ds 0) ∧ (s.chan 0).fenced = true
       ∧ s.check (.core 15) (s.attrib (.core 15)) (0x40000000#40).toNat 1 .read = none)
    ∧ (regionOf (0x7FFFFF#40).toNat = some .flash ∧ owned.check (.press 0) (owned.attrib (.press 0)) (0x7FFFFF#40).toNat 1 .write = none ∧ coreOf (.press 0) = none)
    ∧ (regionOf (0x8000000#40).toNat = some (.tcm 0) ∧ owned.check (.press 0) (owned.attrib (.press 0)) (0x8000000#40).toNat 4 .read = none)
    ∧ (regionOf (0x30000000#40).toNat = some (.scratch 0) ∧ owned.wayMode 0 ≠ .scratch ∧ owned.check (.press 1) (owned.attrib (.press 1)) (0x30000000#40).toNat 1 .read = none)
    ∧ (let s : State := { owned with mem := { owned.mem with lpUsable := 4 } }
       regionOf (0x400000004#40).toNat = some .lpddr ∧ s.mem.lpFailed = false ∧ s.mem.lpUsable < (0x400000004#40).toNat - lpBase + 1
       ∧ s.check (.port 1) (s.attrib (.port 1)) (0x400000004#40).toNat 1 .read = none) := by decide +kernel
theorem test_write_reads_back :
    (after1 (.fabricAccess (.port 1) (.read 2) 0x40000001 .none 0) (after1 (.fabricAccess (.port 1) (.write [1, 2, 3]) 0x40000000 .none 0) owned)).out.rdata = [2, 3] := by decide +kernel
theorem test_core_and_lpddr :
    (after1 (.fabricAccess (.core 0) (.read 1) 0x400000000 .none 0) { owned with nc := { up.nc with core := [(0, { station := 1 })] } }).counter 0x2892 2 = 1 := by decide +kernel
theorem wit_RegistersAndHostAccess :
    (up.computeRuns = true ∧ up.attrib (.press 0) = 0 ∧ (List.replicate 8 0xFF : List Byte).length = 8 ∧ (List.replicate 32 0 : List Byte).length ≤ 32)
    ∧ (up.attrib (.port 31) ≠ 0 ∧ up.attrib (.port 31) < 32 ∧ up.ref.written < 64) ∧ softRequester (.hart 3 false) ≠ none
    ∧ (let s := { owned with host := { owned.host with linkUp := true, numVfs := 31 } }
       s.host.linkUp = true ∧ s.funcOn 31 = true ∧ s.funcOn 1 = true ∧ (0x41000000#40).toNat < 0x1000000000 ∧ regionOf (0x41000000#40).toNat ≠ some .regs
       ∧ s.check (.port 1) 1 (0x41000000#40).toNat 16 .read = none ∧ s.check (.port 31) 31 (0x41000000#40).toNat 16 .read = some (0x41000000, 4))
    ∧ up.host.linkUp = false
    ∧ ((up.chan 7).ready = false ∧ up.mem.waiting = [] ∧ (up.chan 7).fenced = false ∧ (owned.chan 7).ready = true) := by decide +kernel
theorem test_alarm_register : (after1 (.registerWrite (.press 0) 0x10180020 [1, 2, 0, 0, 0, 0, 0, 0]) up).pwr.rtcAlarm = 513 := by decide
theorem test_channel_start : ((after1 (.deepStoreStartComplete 7 false) up).chan 7).fenced = true := by decide

/-- Ring 127 of station 1: 256 bytes in the Deep Store. -/
def ringed (d : Ring) : State := { owned with rg := { up.rg with ring := [(127, { d with owner := 1, valid := true, sizeLog2 := 8, base := 0x40000000 })] } }
theorem wit_RingClaims :
    (coreOf (.port 1) = none ∧ (ringed {}).ringIn ((ringed {}).attrib (.port 1)) 127 = true ∧ ((ringed {}).ring 127).valid = true ∧ ((ringed {}).ring 127).damaged = false
      ∧ ((ringed {}).ring 127).owner = (ringed {}).attrib (.port 1) ∧ (0 : Nat) ≠ 256 ∧ 256 % 4 = 0 ∧ 256 ≤ ((ringed {}).ring 127).size ∧ ((ringed {}).ring 127).recLog2 = 0 ∧ ((ringed {}).ring 127).ends = []
      ∧ ((ringed {}).ring 127).fill + 256 ≤ ((ringed {}).ring 127).size)
    ∧ (let d := (ringed { claim := 4, head := 4, policy := 1, cls := 3 }).ring 127; d.size < d.fill + 256 ∧ d.policy = 1 ∧ d.cls < 4 ∧ d.ends = [])
    ∧ (let d := (ringed { claim := 4, head := 4 }).ring 127; d.size < d.fill + 256 ∧ d.policy = 0) ∧ softRequester (.port 1) = some 5 ∧ softRequester (.roster 1) = none
    ∧ (let d := (ringed { claim := 256, head := 256, policy := 2, recLog2 := 6 }).ring 127; 64 = 2 ^ d.recLog2 ∧ d.size < d.fill + 64 ∧ d.policy = 2 ∧ d.recLog2 ≠ 0 ∧ d.need 64 * 2 ^ d.recLog2 ≤ d.content)
    ∧ (let d := (ringed { ends := [8], producer := some (.roster 1) }).ring 127; d.ends ≠ [] ∧ d.producer = some (.roster 1) ∧ d.producer ≠ some (.port 1) ∧ coreOf (.roster 1) = none)
    ∧ (let s := { ringed {} with rg := { (ringed {}).rg with blocked := [{ ring := 127, req := .roster 1, len := 256 }] } }
       s.rg.blocked.find? (fun x => x.ring == 127) = some { ring := 127, req := .roster 1, len := 256 })
    ∧ (ringed {}).rg.blocked.find? (fun x => x.ring == 127) = none := by decide +kernel
theorem test_claim_then_commit : ((after1 (.ringCommit (.port 1) 127) (after1 (.ringClaim (.port 1) 127 64) (ringed {}))).ring 127).head = 64 := by decide +kernel
theorem test_drop_new : (after1 (.ringClaim (.port 1) 127 256) (ringed { claim := 4, head := 4, policy := 1, cls := 3 })).counter 0x2860 4 = 1 := by decide +kernel
/-- A descriptor that the Ring Table takes: ring of station 1, class 1, 256 bytes at the first byte of the Deep Store. -/
def goodDescriptor : List Byte := leBytes 32 (2 ^ 251 + 2 ^ 249 + 2 ^ 246 + 8 * 2 ^ 240 + 0x40000000 * 2 ^ 192)
theorem wit_RingMoves :
    (let s := ringed { ends := [8, 16], producer := some (.port 1), claim := 16, tail := 0 }
     (s.ring 127).ends = 8 :: [16] ∧ (s.ring 127).producer = some (.port 1) ∧ (s.ring 127).pqEn = false)
    ∧ (let s := { ringed { ends := [8], producer := some (.port 1), pqEn := true, pquoin := 127, head := 8, cqEn := true, cquoin := 64 } with qn := { up.qn with quoin := [(127, { owner := 1, valid := true, count := 0xFFFFFFFE }), (64, { owner := 1, valid := true })] } }
       (s.ring 127).ends = 8 :: [] ∧ (s.ring 127).pqEn = true ∧ (s.quoin (s.ring 127).pquoin).valid = true ∧ (s.quoin (s.ring 127).pquoin).damaged = false ∧ (s.quoin (s.ring 127).pquoin).count < 0xFFFFFFFF
       ∧ (s.ring 127).cqEn = true ∧ (s.quoin (s.ring 127).cquoin).valid = true ∧ 8 ≤ (s.ring 127).content)
    ∧ (((ringed { head := 4 }).ring 127).ends = [] ∧ 4 ≤ ((ringed { head := 4 }).ring 127).content ∧ ((ringed { head := 4 }).ring 127).cqEn = false ∧ ((ringed { head := 4 }).ring 127).content < 8)
    ∧ (((ringed { damaged := true }).ring 127).damaged = true ∧ ((ringed { damaged := true }).ring 127).owner = owned.attrib (.port 1) ∧ (owned.ring 127).valid = false ∧ owned.ringIn 1 127 = true)
    ∧ (owned.ringIn (owned.attrib (.port 1)) 63 = false ∧ owned.ref.written < 64)
    ∧ (owned.ringIn (owned.attrib (.port 1)) 64 = true ∧ goodDescriptor.length = 32 ∧ owned.ringAcceptable (owned.attrib (.port 1)) (ringOf (leNat goodDescriptor)) = true)
    ∧ owned.ringAcceptable (owned.attrib (.port 1)) (ringOf (leNat (List.replicate 32 0))) = false := by decide +kernel
theorem test_descriptor : ((after1 (.ringDescriptorWrite (.port 1) 64 goodDescriptor) owned).ring 64).cls = 1 := by decide +kernel
theorem test_release : ((after1 (.ringRelease (.port 1) 127 4) (ringed { head := 4 })).ring 127).tail = 4 := by decide +kernel
/-- Quoin 127 of station 1, with parked waits and a notification queue. -/
def quoined (q : Quoin) (p : List Parked) (l : List Nat) : State :=
  { owned with qn := { up.qn with quoin := [(127, { q with owner := 1, valid := true })], parked := p, nfy := [(1, { q := l })] } }
theorem wit_Quoins :
    (let s := quoined { count := 0xFFFFFFFE } [] []
     coreOf (.port 1) = none ∧ s.quoinIn (s.attrib (.port 1)) 127 = true ∧ (s.quoin 127).valid = true ∧ (s.quoin 127).damaged = false ∧ (s.quoin 127).owner = s.attrib (.port 1)
     ∧ (s.quoin 127).count + (1#32).toNat ≤ 0xFFFFFFFF ∧ 0xFFFFFFFF < (s.quoin 127).count + (2#32).toNat ∧ (∀ p ∈ s.qn.parked, p.quoin ≠ 127) ∧ (s.quoin 127).notify = false
     ∧ (0xFFFFFFFE#32).toNat ≤ (s.quoin 127).count ∧ (s.quoin 127).count < (0xFFFFFFFF#32).toNat)
    ∧ (let s := quoined { notify := true } [] (List.replicate 15 64); (s.quoin 127).notify = true ∧ (s.qn.nfy.at ({} : NotifyQ) 1).q.length < 16)
    ∧ 16 ≤ ((quoined { notify := true } [] (List.replicate 16 64)).qn.nfy.at ({} : NotifyQ) 1).q.length
    ∧ (quoined {} [{ who := .core 15, quoin := 127, thresh := 5 }] []).qn.parked = [{ who := .core 15, quoin := 127, thresh := 5 }]
    ∧ (((quoined {} [] []).qn.parked.filter (fun p => parkSame p.who (.roster 1))).length < 32 ∧ (quoined {} [] []).attrib (.roster 1) = 1)
    ∧ 32 ≤ ((quoined {} (List.replicate 32 { who := .roster 1, quoin := 64, thresh := 1 }) []).qn.parked.filter (fun p => parkSame p.who (.roster 1))).length
    ∧ parkPlaces (.port 1) = 0 ∧ (owned.quoin 127).valid = false ∧ owned.quoinIn 1 127 = true ∧ owned.quoinIn 1 128 = false
    ∧ ((quoinOf (leNat (leBytes 8 (2 ^ 59)))).owner = owned.attrib (.port 1) ∧ (quoinOf (leNat (leBytes 8 0))).owner ≠ owned.attrib (.port 1))
    ∧ (((quoined {} [] [127]).qn.nfy.at ({} : NotifyQ) 1).q = [127] ∧ (owned.qn.nfy.at ({} : NotifyQ) 1).q = []) := by decide +kernel
theorem test_signal_at_top : (after1 (.quoinSignal (.port 1) 127 2) (quoined { count := 0xFFFFFFFE } [] [])).quoin 127 = { owner := 1, valid := true, count := 0xFFFFFFFF } := by decide +kernel
theorem test_notification : (after1 (.qnNfyRead (.port 1) 1) (quoined {} [] [127])).out.rdata = leBytes 8 (2 ^ 63 + 127) := by decide +kernel

/-! ### The neural cores -/

/-- The bytes of a list from an address on, those that differ from 0. -/
def cellsAt (a : Nat) (x : List Byte) : List Host.Cell :=
  ((List.range x.length).map (fun i => (a + i, x.getD i 0))).filter (fun p => p.2 ≠ 0)
/-- Core `c` runs a slug of station 1 whose command list holds one command word, at the start of scratch way 15; granule 0 of its galley is the station's. -/
def commanded (c : Nat) (v : Nat) (k : NeuralCore) : State :=
  { owned with mem := { owned.mem with bytes := cellsAt 0x30780000 (leBytes 16 v) }
               nc := { up.nc with core := [(c, { k with state := .running, station := 1, list := 0x30780000, started := some 0, granule := [(0, 1)] })] } }
/-- The fetch gives the row's command, in a state and with a word that meet a test. -/
def runsWith (s : State) (c : Fin 16) (x : CmdKind) (p : State → Nat → Bool) : Bool := match s.fetch c x with | .run u v => p u v | .done _ => false
theorem runsWith_spec {s : State} {c : Fin 16} {x : CmdKind} {p : State → Nat → Bool} (h : runsWith s c x p = true) :
    ∃ u v, s.fetch c x = .run u v ∧ p u v = true := by
  unfold runsWith at h
  split at h
  · exact ⟨_, _, ‹_›, h⟩
  · cases h
/-- What the next fetch of the sequencer answers. -/
def fetched (s : State) (c : Fin 16) : State × Option (List Byte) := s.fabric (.core c) ((s.core c).list + 16 * (s.core c).pc) (.read 16) .none 0 (s.core c).pc
theorem fetches_of {s : State} {c : Fin 16} {x : Option (List Byte)} (h : (s.core c).ready = true ∧ (s.core c).started ≠ none ∧ (fetched s c).2 = x) :
    s.fetches c (fetched s c).1 x := ⟨h.1, h.2.1, h.2.2 ▸ rfl⟩

theorem wit_NeuralSequencer : (up.core 15).ready = false
    ∧ (commanded 15 0 {}).fetches 15 (fetched (commanded 15 0 {}) 15).1 (some (leBytes 16 0))
    ∧ (commanded 0 (0x0C * 2 ^ 120) {}).fetches 0 (fetched (commanded 0 (0x0C * 2 ^ 120) {}) 0).1 (some (leBytes 16 (0x0C * 2 ^ 120)))
    ∧ (commanded 0 (0x0B * 2 ^ 120 + 0x3FF) {}).fetches 0 (fetched (commanded 0 (0x0B * 2 ^ 120 + 0x3FF) {}) 0).1 (some (leBytes 16 (0x0B * 2 ^ 120 + (0x3FF#10).toNat)))
    ∧ (commanded 0 (7 * 2 ^ 120 + 15 * 2 ^ 116) {}).fetches 0 (fetched (commanded 0 (7 * 2 ^ 120 + 15 * 2 ^ 116) {}) 0).1 (some (leBytes 16 (7 * 2 ^ 120 + 15 * 2 ^ 116)))
    ∧ (commanded 0 (0xFF * 2 ^ 120) {}).fetches 0 (fetched (commanded 0 (0xFF * 2 ^ 120) {}) 0).1 (some (leBytes 16 (0xFF000000000000000000000000000000#128).toNat))
    ∧ (commanded 0 (2 ^ 119) {}).fetches 0 (fetched (commanded 0 (2 ^ 119) {}) 0).1 (some (leBytes 16 (2 ^ (119 : Fin 120).val))) :=
  ⟨by decide, fetches_of (by decide +kernel), fetches_of (by decide +kernel), fetches_of (by decide +kernel), fetches_of (by decide +kernel), fetches_of (by decide +kernel), fetches_of (by decide +kernel)⟩
theorem wit_NeuralSequencer_engines :
    (let u := (fetched (commanded 0 (0x0B * 2 ^ 120 + 0x3FF) {}) 0).1; (u.core 0).synced 0x3FF = true ∧ u.slugSeqs 0 = [])
    ∧ (let u := (fetched (commanded 0 (0x0B * 2 ^ 120 + 0x3FF) { posts := [0] }) 0).1; (u.core 0).synced 0x3FF = false)
    ∧ (let s := commanded 0 (7 * 2 ^ 120 + 1 * 2 ^ 116 + 14 * 2 ^ 112 + 0x7FC8 * 2 ^ 64) {}
       (fetched s 0).2 = some (leBytes 16 (7 * 2 ^ 120 + 1 * 2 ^ 116 + 14 * 2 ^ 112 + (0x7FC8#32).toNat * 2 ^ 64)) ∧ (fetched s 0).1.galleyFault 0 (0x7FC8#32).toNat (4 * 14) = none ∧ ((fetched s 0).1.core 0).job = none ∧ ((fetched s 0).1.core 0).strms = [])
    ∧ (((fetched (commanded 0 0 { job := some {} }) 0).1.core 0).job ≠ none)
    ∧ (let s := { commanded 0 0 {} with nc := { up.nc with core := [(0, { state := .running, station := 1, list := 0x20000000, started := some 0 })] } }; (s.core 0).ready = true ∧ (fetched s 0).2 = none)
    ∧ (let s := { commanded 0 0 {} with nc := { up.nc with core := [(0, { state := .running, station := 1, list := 0x30780000 })] } }; (s.core 0).ready = true ∧ (s.core 0).started = none ∧ (fetched s 0).2 = some (leBytes 16 0)) := by decide +kernel
theorem test_nop : ((after1 (.nop 15) (commanded 15 0 {})).core 15).pc = 1 := by decide +kernel
theorem test_reserved_bit : ((after1 (.nop 0) (commanded 0 1 {})).core 0).cause = 2 := by decide +kernel
theorem test_unknown_op : ((after1 (.move 0) (commanded 0 (0xFF * 2 ^ 120) {})).core 0).cause = 1 := by decide +kernel
theorem test_stride : Tab.at 0 ((after1 (.stride 0) (commanded 0 (7 * 2 ^ 120 + 1 * 2 ^ 116 + 1 * 2 ^ 112 + 4 * 2 ^ 64) { galley := [(4, 5), (5, 1)] })).core 0).stride 1 = 261 := by decide +kernel

/-- MOVE of 1,024 bytes from galley byte 0 to `dest` at unit `f`. -/
def moveWord (dest f len : Nat) : Nat := 2 ^ 120 + dest * 2 ^ 116 + f * 2 ^ 80 + len
/-- MATMUL on array `m`, int8, STEPS 1. -/
def matWord (m : Nat) : Nat := 2 * 2 ^ 120 + 2 ^ 119 + 2 ^ 118 + 2 ^ (114 + m) + 2 ^ 48
/-- POST of slot 7 with its block at 0 and its destination at 0x7000, pitch 32. -/
def postWord : Nat := 3 * 2 ^ 120 + 7 * 2 ^ 117 + 32 * 2 ^ 96 + 0x7000 * 2 ^ 32
/-- A POST block: int32 out, no function, one row, one channel. -/
def postBlock : List Host.Cell := [(0, 3), (2, 1), (3, 1)]
/-- An EXPAND block: a 1 x 1 x 1 input of bytes, a 1 x 1 kernel, one row of 32 bytes. -/
def geomBlock : List Host.Cell :=
  [(0, 1), (2, 1), (4, 1), (6, 1), (7, 1), (8, 1), (9, 1), (10, 1), (11, 1), (12, 1), (20, 1), (24, 1), (28, 1), (36, 1), (44, 32)]
/-- STORE of 64 galley bytes to the end of scratch way 15. -/
def storeWord : Nat := 8 * 2 ^ 120 + 64 * 2 ^ 40 + 0x307FFFC0
theorem wit_NeuralCommands :
    (runsWith (commanded 0 (moveWord 8 1023 32) {}) 0 ⟨0x01, none⟩ (fun u v => !(u.core 0).racy && (u.core 0).touched.isEmpty && decide (moveSpace 0 (bits v 116 4) = some 6 ∧ bits v 32 32 % 32 = 0 ∧ u.galleyFault 0 (bits v 32 32) (bits v 0 32) = none ∧ bits v 80 16 * 32 + bits v 0 32 ≤ 32768)) = true)
    ∧ (runsWith (commanded 0 (moveWord 0 62 1024) {}) 0 ⟨0x01, none⟩ (fun u v => decide (moveSpace 0 (bits v 116 4) = some 1 ∧ u.galleyFault 0 (bits v 32 32) (bits v 0 32) = none ∧ bits v 80 16 * 32 + bits v 0 32 / 32 ≤ 2048)) = true)
    ∧ (runsWith (commanded 7 (moveWord 4 31 1024) {}) 7 ⟨0x01, none⟩ (fun u v => decide (moveSpace 7 (bits v 116 4) = some 5 ∧ u.galleyFault 7 (bits v 32 32) (bits v 0 32) = none ∧ bits v 80 16 * 32 + bits v 0 32 / 32 ≤ 1024)) = true)
    ∧ (runsWith (commanded 15 (moveWord 3 0 1024) {}) 15 ⟨0x01, none⟩ (fun u v => decide (moveSpace 15 (bits v 116 4) = none ∧ u.slugSeqs 15 = [])) = true)
    ∧ (runsWith (commanded 0 (moveWord 8 0 32 + 0x8000 * 2 ^ 32) {}) 0 ⟨0x01, none⟩ (fun u v => decide (u.granuleOf 0 (bits v 32 32 / 0x8000) ≠ (u.core 0).station ∧ bits v 32 32 + 32 ≤ galleySize 0 ∧ bits v 0 32 = 32)) = true)
    ∧ (runsWith (commanded 0 (moveWord 8 0 32 + (galleySize 0) * 2 ^ 32) {}) 0 ⟨0x01, none⟩ (fun _ v => decide (galleySize 0 < bits v 32 32 + bits v 0 32)) = true)
    ∧ (runsWith (commanded 7 (matWord 3) {}) 7 ⟨0x02, none⟩ (fun u v => decide (matArrays v = [3] ∧ 3 < arrayCount 7 ∧ bits v 111 3 < 5 ∧ 1 ≤ bits v 48 16 ∧ bits v 64 16 + bits v 48 16 * actBytes (bits v 111 3) ≤ 1024 ∧ (u.core 7).mats = [] ∧ v < 2 ^ 128 ∧ (u.core 7).matFree v = true)) = true)
    ∧ (runsWith (commanded 7 (matWord 3) { drains := [{ array := 3, plane := 1, slot := 0 }] }) 7 ⟨0x02, none⟩ (fun u v => !(u.core 7).matFree v) = true)
    ∧ (runsWith (commanded 15 (matWord 2) {}) 15 ⟨0x02, none⟩ (fun _ v => decide (∃ m ∈ matArrays v, arrayCount 15 ≤ m)) = true)
    ∧ (let u := commanded 7 0 { drains := [{ array := 3, plane := 1, slot := 7 }] }; (u.core 7).state = .running ∧ (u.core 7).drains.find? (fun x => x.array == 3) = some { array := 3, plane := 1, slot := 7 } ∧ bit (u.core 7).pFull 7 = false)
    ∧ bit ((commanded 7 0 { pFull := 128 }).core 7).pFull 7 = true
    ∧ (runsWith (commanded 0 postWord { pFull := 128, galley := postBlock }) 0 ⟨0x03, none⟩ (fun u v =>
        let b := u.galley 0 (bits v 64 32) (postLen (leNat (u.galley 0 (bits v 64 32 + 1) 1)))
        bit (u.core 0).pFull (bits v 117 3) && decide (bits v 64 32 % 32 = 0) && postOk b && (u.galleyFaults 0 ((List.range (field b 2 1)).map (fun i => (bits v 32 32 + i * bits v 96 16, field b 3 1 * elemSize (field b 0 1))))).isNone) = true)
    ∧ (runsWith (commanded 0 postWord { galley := postBlock }) 0 ⟨0x03, none⟩ (fun u v => !bit (u.core 0).pFull (bits v 117 3)) = true)
    ∧ (runsWith (commanded 0 (5 * 2 ^ 120 + 0x1000 * 2 ^ 32 + 0x800) { galley := geomBlock }) 0 ⟨0x05, none⟩ (fun u v => (geomOf (u.galley 0 (bits v 64 32) 64)).ok (galleySize 0) && (u.galleyFaults 0 [(bits v 0 32, 1), (bits v 32 32, 32)]).isNone) = true)
    ∧ (runsWith (commanded 0 (5 * 2 ^ 120) {}) 0 ⟨0x05, none⟩ (fun u v => !(geomOf (u.galley 0 (bits v 64 32) 64)).ok (galleySize 0)) = true)
    ∧ (runsWith (commanded 0 storeWord {}) 0 ⟨0x08, none⟩ (fun u v => !bit v 119 && (u.galleyFault 0 (bits v 64 32) (bits v 40 24)).isNone
        && (lineSplit (bits v 0 40) (bits v 40 24)).all (fun p => (regionOf p.1 == some (.scratch 15)) && (u.check (.core 0) (u.core 0).station p.1 p.2 .write).isNone) && (u.wayMode 15 == .scratch)) = true)
    ∧ (runsWith (commanded 0 (8 * 2 ^ 120 + 2 * 2 ^ 40) {}) 0 ⟨0x08, none⟩ (fun _ v => decide (bits v 40 24 % 4 ≠ 0)) = true) := by decide +kernel
theorem test_store : (after1 (.store 0) (commanded 0 storeWord { galley := [(63, 9)] })).byte 0x307FFFFF = 9 := by decide +kernel
theorem test_matmul : Tab.at 0 (((after1 (.matmul 0) (commanded 0 (matWord 0 - 2 ^ 118) { aForme := [(0, [(1024, 2)])], wForme := [(2048, 253)] })).core 0).plane.at [] 1) 33 = -6 := by decide +kernel
theorem test_post : cellGet zeroByte ((after1 (.post 0) (commanded 0 postWord { pFull := 128, pSlot := [(7, [(0, 7)])], galley := postBlock })).core 0).galley 0x7000 = 7 := by decide +kernel

/-- A Vector block for a 1 x 1 x 1 tensor of input and output types. -/
def vecBlock (i o : Byte) : List Host.Cell :=
  ([(0, 1), (2, 1), (4, 1), (6, i), (7, o), (8, 1), (14, 1), (20, 1), (32, 1), (33, 1), (34, 1), (35, 1), (36, 1), (37, 1), (52, 1), (56, 1)] : List Host.Cell).filter (fun p => p.2 ≠ 0)
theorem wit_VectorCommands :
    (∀ x ∈ [(0x01, (0, 0)), (0x02, (0, 0)), (0x03, (0, 0)), (0x04, (0, 0)), (0x05, (0, 0)), (0x06, (0, 0)), (0x07, (0, 0)), (0x08, (0, 0)), (0x09, (0, 1)), (0x0A, (0, 3)), (0x0B, (0, 3)),
        (0x0C, (0, 5)), (0x0D, (0, 1)), (0x0E, (0, 0)), (0x0F, (0, 0)), ((0x10 : Nat), (((3, 0) : Byte × Byte)))],
      runsWith (commanded 0 (4 * 2 ^ 120 + x.1 * 2 ^ 112 + 0x7000 * 2 ^ 32) { galley := vecBlock x.2.1 x.2.2 }) 0 ⟨0x04, some x.1⟩ (fun u v =>
        let param := bits v 64 32
        let blk := u.galley 0 param (vecLen x.1 (vecBlk (u.galley 0 param 64)))
        decide (param % 32 = 0 ∧ u.galleyFault 0 param 64 = none ∧ u.galleyFault 0 param (vecLen x.1 (vecBlk (u.galley 0 param 64))) = none ∧ (vecDims x.1 (vecBlk blk)).1 = 1 ∧ u.galleyFault 0 (bits v 32 32) 4 = none)
        && vecOk x.1 blk && !(u.core 0).racy && (u.core 0).touched.isEmpty) = true)
    ∧ (∀ x ∈ [(0x01 : Nat), 0x08, 0x10], runsWith (commanded 15 (4 * 2 ^ 120 + x * 2 ^ 112) {}) 15 ⟨0x04, some x⟩ (fun u _ => !vecOk x (u.galley 15 0 (vecLen x (vecBlk (u.galley 15 0 64)))) && (u.slugSeqs 15).isEmpty) = true) := by decide +kernel
theorem test_vector_copy : cellGet zeroByte ((after1 (.copy 0) (commanded 0 (4 * 2 ^ 120 + 0x0F * 2 ^ 112 + 0x7000 * 2 ^ 32) { galley := vecBlock 0 0, vForme := [(1, 77)] })).core 0).galley 0x7000 = 77 := by decide +kernel

/-- Core 15 with a Stream job over index ring 127 of station 1, whose entries stand at the start of the Deep Store, and one entry committed. -/
def streaming1 (e : Nat) (j : StreamJob) : State :=
  { ringed { head := 4, claim := 4 } with
    mem := { owned.mem with bytes := cellsAt 0x40000000 (leBytes 4 e) }
    nc := { up.nc with core := [(15, { state := .running, station := 1, granule := [(0, 1)], job := some { j with iring := 127, ibase := 0x40000000, isize := 256, base := 0x41000000 } })] } }
/-- What the read of the next index entry answers. -/
def entryRead (s : State) (j : StreamJob) : State × Option (List Byte) := s.readPieces (.core 15) (s.core 15).pc (ringPieces 0x40000000 256 j.pos 4)
theorem wit_StreamCommands :
    (runsWith (commanded 0 (6 * 2 ^ 120) {}) 0 ⟨0x06, none⟩ (fun u v => decide (bits v 40 24 % 64 = 0 ∧ u.galleyFault 0 (bits v 40 24) 1 = none ∧ (u.core 0).job = none ∧ (u.core 0).strms = [])) = true)
    ∧ (runsWith (commanded 0 (6 * 2 ^ 120) { job := some {}, strms := [0, 0, 0] }) 0 ⟨0x06, none⟩ (fun u _ => decide ((u.core 0).job ≠ none ∧ (u.core 0).strms.length < 4)) = true)
    ∧ (runsWith (commanded 0 (6 * 2 ^ 120) { job := some {}, strms := [0, 0, 0, 0] }) 0 ⟨0x06, none⟩ (fun u _ => decide (4 ≤ (u.core 0).strms.length)) = true)
    ∧ (runsWith (commanded 0 (6 * 2 ^ 120 + 2 ^ 40) {}) 0 ⟨0x06, none⟩ (fun _ v => decide (bits v 40 24 % 64 ≠ 0)) = true)
    ∧ (let s := streaming1 0 { pos := 4 }; after 32 (s.ring 127).head 4 = false)
    ∧ (let s := streaming1 0x10 {}; (s.core 15).state = .running ∧ after 32 (s.ring 127).head 0 = true ∧ (entryRead s {}).2 = some (leBytes 4 0x10) ∧ (entryRead s {}).1.core 15 = s.core 15
       ∧ (entryRead s {}).1.galleyFault 15 0 (entryLen 0x10) = none ∧ (entryRead s {}).1.runInside 1 { base := 0x41000000 } [(0x41000000, 64)] = true)
    ∧ (let s := streaming1 0x10 {}; s.galleyFault 15 (galleySize 15) (entryLen 0x10) = some (2, galleySize 15))
    ∧ (let s := streaming1 0x101F {}; bits 0x101F 0 4 = 15 ∧ bits 0x101F 4 8 = 1 ∧ (entryRead s {}).2 = some (leBytes 4 0x101F) ∧ 4 ≤ ((entryRead s {}).1.ring 127).content ∧ ((entryRead s {}).1.ring 127).cqEn = false
       ∧ s.ringIn (s.attrib (.core 15)) 127 = true ∧ (s.ring 127).owner = s.attrib (.core 15) ∧ (s.ring 127).valid = true)
    ∧ (bits 0x2F 0 4 = 15 ∧ bits 0x2F 4 8 = 2 ∧ (entryRead (streaming1 0x2F {}) {}).2 = some (leBytes 4 0x2F)) ∧ (bits 0x0F 0 4 = 15 ∧ bits 0x0F 4 8 = 0) ∧ (bits 0x3F 0 4 = 15 ∧ 3 ≤ bits 0x3F 4 8)
    ∧ (let s := { streaming1 0 {} with mem := { owned.mem with ds := [(0, { ready := true, poison := [0x8000000] })] } }; (entryRead s {}).2 = none)
    ∧ (let s := streaming1 0 { runs := [{ pieces := [(0x41000000, 64)], dest := 0 }] }
       (s.readRun 15 .none [(0x41000000, 64)]).2 = some (List.replicate 64 0) ∧ (s.readRun 15 .uncorrectable [(0x41000000, 64)]).2 = none ∧ (s.readRun 15 .none [(0x41000000, 64)]).1.core 15 = s.core 15) := by decide +kernel
theorem test_stream_end : ((after1 (.streamEntry 15) (streaming1 0x2F {})).core 15).job = none := by decide +kernel
theorem test_stream_data : (((after1 (.streamEntry 15) (streaming1 0x10 {})).core 15).job.getD {}).dest = 64 := by decide +kernel

/-- Core 15 in a condition. -/
def core15 (k : NeuralCore) : State := { up with nc := { up.nc with core := [(15, k)] } }
theorem wit_CoreTestsAndSlugEnds :
    (up.inStartup 15 = true ∧ (up.core 15).retire = false) ∧ (core15 { state := .idle }).inStartup 15 = false
    ∧ (let s := { core15 { state := .testing } with rs := { up.rs with live := 0x8000 } }; (s.core 15).state = .testing ∧ bit s.rs.live 15 = true ∧ bit s.nc.testing 15 = false)
    ∧ ((core15 { state := .idle }).testPeriod ≠ 0 ∧ ((core15 { state := .idle }).core 15).deferred = false) ∧ up.answers ∧ up.anyAdmit = false
    ∧ (withNum [(key 0x241F 0x22, 1)]).anyAdmit = true ∧ (core15 { state := .idle }).retired 15 = false ∧ (core15 { state := .retired }).retired 15 = true
    ∧ (let s := core15 { state := .running, started := some 0, ended := false }; s.slugSeqs 15 = [] ∧ (s.core 15).state = .running ∧ (s.core 15).started ≠ none)
    ∧ ({ core15 { state := .running } with rg := { up.rg with blocked := [{ ring := 0, req := .core 15, len := 4 }] } } : State).rg.blocked.find? (fun x => x.req == .core 15) = some { ring := 0, req := .core 15, len := 4 }
    ∧ ({ core15 { state := .running } with qn := { up.qn with parked := [{ who := .core 15, quoin := 5, thresh := 9 }] } } : State).qn.parked.find? (fun x => x.who == .core 15) = some { who := .core 15, quoin := 5, thresh := 9 }
    ∧ (let s := core15 { state := .running, ended := true }
       (s.core 15).state = .running ∧ (s.core 15).ended = true ∧ (s.core 15).enginesIdle = true ∧ committedFrom (s.ring (s.carryRing 0 15)) 0 = 0 ∧ (s.rs.slug.at ({} : Slug) 15).seqs = [] ∧ (s.rs.slug.at ({} : Slug) 15).last = false)
    ∧ (let s := { core15 { state := .running, ended := true } with rs := { up.rs with slug := [(15, { on := true, station := 1, seqs := [(0, 1023)], last := true })], cue := [(7, { used := true })], seq := [(1023, { state := .running, partsRun := 1, cue := 7, station := 1, deadline := 100 })] } }
       (s.rs.slug.at ({} : Slug) 15).seqs = [(0, 1023)] ∧ committedFrom (s.ring (s.verdictRing 0 15)) 0 < 16 ∧ s.rs.wins = [] ∧ (s.seq 1023).state = .running ∧ (s.seq 1023).partsRun = 1 ∧ (s.seq 1023).partsLeft = []
       ∧ s.deadlineDue 1023 = false ∧ s.link.up = true ∧ (s.cueUse 7).used = true ∧ s.stState 1 ≠ .draining) :=
  ⟨by decide, by decide, by decide, by decide, up_answers, by decide, by decide, by decide, by decide, by decide, by decide, by decide, by decide, by decide +kernel⟩
theorem test_startup_fail : ((after1 (.startupTestComplete 15 false) up).core 15).reason = 1 := by decide +kernel
theorem test_retire_idle : ((after1 (.retire 0x8000) (core15 { state := .idle })).core 15).state = .retired := by decide +kernel
theorem test_overrun : (after1 (.slugOverrun 15) (core15 { state := .running, started := some 0 })).counter 0x287F 3 = 1 := by decide +kernel

/-! ### The Roster -/

/-- A package at the start of the Deep Store: variant 8 with one model, whose first step has one part and may run on logical core 0 of the first class; window 31 is a model window. -/
def packageBytes : List Host.Cell :=
  [(0x4000001D, 1), (0x4000003F, 0x40), (0x40000041, 1), (0x40000043, 0x40), (0x40000211, 3), (0x40000213, 0x40),
   (0x40000301, 4), (0x40000303, 0x40), (0x40000401, 1), (0x40000402, 1), (0x40000406, 1), (0x40000411, 5), (0x40000413, 0x40)]
/-- Station 1 with shares in every Deep Store channel and one window, 4000_0000h to 4000_1FFFh, that it may read and write. -/
def packageDom : Tab (List Byte) := [(key 0x2401 5, [1, 1, 1, 1, 1, 1, 1, 1]), (key 0x2401 9, [3, 0, 0, 0, 0, 0, 0xFF, 0x1F, 0, 0x40, 0, 0, 0, 0, 0x40, 0])]
/-- Station 1 names that package, has variant 8 in force and a quota of sequences, and holds channel 15; core 3 is live and idle; the clock's position view is valid. -/
def rostered (q : Tab SeqEntry) (quota : Nat) : State :=
  { up with
    mem := { up.mem with bytes := packageBytes, ds := (List.range 8).map (fun c => (c, { ready := true })) }
    od := { up.od with cfg := { num := [(key 0x2401 2, 0x8000), (key 0x2401 0x20, 0), (key 0x2401 0x23, quota), (key 0x2401 0x0A, 64), (key 0x2401 0x0B, 64)], dom := packageDom } }
    pkg := [(0, { state := .installed, base := 0x40000000 })]
    link := { up.link with views := [(0, { valid := true })] }
    nc := { up.nc with core := [(3, { state := .idle })] }
    rg := { up.rg with ring := [(64, { owner := 1, valid := true, sizeLog2 := 12, base := 0x40001000, head := 64, claim := 64 })] }
    rs := { up.rs with
      started := true, live := 8, seq := q, chain := [(1, { variant := 8 })]
      cue := [(9, { used := true, kick := true, station := 1, imp := 7, line := 31, pos := 100 })]
      rel := [{ channel := 15, window := 31, ring := 64, start := 0, len := 64, imp := 7 }] } }
/-- A sequence of station 1 that waits for its first part. -/
def waitingSeq : SeqEntry := { state := .ready, station := 1, variant := 8, partsLeft := [0], cue := 9, deadline := 10 }
theorem wit_RosterSteps :
    up.rs.started = false
    ∧ (let s := rostered [] 4
       s.rs.started = true ∧ s.computeRuns = true ∧ s.pwr.entering = false ∧ (∀ st, st < 32 → (s.chain st).next = none ∧ s.mayInstall st = false) ∧ s.rs.seq = [])
    ∧ (let s := { rostered [] 4 with clk := { up.clk with ref := 60 * Config.psPerS }, nc := { up.nc with core := [(3, { state := .idle }), (4, { state := .idle })] }, rs := { (rostered [] 4).rs with live := 24 } }
       (3 : Fin 16) ≠ 4 ∧ isQuad 3 = isQuad 4 ∧ s.idleCores = [3, 4] ∧ s.testPeriod ≠ 0 ∧ (s.core 3).testBase + s.testPeriod * Config.psPerS ≤ s.clk.ref ∧ (s.core 3).retire = false)
    ∧ (let s := rostered [(0, waitingSeq)] 4
       s.rs.seq = [(0, waitingSeq)] ∧ waitingSeq.partsLeft = [0] ∧ s.viewOk (s.stClock 1) = true ∧ (s.template 0 8 0 0).parts = 1 ∧ s.idleCores = [3] ∧ 3 ∈ s.candidates (s.template 0 8 0 0)
       ∧ (let s1 := { s with link := { s.link with rosterStall := false } }; ∀ home warm, (s1.placeGroup (s1.mkGroup [0] 0) 3 home warm).2 = true)
       ∧ (let s1 := { s with od := up.od, link := { s.link with rosterStall := false } }; ∀ home warm, (s1.placeGroup (s1.mkGroup [0] 0) 3 home warm).2 = false))
    ∧ (let s := { rostered [(0, waitingSeq)] 4 with nc := { up.nc with core := [(3, { state := .running }), (4, { state := .idle })] }, rs := { (rostered [(0, waitingSeq)] 4).rs with live := 24 } }
       s.idleCores = [4] ∧ s.candidates (s.template 0 8 0 0) ≠ [] ∧ 4 ∉ s.candidates (s.template 0 8 0 0)) := by decide +kernel
theorem wit_RosterWindows :
      (let s := rostered [] 4; let x : Released := { channel := 15, window := 31, ring := 64, start := 0, len := 64, imp := 7 }
       s.rs.rel.find? (fun x => x.channel == 0 && x.window == 31) = none ∧ s.rs.rel.find? (fun x => x.channel == 15 && x.window == 31) = some x
       ∧ s.channelOwner 15 = 1 ∧ s.stPackage (s.channelOwner 15) = some 0 ∧ s.pkKind 0 31 = 1 ∧ s.link.up = true ∧ s.kickOf 1 7 31 = some 9 ∧ (s.cueUse 9).variant = 255 ∧ (s.chain 1).variant = 8 ∧ s.pkHas 0 8 = true
       ∧ s.seqInUse 1 < s.stNum 1 0x23 ∧ freeEntry s.rs.seq = some 0 ∧ s.candidates (s.template 0 8 (s.pkModel 0 31) 0) ≠ [])
    ∧ (rostered [] 4).stPackage 0 = none
    ∧ (let s := rostered [] 0
       s.stNum 1 0x23 ≤ s.seqInUse 1 ∧ (s.cueUse 9).used = true ∧ s.rs.wins = [] ∧ s.ringIn (s.attrib (.roster (Fin.ofNat 32 1))) 64 = true ∧ (s.ring 64).owner = 1 ∧ (s.ring 64).valid = true ∧ 64 ≤ (s.ring 64).content ∧ (s.ring 64).cqEn = false) := by decide +kernel
theorem wit_RosterEnds :
      (let s := { rostered [(1023, waitingSeq)] 4 with link := { up.link with views := [(0, { valid := true, pos := 10 * 256 })] } }
       s.rs.wins = [] ∧ (s.seq 1023).state ≠ .free ∧ (s.viewAt (s.stClock 1)).valid = true ∧ s.deadlineDue 1023 = true ∧ s.link.up = true ∧ (s.cueUse 9).used = true ∧ s.stState 1 ≠ .draining)
    ∧ (up.seq 1023).state = .free ∧ up.retired 15 = false
    ∧ (let s := core15 { state := .retired }; s.retired 15 = true ∧ (∀ st, st < 32 → s.stPackage st = none) ∧ s.rs.seq = [] ∧ s.slugSeqs 15 = [])
    ∧ (let q : SeqEntry := { state := .running, station := 1, cue := 9, rerun := true }
       let s := { core15 { state := .retired } with rs := { up.rs with seq := [(5, q)], slug := [(15, { on := true, seqs := [(0, 5)] })], cue := [(9, { used := true })] } }
       s.rs.seq = [(5, q)] ∧ s.slugSeqs 15 = [5] ∧ q.rerun = true ∧ s.rs.wins = [] ∧ s.link.up = true ∧ (s.cueUse 9).used = true ∧ s.stState 1 ≠ .draining) := by decide +kernel
theorem test_placed : ((after1 .rosterStep (rostered [(0, waitingSeq)] 4)).core 3).state = .running := by decide +kernel
theorem test_roster_denied : (after1 .rosterStep { rostered [(0, waitingSeq)] 4 with od := up.od }).link.txq = [.verdict 9 .unseen] := by decide +kernel
theorem test_created : ((after1 (.sequenceCreate 15 31) (rostered [] 4)).seq 0).tag = 7 := by decide +kernel
theorem test_no_quota : (after1 (.sequenceCreate 15 31) (rostered [] 0)).link.txq = [.verdict 9 .unseen] := by decide +kernel

/-! ### Host port, Ethernet, codec, dictionary -/

/-- `owned` with the PCIe link up and 31 virtual functions. -/
def hosted (h : HostSide) : State := { owned with host := { h with press := up.host.press, linkUp := true, numVfs := 31 } }
/-- `hosted` with memory system parts that wait. -/
def hostedWaiting (h : HostSide) (w : List WaitingAccess) : State := { hosted h with mem := { owned.mem with waiting := w } }
theorem wit_HostPort :
    (let s := hosted { outst := [{ tag := 1023, fn := 31, len := 4 }] }
     s.host.outst.find? (fun x => x.tag == 1023) = some { tag := 1023, fn := 31, len := 4 } ∧ s.host.outst = [{ tag := 1023, fn := 31, len := 4 }] ∧ s.mem.waiting = [] ∧ s.host.outst.find? (fun x => x.tag == 0) = none)
    ∧ (let s := hostedWaiting { outst := [{ tag := 1023, fn := 31, len := 4 }], fn := [(1, { bme := true })] } [{ req := .press 0, station := 1, op := .read 4, addr := outBase }]
       regionOf outBase = some .outbound ∧ s.host.linkUp = true ∧ s.funcOn 1 = true ∧ (s.func 1).bme = true)
    ∧ ((hosted {}).computeRuns = true ∧ (hosted {}).funcOn 31 = true ∧ up.funcOn 1 = false ∧ up.computeRuns = true ∧ up.host.linkUp = false ∧ up.pwr.entering = false ∧ (hosted {}).host.outst = [])
    ∧ (hosted { crs := true }).host.crs = true ∧ (hosted { crs := false }).host.crs = false
    ∧ (hosted { hart := [(3, { out := true, wfi := true })] }).hartAt 3 = { out := true, wfi := true } ∧ (up.hartAt 0).out = false := by decide +kernel
theorem test_unsupported : (after1 (.outboundCompletion 1023 .unsupported []) (hosted { outst := [{ tag := 1023, len := 4 }] })).counter 0x28A0 2 = 1 := by decide +kernel
theorem test_flr : (after1 (.functionLevelReset 31) (hosted { fn := [(31, { bme := true })] })).func 31 = {} := by decide +kernel
/-- MAC 1 is on, with its queue 0 on ring 64 of station 0's range and its transmit ring 65. -/
def wired (bytes : List Host.Cell) (h : Nat) : State :=
  { { owned with od := { owned.od with cfg := { owned.od.cfg with num := owned.od.cfg.num.put (key 0x2D00 5) 1 } } } with
    mem := { owned.mem with bytes := bytes }
    rg := { up.rg with ring := [(0, { valid := true, policy := 1, sizeLog2 := 12, base := 0x4B000000 }), (1, { valid := true, sizeLog2 := 12, base := 0x4B001000, head := h, claim := h })] }
    host := { up.host with mac := [(1, { q := [(0, 2 ^ 32)] })] } }
/-- A broadcast frame of 60 bytes. -/
def shortFrame : List Byte := List.replicate 6 0xFF ++ List.replicate 54 0
theorem wit_EthernetAndClock :
    (wired [] 0).computeRuns = true ∧ State.reset.computeRuns = false ∧ ((wired [] 0).macAt 1).link = 0 ∧ (wired [] 0).pwr.entering = false ∧ (wired [] 0).macMode 1 ≠ 0
    ∧ (60 ≤ shortFrame.length ∧ ((wired [] 0).macAt 1).rxRing ((wired [] 0).rxQueue 1 shortFrame) = some 0
       ∧ (((wired [] 0).count (0x28A1 + 1) 1).putRecord (.mac 1) 0 ((wired [] 0).rxRecord shortFrame)).2 = .ok)
    ∧ ((up.macAt 1).rxRing (up.rxQueue 1 shortFrame) = none)
    ∧ (let s := { wired [] 0 with rg := { up.rg with ring := [(0, { valid := true, policy := 1, sizeLog2 := 5, base := 0x4B000000, claim := 32, head := 32 })] } }
       ((s.count (0x28A1 + 1) 1).putRecord (.mac 1) 0 (List.replicate 32 0)).2 = .full)
    ∧ (((wired [] 0).ring (((wired [] 0).macAt 1).txRing 0)).content < 16)
    ∧ (let s := wired [(0x4B001000, 60)] 76
       16 ≤ (s.ring ((s.macAt 1).txRing 0)).content ∧ (s.readPieces (.mac 1) 0 (s.ringBytes 1 (s.ring 1).tail 16)).2 = some (60 :: List.replicate 15 0)
       ∧ (16 + field (60 :: List.replicate 15 0) 0 2 + 3) / 4 * 4 ≤ (s.ring 1).content ∧ (s.readPieces (.mac 1) 0 (s.ringBytes 1 16 60)).2 = some (List.replicate 60 0)
       ∧ s.ringIn (s.attrib (.mac 1)) 1 = true ∧ (s.ring 1).owner = s.attrib (.mac 1) ∧ (s.ring 1).cqEn = false) := by decide +kernel
theorem test_bad_fcs : (after1 (.ethFrameReceive 1 shortFrame false) (wired [] 0)).counter 0x28A2 4 = 1 := by decide +kernel
theorem test_good_frame : ((after1 (.ethFrameReceive 1 shortFrame true) (wired [] 0)).ring 0).head = 92 := by decide +kernel
theorem test_phc : (after1 (.phcSet 1 5) up).phcNs = 1000000005 := by decide

/-- A JPEG job of 8 by 8 pixels whose output is ring 0. -/
def jpegJob : List Byte := leBytes 64 (4 + 50 * 2 ^ 24 + 8 * 2 ^ 32 + 8 * 2 ^ 48 + 4096 * 2 ^ 288)
/-- `owned` with the descriptor at the start of the Deep Store's channel 7, which station 0 may read. -/
def coded (c : Codec) : State := { owned with mem := { owned.mem with bytes := cellsAt 0x4A800000 jpegJob }, host := { up.host with codec := c } }
theorem wit_EvidenceCodec :
    (softRequester (.press 1) = some 37 ∧ (coded {}).attrib (.press 1) = 0 ∧ (0x4A800001#40).toNat % 64 ≠ 0)
    ∧ (((coded {}).fabric (.codec 0 0) 0x4A800000 (.read 64) .none 0 0).2 = some jpegJob ∧ ({ station := 0, desc := jpegJob } : CodecJob).ok = true
       ∧ ((coded {}).fabric (.codec 0 0) 0x4A800000 (.read 64) .none 0 0).1.host.codec.queue.length < 64)
    ∧ (((coded {}).fabric (.codec 0 0) 0x4A800040 (.read 64) .none 0 0).2 = some (List.replicate 64 0) ∧ ({ station := 0, desc := List.replicate 64 0 } : CodecJob).ok = false)
    ∧ 16 ≤ (coded { queue := List.replicate 16 {} }).queuedJobs 0
    ∧ ((coded {}).fabric (.codec 0 1) 0x20000000 (.read 64) .none 0 0).2 = none
    ∧ (let s := coded { queue := [{ desc := jpegJob }] }; s.computeRuns = true ∧ s.pwr.entering = false ∧ s.codecRun 1 = none ∧ s.host.codec.queue.find? (fun x => x.engine == 1) = some { desc := jpegJob } ∧ s.host.codec.queue.find? (fun x => x.engine == 2) = none)
    ∧ (let s := coded { run := [(1, some { desc := jpegJob })] }; s.codecRun 1 = some { desc := jpegJob } ∧ ({ desc := jpegJob } : CodecJob).encodes = true ∧ ({ desc := jpegJob } : CodecJob).flag 2 = false) := by decide +kernel
theorem test_codec_submit : (after1 (.codecSubmit (.press 1) 0x4A800000) (coded {})).host.codec.subres.at 0 37 = 1 := by decide +kernel

theorem wit_DictionaryAccess :
    up.pathOpen (.mailbox 31) = false ∧ (hosted {}).funcOn 31 = true ∧ (hosted {}).answers
    ∧ (match (hosted {}).readEntry 0 0x2204 1 with | .value _ => true | _ => false) = true
    ∧ (match (hosted {}).readEntry 0 0x1FFF 0 with | .abort a => a == 0x06020000 | _ => false) = true
    ∧ (match (hosted {}).namedRow 0x1FFF 0 with | .error a => a == 0x06020000 | .ok _ => false) = true ∧ (match (hosted {}).namedRow 0x2204 1 with | .error _ => false | .ok _ => true) = true
    ∧ (match (hosted {}).writeGate 0 0x2204 2 with | .error _ => false | .ok r => r.ty != .dom) = true
    ∧ (match (hosted {}).writeGate 31 0x2204 2 with | .error a => a == 0x06010000 | .ok _ => false) = true
    ∧ (hosted { fn := [(0, { mbx := { xfer := some { key := key 0x2401 9, next := 2032, data := List.replicate 2032 0, time := 0 } } })] }).func 0 ≠ {}
    ∧ ((hosted {}).func 31).mbx.xfer = none ∧ (hosted {}).vfStationOk 0 0x2204 2 [1] = true
    ∧ (let s := { hosted {} with od := { (hosted {}).od with longop := some { code := 1, inst := 1, arg := 0, started := 0 } } }; s.serves = true ∧ s.od.longop ≠ none ∧ s.boot.recovery = false)
    ∧ ((hosted {}).func 31).mbx.busy = false ∧ bit (1#32).toNat 0 = true
    ∧ (recordReq (leBytes 16 (1 + 1 * 256 + 0x2204 * 65536 + 4 * 2 ^ 32)) = .read 0x2204 1 4 0 ∧ recordReq (leBytes 16 0) = .badOp 0 0)
    ∧ (match recordReq (leBytes 16 (0x82 + 2 * 256 + 0x2204 * 65536)) with | .write i sub l o d => i == 0x2204 && sub == 2 && l && o == 0 && d.isEmpty | _ => false) = true :=
  ⟨by decide, by decide, ⟨by decide, rfl, rfl⟩, by decide +kernel⟩
theorem test_dict_read : (after1 (.dictRead (.mailbox 0) 0x2600 1 4 0) up).out.resp = some (.value (.num 1 0)) := by decide +kernel
theorem test_vf_write : (after1 (.dictWrite (.mailbox 31) 0x2204 2 true 0 [1]) (hosted {})).out.resp = some (.abort 0x06010000) := by decide +kernel

/-! ### Event Concentrator -/

/-- Sources and targets of the Event Concentrator as given. -/
def concentrated (e : Evc) : State := { up with rep := { up.rep with evc := e } }
/-- A hart claims source 1023, PRIO 15 at target 5, which is pending. -/
def claiming : State := concentrated { src := [(1023, BitVec.ofNat 64 (15 + 5 * 16))], st := [(1023, { c := 3, pending := true })] }
theorem wit_EvcSources :
    (up.settled ∧ up.roomy)
    ∧ (evcReserved 1 = false ∧ evcReserved 260 = false ∧ (up.rep.evc.state 260).c ≠ 254 ∧ 255 ≤ ((concentrated { st := [(260, { c := 255 })] }).rep.evc.state 260).c)
    ∧ (∀ k, k < 32 → (up.rep.evc.state (256 + k)).c < 254)
    ∧ ((up.rep.evc.ext 31).level ≠ true ∧ srcFilter (up.rep.evc.cfg (1024 + 31)) ≤ 1 ∧ (up.rep.evc.state (1024 + 31)).c ≠ 254 ∧ srcEdge (up.rep.evc.cfg (1024 + 31)) < 3)
    ∧ (let s := concentrated { src := [(1055, BitVec.ofNat 64 (3 * 2 ^ 12 + 8 * 2 ^ 56))] }
       3 ≤ srcEdge (s.rep.evc.cfg 1055) ∧ (s.rep.evc.state 1055).inService = false ∧ 7 < srcFilter (s.rep.evc.cfg 1055))
    ∧ (let s := concentrated { src := [(1055, BitVec.ofNat 64 (100 * 2 ^ 32 + 9 * 2 ^ 48))], st := [(1055, { c := 1, timer := some 0 })] }
       (s.rep.evc.state 1055).c ≠ 0 ∧ (s.rep.evc.state 1055).pending = false ∧ (s.rep.evc.state 1055).timer ≠ none ∧ srcTime (s.rep.evc.cfg 1055) ≠ 0) :=
  ⟨⟨up_settled, up_roomy⟩, by decide⟩
theorem test_swset : ((after1 (.evcSwset 0x80000001) up).rep.evc.state 287).c = 1 := by decide
theorem test_short_pulse : (after1 (.evcLineAccept 31 true 7) (concentrated { src := [(1055, BitVec.ofNat 64 (8 * 2 ^ 56))] })).counter 0x28B0 8 = 1 := by decide +kernel
theorem wit_EvcTargets :
    (evcIllegal (.hart 5 false) = false ∧ claiming.evcPort (.hart 5 false) = some 5 ∧ (claiming.rep.evc.target 5).frozen = false ∧ (claiming.rep.evc.target 5).tagLoss = false ∧ claiming.rep.evc.best 5 = some 1023 ∧ up.rep.evc.best 5 = none)
    ∧ (up.evcPort (.window 0 31) = some 37 ∧ up.evcPort (.window 1 31) = none)
    ∧ (let s := concentrated { tgt := [(3, { frozen := true }), (2, { tagLoss := true })] }; (s.rep.evc.target 3).frozen = true ∧ (s.rep.evc.target 2).tagLoss = true)
    ∧ (let s := concentrated { tgt := [(5, { stack := [(2047, 3)] })] }; (s.rep.evc.target 5).frozen = false ∧ (s.rep.evc.target 5).stack = (2047, 3) :: [])
    ∧ (up.rep.evc.target 5).stack = []
    ∧ (let s := { concentrated { tgt := [(37, { held := true, signalled := true })] } with host := { up.host with linkUp := true, fn := [(0, { bme := true, msixEn := true, vec := [(31, 0)] })] } }
       (s.rep.evc.target (6 + 31)).held = true ∧ s.msixOk 31 = true) := by decide
theorem test_claim : (after1 (.evcClaim (.hart 5 false)) claiming).out.claim = BitVec.ofNat 32 (2 ^ 31 + 15 * 2 ^ 24 + 3 * 2 ^ 16 + 1023) := by decide +kernel
theorem test_wrong_complete : ((after1 (.evcComplete (.hart 5 false) 7) up).rep.evc.target 5).frozen = true := by decide +kernel

/-! ### CAN -/

/-- Port 1 under PROFILE 2 with node-ID 9 and a JDT service at priority 5, SDT 3; a frame waits. -/
def canned (c : CanPort) : State :=
  { withNum [(key 0x2E01 1, 2), (key 0x2E01 2, 9), (key 0x2E01 7, 1), (key 0x2E01 8, 3), (key 0x2E01 9, 5), (key 0x1017 0, 100), (key 0x1016 4, 0x50064)] with
    can := [(1, { c with avail := true, rx := [{}] })] }
theorem canned_serves (c : CanPort) (h : c.inForce = []) : (canned c).canServes 1 := by
  refine ⟨rfl, ?_, rfl, by simp [canned, State.port, Tab.at], rfl⟩
  simp [canned, State.canSet, State.port, Tab.at, CanPort.force, h, State.canNum, State.num, Cfg.get, withNum, key]
theorem wit_SdoServers :
    (canned { nmt := .operational }).canServes 1
    ∧ (let s := canned { nmt := .operational }
       s.canSet 1 1 ≠ 1 ∧ s.canSet 1 1 = 2 ∧ (s.port 1).talks = true ∧ (up.port 1).talks = false ∧ s.od.longop = none
       ∧ (match ((s.takeFrame 1).setSdo 1 none).readEntry 1 0x1001 0 with | .value y => decide (y.toBytes.length ≤ 4) | _ => false) = true
       ∧ (match ((s.takeFrame 1).setSdo 1 none).readEntry 1 0x1008 0 with | .value y => decide (4 < y.toBytes.length) | _ => false) = true
       ∧ (match ((s.takeFrame 1).setSdo 1 none).readEntry 1 0x1FFF 0 with | .abort _ => true | _ => false) = true
       ∧ (match (s.takeFrame 1).writeGate 0 0x1001 0 with | .error a => a == 0x06010002 | .ok _ => false) = true
       ∧ (match ((s.takeFrame 1).setSdo 1 none).writeGate 0 0x1017 0 with | .error _ => false | .ok r => ((((s.takeFrame 1).setSdo 1 none).writeValue 0x1017 0 r [1, 0]).2 == .ok) && !((((s.takeFrame 1).setSdo 1 none).writeValue 0x1017 0 r [1, 0]).1.canWire 1).short
            && (((s.takeFrame 1).setSdo 1 none).writeValue 0x1017 0 r [1, 0]).1.attached 1) = true)
    ∧ (let s := canned { nmt := .operational, sdo := some { key := key 0x1008 0, data := [1, 2, 3], up := true } }; ((s.port 1).sdo.getD {}).up = true)
    ∧ (let s := canned { nmt := .operational, sdo := some { key := key 0x1017 0, data := [1] } }; ((s.port 1).sdo.getD {}).key ≠ 0 ∧ ((s.port 1).sdo.getD {}).up = false) :=
  ⟨canned_serves _ rfl, by decide +kernel⟩
theorem test_sdo_read_only : ((after1 (.usdoRequest 1 (.download 0x1001 0 true [0])) (canned { nmt := .operational })).port 1).tx = [.sdo 0x1001 0 (.abort 0x06010002)] := by decide +kernel
theorem test_sdo_wrong_profile : (after1 (.sdoRequest 1 .abort) (canned { nmt := .operational })).counter (canCnt 1) 0x0E = 1 := by decide +kernel
/-- A record that reads 1001h:00. -/
def readRecord : List Byte := leBytes 16 (1 + 0x1001 * 65536 + 4 * 2 ^ 32)
theorem wit_RecordServersAndPressroom :
    (let s := canned { nmt := .operational }
     s.canServes 1 ∧ s.canSet 1 7 ≠ 0 ∧ (5#11).toNat = s.canSet 1 9 ∧ (3#8).toNat = s.canSet 1 8 ∧ bits (0x09330000#32).toNat 24 8 = s.nodeId 1
     ∧ bits (0x09330000#32).toNat 0 16 = 0 ∧ bits (0x09330000#32).toNat 16 8 = 0x33 ∧ (0x33 : Nat) ≠ s.nodeId 1 ∧ recordLenOk readRecord = true ∧ readRecord.length ≤ 2048 ∧ 0x33 ∉ (s.port 1).jdtWait
     ∧ (s.port 1).jdtWait.length < 8 ∧ s.answers ∧ recordReq readRecord = .read 0x1001 0 4 0)
    ∧ (let s := canned { nmt := .operational, jdtWait := List.replicate 8 1 }; ¬ (0x33 ∉ (s.port 1).jdtWait ∧ (s.port 1).jdtWait.length < 8))
    ∧ ((∀ x ∈ (up.port 1).jdtXfer, x.1 ≠ 255) ∧ ∃ x ∈ ((canned { jdtXfer := [(255, {})] }).port 1).jdtXfer, x.1 = 255) :=
  ⟨⟨canned_serves _ rfl, by decide, by decide, by decide, by decide, by decide, by decide, by decide, by decide, by decide, by decide, by decide, ⟨by decide, rfl, rfl⟩, by decide⟩, by decide, by decide⟩
/-- The UDP service is on at MAC 0. -/
def udpOn : State := withNum [(key 0x2D00 4, 1), (key 0x2D00 7, 1), (key 0x2D00 8, 0x0A000001)]
theorem wit_RecordServers_udp :
    (udpOn.computeRuns = true ∧ udpOn.boot.started = true ∧ udpOn.boot.recovery = false ∧ udpOn.svcOn 0 = true ∧ up.svcOn 1 = false ∧ recordLenOk readRecord = true ∧ recordLenOk [] = false
      ∧ Path.udp 0 5 ∉ udpOn.udpWaiting ∧ udpOn.udpWaiting.length < 8)
    ∧ (let s := { udpOn with od := { udpOn.od with waiting := List.replicate 8 { path := .udp 0 1, token := 0, vcid := 0, req := .badOp 0 0 } } }; 8 ≤ s.udpWaiting.length)
    ∧ ((up.host.press.at ({} : Pressroom) 1).run = true ∧ (State.reset.host.press.at ({} : Pressroom) 0).run = false ∧ (up.host.press.at ({} : Pressroom) 0).restarting = false)
    ∧ (let s := { up with host := { up.host with press := [(1, { restarting := true })] }, od := { up.od with waiting := [{ path := .mailbox 31, token := 9, vcid := 0, req := .badOp 5 6 }], longop := some { code := 1, inst := 1, arg := 0, started := 0 } } }
       (s.host.press.at ({} : Pressroom) 1).restarting = true ∧ s.od.waiting = [{ path := .mailbox 31, token := 9, vcid := 0, req := .badOp 5 6 }] ∧ s.od.longop ≠ none) := by decide +kernel
theorem test_jdt : ((after1 (.jdtRequest 1 5 3 0 false 0x09330000 readRecord) (canned { nmt := .operational })).port 1).tx.length = 1 := by decide +kernel
theorem test_udp_short : (after1 (.udpDictDatagram 0 5 []) udpOn).counter 0x28D2 1 = 1 := by decide +kernel

theorem wit_CanNmt :
    (let s := canned {}
     (9#8).toNat = s.nodeId 1 ∧ s.canServes 1 ∧ (s.port 1).nmt ≠ .operational ∧ s.takenSet 1 1 ≠ 0)
    ∧ ((canned { nmt := .stopped }).port 1).nmt ≠ .initialising ∧ (canned {}).val 0x1017 0 ≠ 0
    ∧ (let s := canned { hb := [(3, { seen := true })] }; bits (s.val 0x1016 (3 + 1)) 16 8 ≠ 0 ∧ bits (s.val 0x1016 (3 + 1)) 0 16 ≠ 0 ∧ ((s.port 1).hb.at ({} : HbConsumer) 3).seen = true)
    ∧ (up.protocolSide = true ∧ (up.port 0).avail = false ∧ up.takenSet 0 1 ≠ 0 ∧ (up.canWire 0).short = false) :=
  ⟨⟨by decide, canned_serves _ rfl, by decide, by decide⟩, by decide +kernel⟩
theorem test_other_node : ((after1 (.nmtStop 1 10) (canned { nmt := .operational })).port 1).nmt = .operational := by decide +kernel
theorem test_return : ((after1 .protocolSideReturn up).port 0).tx = [.bootup] := by decide +kernel
theorem wit_CanLss :
    ((canned {}).canServes 1 ∧ (canned {}).od.longop = none)
    ∧ (((canned { lss := { select := 3 } }).port 1).lss.config = false ∧ (0#32).toNat = (canned {}).identity (0 + 1) % 2 ^ 32 - 0x0D16)
    ∧ ((canned { lss := { config := true } }).port 1).lss.config = true ∧ 127 ≤ (127#8).toNat ∧ (127#8).toNat ≤ 127 ∧ 127 < (128#8).toNat ∧ rateIndex 0 = true ∧ rateIndex 5 = false
    ∧ ((canned {}).remoteMatch 0 0x0D16 = true ∧ (canned { lss := { remote := 5 } }).remoteMatch 5 0 = true ∧ ((canned { lss := { remote := 5 } }).port 1).lss.remote = 5)
    ∧ ((canned { lss := { fast := 3 } }).port 1).lss.fast = 3 :=
  ⟨⟨canned_serves _ rfl, rfl⟩, by decide +kernel⟩
theorem test_lss_node : ((after1 (.lssConfigureNodeId 1 128) (canned { lss := { config := true } })).port 1).tx = [.lss 17 1] := by decide +kernel
theorem test_fastscan : ((after1 (.lssFastscan 1 0 128 0 0) (canned {})).port 1).tx = [.lss 0x4F 0] := by decide +kernel
theorem wit_CanFrames :
    (let s := canned { tx := [.bootup], tec := 250 }; (s.port 1).avail = true ∧ s.canSet 1 1 ≠ 0 ∧ (s.canWire 1).short = false ∧ (s.port 1).busOff = false ∧ (s.port 1).isLonely = false ∧ (s.port 1).tx = .bootup :: [] ∧ (s.port 1).lonely < 15)
    ∧ ((canned { busOff := true }).port 1).busOff = true
    ∧ (((canned {}).port 1).rx.length < 64 ∧ (canned {}).heartbeatNode 1 { fmt := .fd, id := 0x600, data := [] } = none)
    ∧ (let s : State := { canned {} with can := [(1, { avail := true, rx := List.replicate 64 {} })] }; (s.port 1).rx.length = 64 ∧ (s.port 1).rx = {} :: List.replicate 63 {} ∧ s.discards 1 {} = true)
    ∧ (let s := { canned {} with fd := { up.fd with autonomy := .orderly, canArm := [(1, 2)] } }; s.fd.on = true ∧ s.fd.autonomy = .orderly ∧ s.fd.canWake = false ∧ s.fd.canArm.at 0 1 = 2) := by decide +kernel
theorem test_bus_off : ((after1 (.canFrameTransmit 1 .otherError) (canned { tx := [.bootup], tec := 248 })).port 1).busOff = true := by decide +kernel
theorem test_passive_ack : ((after1 (.canFrameTransmit 1 .ackError) (canned { tx := [.bootup], tec := 128 })).port 1).tec = 128 := by decide +kernel
/-- Port 1 alone, operational, with settings of PDOs. -/
def pdoed (l : Tab Nat) (c : CanPort) : State :=
  { withNum ([(key 0x2E01 1, 2), (key 0x2E01 2, 9)] ++ l) with can := [(1, { c with avail := true, rx := [{}], nmt := .operational })] }
theorem wit_CanPdos :
    (let s := pdoed [(key 0x1407 1, 0x300), (key 0x1407 2, 0), (key 0x1607 0, 1), (key 0x1607 1, 0x24012208)] {}
     (s.port 1).nmt = .operational ∧ bit (s.val (0x1400 + 7) 1) 31 = false ∧ s.od.longop = none ∧ ([] : List Byte).length < mapBytes (s.pdoMap 0x1600 7) ∧ ([1] : List Byte).length = mapBytes (s.pdoMap 0x1600 7) ∧ s.val (0x1400 + 7) 2 < 254)
    ∧ 254 ≤ (pdoed [(key 0x1407 2, 254)] {}).val (0x1400 + 7) 2
    ∧ (let l : List (Nat × Nat) := (List.range 7).map (fun k => (key (0x1800 + k) 1, 0x80000000)) ++ [(key 0x1807 1, 0x480), (key 0x1807 2, 240), (key 0x1A07 0, 1), (key 0x1A07 1, 0x10010008)]
       let s := pdoed l { tpdo := [(7, { sync := 239 })] }
       (s.port 1).syncTpdos = [] ∧ (∀ k, k < 8 → k ≠ 7 → s.carries 1 k = false) ∧ s.carries 1 7 = true ∧ 1 ≤ s.tpdoSet 7 2 ∧ s.tpdoSet 7 2 ≤ 240 ∧ (s.port 1).isLonely = false ∧ s.tpdoSet 7 2 ≤ (s.tpdoAt 1 7).sync + 1)
    ∧ (let l : List (Nat × Nat) := (List.range 7).map (fun k => (key (0x1800 + k) 2, 1)) ++ [(key 0x1807 1, 0x480), (key 0x1807 2, 254), (key 0x1807 5, 10), (key 0x1A07 0, 1), (key 0x1A07 1, 0x10010008)]
       let s := pdoed l { tpdo := [(7, { queued := true })] }
       s.carries 1 7 = true ∧ 254 ≤ s.tpdoSet 7 2 ∧ s.tpdoSet 7 5 ≠ 0 ∧ s.tpdoBytes 7 ≠ (s.tpdoAt 1 7).last ∧ s.inhibitOver 1 7 = true ∧ (∀ k, k < 8 → k ≠ 7 → s.tpdoSet k 2 ≠ 254) ∧ s.carries (1 - 1) 7 = false
       ∧ (s.tpdoAt 1 7).queued = true ∧ (s.port 1).busOff = false) := by decide +kernel
theorem wit_CanPdos_rest :
    (pdoed [] {}).canServes 1
    ∧ (let s := { pdoed [(key 0x1014 0, 0x89)] {} with rep := { up.rep with emcy := [(1, [{}])] } }; s.rep.emcy.at [] 1 = {} :: [] ∧ s.emcyReady 1 = true ∧ bit (s.val 0x1014 0) 31 = false)
    ∧ (up.computeRuns = true ∧ (up.host.press.at ({} : Pressroom) 0).run = true ∧ up.rep.errLast = 0) := ⟨⟨rfl, by decide, rfl, by decide, by decide⟩, by decide +kernel⟩
theorem test_rpdo_short : (after1 (.rpdoReceive 1 7 []) (pdoed [(key 0x1407 1, 0x300), (key 0x1607 0, 1), (key 0x1607 1, 0x24012208)] {})).counter (canCnt 1) 0x0A = 1 := by decide +kernel
theorem test_emcy_sent : (after1 (.emcyTransmit 1) { pdoed [(key 0x1014 0, 0x89)] {} with rep := { up.rep with emcy := [(1, [{}])] } }).rep.emcy.at [] 1 = [] := by decide +kernel

/-! ### The boot record -/

/-- A whole copy of the boot record. -/
def recImage (r : BootRec) : List Byte := recBody r ++ leBytes 4 (crc32 (recBody r)).toNat ++ leBytes 4 r.seq ++ List.replicate 28 0
/-- A state in which both copies hold a record. -/
def recorded (s : State) (r : BootRec) : State := (s.poke 0x10000 (recImage r)).poke 0x11000 (recImage r)

theorem length_slice (b : List Byte) (a n : Nat) : (slice b a n).length = n := by
  simp [slice]
theorem length_leBytes (n v : Nat) : (leBytes n v).length = n := by
  induction n generalizing v with
  | zero => rfl
  | succ n ih => simp [leBytes, ih]
theorem length_recBody (r : BootRec) : (recBody r).length = 4060 := by
  simp only [recBody, List.length_append, length_leBytes, length_slice, List.length_replicate]
theorem length_recImage (r : BootRec) : (recImage r).length = 4096 := by
  simp only [recImage, List.length_append, length_leBytes, length_recBody, List.length_replicate]
theorem peek_poke (s : State) (a : Nat) (x : List Byte) (h : cellsWf memDefault s.mem.bytes = true) : (s.poke a x).peek a x.length = x := by
  unfold State.peek
  rw [cellRead_eq a x.length (poke_wf s a x h)]
  refine List.ext_getElem (by simp) (fun i h1 h2 => ?_)
  simp only [List.getElem_map, List.getElem_range]
  exact cellGet_write_inside s.mem.bytes a x i h2
theorem peek_poke_outside (s : State) (a k n : Nat) (x : List Byte) (h : cellsWf memDefault s.mem.bytes = true) (hk : k + n ≤ a) :
    (s.poke a x).peek k n = s.peek k n := by
  unfold State.peek
  rw [cellRead_eq k n (poke_wf s a x h), cellRead_eq k n h]
  refine List.map_congr_left (fun i hi => ?_)
  exact cellGet_write_outside s.mem.bytes a x (k + i) (Or.inl (by have := List.mem_range.1 hi; omega))
theorem leNat_leBytes4 (v : Nat) : leNat (leBytes 4 v) = v % 2 ^ 32 := by
  simp [leBytes, leNat]; omega
theorem field_middle (x y z : List Byte) : field (x ++ y ++ z) x.length y.length = leNat y := by
  simp [field, slice]
theorem recImage_valid (r : BootRec) (h : r.seq < 2 ^ 32) : recValid (recImage r) = true := by
  obtain ⟨q, hq⟩ : ∃ q, recImage r = [] ++ leBytes 4 0x4A524252 ++ q := by
    simp only [recImage, recBody, List.append_assoc, List.nil_append]
    exact ⟨_, rfl⟩
  obtain ⟨q2, hq2⟩ : ∃ q, recImage r = leBytes 4 0x4A524252 ++ leBytes 4 r.seq ++ q := by
    simp only [recImage, recBody, List.append_assoc]
    exact ⟨_, rfl⟩
  have h0 : field (recImage r) 0 4 = 0x4A524252 := by
    have e := field_middle [] (leBytes 4 0x4A524252) q
    rwa [← hq, leNat_leBytes4, length_leBytes] at e
  have h4 : field (recImage r) 4 4 = r.seq := by
    have e := field_middle (leBytes 4 0x4A524252) (leBytes 4 r.seq) q2
    rwa [← hq2, leNat_leBytes4, length_leBytes, length_leBytes, Nat.mod_eq_of_lt h] at e
  have h1 : (recImage r).take 4060 = recBody r := by
    simp only [recImage, List.append_assoc]
    exact List.take_left' (length_recBody r)
  have h2 : field (recImage r) 4060 4 = (crc32 (recBody r)).toNat := by
    have e := field_middle (recBody r) (leBytes 4 (crc32 (recBody r)).toNat) (leBytes 4 r.seq ++ List.replicate 28 0)
    rw [length_recBody, length_leBytes, leNat_leBytes4, Nat.mod_eq_of_lt (crc32 (recBody r)).isLt, ← List.append_assoc] at e
    exact e
  have h3 : field (recImage r) 4064 4 = r.seq := by
    have e := field_middle (recBody r ++ leBytes 4 (crc32 (recBody r)).toNat) (leBytes 4 r.seq) (List.replicate 28 0)
    rwa [leNat_leBytes4, Nat.mod_eq_of_lt h, List.length_append, length_recBody, length_leBytes, length_leBytes] at e
  unfold recValid
  rw [h0, h1, h2, h3, h4]
  simp
theorem inForce_of_peek (s : State) (r : BootRec) (h : r.seq < 2 ^ 32) (hr : recOf (recImage r) = r)
    (h0 : s.peek 0x10000 4096 = recImage r) (h1 : s.peek 0x11000 4096 = recImage r) : s.recInForce = some (0, r) := by
  have c0 : s.bootCopy 0 = some r := by simp [State.bootCopy, recBase, h0, recImage_valid r h, hr]
  have c1 : s.bootCopy 1 = some r := by simp [State.bootCopy, recBase, h1, recImage_valid r h, hr]
  simp [State.recInForce, c0, c1]
theorem recorded_peeks (s : State) (r : BootRec) (hs : cellsWf memDefault s.mem.bytes = true) :
    (recorded s r).peek 0x10000 4096 = recImage r ∧ (recorded s r).peek 0x11000 4096 = recImage r := by
  have hp := poke_wf s 0x10000 (recImage r) hs
  have e := peek_poke s 0x10000 (recImage r) hs
  have e1 := peek_poke (s.poke 0x10000 (recImage r)) 0x11000 (recImage r) hp
  rw [length_recImage] at e e1
  exact ⟨by rw [recorded, peek_poke_outside _ _ _ _ _ hp (by omega), e], e1⟩
theorem recorded_inForce (s : State) (r : BootRec) (hs : cellsWf memDefault s.mem.bytes = true) (h : r.seq < 2 ^ 32) (hr : recOf (recImage r) = r) :
    (recorded s r).recInForce = some (0, r) :=
  inForce_of_peek _ r h hr (recorded_peeks s r hs).1 (recorded_peeks s r hs).2
theorem recorded_rec (s : State) (r : BootRec) (hs : cellsWf memDefault s.mem.bytes = true) (h : r.seq < 2 ^ 32) (hr : recOf (recImage r) = r) :
    (recorded s r).bootRec = r := by
  simp [State.bootRec, recorded_inForce s r hs h hr]
theorem leaveReset_bytes (s : State) (m : Nat) : (s.leaveReset m false).mem.bytes = flashCells s.mem.bytes := by
  simp [State.leaveReset, State.clearCompute]
theorem peek_flashCells (s u : State) (hs : cellsWf memDefault s.mem.bytes = true) (a n : Nat) (ha : a + n ≤ 0x800000)
    (h : u.mem.bytes = flashCells s.mem.bytes) : u.peek a n = s.peek a n := by
  unfold State.peek
  rw [h, cellRead_eq a n hs, flashCells, cellRead_eq a n (cellsFrom_filter _ hs)]
  refine List.map_congr_left (fun i hi => cellGet_filter (fun b => ?_))
  have := List.mem_range.1 hi
  simp; omega
/-- What the Proof stage chooses under a record without external memory. -/
theorem booting_choice (s : State) (r : BootRec) (m : Nat) (lp : Bool) (hs : cellsWf memDefault s.mem.bytes = true) (h : r.seq < 2 ^ 32) (hr : recOf (recImage r) = r)
    (hl : field r.lpcfg 0 1 = 0xFF) : ((((recorded s r).leaveReset m false).trainLp lp).choice) = ((recorded s r).leaveReset m false).chooseFrom r := by
  have hw : cellsWf memDefault (recorded s r).mem.bytes = true := poke_wf _ _ _ (poke_wf _ _ _ hs)
  have hf : ((recorded s r).leaveReset m false).recInForce = some (0, r) := by
    refine inForce_of_peek _ r h hr ?_ ?_
    · rw [peek_flashCells _ _ hw _ _ (by omega) (leaveReset_bytes _ _), (recorded_peeks s r hs).1]
    · rw [peek_flashCells _ _ hw _ _ (by omega) (leaveReset_bytes _ _), (recorded_peeks s r hs).2]
  have hb : ((recorded s r).leaveReset m false).bootRec = r := by simp [State.bootRec, hf]
  have ht : ((recorded s r).leaveReset m false).trainLp lp = (recorded s r).leaveReset m false := by
    simp [State.trainLp, hb, hl]
  rw [ht]
  simp [State.choice, hf]

/-! ### Power, boot, flash, update -/

/-- Slot A is confirmed, slot B empty. -/
def confirmedA : BootRec := { seq := 7, stA := 5, conf := 0 }
/-- Reset, with fuses, under that record. -/
def fused (f : Fuses) : State := recorded { State.reset with boot := { State.reset.boot with fuses := f } } confirmedA
theorem chosen_A (s : State) (hl : s.boot.fuses.level = 0) (hk : s.keysLeft 0 = [0]) (hm : s.keyMatches 0 = [0]) (hs : s.shipped 0 = true) :
    (s.chooseFrom confirmedA).pick = some 0 ∧ (s.chooseFrom confirmedA).rec_.trial ≠ 0 := by
  have hc : s.imageCheck 0 = 1 := by simp [State.imageCheck, hl, hk, hm, hs]
  have hn : s.needsLp 0 = false := by simp [State.needsLp, hs]
  have ht : trialStep confirmedA = (confirmedA, []) := by decide
  have hd : confirmedA.candidates = [0, 2] := by decide
  simp only [State.chooseFrom, ht, hd, State.choose, hc, hn, ne_eq, not_true_eq_false, if_false, Bool.false_and, Bool.false_eq_true]
  decide
theorem booted_A : ((((fused {}).leaveReset 0 false).trainLp true).choice).pick = some 0 ∧ ((((fused {}).leaveReset 0 false).trainLp true).choice).rec_.trial ≠ 0 := by
  rw [fused, booting_choice _ confirmedA 0 true rfl (by decide) (by decide +kernel) (by decide)]
  exact chosen_A _ (by decide +kernel) (by decide +kernel) (by decide +kernel) (by decide +kernel)
theorem booted_none (m : Fin 4) : ((((fused { revoke := 15 }).leaveReset m.val false).trainLp true).choice).pick = none := by
  rw [fused, booting_choice _ confirmedA m.val true rfl (by decide) (by decide +kernel) (by decide)]
  revert m
  decide +kernel
theorem wit_ComputeBoot :
    up.pwr.state ≠ .off ∧ State.reset.pwr.state = .off ∧ State.reset.boot.fuses.badCheck = false
    ∧ ({ State.reset with boot := { State.reset.boot with fuses := { badCheck := true } } } : State).boot.fuses.badCheck = true
    ∧ ((fused {}).pwr.state = .off ∧ (fused {}).boot.fuses.badCheck = false ∧ ((((fused {}).leaveReset 0 false).trainLp true).choice).pick = some 0
        ∧ ((((fused {}).leaveReset 0 false).trainLp true).choice).rec_.trial ≠ 0)
    ∧ ((fused { revoke := 15 }).pwr.state = .off ∧ (fused { revoke := 15 }).boot.fuses.badCheck = false
        ∧ ((((fused { revoke := 15 }).leaveReset 0 false).trainLp true).choice).pick = none ∧ ((((fused { revoke := 15 }).leaveReset 1 false).trainLp true).choice).pick = none) :=
  ⟨by decide, rfl, rfl, rfl, ⟨rfl, rfl, booted_A⟩, rfl, rfl, booted_none 0, booted_none 1⟩
theorem test_boot_ok : (after1 (.bootOk 1) { up with boot := { up.boot with bootOk := false, wdog := some 0 } }).boot.wdog = none := by decide
theorem test_factory_halt : (after1 (.computeResetRelease 3 false true) { State.reset with boot := { State.reset.boot with fuses := { factoryTestOff := true } } }).boot.halt = 8 := by decide +kernel

theorem wit_ComputeResets :
    (up.pwr.state ≠ .off ∧ up.pwr.state ≠ .hibernate ∧ State.reset.pwr.state = .off ∧ up.boot.wdog = none ∧ up.boot.resetDue = false ∧ up.computeRuns = true ∧ State.reset.computeRuns = false)
    ∧ ({ up with boot := { up.boot with wdog := some 0 } } : State).boot.wdog ≠ none ∧ ({ up with boot := { up.boot with resetDue := true } } : State).boot.resetDue = true := by decide
theorem test_porst_cause : (after1 .porstAssert up).pwr.causeNext = 1 := by decide
/-- `up` in a power condition. -/
def powered (p : Power) : State := { up with pwr := { p with hold := true } }
theorem wit_SleepAndWake :
    (up.pwr.req = 0 ∧ up.sleepRefusal 2 = 0 ∧ up.sleepRefusal 3 = 0 ∧ up.answers ∧ up.computeRuns = true)
    ∧ (let s : State := { up with link := { up.link with up := false } }; s.pwr.req = 0 ∧ s.sleepRefusal 2 ≠ 0 ∧ s.sleepRefusal 3 ≠ 0) := ⟨⟨rfl, by decide, by decide, up_answers, rfl⟩, by decide⟩
theorem wit_SleepAndWake_entry :
    (let s := powered { state := .run, req := 2 }; s.pwr.req ≠ 0 ∧ s.computeRuns = true ∧ s.fd.wakeN = false ∧ bit s.wakeEn 2 = true)
    ∧ (let s : State := { powered { state := .run, req := 3 } with fd := { up.fd with wakeN := true } }; s.fd.wakeN = true ∧ bit s.wakeEn 2 = true)
    ∧ (let s := powered { state := .run, req := 2, entering := true }; s.pwr.entering = true ∧ s.computeRuns = true ∧ s.woundDown = true ∧ s.pwr.req = 2)
    ∧ (powered { state := .run, req := 3, entering := true }).pwr.req = 3
    ∧ (core15 { state := .running }).woundDown = false
    ∧ (let s : State := { powered { state := .stop, rtcAlarm := 1 } with od := { up.od with cfg := { num := [(key 0x2700 3, 7)] } }, clk := { up.clk with wall := Config.psPerS } }
       s.pwr.state = .stop ∧ s.pwr.stopDue = false ∧ s.pwr.rtcAlarm ≠ 0 ∧ s.pwr.rtcAlarm ≤ s.rtc ∧ bit s.wakeEn 0 = true ∧ bit s.wakeEn 2 = true)
    ∧ (let s : State := { powered { state := .stop } with rep := { up.rep with evc := { src := [(1055, BitVec.ofNat 64 (2 ^ 15))] } }, od := { up.od with cfg := { num := [(key 0x2700 3, 7)] } } }
       srcWake (s.rep.evc.cfg (1040 + 15)) = true ∧ edgeNamed (srcEdge (s.rep.evc.cfg (1040 + 15))) true = true ∧ bit s.wakeEn 1 = true ∧ s.pwr.stopDue = false ∧ s.settled)
    ∧ (let s := powered { state := .stop, stopDue := true }; s.pwr.stopDue = true ∧ (∀ k, k < 16 → (s.rep.evc.ext (16 + k)).latch = false))
    ∧ bit up.wakeEn 0 = false ∧ bit (withNum [(key 0x2700 3, 0)]).wakeEn 2 = false
    ∧ (let s : State := { up with host := { up.host with hart := [(0, { out := true })] } }; s.pwr.state = .run ∧ s.pwr.entering = false ∧ s.dozeEn = true ∧ s.hartSignalled = false ∧ (s.hartAt 0).out = true)
    ∧ (withNum [(key 0x2700 5, 0)]).dozeEn = false ∧ (powered { state := .doze }).pwr.state = .doze := by
  refine ⟨by decide, by decide, by decide +kernel, by decide, by decide +kernel, by decide +kernel, ⟨by decide, by decide, by decide, by decide, rfl, rfl⟩, by decide, by decide, by decide, by decide, by decide, by decide⟩
theorem test_sleep_refused : (after1 (.requestStop false) { up with st := [(31, { state := .admitting })] }).pwr.refuse = 3 := by decide +kernel
theorem test_stop_entered : (after1 .sleepCommit (powered { state := .run, req := 2, entering := true })).pwr.state = .stop := by decide +kernel
theorem wit_FlashCommands :
    (let s : State := { up with boot := { up.boot with foundryLock := true, flashAddr := 0x0FFF0 } }; s.flashLocked (s.boot.flashAddr % 0x800000) = true)
    ∧ (let s : State := { up with boot := { up.boot with flashAddr := 0x61FFE0 } }; s.flashLocked (s.boot.flashAddr % 0x800000) = false ∧ s.erased (s.boot.flashAddr % 0x800000 / 32 * 32) 32 = true)
    ∧ (Memory.wf (recorded up confirmedA).mem = true ∧ (recorded up confirmedA).bootRec.seq < 0xFFFFFFFF) :=
  ⟨by decide +kernel, by decide +kernel, poke_wf _ _ _ (poke_wf _ _ _ rfl), by rw [recorded_rec _ _ rfl (by decide) (by decide +kernel)]; decide⟩
theorem test_program_unaligned : (after1 .flashProgram { up with boot := { up.boot with flashAddr := 0x61FFE5, flashData := 0x34 } }).byte 0x61FFE0 = 0x34 := by decide +kernel

/-- The condition of slot B, the inactive one. -/
def slotB (v : Nat) : BootRec := { confirmedA with stB := v }
theorem slotB_rec (s : State) (v : Fin 7) (hs : cellsWf memDefault s.mem.bytes = true) : (recorded s (slotB v)).bootRec = slotB v :=
  recorded_rec _ _ hs (by show (7 : Nat) < 2 ^ 32; decide) (by revert v; decide +kernel)
/-- `up` with a download of one block and a half announced. -/
def loading (v : Nat) : State := recorded { up with boot := { up.boot with imageLength := 6144, dlLen := some 6144, nextBlock := 1 } } (slotB v)
theorem inactive_B (v : Fin 7) : (loading v).inactive = 1 := by
  have e := slotB_rec { up with boot := { up.boot with imageLength := 6144, dlLen := some 6144, nextBlock := 1 } } v rfl
  show (if (false || (0 : Nat) == 2) = true then (if (loading v).bootRec.conf = 0 then 1 else 0) else 1 - 0) = 1
  rfl
theorem loading_slot (v : Fin 7) (x : SlotState) : (loading v).bootRec.slotIs (loading v).inactive x = (v.val == slotCode x) := by
  rw [inactive_B, loading, slotB_rec _ v rfl]
  rfl
theorem wit_FirmwareUpdate :
    (loading 0).answers ∧ up.boot.imageLength = 0 ∧ ((loading 0).boot.imageLength ≠ 0 ∧ (loading (0 : Fin 7)).bootRec.slotIs 0 .trial = false ∧ (loading (0 : Fin 7)).bootRec.slotIs 1 .trial = false ∧ (loading 0).num 0x2A00 5 0 ≠ 1)
    ∧ (loading (4 : Fin 7)).bootRec.slotIs 1 .trial = true
    ∧ ((loading (1 : Fin 7)).bootRec.slotIs (loading (1 : Fin 7)).inactive .downloading = true ∧ field (leBytes 4 1 ++ leBytes 4 0 ++ List.replicate 2048 0) 0 4 = (loading 1).boot.nextBlock
        ∧ ((leBytes 4 1 ++ leBytes 4 0 ++ List.replicate 2048 (0 : Byte)).drop 8).length = blockLen 6144 1 ∧ Memory.wf (loading 1).mem = true ∧ (loading (1 : Fin 7)).inactive < 2)
    ∧ (loading (2 : Fin 7)).bootRec.slotIs (loading (2 : Fin 7)).inactive .unverified = true ∧ (loading (3 : Fin 7)).bootRec.slotIs (loading (3 : Fin 7)).inactive .verified = true
    ∧ (∀ st, st < 32 → (loading 3).stState st ≠ .admitting ∧ (loading 3).stState st ≠ .draining) ∧ (loading (6 : Fin 7)).bootRec.slotIs (loading (6 : Fin 7)).inactive .failed = true
    ∧ (loading (0 : Fin 7)).bootRec.slotIs (loading (0 : Fin 7)).inactive .empty = true
    ∧ (let s := recorded up { confirmedA with stA := 4, trial := 0 }; s.boot.slot ≠ 2 ∧ s.bootRec.slotIs s.boot.slot .trial = true) := by
  have h0 : (loading (0 : Fin 7)).bootRec = slotB 0 := slotB_rec _ (0 : Fin 7) rfl
  have h4 : (loading (4 : Fin 7)).bootRec = slotB 4 := slotB_rec _ (4 : Fin 7) rfl
  refine ⟨⟨rfl, rfl, rfl⟩, rfl, ⟨by decide, by rw [h0]; decide, by rw [h0]; decide, by decide⟩, by rw [h4]; decide,
    ⟨by rw [loading_slot]; decide, by decide +kernel, by decide +kernel, poke_wf _ _ _ (poke_wf _ _ _ rfl), by rw [inactive_B]; decide⟩, by rw [loading_slot]; decide, by rw [loading_slot]; decide, by decide,
    by rw [loading_slot]; decide, by rw [loading_slot]; decide, by decide, ?_⟩
  rw [recorded_rec _ _ rfl (by decide) (by decide +kernel)]
  decide
theorem test_block_crc : crc32 (leBytes 9 0x393837363534333231) = 0xCBF43926 := by decide +kernel
/-- Package slot 63 in a condition, in LPDDR5X; its station has a window there. -/
def packaged (x : Package) : State := { owned with mem := { owned.mem with lpUsable := 0x100000000 }, pkg := [(63, { x with station := 1, base := 0x4FFFFFF00 })] }
theorem wit_Packages :
    ((packaged { state := .installed }).answers ∧ ((packaged { state := .installed }).pk 63).state = .installed ∧ ((packaged { state := .loading, size := 192 }).pk 63).state = .loading)
    ∧ (let s := packaged { state := .loading, size := 192 }
       (192#32).toNat = (s.pk 63).size ∧ regionOf ((s.pk 63).base + 192) = some .lpddr ∧ s.mem.lpFailed = false ∧ (s.pk 63).base + 192 - lpBase + 64 ≤ s.mem.lpUsable ∧ s.mem.lpPoison = [] ∧ s.mem.lines = []
       ∧ s.check (.press 1) (s.pk 63).station ((s.pk 63).base + 192) 64 .write = none)
    ∧ (let s := { packaged {} with pkg := [(63, { station := 2, base := 0x400000000 })] }; (s.check (.press 1) (s.pk 63).station (s.pk 63).base 64 .write).isSome = true)
    ∧ (∀ st, st < 32 → up.stNum st 0x20 = 63 → up.stState st ≠ .admitting ∧ up.stState st ≠ .draining)
    ∧ (let s : State := { withNum [(key 0x241F 0x20, 63), (key 0x241F 0x22, 1)] with st := [(31, { state := .admitting })] }; s.stNum 31 0x20 = 63 ∧ s.stState 31 = .admitting) := by
  refine ⟨⟨⟨by decide, rfl, rfl⟩, by decide, by decide⟩, by decide +kernel⟩
theorem test_package_out_of_order : (after1 (.packageImageSegment 63 64 false [1]) (packaged { state := .loading, size := 192 })).out.resp = some (.abort 0x08000000) := by decide +kernel

/-! ### Long operations, upkeep -/

/-- `up` while a long operation runs. -/
def longing (c i : Nat) : State := { up with od := { up.od with longop := some { code := c, inst := i, arg := 0, started := 0 } } }
theorem wit_LongOperations :
    up.answers ∧ up.boot.slot ≠ 2 ∧ ({ up with boot := { up.boot with slot := 2 } } : State).boot.slot = 2 ∧ up.od.longop = none
    ∧ (∀ c : Fin 8, (longing c 1).od.longop = some { code := c, inst := 1, arg := 0, started := 0 })
    ∧ (Config.packageFormat [] = false → Config.packageFormat ((longing 3 1).peek ((longing 3 1).pk 1).base ((longing 3 1).pk 1).size) = false)
    ∧ (let s : State := { longing 6 255 with nc := { testing := 0x8000, core := [(15, { state := .running })] } }; bit s.nc.testing 15 = true ∧ (s.core 15).state = .running)
    ∧ (let s : State := { longing 6 255 with nc := { testing := 0x8000, core := [(15, { state := .testing })] } }; ∀ c, c < 16 → bit s.nc.testing c = true → (s.core c).state = .testing ∧ (s.core c).retire = false)
    ∧ (∀ n, n < 16 → (longing 7 31).channelOwner n = 31 → (longing 7 31).icn n 1 = 0) :=
  ⟨up_answers, by decide, rfl, rfl, by decide, fun h => h, by decide, by decide, by decide⟩
theorem test_full_test : ((after1 (.longOperationComplete true 0x8000) { longing 6 255 with nc := { testing := 0x8000, core := [(15, { state := .testing })] } }).core 15).reason = 3 := by decide +kernel
theorem test_bad_magic : (after1 (.storeParameters 0 0x65766174) up).out.resp = some (.abort 0x08000020) := by decide +kernel
theorem wit_ClearsAndKeys :
    up.answers ∧ up.computeRuns = true ∧ counterHigh 0x2812 = some 24 ∧ counterHigh 0x2801 = none ∧ isCounter 0x2812 24 = true ∧ isCounter 0x2812 25 = false
    ∧ (let s : State := { up with boot := { up.boot with keySlot := 1, fuses := { revoke := 0b0010 } } }; 3 ≠ s.boot.keySlot ∧ s.boot.fuses.revoke ||| BitVec.ofNat 4 (2 ^ 3) ≠ 0xF#4 ∧ (1 : Nat) = s.boot.keySlot)
    ∧ ({ up with boot := { up.boot with fuses := { revoke := 0b0111 } } } : State).boot.fuses.revoke ||| BitVec.ofNat 4 (2 ^ 3) = 0xF#4 := ⟨up_answers, by decide +kernel⟩
theorem test_revoke : (after1 (.keyRevoke 3) up).boot.fuses.revoke = 8#4 := by decide +kernel
theorem test_clear_refused : (after1 (.counterClear 0x2810 1 5 false) up).out.resp = some (.abort 0x06090030) := by decide +kernel
theorem wit_PatrolScrubs :
    (let s : State := { up with mem := { up.mem with ds := [(7, { ready := true })] }, gk := { up.gk with passOn := [(7, true), (8, true)], pass := [(7, 393215)] } }
     s.computeRuns = true ∧ (s.chan 7).ready = true ∧ (s.chan 7).fenced = false ∧ s.scrubPlace 7 + 1 = passLen 7 ∧ s.passRuns 7 = true ∧ s.gk.late.at false 7 = false ∧ s.gk.forced.at false 7 = false
     ∧ ((s.chan 7).unc.filter (fun x => x.1 != 5 && decide (s.clk.ref ≤ x.2 + 60 * Config.psPerS))).length < 2 ∧ (s.chan 0).ready = false)
    ∧ (let s : State := { up with mem := { up.mem with ds := [(7, { ready := true, unc := [(1, 0), (2, 0)] })] } }
       2 ≤ ((s.chan 7).unc.filter (fun x => x.1 != (dsBase 7 + 64 * s.scrubPlace 7) / 8 / 8 && decide (s.clk.ref ≤ x.2 + 60 * Config.psPerS))).length)
    ∧ (let s : State := { up with gk := { up.gk with passOn := [(8, true)], forced := [(8, true)], late := [(8, true)], lastInt := [(8, some 0)] }, clk := { up.clk with ref := 10 * Config.psPerMs } }
       s.passRuns 8 = true ∧ s.gk.forced.at false 8 = true ∧ s.gk.interval.at false 8 = false ∧ (∀ x, s.gk.lastInt.at none 8 = some x → x + 10 * Config.psPerMs ≤ s.clk.ref) ∧ s.gk.late.at false 8 = true)
    ∧ State.reset.computeRuns = false := ⟨by decide +kernel, by decide +kernel, ⟨by decide, by decide, by decide, fun x hx => by cases hx; decide, by decide⟩, by decide⟩
theorem test_third_place : ((after1 (.deepStoreScrubRead 7 .uncorrectable) { up with mem := { up.mem with ds := [(7, { ready := true, unc := [(1, 0), (2, 0)] })] } }).chan 7).fenced = true := by decide +kernel
theorem test_descriptor_damaged : ((after1 (.ringTableScrubRead .uncorrectable) up).ring 0).damaged = true := by decide +kernel
/-- A channel 15 that calibrates: D-PHY at 2,500 Mbit/s, READY, deskewed. -/
def calibrating (g : Gk) : State := { camera [(key 0x220F 4, 2500)] [(15, { state := .ready, deskewed := true })] with gk := { g with calEn := true } }
theorem wit_CalibrationAndTelemetry :
    (let s := calibrating { calDue := [(15, true)], calMiss := [(15, 9)] }
     s.computeRuns = true ∧ s.gk.calEn = true ∧ s.gk.calDue.at false 15 = true ∧ s.calibrates 15 = true ∧ (s.intake 15).state = .ready ∧ (s.intake 15).exps = [] ∧ s.cueFar 15 = true ∧ s.gk.calDone.at false 15 = false)
    ∧ (calibrating { calRun := [(15, true)] }).gk.calRun.at false 15 = true ∧ (calibrating {}).gk.calRun.at false 15 = false ∧ (calibrating {}).gk.calDue.at false 15 = false ∧ up.calibrates 15 = false
    ∧ (up.computeRuns = true ∧ up.boot.bootOk = true ∧ up.boot.slot ≠ 2 ∧ up.boot.flashBusy = false ∧ up.od.longop = none) := by decide +kernel
theorem test_over_temperature : (after1 (.telemetryRead 0 1051 0 0 0 0 0) up).gk.overTemp = true := by decide +kernel
theorem test_calibration_missed : (after1 (.calibrationPeriodEnd 15) (calibrating { calDue := [(15, true)] })).counter 0x28F0 6 = 1 := by decide +kernel

theorem cutWords_range (c : Nat) (f : Nat → Byte) : cutWords 32 c ((List.range (32 * c)).map f) = (List.range c).map (fun w => (List.range 32).map (fun i => f (32 * w + i))) := by
  induction c generalizing f with
  | zero => rfl
  | succ c ih =>
    have e : (List.range (32 * (c + 1))).map f = (List.range 32).map f ++ (List.range (32 * c)).map (fun i => f (32 + i)) := by
      rw [Nat.mul_succ, Nat.add_comm, List.range_add, List.map_append, List.map_map]
      rfl
    have l : ((List.range 32).map f).length = 32 := by simp
    rw [e, cutWords, List.take_left' l, List.drop_left' l, ih, List.range_succ_eq_map (n := c), List.map_cons, List.map_map]
    congr 1
    refine List.map_congr_left (fun w _ => ?_)
    show (List.range 32).map (fun i => f (32 + (32 * w + i))) = (List.range 32).map (fun i => f (32 * (w + 1) + i))
    refine List.map_congr_left (fun i _ => ?_)
    rw [show 32 + (32 * w + i) = 32 * (w + 1) + i from by omega]
theorem headWords_eq (s : State) (k : Nat) (h : cellsWf memDefault s.mem.bytes = true) :
    s.headWords k = (List.range 4096).filter (fun w => field (s.peek (areaBase k + 32 * w) 32) 0 4 == 0x4A525354) := by
  have hb : s.peek (areaBase k) 0x20000 = (List.range (32 * 4096)).map (fun i => cellGet memDefault s.mem.bytes (areaBase k + i)) := cellRead_eq _ _ h
  unfold State.headWords
  rw [hb, cutWords_range]
  have hz : ∀ (n : Nat) (g : Nat → List Byte) (p : List Byte → Bool), (((List.range n).map g).zipIdx.filter (fun x => p x.1)).map Prod.snd = (List.range n).filter (fun w => p (g w)) := by
    intro n g p
    induction n with
    | zero => rfl
    | succ n ih =>
      rw [List.range_succ, List.map_append, List.zipIdx_append, List.filter_append, List.map_append, ih, List.filter_append]
      congr 1
      by_cases hp : p (g n) = true <;> simp [hp]
  rw [hz 4096 _ (fun b => field b 0 4 == 0x4A525354)]
  refine List.filter_congr (fun w _ => ?_)
  have e : s.peek (areaBase k + 32 * w) 32 = (List.range 32).map (fun i => cellGet memDefault s.mem.bytes (areaBase k + (32 * w + i))) := by
    rw [State.peek, cellRead_eq _ _ h]
    exact List.map_congr_left (fun i _ => by rw [Nat.add_assoc])
  rw [e]
/-- Slot A's settings area: one record of no entries, and one byte written in the next sector. -/
def settled1 : State := (up.poke (areaBase 0) (setHeader 5 0 1 0 [] ++ leBytes 32 5)).poke (areaBase 0 + 4100) [0]
theorem settled1_wf : cellsWf memDefault settled1.mem.bytes = true := poke_wf _ _ _ (poke_wf _ _ _ rfl)
theorem settled1_byte (a : Nat) (h1 : areaBase 0 + 64 ≤ a) (h2 : a ≠ areaBase 0 + 4100) (h3 : a < 0x800000) : cellGet memDefault settled1.mem.bytes a = 0xFF := by
  have e1 : cellGet memDefault settled1.mem.bytes a = cellGet memDefault (up.poke (areaBase 0) (setHeader 5 0 1 0 [] ++ leBytes 32 5)).mem.bytes a :=
    cellGet_write_outside _ _ _ _ (by simp only [List.length_singleton]; omega)
  have e2 : cellGet memDefault (up.poke (areaBase 0) (setHeader 5 0 1 0 [] ++ leBytes 32 5)).mem.bytes a = cellGet memDefault up.mem.bytes a :=
    cellGet_write_outside _ _ _ _ (Or.inr (by rw [show (setHeader 5 0 1 0 [] ++ leBytes 32 5).length = 64 from by decide +kernel]; exact h1))
  rw [e1, e2]
  show memDefault a = 0xFF
  have : areaBase 0 = 0x7A0000 := rfl
  have g1 : ¬ a < 0x10000 := by omega
  have g2 : ¬ a < 0x11000 := by omega
  have g3 : ¬ a < 0x20000 := by omega
  have g4 : ¬ a < 0x320000 := by omega
  have g5 : ¬ a < 0x620000 := by omega
  have g6 : ¬ a < 0x7A0000 := by omega
  simp only [memDefault, flashDefault, if_pos h3, if_neg g1, if_neg g2, if_neg g3, if_neg g4, if_neg g5, if_neg g6]
theorem settled1_words (w : Nat) (h1 : 1 ≤ w) (h2 : w < 4096) : field (settled1.peek (areaBase 0 + 32 * w) 32) 0 4 ≠ 0x4A525354 := by
  have hb : areaBase 0 = 0x7A0000 := rfl
  by_cases h : w = 1
  · subst h; decide +kernel
  · rw [State.peek, cellRead_eq _ _ settled1_wf]
    have e := settled1_byte (areaBase 0 + 32 * w + 0) (by omega) (by omega) (by omega)
    generalize cellGet memDefault settled1.mem.bytes = g at e
    show (g (areaBase 0 + 32 * w + 0)).toNat + 256 * ((g (areaBase 0 + 32 * w + 1)).toNat + 256 * ((g (areaBase 0 + 32 * w + 2)).toNat + 256 * ((g (areaBase 0 + 32 * w + 3)).toNat + 256 * 0))) ≠ _
    rw [e]
    simp only [show ((0xFF : Byte)).toNat = 255 from rfl]
    omega
theorem settled1_heads : settled1.headWords 0 = [0] := by
  have e : List.range 4096 = 0 :: (List.range 4095).map Nat.succ := List.range_succ_eq_map (n := 4095)
  rw [headWords_eq _ _ settled1_wf, e, List.filter_cons_of_pos (by decide +kernel), List.filter_eq_nil_iff.2]
  intro w hw
  obtain ⟨v, hv, rfl⟩ := List.mem_map.1 hw
  have := settled1_words (v + 1) (by omega) (by have := List.mem_range.1 hv; omega)
  simpa using this
theorem settled1_newest : settled1.newest 0 = some { pos := 0, seq := 5, schema := 1, version := 0, payload := [], marks := 0, markWords := 0 } := by
  have h : settled1.readSet 0 0 = some { pos := 0, seq := 5, schema := 1, version := 0, payload := [], marks := 0, markWords := 0 } := by decide +kernel
  simp [State.newest, settled1_heads, h]
theorem settled1_written : settled1.erased (areaBase 0 + 4096) 4096 = false := by
  rw [State.erased, List.all_eq_false]
  refine ⟨0, ?_, by decide⟩
  rw [State.peek, cellRead_eq _ _ settled1_wf]
  have e := cellGet_write_inside (d := memDefault) (up.poke (areaBase 0) (setHeader 5 0 1 0 [] ++ leBytes 32 5)).mem.bytes (areaBase 0 + 4100) [0] 0 (by decide)
  exact List.mem_map.2 ⟨4, List.mem_range.2 (by omega), e⟩
theorem wit_EraseAhead : settled1.aheadSectors 0 = [] ++ 1 :: [2] ∧ settled1.erased (areaBase 0 + 4096) 4096 = false ∧ 1 ∉ settled1.keptSectors 0 := by
  refine ⟨?_, settled1_written, ?_⟩
  · rw [State.aheadSectors, settled1_newest]; decide
  · rw [State.keptSectors, settled1_newest]; decide

/-! ### Ill-formed commands -/

/-- A path beyond its address bits, and an access of no bytes and one beyond the address space. -/
theorem test_wf_access :
    wellFormed (.fabricAccess (.press 0) (.read 0) 0 .none 0) = false ∧ wellFormed (.fabricAccess (.press 0) (.write [1, 2]) 0xFFFFFFFFFF .none 0) = false
    ∧ wellFormed (.fabricAccess (.press 0) (.fetch 16) 0xFFFFFFFFF0 .none 0) = true ∧ wellFormed (.pcieInboundRequest 0 false 0 (.fetch 4) .none 0) = false
    ∧ wellFormed (.pcieInboundRequest 0 false 0 (.read 0) .none 0) = false ∧ wellFormed (.correctedRewrite 0x7FFFFFF) = false ∧ wellFormed (.correctedRewrite 0x9800000) = false
    ∧ wellFormed (.outboundCompletion 0 .success (List.replicate 4097 0)) = false ∧ wellFormed (.deepStoreScrubRead 0 .tagOne) = false ∧ wellFormed (.ringTableScrubRead .cacheDirty) = false := by decide +kernel
/-- Commands of software alone, of blocks that wait, and arrays that a core does not have. -/
theorem test_wf_requesters :
    wellFormed (.wayCarve (.core 0) 1) = false ∧ wellFormed (.wayReturn .gk 1) = false ∧ wellFormed (.ringDescriptorWrite (.mac 0) 0 []) = false ∧ wellFormed (.quoinWrite (.roster 0) 0 []) = false
    ∧ wellFormed (.quoinWait (.press 0) 0 0) = false ∧ wellFormed (.quoinWait (.roster 31) 0 0) = true ∧ wellFormed (.qnNfyRead (.codec 0 0) 0) = false ∧ wellFormed (.codecSubmit (.intake 0) 0) = false
    ∧ wellFormed (.registerWrite (.meter 0) 0 [1]) = false ∧ wellFormed (.registerWrite (.press 0) 0 []) = false ∧ wellFormed (.tileDrain 8 2) = false ∧ wellFormed (.tileDrain 7 3) = true := by decide
/-- Frames, registers and records that do not exist. -/
theorem test_wf_messages :
    wellFormed (.regWrite (.entry 0x2108 1) 0) = false ∧ wellFormed (.regRead (.spacing 32)) = false ∧ wellFormed (.regData (.entry 0x2610 256) 0) = false ∧ wellFormed (.regRead (.entry 0x2630 255)) = true
    ∧ wellFormed (.canRx 0 .classical 0 false false (List.replicate 9 0)) = false ∧ wellFormed (.canRx 0 .fd 0 true false []) = false ∧ wellFormed (.canRx 0 .xl 2048 false false [1]) = false ∧ wellFormed (.canRx 0 .xl 2047 false true [1]) = true
    ∧ wellFormed (.evcLineAccept 0 true 0) = false ∧ wellFormed (.rpdoReceive 0 0 (List.replicate 65 0)) = false ∧ wellFormed (.pcieConfigRequest 0 (.read 4096)) = false
    ∧ wellFormed (.pcieConfigRequest 0 (.numVfs 32)) = false ∧ wellFormed (.pcieConfigRequest 0 (.write 0 (2 ^ 32))) = false ∧ wellFormed (.dictRead (.jdt 0 256) 0 0 0 0) = false
    ∧ wellFormed (.dictWrite (.udp 0 (2 ^ 48)) 0 0 true 0 []) = false ∧ wellFormed (.jdtRequest 0 0 0 0 false 0 (List.replicate 2049 0)) = false := by decide +kernel
theorem test_wf_long (f d : List Byte) (hf : f.length = 65536) (hd : d.length = 9019) :
    wellFormed (.ethFrameReceive 0 f true) = false ∧ wellFormed (.udpDictDatagram 0 0 d) = false := by
  simp [wellFormed, hf, hd]
theorem test_no_word : decodeTableWord 8 0 = none ∧ (up.withFetchWord 8 0).pending = [] := by decide

end Machine
end Sys2Proof
end

section
/-!
PROOF. Counters stick at their last value and raise EV-1F01 once (00 R16). Reporting moves counters of its own while it enters an event; the relation `Reporting.Keeps` says what all of that leaves standing.
-/
namespace Sys2Proof
namespace Machine

/-! ### The three cases of counting -/

theorem Reporting.bump_of_full (r : Reporting) (i j : Nat) (h : r.cnt.at 0 (key i j) = 0xFFFFFFFF) : r.bump i j = r := by
  unfold Reporting.bump
  exact if_pos h

theorem Reporting.bump_of_last (r : Reporting) (i j : Nat) (h : r.cnt.at 0 (key i j) = 0xFFFFFFFE) :
    r.bump i j = { r with
      cnt := r.cnt.put (key i j) 0xFFFFFFFF
      due := r.due ++ [{ code := 0x1F01, detail := i * 2 ^ 16 + j * 2 ^ 8 }] } := by
  unfold Reporting.bump
  rw [h]
  rfl

theorem Reporting.bump_of_room (r : Reporting) (i j : Nat) (h : r.cnt.at 0 (key i j) < 0xFFFFFFFE) :
    r.bump i j = { r with cnt := r.cnt.put (key i j) (r.cnt.at 0 (key i j) + 1) } := by
  have not_full : r.cnt.at 0 (key i j) ≠ 0xFFFFFFFF := by bv_omega
  have not_last : r.cnt.at 0 (key i j) + 1 ≠ 0xFFFFFFFF := by bv_omega
  simp only [Reporting.bump, if_neg not_full, if_neg not_last]

/-! ### What reporting leaves standing -/

/-- The log stands, and every counter at its last value stays there. -/
structure Reporting.Keeps (r r' : Reporting) : Prop where
  log : r'.log = r.log
  full : ∀ k, r.cnt.at 0 k = 0xFFFFFFFF → r'.cnt.at 0 k = 0xFFFFFFFF

theorem Reporting.Keeps.of_eq {r r' : Reporting} (hl : r'.log = r.log) (hc : r'.cnt = r.cnt) : r.Keeps r' :=
  ⟨hl, fun _ h => hc ▸ h⟩

theorem Reporting.Keeps.trans {a b c : Reporting} (hab : a.Keeps b) (hbc : b.Keeps c) : a.Keeps c :=
  ⟨hbc.log.trans hab.log, fun k h => hbc.full k (hab.full k h)⟩

theorem Reporting.bump_log (r : Reporting) (i j : Nat) : (r.bump i j).log = r.log := by
  unfold Reporting.bump
  dsimp only
  split <;> rfl

theorem Reporting.bump_full (r : Reporting) (i j k : Nat) (h : r.cnt.at 0 k = 0xFFFFFFFF) :
    (r.bump i j).cnt.at 0 k = 0xFFFFFFFF := by
  by_cases hk : k = key i j
  · subst hk
    rw [r.bump_of_full i j h, h]
  · rw [r.bump_other i j k hk, h]

theorem Reporting.limited_log (r : Reporting) (now scope : Nat) (e : Ev) : (r.limited now scope e).log = r.log := by
  unfold Reporting.limited
  dsimp only
  split <;> rfl

section
variable {r r' : Reporting}

theorem Reporting.Keeps.bump {i j : Nat} (h : r.Keeps r') : r.Keeps (r'.bump i j) :=
  ⟨(r'.bump_log i j).trans h.log, fun k hk => r'.bump_full i j k (h.full k hk)⟩

theorem Reporting.Keeps.limited {now scope : Nat} {e : Ev} (h : r.Keeps r') : r.Keeps (r'.limited now scope e) :=
  h.trans (.of_eq (r'.limited_log now scope e) (r'.limited_cnt now scope e))

theorem Reporting.Keeps.msixOut {n : Nat} (h : r.Keeps r') : r.Keeps { r' with msixOut := n } := ⟨h.log, h.full⟩

theorem Reporting.Keeps.evaluate {env : Env} {t : Nat} (h : r.Keeps r') : r.Keeps (r'.evaluate env t) := by
  refine h.trans ?_
  unfold Reporting.evaluate
  dsimp only
  split
  · split
    · exact .msixOut (.bump (.of_eq rfl rfl))
    · split
      · exact .of_eq rfl rfl
      · exact .bump (.of_eq rfl rfl)
  · exact .of_eq rfl rfl

theorem Reporting.Keeps.occur {env : Env} {id : Nat} (h : r.Keeps r') : r.Keeps (r'.occur env id) := by
  refine h.trans ?_
  unfold Reporting.occur
  dsimp only
  split
  · exact .of_eq rfl rfl
  · refine Keeps.evaluate ?_
    split
    · exact .limited (.bump (.of_eq rfl rfl))
    · exact .of_eq rfl rfl

theorem Reporting.Keeps.emcyPort {env : Env} {m : Emcy} {p : Nat} (h : r.Keeps r') : r.Keeps (r'.emcyPort env m p) := by
  refine h.trans ?_
  unfold Reporting.emcyPort
  split
  · exact .of_eq rfl rfl
  · split
    · exact .bump (.of_eq rfl rfl)
    · exact .of_eq rfl rfl

end

/-! ### Entering what is due -/

/-- The log entry of an event that is entered now (16 Table 16-10). -/
def Reporting.entry (r : Reporting) (env : Env) (e : Ev) : LogEntry :=
  { seq := r.seq + 1, code := e.code, unit := e.unit, station := e.station, time := env.ref / Config.psPerXin, detail := e.detail }

theorem Reporting.enter_keeps (r : Reporting) (env : Env) (e : Ev) :
    Keeps { r with log := (r.entry env e :: r.log).take 256 } (r.enter env e) := by
  unfold Reporting.enter
  dsimp only
  refine Keeps.occur ?_
  split
  · exact .of_eq rfl rfl
  · exact .emcyPort (.emcyPort (.of_eq rfl rfl))

theorem Reporting.enter_log (r : Reporting) (env : Env) (e : Ev) :
    (r.enter env e).log = (r.entry env e :: r.log).take 256 := (r.enter_keeps env e).log

theorem Reporting.drainN_of_no_due (env : Env) (n : Nat) (r : Reporting) (h : r.due = []) : drainN env n r = r := by
  cases n <;> simp [drainN, h]

theorem Reporting.drainN_of_due (env : Env) (n : Nat) (r : Reporting) (e : Ev) (rest : List Ev) (hr : r.running = true)
    (hd : r.due = e :: rest) : drainN env (n + 1) r = drainN env n (({ r with due := rest }).enter env e) := by
  simp [drainN, hr, hd]

/-- Induction over the drain: a fact that may speak of the fuel left holds at the end, if entering one event carries it from each fuel to the next lower and it may be weakened to no fuel where the drain stops early. -/
theorem Reporting.drainN_induction (env : Env) (P : Nat → Reporting → Prop) (hzero : ∀ n r, P n r → P 0 r)
    (hstep : ∀ n r e rest, P (n + 1) r → P n (({ r with due := rest }).enter env e)) :
    ∀ n r, P n r → P 0 (drainN env n r) := by
  intro n
  induction n with
  | zero => exact fun r h => h
  | succ n ih =>
    intro r h
    unfold drainN
    split
    · split
      · exact hzero _ _ h
      · exact ih _ (hstep n r _ _ h)
    · exact hzero _ _ h

theorem Reporting.drainN_full (env : Env) (k n : Nat) (r : Reporting) (h : r.cnt.at 0 k = 0xFFFFFFFF) :
    (drainN env n r).cnt.at 0 k = 0xFFFFFFFF :=
  drainN_induction env (fun _ r => r.cnt.at 0 k = 0xFFFFFFFF) (fun _ _ h => h)
    (fun _ _ e _ h => (enter_keeps _ env e).full k h) n r h

/-- An entry among the newest `256 - n` is still in the log after `n` more are entered. -/
theorem Reporting.drainN_log_mem (env : Env) (x : LogEntry) (n : Nat) (r : Reporting) (h : x ∈ r.log.take (256 - n)) :
    x ∈ (drainN env n r).log := by
  refine List.mem_of_mem_take (drainN_induction env (fun n r => x ∈ r.log.take (256 - n)) ?_ ?_ n r h)
  · exact fun n r h => (List.take_sublist_take_left (by omega)).mem h
  · intro n r e rest h
    rw [enter_log]
    rcases Nat.lt_or_ge n 256 with hn | hn
    · have hsucc : 256 - n = (256 - (n + 1)) + 1 := by omega
      rw [List.take_take, Nat.min_eq_left (by omega), hsucc, List.take_succ_cons]
      exact List.mem_cons_of_mem _ h
    · simp [Nat.sub_eq_zero_of_le (Nat.le_succ_of_le hn)] at h

theorem Reporting.settle_of_no_due (r : Reporting) (env : Env) (h : r.due = []) : r.settle env = r :=
  drainN_of_no_due env _ r h

theorem Reporting.settle_full (r : Reporting) (env : Env) (k : Nat) (h : r.cnt.at 0 k = 0xFFFFFFFF) :
    (r.settle env).cnt.at 0 k = 0xFFFFFFFF :=
  drainN_full env k _ r h

/-- The only event that is due gets the next sequence number, and settling does not push it out of the log again. -/
theorem Reporting.settle_enters (r : Reporting) (env : Env) (e : Ev) (hr : r.running = true) (hd : r.due = [e]) :
    r.entry env e ∈ (r.settle env).log := by
  have hfuel : r.settle env = drainN env 8 (({ r with due := [] }).enter env e) := by
    rw [settle, hd]
    exact drainN_of_due env 8 r e [] hr hd
  rw [hfuel]
  apply drainN_log_mem
  rw [enter_log]
  exact List.mem_cons_self

/-! ### The three cases of a count -/

theorem State.count_of_full (s : State) (i j : Nat) (hd : s.rep.due = []) (h : s.counter i j = 0xFFFFFFFF) : s.count i j = s := by
  rw [State.count, State.report, s.rep.bump_of_full i j h, s.rep.settle_of_no_due _ hd]

theorem State.count_of_room (s : State) (i j : Nat) (hd : s.rep.due = []) (h : s.counter i j < 0xFFFFFFFE) :
    s.count i j = { s with rep := { s.rep with cnt := s.rep.cnt.put (key i j) (s.counter i j + 1) } } := by
  have hsettle := (s.rep.bump i j).settle_of_no_due s.env (by rw [s.rep.bump_of_room i j h]; exact hd)
  rw [State.count, State.report, hsettle, s.rep.bump_of_room i j h]
  rfl

theorem State.count_of_last_counter (s : State) (i j : Nat) (h : s.counter i j = 0xFFFFFFFE) :
    (s.count i j).counter i j = 0xFFFFFFFF := by
  refine Reporting.settle_full (s.rep.bump i j) s.env (key i j) ?_
  rw [s.rep.bump_of_last i j h]
  exact Tab.at_put_same ..

theorem State.count_of_last_log (s : State) (i j : Nat) (hs : s.settled) (h : s.counter i j = 0xFFFFFFFE) :
    ∃ e ∈ (s.count i j).rep.log, e.code = 0x1F01 ∧ e.detail = i * 2 ^ 16 + j * 2 ^ 8 ∧ e.seq = s.rep.seq + 1 := by
  obtain ⟨hrun, hdue⟩ := hs
  have hbump := s.rep.bump_of_last i j h
  have hmem := (s.rep.bump i j).settle_enters s.env { code := 0x1F01, detail := i * 2 ^ 16 + j * 2 ^ 8 }
    (by rw [hbump]; exact hrun) (by rw [hbump, hdue]; rfl)
  exact ⟨_, hmem, rfl, rfl, by rw [hbump]; rfl⟩

/-- Settles O6. Below its last value a counter makes no event due; the count to the last value makes EV-1F01 the only one due, and whatever entering it raises in turn can neither move the full counter nor push the entry out of the log. -/
theorem countersStickOnce : Obligations.CountersStickOnce := by
  intro s idx sub hs _
  have hdue := hs.2
  refine ⟨fun last => ⟨s.count_of_last_counter idx sub last, s.count_of_last_log idx sub hs last⟩,
    s.count_of_full idx sub hdue, fun room => ?_⟩
  have hcount := s.count_of_room idx sub hdue room
  refine ⟨?_, fun k hk => ?_, ?_⟩
  · rw [hcount]
    exact Tab.at_put_same ..
  · rw [hcount]
    exact Tab.at_put_other _ _ _ hk
  · rw [hcount]

end Machine
end Sys2Proof
end

section
/-!
PROOF. The cue table: what a crossing and an expiry leave of the entries, the outputs, the counters and the reports (02 R61, R63). The crossing of an ARMED trigger is the crossing of the same trigger once its group is decided, so only LIVE and SUPPRESSED triggers have a crossing of their own.
-/
namespace Sys2Proof
namespace Machine

/-! ### Terms of the statement -/

/-- The entry is FREE and otherwise as it was, but for the marks of how it ended. -/
def State.entryFreed (s t : State) (e : Nat) (crossed : Bool) : Prop :=
  t.cueAt e = { s.cueAt e with st := .free, ahead := false, wasCrossed := crossed }

/-- Every other entry stands. -/
def State.otherEntriesKept (s t : State) (e : Nat) : Prop := ∀ f, f ≠ e → t.cueAt f = s.cueAt f

/-- Nothing has changed but the field die, the reports and the cue table. -/
def State.cuesFrame (s t : State) : Prop := t = { s with fd := t.fd, rep := t.rep, cue := t.cue }

/-- Trigger output `n` is on if it could be switched on, and no other trigger output has changed (03 R79, R80, R90). -/
def State.triggerFired (s t : State) (n : Nat) : Prop :=
  (s.trgEnabled n = true ∧ (s.trg n).shorted = false ∧ s.fd.under = false → (t.trg n).on = true) ∧ ∀ k, k ≠ n → t.trg k = s.trg k

/-- Kicker `n` runs a kick more, of clock `w` (03 R82). -/
def State.kickRuns (s t : State) (n w : Nat) : Prop := (t.kick n).on = true ∧ (t.kick n).kicks = (s.kick n).kicks ++ [w]

/-- The verdict on which a kick cue acts at its crossing (00 R10, 02 R61). -/
def State.verdictTaken (s : State) (e : Nat) : Nat :=
  if (s.cueAt e).st = .live ∧ cueVerdict (s.cueAt e).word ≠ 0 then cueVerdict (s.cueAt e).word else 3

/-! ### What counts once -/

theorem Counted.refl (s : State) : Counted s s [] := fun k _ => by simp

theorem Counted.of_rep {s t t' : State} {ks : List Nat} (h : Counted s t ks) (hrep : t'.rep = t.rep) : Counted s t' ks := by
  intro k hk
  rw [State.tally_of_rep t t' hrep, h k hk]

/-- One more count of a counter that has not counted yet. -/
theorem Counted.fdCount {s t : State} {ks : List Nat} {i j : Nat} (h : Counted s t ks) (hd : t.direct = true) (hnew : key i j ∉ ks) :
    Counted s (t.fdCount i j) (ks ++ [key i j]) := by
  intro k hk
  rw [State.fdCount_direct hd, State.tally_count _ _ _ _ hk, h k hk]
  by_cases hkey : k = key i j
  · subst hkey
    simp [hnew]
  · simp [hkey]

theorem State.tally_fdCount_other {s : State} (hd : s.direct = true) {i j k : Nat} (hk : k ∉ ownCounters) (h : k ≠ key i j) :
    (s.fdCount i j).tally k = s.tally k := by
  rw [State.fdCount_direct hd, State.tally_count _ _ _ _ hk, if_neg h]

theorem State.tally_fdCount_same {s : State} (hd : s.direct = true) {i j : Nat} (hk : key i j ∉ ownCounters) :
    (s.fdCount i j).tally (key i j) = satInc (s.tally (key i j)) := by
  rw [State.fdCount_direct hd, State.tally_count _ _ _ _ hk, if_pos rfl]

theorem State.fdCount_fd_of_direct {s : State} (hd : s.direct = true) (i j : Nat) : (s.fdCount i j).fd = s.fd := by
  rw [State.fdCount_direct hd, State.count_fd]

theorem State.fdRaise_fd_of_direct {s : State} (hd : s.direct = true) (e : Ev) : (s.fdRaise e).fd = s.fd := by
  rw [State.fdRaise_direct hd, State.raise_fd]

/-! ### Entries of the table -/

theorem State.cueAt_of_cue {s t : State} (h : t.cue = s.cue) (e : Nat) : t.cueAt e = s.cueAt e := by simp [State.cueAt, h]

@[simp] theorem State.cueAt_putCue_same (s : State) (e : Nat) (c : CueEntry) : (s.putCue e c).cueAt e = c := by
  simp [State.cueAt, State.putCue]

theorem State.cueAt_putCue_other (s : State) {e f : Nat} (c : CueEntry) (h : f ≠ e) : (s.putCue e c).cueAt f = s.cueAt f := by
  simp [State.cueAt, State.putCue, Tab.at_put_other _ _ _ h]

theorem sameGroup_refl (w : BitVec 128) : sameGroup w w = true := by simp [sameGroup]

theorem sameGroup_iff (a b : BitVec 128) :
    sameGroup a b = true ↔ cueStation a = cueStation b ∧ cueWc a = cueWc b ∧ cueTag a = cueTag b := by
  simp [sameGroup, and_assoc]

/-! ### A cue ends: its entry is freed and reported -/

section
variable {s : State}

/-- The last part of every crossing and expiry. -/
def State.endCue (s : State) (e : Nat) (crossed : Bool) (code : Nat) : State := (s.freeCue e crossed).cueReport e code

theorem State.endCue_freed {u : State} (hcue : u.cue = s.cue) (e : Nat) (b : Bool) (code : Nat) :
    s.entryFreed (u.endCue e b code) e b := by
  rw [State.entryFreed, State.endCue, State.cueAt_of_cue (State.cueReport_cue ..), State.freeCue, State.cueAt_putCue_same,
    State.cueAt_of_cue hcue]

theorem State.endCue_kept {u : State} (hcue : u.cue = s.cue) (e : Nat) (b : Bool) (code : Nat) :
    s.otherEntriesKept (u.endCue e b code) e := by
  intro f hf
  rw [State.endCue, State.cueAt_of_cue (State.cueReport_cue ..), State.freeCue, State.cueAt_putCue_other _ _ hf, State.cueAt_of_cue hcue]

theorem State.endCue_fd (hd : s.direct = true) (e : Nat) (b : Bool) (code : Nat) :
    (s.endCue e b code).fd = { s.fd with txq := s.fd.txq ++ [.cueResult e code] } := by
  have hfree : (s.freeCue e b).direct = true := hd
  simp [State.endCue, State.cueReport, hfree, State.sendCompute]

theorem State.endCue_rep (s : State) (e : Nat) (b : Bool) (code : Nat) : (s.endCue e b code).rep = s.rep := by
  simp [State.endCue]

/-! ### A trigger output fires -/

/-- The trigger output that a cue word names fires, for the width that it gives. -/
def State.fireCue (s : State) (w : BitVec 128) : State := s.fireTrigger (cueOut w) (cueWunit w) (cueWidth w)

theorem State.fireCue_fd (hd : s.direct = true) (w : BitVec 128) :
    (s.fireCue w).fd = { s.fd with trg := (s.fireCue w).fd.trg } := by
  have hput : ∀ x, (s.putTrg (cueOut w) x).direct = true := fun _ => hd
  unfold State.fireCue State.fireTrigger
  dsimp only
  split
  · split
    · rw [State.fdCount_fd_of_direct (hput _)]
      rfl
    · rfl
  · rfl

theorem State.fireCue_direct (hd : s.direct = true) (w : BitVec 128) : (s.fireCue w).direct = true := by
  rw [State.direct_of (s := s) (by rw [State.fireCue_fd hd]) (by rw [State.fireCue_fd hd]) (by simp [State.fireCue]), hd]

theorem State.fireCue_fires (hon : s.fd.on = true) (hd : s.direct = true) (w : BitVec 128) : s.triggerFired (s.fireCue w) (cueOut w) := by
  have hput : ∀ x k, (s.putTrg (cueOut w) x).trg k = if k = cueOut w then x else s.trg k := by
    intro x k
    by_cases h : k = cueOut w
    · simp [h, State.trg, State.putTrg]
    · simp [h, State.trg, State.putTrg, Tab.at_put_other]
  have hcount : ∀ x k, ((s.putTrg (cueOut w) x).fdCount 0x2828 7).trg k = (s.putTrg (cueOut w) x).trg k := by
    intro x k
    rw [State.trg, State.fdCount_fd_of_direct (s := s.putTrg (cueOut w) x) hd]
    rfl
  unfold State.fireCue State.fireTrigger
  dsimp only
  split
  · split
    · simp +contextual [State.triggerFired, hcount, hput]
    · simp +contextual [State.triggerFired, hput]
  · simp_all [State.triggerFired]

/-- A trigger that merges with a pulse under way is counted in 2828h:07 (02 R64). -/
theorem State.fireCue_tally (hd : s.direct = true) (w : BitVec 128) {k : Nat} (hk : k ∉ ownCounters) (h : k ≠ key 0x2828 7) :
    (s.fireCue w).tally k = s.tally k := by
  have hput : ∀ x, (s.putTrg (cueOut w) x).direct = true := fun _ => hd
  unfold State.fireCue State.fireTrigger
  dsimp only
  split
  · split
    · rw [State.tally_fdCount_other (hput _) hk h]
      rfl
    · rfl
  · rfl

/-! ### A kick starts -/

theorem State.fdRaiseImp_fd_of_direct (hd : s.direct = true) (a b : Nat) (e : Ev) :
    (s.fdRaiseImp a b e).fd = { s.fd with stamps := (s.fdRaiseImp a b e).fd.stamps } := by
  unfold State.fdRaiseImp
  split
  · rfl
  · rw [State.fdRaise_fd_of_direct]
    exact hd

theorem State.undelivered_fd_of_direct (hd : s.direct = true) (n w : Nat) :
    (s.undelivered n w).fd = { s.fd with kck := (s.undelivered n w).fd.kck, stamps := (s.undelivered n w).fd.stamps } := by
  unfold State.undelivered
  dsimp only
  rw [State.fdRaiseImp_fd_of_direct ((State.direct_fdCount ..).trans hd), State.fdCount_fd_of_direct hd]

theorem State.startKick_fd (hd : s.direct = true) (n w a b : Nat) :
    (s.startKick n w a b).fd = { s.fd with kck := (s.startKick n w a b).fd.kck, stamps := (s.startKick n w a b).fd.stamps } := by
  unfold State.startKick
  dsimp only
  split
  · split
    · simp [State.fdCount_direct, hd, State.putKick_fd]
    · simp [State.fdCount_direct, hd, State.putKick_fd]
  · exact State.undelivered_fd_of_direct hd n w

theorem State.startKick_direct (hd : s.direct = true) (n w a b : Nat) : (s.startKick n w a b).direct = true := by
  rw [State.direct_of (s := s) (by rw [State.startKick_fd hd]) (by rw [State.startKick_fd hd]) (by simp), hd]

theorem State.startKick_runs (hk : s.kickDrives n = true) (w a b : Nat) : s.kickRuns (s.startKick n w a b) n w := by
  unfold State.kickRuns State.startKick
  dsimp only
  rw [if_pos hk]
  split <;> simp

theorem State.startKick_tally (hd : s.direct = true) (n w a b : Nat) {k : Nat} (hk : k ∉ ownCounters)
    (h1 : k ≠ key (0x2815 + n) 1) (h2 : k ≠ key (0x2815 + n) 2) (h7 : k ≠ key 0x2828 7) :
    (s.startKick n w a b).tally k = s.tally k := by
  unfold State.startKick
  dsimp only
  split
  · split
    · simp [State.fdCount_direct, hd, hk, h1, h7]
    · simp [State.fdCount_direct, hd, hk, h1]
  · exact State.tally_undelivered s n w k hk h2

/-! ### The admission test -/

/-- What the admission test of the group of `w` makes of an entry: an ARMED one of the group becomes LIVE or SUPPRESSED (02 R61). -/
def CueEntry.decided (w : BitVec 128) (ok : Bool) (c : CueEntry) : CueEntry :=
  if c.st = .armed ∧ sameGroup c.word w = true then { c with st := if ok then .live else .suppressed } else c

theorem State.decideGroup_tab (s : State) (w : BitVec 128) :
    (s.decideGroup w).cue.tab = s.cue.tab.map (fun x => (x.1, x.2.decided w (s.spacingOk (cueStation w)))) := by
  have hcue : (s.decideGroup w).cue.tab = s.cue.tab.map (fun x => if x.2.st = .armed ∧ sameGroup x.2.word w = true
      then (x.1, { x.2 with st := if s.spacingOk (cueStation w) then .live else .suppressed }) else x) := by
    unfold State.decideGroup
    dsimp only
    split
    · rfl
    · rw [State.fdCount_cue]
  rw [hcue]
  refine List.map_congr_left fun x _ => ?_
  unfold CueEntry.decided
  split <;> rfl

theorem State.decideGroup_cueAt (s : State) (w : BitVec 128) (f : Nat) :
    (s.decideGroup w).cueAt f = (s.cueAt f).decided w (s.spacingOk (cueStation w)) := by
  rw [State.cueAt, s.decideGroup_tab]
  exact Tab.at_map _ _ (fun _ => CueEntry.decided w (s.spacingOk (cueStation w))) (fun _ => by simp [CueEntry.decided]) f

theorem CueEntry.decided_of_member {w : BitVec 128} {c : CueEntry} (harmed : c.st = .armed) (hgroup : sameGroup c.word w = true) (ok : Bool) :
    c.decided w ok = { c with st := if ok then .live else .suppressed } := by
  rw [CueEntry.decided, if_pos ⟨harmed, hgroup⟩]

theorem State.decideGroup_cueAt_self {e : Nat} (harmed : (s.cueAt e).st = .armed) : (s.decideGroup (s.cueAt e).word).cueAt e =
    { s.cueAt e with st := if s.spacingOk (cueStation (s.cueAt e).word) then .live else .suppressed } := by
  rw [State.decideGroup_cueAt, CueEntry.decided_of_member harmed (sameGroup_refl _)]

theorem State.decideGroup_fd (hd : s.direct = true) (w : BitVec 128) : (s.decideGroup w).fd = s.fd := by
  unfold State.decideGroup
  dsimp only
  split
  · rfl
  · rw [State.fdCount_fd_of_direct]
    exact hd

theorem State.decideGroup_direct (hd : s.direct = true) (w : BitVec 128) : (s.decideGroup w).direct = true := by
  rw [State.direct_of (s := s) (by rw [State.decideGroup_fd hd]) (by rw [State.decideGroup_fd hd]) (by simp), hd]

theorem State.decideGroup_rep_of_ok {w : BitVec 128} (hok : s.spacingOk (cueStation w) = true) : (s.decideGroup w).rep = s.rep := by
  simp [State.decideGroup, hok]

/-- A group that is not admitted is counted in 2829h of its station. -/
theorem State.decideGroup_counted (hd : s.direct = true) {w : BitVec 128} (hok : s.spacingOk (cueStation w) = false) :
    Counted s (s.decideGroup w) [key 0x2829 (cueStation w + 1)] := by
  have hcue : ∀ x, Counted s ({ s with cue := x } : State) [] := fun x => (Counted.refl s).of_rep rfl
  simp only [State.decideGroup, hok]
  exact (hcue _).fdCount hd (List.not_mem_nil)

/-! ### A trigger cue is crossed -/

theorem State.crossTrigger_of_live {e : Nat} (h : (s.cueAt e).st = .live) :
    s.crossTrigger e = ((s.fireCue (s.cueAt e).word).fdCount 0x2828 1).endCue e true cueCrossed := by
  simp [State.crossTrigger, h, State.fireCue, State.endCue]

theorem State.crossTrigger_of_not_live {e : Nat} (hlive : (s.cueAt e).st ≠ .live) (harmed : (s.cueAt e).st ≠ .armed) :
    s.crossTrigger e = (s.fdCount 0x2828 1).endCue e true cueSuppressed := by
  simp [State.crossTrigger, hlive, harmed, State.endCue]

/-- An ARMED trigger is crossed as the LIVE or SUPPRESSED one that the admission test makes of it. -/
theorem State.crossTrigger_of_armed {e : Nat} (h : (s.cueAt e).st = .armed) :
    s.crossTrigger e = (s.decideGroup (s.cueAt e).word).crossTrigger e := by
  cases hok : s.spacingOk (cueStation (s.cueAt e).word) <;> simp [State.crossTrigger, h, State.decideGroup_cueAt_self h, hok]

theorem State.crossTrigger_frame (s : State) (e : Nat) : s.cuesFrame (s.crossTrigger e) := by
  apply State.eq_of_fields <;> simp

/-- The crossing frees its own entry, and beyond the admission test changes no other. -/
theorem State.crossTrigger_entries {e : Nat} (harmed : (s.cueAt e).st ≠ .armed) :
    s.entryFreed (s.crossTrigger e) e true ∧ s.otherEntriesKept (s.crossTrigger e) e := by
  by_cases hlive : (s.cueAt e).st = .live
  · rw [State.crossTrigger_of_live hlive]
    exact ⟨State.endCue_freed (by simp [State.fireCue]) .., State.endCue_kept (by simp [State.fireCue]) _ _ _⟩
  · rw [State.crossTrigger_of_not_live hlive harmed]
    exact ⟨State.endCue_freed (by simp) .., State.endCue_kept (by simp) _ _ _⟩

theorem State.crossTrigger_live_fd (hd : s.direct = true) {e : Nat} (hlive : (s.cueAt e).st = .live) :
    (s.crossTrigger e).fd = { s.fd with
      trg := (s.fireCue (s.cueAt e).word).fd.trg
      txq := s.fd.txq ++ [.cueResult e cueCrossed] } := by
  have hfire := State.fireCue_direct hd (s.cueAt e).word
  rw [State.crossTrigger_of_live hlive, State.endCue_fd ((State.direct_fdCount ..).trans hfire), State.fdCount_fd_of_direct hfire,
    State.fireCue_fd hd]

theorem State.crossTrigger_live_fires (hon : s.fd.on = true) (hd : s.direct = true) {e : Nat} (hlive : (s.cueAt e).st = .live) :
    s.triggerFired (s.crossTrigger e) (cueOut (s.cueAt e).word) := by
  have hfired := State.fireCue_fires hon hd (s.cueAt e).word
  have htrg : ∀ k, (s.crossTrigger e).trg k =
      (s.fireCue (s.cueAt e).word).trg k := fun k => by
    rw [State.trg, State.crossTrigger_live_fd hd hlive]
    rfl
  simpa only [State.triggerFired, htrg] using hfired

theorem State.crossTrigger_live_counter (hd : s.direct = true) {e : Nat} (hlive : (s.cueAt e).st = .live) :
    (s.crossTrigger e).counter 0x2828 1 = satInc (s.counter 0x2828 1) := by
  have hfire := State.fireCue_direct hd (s.cueAt e).word
  rw [State.crossTrigger_of_live hlive, State.counter_eq, State.tally_of_rep _ _ (State.endCue_rep ..),
    State.tally_fdCount_same hfire (by decide), State.fireCue_tally hd _ (by decide) (by decide), State.counter_eq]

theorem State.crossTrigger_not_live_fd (hd : s.direct = true) {e : Nat} (hlive : (s.cueAt e).st ≠ .live) (harmed : (s.cueAt e).st ≠ .armed) :
    (s.crossTrigger e).fd = { s.fd with txq := s.fd.txq ++ [.cueResult e cueSuppressed] } := by
  rw [State.crossTrigger_of_not_live hlive harmed, State.endCue_fd ((State.direct_fdCount ..).trans hd), State.fdCount_fd_of_direct hd]

theorem State.crossTrigger_not_live_counted {s₀ : State} {ks : List Nat} (hcounted : Counted s₀ s ks) (hd : s.direct = true)
    (hnew : key 0x2828 1 ∉ ks) {e : Nat} (hlive : (s.cueAt e).st ≠ .live) (harmed : (s.cueAt e).st ≠ .armed) :
    Counted s₀ (s.crossTrigger e) (ks ++ [key 0x2828 1]) := by
  rw [State.crossTrigger_of_not_live hlive harmed]
  exact (hcounted.fdCount hd hnew).of_rep (State.endCue_rep ..)

theorem Counted.counter {t : State} {ks : List Nat} {i j : Nat} (h : Counted s t ks) (hown : key i j ∉ ownCounters) (hmem : key i j ∈ ks) :
    t.counter i j = satInc (s.counter i j) := by
  rw [State.counter_eq, h _ hown, if_pos hmem, State.counter_eq]

/-! ### A kick cue acts -/

/-- The kick of a cue word starts if `go` holds. -/
def State.kickIf (s : State) (go : Bool) (w : BitVec 128) : State :=
  if go then s.startKick (cueOut w) (cueWc w) (cueWunit w) (cueWidth w) else s

theorem State.kickIf_of_not {go : Bool} (h : go = false) (w : BitVec 128) : s.kickIf go w = s := by
  simp [State.kickIf, h]

theorem State.kickIf_cue (s : State) (go : Bool) (w : BitVec 128) : (s.kickIf go w).cue = s.cue := by
  unfold State.kickIf
  split <;> simp

theorem State.kickIf_fd (hd : s.direct = true) (go : Bool) (w : BitVec 128) :
    (s.kickIf go w).fd = { s.fd with kck := (s.kickIf go w).fd.kck, stamps := (s.kickIf go w).fd.stamps } := by
  unfold State.kickIf
  split
  · exact State.startKick_fd hd ..
  · rfl

theorem State.kickIf_direct (hd : s.direct = true) (go : Bool) (w : BitVec 128) : (s.kickIf go w).direct = true := by
  unfold State.kickIf
  split
  · exact State.startKick_direct hd ..
  · exact hd

/-- The kickers count in 2815h to 281Ch, so a kick moves no counter of the cue table but 2828h:07. -/
theorem State.kickIf_counter (hd : s.direct = true) (go : Bool) {w : BitVec 128} (hn : cueOut w < 8) {j : Nat} (hj : j < 7) :
    (s.kickIf go w).counter 0x2828 j = s.counter 0x2828 j := by
  unfold State.kickIf
  split
  · have hown : key 0x2828 j ∉ ownCounters := by
      simp only [ownCounters, key, List.mem_cons, List.not_mem_nil, or_false]
      omega
    exact State.startKick_tally hd _ _ _ _ hown (by unfold key; omega) (by unfold key; omega) (by unfold key; omega)
  · rfl

theorem State.crossKick_eq (s : State) (e : Nat) :
    s.crossKick e = (((s.kickIf (s.kickAction (cueOut (s.cueAt e).word) (s.verdictTaken e) == 1) (s.cueAt e).word).fdCount 0x2828 1).fdCount
      0x2800 (verdictSub (s.verdictTaken e))).endCue e true (if (s.cueAt e).st = .live then cueCrossed else cueSuppressed) := by
  have hverdict : (if ((s.cueAt e).st == .live && cueVerdict (s.cueAt e).word != 0) = true then cueVerdict (s.cueAt e).word else 3)
      = s.verdictTaken e := by
    simp [State.verdictTaken]
  unfold State.crossKick
  dsimp only
  rw [hverdict]
  simp [State.kickIf, State.endCue]

theorem State.expireCue_of_kick {e : Nat} (hkind : cueKind (s.cueAt e).word = 1) :
    ∃ v, s.expireCue e = (((s.fdCount 0x2828 2).fdCount 0x2800 (verdictSub v)).kickIf
      (((s.fdCount 0x2828 2).fdCount 0x2800 (verdictSub v)).fnum (0x2600 + cueOut (s.cueAt e).word) 5 0 == 1) (s.cueAt e).word).endCue e false cueExpired :=
  ⟨if (s.cueAt e).st = .live then cueVerdict (s.cueAt e).word else 3, by simp [State.expireCue, hkind, State.kickIf, State.endCue]⟩

theorem State.expireCue_of_other {e : Nat} (hkind : cueKind (s.cueAt e).word ≠ 1) :
    s.expireCue e = (s.fdCount 0x2828 2).endCue e false cueExpired := by
  simp [State.expireCue, hkind, State.endCue]

theorem verdictSub_le (v : Nat) : verdictSub v ≤ 3 := by
  unfold verdictSub
  split
  · decide
  · split <;> decide

theorem State.kickDrives_of_fd {u : State} (h : u.fd = s.fd) (n : Nat) : u.kickDrives n = s.kickDrives n := by
  simp only [State.kickDrives, State.kick, State.kickEnabled, State.fnum, h]

/-- The kick starts if its condition holds, and the output can be switched on. -/
theorem State.kickIf_runs {u t : State} {go : Bool} {w : BitVec 128} (hfd : u.fd = s.fd) (hgo : go = true)
    (hdrives : s.kickDrives (cueOut w) = true) (ht : t.fd.kck = (u.kickIf go w).fd.kck) : s.kickRuns t (cueOut w) (cueWc w) := by
  have hruns : u.kickRuns (u.kickIf go w) (cueOut w) (cueWc w) := by
    rw [State.kickIf, if_pos hgo]
    exact State.startKick_runs ((State.kickDrives_of_fd hfd _).trans hdrives) ..
  simpa only [State.kickRuns, State.kick, hfd, ht] using hruns

/-! ### A kick cue is crossed -/

theorem State.crossKick_entries (s : State) (e : Nat) : s.entryFreed (s.crossKick e) e true ∧ s.otherEntriesKept (s.crossKick e) e := by
  rw [State.crossKick_eq]
  exact ⟨State.endCue_freed (by simp [State.kickIf_cue]) .., State.endCue_kept (by simp [State.kickIf_cue]) _ _ _⟩

theorem State.crossKick_fd (hd : s.direct = true) (e : Nat) :
    (s.crossKick e).fd = { s.fd with
      kck := (s.kickIf (s.kickAction (cueOut (s.cueAt e).word) (s.verdictTaken e) == 1) (s.cueAt e).word).fd.kck
      stamps := (s.kickIf (s.kickAction (cueOut (s.cueAt e).word) (s.verdictTaken e) == 1) (s.cueAt e).word).fd.stamps
      txq := s.fd.txq ++ [.cueResult e (if (s.cueAt e).st = .live then cueCrossed else cueSuppressed)] } := by
  have hkick := State.kickIf_direct hd (s.kickAction (cueOut (s.cueAt e).word) (s.verdictTaken e) == 1) (s.cueAt e).word
  have hcount := (State.direct_fdCount (i := 0x2828) (j := 1) _).trans hkick
  rw [State.crossKick_eq, State.endCue_fd ((State.direct_fdCount ..).trans hcount), State.fdCount_fd_of_direct hcount,
    State.fdCount_fd_of_direct hkick, State.kickIf_fd hd]

theorem State.crossKick_runs (hd : s.direct = true) {e : Nat}
    (haction : s.kickAction (cueOut (s.cueAt e).word) (s.verdictTaken e) = 1) (hdrives : s.kickDrives (cueOut (s.cueAt e).word) = true) :
    s.kickRuns (s.crossKick e) (cueOut (s.cueAt e).word) (cueWc (s.cueAt e).word) :=
  State.kickIf_runs rfl (beq_iff_eq.mpr haction) hdrives (by rw [State.crossKick_fd hd])

theorem State.crossKick_idle (hd : s.direct = true) {e : Nat}
    (haction : s.kickAction (cueOut (s.cueAt e).word) (s.verdictTaken e) ≠ 1) :
    (s.crossKick e).fd.kck = s.fd.kck ∧ Counted s (s.crossKick e) [key 0x2828 1, key 0x2800 (verdictSub (s.verdictTaken e))] := by
  refine ⟨by rw [State.crossKick_fd hd, State.kickIf_of_not (beq_eq_false_iff_ne.mpr haction)], ?_⟩
  have hnew : key 0x2800 (verdictSub (s.verdictTaken e)) ∉ [] ++ [key 0x2828 1] := by
    have := verdictSub_le (s.verdictTaken e)
    simp only [key, List.nil_append, List.mem_singleton]
    omega
  rw [State.crossKick_eq, State.kickIf_of_not (beq_eq_false_iff_ne.mpr haction)]
  exact ((((Counted.refl s).fdCount hd List.not_mem_nil).fdCount ((State.direct_fdCount ..).trans hd) hnew).of_rep (State.endCue_rep ..))

theorem State.crossKick_counter (hd : s.direct = true) {e : Nat} (hn : cueOut (s.cueAt e).word < 8) :
    (s.crossKick e).counter 0x2828 1 = satInc (s.counter 0x2828 1) := by
  have hkick := State.kickIf_direct hd (s.kickAction (cueOut (s.cueAt e).word) (s.verdictTaken e) == 1) (s.cueAt e).word
  have hne : key 0x2828 1 ≠ key 0x2800 (verdictSub (s.verdictTaken e)) := by
    have := verdictSub_le (s.verdictTaken e)
    unfold key
    omega
  rw [State.crossKick_eq, State.counter_eq, State.tally_of_rep _ _ (State.endCue_rep ..),
    State.tally_fdCount_other ((State.direct_fdCount ..).trans hkick) (by decide) hne, State.tally_fdCount_same hkick (by decide),
    ← State.counter_eq, State.kickIf_counter hd _ hn (by decide)]

theorem State.crossKick_frame (s : State) (e : Nat) : s.cuesFrame (s.crossKick e) := by
  apply State.eq_of_fields <;> simp

/-! ### A cue expires -/

theorem State.expireCue_frame (s : State) (e : Nat) : s.cuesFrame (s.expireCue e) := by
  apply State.eq_of_fields <;> simp

theorem State.expireCue_entries (s : State) (e : Nat) : s.entryFreed (s.expireCue e) e false ∧ s.otherEntriesKept (s.expireCue e) e := by
  by_cases hkind : cueKind (s.cueAt e).word = 1
  · obtain ⟨v, heq⟩ := State.expireCue_of_kick hkind
    rw [heq]
    exact ⟨State.endCue_freed (by simp [State.kickIf_cue]) .., State.endCue_kept (by simp [State.kickIf_cue]) _ _ _⟩
  · rw [State.expireCue_of_other hkind]
    exact ⟨State.endCue_freed (by simp) .., State.endCue_kept (by simp) _ _ _⟩

theorem State.expireCue_other_fd (hd : s.direct = true) {e : Nat} (hkind : cueKind (s.cueAt e).word ≠ 1) :
    (s.expireCue e).fd = { s.fd with txq := s.fd.txq ++ [.cueResult e cueExpired] } := by
  rw [State.expireCue_of_other hkind, State.endCue_fd ((State.direct_fdCount ..).trans hd), State.fdCount_fd_of_direct hd]

theorem State.expireCue_other_counted (hd : s.direct = true) {e : Nat} (hkind : cueKind (s.cueAt e).word ≠ 1) :
    Counted s (s.expireCue e) [key 0x2828 2] := by
  rw [State.expireCue_of_other hkind]
  exact ((Counted.refl s).fdCount hd List.not_mem_nil).of_rep (State.endCue_rep ..)

/-- Of an expired kick, the two counts move no output, and the kick starts where EXPIRE_ACTION is 1 (03 R82). -/
theorem State.expireCue_kick (hd : s.direct = true) {e : Nat} (hkind : cueKind (s.cueAt e).word = 1) :
    ∃ u : State, u.fd = s.fd ∧ u.direct = true ∧ u.counter 0x2828 2 = satInc (s.counter 0x2828 2)
      ∧ s.expireCue e = (u.kickIf (s.fnum (0x2600 + cueOut (s.cueAt e).word) 5 0 == 1) (s.cueAt e).word).endCue e false cueExpired := by
  obtain ⟨v, heq⟩ := State.expireCue_of_kick hkind
  have hcount := (State.direct_fdCount s 0x2828 2).trans hd
  have hfd : ((s.fdCount 0x2828 2).fdCount 0x2800 (verdictSub v)).fd = s.fd := by
    rw [State.fdCount_fd_of_direct hcount, State.fdCount_fd_of_direct hd]
  have hne : key 0x2828 2 ≠ key 0x2800 (verdictSub v) := by
    have := verdictSub_le v
    unfold key
    omega
  refine ⟨_, hfd, (State.direct_fdCount ..).trans hcount, ?_, ?_⟩
  · rw [State.counter_eq, State.tally_fdCount_other hcount (by decide) hne, State.tally_fdCount_same hd (by decide), State.counter_eq]
  · rw [heq, State.fnum, hfd, State.fnum]

theorem State.expireCue_fd (hd : s.direct = true) (e : Nat) :
    (s.expireCue e).fd = { s.fd with
      kck := (s.expireCue e).fd.kck, stamps := (s.expireCue e).fd.stamps, txq := s.fd.txq ++ [.cueResult e cueExpired] } := by
  by_cases hkind : cueKind (s.cueAt e).word = 1
  · obtain ⟨u, hfd, hu, -, heq⟩ := State.expireCue_kick hd hkind
    rw [heq, State.endCue_fd (State.kickIf_direct hu ..), State.kickIf_fd hu, hfd]
  · rw [State.expireCue_other_fd hd hkind]

theorem State.expireCue_counter (hd : s.direct = true) {e : Nat} (hn : cueOut (s.cueAt e).word < 8) :
    (s.expireCue e).counter 0x2828 2 = satInc (s.counter 0x2828 2) := by
  by_cases hkind : cueKind (s.cueAt e).word = 1
  · obtain ⟨u, -, hu, hcounter, heq⟩ := State.expireCue_kick hd hkind
    rw [heq, State.counter_eq, State.tally_of_rep _ _ (State.endCue_rep ..), ← State.counter_eq,
      State.kickIf_counter hu _ hn (by decide), hcounter]
  · exact (State.expireCue_other_counted hd hkind).counter (by decide) (by simp)

theorem State.expireCue_idle (hd : s.direct = true) {e : Nat} (hkind : cueKind (s.cueAt e).word = 1)
    (haction : s.fnum (0x2600 + cueOut (s.cueAt e).word) 5 0 ≠ 1) : (s.expireCue e).fd.kck = s.fd.kck := by
  obtain ⟨u, hfd, hu, -, heq⟩ := State.expireCue_kick hd hkind
  rw [heq, State.endCue_fd (State.kickIf_direct hu ..), State.kickIf_of_not (beq_eq_false_iff_ne.mpr haction), hfd]

theorem State.expireCue_runs (hd : s.direct = true) {e : Nat} (hkind : cueKind (s.cueAt e).word = 1)
    (haction : s.fnum (0x2600 + cueOut (s.cueAt e).word) 5 0 = 1) (hdrives : s.kickDrives (cueOut (s.cueAt e).word) = true) :
    s.kickRuns (s.expireCue e) (cueOut (s.cueAt e).word) (cueWc (s.cueAt e).word) := by
  obtain ⟨u, hfd, hu, -, heq⟩ := State.expireCue_kick hd hkind
  exact State.kickIf_runs hfd (beq_iff_eq.mpr haction) hdrives (by rw [heq, State.endCue_fd (State.kickIf_direct hu ..)])

/-! ### Which cue a crossing or an expiry takes -/

theorem State.crossCue_of_trigger {e : Nat} (hkind : cueKind (s.cueAt e).word = 0) : s.crossCue e = s.crossTrigger e := by
  simp [State.crossCue, hkind]

/-- A kick waits for no trigger unless it is ARMED and its group's first trigger is due as well. -/
theorem State.crossCue_of_kick {e : Nat} (hkind : cueKind (s.cueAt e).word ≠ 0)
    (hfirst : (s.cueAt e).st = .armed → ∀ x, s.firstTrigger (s.cueAt e).word = some x → s.cueDue x = false) : s.crossCue e = s.crossKick e := by
  by_cases harmed : (s.cueAt e).st = .armed
  · cases hx : s.firstTrigger (s.cueAt e).word with
    | none => simp [State.crossCue, hkind, hx]
    | some x => simp [State.crossCue, hkind, hx, hfirst harmed x hx]
  · simp [State.crossCue, hkind, harmed]

theorem State.crossCue_of_waiting_kick {e x : Nat} (hkind : cueKind (s.cueAt e).word ≠ 0) (harmed : (s.cueAt e).st = .armed)
    (hfirst : s.firstTrigger (s.cueAt e).word = some x) (hdue : s.cueDue x = true) : s.crossCue e = (s.crossTrigger x).crossKick e := by
  simp [State.crossCue, hkind, harmed, hfirst, hdue]

theorem exec_cueCrossing (e : Fin 8192) (s : State) :
    exec (.cueCrossing e) s = .next (if s.fd.on && s.cueDue e.val then s.crossCue e.val else s) := rfl

theorem exec_cueExpiry (e : Fin 8192) (s : State) : exec (.cueExpiry e) s = .next
    (if !s.fd.on || (s.cueAt e).st == .free || before 32 s.fieldUs (cueExpiry (s.cueAt e).word) then s
      else if s.cueDue e then s.crossCue e else s.expireCue e) := rfl

theorem exec_cueCrossing_of_due {e : Fin 8192} (hon : s.fd.on = true) (hdue : s.cueDue e = true) :
    exec (.cueCrossing e) s = .next (s.crossCue e) := by
  rw [exec_cueCrossing, hon, hdue]
  rfl

theorem exec_cueCrossing_of_not_due {e : Fin 8192} (hdue : s.cueDue e = false) : exec (.cueCrossing e) s = .next s := by
  rw [exec_cueCrossing, hdue, Bool.and_false]
  rfl

theorem State.entry_of_due {e : Nat} (h : s.cueDue e = true) : (s.cueAt e).st ≠ .free := by
  intro hfree
  simp [State.cueDue, hfree] at h

theorem exec_cueExpiry_of_due {e : Fin 8192} (hon : s.fd.on = true) (hdue : s.cueDue e = true)
    (hpast : before 32 s.fieldUs (cueExpiry (s.cueAt e).word) = false) : exec (.cueExpiry e) s = exec (.cueCrossing e) s := by
  rw [exec_cueCrossing_of_due hon hdue, exec_cueExpiry]
  simp [hon, hdue, hpast, State.entry_of_due hdue]

theorem exec_cueExpiry_of_not_due {e : Fin 8192} (hon : s.fd.on = true) (hst : (s.cueAt e).st ≠ .free) (hdue : s.cueDue e = false)
    (hpast : before 32 s.fieldUs (cueExpiry (s.cueAt e).word) = false) : exec (.cueExpiry e) s = .next (s.expireCue e) := by
  rw [exec_cueExpiry]
  simp [hon, hdue, hpast, hst]

theorem exec_cueExpiry_of_early {e : Fin 8192} (hearly : before 32 s.fieldUs (cueExpiry (s.cueAt e).word) = true) :
    exec (.cueExpiry e) s = .next s := by
  rw [exec_cueExpiry, hearly, Bool.or_true]
  rfl

/-! ### An ARMED trigger is crossed -/

theorem State.crossTrigger_decided_fd (hd : s.direct = true) {e : Nat} (harmed : (s.cueAt e).st ≠ .armed) :
    (s.crossTrigger e).fd = { s.fd with trg := (s.crossTrigger e).fd.trg, txq := (s.crossTrigger e).fd.txq } := by
  by_cases hlive : (s.cueAt e).st = .live
  · rw [State.crossTrigger_live_fd hd hlive]
  · rw [State.crossTrigger_not_live_fd hd hlive harmed]

theorem State.decideGroup_not_armed {e : Nat} (harmed : (s.cueAt e).st = .armed) :
    ((s.decideGroup (s.cueAt e).word).cueAt e).st ≠ .armed := by
  rw [State.decideGroup_cueAt_self harmed]
  dsimp only
  split <;> decide

theorem State.crossTrigger_armed_freed {e : Nat} (harmed : (s.cueAt e).st = .armed) : s.entryFreed (s.crossTrigger e) e true := by
  have hfreed := (State.crossTrigger_entries (State.decideGroup_not_armed harmed)).1
  rw [State.crossTrigger_of_armed harmed, State.entryFreed, hfreed, State.decideGroup_cueAt_self harmed]

theorem State.crossTrigger_armed_others {e f : Nat} (harmed : (s.cueAt e).st = .armed) (hf : f ≠ e) :
    (s.crossTrigger e).cueAt f = (s.cueAt f).decided (s.cueAt e).word (s.spacingOk (cueStation (s.cueAt e).word)) := by
  rw [State.crossTrigger_of_armed harmed, (State.crossTrigger_entries (State.decideGroup_not_armed harmed)).2 f hf,
    State.decideGroup_cueAt]

theorem State.crossTrigger_fd (hd : s.direct = true) (e : Nat) :
    (s.crossTrigger e).fd = { s.fd with trg := (s.crossTrigger e).fd.trg, txq := (s.crossTrigger e).fd.txq } := by
  by_cases harmed : (s.cueAt e).st = .armed
  · rw [State.crossTrigger_of_armed harmed, State.crossTrigger_decided_fd (State.decideGroup_direct hd _)
      (State.decideGroup_not_armed harmed), State.decideGroup_fd hd]
  · exact State.crossTrigger_decided_fd hd harmed

theorem State.triggerFired_of_fd {u t : State} (hfd : u.fd = s.fd) {n : Nat} (h : u.triggerFired t n) : s.triggerFired t n := by
  simpa only [State.triggerFired, State.trgEnabled, State.trg, State.fnum, hfd] using h

/-- An admitted group: its trigger fires. -/
theorem State.crossTrigger_admitted (hon : s.fd.on = true) (hd : s.direct = true) {e : Nat} (harmed : (s.cueAt e).st = .armed)
    (hok : s.spacingOk (cueStation (s.cueAt e).word) = true) :
    s.triggerFired (s.crossTrigger e) (cueOut (s.cueAt e).word) ∧ (s.crossTrigger e).fd.txq = s.fd.txq ++ [.cueResult e cueCrossed]
      ∧ (s.crossTrigger e).counter 0x2828 1 = satInc (s.counter 0x2828 1) := by
  have hself := State.decideGroup_cueAt_self harmed
  have hlive : ((s.decideGroup (s.cueAt e).word).cueAt e).st = .live := by rw [hself, if_pos hok]
  have hfd := State.decideGroup_fd hd (s.cueAt e).word
  have hdir := State.decideGroup_direct hd (s.cueAt e).word
  have hfires := State.crossTrigger_live_fires (hfd ▸ hon) hdir hlive
  rw [hself] at hfires
  rw [State.crossTrigger_of_armed harmed]
  refine ⟨State.triggerFired_of_fd hfd hfires, by rw [State.crossTrigger_live_fd hdir hlive, hfd], ?_⟩
  rw [State.crossTrigger_live_counter hdir hlive, State.counter, State.decideGroup_rep_of_ok hok, State.counter]

/-- A group that is not admitted: nothing fires. -/
theorem State.crossTrigger_turned_down (hd : s.direct = true) {e : Nat} (harmed : (s.cueAt e).st = .armed)
    (hok : s.spacingOk (cueStation (s.cueAt e).word) = false) :
    (s.crossTrigger e).fd = { s.fd with txq := s.fd.txq ++ [.cueResult e cueSuppressed] }
      ∧ Counted s (s.crossTrigger e) [key 0x2829 (cueStation (s.cueAt e).word + 1), key 0x2828 1] := by
  have hdir := State.decideGroup_direct hd (s.cueAt e).word
  have hlive : ((s.decideGroup (s.cueAt e).word).cueAt e).st ≠ .live := by
    simp [State.decideGroup_cueAt_self harmed, hok]
  have hnew : key 0x2828 1 ∉ [key 0x2829 (cueStation (s.cueAt e).word + 1)] := by
    simp only [key, List.mem_singleton]
    omega
  rw [State.crossTrigger_of_armed harmed]
  refine ⟨?_, State.crossTrigger_not_live_counted (State.decideGroup_counted hd hok) hdir hnew hlive (State.decideGroup_not_armed harmed)⟩
  rw [State.crossTrigger_not_live_fd hdir hlive (State.decideGroup_not_armed harmed), State.decideGroup_fd hd]

/-! ### A kick that waits for its group's first trigger -/

/-- Whether an entry is due depends on it, on its clock and on the time, and not on which of its states but FREE it is in. -/
theorem State.cueDue_of_entry {u : State} {e : Nat} {x : CueState} (hu : u.cueAt e = { s.cueAt e with st := x }) (hs : (s.cueAt e).st ≠ .free)
    (hx : x ≠ .free) (hwc : u.wc = s.wc) (hclk : u.clk = s.clk) (hcfg : u.fd.cfg = s.fd.cfg) : u.cueDue e = s.cueDue e := by
  simp [State.cueDue, hu, bne_iff_ne.mpr hs, bne_iff_ne.mpr hx, State.livePos, State.clock, State.wcCfg, hwc, hclk, hcfg]

theorem sameGroup_comm (a b : BitVec 128) : sameGroup a b = sameGroup b a := by
  simp only [sameGroup, Bool.beq_comm]

/-- A kick that waited for its group's first trigger is decided when the trigger has been crossed, and still due. -/
theorem State.crossTrigger_leaves_kick (hd : s.direct = true) {e x : Nat} (hdue : s.cueDue e = true)
    (hkind : cueKind (s.cueAt e).word = 1) (harmed : (s.cueAt e).st = .armed) (hx : (s.cueAt x).st = .armed)
    (hxkind : cueKind (s.cueAt x).word = 0) (hgroup : sameGroup (s.cueAt x).word (s.cueAt e).word = true) :
    (s.crossTrigger x).cueAt e = { s.cueAt e with st := if s.spacingOk (cueStation (s.cueAt e).word) then .live else .suppressed }
      ∧ (s.crossTrigger x).cueDue e = true := by
  have hne : e ≠ x := by
    rintro rfl
    omega
  have hentry : (s.crossTrigger x).cueAt e =
      { s.cueAt e with st := if s.spacingOk (cueStation (s.cueAt e).word) then .live else .suppressed } := by
    rw [State.crossTrigger_armed_others hx hne, CueEntry.decided_of_member harmed ((sameGroup_comm ..).trans hgroup),
      ((sameGroup_iff ..).mp hgroup).1]
  refine ⟨hentry, (State.cueDue_of_entry hentry (State.entry_of_due hdue) ?_ (by simp) (by simp) (by rw [State.crossTrigger_fd hd])).trans hdue⟩
  split <;> decide

theorem exec_cueCrossing_of_waiting_kick (hon : s.fd.on = true) (hd : s.direct = true) {e x : Fin 8192} (hdue : s.cueDue e = true)
    (hkind : cueKind (s.cueAt e).word = 1) (harmed : (s.cueAt e).st = .armed) (hfirst : s.firstTrigger (s.cueAt e).word = some x.val)
    (hxdue : s.cueDue x = true) (hx : (s.cueAt x).st = .armed) (hxkind : cueKind (s.cueAt x).word = 0)
    (hgroup : sameGroup (s.cueAt x).word (s.cueAt e).word = true) :
    exec (.cueCrossing x) s = .next (s.crossTrigger x) ∧ exec (.cueCrossing e) s = exec (.cueCrossing e) (s.crossTrigger x)
      ∧ ((s.crossTrigger x).cueAt e).st = if s.spacingOk (cueStation (s.cueAt e).word) then .live else .suppressed := by
  obtain ⟨hentry, hstill⟩ := State.crossTrigger_leaves_kick hd hdue hkind harmed hx hxkind hgroup
  have hst : ((s.crossTrigger x).cueAt e).st = if s.spacingOk (cueStation (s.cueAt e).word) then .live else .suppressed := by rw [hentry]
  have hword : ((s.crossTrigger x).cueAt e).word = (s.cueAt e).word := by rw [hentry]
  have hkick : cueKind (s.cueAt e).word ≠ 0 := by omega
  have hdecided : ((s.crossTrigger x).cueAt e).st ≠ .armed := by
    rw [hst]
    split <;> decide
  have hpowered : (s.crossTrigger x).fd.on = true := by rw [State.crossTrigger_fd hd, hon]
  refine ⟨by rw [exec_cueCrossing_of_due hon hxdue, State.crossCue_of_trigger hxkind], ?_, hst⟩
  rw [exec_cueCrossing_of_due hon hdue, exec_cueCrossing_of_due hpowered hstill,
    State.crossCue_of_waiting_kick hkick harmed hfirst hxdue, State.crossCue_of_kick (hword.symm ▸ hkick) (fun h => absurd h hdecided)]

/-! ### The statement -/

theorem Completes.of_exec {i : Instr} {t : State} {P : State → Prop} (h : exec i s = .next t) (hP : P t) : Completes i s P := ⟨t, h, hP⟩

end

/-- Settles O13. Each command is rewritten to the crossing or the expiry that it takes; what that leaves of the entries, the outputs, the counters and the report are the lemmas above. -/
theorem cueCrossingAndExpiry : Obligations.CueCrossingAndExpiry := by
  intro s e hon hd c w n freed kept fires framed kicked verdict
  have htrigger : s.cueDue e = true → cueKind w = 0 → exec (.cueCrossing e) s = .next (s.crossTrigger e) := fun hdue hkind => by
    rw [exec_cueCrossing_of_due hon hdue, State.crossCue_of_trigger hkind]
  refine ⟨fun hdue harmed hkind => .of_exec (htrigger hdue hkind) ?_, fun hdue hlive hkind => .of_exec (htrigger hdue hkind) ?_,
    fun hdue hsup hkind => .of_exec (htrigger hdue hkind) ?_, fun hdue hkind hfirst => ?_,
    fun x hdue hkind harmed hfirst hxdue hx hxkind hgroup =>
      ⟨_, exec_cueCrossing_of_waiting_kick hon hd hdue hkind harmed hfirst hxdue hx hxkind hgroup⟩,
    fun hst hdue hpast => .of_exec (exec_cueExpiry_of_not_due hon hst hdue hpast) ?_,
    fun hdue hpast => exec_cueExpiry_of_due hon hdue hpast,
    fun hearly => .of_exec (exec_cueExpiry_of_early hearly) rfl,
    fun hdue => .of_exec (exec_cueCrossing_of_not_due hdue) rfl⟩
  · refine ⟨State.crossTrigger_armed_freed harmed, fun f hf => State.crossTrigger_armed_others harmed hf, fun hok => ?_, fun hno => ?_, ?_,
      s.crossTrigger_frame e⟩
    · obtain ⟨⟨hfires, hother⟩, htxq, -⟩ := State.crossTrigger_admitted hon hd harmed hok
      exact ⟨hfires, hother, htxq⟩
    · obtain ⟨hfd, hcounted⟩ := State.crossTrigger_turned_down hd harmed hno
      exact ⟨by rw [hfd], by rw [hfd], hcounted⟩
    · cases hok : s.spacingOk (cueStation w) with
      | true => exact (State.crossTrigger_admitted hon hd harmed hok).2.2
      | false => exact (State.crossTrigger_turned_down hd harmed hok).2.counter (by decide) (by simp)
  · obtain ⟨hfreed, hkept⟩ := State.crossTrigger_entries (e := e.val) (by rw [hlive]; decide)
    obtain ⟨hfires, hother⟩ := State.crossTrigger_live_fires hon hd hlive
    exact ⟨hfreed, hkept, hfires, hother, State.crossTrigger_live_counter hd hlive, by rw [State.crossTrigger_live_fd hd hlive],
      s.crossTrigger_frame e⟩
  · have harmed : (s.cueAt e).st ≠ .armed := by rw [hsup]; decide
    have hlive : (s.cueAt e).st ≠ .live := by rw [hsup]; decide
    have hfd := State.crossTrigger_not_live_fd hd hlive harmed
    obtain ⟨hfreed, hkept⟩ := State.crossTrigger_entries harmed
    exact ⟨hfreed, hkept, by rw [hfd], State.crossTrigger_not_live_counted (Counted.refl s) hd List.not_mem_nil hlive harmed,
      by rw [hfd], s.crossTrigger_frame e⟩
  · have hkick : cueKind (s.cueAt e).word ≠ 0 := hkind.trans_ne one_ne_zero
    obtain ⟨hfreed, hkept⟩ := s.crossKick_entries e
    refine .of_exec (t := s.crossKick e) (by rw [exec_cueCrossing_of_due hon hdue, State.crossCue_of_kick hkick hfirst]) ?_
    have hfd := State.crossKick_fd hd e
    exact ⟨hfreed, hkept, State.crossKick_runs hd, State.crossKick_idle hd, by rw [hfd], State.crossKick_counter hd, by rw [hfd],
      s.crossKick_frame e⟩
  · obtain ⟨hfreed, hkept⟩ := s.expireCue_entries e
    have hfd := State.expireCue_fd hd e
    exact ⟨hfreed, hkept, by rw [hfd], State.expireCue_counter hd,
      fun hkind => ⟨by rw [State.expireCue_other_fd hd hkind], State.expireCue_other_counted hd hkind⟩,
      State.expireCue_idle hd, State.expireCue_runs hd, by rw [hfd], s.expireCue_frame e⟩

end Machine
end Sys2Proof
end

section
/-!
PROOF. Targets of the Event Concentrator (13 R327-R334). Evaluating a target moves no more than whether it is signalled and whether its message is held, and no event that is entered moves a stack, a stack fault or what is in service; so a claim, a completion and a stack reset leave what their own step put there, whatever reporting does afterwards.
-/
namespace Sys2Proof
namespace Machine

/-- A key that a table does not list has the default value. -/
theorem Tab.at_of_not_mem {α : Type} (d : α) (t : Tab α) {k : Nat} (h : k ∉ t.map Prod.fst) : t.at d k = d := by
  induction t with
  | nil => rfl
  | cons p r ih =>
    simp only [List.map_cons, List.mem_cons, not_or] at h
    simp only [Tab.at, if_neg (Ne.symm h.1), ih h.2]

/-! ### The source on offer -/

/-- One source is held against the best candidate so far. -/
def Evc.offer (e : Evc) (t : Nat) (b : Option Nat) (id : Nat) : Option Nat :=
  if e.candidate t id then
    match b with
    | none => some id
    | some j => if srcPrio (e.cfg j) < srcPrio (e.cfg id) then some id else some j
  else b

theorem Evc.best_eq_foldl (e : Evc) (t : Nat) : e.best t = (e.st.map Prod.fst).foldl (e.offer t) none := rfl

/-- `b` is what the sources of the list offer the target: none where none is a candidate, else a candidate of the highest priority. -/
def Evc.Offers (e : Evc) (t : Nat) (l : List Nat) : Option Nat → Prop
  | none => ∀ j ∈ l, e.candidate t j = false
  | some id => e.candidate t id = true ∧ ∀ j ∈ l, e.candidate t j = true → srcPrio (e.cfg j) ≤ srcPrio (e.cfg id)

theorem Evc.Offers.offer {e : Evc} {t : Nat} {l : List Nat} {b : Option Nat} (h : e.Offers t l b) (id : Nat) :
    e.Offers t (l ++ [id]) (e.offer t b id) := by
  cases hid : e.candidate t id with
  | false =>
    have hsame : e.offer t b id = b := by simp [Evc.offer, hid]
    rw [hsame]
    cases b with
    | none => simpa [Evc.Offers, or_imp, forall_and, hid] using h
    | some i => simpa [Evc.Offers, or_imp, forall_and, hid] using h
  | true =>
    cases b with
    | none =>
      have hnone : ∀ j ∈ l, e.candidate t j = false := h
      have hsome : e.offer t none id = some id := by simp [Evc.offer, hid]
      rw [hsome]
      refine ⟨hid, List.forall_mem_append.mpr ⟨fun j hj hc => ?_, by simp⟩⟩
      simp [hnone j hj] at hc
    | some i =>
      obtain ⟨hi, hmax⟩ := h
      have hpair : e.offer t (some i) id = if srcPrio (e.cfg i) < srcPrio (e.cfg id) then some id else some i := by simp [Evc.offer, hid]
      rw [hpair]
      split
      · next hlt => exact ⟨hid, List.forall_mem_append.mpr ⟨fun j hj hc => (hmax j hj hc).trans hlt.le, by simp⟩⟩
      · next hge => exact ⟨hi, List.forall_mem_append.mpr ⟨hmax, by simpa using fun _ => Nat.le_of_not_lt hge⟩⟩

theorem Evc.foldl_offers (e : Evc) (t : Nat) (l : List Nat) : e.Offers t l (l.foldl (e.offer t) none) := by
  induction l using List.reverseRecOn with
  | nil => simp [Evc.Offers]
  | append_singleton l id ih =>
    rw [List.foldl_append]
    exact ih.offer id

/-- Only a source that the table of source states lists is ever a candidate: every other one is not pending. -/
theorem Evc.candidate_listed {e : Evc} {t j : Nat} (h : e.candidate t j = true) : j ∈ e.st.map Prod.fst := by
  by_contra hj
  simp [Evc.candidate, Evc.state, Tab.at_of_not_mem _ _ hj] at h

theorem Evc.best_of_some {e : Evc} {t id : Nat} (h : e.best t = some id) :
    e.candidate t id = true ∧ ∀ j, e.candidate t j = true → srcPrio (e.cfg j) ≤ srcPrio (e.cfg id) := by
  have hoffers := e.foldl_offers t (e.st.map Prod.fst)
  rw [← e.best_eq_foldl, h] at hoffers
  exact ⟨hoffers.1, fun j hj => hoffers.2 j (Evc.candidate_listed hj) hj⟩

theorem Evc.best_of_none {e : Evc} {t : Nat} (h : e.best t = none) (j : Nat) : e.candidate t j = false := by
  have hoffers := e.foldl_offers t (e.st.map Prod.fst)
  rw [← e.best_eq_foldl, h] at hoffers
  by_contra hj
  rw [Bool.not_eq_false] at hj
  exact Bool.false_ne_true ((hoffers j (Evc.candidate_listed hj)).symm.trans hj)

/-! ### Changing a target, counting -/

section
variable (r : Reporting) (env : Env) (t : Nat)

@[simp] theorem Reporting.setTarget_target_same (x : EvcTarget) : (r.setTarget t x).evc.target t = x := Tab.at_put_same ..

theorem Reporting.setTarget_target_other (x : EvcTarget) {j : Nat} (h : j ≠ t) :
    (r.setTarget t x).evc.target j = r.evc.target j := Tab.at_put_other _ _ _ h

@[simp] theorem Reporting.setTarget_st (x : EvcTarget) : (r.setTarget t x).evc.st = r.evc.st := rfl

@[simp] theorem Reporting.bump_evc (i j : Nat) : (r.bump i j).evc = r.evc := by
  unfold Reporting.bump
  dsimp only
  split <;> rfl

theorem Reporting.bump_due {i j : Nat} (h : r.cnt.at 0 (key i j) ≠ 0xFFFFFFFE) : (r.bump i j).due = r.due := by
  have hnext : r.cnt.at 0 (key i j) + 1 ≠ 0xFFFFFFFF := by bv_omega
  unfold Reporting.bump
  simp only [if_neg hnext]
  split <;> rfl

/-- Counting one counter leaves the counters that reporting does not move itself as alike as they were. -/
theorem Reporting.bump_cnt_congr {r' : Reporting} (h : ∀ k, k ∉ ownCounters → r'.cnt.at 0 k = r.cnt.at 0 k) (i j : Nat) {k : Nat}
    (hk : k ∉ ownCounters) : (r'.bump i j).cnt.at 0 k = (r.bump i j).cnt.at 0 k := by
  by_cases hkey : k = key i j
  · subst hkey
    rw [Reporting.bump_same, Reporting.bump_same, h _ hk]
  · rw [Reporting.bump_other _ _ _ _ hkey, Reporting.bump_other _ _ _ _ hkey, h k hk]

/-! ### Evaluating a target -/

/-- Evaluating a target changes whether it is signalled and whether its message is held; it may count one message as sent or as held. -/
theorem Reporting.evaluate_cases : ∃ sig held, ∃ u, u = r.setTarget t { r.evc.target t with signalled := sig, held := held } ∧
    (r.evaluate env t = u ∨ r.evaluate env t = { u.bump 0x28B0 5 with msixOut := r.msixOut + 1 } ∨ r.evaluate env t = u.bump 0x28B0 7) := by
  unfold Reporting.evaluate
  dsimp only
  split
  · split
    · exact ⟨true, _, _, rfl, .inr (.inl rfl)⟩
    · split
      · exact ⟨true, _, _, rfl, .inl rfl⟩
      · exact ⟨true, true, _, rfl, .inr (.inr rfl)⟩
  · exact ⟨_, _, _, rfl, .inl rfl⟩

theorem Reporting.evaluate_evc :
    ∃ sig held, (r.evaluate env t).evc = (r.setTarget t { r.evc.target t with signalled := sig, held := held }).evc := by
  obtain ⟨sig, held, u, rfl, h | h | h⟩ := r.evaluate_cases env t <;> exact ⟨sig, held, by simp [h]⟩

@[simp] theorem Reporting.evaluate_st : (r.evaluate env t).evc.st = r.evc.st := by
  obtain ⟨sig, held, h⟩ := r.evaluate_evc env t
  rw [h, Reporting.setTarget_st]

theorem Reporting.evaluate_state (id : Nat) : (r.evaluate env t).evc.state id = r.evc.state id := by
  simp only [Evc.state, Reporting.evaluate_st]

theorem Reporting.evaluate_target_same :
    ∃ sig held, (r.evaluate env t).evc.target t = { r.evc.target t with signalled := sig, held := held } := by
  obtain ⟨sig, held, h⟩ := r.evaluate_evc env t
  exact ⟨sig, held, by rw [h, Reporting.setTarget_target_same]⟩

theorem Reporting.evaluate_target_other {j : Nat} (hj : j ≠ t) : (r.evaluate env t).evc.target j = r.evc.target j := by
  obtain ⟨sig, held, h⟩ := r.evaluate_evc env t
  rw [h, Reporting.setTarget_target_other _ _ _ hj]

/-- Evaluating a target leaves every target's stack and faults. -/
theorem Reporting.evaluate_target (j : Nat) :
    ((r.evaluate env t).evc.target j).stack = (r.evc.target j).stack ∧ ((r.evaluate env t).evc.target j).frozen = (r.evc.target j).frozen
      ∧ ((r.evaluate env t).evc.target j).tagLoss = (r.evc.target j).tagLoss := by
  by_cases hj : j = t
  · subst hj
    obtain ⟨sig, held, h⟩ := r.evaluate_target_same env j
    simp [h]
  · simp [r.evaluate_target_other env t hj]

/-- Evaluating a target makes no event due while no counter is one short of its last value. -/
theorem Reporting.evaluate_due (h : ∀ k, r.cnt.at 0 k ≠ 0xFFFFFFFE) : (r.evaluate env t).due = r.due := by
  obtain ⟨sig, held, u, rfl, he | he | he⟩ := r.evaluate_cases env t <;> rw [he]
  · rfl
  · exact Reporting.bump_due _ (h _)
  · exact Reporting.bump_due _ (h _)

/-- A hart target sends no message: evaluating it counts nothing. -/
theorem Reporting.evaluate_of_hart (ht : t < 6) :
    r.evaluate env t = r.setTarget t { r.evc.target t with signalled := r.evc.signal t } := by
  have hnot : ¬ (t ≥ 6 ∧ r.evc.signal t = true ∧ (r.evc.target t).signalled = false) := fun h => absurd h.1 (by omega)
  simp only [Reporting.evaluate, if_neg hnot, Reporting.setTarget]

end

/-! ### What reporting holds of the Event Concentrator -/

/-- The stacks and stack faults of the targets and what is in service stand. -/
structure Evc.Holds (e e' : Evc) : Prop where
  inService : ∀ id, (e'.state id).inService = (e.state id).inService
  stack : ∀ t, (e'.target t).stack = (e.target t).stack
  frozen : ∀ t, (e'.target t).frozen = (e.target t).frozen

theorem Evc.Holds.refl (e : Evc) : e.Holds e := ⟨fun _ => rfl, fun _ => rfl, fun _ => rfl⟩

theorem Evc.Holds.trans {a b c : Evc} (hab : a.Holds b) (hbc : b.Holds c) : a.Holds c :=
  ⟨fun id => (hbc.inService id).trans (hab.inService id), fun t => (hbc.stack t).trans (hab.stack t),
    fun t => (hbc.frozen t).trans (hab.frozen t)⟩

section
variable (r : Reporting) (env : Env)

theorem Reporting.evaluate_holds (t : Nat) : r.evc.Holds (r.evaluate env t).evc :=
  ⟨fun id => by rw [r.evaluate_state env t id], fun j => (r.evaluate_target env t j).1, fun j => (r.evaluate_target env t j).2.1⟩

@[simp] theorem Reporting.limited_evc (now scope : Nat) (e : Ev) : (r.limited now scope e).evc = r.evc := by
  unfold Reporting.limited
  dsimp only
  split <;> rfl

@[simp] theorem Reporting.emcyPort_evc (m : Emcy) (p : Nat) : (r.emcyPort env m p).evc = r.evc := by
  unfold Reporting.emcyPort
  split
  · rfl
  · split
    · exact r.bump_evc _ _
    · rfl

/-- A source state that keeps being in service holds what reporting holds. -/
theorem Evc.holds_put_state (e : Evc) (id : Nat) (x : SrcState) (h : x.inService = (e.state id).inService) :
    e.Holds { e with st := e.st.put id x } := by
  refine ⟨fun j => ?_, fun _ => rfl, fun _ => rfl⟩
  by_cases hj : j = id
  · subst hj
    simpa [Evc.state] using h
  · simp [Evc.state, Tab.at_put_other _ _ _ hj]

theorem Reporting.occur_holds (id : Nat) : r.evc.Holds (r.occur env id).evc := by
  unfold Reporting.occur
  dsimp only
  split
  · exact .refl _
  · refine .trans ?_ (Reporting.evaluate_holds _ env _)
    split
    · rw [Reporting.limited_evc, Reporting.bump_evc]
      exact Evc.holds_put_state _ _ _ rfl
    · exact Evc.holds_put_state _ _ _ rfl

theorem Reporting.enter_holds (e : Ev) : r.evc.Holds (r.enter env e).evc := by
  unfold Reporting.enter
  dsimp only
  refine .trans ?_ (Reporting.occur_holds _ env _)
  split
  · exact .refl _
  · rw [Reporting.emcyPort_evc, Reporting.emcyPort_evc]
    exact .refl _

theorem Reporting.settle_holds : r.evc.Holds (r.settle env).evc :=
  Reporting.drainN_induction env (fun _ u => r.evc.Holds u.evc) (fun _ _ h => h)
    (fun _ u e rest h => h.trans (Reporting.enter_holds { u with due := rest } env e)) _ r (.refl _)

end

/-! ### Reports -/

section
variable {s : State} {f : Reporting → Reporting}

theorem State.report_of_no_due (h : (f s.rep).due = []) : s.report f = { s with rep := f s.rep } := by
  rw [State.report, Reporting.settle_of_no_due _ _ h]

theorem State.report_holds : (f s.rep).evc.Holds (s.report f).rep.evc := Reporting.settle_holds _ _

theorem Counted.count (s : State) {i j : Nat} : Counted s (s.count i j) [key i j] := fun k hk => by
  simp [State.tally_count s i j k hk]

/-- A report that counts once, apart from the counters of reporting itself. -/
theorem State.report_counted {i j : Nat} (h : ∀ k, k ∉ ownCounters → (f s.rep).cnt.at 0 k = (s.rep.bump i j).cnt.at 0 k) :
    Counted s (s.report f) [key i j] := fun k hk => by
  rw [← Counted.count s k hk]
  calc (s.report f).tally k
      _ = (f s.rep).cnt.at 0 k := Reporting.settle_cnt _ _ _ hk
      _ = (s.rep.bump i j).cnt.at 0 k := h k hk
      _ = (s.count i j).tally k := (Reporting.settle_cnt _ _ _ hk).symm

end

/-! ### Claims -/

section
variable {e : Evc} {t id : Nat}

theorem Evc.claim_of_best (hf : (e.target t).frozen = false) (hl : (e.target t).tagLoss = false) (hb : e.best t = some id) :
    e.claim t = { e with
      st := e.st.put id { c := 0, timer := none, pending := false, inService := true }
      tgt := e.tgt.put t { e.target t with stack := (id, srcPrio (e.cfg id)) :: (e.target t).stack } } := by
  simp [Evc.claim, hf, hl, hb]

theorem Evc.claim_of_no_best (hb : e.best t = none) : e.claim t = e := by
  simp [Evc.claim, hb]

theorem Evc.claim_of_fault (h : (e.target t).frozen = true ∨ (e.target t).tagLoss = true) : e.claim t = e := by
  simp [Evc.claim, h]

theorem Evc.claimed_of_best (hf : (e.target t).frozen = false) (hl : (e.target t).tagLoss = false) (hb : e.best t = some id) :
    e.claimed t = claimValue e id := by
  simp [Evc.claimed, hf, hl, hb]

theorem Evc.claimed_of_no_best (hf : (e.target t).frozen = false) (hl : (e.target t).tagLoss = false) (hb : e.best t = none) :
    e.claimed t = 0 := by
  simp [Evc.claimed, hf, hl, hb]

theorem Evc.claimed_of_fault (h : (e.target t).frozen = true ∨ (e.target t).tagLoss = true) :
    e.claimed t = if (e.target t).frozen then 0xC0000001 else 0xC0000002 := by
  rcases Bool.eq_false_or_eq_true (e.target t).frozen with hf | hf
  · simp [Evc.claimed, hf]
  · simp [Evc.claimed, hf, h.resolve_left (by simp [hf])]

end

section
variable {s : State} {port : EvcPort} {t : Nat}

theorem exec_evcClaim (hs : s.settled) (hroom : s.roomy) (hp : evcIllegal port = false) (ht : s.evcPort port = some t) :
    exec (.evcClaim port) s = .next { s with
      rep := ({ s.rep with evc := s.rep.evc.claim t } : Reporting).evaluate s.env t
      out := { s.out with claim := s.rep.evc.claimed t, illegal := false, err := false } } := by
  have hexec : exec (.evcClaim port) s = execEvcClaim port s := rfl
  have hdue := (({ s.rep with evc := s.rep.evc.claim t } : Reporting).evaluate_due s.env t hroom).trans hs.2
  simp only [hexec, execEvcClaim, hp, ht, Bool.false_eq_true, if_false]
  rw [State.report_of_no_due hdue]

theorem exec_evcClaim_illegal (h : evcIllegal port = true) :
    exec (.evcClaim port) s = .next { s with out := { s.out with illegal := true } } := by
  have hexec : exec (.evcClaim port) s = execEvcClaim port s := rfl
  simp only [hexec, execEvcClaim, if_pos h]

theorem exec_evcClaim_refused (h : evcIllegal port = false) (ht : s.evcPort port = none) :
    exec (.evcClaim port) s = .next s.refuseInbound := by
  have hexec : exec (.evcClaim port) s = execEvcClaim port s := rfl
  simp only [hexec, execEvcClaim, h, ht, Bool.false_eq_true, if_false]

theorem State.refuseInbound_counted (s : State) : Counted s s.refuseInbound [key 0x28A0 1] :=
  (Counted.count s).of_rep rfl

end

/-! ### Completions -/

theorem Evc.leave_state_same (e : Evc) (id : Nat) :
    (e.leave id).state id = { e.state id with inService := false, pending := (e.state id).pending || e.active id } := by
  simp [Evc.leave, Evc.state]

theorem Evc.leave_state_other (e : Evc) {id j : Nat} (h : j ≠ id) : (e.leave id).state j = e.state j := by
  simp [Evc.leave, Evc.state, Tab.at_upd_other _ _ _ h]

theorem Evc.leave_inService (e : Evc) (id j : Nat) :
    ((e.leave id).state j).inService = ((e.state j).inService && decide (j ≠ id)) := by
  by_cases h : j = id
  · subst h
    simp [Evc.leave_state_same]
  · simp [Evc.leave_state_other _ h, h]

section
variable {r : Reporting} {env : Env} {t id p : Nat} {rest : List (Nat × Nat)}

theorem Reporting.complete_of_top (hf : (r.evc.target t).frozen = false) (hst : (r.evc.target t).stack = (id, p) :: rest) :
    r.complete env t id =
      (({ r with evc := (r.setTarget t { r.evc.target t with stack := rest }).evc.leave id } : Reporting).evaluate env t).evaluate env
        (srcTarget (r.evc.cfg id)) := by
  simp only [Reporting.complete, hf, hst, Bool.false_eq_true, if_false, if_true]
  rfl

/-- Taking the top source off at a hart target makes no event due: of the two targets evaluated only the second may count a message. -/
theorem Reporting.complete_top_due (ht : t < 6) (hroom : ∀ k, r.cnt.at 0 k ≠ 0xFFFFFFFE) (hf : (r.evc.target t).frozen = false)
    (hst : (r.evc.target t).stack = (id, p) :: rest) : (r.complete env t id).due = r.due := by
  rw [Reporting.complete_of_top hf hst, Reporting.evaluate_of_hart _ _ _ ht]
  exact Reporting.evaluate_due _ env _ hroom

theorem Reporting.complete_top_target (hf : (r.evc.target t).frozen = false) (hst : (r.evc.target t).stack = (id, p) :: rest) :
    ((r.complete env t id).evc.target t).stack = rest := by
  rw [Reporting.complete_of_top hf hst, (Reporting.evaluate_target _ env _ t).1, (Reporting.evaluate_target _ env _ t).1]
  exact congrArg EvcTarget.stack (Reporting.setTarget_target_same ..)

theorem Reporting.complete_top_state (hf : (r.evc.target t).frozen = false) (hst : (r.evc.target t).stack = (id, p) :: rest) (j : Nat) :
    (r.complete env t id).evc.state j = (r.evc.leave id).state j := by
  rw [Reporting.complete_of_top hf hst, Reporting.evaluate_state, Reporting.evaluate_state]
  rfl

theorem Reporting.complete_of_other (hf : (r.evc.target t).frozen = false) (hst : ∀ p rest, (r.evc.target t).stack ≠ (id, p) :: rest) :
    r.complete env t id = Reporting.complete.outOfOrder r env t (r.evc.target t) := by
  simp only [Reporting.complete, hf, Bool.false_eq_true, if_false]
  split
  · next top q rest' hstack =>
    have htop : top ≠ id := by
      rintro rfl
      exact hst _ _ hstack
    rw [if_neg htop]
  · rfl

theorem Reporting.outOfOrder_target : ((complete.outOfOrder r env t (r.evc.target t)).evc.target t).frozen = true
    ∧ ((complete.outOfOrder r env t (r.evc.target t)).evc.target t).stack = (r.evc.target t).stack := by
  unfold complete.outOfOrder
  dsimp only
  rw [(Reporting.evaluate_target _ env t t).1, (Reporting.evaluate_target _ env t t).2.1, Reporting.bump_evc, Reporting.setTarget_target_same]
  exact ⟨rfl, rfl⟩

theorem Reporting.outOfOrder_cnt {k : Nat} (hk : k ∉ ownCounters) :
    (complete.outOfOrder r env t (r.evc.target t)).cnt.at 0 k = (r.bump 0x28B0 1).cnt.at 0 k := by
  unfold complete.outOfOrder
  dsimp only
  rw [Reporting.evaluate_cnt _ _ _ _ hk]
  exact Reporting.bump_cnt_congr r (r' := r.setTarget t _) (fun _ _ => rfl) _ _ hk

end

/-! ### Stack resets -/

/-- A target's stack is emptied and unfrozen and its sources leave service (13 R332). -/
def Evc.emptied (e : Evc) (t : Nat) : Evc :=
  (e.target t).stack.foldl (fun e x => e.leave x.1) { e with tgt := e.tgt.put t { e.target t with stack := [], frozen := false } }

theorem Evc.foldl_leave_tgt (l : List (Nat × Nat)) (e : Evc) : (l.foldl (fun e x => e.leave x.1) e).tgt = e.tgt := by
  induction l generalizing e with
  | nil => rfl
  | cons x l ih => exact ih (e.leave x.1)

theorem Evc.foldl_leave_inService (l : List (Nat × Nat)) (e : Evc) (id : Nat) :
    ((l.foldl (fun e x => e.leave x.1) e).state id).inService = ((e.state id).inService && decide (id ∉ l.map Prod.fst)) := by
  induction l generalizing e with
  | nil => simp
  | cons x l ih =>
    simp only [List.foldl_cons, ih, Evc.leave_inService, List.map_cons, List.mem_cons, not_or, Bool.decide_and, Bool.and_assoc, ne_eq]

theorem Evc.emptied_target (e : Evc) (t : Nat) : (e.emptied t).target t = { e.target t with stack := [], frozen := false } := by
  simp [Evc.target, Evc.emptied, Evc.foldl_leave_tgt]

theorem Evc.emptied_inService (e : Evc) (t : Nat) {x : Nat × Nat} (hx : x ∈ (e.target t).stack) : ((e.emptied t).state x.1).inService = false := by
  rw [Evc.emptied, Evc.foldl_leave_inService]
  simp [List.mem_map_of_mem hx]

theorem Reporting.foldl_leave (l : List (Nat × Nat)) (r : Reporting) :
    l.foldl (fun r x => { r with evc := r.evc.leave x.1 }) r = { r with evc := l.foldl (fun e x => e.leave x.1) r.evc } := by
  induction l generalizing r with
  | nil => rfl
  | cons x l ih => exact ih _

section
variable (env : Env)

/-- The targets of some sources are evaluated in turn. -/
def Reporting.evaluateAll (r : Reporting) (l : List (Nat × Nat)) : Reporting :=
  l.foldl (fun r x => r.evaluate env (srcTarget (r.evc.cfg x.1))) r

theorem Reporting.evaluateAll_holds (l : List (Nat × Nat)) (r : Reporting) : r.evc.Holds (r.evaluateAll env l).evc := by
  induction l generalizing r with
  | nil => exact .refl _
  | cons x l ih => exact (r.evaluate_holds env _).trans (ih _)

theorem Reporting.evaluateAll_cnt (l : List (Nat × Nat)) (r : Reporting) {k : Nat} (hk : k ∉ ownCounters) :
    (r.evaluateAll env l).cnt.at 0 k = r.cnt.at 0 k := by
  induction l generalizing r with
  | nil => rfl
  | cons x l ih => exact (ih _).trans (r.evaluate_cnt env _ k hk)

variable (r : Reporting) (t : Nat)

theorem Reporting.emptyStack_eq : r.emptyStack env t =
    (Reporting.evaluateAll env { r with evc := r.evc.emptied t } (r.evc.target t).stack).evaluate env t := by
  simp only [Reporting.emptyStack, Reporting.foldl_leave]
  rfl

theorem Reporting.emptyStack_holds : (r.evc.emptied t).Holds (r.emptyStack env t).evc := by
  rw [Reporting.emptyStack_eq]
  exact (Reporting.evaluateAll_holds env _ { r with evc := r.evc.emptied t }).trans (Reporting.evaluate_holds _ env t)

theorem Reporting.emptyStack_cnt {k : Nat} (hk : k ∉ ownCounters) : (r.emptyStack env t).cnt.at 0 k = r.cnt.at 0 k := by
  rw [Reporting.emptyStack_eq, Reporting.evaluate_cnt _ _ _ _ hk, Reporting.evaluateAll_cnt _ _ _ hk]

end

/-! ### The commands at a target -/

section
variable {s : State}

theorem exec_evcComplete_hart (t : Fin 6) (id : Fin 2048) :
    exec (.evcComplete (.hart t false) id) s = .next (s.report (fun r => r.complete s.env t id)) := rfl

theorem exec_evcStackReset_reg (t : Fin 38) :
    exec (.evcStackReset (.reg t)) s = .next (s.report (fun r => (r.emptyStack s.env t).bump 0x28B0 3)) := rfl

theorem exec_evcTagAck (hs : s.settled) (t : Fin 4) : exec (.evcTagAck t) s = .next { s with
    rep := (s.rep.setTarget t { s.rep.evc.target t with tagLoss := false }).evaluate s.env t } := by
  have hreport : exec (.evcTagAck t) s =
      .next (s.report (fun r => (r.setTarget t { r.evc.target t with tagLoss := false }).evaluate s.env t)) := rfl
  rw [hreport, State.report_of_no_due]
  rw [Reporting.evaluate_of_hart _ _ _ (by omega)]
  exact hs.2

/-- The report when a held message is released: it is sent and counted if its vector is signalled (13 R334). -/
def Reporting.releaseHeld (r : Reporting) (t : Nat) : Reporting :=
  let u := r.setTarget t { r.evc.target t with held := false }
  if (r.evc.target t).signalled then { u.bump 0x28B0 5 with msixOut := r.msixOut + 1 } else u

theorem Reporting.releaseHeld_target (r : Reporting) (t : Nat) :
    (r.releaseHeld t).evc.target t = { r.evc.target t with held := false } := by
  unfold Reporting.releaseHeld
  dsimp only
  split <;> simp

theorem Reporting.releaseHeld_msixOut (r : Reporting) (t : Nat) :
    (r.releaseHeld t).msixOut = if (r.evc.target t).signalled then r.msixOut + 1 else r.msixOut := by
  unfold Reporting.releaseHeld
  dsimp only
  split <;> rfl

theorem Reporting.releaseHeld_due (r : Reporting) (t : Nat) (h : ∀ k, r.cnt.at 0 k ≠ 0xFFFFFFFE) : (r.releaseHeld t).due = r.due := by
  unfold Reporting.releaseHeld
  dsimp only
  split
  · exact Reporting.bump_due _ (h _)
  · rfl

theorem exec_msixHeldRelease (hs : s.settled) (hroom : s.roomy) {v : Fin 32} (hheld : (s.rep.evc.target (6 + v.val)).held = true)
    (hok : s.msixOk v = true) : exec (.msixHeldRelease v) s = .next { s with rep := s.rep.releaseHeld (6 + v.val) } := by
  have hexec : exec (.msixHeldRelease v) s = execMsixHeldRelease v s := rfl
  simp only [hexec, execMsixHeldRelease, hheld, hok, Bool.and_self, if_true]
  exact congrArg Host.Outcome.next (State.report_of_no_due ((s.rep.releaseHeld_due _ hroom).trans hs.2))

end

/-! ### The statement -/

/-- Settles O46. Each command is rewritten to its report; while no counter is about to reach its last value a claim, a completion, a TAG_ACK and a release make no event due, and where a report enters events (a wrong completion, a stack reset) `Evc.Holds` carries the stacks, the stack faults and what is in service through. -/
theorem evcTargets : Obligations.EvcTargets := by
  intro s hs hroom
  refine ⟨fun port t hp ht => ⟨fun hf hl => ⟨fun id hb => ⟨(Evc.best_of_some hb).1, (Evc.best_of_some hb).2, ?_⟩,
      fun hb => ⟨Evc.best_of_none hb, ?_⟩⟩, fun hfault => ?_⟩,
    fun t => .of_exec (exec_evcClaim_illegal rfl) rfl,
    fun fn v hv => .of_exec (exec_evcClaim_refused rfl hv) ⟨s.refuseInbound_counted, rfl⟩,
    fun t id p rest hf hst => ?_, fun t id hf hst => ?_, fun t => ?_, fun t => ?_, fun v hheld hok => ?_⟩
  · refine .of_exec (exec_evcClaim hs hroom hp ht) ?_
    rw [Evc.claimed_of_best hf hl hb, Evc.claim_of_best hf hl hb]
    refine ⟨rfl, ?_, fun j hj => ?_, ?_, fun j hj => ?_, rfl⟩
    · simp [Evc.state]
    · simp [Evc.state, Tab.at_put_other _ _ _ hj]
    · rw [(Reporting.evaluate_target _ s.env t t).1]
      simp [Evc.target]
    · rw [Reporting.evaluate_target_other _ s.env t hj]
      simp [Evc.target, Tab.at_put_other _ _ _ hj]
  · refine .of_exec (exec_evcClaim hs hroom hp ht) ?_
    rw [Evc.claimed_of_no_best hf hl hb, Evc.claim_of_no_best hb]
    exact ⟨rfl, s.rep.evaluate_st s.env t, (s.rep.evaluate_target s.env t t).1, fun j hj => s.rep.evaluate_target_other s.env t hj, rfl⟩
  · refine .of_exec (exec_evcClaim hs hroom hp ht) ?_
    rw [Evc.claimed_of_fault hfault, Evc.claim_of_fault hfault]
    exact ⟨rfl, s.rep.evaluate_st s.env t, (s.rep.evaluate_target s.env t t).1, rfl⟩
  · have hdue := (Reporting.complete_top_due (env := s.env) t.isLt hroom hf hst).trans hs.2
    refine .of_exec (exec_evcComplete_hart t id) ?_
    rw [State.report_of_no_due hdue]
    have hstate := Reporting.complete_top_state (env := s.env) hf hst
    refine ⟨Reporting.complete_top_target hf hst, ?_, ?_, fun j hj => (hstate j).trans (Evc.leave_state_other _ hj), rfl⟩
    · exact (congrArg SrcState.inService (hstate id)).trans (by rw [Evc.leave_state_same])
    · exact (congrArg SrcState.pending (hstate id)).trans (by rw [Evc.leave_state_same])
  · obtain ⟨hfrozen, hstack⟩ := Reporting.outOfOrder_target (r := s.rep) (env := s.env) (t := t.val)
    have hcomplete := Reporting.complete_of_other (env := s.env) hf hst
    have hholds := State.report_holds (s := s) (f := fun r => r.complete s.env t id)
    rw [hcomplete] at hholds
    refine .of_exec (exec_evcComplete_hart t id) ⟨(hholds.frozen t).trans hfrozen, (hholds.stack t).trans hstack,
      State.report_counted fun k hk => ?_, rfl⟩
    rw [hcomplete]
    exact Reporting.outOfOrder_cnt hk
  · have hempty := Evc.emptied_target s.rep.evc t
    have hreport : ((s.rep.emptyStack s.env t).bump 0x28B0 3).evc.Holds _ := State.report_holds (f := fun r => (r.emptyStack s.env t).bump 0x28B0 3)
    rw [Reporting.bump_evc] at hreport
    have hholds := (s.rep.emptyStack_holds s.env t).trans hreport
    exact .of_exec (exec_evcStackReset_reg t) ⟨(hholds.stack t).trans (by rw [hempty]), (hholds.frozen t).trans (by rw [hempty]),
      fun x hx => (hholds.inService x.1).trans (Evc.emptied_inService _ _ hx),
      State.report_counted fun k hk => Reporting.bump_cnt_congr _ (fun _ hk => s.rep.emptyStack_cnt s.env t hk) _ _ hk, rfl⟩
  · obtain ⟨hstack, -, htag⟩ := (s.rep.setTarget t { s.rep.evc.target t with tagLoss := false }).evaluate_target s.env t t
    rw [Reporting.setTarget_target_same] at hstack htag
    exact .of_exec (exec_evcTagAck hs t) ⟨htag, hstack, Reporting.evaluate_st .., rfl⟩
  · exact .of_exec (exec_msixHeldRelease hs hroom hheld hok)
      ⟨by rw [Reporting.releaseHeld_target], s.rep.releaseHeld_msixOut _, rfl⟩

end Machine
end Sys2Proof
end

section
/-!
PROOF. The step at the front of the queue, the step with nothing waiting, and the state after reset.
-/
namespace Sys2Proof
namespace Machine

/-- Settles O1, by the definition of a step. -/
theorem stepRunsTheFront : Obligations.StepRunsTheFront := by
  intro s c rest hpending
  rw [step, hpending]

/-- Settles O2. Time passes on the clocks alone, but for the status code that a halted boot sends where its blink changes. -/
theorem emptyQueueLetsTimePass : Obligations.EmptyQueueLetsTimePass := by
  intro s hempty
  refine ⟨s.tick, by rw [step, hempty], ?_⟩
  unfold State.tick
  dsimp only
  split
  case isTrue h =>
    obtain ⟨hhalt, hruns, hup, -⟩ := h
    refine ⟨rfl, fun hno => ?_, ?_⟩
    · simp [hhalt, hruns, hup] at hno
    · simp [State.sendField, hup]
  case isFalse h => exact ⟨rfl, fun _ => rfl, rfl⟩

/-- Settles O5: every field of the reset state is at its default. -/
theorem resetState : Obligations.ResetState :=
  ⟨⟨rfl, by decide, by decide⟩, rfl, fun _ => rfl, rfl, rfl, rfl, rfl, rfl, fun _ => rfl, fun _ => rfl⟩

end Machine
end Sys2Proof
end

section
/-!
PROOF. What every step keeps: each operation of the model, and with them each command, completes, leaves the queue alone, keeps memory canonical and keeps the event log and the pre-defined error field within their bounds. `State.Keeps` is that relation; the model's functions follow in the model's order, each from the functions it calls.
-/
namespace Sys2Proof
namespace Machine

/-- The event log and the pre-defined error field are within their bounds (16 R401, R409). -/
structure Reporting.Bounded (r : Reporting) : Prop where
  log : r.log.length ≤ 256
  hist : r.hist.length ≤ 8

namespace Reporting.Bounded

variable {r r' : Reporting} {env : Env}

theorem same (h : r.Bounded) (hlog : r'.log = r.log := by rfl) (hhist : r'.hist = r.hist := by rfl) : r'.Bounded :=
  ⟨hlog ▸ h.log, hhist ▸ h.hist⟩

theorem ite {c : Prop} [Decidable c] (h : r.Bounded) (h' : r'.Bounded) : (if c then r else r').Bounded := by
  split
  · exact h
  · exact h'

theorem letE {v : Reporting} {b : Reporting → Reporting} (hv : v.Bounded) (hb : ∀ x : Reporting, x.Bounded → (b x).Bounded) :
    (have x := v; b x).Bounded := hb v hv

theorem foldl {α : Type} {f : Reporting → α → Reporting} {l : List α} (h : r.Bounded) (hf : ∀ r x, r.Bounded → (f r x).Bounded) :
    (l.foldl f r).Bounded := by
  induction l generalizing r with
  | nil => exact h
  | cons x l ih => exact ih (hf r x h)

theorem bump {i j : Nat} (h : r.Bounded) : (r.bump i j).Bounded := .ite h h.same

theorem limited {now scope : Nat} {e : Ev} (h : r.Bounded) : (r.limited now scope e).Bounded := .ite h h.same

theorem setTarget {t : Nat} {x : EvcTarget} (h : r.Bounded) : (r.setTarget t x).Bounded := h.same

theorem evaluate {t : Nat} (h : r.Bounded) : (r.evaluate env t).Bounded :=
  .ite (.ite h.setTarget.bump.same (.ite h.setTarget h.setTarget.bump)) h.setTarget

theorem occur {id : Nat} (h : r.Bounded) : (r.occur env id).Bounded :=
  .ite h (.evaluate (.ite (.limited (.bump h.same)) h.same))

theorem emcyPort {m : Emcy} {p : Nat} (h : r.Bounded) : (r.emcyPort env m p).Bounded :=
  .ite h.same (.ite h.bump h)

theorem enter {e : Ev} (h : r.Bounded) : (r.enter env e).Bounded := by
  refine .occur (.ite ⟨?_, h.hist⟩ (.emcyPort (.emcyPort ⟨?_, ?_⟩)))
  all_goals exact List.length_take_le _ _

theorem drainN {n : Nat} (h : r.Bounded) : (Reporting.drainN env n r).Bounded :=
  drainN_induction env (fun _ r => r.Bounded) (fun _ _ h => h) (fun _ _ _ _ h => (h.same (r' := _)).enter) n r h

theorem settle (h : r.Bounded) : (r.settle env).Bounded := h.drainN

theorem outOfOrder {t : Nat} {tg : EvcTarget} (h : r.Bounded) : (Reporting.complete.outOfOrder r env t tg).Bounded :=
  .evaluate h.setTarget.bump.same

theorem complete {t id : Nat} (h : r.Bounded) : (r.complete env t id).Bounded := by
  refine .ite h.bump ?_
  split
  · exact .ite (.evaluate (.evaluate h.same)) h.outOfOrder
  · exact h.outOfOrder

theorem emptyStack {t : Nat} (h : r.Bounded) : (r.emptyStack env t).Bounded :=
  .evaluate (.foldl (.foldl h.setTarget fun _ _ h => h.same) fun _ _ h => h.evaluate)

end Reporting.Bounded

/-- What every command keeps of state `s`: the queue stands, memory stays canonical and the reports stay within their bounds. -/
structure State.Keeps (s t : State) : Prop where
  pending : t.pending = s.pending
  bytes : Memory.wf s.mem = true → Memory.wf t.mem = true
  reports : s.rep.Bounded → t.rep.Bounded

/-- The state of a pair is kept. -/
def State.KeepsFst {α : Type} (s : State) (p : State × α) : Prop := s.Keeps p.1

/-- The state that an option may hold is kept. -/
def State.KeepsSome (s : State) (o : Option State) : Prop := ∀ t, o = some t → s.Keeps t

/-- The command completes, with a state that is kept. -/
def State.Answers (s : State) (o : Host.Outcome State Fault Refusal) : Prop := ∃ t, o = .next t ∧ s.Keeps t

namespace State.Keeps

variable {s₀ s t : State}

theorem refl (s : State) : s.Keeps s := ⟨rfl, id, id⟩

theorem same (h : s₀.Keeps s) (hpending : t.pending = s.pending := by rfl) (hbytes : t.mem.bytes = s.mem.bytes := by rfl)
    (hlog : t.rep.log = s.rep.log := by rfl) (hhist : t.rep.hist = s.rep.hist := by rfl) : s₀.Keeps t := by
  refine ⟨hpending.trans h.pending, fun hm => ?_, fun hr => (h.reports hr).same hlog hhist⟩
  rw [Memory.wf, hbytes]
  exact h.bytes hm

/-- A record update that leaves the reports, memory and the queue. -/
theorem upd {clk : Clocks} {fd : FieldDie} {wc : Tab WebClock} {cue : Cues} {link : Link} {can : Tab CanPort} {pwr : Power} {ic : Tab Channel} {isp : Tab Pipeline} {host : HostSide} {boot : Boot} {gk : Gk} {od : Dict} {rg : Rings} {qn : Quoins} {nc : Neural} {rs : Roster} {ref : Referee} {pkg : Tab Package} {st : Tab Station} {out : Out} {free : Nat}
    (h : s₀.Keeps s) : s₀.Keeps { s with clk := clk, fd := fd, wc := wc, cue := cue, link := link, can := can, pwr := pwr, ic := ic, isp := isp, host := host, boot := boot, gk := gk, od := od, rg := rg, qn := qn, nc := nc, rs := rs, ref := ref, pkg := pkg, st := st, out := out, free := free } :=
  h.same

/-- A record update that leaves the reports, the bytes of memory and the queue. -/
theorem updMem {clk : Clocks} {fd : FieldDie} {wc : Tab WebClock} {cue : Cues} {link : Link} {can : Tab CanPort} {pwr : Power} {ic : Tab Channel} {isp : Tab Pipeline} {host : HostSide} {boot : Boot} {gk : Gk} {od : Dict} {rg : Rings} {qn : Quoins} {nc : Neural} {rs : Roster} {ref : Referee} {pkg : Tab Package} {st : Tab Station} {out : Out} {free : Nat}
    {ds : Tab DsChan} {way : Tab WayMode} {lines : List TcLine} {tagLoss lpInline lpFailed : Bool} {lpUsable : Nat} {lpPoison : List Nat}
    {waiting : List WaitingAccess} (h : s₀.Keeps s) : s₀.Keeps { s with
      clk := clk, fd := fd, wc := wc, cue := cue, link := link, can := can, pwr := pwr, ic := ic, isp := isp, host := host, boot := boot, gk := gk, od := od, rg := rg, qn := qn, nc := nc, rs := rs, ref := ref, pkg := pkg, st := st, out := out, free := free
      mem := { s.mem with ds := ds, way := way, lines := lines, tagLoss := tagLoss, lpInline := lpInline, lpFailed := lpFailed, lpUsable := lpUsable, lpPoison := lpPoison, waiting := waiting } } :=
  h.same

theorem logCleared (h : s₀.Keeps s) : s₀.Keeps { s with rep := { s.rep with log := [] } } :=
  ⟨h.pending, h.bytes, fun hr => ⟨Nat.zero_le _, (h.reports hr).hist⟩⟩

theorem histCleared (h : s₀.Keeps s) : s₀.Keeps { s with rep := { s.rep with hist := [] } } :=
  ⟨h.pending, h.bytes, fun hr => ⟨(h.reports hr).log, Nat.zero_le _⟩⟩

theorem ite {c : Prop} [Decidable c] (h : s₀.Keeps s) (h' : s₀.Keeps t) : s₀.Keeps (if c then s else t) := by
  split
  · exact h
  · exact h'

theorem dite {c : Prop} [Decidable c] {f : c → State} {g : ¬c → State} (hf : ∀ h, s₀.Keeps (f h)) (hg : ∀ h, s₀.Keeps (g h)) :
    s₀.Keeps (if h : c then f h else g h) := by
  split
  · exact hf _
  · exact hg _

theorem letE {b : State → State} (hv : s₀.Keeps s) (hb : ∀ x, s₀.Keeps x → s₀.Keeps (b x)) : s₀.Keeps (have x := s; b x) := hb s hv

theorem letFst {α : Type} {p : State × α} {b : State × α → State} (hp : s₀.KeepsFst p) (hb : ∀ x, s₀.KeepsFst x → s₀.Keeps (b x)) :
    s₀.Keeps (have x := p; b x) := hb p hp

theorem matchFst {α : Type} {p : State × α} {b : State → α → State} (hp : s₀.KeepsFst p) (hb : ∀ s x, s₀.Keeps s → s₀.Keeps (b s x)) :
    s₀.Keeps (match p with | (s, x) => b s x) := hb p.1 p.2 hp

theorem foldl {α : Type} {f : State → α → State} {l : List α} (h : s₀.Keeps s) (hf : ∀ s x, s₀.Keeps s → s₀.Keeps (f s x)) :
    s₀.Keeps (l.foldl f s) := by
  induction l generalizing s with
  | nil => exact h
  | cons x l ih => exact ih (hf s x h)

theorem pair {α : Type} {x : α} (h : s₀.Keeps s) : s₀.KeepsFst (s, x) := h

theorem next (h : s₀.Keeps s) : s₀.Answers (.next s) := ⟨s, rfl, h⟩

theorem isSome (h : s₀.Keeps s) : s₀.KeepsSome (some s) := fun _ ht => Option.some.inj ht ▸ h

end State.Keeps

namespace State.KeepsFst

variable {α β : Type} {s₀ s : State} {p q : State × α}

theorem fst (h : s₀.KeepsFst p) : s₀.Keeps p.1 := h

theorem of_eq {x : α} (h : s₀.KeepsFst p) (hp : p = (s, x)) : s₀.Keeps s := by
  subst hp
  exact h

theorem ite {c : Prop} [Decidable c] (h : s₀.KeepsFst p) (h' : s₀.KeepsFst q) : s₀.KeepsFst (if c then p else q) := by
  split
  · exact h
  · exact h'

theorem dite {c : Prop} [Decidable c] {f : c → State × α} {g : ¬c → State × α} (hf : ∀ h, s₀.KeepsFst (f h)) (hg : ∀ h, s₀.KeepsFst (g h)) :
    s₀.KeepsFst (if h : c then f h else g h) := by
  split
  · exact hf _
  · exact hg _

theorem letE {b : State → State × α} (hv : s₀.Keeps s) (hb : ∀ x, s₀.Keeps x → s₀.KeepsFst (b x)) : s₀.KeepsFst (have x := s; b x) := hb s hv

theorem letFst {p : State × β} {b : State × β → State × α} (hp : s₀.KeepsFst p) (hb : ∀ x, s₀.KeepsFst x → s₀.KeepsFst (b x)) :
    s₀.KeepsFst (have x := p; b x) := hb p hp

theorem matchFst {p : State × β} {b : State → β → State × α} (hp : s₀.KeepsFst p) (hb : ∀ s x, s₀.Keeps s → s₀.KeepsFst (b s x)) :
    s₀.KeepsFst (match p with | (s, x) => b s x) := hb p.1 p.2 hp

theorem foldl {f : State × α → β → State × α} {l : List β} (h : s₀.KeepsFst p) (hf : ∀ p x, s₀.KeepsFst p → s₀.KeepsFst (f p x)) :
    s₀.KeepsFst (l.foldl f p) := by
  induction l generalizing p with
  | nil => exact h
  | cons x l ih => exact ih (hf p x h)

end State.KeepsFst

namespace State.Answers

variable {s₀ s : State} {o o' : Host.Outcome State Fault Refusal}

theorem ite {c : Prop} [Decidable c] (h : s₀.Answers o) (h' : s₀.Answers o') : s₀.Answers (if c then o else o') := by
  split
  · exact h
  · exact h'

theorem dite {c : Prop} [Decidable c] {f : c → Host.Outcome State Fault Refusal} {g : ¬c → Host.Outcome State Fault Refusal} (hf : ∀ h, s₀.Answers (f h)) (hg : ∀ h, s₀.Answers (g h)) :
    s₀.Answers (if h : c then f h else g h) := by
  split
  · exact hf _
  · exact hg _

theorem letE {b : State → Host.Outcome State Fault Refusal} (hv : s₀.Keeps s) (hb : ∀ x, s₀.Keeps x → s₀.Answers (b x)) :
    s₀.Answers (have x := s; b x) := hb s hv

theorem letFst {α : Type} {p : State × α} {b : State × α → Host.Outcome State Fault Refusal} (hp : s₀.KeepsFst p)
    (hb : ∀ x, s₀.KeepsFst x → s₀.Answers (b x)) : s₀.Answers (have x := p; b x) := hb p hp

theorem matchFst {α : Type} {p : State × α} {b : State → α → Host.Outcome State Fault Refusal} (hp : s₀.KeepsFst p)
    (hb : ∀ s x, s₀.Keeps s → s₀.Answers (b s x)) : s₀.Answers (match p with | (s, x) => b s x) := hb p.1 p.2 hp

end State.Answers

namespace State.Keeps

variable {s₀ s t : State}

theorem report {f : Reporting → Reporting} (h : s₀.Keeps s) (hf : ∀ r : Reporting, r.Bounded → (f r).Bounded) : s₀.Keeps (s.report f) :=
  ⟨h.pending, h.bytes, fun hr => (hf _ (h.reports hr)).settle⟩

theorem poke {a : Nat} {x : List Byte} (h : s₀.Keeps s) : s₀.Keeps (s.poke a x) :=
  ⟨h.pending, fun hm => poke_wf s a x (h.bytes hm), h.reports⟩

theorem wipe {a n : Nat} (h : s₀.Keeps s) : s₀.Keeps (s.wipe a n) :=
  ⟨h.pending, fun hm => wipe_wf s a n (h.bytes hm), h.reports⟩

theorem served {idx : Nat} {f : State → State × Resp} (h : s₀.Keeps s) (hf : s₀.KeepsFst (f s)) : s₀.Keeps (s.served idx f) :=
  .ite h (.ite h.same (.ite h.same hf.fst.same))

end State.Keeps

namespace State.KeepsFst

variable {s₀ : State}

theorem andThen {p : State × Resp} {f : State → State × Resp} (h : s₀.KeepsFst p) (hf : ∀ s, s₀.Keeps s → s₀.KeepsFst (f s)) :
    s₀.KeepsFst (andThen p f) := by
  unfold Machine.andThen
  split
  · exact h
  · exact hf _ h

end State.KeepsFst

namespace State

variable {s₀ s s' : State}

/-! ### The model's operations and commands, in its order -/

theorem Keeps.setNum (h : s₀.Keeps s) {idx sub v : Nat} : s₀.Keeps (s.setNum idx sub v) := h.upd

theorem Keeps.count (h : s₀.Keeps s) {idx sub : Nat} : s₀.Keeps (s.count idx sub) := h.report fun _ h₁ => h₁.bump

theorem Keeps.countN (h : s₀.Keeps s) {idx sub n : Nat} : s₀.Keeps (s.countN idx sub n) := h.report fun _ h₁ => .ite h₁ (.ite h₁.same h₁.same.bump)

theorem Keeps.raise (h : s₀.Keeps s) {e : Ev} : s₀.Keeps (s.raise e) := h.report fun _ h₁ => h₁.same

theorem Keeps.raiseSec (h : s₀.Keeps s) {scope : Nat} {e : Ev} : s₀.Keeps (s.raiseSec scope e) := h.report fun _ h₁ => h₁.limited

theorem Keeps.raiseImp (h : s₀.Keeps s) {scope imp : Nat} {e : Ev} : s₀.Keeps (s.raiseImp scope imp e) := .ite h (h.report fun _ h₁ => h₁.same)

theorem Keeps.occur (h : s₀.Keeps s) {id : Nat} : s₀.Keeps (s.occur id) := h.report fun _ h₁ => h₁.occur

theorem Keeps.evaluate (h : s₀.Keeps s) {t : Nat} : s₀.Keeps (s.evaluate t) := h.report fun _ h₁ => h₁.evaluate

theorem Keeps.updPort (h : s₀.Keeps s) {p : Nat} {f : CanPort → CanPort} : s₀.Keeps (s.updPort p f) := h.upd

theorem Keeps.sendCompute (h : s₀.Keeps s) {m : Msg} : s₀.Keeps (s.sendCompute m) := h.upd

theorem Keeps.sendField (h : s₀.Keeps s) {m : Msg} : s₀.Keeps (s.sendField m) := h.upd

theorem Keeps.fdCount (h : s₀.Keeps s) {idx sub : Nat} : s₀.Keeps (s.fdCount idx sub) := .ite h.count h.upd

theorem Keeps.fdRaise (h : s₀.Keeps s) {e : Ev} : s₀.Keeps (s.fdRaise e) := .ite h.raise h.upd

theorem Keeps.fdRaiseImp (h : s₀.Keeps s) {scope imp : Nat} {e : Ev} : s₀.Keeps (s.fdRaiseImp scope imp e) := .ite h h.upd.fdRaise

theorem Keeps.fdOccur (h : s₀.Keeps s) {id : Nat} : s₀.Keeps (s.fdOccur id) := .ite h.occur h

theorem Keeps.updClock (h : s₀.Keeps s) {n : Nat} {f : WebClock → WebClock} : s₀.Keeps (s.updClock n f) := h.upd

theorem Keeps.updEnc (h : s₀.Keeps s) {m : Nat} {f : Encoder → Encoder} : s₀.Keeps (s.updEnc m f) := h.upd

theorem Keeps.answer (h : s₀.Keeps s) {r : Resp} : s₀.Keeps (s.answer r) := h.upd

theorem Keeps.refuseInbound (h : s₀.Keeps s) : s₀.Keeps s.refuseInbound := h.count.upd

theorem Keeps.execEvcOccurrence (h : s₀.Keeps s) {id : Fin 1024} : s₀.Answers (execEvcOccurrence id s) := h.occur.next

theorem Keeps.acceptLine (h : s₀.Keeps s) {n : Nat} {level : Bool} {time : BitVec 32} : s₀.Keeps (s.acceptLine n level time) :=
  .ite ((h.report fun _ h₁ => h₁.same).report fun _ h₁ => h₁.same.evaluate) (.ite ((h.report fun _ h₁ => h₁.same).occur) (h.report fun _ h₁ => h₁.same))

theorem Keeps.execEvcLineAccept (h : s₀.Keeps s) {line : Fin 32} {level : Bool} {samples : Nat} : s₀.Answers (execEvcLineAccept line level samples s) :=
  Keeps.next (.ite h (.ite h.count h.acceptLine))

theorem Keeps.execEvcBatchTimeout (h : s₀.Keeps s) {id : Fin 1056} : s₀.Answers (execEvcBatchTimeout id s) :=
  Keeps.next (.ite h (h.report fun _ h₁ => h₁.same.evaluate))

theorem Keeps.execEvcClaim (h : s₀.Keeps s) {port : EvcPort} : s₀.Answers (execEvcClaim port s) := by
  unfold Machine.execEvcClaim
  refine Keeps.next ?_
  refine .ite h.upd ?_
  split
  · exact h.refuseInbound
  · exact (h.report fun _ h₁ => h₁.same.evaluate).upd

theorem Keeps.execEvcComplete (h : s₀.Keeps s) {port : EvcPort} {id : Fin 2048} : s₀.Answers (execEvcComplete port id s) := by
  unfold Machine.execEvcComplete
  refine Keeps.next ?_
  refine .ite h.upd ?_
  split
  · exact h.refuseInbound
  · exact h.report fun _ h₁ => h₁.complete

theorem Keeps.execEvcStackReset (h : s₀.Keeps s) {ref : EvcRef} : s₀.Answers (execEvcStackReset ref s) := by
  unfold Machine.execEvcStackReset
  refine Keeps.next ?_
  split
  · exact h.refuseInbound
  · exact h.report fun _ h₁ => h₁.emptyStack.bump

theorem Keeps.execEvcTagAck (h : s₀.Keeps s) {t : Fin 4} : s₀.Answers (execEvcTagAck t s) := (h.report fun _ h₁ => h₁.setTarget.evaluate).next

theorem Keeps.execEvcSwset (h : s₀.Keeps s) {mask : BitVec 32} : s₀.Answers (execEvcSwset mask s) :=
  (h.report fun _ h₁ => .foldl h₁ fun _ _ h₂ => .ite h₂.occur h₂).next

theorem Keeps.execMsixHeldRelease (h : s₀.Keeps s) {v : Fin 32} : s₀.Answers (execMsixHeldRelease v s) :=
  Keeps.next (.ite (h.report fun _ h₁ => .ite h₁.setTarget.bump.same h₁.setTarget) h)

theorem Keeps.rearmCues (h : s₀.Keeps s) {n : Nat} : s₀.Keeps (s.rearmCues n) := h.upd

theorem Keeps.clearUndelivered (h : s₀.Keeps s) {n : Nat} : s₀.Keeps (s.clearUndelivered n) := h.upd

theorem Keeps.wcNote (h : s₀.Keeps s) {n : Nat} {x : WcNote} : s₀.Keeps (s.wcNote n x) := by
  unfold Machine.State.wcNote
  split
  · exact .ite h.fdCount h
  · exact .ite h.fdRaise h
  · exact .ite h.fdRaiseImp h
  · exact h.clearUndelivered

theorem Keeps.wcApply (h : s₀.Keeps s) {n : Nat} {r : WebClock × List WcNote} : s₀.Keeps (s.wcApply n r) := .foldl h.upd fun _ _ h₁ => h₁.wcNote

theorem Keeps.setField (h : s₀.Keeps s) {idx sub v : Nat} : s₀.Keeps (s.setField idx sub v) := h.upd

theorem Keeps.fieldWrite (h : s₀.Keeps s) {f : State → State × Resp} (hf : ∀ s, s₀.Keeps s → s₀.KeepsFst (f s)) : s₀.KeepsFst (s.fieldWrite f) :=
  .ite (hf _ h) h.pair

theorem Keeps.kickChanged (h : s₀.Keeps s) {s1 : State} {n : Nat} : s₀.Keeps (s.kickChanged s1 n) := .ite h h.fdOccur

theorem Keeps.putKick (h : s₀.Keeps s) {n : Nat} {k : Kicker} : s₀.Keeps (s.putKick n k) := h.upd.kickChanged

theorem Keeps.undelivered (h : s₀.Keeps s) {n w : Nat} : s₀.Keeps (s.undelivered n w) := h.fdCount.fdRaiseImp.upd

theorem Keeps.cutKick (h : s₀.Keeps s) {n : Nat} : s₀.Keeps (s.cutKick n) := .foldl h.putKick fun _ _ h₁ => h₁.undelivered

theorem Keeps.startKick (h : s₀.Keeps s) {n w wunit width : Nat} : s₀.Keeps (s.startKick n w wunit width) :=
  .ite (.ite h.putKick.fdCount.fdCount h.putKick.fdCount) h.undelivered

theorem Keeps.kickEnd (h : s₀.Keeps s) {n meanMa tailMa : Nat} : s₀.Keeps (s.kickEnd n meanMa tailMa) := .ite h.putKick.fdCount.fdRaise h.putKick

theorem Keeps.execKickPulseEnd (h : s₀.Keeps s) {kicker : Fin 8} {meanMa : Nat} {tailMa : Nat} : s₀.Answers (execKickPulseEnd kicker meanMa tailMa s) :=
  Keeps.next (.ite h.kickEnd h)

theorem Keeps.execMaxOnCutoff (h : s₀.Keeps s) {kicker : Fin 8} {meanMa : Nat} {tailMa : Nat} : s₀.Answers (execMaxOnCutoff kicker meanMa tailMa s) :=
  Keeps.next (.ite h.kickEnd.fdCount h)

theorem Keeps.execKickerTrip (h : s₀.Keeps s) {kicker : Fin 8} {kind : TripKind} : s₀.Answers (execKickerTrip kicker kind s) :=
  Keeps.next (.ite h.cutKick.putKick.fdCount.fdRaise h)

theorem Keeps.execKickerRetryDue (h : s₀.Keeps s) {kicker : Fin 8} : s₀.Answers (execKickerRetryDue kicker s) := Keeps.next (.ite h.putKick h)

theorem Keeps.execKickerRetryJudge (h : s₀.Keeps s) {kicker : Fin 8} {limitActive : Bool} {over50us : Bool} : s₀.Answers (execKickerRetryJudge kicker limitActive over50us s) :=
  Keeps.next (.ite h (.ite h.putKick (.ite h.cutKick.putKick.fdCount.fdRaise h.cutKick.putKick.fdCount)))

theorem Keeps.retryNow (h : s₀.Keeps s) {n : Nat} : s₀.KeepsFst (s.retryNow n) :=
  h.fieldWrite fun _ h₁ => .ite (Keeps.pair (.ite h₁ h₁.putKick)) h₁.pair

theorem Keeps.execKickerRetryNow (h : s₀.Keeps s) {kicker : Fin 8} : s₀.Answers (execKickerRetryNow kicker s) := (h.served h.retryNow).next

theorem Keeps.clearOpenOn (h : s₀.Keeps s) {n : Nat} : s₀.KeepsFst (s.clearOpenOn n) := h.fieldWrite fun _ h₁ => h₁.putKick.pair

theorem Keeps.execClearOpenOn (h : s₀.Keeps s) {kicker : Fin 8} : s₀.Answers (execClearOpenOn kicker s) := (h.served h.clearOpenOn).next

theorem Keeps.applyKickEnable (h : s₀.Keeps s) {n v : Nat} : s₀.Keeps (s.applyKickEnable n v) := Keeps.kickChanged (.ite h.setField.upd h.setField)

theorem Keeps.writeKickEnable (h : s₀.Keeps s) {n v : Nat} : s₀.KeepsFst (s.writeKickEnable n v) :=
  .ite h.pair (h.fieldWrite fun _ h₁ => h₁.applyKickEnable.pair)

theorem Keeps.execKickerEnableWrite (h : s₀.Keeps s) {kicker : Fin 8} {value : BitVec 8} : s₀.Answers (execKickerEnableWrite kicker value s) :=
  (h.served h.writeKickEnable).next

theorem Keeps.execKickerShortVf (h : s₀.Keeps s) {kicker : Fin 8} : s₀.Answers (execKickerShortVf kicker s) :=
  Keeps.next (.ite h.putKick.fdCount.fdRaise h)

theorem Keeps.execKickerShortVfClear (h : s₀.Keeps s) {kicker : Fin 8} : s₀.Answers (execKickerShortVfClear kicker s) := h.putKick.next

theorem Keeps.execKickerThermal (h : s₀.Keeps s) {kicker : Fin 8} : s₀.Answers (execKickerThermal kicker s) :=
  Keeps.next (.ite h (.ite h.cutKick.putKick.fdCount.fdRaise h.cutKick.putKick))

theorem Keeps.execKickerThermalClear (h : s₀.Keeps s) {kicker : Fin 8} : s₀.Answers (execKickerThermalClear kicker s) := h.putKick.next

theorem Keeps.execOpenOffDetect (h : s₀.Keeps s) {kicker : Fin 8} : s₀.Answers (execOpenOffDetect kicker s) :=
  Keeps.next (.ite h.putKick.fdCount.fdRaise h)

theorem Keeps.execOpenOffClear (h : s₀.Keeps s) {kicker : Fin 8} : s₀.Answers (execOpenOffClear kicker s) := h.putKick.next

theorem Keeps.putTrg (h : s₀.Keeps s) {k : Nat} {t : Trigger} : s₀.Keeps (s.putTrg k t) := h.upd

theorem Keeps.fireTrigger (h : s₀.Keeps s) {k wunit width : Nat} : s₀.Keeps (s.fireTrigger k wunit width) := .ite (.ite h.putTrg.fdCount h.putTrg) h

theorem Keeps.execTriggerPulseEnd (h : s₀.Keeps s) {out : Fin 32} : s₀.Answers (execTriggerPulseEnd out s) := h.putTrg.next

theorem Keeps.execTriggerShortTrip (h : s₀.Keeps s) {out : Fin 32} : s₀.Answers (execTriggerShortTrip out s) :=
  Keeps.next (.ite h.putTrg.fdCount.fdRaise h)

theorem Keeps.retryTriggers (h : s₀.Keeps s) {mask : Nat} : s₀.KeepsFst (s.retryTriggers mask) := h.fieldWrite fun _ h₁ => h₁.upd.pair

theorem Keeps.execTriggerRetry (h : s₀.Keeps s) {mask : BitVec 32} : s₀.Answers (execTriggerRetry mask s) := (h.served h.retryTriggers).next

theorem Keeps.execEncoderProbe (h : s₀.Keeps s) {enc : Fin 8} {line : EncLine} : s₀.Answers (execEncoderProbe enc line s) :=
  Keeps.next (.ite h.updEnc h)

theorem Keeps.clockFault (h : s₀.Keeps s) {m n : Nat} : s₀.Keeps (s.clockFault m n) := .ite h (.ite (.ite h.wcApply h.wcApply) (.ite h.wcApply h))

theorem Keeps.flagLine (h : s₀.Keeps s) {m : Nat} {line : EncLine} {short : Bool} : s₀.Keeps (s.flagLine m line short) :=
  .ite h.updEnc.fdCount.fdRaise h.updEnc

theorem Keeps.faultOf (h : s₀.Keeps s) {m n : Nat} : s₀.Keeps (s.faultOf m n) := h.upd.clockFault

theorem Keeps.lineFaults (h : s₀.Keeps s) {m : Nat} : s₀.Keeps (s.lineFaults m) := .foldl h fun _ _ h₁ => h₁.faultOf

theorem Keeps.execEncoderFaultFlag (h : s₀.Keeps s) {enc : Fin 8} {line : EncLine} {short : Bool} : s₀.Answers (execEncoderFaultFlag enc line short s) := by
  unfold Machine.execEncoderFaultFlag
  refine Keeps.next ?_
  refine .ite h ?_
  split
  · exact h.flagLine.lineFaults
  · exact h.flagLine.lineFaults
  · exact h.flagLine

theorem Keeps.execEncoderFlagClear (h : s₀.Keeps s) {enc : Fin 8} {line : EncLine} : s₀.Answers (execEncoderFlagClear enc line s) := h.updEnc.next

theorem Keeps.fieldWake (h : s₀.Keeps s) {src : Nat} : s₀.Keeps (s.fieldWake src) := .ite h.upd h

theorem Keeps.wakeTick (h : s₀.Keeps s) {n : Nat} : s₀.Keeps (s.wakeTick n) := .ite (.ite h.updClock.fieldWake h.updClock) h

theorem Keeps.markEdges (h : s₀.Keeps s) {k : Nat} {level : Bool} : s₀.Keeps (s.markEdges k level) := .foldl h fun _ _ h₁ => .ite h₁.wcApply h₁

theorem Keeps.forwardEye (h : s₀.Keeps s) {k : Nat} {level : Bool} : s₀.Keeps (s.forwardEye k level) := .ite h (.ite h.upd.fdCount h.upd)

theorem Keeps.execPeEdge (h : s₀.Keeps s) {input : Fin 16} {level : Bool} : s₀.Answers (execPeEdge input level s) :=
  Keeps.next (.ite h (Keeps.forwardEye (.ite h.upd.markEdges.fieldWake h.upd.markEdges)))

theorem Keeps.clockEdge (h : s₀.Keeps s) {m n : Nat} {st : ℤ} {glitch : Bool} : s₀.Keeps (s.clockEdge m n st glitch) :=
  .ite (.ite h.wcApply (.ite h.wcApply.wakeTick h.wcApply.wakeTick.rearmCues)) h

theorem Keeps.execQuadratureEdge (h : s₀.Keeps s) {enc : Fin 8} {a : Bool} {b : Bool} : s₀.Answers (execQuadratureEdge enc a b s) :=
  Keeps.next (.ite h (.foldl h.updEnc fun _ _ h₁ => h₁.clockEdge))

theorem Keeps.execZMarkerEdge (h : s₀.Keeps s) {enc : Fin 8} {level : Bool} : s₀.Answers (execZMarkerEdge enc level s) :=
  Keeps.next (.ite h (.ite h.updEnc (.ite h.updEnc.wcApply.fdCount.fdRaise h.updEnc.wcApply)))

theorem Keeps.execVelocityUpdate (h : s₀.Keeps s) {wc : Fin 8} : s₀.Answers (execVelocityUpdate wc s) := Keeps.next (.ite h.updClock h)

theorem Keeps.execStandstillTimeout (h : s₀.Keeps s) {wc : Fin 8} : s₀.Answers (execStandstillTimeout wc s) := Keeps.next (.ite h.wcApply h)

theorem Keeps.returnToPrimary (h : s₀.Keeps s) {n : Nat} : s₀.KeepsFst (s.returnToPrimary n) :=
  h.fieldWrite fun _ h₁ => .ite h₁.updClock.wcNote.pair h₁.pair

theorem Keeps.execReturnToPrimary (h : s₀.Keeps s) {wc : Fin 8} : s₀.Answers (execReturnToPrimary wc s) := (h.served h.returnToPrimary).next

theorem Keeps.acknowledgeLost (h : s₀.Keeps s) {n : Nat} : s₀.KeepsFst (s.acknowledgeLost n) :=
  h.fieldWrite fun _ h₁ => .ite h₁.updClock.wcNote.pair h₁.pair

theorem Keeps.execAcknowledgeLost (h : s₀.Keeps s) {wc : Fin 8} : s₀.Answers (execAcknowledgeLost wc s) := (h.served h.acknowledgeLost).next

theorem Keeps.execCanLineShort (h : s₀.Keeps s) {port : Fin 2} : s₀.Answers (execCanLineShort port s) :=
  Keeps.next (.ite h h.upd.fdCount.fdRaise.updPort)

theorem Keeps.execCanLineShortClear (h : s₀.Keeps s) {port : Fin 2} : s₀.Answers (execCanLineShortClear port s) := h.upd.next

theorem Keeps.execDominantCutoff (h : s₀.Keeps s) {port : Fin 2} : s₀.Answers (execDominantCutoff port s) := Keeps.next (.ite h.upd.fdCount h)

theorem Keeps.cutAllKicks (h : s₀.Keeps s) : s₀.Keeps s.cutAllKicks := .foldl h fun _ _ h₁ => h₁.cutKick

theorem Keeps.allTriggersOff (h : s₀.Keeps s) : s₀.Keeps s.allTriggersOff := h.upd

theorem Keeps.execFieldDieStart (h : s₀.Keeps s) : s₀.Answers (execFieldDieStart s) := Keeps.next (.ite h h.upd)

theorem Keeps.execVfieldUndervoltage (h : s₀.Keeps s) : s₀.Answers (execVfieldUndervoltage s) :=
  Keeps.next (.ite h h.cutAllKicks.allTriggersOff.upd.fdCount.fdRaise)

theorem Keeps.execVfieldUndervoltageRecover (h : s₀.Keeps s) : s₀.Answers (execVfieldUndervoltageRecover s) := h.upd.next

theorem Keeps.execVfieldOvervoltage (h : s₀.Keeps s) : s₀.Answers (execVfieldOvervoltage s) := Keeps.next (.ite h h.cutAllKicks.upd.fdCount.fdRaise)

theorem Keeps.execVfieldOvervoltageRecover (h : s₀.Keeps s) : s₀.Answers (execVfieldOvervoltageRecover s) := h.upd.next

theorem Keeps.fieldLost (h : s₀.Keeps s) : s₀.Keeps s.fieldLost := h.countN.upd

theorem Keeps.execFieldDieReset (h : s₀.Keeps s) : s₀.Answers (execFieldDieReset s) := Keeps.next (.ite h.fieldLost.upd h)

theorem Keeps.execVfieldReversed (h : s₀.Keeps s) : s₀.Answers (execVfieldReversed s) :=
  Keeps.next (.ite (Keeps.upd (.ite h.fieldLost h)) ((Keeps.upd (.ite h.fieldLost h)).raise))

theorem Keeps.putCue (h : s₀.Keeps s) {e : Nat} {c : CueEntry} : s₀.Keeps (s.putCue e c) := h.upd

theorem Keeps.cueReport (h : s₀.Keeps s) {e code : Nat} : s₀.Keeps (s.cueReport e code) := .ite h.sendCompute h

theorem Keeps.refuseCue (h : s₀.Keeps s) {e : Nat} {w : BitVec 128} {sub : Nat} : s₀.Keeps (s.refuseCue e w sub) :=
  Keeps.cueReport (.ite h.fdCount.fdRaise h.fdCount)

theorem Keeps.installCue (h : s₀.Keeps s) {e : Nat} {w : BitVec 128} : s₀.Keeps (s.installCue e w) := by
  unfold Machine.State.installCue
  split
  · exact h.refuseCue
  · exact h.putCue

theorem Keeps.decideGroup (h : s₀.Keeps s) {w : BitVec 128} : s₀.Keeps (s.decideGroup w) := .ite h.upd h.upd.fdCount

theorem Keeps.freeCue (h : s₀.Keeps s) {e : Nat} {crossed : Bool} : s₀.Keeps (s.freeCue e crossed) := h.putCue

theorem Keeps.crossTrigger (h : s₀.Keeps s) {e : Nat} : s₀.Keeps (s.crossTrigger e) :=
  ((Keeps.fdCount (.ite (Keeps.fireTrigger (.ite h.decideGroup h)) (.ite h.decideGroup h))).freeCue).cueReport

theorem Keeps.crossKick (h : s₀.Keeps s) {e : Nat} : s₀.Keeps (s.crossKick e) := (((Keeps.fdCount (.ite h.startKick h)).fdCount).freeCue).cueReport

theorem Keeps.crossCue (h : s₀.Keeps s) {e : Nat} : s₀.Keeps (s.crossCue e) := by
  unfold Machine.State.crossCue
  refine .ite h.crossTrigger ?_
  refine Keeps.crossKick ?_
  refine .ite ?_ h
  split
  · exact .ite h.crossTrigger h
  · exact h

theorem Keeps.execCueCrossing (h : s₀.Keeps s) {entry : Fin 8192} : s₀.Answers (execCueCrossing entry s) := Keeps.next (.ite h.crossCue h)

theorem Keeps.expireCue (h : s₀.Keeps s) {e : Nat} : s₀.Keeps (s.expireCue e) :=
  (Keeps.freeCue (.ite (.ite h.fdCount.fdCount.startKick h.fdCount.fdCount) h.fdCount)).cueReport

theorem Keeps.execCueExpiry (h : s₀.Keeps s) {entry : Fin 8192} : s₀.Answers (execCueExpiry entry s) :=
  Keeps.next (.ite h (.ite h.crossCue h.expireCue))

theorem Keeps.writeVerdict (h : s₀.Keeps s) {e v : Nat} : s₀.Keeps (s.writeVerdict e v) := .ite h.fdCount (.ite h.putCue (.ite h.fdCount h.fdCount))

theorem Keeps.unseenPending (h : s₀.Keeps s) : s₀.Keeps s.unseenPending := h.upd

theorem Keeps.applyDecode (h : s₀.Keeps s) {n v : Nat} : s₀.Keeps (s.applyDecode n v) := .ite h h.setField.updClock.upd

theorem Keeps.writeDecode (h : s₀.Keeps s) {n v : Nat} : s₀.KeepsFst (s.writeDecode n v) :=
  .ite h.pair (h.fieldWrite fun _ h₁ => .ite h₁.pair h₁.applyDecode.pair)

theorem Keeps.execDecodeWrite (h : s₀.Keeps s) {wc : Fin 8} {value : BitVec 8} : s₀.Answers (execDecodeWrite wc value s) :=
  (h.served h.writeDecode).next

theorem Keeps.applyLen (h : s₀.Keeps s) {n v : Nat} : s₀.Keeps (s.applyLen n v) := h.setField.updClock

theorem Keeps.writeLen (h : s₀.Keeps s) {n v : Nat} : s₀.KeepsFst (s.writeLen n v) :=
  .ite h.pair (.ite h.pair (h.fieldWrite fun _ h₁ => h₁.applyLen.pair))

theorem Keeps.execImpressionLenWrite (h : s₀.Keeps s) {wc : Fin 8} {value : BitVec 32} : s₀.Answers (execImpressionLenWrite wc value s) :=
  (h.served h.writeLen).next

theorem Keeps.markFollow (h : s₀.Keeps s) {n : Nat} : s₀.Keeps (s.markFollow n) := h.updClock

theorem Keeps.writeMarkCfg (h : s₀.Keeps s) {n : Nat} {what : MarkEntry} {v : Nat} : s₀.KeepsFst (s.writeMarkCfg n what v) := by
  unfold Machine.State.writeMarkCfg
  refine h.fieldWrite fun _ h₁ => ?_
  split
  · exact .ite h₁.pair (.ite h₁.pair ((Keeps.markFollow (.ite h₁.setField h₁.setField.updClock)).pair))
  · exact .ite h₁.pair h₁.setField.pair
  · exact .ite h₁.pair h₁.setField.pair

theorem Keeps.execMarkConfigWrite (h : s₀.Keeps s) {wc : Fin 8} {what : MarkEntry} {value : BitVec 32} : s₀.Answers (execMarkConfigWrite wc what value s) :=
  (h.served h.writeMarkCfg).next

theorem Keeps.canLost (h : s₀.Keeps s) : s₀.Keeps s.canLost := h.upd

theorem Keeps.computeLost (h : s₀.Keeps s) : s₀.Keeps s.computeLost := h.upd.upd.canLost.count.raise

theorem Keeps.fieldDeclaresLost (h : s₀.Keeps s) : s₀.Keeps s.fieldDeclaresLost := h.upd.unseenPending

theorem Keeps.takeReports (h : s₀.Keeps s) : s₀.Keeps s.takeReports := h.upd

theorem Keeps.execFieldSlotReceive (h : s₀.Keeps s) {pos : SlotPos} {crcOk : Bool} : s₀.Answers (execFieldSlotReceive pos crcOk s) :=
  Keeps.next (.ite h (.ite (.ite h.count.upd.raise h.count.upd) (.foldl h.upd.takeReports fun _ _ h₁ => .ite h₁ h₁.occur)))

theorem Keeps.execComputeSlotReceive (h : s₀.Keeps s) {time : BitVec 46} {crcOk : Bool} : s₀.Answers (execComputeSlotReceive time crcOk s) :=
  Keeps.next (.ite h (.ite h.fdCount h.upd))

theorem Keeps.enterOrderly (h : s₀.Keeps s) : s₀.Keeps s.enterOrderly := h.upd.unseenPending.canLost.count

theorem Keeps.execHeartbeatSend (h : s₀.Keeps s) {side : LinkSide} : s₀.Answers (execHeartbeatSend side s) := by
  unfold Machine.execHeartbeatSend
  refine Keeps.next ?_
  split
  · exact .ite h.upd.sendField h
  · exact .ite h (.ite h.enterOrderly h.sendCompute)

theorem Keeps.fieldTakes (h : s₀.Keeps s) {m : Msg} : s₀.Keeps (s.fieldTakes m) := h.upd

theorem Keeps.computeTakes (h : s₀.Keeps s) {m : Msg} : s₀.Keeps (s.computeTakes m) := h.upd

theorem Keeps.reportGathered (h : s₀.Keeps s) : s₀.Keeps s.reportGathered := h.upd

theorem Keeps.leaveAutonomy (h : s₀.Keeps s) : s₀.Keeps s.leaveAutonomy := h.upd.reportGathered.raise

theorem Keeps.execHeartbeatMiss (h : s₀.Keeps s) {side : LinkSide} : s₀.Answers (execHeartbeatMiss side s) := by
  unfold Machine.execHeartbeatMiss
  refine Keeps.next ?_
  split
  · exact .ite h (.ite h.count.computeLost h.count.upd)
  · exact .ite h (.ite h.fdCount.fieldDeclaresLost h.fdCount.upd)

theorem Keeps.execVerdict (h : s₀.Keeps s) {entry : Fin 8192} {verdict : Fin 4} : s₀.Answers (execVerdict entry verdict s) :=
  Keeps.next (.ite h.fieldTakes.writeVerdict h.fieldTakes)

theorem Keeps.execCuePart (h : s₀.Keeps s) {entry : Fin 8192} {part : Fin 4} {data : BitVec 32} : s₀.Answers (execCuePart entry part data s) :=
  Keeps.next (.ite h.fieldTakes (.ite h.fieldTakes.upd.installCue h.fieldTakes.upd))

theorem Keeps.execCuePartTimeout (h : s₀.Keeps s) {entry : Fin 8192} : s₀.Answers (execCuePartTimeout entry s) := Keeps.next (.ite h h.upd.fdCount)

theorem Keeps.applyField (h : s₀.Keeps s) {idx sub v : Nat} : s₀.Keeps (s.applyField idx sub v) :=
  .ite (.ite h.setField.markFollow (.ite h.applyDecode (.ite h.applyLen (.ite (Keeps.markFollow (.ite h.setField h.setField.updClock)) h.setField)))) (.ite h.applyKickEnable (.ite h.setField.upd h.setField))

theorem Keeps.execRegWrite (h : s₀.Keeps s) {reg : FieldReg} {data : BitVec 32} : s₀.Answers (execRegWrite reg data s) := by
  unfold Machine.execRegWrite
  refine Keeps.next ?_
  refine .ite h.fieldTakes ?_
  split
  · exact h.fieldTakes.upd
  · exact h.fieldTakes
  · exact h.fieldTakes.applyField
  · exact h.fieldTakes.upd

theorem Keeps.execRegRead (h : s₀.Keeps s) {reg : FieldReg} : s₀.Answers (execRegRead reg s) :=
  Keeps.next (.ite h.fieldTakes.sendCompute h.fieldTakes)

theorem Keeps.execCanTx (h : s₀.Keeps s) {port : Fin 2} {count : Fin 49} {data : BitVec 48} : s₀.Answers (execCanTx port count data s) :=
  Keeps.next (.ite h.upd h)

theorem Keeps.execSleep (h : s₀.Keeps s) {kind : Fin 3} : s₀.Answers (execSleep kind s) := Keeps.next (.ite h.fieldTakes.upd h.fieldTakes)

theorem Keeps.execRegData (h : s₀.Keeps s) {reg : FieldReg} {data : BitVec 32} : s₀.Answers (execRegData reg data s) := by
  unfold Machine.execRegData
  refine Keeps.next ?_
  refine .ite h.computeTakes ?_
  split
  · exact h.computeTakes.upd
  · exact h.computeTakes.upd
  · exact h.computeTakes.upd
  · exact h.computeTakes

theorem Keeps.execPeEdgeMessage (h : s₀.Keeps s) {input : Fin 16} {level : Bool} {us : BitVec 32} : s₀.Answers (execPeEdgeMessage input level us s) :=
  Keeps.next (.ite h.computeTakes (h.computeTakes.report fun _ h₁ => h₁.same))

theorem Keeps.execPinEvent (h : s₀.Keeps s) {code : BitVec 16} {unit : BitVec 8} {station : BitVec 8} {detail : BitVec 64} {counter : BitVec 24} {n : Nat} : s₀.Answers (execPinEvent code unit station detail counter n s) :=
  Keeps.next (.ite h (.ite (.ite h h.computeTakes.raise) ((Keeps.computeTakes (.ite h h.computeTakes.raise)).countN)))

theorem Keeps.execLinkRetrain (h : s₀.Keeps s) {lanes : BitVec 4} : s₀.Answers (execLinkRetrain lanes s) := Keeps.next (.ite h h.upd)

theorem Keeps.execLinkTrainTimeout (h : s₀.Keeps s) {lanes : BitVec 4} : s₀.Answers (execLinkTrainTimeout lanes s) := Keeps.next (.ite h h.upd.raise)

theorem Keeps.execXinFailure (h : s₀.Keeps s) : s₀.Answers (execXinFailure s) := h.upd.next

theorem Keeps.execXinReturn (h : s₀.Keeps s) : s₀.Answers (execXinReturn s) := h.upd.next

theorem Keeps.execRosterStall (h : s₀.Keeps s) : s₀.Answers (execRosterStall s) := Keeps.next (.ite h.upd h)

theorem Keeps.updChan (h : s₀.Keeps s) {c : Nat} {f : DsChan → DsChan} : s₀.Keeps (s.updChan c f) := h.updMem

theorem Keeps.writeBack (h : s₀.Keeps s) {line : Nat} : s₀.Keeps (s.writeBack line) := by
  unfold Machine.State.writeBack
  split
  · exact .ite h.count h
  · exact h

theorem Keeps.lookup (h : s₀.Keeps s) {st line victim : Nat} {wr : Bool} : s₀.Keeps (s.lookup st line victim wr) := by
  unfold Machine.State.lookup
  split
  · exact .ite h.updMem h
  · split
    · exact h
    · refine .ite h ?_
      refine Keeps.updMem ?_
      split
      · exact .ite h.writeBack h
      · exact h

theorem Keeps.poisonLine (h : s₀.Keeps s) {line : Nat} : s₀.Keeps (s.poisonLine line) := by
  unfold Machine.State.poisonLine
  split
  · exact h.updChan
  · exact .ite h.updMem h
  · exact h

theorem Keeps.setStation (h : s₀.Keeps s) {st : Nat} {x : StationState} : s₀.Keeps (s.setStation st x) := .ite h h.upd.occur

theorem Keeps.stopAdmission (h : s₀.Keeps s) {st : Nat} : s₀.Keeps (s.stopAdmission st) := .ite h.setNum.upd.setStation h.setNum.upd

theorem Keeps.barStation (h : s₀.Keeps s) {st : Nat} : s₀.Keeps (s.barStation st) := h.stopAdmission.upd

theorem Keeps.fence (h : s₀.Keeps s) {c : Nat} : s₀.Keeps (s.fence c) := .ite h ((Keeps.count (.foldl h.updChan fun _ _ h₁ => h₁.barStation)).raise)

theorem Keeps.dsUncorrectable (h : s₀.Keeps s) {c a : Nat} : s₀.Keeps (s.dsUncorrectable c a) :=
  .ite h.count.raise.updChan.fence h.count.raise.updChan

theorem Keeps.loseTags (h : s₀.Keeps s) {a : Nat} : s₀.Keeps (s.loseTags a) :=
  .foldl (.foldl h.count.raise.updMem fun _ _ h₁ => h₁.barStation) fun _ _ h₁ => (h₁.report fun _ h₂ => h₂.same).evaluate

theorem Keeps.transfer (h : s₀.Keeps s) {op : FabricOp} {a : Nat} : s₀.KeepsFst (s.transfer op a) := by
  unfold Machine.State.transfer
  split
  · exact h.pair
  · exact h.pair
  · exact h.poke.pair

theorem Keeps.poisonable (h : s₀.Keeps s) {op : FabricOp} {a : Nat} {poison : List Nat} {keep : List Nat → State → State} {poisoned : State → State} (hkeep : ∀ x s, s₀.Keeps s → s₀.Keeps (keep x s)) (hpoisoned : ∀ s, s₀.Keeps s → s₀.Keeps (poisoned s)) : s₀.KeepsFst (s.poisonable op a poison keep poisoned) := by
  unfold Machine.State.poisonable
  split
  · exact .ite h.pair (((hkeep _ _ h).poke).pair)
  · exact .ite h.transfer ((hpoisoned _ h).pair)

theorem Keeps.caseErrors (h : s₀.Keeps s) {a : Nat} {err : MemErr} : s₀.KeepsFst (s.caseErrors a err) := by
  unfold Machine.State.caseErrors
  split
  · exact h.count.pair
  · exact h.count.pair
  · exact h.loseTags.pair
  · extract_lets
    split
    · exact h.pair
    · exact .ite h.updMem.count.poisonLine.count.raise.pair h.updMem.count.pair
  · exact h.count.pair
  · exact h.count.pair
  · exact h.poisonLine.count.raise.pair
  · exact h.pair

theorem Keeps.dsAccess (h : s₀.Keeps s) {st c a : Nat} {op : FabricOp} {err : MemErr} {victim : Nat} : s₀.KeepsFst (s.dsAccess st c a op err victim) :=
  .ite h.pair (.ite h.caseErrors.fst.pair (.ite h.caseErrors.fst.lookup.dsUncorrectable.pair (Keeps.poisonable (.ite h.caseErrors.fst.lookup.count.updChan h.caseErrors.fst.lookup) (fun _ _ h₁ => h₁.updChan) fun _ h₁ => h₁.count)))

theorem Keeps.lpAccess (h : s₀.Keeps s) {st a : Nat} {op : FabricOp} {err : MemErr} {victim : Nat} : s₀.KeepsFst (s.lpAccess st a op err victim) :=
  .ite h.pair (.ite h.count.pair (.ite h.caseErrors.fst.pair (.ite h.caseErrors.fst.lookup.count.raise.pair (Keeps.poisonable (.ite h.caseErrors.fst.lookup.count (.ite h.caseErrors.fst.lookup.count h.caseErrors.fst.lookup)) (fun _ _ h₁ => h₁.updMem) fun _ h₁ => h₁.count))))

theorem Keeps.scratchAccess (h : s₀.Keeps s) {w a : Nat} {op : FabricOp} {err : MemErr} : s₀.KeepsFst (s.scratchAccess w a op err) := by
  unfold Machine.State.scratchAccess
  refine .ite h.count.pair ?_
  split
  · exact h.count.count.raise.pair
  · exact h.count.transfer
  · exact h.transfer

theorem Keeps.flashAccess (h : s₀.Keeps s) {a : Nat} {op : FabricOp} {err : MemErr} : s₀.KeepsFst (s.flashAccess a op err) := by
  unfold Machine.State.flashAccess
  refine .ite h.pair ?_
  split
  · exact h.count.raise.pair
  · exact h.count.transfer
  · exact h.transfer

theorem Keeps.tcmAccess (h : s₀.Keeps s) {a : Nat} {op : FabricOp} {err : MemErr} : s₀.KeepsFst (s.tcmAccess a op err) := by
  unfold Machine.State.tcmAccess
  split
  · exact h.count.raise.pair
  · exact h.count.transfer
  · exact h.transfer

theorem Keeps.memAccess (h : s₀.Keeps s) {st a : Nat} {op : FabricOp} {err : MemErr} {victim : Nat} : s₀.KeepsFst (s.memAccess st a op err victim) := by
  unfold Machine.State.memAccess
  split
  · exact h.flashAccess
  · exact h.tcmAccess
  · exact h.scratchAccess
  · exact h.dsAccess
  · exact h.lpAccess
  · exact h.pair

theorem Keeps.execCorrectedRewrite (h : s₀.Keeps s) {word : BitVec 37} : s₀.Answers (execCorrectedRewrite word s) := by
  unfold Machine.execCorrectedRewrite
  refine Keeps.next ?_
  split
  · exact h.updChan
  · exact h

theorem Keeps.execLpddr5xTrainingFailure (h : s₀.Keeps s) : s₀.Answers (execLpddr5xTrainingFailure s) := Keeps.next (.ite h h.updMem.count.raise)

theorem Keeps.updCore (h : s₀.Keeps s) {c : Nat} {f : NeuralCore → NeuralCore} : s₀.Keeps (s.updCore c f) := h.upd

theorem Keeps.violation (h : s₀.Keeps s) {req : Requester} {st : Nat} {cause : Nat} {a : Nat} {access : Nat} {size : Nat} {owner : Nat} {detail : Nat} : s₀.Keeps (s.violation req st cause a access size owner detail) := by
  unfold Machine.State.violation
  split
  exact (((((Keeps.upd (.ite h.count h)).count).count).count).occur).raiseSec

theorem Keeps.fabric (h : s₀.Keeps s) {req : Requester} {a : Nat} {op : FabricOp} {err : MemErr} {victim : Nat} {detail : Nat} : s₀.KeepsFst (s.fabric req a op err victim detail) := by
  unfold Machine.State.fabric
  extract_lets
  split
  · exact h.violation.pair
  · exact h.memAccess

theorem Keeps.readPieces (h : s₀.Keeps s) {req : Requester} {detail : Nat} {l : List (Nat × Nat)} : s₀.KeepsFst (s.readPieces req detail l) := by
  induction l generalizing s with
  | nil => exact h.pair
  | cons p l ih =>
    unfold Machine.State.readPieces
    split
    · next heq => exact (h.fabric.of_eq heq).pair
    · next heq =>
      have h₁ := h.fabric.of_eq heq
      split
      · next heq => exact ((ih h₁).of_eq heq).pair
      · next heq => exact ((ih h₁).of_eq heq).pair

theorem Keeps.writePieces (h : s₀.Keeps s) {req : Requester} {detail : Nat} {l : List (Nat × Nat)} {x : List Byte} :
    s₀.KeepsFst (s.writePieces req detail l x) := by
  induction l generalizing s x with
  | nil => exact h.pair
  | cons p l ih =>
    unfold Machine.State.writePieces
    split
    · next heq => exact (h.fabric.of_eq heq).pair
    · next heq => exact ih (h.fabric.of_eq heq)

theorem Keeps.beginCarve (h : s₀.Keeps s) {w : Nat} {goal : WayMode} : s₀.Keeps (s.beginCarve w goal) :=
  Keeps.updMem (.ite (.foldl h fun _ _ h₁ => h₁.writeBack) h)

theorem Keeps.carveWay (h : s₀.Keeps s) {w : Nat} : s₀.Keeps (s.carveWay w) := .ite h.beginCarve h

theorem Keeps.returnWay (h : s₀.Keeps s) {w : Nat} : s₀.Keeps (s.returnWay w) := .ite h.beginCarve h

theorem Keeps.setScratch (h : s₀.Keeps s) {st w : Nat} {on : Bool} : s₀.Keeps (s.setScratch st w on) := h.setNum

theorem Keeps.carveHalf (h : s₀.Keeps s) {req : Requester} {ways : Nat} {on : Bool} : s₀.Keeps (s.carveHalf req ways on) := by
  unfold Machine.State.carveHalf
  extract_lets
  split
  · exact h.violation.upd
  · exact Keeps.upd (.foldl h fun _ _ h₁ => .ite (Keeps.setScratch (.ite h₁.carveWay h₁.returnWay)) h₁)

theorem Keeps.execWayCarve (h : s₀.Keeps s) {req : Requester} {ways : BitVec 16} : s₀.Answers (execWayCarve req ways s) := h.carveHalf.next

theorem Keeps.execWayReturn (h : s₀.Keeps s) {req : Requester} {ways : BitVec 16} : s₀.Answers (execWayReturn req ways s) := h.carveHalf.next

theorem Keeps.wayDone (h : s₀.Keeps s) {w : Nat} {m : WayMode} : s₀.Keeps (s.wayDone w m) := h.wipe.updMem.count

theorem Keeps.endTransfer (h : s₀.Keeps s) {w : Nat} : s₀.Keeps (s.endTransfer w) := by
  unfold Machine.State.endTransfer
  split
  · exact h.wayDone
  · exact h.wayDone
  · exact h
  · exact h

theorem Keeps.execWayTransferComplete (h : s₀.Keeps s) {way : Fin 16} : s₀.Answers (execWayTransferComplete way s) := h.endTransfer.next

theorem Keeps.putQuoin (h : s₀.Keeps s) {q : Nat} {x : Quoin} : s₀.Keeps (s.putQuoin q x) := h.upd

theorem Keeps.notify (h : s₀.Keeps s) {st q : Nat} : s₀.Keeps (s.notify st q) := .ite h.upd.occur (.ite h.upd.count h.upd.count.raise)

theorem Keeps.answerParked (h : s₀.Keeps s) {q : Nat} : s₀.Keeps (s.answerParked q) := by
  unfold Machine.State.answerParked
  refine .foldl h.upd fun _ _ h₁ => ?_
  split
  · exact h₁.updCore
  · exact h₁

theorem Keeps.quoinUsable (h : s₀.Keeps s) {q : Nat} : s₀.KeepsFst (s.quoinUsable q) := .ite h.count.pair (.ite h.count.pair h.pair)

theorem Keeps.quoinGate (h : s₀.Keeps s) {req : Requester} {q : Nat} : s₀.KeepsFst (s.quoinGate req q) := .ite h.quoinUsable h.violation.pair

theorem Keeps.signal (h : s₀.Keeps s) {q n : Nat} : s₀.KeepsFst (s.signal q n) := by
  unfold Machine.State.signal
  split
  · rename_i heq
    have h₁ := h.quoinUsable.of_eq heq
    exact h₁.pair
  · rename_i heq
    have h₁ := h.quoinUsable.of_eq heq
    exact .ite h₁.putQuoin.count.raise.answerParked.pair ((Keeps.answerParked (.ite h₁.putQuoin.notify h₁.putQuoin)).pair)

theorem Keeps.signalBy (h : s₀.Keeps s) {req : Requester} {q : Nat} {n : Nat} : s₀.KeepsFst (s.signalBy req q n) := by
  unfold Machine.State.signalBy
  split
  · rename_i heq
    have h₁ := h.quoinGate.of_eq heq
    exact h₁.pair
  · rename_i heq
    have h₁ := h.quoinGate.of_eq heq
    exact h₁.signal

theorem Keeps.resetBy (h : s₀.Keeps s) {req : Requester} {q : Nat} {v : Nat} : s₀.KeepsFst (s.resetBy req q v) := by
  unfold Machine.State.resetBy
  split
  · rename_i heq
    have h₁ := h.quoinGate.of_eq heq
    exact h₁.pair
  · rename_i heq
    have h₁ := h.quoinGate.of_eq heq
    exact h₁.putQuoin.answerParked.pair

theorem Keeps.pollBy (h : s₀.Keeps s) {req : Requester} {q : Nat} {t : Nat} : s₀.KeepsFst (s.pollBy req q t) := by
  unfold Machine.State.pollBy
  split
  · rename_i heq
    have h₁ := h.quoinGate.of_eq heq
    exact h₁.pair
  · rename_i heq
    have h₁ := h.quoinGate.of_eq heq
    exact h₁.pair

theorem Keeps.waitBy (h : s₀.Keeps s) {req : Requester} {q : Nat} {t : Nat} : s₀.KeepsFst (s.waitBy req q t) := by
  unfold Machine.State.waitBy
  split
  · rename_i heq
    have h₁ := h.quoinGate.of_eq heq
    exact h₁.pair
  · rename_i heq
    have h₁ := h.quoinGate.of_eq heq
    exact .ite h₁.pair (.ite h₁.count.pair h₁.upd.pair)

theorem Keeps.qnResult (h : s₀.Keeps s) {req : Requester} {q : Nat} {r : QnStatus} : s₀.Keeps (s.qnResult req q r) := by
  unfold Machine.State.qnResult
  split
  · exact h.upd.upd
  · exact h.upd

theorem Keeps.putRing (h : s₀.Keeps s) {r : Nat} {d : Ring} : s₀.Keeps (s.putRing r d) := h.upd

theorem Keeps.ringGate (h : s₀.Keeps s) {req : Requester} {r : Nat} : s₀.KeepsFst (s.ringGate req r) :=
  .ite h.violation.pair (.ite h.count.pair (.ite h.count.pair h.pair))

theorem Keeps.claimOn (h : s₀.Keeps s) {req : Requester} {r : Nat} {n : Nat} {retry : Bool} : s₀.KeepsFst (s.claimOn req r n retry) := by
  unfold Machine.State.claimOn
  split
  · rename_i heq
    have h₁ := h.ringGate.of_eq heq
    exact h₁.pair
  · rename_i heq
    have h₁ := h.ringGate.of_eq heq
    exact .ite h₁.count.pair (.ite h₁.count.pair (.ite h₁.putRing.pair (.ite (Keeps.pair (.ite h₁ h₁.count)) (.ite h₁.countN.putRing.pair h₁.count.pair))))

theorem Keeps.ringWatch (h : s₀.Keeps s) {r : Nat} : s₀.Keeps (s.ringWatch r) := .foldl h fun _ _ h₁ => h₁.occur

theorem Keeps.commitOn (h : s₀.Keeps s) {req : Requester} {r : Nat} : s₀.KeepsFst (s.commitOn req r) := by
  unfold Machine.State.commitOn
  split
  · rename_i heq
    have h₁ := h.ringGate.of_eq heq
    exact h₁.pair
  · rename_i heq
    have h₁ := h.ringGate.of_eq heq
    extract_lets
    split
    · exact h₁.count.pair
    · exact .ite h₁.count.pair (Keeps.pair (.ite h₁.putRing.ringWatch.signal.fst h₁.putRing.ringWatch))

theorem Keeps.abandonOn (h : s₀.Keeps s) {req : Requester} {r : Nat} : s₀.KeepsFst (s.abandonOn req r) := by
  unfold Machine.State.abandonOn
  split
  · rename_i heq
    have h₁ := h.ringGate.of_eq heq
    exact h₁.pair
  · rename_i heq
    have h₁ := h.ringGate.of_eq heq
    exact .ite h₁.count.pair h₁.putRing.pair

theorem Keeps.releaseOn (h : s₀.Keeps s) {req : Requester} {r : Nat} {n : Nat} : s₀.KeepsFst (s.releaseOn req r n) := by
  unfold Machine.State.releaseOn
  split
  · rename_i heq
    have h₁ := h.ringGate.of_eq heq
    exact h₁.pair
  · rename_i heq
    have h₁ := h.ringGate.of_eq heq
    exact .ite h₁.count.pair (Keeps.pair (.ite h₁.putRing.signal.fst h₁.putRing))

theorem Keeps.rgResult (h : s₀.Keeps s) {req : Requester} {st : RgStatus} {value : Nat} : s₀.Keeps (s.rgResult req st value) := by
  unfold Machine.State.rgResult
  split
  · exact h.upd.upd
  · exact h.upd

theorem Keeps.putRecord (h : s₀.Keeps s) {req : Requester} {r : Nat} {x : List Byte} : s₀.KeepsFst (s.putRecord req r x) := by
  unfold Machine.State.putRecord
  split
  · rename_i heq
    have h₁ := h.claimOn.of_eq heq
    split
    · rename_i heq
      have h₂ := h₁.writePieces.of_eq heq
      exact h₂.commitOn
    · rename_i heq
      have h₂ := h₁.writePieces.of_eq heq
      exact h₂.abandonOn.fst.pair
  · rename_i heq
    have h₁ := h.claimOn.of_eq heq
    exact h₁.pair

theorem Keeps.execRingDescriptorWrite (h : s₀.Keeps s) {req : Requester} {ring : Fin 65536} {data : List Byte} : s₀.Answers (execRingDescriptorWrite req ring data s) :=
  Keeps.next (.ite h.violation.upd (.ite h.putRing.upd h.count.upd))

theorem Keeps.setPhc (h : s₀.Keeps s) {ns : Nat} : s₀.Keeps (s.setPhc ns) := h.upd.raise

theorem Keeps.setPhcAdj (h : s₀.Keeps s) {v : ℤ} : s₀.Keeps (s.setPhcAdj v) := h.upd

theorem Keeps.execPhcSet (h : s₀.Keeps s) {seconds : BitVec 48} {nanos : BitVec 32} : s₀.Answers (execPhcSet seconds nanos s) := h.setPhc.next

theorem Keeps.execPpsEdge (h : s₀.Keeps s) : s₀.Answers (execPpsEdge s) := Keeps.next (.ite h h.upd.occur)

theorem Keeps.updMac (h : s₀.Keeps s) {m : Nat} {f : Mac → Mac} : s₀.Keeps (s.updMac m f) := h.upd

theorem Keeps.rxDrop (h : s₀.Keeps s) {m : Nat} : s₀.Keeps (s.rxDrop m) := h.count.raiseSec

theorem Keeps.rxStore (h : s₀.Keeps s) {m : Fin 2} {f : List Byte} : s₀.Keeps (s.rxStore m f) := by
  unfold Machine.State.rxStore
  extract_lets
  split
  · exact h.rxDrop
  · split
    · rename_i heq
      have h₁ := h.putRecord.of_eq heq
      exact h₁.occur
    · rename_i heq
      have h₁ := h.putRecord.of_eq heq
      exact h₁.rxDrop
    · rename_i heq
      have h₁ := h.putRecord.of_eq heq
      exact h₁.rxDrop
    · rename_i heq
      have h₁ := h.putRecord.of_eq heq
      exact h₁
    · rename_i heq
      have h₁ := h.putRecord.of_eq heq
      exact h₁
    · rename_i heq
      have h₁ := h.putRecord.of_eq heq
      exact h₁

theorem Keeps.execEthFrameReceive (h : s₀.Keeps s) {mac : Fin 2} {frame : List Byte} {fcsOk : Bool} : s₀.Answers (execEthFrameReceive mac frame fcsOk s) :=
  Keeps.next (.ite h (.ite h.count (.ite h.count h.count.rxStore)))

theorem Keeps.returnStamp (h : s₀.Keeps s) {m : Fin 2} {tag : Nat} {ns : Nat} : s₀.Keeps (s.returnStamp m tag ns) := by
  unfold Machine.State.returnStamp
  refine .ite h.count ?_
  split
  · rename_i heq
    have h₁ := h.putRecord.of_eq heq
    exact h₁.occur
  · rename_i heq
    have h₁ := h.putRecord.of_eq heq
    exact h₁.count

theorem Keeps.execEthFrameTransmit (h : s₀.Keeps s) {mac : Fin 2} {queue : Fin 4} : s₀.Answers (execEthFrameTransmit mac queue s) := by
  unfold Machine.execEthFrameTransmit
  refine Keeps.next ?_
  refine .ite h ?_
  split
  · rename_i heq
    have h₁ := h.readPieces.of_eq heq
    exact h₁
  · rename_i heq
    have h₁ := h.readPieces.of_eq heq
    refine .ite h₁ ?_
    split
    · rename_i heq
      have h₂ := h₁.readPieces.of_eq heq
      exact h₂.releaseOn.fst
    · rename_i heq
      have h₂ := h₁.readPieces.of_eq heq
      exact .ite h₂.updMac.count.releaseOn.fst.occur.returnStamp h₂.updMac.count.releaseOn.fst.occur

theorem Keeps.execEthLinkChange (h : s₀.Keeps s) {mac : Fin 2} {code : Fin 5} : s₀.Answers (execEthLinkChange mac code s) :=
  Keeps.next (.ite h h.updMac.count.raise)

theorem Keeps.codecResult (h : s₀.Keeps s) {req : Requester} {st : Nat} {code : Nat} : s₀.Keeps (s.codecResult req st code) := by
  unfold Machine.State.codecResult
  split
  · exact h.upd
  · exact h

theorem Keeps.execCodecSubmit (h : s₀.Keeps s) {req : Requester} {addr : BitVec 40} : s₀.Answers (execCodecSubmit req addr s) := by
  unfold Machine.execCodecSubmit
  refine Keeps.next ?_
  refine .dite (fun _ => ?_) fun _ => h
  refine .ite h.codecResult ?_
  split
  · rename_i heq
    have h₁ := h.fabric.of_eq heq
    exact h₁.codecResult
  · rename_i heq
    have h₁ := h.fabric.of_eq heq
    exact .ite h₁.codecResult (.ite h₁.count.codecResult h₁.upd.codecResult)

theorem Keeps.execCodecJobStart (h : s₀.Keeps s) {engine : Fin 3} : s₀.Answers (execCodecJobStart engine s) := by
  unfold Machine.execCodecJobStart
  refine Keeps.next ?_
  refine .ite h ?_
  split
  · exact h
  · exact h.upd

theorem Keeps.readRecord (h : s₀.Keeps s) {req : Requester} {ring : Nat} {start : Nat} : s₀.KeepsFst (s.readRecord req ring start) := by
  unfold Machine.State.readRecord
  split
  · rename_i heq
    have h₁ := h.readPieces.of_eq heq
    exact h₁.pair
  · rename_i heq
    have h₁ := h.readPieces.of_eq heq
    split
    · rename_i heq
      have h₂ := h₁.readPieces.of_eq heq
      exact h₂.pair
    · rename_i heq
      have h₂ := h₁.readPieces.of_eq heq
      exact h₂.pair

theorem Keeps.readSource (h : s₀.Keeps s) {req : Requester} {j : CodecJob} : s₀.KeepsFst (s.readSource req j) := by
  unfold Machine.State.readSource
  extract_lets src
  split
  next s₁ e heq =>
  have h₁ : s₀.Keeps s₁ := by
    refine KeepsFst.of_eq (.ite h.readRecord ?_) heq
    split
    · next heq => exact (h.fabric.of_eq heq).pair
    · next heq => exact (h.fabric.of_eq heq).pair
  split
  · exact h₁.pair
  · refine .ite ?_ h₁.pair
    split
    · next heq => exact (h₁.fabric.of_eq heq).pair
    · next heq => exact (h₁.fabric.of_eq heq).pair

theorem Keeps.writeOut (h : s₀.Keeps s) {req : Requester} {j : CodecJob} {start : Nat} {stream : List Byte} {refOut : List Byte} : s₀.KeepsFst (s.writeOut req j start stream refOut) := by
  unfold Machine.State.writeOut
  extract_lets
  split
  · rename_i heq
    have h₁ := h.writePieces.of_eq heq
    exact h₁.abandonOn.fst.pair
  · rename_i heq
    have h₁ := h.writePieces.of_eq heq
    refine .ite ?_ h₁.commitOn.fst.pair
    split
    · rename_i heq
      have h₂ := h₁.commitOn.fst.fabric.of_eq heq
      exact h₂.pair
    · rename_i heq
      have h₂ := h₁.commitOn.fst.fabric.of_eq heq
      exact h₂.pair

theorem Keeps.encodeJob (h : s₀.Keeps s) {req : Requester} {j : CodecJob} {stream : List Byte} {refOut : List Byte} : s₀.KeepsFst (s.encodeJob req j stream refOut) := by
  unfold Machine.State.encodeJob
  split
  · rename_i heq
    have h₁ := h.claimOn.of_eq heq
    split
    · rename_i heq
      have h₂ := h₁.readSource.of_eq heq
      exact h₂.abandonOn.fst.pair
    · rename_i heq
      have h₂ := h₁.readSource.of_eq heq
      exact h₂.writeOut
  · rename_i heq
    have h₁ := h.claimOn.of_eq heq
    exact h₁.pair
  · rename_i heq
    have h₁ := h.claimOn.of_eq heq
    exact h₁.pair
  · rename_i heq
    have h₁ := h.claimOn.of_eq heq
    exact h₁.pair
  · rename_i heq
    have h₁ := h.claimOn.of_eq heq
    exact h₁.pair
  · rename_i heq
    have h₁ := h.claimOn.of_eq heq
    exact h₁.pair

theorem Keeps.decodeJob (h : s₀.Keeps s) {req : Requester} {j : CodecJob} {pic : List Byte} {refOut : List Byte} {bad : Bool} : s₀.KeepsFst (s.decodeJob req j pic refOut bad) := by
  unfold Machine.State.decodeJob
  split
  · rename_i heq
    have h₁ := h.fabric.of_eq heq
    exact h₁.pair
  · rename_i heq
    have h₁ := h.fabric.of_eq heq
    refine .ite h₁.pair ?_
    split
    · rename_i heq
      have h₂ := h₁.fabric.of_eq heq
      exact h₂.pair
    · rename_i heq
      have h₂ := h₁.fabric.of_eq heq
      refine .ite h₂.pair ?_
      split
      · rename_i heq
        have h₃ := h₂.fabric.of_eq heq
        exact h₃.pair
      · rename_i heq
        have h₃ := h₂.fabric.of_eq heq
        exact h₃.pair

theorem Keeps.countJob (h : s₀.Keeps s) {e : JobStatus} : s₀.Keeps (s.countJob e) := by
  unfold Machine.State.countJob
  split
  · exact h.count
  · exact h.count.count.raiseSec
  · exact h.count.count.raiseSec
  · exact h.count.raiseSec
  · exact h.count.raiseSec
  · exact h.count.raiseSec
  · exact h.count.raiseSec

theorem Keeps.finishCodecJob (h : s₀.Keeps s) {req : Requester} {j : CodecJob} {e : JobEnd} {frameType : Nat} : s₀.Keeps (s.finishCodecJob req j e frameType) := by
  unfold Machine.State.finishCodecJob
  refine .ite ?_ ?_
  · refine KeepsFst.fst ?_
    refine Keeps.signalBy ?_
    split
    · rename_i heq
      have h₁ := h.fabric.of_eq heq
      exact h₁.countJob
    · rename_i heq
      have h₁ := h.fabric.of_eq heq
      exact h₁.countJob.occur
  · split
    · rename_i heq
      have h₁ := h.fabric.of_eq heq
      exact h₁.countJob
    · rename_i heq
      have h₁ := h.fabric.of_eq heq
      exact h₁.countJob.occur

theorem Keeps.execCodecJobComplete (h : s₀.Keeps s) {engine : Fin 3} {output : List Byte} {refOut : List Byte} {frameType : Fin 3} {badStream : Bool} : s₀.Answers (execCodecJobComplete engine output refOut frameType badStream s) := by
  unfold Machine.execCodecJobComplete
  refine Keeps.next ?_
  refine .ite h ?_
  split
  · exact h
  · exact .dite (fun _ => (KeepsFst.fst (.ite h.upd.encodeJob h.upd.decodeJob)).finishCodecJob) fun _ => h.upd

theorem Keeps.updFunc (h : s₀.Keeps s) {f : Nat} {g : Pf → Pf} : s₀.Keeps (s.updFunc f g) := h.upd

theorem Keeps.outboundError (h : s₀.Keeps s) : s₀.Keeps s.outboundError := h.count.raiseSec

theorem Keeps.outRead (h : s₀.Keeps s) {req : Requester} {f : Nat} {a : Nat} {pci : Nat} {n : Nat} {op : FabricOp} : s₀.KeepsFst (s.outRead req f a pci n op) := by
  unfold Machine.State.outRead
  split
  · exact h.upd.pair
  · exact h.updMem.pair

theorem Keeps.outAccess (h : s₀.Keeps s) {req : Requester} {f : Nat} {a : Nat} {op : FabricOp} : s₀.KeepsFst (s.outAccess req f a op) := by
  unfold Machine.State.outAccess
  refine .ite h.outboundError.pair ?_
  split
  · exact h.pair
  · exact h.outRead
  · exact h.outRead

theorem Keeps.sendWaiting (h : s₀.Keeps s) : s₀.Keeps s.sendWaiting := .foldl h.updMem fun _ _ h₁ => h₁.outAccess.fst

theorem Keeps.dropOutbound (h : s₀.Keeps s) {o : Outbound} : s₀.Keeps (s.dropOutbound o) := h.upd

theorem Keeps.execOutboundCompletion (h : s₀.Keeps s) {tag : Fin 1024} {status : Completion} {data : List Byte} : s₀.Answers (execOutboundCompletion tag status data s) := by
  unfold Machine.execOutboundCompletion
  refine Keeps.next ?_
  split
  · exact h
  · refine Keeps.sendWaiting ?_
    split
    · exact h.dropOutbound.upd
    · exact h.dropOutbound.count.outboundError.upd
    · exact h.dropOutbound.outboundError.upd

theorem Keeps.execOutboundCompletionTimeout (h : s₀.Keeps s) {tag : Fin 1024} : s₀.Answers (execOutboundCompletionTimeout tag s) := by
  unfold Machine.execOutboundCompletionTimeout
  refine Keeps.next ?_
  split
  · exact h
  · exact h.dropOutbound.outboundError.upd.sendWaiting

theorem Keeps.endOutbound (h : s₀.Keeps s) {f : Nat} : s₀.Keeps (s.endOutbound f) := .ite h h.upd

theorem Keeps.failOutbound (h : s₀.Keeps s) : s₀.Keeps s.failOutbound := .foldl h fun _ _ h₁ => h₁.dropOutbound.outboundError.upd

theorem Keeps.resetFunc (h : s₀.Keeps s) {f : Nat} : s₀.Keeps (s.resetFunc f) := .ite h.endOutbound.updFunc.upd.upd h.endOutbound.updFunc.upd

theorem Keeps.execFunctionLevelReset (h : s₀.Keeps s) {fn : Fin 32} : s₀.Answers (execFunctionLevelReset fn s) :=
  Keeps.next (.ite h h.resetFunc.count.raise)

theorem Keeps.execPerstNReset (h : s₀.Keeps s) : s₀.Answers (execPerstNReset s) :=
  Keeps.next (.ite h ((Keeps.count (.foldl h fun _ _ h₁ => h₁.resetFunc)).raise))

theorem Keeps.execPcieLinkDown (h : s₀.Keeps s) : s₀.Answers (execPcieLinkDown s) := Keeps.next (.ite h h.upd.failOutbound.sendWaiting.count.raise)

theorem Keeps.execPcieLinkUp (h : s₀.Keeps s) {width : Fin 3} {gen : Fin 4} : s₀.Answers (execPcieLinkUp width gen s) :=
  Keeps.next (.ite h h.upd.raise)

theorem Keeps.writeHpCtrl (h : s₀.Keeps s) {v : Nat} : s₀.Keeps (s.writeHpCtrl v) := h.upd

theorem Keeps.execCfgReady (h : s₀.Keeps s) {value : BitVec 32} : s₀.Answers (execCfgReady value s) := h.writeHpCtrl.next

theorem Keeps.execCfgReadyTimeout (h : s₀.Keeps s) : s₀.Answers (execCfgReadyTimeout s) := h.upd.next

theorem Keeps.configure (h : s₀.Keeps s) {f : Nat} {x : CfgOp} : s₀.Keeps (s.configure f x) := by
  unfold Machine.State.configure
  split
  · exact h.upd
  · exact .ite h h.upd
  · exact h.updFunc
  · exact h.updFunc
  · exact h.updFunc
  · exact h.updFunc
  · exact h.updFunc

theorem Keeps.execPcieConfigRequest (h : s₀.Keeps s) {fn : Fin 32} {op : CfgOp} : s₀.Answers (execPcieConfigRequest fn op s) :=
  Keeps.next (.ite h (.ite h.upd h.upd.configure))

theorem Keeps.wakeHart (h : s₀.Keeps s) {h' : Nat} : s₀.Keeps (s.wakeHart h') := h.upd

theorem Keeps.execHartTimerInterrupt (h : s₀.Keeps s) {hart : Fin 4} : s₀.Answers (execHartTimerInterrupt hart s) := Keeps.next (.ite h.wakeHart h)

theorem Keeps.updChain (h : s₀.Keeps s) {st : Nat} {f : Chain → Chain} : s₀.Keeps (s.updChain st f) := h.upd

theorem Keeps.takeVariant (h : s₀.Keeps s) {st : Nat} : s₀.Keeps (s.takeVariant st) := h.updChain

theorem Keeps.execAccelerationCheck (h : s₀.Keeps s) {wc : Fin 8} : s₀.Answers (execAccelerationCheck wc s) :=
  Keeps.next (.ite ((Keeps.fdCount (.ite h.updClock h)).fdRaiseImp) (.ite h.updClock h))

theorem Keeps.loadSpacing (h : s₀.Keeps s) {st : Nat} : s₀.Keeps (s.loadSpacing st) := .ite h.sendField.updChain h.updChain

theorem Keeps.loadSpacings (h : s₀.Keeps s) {w : Nat} : s₀.Keeps (s.loadSpacings w) := .foldl h fun _ _ h₁ => h₁.loadSpacing

theorem Keeps.publish (h : s₀.Keeps s) {w v why : Nat} : s₀.Keeps (s.publish w v why) := h.upd.loadSpacings

theorem Keeps.recomputeOne (h : s₀.Keeps s) {w : Nat} : s₀.Keeps (s.recomputeOne w) := by
  unfold Machine.State.recomputeOne
  split
  exact .ite (.ite h.publish h.publish.raise) (.ite h.upd (.ite h h.upd))

theorem Keeps.execCeilingRecompute (h : s₀.Keeps s) : s₀.Answers (execCeilingRecompute s) :=
  Keeps.next (.ite (.foldl h fun _ _ h₁ => h₁.recomputeOne) h)

theorem Keeps.execCeilingRaisePublish (h : s₀.Keeps s) {wc : Fin 8} : s₀.Answers (execCeilingRaisePublish wc s) := by
  unfold Machine.execCeilingRaisePublish
  refine Keeps.next ?_
  split
  · exact h
  · refine .ite ?_ h
    split
    exact h.publish

theorem Keeps.updCueUse (h : s₀.Keeps s) {e : Nat} {f : CueUse → CueUse} : s₀.Keeps (s.updCueUse e f) := h.upd

theorem Keeps.sendVerdict (h : s₀.Keeps s) {cue : Nat} {v : Verdict} : s₀.Keeps (s.sendVerdict cue v) := .ite h.sendField h

theorem Keeps.releaseRec (h : s₀.Keeps s) {st ring len : Nat} : s₀.Keeps (s.releaseRec st ring len) := .dite (fun _ => h.releaseOn.fst) fun _ => h

theorem Keeps.drainRing (h : s₀.Keeps s) {st ring fuel : Nat} : s₀.Keeps (s.drainRing st ring fuel) := by
  induction fuel generalizing s with
  | zero => exact h
  | succ fuel ih =>
    unfold Machine.State.drainRing
    split
    · exact h
    · exact .ite h (ih h.upd.releaseRec)

theorem Keeps.closeRecs (h : s₀.Keeps s) {st e : Nat} : s₀.Keeps (s.closeRecs st e) := .foldl h.upd fun _ _ h₁ => h₁.drainRing

theorem Keeps.updSeq (h : s₀.Keeps s) {e : Nat} {f : SeqEntry → SeqEntry} : s₀.Keeps (s.updSeq e f) := h.upd

theorem Keeps.reportEnd (h : s₀.Keeps s) {q : SeqEntry} {x : SeqEnd} : s₀.Keeps (s.reportEnd q x) := by
  unfold Machine.State.reportEnd
  split
  · exact h.count.sendVerdict
  · exact h.sendVerdict.count.raise
  · exact h.sendVerdict.count.raiseSec
  · exact h.count.raiseSec
  · exact h.sendVerdict.count
  · exact h.sendVerdict.count
  · exact h.sendVerdict
  · exact h.sendVerdict.count
  · exact h

theorem Keeps.settleStation (h : s₀.Keeps s) {st : Nat} : s₀.Keeps (s.settleStation st) := .ite h.setStation h

theorem Keeps.endSeq (h : s₀.Keeps s) {e : Nat} {why : SeqEnd} : s₀.Keeps (s.endSeq e why) := .ite h h.reportEnd.upd.closeRecs.settleStation

theorem Keeps.sendCue (h : s₀.Keeps s) {e : Nat} {c : NewCue} : s₀.Keeps (s.sendCue e c) := .foldl h.upd fun _ _ h₁ => h₁.sendField

theorem Keeps.installGroup (h : s₀.Keeps s) {st imp : Nat} : s₀.Keeps (s.installGroup st imp) :=
  .ite h (Keeps.updChain (.foldl h fun _ _ h₁ => h₁.sendCue))

theorem Keeps.startChain (h : s₀.Keeps s) {st : Nat} : s₀.Keeps (s.startChain st) := by
  unfold Machine.State.startChain
  refine .ite h.updChain ?_
  extract_lets
  split
  · exact .ite h.updChain h.updChain.loadSpacing
  · exact Keeps.installGroup (.ite h.updChain h.updChain.loadSpacing)

theorem Keeps.nextGroup (h : s₀.Keeps s) {st imp : Nat} : s₀.Keeps (s.nextGroup st imp) := .ite h.installGroup h.updChain

theorem Keeps.applyVariant (h : s₀.Keeps s) {st : Nat} : s₀.Keeps (s.applyVariant st) := by
  unfold Machine.State.applyVariant
  split
  · exact h
  · exact .ite h.updChain h

theorem Keeps.switchVariant (h : s₀.Keeps s) {st : Nat} : s₀.Keeps (s.switchVariant st) := by
  unfold Machine.State.switchVariant
  split
  · exact h
  · exact .ite h (.ite h.updChain.count.raise (.ite h.updChain (.ite h.updChain.count.raise h.updChain)))

theorem Keeps.unseenWindow (h : s₀.Keeps s) {st imp window : Nat} : s₀.Keeps (s.unseenWindow st imp window) := by
  unfold Machine.State.unseenWindow
  split
  · exact h.sendVerdict
  · exact h

theorem Keeps.updIntake (h : s₀.Keeps s) {n : Nat} {f : Channel → Channel} : s₀.Keeps (s.updIntake n f) := h.upd

theorem Keeps.updPipe (h : s₀.Keeps s) {n : Nat} {f : Pipeline → Pipeline} : s₀.Keeps (s.updPipe n f) := h.upd

theorem Keeps.applySet (h : s₀.Keeps s) {n : Nat} : s₀.KeepsFst (s.applySet n) := by
  unfold Machine.State.applySet
  extract_lets
  split
  · exact h.raise.pair
  · exact h.updPipe.pair

theorem Keeps.execPipelineApply (h : s₀.Keeps s) {ch : Fin 16} : s₀.Answers (execPipelineApply ch s) := (h.served h.applySet).next

theorem Keeps.takeSet (h : s₀.Keeps s) {n : Nat} : s₀.Keeps (s.takeSet n) := by
  unfold Machine.State.takeSet
  split
  · exact h
  · exact h.updPipe.count

theorem Keeps.readRef (h : s₀.Keeps s) {n y : Nat} : s₀.KeepsFst (s.readRef n y) := by
  induction y with
  | zero => exact h.pair
  | succ y ih =>
    unfold Machine.State.readRef
    dsimp only
    split
    · next heq => exact (ih.fst.fabric.of_eq heq).pair
    · next heq => exact (ih.fst.fabric.of_eq heq).pair

theorem Keeps.writeRef (h : s₀.Keeps s) {n : Nat} {m : Plane} : s₀.Keeps (s.writeRef n m) := .foldl h fun _ _ h₁ => h₁.fabric.fst

theorem Keeps.missRef (h : s₀.Keeps s) {n : Nat} {missed : Bool} : s₀.Keeps (s.missRef n missed) := .ite h h.count

theorem Keeps.stage1 (h : s₀.Keeps s) {n : Nat} {f : FrameIn} : s₀.KeepsFst (s.stage1 n f) :=
  .ite h.pair (.ite ((Keeps.writeRef (.ite (((KeepsFst.fst (.ite h.pair h.readRef)).missRef).raiseSec) (KeepsFst.fst (.ite h.pair h.readRef)))).pair) h.pair)

theorem Keeps.develop (h : s₀.Keeps s) {n : Nat} {f : FrameIn} : s₀.KeepsFst (s.develop n f) := .ite h.stage1.fst.upd.pair h.pair

theorem Keeps.writeWindows (h : s₀.Keeps s) {n : Nat} {x : Expect} {code : Nat} {p : Rgbx} {l : List WinClaim} :
    s₀.KeepsFst (s.writeWindows n x code p l) := by
  induction l generalizing s with
  | nil => exact h.pair
  | cons k l ih =>
    unfold Machine.State.writeWindows
    dsimp only
    split
    · next heq => exact ih (h.writePieces.of_eq heq)
    · next heq => exact (h.writePieces.of_eq heq).pair

theorem Keeps.releaseWindow (h : s₀.Keeps s) {n : Nat} {x : Expect} {k : WinClaim} : s₀.Keeps (s.releaseWindow n x k) := by
  unfold Machine.State.releaseWindow
  extract_lets
  split
  · rename_i heq
    have h₁ := h.commitOn.of_eq heq
    exact .ite h₁.updPipe h₁.updPipe.upd
  · rename_i heq
    have h₁ := h.commitOn.of_eq heq
    exact h₁

theorem Keeps.abandonClaims (h : s₀.Keeps s) {n : Nat} {cs : List WinClaim} : s₀.Keeps (s.abandonClaims n cs) :=
  .foldl h fun _ _ h₁ => h₁.abandonOn.fst

theorem Keeps.putResults (h : s₀.Keeps s) {n code : Nat} {x : Expect} {rs : List PatchResult} : s₀.Keeps (s.putResults n code x rs) := by
  unfold Machine.State.putResults
  refine .ite ?_ h
  split
  · rename_i heq
    have h₁ := h.putRecord.of_eq heq
    exact h₁.occur
  · rename_i heq
    have h₁ := h.putRecord.of_eq heq
    exact h₁.count.raiseSec

theorem Keeps.judge (h : s₀.Keeps s) {n code : Nat} {x : Expect} {lin : Rgbx} : s₀.Keeps (s.judge n code x lin) :=
  .ite h (((Keeps.updPipe (.foldl h.upd fun _ _ h₁ => .ite h₁ h₁.count)).putResults).updIntake)

theorem Keeps.processFrame (h : s₀.Keeps s) {n code : Nat} {x : Expect} {f : FrameIn} : s₀.KeepsFst (s.processFrame n code x f) := by
  unfold Machine.State.processFrame
  dsimp only
  split
  · rename_i heq
    have h₁ := h.develop.fst.writeWindows.of_eq heq
    exact h₁.pair
  · rename_i heq
    have h₁ := h.develop.fst.writeWindows.of_eq heq
    exact ((Keeps.count (.foldl h₁.updPipe fun _ _ h₂ => h₂.releaseWindow)).judge).pair

theorem Keeps.claimWindows (h : s₀.Keeps s) {n k : Nat} {f : FrameIn} : s₀.KeepsFst (s.claimWindows n k f) := by
  unfold Machine.State.claimWindows
  refine .foldl h.pair fun _ _ h₁ => ?_
  refine .ite ?_ h₁
  split
  · rename_i heq
    have h₂ := h₁.fst.claimOn.of_eq heq
    exact h₂.pair
  · rename_i heq
    have h₂ := h₁.fst.claimOn.of_eq heq
    exact h₂.pair

theorem Keeps.execPatchVerdict (h : s₀.Keeps s) {ch : Fin 16} : s₀.Answers (execPatchVerdict ch s) := by
  unfold Machine.execPatchVerdict
  refine Keeps.next ?_
  refine .foldl h.updIntake fun _ _ h₁ => ?_
  split
  · exact h₁.sendVerdict
  · exact .ite h₁.count h₁

theorem Keeps.writeRecord (h : s₀.Keeps s) {n : Nat} {rec : List Byte} : s₀.Keeps (s.writeRecord n rec) := by
  unfold Machine.State.writeRecord
  refine .ite h.count ?_
  split
  · rename_i heq
    have h₁ := h.putRecord.of_eq heq
    exact h₁.occur
  · rename_i heq
    have h₁ := h.putRecord.of_eq heq
    exact h₁.count

theorem Keeps.unseenFrame (h : s₀.Keeps s) {n : Nat} {e : Option Expect} : s₀.Keeps (s.unseenFrame n e) := by
  unfold Machine.State.unseenFrame
  split
  · exact h
  · exact .ite h (.foldl h fun _ _ h₁ => h₁.unseenWindow)

theorem Keeps.silentRun (h : s₀.Keeps s) {n : Nat} {status : FrameStatus} {e : Option Expect} : s₀.Keeps (s.silentRun n status e) :=
  .ite h.updIntake (.ite h (.ite (.ite h.updIntake.updIntake.raise h.updIntake) h.updIntake))

theorem Keeps.closure (h : s₀.Keeps s) {n : Nat} {status : FrameStatus} {sub : Nat} {slot : Nat} {fsTime : Nat} {lines : Nat} {e : Option Expect} : s₀.Keeps (s.closure n status sub slot fsTime lines e) :=
  Keeps.silentRun (.ite ((Keeps.updIntake (.ite h h.count)).writeRecord) ((((Keeps.updIntake (.ite h h.count)).writeRecord).unseenFrame).updPipe))

theorem Keeps.closeFrameAs (h : s₀.Keeps s) {n : Nat} {status : FrameStatus} {sub : Nat} {vc : Nat} : s₀.Keeps (s.closeFrameAs n status sub vc) := by
  unfold Machine.State.closeFrameAs
  split
  · exact h
  · exact Keeps.closure (.ite h.updIntake h.updIntake.abandonClaims.updPipe)

theorem Keeps.closeFrame (h : s₀.Keeps s) {n : Nat} {status : FrameStatus} {vc : Nat} : s₀.Keeps (s.closeFrame n status vc) := h.closeFrameAs

theorem Keeps.closeExp (h : s₀.Keeps s) {n k : Nat} {early : FrameStatus} {late : FrameStatus} {sub : Nat} : s₀.Keeps (s.closeExp n k early late sub) := by
  unfold Machine.State.closeExp
  split
  · exact h
  · exact .ite h.closeFrameAs h.updIntake.closure

theorem Keeps.closeAll (h : s₀.Keeps s) {n : Nat} {status : FrameStatus} : s₀.Keeps (s.closeAll n status) :=
  .foldl h.closeFrame fun _ _ h₁ => h₁.closeExp

theorem Keeps.openExpect (h : s₀.Keeps s) {n : Nat} {e : Expect} : s₀.Keeps (s.openExpect n e) := Keeps.updIntake (.ite h.closeExp h)

theorem Keeps.expectFrames (h : s₀.Keeps s) {out : Nat} {e : Expect} : s₀.Keeps (s.expectFrames out e) :=
  .foldl h fun _ _ h₁ => .ite h₁ (.ite h₁.closure (.ite h₁.openExpect h₁))

theorem Keeps.execFeTimeout (h : s₀.Keeps s) {ch : Fin 16} {exp : Fin 4} : s₀.Answers (execFeTimeout ch exp s) := Keeps.next (.ite h.closeExp h)

theorem Keeps.failChannel (h : s₀.Keeps s) {n : Nat} : s₀.Keeps (s.failChannel n) := .ite h.updIntake.closeAll.count.raise h

theorem Keeps.enableChannel (h : s₀.Keeps s) {n : Nat} {checkOk : Bool} : s₀.KeepsFst (s.enableChannel n checkOk) := by
  unfold Machine.State.enableChannel
  refine .ite h.pair ?_
  split
  · exact h.pair
  · exact Keeps.pair (.ite h.setNum.updIntake.updPipe h.setNum.updIntake.updPipe.failChannel)

theorem Keeps.execChannelEnable (h : s₀.Keeps s) {ch : Fin 16} {checkOk : Bool} : s₀.Answers (execChannelEnable ch checkOk s) :=
  (h.served h.enableChannel).next

theorem Keeps.turnOff (h : s₀.Keeps s) {n : Nat} : s₀.Keeps (s.turnOff n) := h.closeAll.setNum.updIntake

theorem Keeps.disableChannel (h : s₀.Keeps s) {n : Nat} : s₀.KeepsFst (s.disableChannel n) := Keeps.pair (.ite h h.turnOff)

theorem Keeps.execChannelDisable (h : s₀.Keeps s) {ch : Fin 16} : s₀.Answers (execChannelDisable ch s) := (h.served h.disableChannel).next

theorem Keeps.execLaneStopState (h : s₀.Keeps s) {ch : Fin 16} {lanes : BitVec 5} : s₀.Answers (execLaneStopState ch lanes s) :=
  Keeps.next (.ite h (.ite h.updIntake.updIntake h.updIntake))

theorem Keeps.execLaneStopTimeout (h : s₀.Keeps s) {ch : Fin 16} {lanes : BitVec 5} : s₀.Answers (execLaneStopTimeout ch lanes s) :=
  Keeps.next (.ite h.updIntake.raise h)

theorem Keeps.execDeskewSequence (h : s₀.Keeps s) {ch : Fin 16} : s₀.Answers (execDeskewSequence ch s) := Keeps.next (.ite h.updIntake h)

theorem Keeps.execChannelFailure (h : s₀.Keeps s) {ch : Fin 16} {kind : ChanFault} : s₀.Answers (execChannelFailure ch kind s) := by
  unfold Machine.execChannelFailure
  refine Keeps.next ?_
  refine .ite ?_ h
  refine Keeps.failChannel ?_
  split
  · exact h.raise
  · exact h
  · exact h

theorem Keeps.resetChannel (h : s₀.Keeps s) {n : Nat} : s₀.KeepsFst (s.resetChannel n) := .ite h.updIntake.pair h.pair

theorem Keeps.execChannelReset (h : s₀.Keeps s) {ch : Fin 16} : s₀.Answers (execChannelReset ch s) := (h.served h.resetChannel).next

theorem Keeps.execChannelResetComplete (h : s₀.Keeps s) {ch : Fin 16} {passed : Bool} : s₀.Answers (execChannelResetComplete ch passed s) :=
  Keeps.next (.ite (.ite h.updIntake.updIntake.raise h.updIntake) h)

theorem Keeps.breakFrame (h : s₀.Keeps s) {n vc : Nat} : s₀.Keeps (s.breakFrame n vc) := by
  unfold Machine.State.breakFrame
  split
  · exact h
  · exact .ite h.closeFrame h

theorem Keeps.packet (h : s₀.Keeps s) {n vc : Nat} {hdr : HdrEcc} {k : State → State} (hk : ∀ s, s₀.Keeps s → s₀.Keeps (k s)) : s₀.Keeps (s.packet n vc hdr k) := by
  unfold Machine.State.packet
  refine .ite h ?_
  refine .ite (hk _ h) ?_
  split
  · exact hk _ h
  · exact hk _ h.count
  · exact h.count.breakFrame

theorem Keeps.sideCopy (h : s₀.Keeps s) {n : Nat} {data : List Byte} : s₀.Keeps (s.sideCopy n data) := by
  unfold Machine.State.sideCopy
  refine .ite h.count ?_
  split
  · rename_i heq
    have h₁ := h.claimOn.of_eq heq
    split
    · rename_i heq
      have h₂ := h₁.writePieces.of_eq heq
      exact h₂.commitOn.fst
    · rename_i heq
      have h₂ := h₁.writePieces.of_eq heq
      exact h₂.abandonOn.fst.count
  · rename_i heq
    have h₁ := h.claimOn.of_eq heq
    exact h₁.count

theorem Keeps.execEmbeddedData (h : s₀.Keeps s) {ch vc : Fin 16} {data : List Byte} {hdr : HdrEcc} {crcOk : Bool} : s₀.Answers (execEmbeddedData ch vc data hdr crcOk s) := by
  unfold Machine.execEmbeddedData
  refine Keeps.next ?_
  refine .ite h ?_
  refine h.packet fun _ h₁ => ?_
  split
  · exact h₁.count
  · exact .ite (.ite h₁.count h₁.count.breakFrame) h₁.sideCopy

theorem Keeps.execPacketDiscard (h : s₀.Keeps s) {ch vc : Fin 16} {hdr : HdrEcc} : s₀.Answers (execPacketDiscard ch vc hdr s) :=
  Keeps.next (.ite h (h.packet fun _ h₁ => h₁.count))

theorem Keeps.execPhyError (h : s₀.Keeps s) {ch : Fin 16} : s₀.Answers (execPhyError ch s) :=
  Keeps.next (.ite (.ite h.updIntake.count.raiseSec h.updIntake.count) h)

theorem Keeps.stopCalibration (h : s₀.Keeps s) {n : Nat} : s₀.Keeps (s.stopCalibration n) := .ite h.upd.count h

theorem Keeps.putFrame (h : s₀.Keeps s) {n : Nat} {f : FrameIn} : s₀.Keeps (s.putFrame n f) := h.updIntake

theorem Keeps.pairFrame (h : s₀.Keeps s) {n : Nat} {f : FrameIn} : s₀.Keeps (s.pairFrame n f) := by
  unfold Machine.State.pairFrame
  extract_lets
  split
  · exact h.putFrame.closeFrame
  · exact .ite (((Keeps.updIntake (.ite h.count h)).putFrame).count) ((Keeps.updIntake (.ite h.count h)).putFrame)

theorem Keeps.frameStart (h : s₀.Keeps s) {n vc fn : Nat} : s₀.Keeps (s.frameStart n vc fn) :=
  .ite (Keeps.putFrame (.ite h.closeFrame h)) (((Keeps.stopCalibration (.ite h.closeFrame h)).takeSet).pairFrame)

theorem Keeps.execFrameStart (h : s₀.Keeps s) {ch vc : Fin 16} {fn : BitVec 16} {hdr : HdrEcc} : s₀.Answers (execFrameStart ch vc fn hdr s) := by
  unfold Machine.execFrameStart
  refine Keeps.next ?_
  refine h.packet fun _ h₁ => ?_
  split
  · exact h₁.count
  · exact .ite h₁ h₁.frameStart

theorem Keeps.lineLengthDrop (h : s₀.Keeps s) {n vc : Nat} : s₀.Keeps (s.lineLengthDrop n vc) :=
  .ite h.closeFrame.updIntake.raiseSec h.closeFrame.updIntake

theorem Keeps.keepLine (h : s₀.Keeps s) {n vc : Nat} {f : FrameIn} {m : Member} {data : List Byte} : s₀.Keeps (s.keepLine n vc f m data) := by
  unfold Machine.State.keepLine
  refine .ite h.putFrame.closeFrame ?_
  refine .ite h.putFrame ?_
  split
  · rename_i heq
    have h₁ := h.putFrame.claimWindows.of_eq heq
    exact h₁.putFrame
  · rename_i heq
    have h₁ := h.putFrame.claimWindows.of_eq heq
    exact h₁.putFrame.closeFrame

theorem Keeps.lineIn (h : s₀.Keeps s) {n vc : Nat} {data : List Byte} {gap : Nat} : s₀.Keeps (s.lineIn n vc data gap) := by
  unfold Machine.State.lineIn
  split
  · exact h
  · split
    · exact h
    · exact .ite h (.ite h.updIntake.putFrame.closeFrame (.ite h.updIntake.putFrame.lineLengthDrop (.ite h.updIntake.putFrame.putFrame.count h.updIntake.putFrame.keepLine)))

theorem Keeps.execLineReceived (h : s₀.Keeps s) {ch vc : Fin 16} {dt : BitVec 6} {data : List Byte} {gap : Nat} {hdr : HdrEcc} {crcOk : Bool} : s₀.Answers (execLineReceived ch vc dt data gap hdr crcOk s) := by
  unfold Machine.execLineReceived
  refine Keeps.next ?_
  refine h.packet fun _ h₁ => ?_
  refine .ite h₁.lineIn ?_
  split
  · exact h₁.count
  · exact .ite (.ite h₁.count h₁.count.breakFrame) (.ite h₁.sideCopy (.ite h₁ (.ite h₁.count h₁.lineIn)))

theorem Keeps.frameDone (h : s₀.Keeps s) {n vc : Nat} {f : FrameIn} : s₀.Keeps (s.frameDone n vc f) := by
  unfold Machine.State.frameDone
  extract_lets
  split
  · rename_i heq
    have h₁ := h.processFrame.of_eq heq
    exact h₁.closeFrame
  · rename_i heq
    have h₁ := h.processFrame.of_eq heq
    exact h₁.closeFrame

theorem Keeps.frameEnd (h : s₀.Keeps s) {n vc fn : Nat} : s₀.Keeps (s.frameEnd n vc fn) := by
  unfold Machine.State.frameEnd
  split
  · exact h
  · split
    · exact h
    · exact .ite h (.ite h.closeFrame (.ite h.putFrame.closeFrame (.ite h.putFrame.frameDone h.putFrame)))

theorem Keeps.execFrameEnd (h : s₀.Keeps s) {ch vc : Fin 16} {fn : BitVec 16} {hdr : HdrEcc} : s₀.Answers (execFrameEnd ch vc fn hdr s) := by
  unfold Machine.execFrameEnd
  refine Keeps.next ?_
  refine h.packet fun _ h₁ => ?_
  split
  · exact h₁.count
  · exact .ite h₁ h₁.frameEnd

theorem Keeps.execXtrigAckEdge (h : s₀.Keeps s) {ch : Fin 16} : s₀.Answers (execXtrigAckEdge ch s) := Keeps.next (.ite h.updIntake h)

theorem Keeps.testPulse (h : s₀.Keeps s) {n : Nat} : s₀.Keeps (s.testPulse n) := .ite h.updIntake.openExpect h.updIntake

theorem Keeps.execXtrigPulse (h : s₀.Keeps s) {ch : Fin 16} {word : BitVec 32} : s₀.Answers (execXtrigPulse ch word s) :=
  Keeps.next (.ite h (.ite h.updIntake.testPulse h.updIntake))

theorem Keeps.execXtrigPeriod (h : s₀.Keeps s) {ch : Fin 16} : s₀.Answers (execXtrigPeriod ch s) := Keeps.next (.ite h.testPulse h)

theorem Keeps.rdata (h : s₀.Keeps s) {b : List Byte} : s₀.Keeps (s.rdata b) := h.upd

theorem Keeps.execScpTxWrite (h : s₀.Keeps s) {ch : Fin 16} {word : BitVec 64} : s₀.Answers (execScpTxWrite ch word s) :=
  Keeps.next (.ite h (.ite h.updIntake h.updIntake))

theorem Keeps.execScpWordStart (h : s₀.Keeps s) {ch : Fin 16} : s₀.Answers (execScpWordStart ch s) := by
  unfold Machine.execScpWordStart
  refine Keeps.next ?_
  split
  · exact .ite h.updIntake h
  · exact h

theorem Keeps.execScpWordComplete (h : s₀.Keeps s) {ch : Fin 16} {sdi : BitVec 16} : s₀.Answers (execScpWordComplete ch sdi s) := by
  unfold Machine.execScpWordComplete
  refine Keeps.next ?_
  split
  · exact h
  · exact h.updIntake

theorem Keeps.execScpRxRead (h : s₀.Keeps s) {ch : Fin 16} : s₀.Answers (execScpRxRead ch s) := by
  unfold Machine.execScpRxRead
  refine Keeps.next ?_
  split
  · exact h.rdata
  · exact h.updIntake.rdata

theorem Keeps.execCciCmdWrite (h : s₀.Keeps s) {ch : Fin 16} {word : BitVec 64} : s₀.Answers (execCciCmdWrite ch word s) :=
  Keeps.next (.ite h h.updIntake)

theorem Keeps.cciFail (h : s₀.Keeps s) {n w : Nat} {nack : Bool} : s₀.Keeps (s.cciFail n w nack) := h.updIntake.count.countN

theorem Keeps.execCciTransactionStart (h : s₀.Keeps s) {ch : Fin 16} {sda : SdaLine} : s₀.Answers (execCciTransactionStart ch sda s) := by
  unfold Machine.execCciTransactionStart
  refine Keeps.next ?_
  split
  · refine .ite ?_ h
    split
    · exact h.updIntake.cciFail.raise
    · exact h.updIntake
    · exact h.updIntake
  · exact h

theorem Keeps.execCciTransactionEnd (h : s₀.Keeps s) {ch : Fin 16} {nack : Bool} {data : BitVec 32} : s₀.Answers (execCciTransactionEnd ch nack data s) := by
  unfold Machine.execCciTransactionEnd
  refine Keeps.next ?_
  split
  · exact h
  · exact .ite h.cciFail h.updIntake

theorem Keeps.execCciStretchTimeout (h : s₀.Keeps s) {ch : Fin 16} : s₀.Answers (execCciStretchTimeout ch s) := by
  unfold Machine.execCciStretchTimeout
  refine Keeps.next ?_
  split
  · exact h
  · exact h.cciFail

theorem Keeps.execCciRxRead (h : s₀.Keeps s) {ch : Fin 16} : s₀.Answers (execCciRxRead ch s) := by
  unfold Machine.execCciRxRead
  refine Keeps.next ?_
  split
  · exact h.rdata
  · exact h.updIntake.rdata

theorem Keeps.flushSerial (h : s₀.Keeps s) {n : Nat} : s₀.KeepsFst (s.flushSerial n) := h.updIntake.countN.pair

theorem Keeps.execSerialQueueFlush (h : s₀.Keeps s) {ch : Fin 16} : s₀.Answers (execSerialQueueFlush ch s) := (h.served h.flushSerial).next

theorem Keeps.setCore (h : s₀.Keeps s) {c : Nat} {st : CoreState} : s₀.Keeps (s.setCore c st) := .ite h h.updCore.occur

theorem Keeps.slugBytes (h : s₀.Keeps s) {c : Nat} {x : List Byte} : s₀.KeepsFst (s.slugBytes c x) := .ite h.upd.pair h.pair

theorem Keeps.fillFree (h : s₀.Keeps s) {x : List (Option Byte)} : s₀.KeepsFst (s.fillFree x) := h.upd.pair

theorem Keeps.putGalley (h : s₀.Keeps s) {c a : Nat} {x : List Byte} : s₀.Keeps (s.putGalley c a x) := h.slugBytes.fst.updCore

theorem Keeps.stopEngines (h : s₀.Keeps s) {c : Nat} : s₀.Keeps (s.stopEngines c) := h.upd.updCore

theorem Keeps.retireCore (h : s₀.Keeps s) {c reason : Nat} : s₀.Keeps (s.retireCore c reason) :=
  Keeps.raise (.ite h.stopEngines.updCore.setCore.count h.stopEngines.updCore.setCore)

theorem Keeps.coreFree (h : s₀.Keeps s) {c : Nat} : s₀.Keeps (s.coreFree c) := .ite h.retireCore (.ite h.setCore h.setCore)

theorem Keeps.dropSlug (h : s₀.Keeps s) {c cause : Nat} : s₀.Keeps (s.dropSlug c cause) :=
  Keeps.coreFree (.foldl (Keeps.upd (.ite h.stopEngines.updCore (.ite h.stopEngines.updCore.count.raise h.stopEngines.updCore.count.raise))) fun _ _ h₁ => h₁.endSeq)

theorem Keeps.abortSlug (h : s₀.Keeps s) {c cause : Nat} : s₀.Keeps (s.abortSlug c cause) := h.dropSlug

theorem Keeps.abortAt (h : s₀.Keeps s) {c cause n : Nat} : s₀.Keeps (s.abortAt c cause n) := h.updCore.dropSlug

theorem Keeps.breach (h : s₀.Keeps s) {c what : Nat} : s₀.Keeps (s.breach c what) := h.count.raise.dropSlug

theorem Keeps.clearCore (h : s₀.Keeps s) {c : Nat} : s₀.Keeps (s.clearCore c) := h.updCore.count

theorem Keeps.startSlug (h : s₀.Keeps s) {c st slots list : Nat} : s₀.Keeps (s.startSlug c st slots list) :=
  ((Keeps.stopEngines (.ite h.clearCore h)).updCore).setCore

theorem Keeps.galleyAbort (h : s₀.Keeps s) {c : Nat} {f : Nat × Nat} : s₀.Keeps (s.galleyAbort c f) :=
  Keeps.abortSlug (.ite (.dite (fun _ => h.violation) fun _ => h) h)

theorem Keeps.touch (h : s₀.Keeps s) {c : Nat} {ts : List Touch} : s₀.Keeps (s.touch c ts) := h.updCore

theorem Keeps.nextCmd (h : s₀.Keeps s) {c : Nat} : s₀.Keeps (s.nextCmd c) := h.updCore

/-- Whatever the fetch of a command answers, the state it leaves is kept. -/
theorem Keeps.fetch (h : s₀.Keeps s) (c : Fin 16) (kind : CmdKind) :
    (∃ t, s.fetch c kind = .done t ∧ s₀.Keeps t) ∨ ∃ t v, s.fetch c kind = .run t v ∧ s₀.Keeps t := by
  unfold Machine.State.fetch
  have hread := (h.fabric (req := .core c) (a := (s.core c.val).list + 16 * (s.core c.val).pc) (op := .read 16) (err := .none)
    (victim := 0) (detail := (s.core c.val).pc)).fst
  dsimp only
  split
  · exact .inl ⟨s, rfl, h⟩
  · split
    · exact .inl ⟨_, rfl, hread.abortSlug⟩
    · have hstart {x : Bool} {f : NeuralCore → NeuralCore} := Keeps.ite (c := x = true) (hread.updCore (c := c.val) (f := f)) hread
      split
      · exact .inl ⟨_, rfl, hstart.abortSlug⟩
      · split
        · exact .inl ⟨_, rfl, hstart.abortSlug⟩
        · split
          · exact .inl ⟨_, rfl, h⟩
          · split
            · split
              · exact .inr ⟨_, _, rfl, hstart⟩
              · exact .inl ⟨_, rfl, h⟩
            · exact .inr ⟨_, _, rfl, hstart⟩

theorem Keeps.command (h : s₀.Keeps s) {c : Fin 16} {kind : CmdKind} {f : State → Nat → State} (hf : ∀ s x, s₀.Keeps s → s₀.Keeps (f s x)) :
    s₀.Keeps (s.command c kind f) := by
  unfold Machine.State.command
  obtain ⟨t, ht, hkeeps⟩ | ⟨t, v, ht, hkeeps⟩ := h.fetch c kind
  · rw [ht]
    exact hkeeps
  · rw [ht]
    exact hf t v hkeeps

theorem Keeps.execNop (h : s₀.Keeps s) {core : Fin 16} : s₀.Answers (execNop core s) := (h.command fun _ _ h₁ => h₁.nextCmd).next

theorem Keeps.doMove (h : s₀.Keeps s) {c v : Nat} : s₀.Keeps (s.doMove c v) := by
  unfold Machine.State.doMove
  extract_lets
  split
  · exact h.abortSlug
  · refine .ite h.abortSlug ?_
    split
    · exact h.galleyAbort
    · exact h.touch.slugBytes.fst.updCore.nextCmd

theorem Keeps.execMove (h : s₀.Keeps s) {core : Fin 16} : s₀.Answers (execMove core s) := (h.command fun _ _ h₁ => h₁.doMove).next

theorem Keeps.doMatmul (h : s₀.Keeps s) {c v : Nat} : s₀.Keeps (s.doMatmul c v) := .ite h.abortSlug (.ite h h.touch.updCore.nextCmd)

theorem Keeps.execMatmul (h : s₀.Keeps s) {core : Fin 16} : s₀.Answers (execMatmul core s) := (h.command fun _ _ h₁ => h₁.doMatmul).next

theorem Keeps.runPost (h : s₀.Keeps s) {c q : Nat} : s₀.Keeps (s.runPost c q) := by
  unfold Machine.State.runPost
  refine .ite h.abortAt ?_
  split
  · exact h.updCore.galleyAbort
  · refine .ite h.abortAt ?_
    extract_lets
    split
    · exact h.updCore.galleyAbort
    · exact Keeps.updCore (.foldl h fun _ _ h₁ => h₁.putGalley)

theorem Keeps.runPosts (h : s₀.Keeps s) {c fuel : Nat} : s₀.Keeps (s.runPosts c fuel) := by
  induction fuel generalizing s with
  | zero => exact h
  | succ fuel ih =>
    unfold Machine.State.runPosts
    split
    · exact h
    · exact .ite (ih h.updCore.runPost) h

theorem Keeps.doPost (h : s₀.Keeps s) {c v : Nat} : s₀.Keeps (s.doPost c v) := .ite h h.touch.updCore.nextCmd.runPosts

theorem Keeps.execPost (h : s₀.Keeps s) {core : Fin 16} : s₀.Answers (execPost core s) := (h.command fun _ _ h₁ => h₁.doPost).next

theorem Keeps.execTileDrain (h : s₀.Keeps s) {core : Fin 16} {array : Fin 4} : s₀.Answers (execTileDrain core array s) := by
  unfold Machine.execTileDrain
  refine Keeps.next ?_
  refine .ite h ?_
  split
  · exact h
  · exact .ite h h.updCore.updCore.runPosts

theorem Keeps.doExpand (h : s₀.Keeps s) {c v : Nat} : s₀.Keeps (s.doExpand c v) := by
  unfold Machine.State.doExpand
  refine .ite h.abortSlug ?_
  split
  · exact h.galleyAbort
  · refine .ite h.abortSlug ?_
    split
    · exact h.galleyAbort
    · exact h.touch.putGalley.nextCmd

theorem Keeps.execExpand (h : s₀.Keeps s) {core : Fin 16} : s₀.Answers (execExpand core s) := (h.command fun _ _ h₁ => h₁.doExpand).next

theorem Keeps.doStride (h : s₀.Keeps s) {c v : Nat} : s₀.Keeps (s.doStride c v) := by
  unfold Machine.State.doStride
  refine .ite h.abortSlug ?_
  split
  · exact h.galleyAbort
  · exact .ite h h.touch.updCore.nextCmd

theorem Keeps.execStride (h : s₀.Keeps s) {core : Fin 16} : s₀.Answers (execStride core s) := (h.command fun _ _ h₁ => h₁.doStride).next

theorem Keeps.doStore (h : s₀.Keeps s) {core : Fin 16} {v : Nat} : s₀.Keeps (s.doStore core v) := by
  unfold Machine.State.doStore
  refine .ite h.abortSlug ?_
  split
  · exact h.galleyAbort
  · split
    · exact h.abortSlug
    · dsimp only
      split
      · rename_i heq
        have h₁ := h.touch.slugBytes.fst.writePieces.of_eq heq
        exact h₁.nextCmd
      · rename_i heq
        have h₁ := h.touch.slugBytes.fst.writePieces.of_eq heq
        exact h₁.abortSlug

theorem Keeps.execStore (h : s₀.Keeps s) {core : Fin 16} : s₀.Answers (execStore core s) := (h.command fun _ _ h₁ => h₁.doStore).next

theorem Keeps.execSync (h : s₀.Keeps s) {core : Fin 16} : s₀.Answers (execSync core s) := (h.command fun _ _ h₁ => .ite h₁.updCore.nextCmd h₁).next

theorem Keeps.execEndCmd (h : s₀.Keeps s) {core : Fin 16} : s₀.Answers (execEndCmd core s) := (h.command fun _ _ h₁ => h₁.updCore).next

theorem Keeps.doVec (h : s₀.Keeps s) {c op v : Nat} : s₀.Keeps (s.doVec c op v) := by
  unfold Machine.State.doVec
  refine .ite h.abortSlug ?_
  split
  · exact h.galleyAbort
  · extract_lets
    split
    · exact h.galleyAbort
    · refine .ite h.abortSlug ?_
      split
      · extract_lets
        split
        · exact h.galleyAbort
        · exact Keeps.nextCmd (.foldl h.touch fun _ _ h₁ => .foldl h₁ fun _ _ h₂ => h₂.fillFree.fst.putGalley)

theorem Keeps.vector (h : s₀.Keeps s) {core : Fin 16} {op : Nat} : s₀.Keeps (s.vector core op) := h.command fun _ _ h₁ => h₁.doVec

theorem Keeps.execMaxpool (h : s₀.Keeps s) {core : Fin 16} : s₀.Answers (execMaxpool core s) := h.vector.next

theorem Keeps.execAvgpool (h : s₀.Keeps s) {core : Fin 16} : s₀.Answers (execAvgpool core s) := h.vector.next

theorem Keeps.execDwconv (h : s₀.Keeps s) {core : Fin 16} : s₀.Answers (execDwconv core s) := h.vector.next

theorem Keeps.execAdd (h : s₀.Keeps s) {core : Fin 16} : s₀.Answers (execAdd core s) := h.vector.next

theorem Keeps.execMul (h : s₀.Keeps s) {core : Fin 16} : s₀.Answers (execMul core s) := h.vector.next

theorem Keeps.execMax (h : s₀.Keeps s) {core : Fin 16} : s₀.Answers (execMax core s) := h.vector.next

theorem Keeps.execMin (h : s₀.Keeps s) {core : Fin 16} : s₀.Answers (execMin core s) := h.vector.next

theorem Keeps.execLut (h : s₀.Keeps s) {core : Fin 16} : s₀.Answers (execLut core s) := h.vector.next

theorem Keeps.execSoftmax (h : s₀.Keeps s) {core : Fin 16} : s₀.Answers (execSoftmax core s) := h.vector.next

theorem Keeps.execReduce (h : s₀.Keeps s) {core : Fin 16} : s₀.Answers (execReduce core s) := h.vector.next

theorem Keeps.execMatvec (h : s₀.Keeps s) {core : Fin 16} : s₀.Answers (execMatvec core s) := h.vector.next

theorem Keeps.execArgmax (h : s₀.Keeps s) {core : Fin 16} : s₀.Answers (execArgmax core s) := h.vector.next

theorem Keeps.execCompare (h : s₀.Keeps s) {core : Fin 16} : s₀.Answers (execCompare core s) := h.vector.next

theorem Keeps.execUpsample (h : s₀.Keeps s) {core : Fin 16} : s₀.Answers (execUpsample core s) := h.vector.next

theorem Keeps.execCopy (h : s₀.Keeps s) {core : Fin 16} : s₀.Answers (execCopy core s) := h.vector.next

theorem Keeps.execRequant (h : s₀.Keeps s) {core : Fin 16} : s₀.Answers (execRequant core s) := h.vector.next

theorem Keeps.execSlugOverrun (h : s₀.Keeps s) {core : Fin 16} : s₀.Answers (execSlugOverrun core s) := Keeps.next (.ite h h.dropSlug)

theorem Keeps.coreLive (h : s₀.Keeps s) {c : Nat} : s₀.Keeps (s.coreLive c) := h.upd

theorem Keeps.zeroCore (h : s₀.Keeps s) {c : Nat} : s₀.Keeps (s.zeroCore c) := h.updCore

theorem Keeps.execStartupTestComplete (h : s₀.Keeps s) {core : Fin 16} {passed : Bool} : s₀.Answers (execStartupTestComplete core passed s) :=
  Keeps.next (.ite h (.ite h.zeroCore.updCore.coreLive.coreFree h.retireCore))

theorem Keeps.execShortTestComplete (h : s₀.Keeps s) {core : Fin 16} {passed : Bool} : s₀.Answers (execShortTestComplete core passed s) :=
  Keeps.next (.ite h (.ite h.updCore.count.coreFree h.retireCore))

theorem Keeps.execShortTestDeferred (h : s₀.Keeps s) {core : Fin 16} : s₀.Answers (execShortTestDeferred core s) :=
  Keeps.next (.ite h h.updCore.count.raise)

theorem Keeps.writeRetire (h : s₀.Keeps s) {mask : Nat} : s₀.KeepsFst (s.writeRetire mask) :=
  Keeps.pair (.foldl h fun _ _ h₁ => .ite h₁ (.ite h₁.retireCore h₁.updCore))

theorem Keeps.execRetire (h : s₀.Keeps s) {mask : BitVec 16} : s₀.Answers (execRetire mask s) := (h.served h.writeRetire).next

theorem Keeps.startLong (h : s₀.Keeps s) {code inst arg : Nat} : s₀.Keeps (s.startLong code inst arg) := h.upd

theorem Keeps.writeTest (h : s₀.Keeps s) {mask : Nat} : s₀.KeepsFst (s.writeTest mask) :=
  .ite h.pair (Keeps.pair (.foldl h.startLong.upd fun _ _ h₁ => .ite h₁.setCore h₁))

theorem Keeps.execTest (h : s₀.Keeps s) {mask : BitVec 16} : s₀.Answers (execTest mask s) := (h.served h.writeTest).next

theorem Keeps.execCoreMemoryUncorrectable (h : s₀.Keeps s) {core : Fin 16} {forme : Bool} : s₀.Answers (execCoreMemoryUncorrectable core forme s) :=
  Keeps.next (.ite h h.count.retireCore)

theorem Keeps.coreClaim (h : s₀.Keeps s) {core : Fin 16} {v : Nat} : s₀.Keeps (s.coreClaim core v) := by
  unfold Machine.State.coreClaim
  extract_lets
  split
  · rename_i heq
    have h₁ := h.claimOn.of_eq heq
    exact h₁.updCore.nextCmd
  · rename_i heq
    have h₁ := h.claimOn.of_eq heq
    exact h₁.upd.updCore
  · rename_i heq
    have h₁ := h.claimOn.of_eq heq
    exact h₁.abortSlug
  · rename_i heq
    have h₁ := h.claimOn.of_eq heq
    exact h₁.abortSlug
  · rename_i heq
    have h₁ := h.claimOn.of_eq heq
    exact h₁.abortSlug
  · rename_i heq
    have h₁ := h.claimOn.of_eq heq
    exact h₁.abortSlug

theorem Keeps.afterRing (h : s₀.Keeps s) {c : Nat} {st : RgStatus} : s₀.Keeps (s.afterRing c st) := .ite h.abortSlug h.nextCmd

theorem Keeps.execRingClaim (h : s₀.Keeps s) {req : Requester} {ring : BitVec 16} {len : BitVec 32} : s₀.Answers (execRingClaim req ring len s) := by
  unfold Machine.execRingClaim
  refine Keeps.next ?_
  split
  · exact h.command fun _ _ h₁ => h₁.coreClaim
  · exact .ite h.claimOn.fst.upd h.claimOn.fst.rgResult

theorem Keeps.execRingCommit (h : s₀.Keeps s) {req : Requester} {ring : BitVec 16} : s₀.Answers (execRingCommit req ring s) := by
  unfold Machine.execRingCommit
  refine Keeps.next ?_
  split
  · exact h.command fun _ _ h₁ => h₁.commitOn.fst.updCore.afterRing
  · exact h.commitOn.fst.rgResult

theorem Keeps.execRingAbandon (h : s₀.Keeps s) {req : Requester} {ring : BitVec 16} : s₀.Answers (execRingAbandon req ring s) := by
  unfold Machine.execRingAbandon
  refine Keeps.next ?_
  split
  · exact h.command fun _ _ h₁ => h₁.abandonOn.fst.updCore.afterRing
  · exact h.abandonOn.fst.rgResult

theorem Keeps.execRingRelease (h : s₀.Keeps s) {req : Requester} {ring : BitVec 16} {len : BitVec 32} : s₀.Answers (execRingRelease req ring len s) := by
  unfold Machine.execRingRelease
  refine Keeps.next ?_
  split
  · exact h.command fun _ _ h₁ => h₁.releaseOn.fst.afterRing
  · exact h.releaseOn.fst.rgResult

theorem Keeps.execBlockedClaimRetry (h : s₀.Keeps s) {ring : BitVec 16} : s₀.Answers (execBlockedClaimRetry ring s) := by
  unfold Machine.execBlockedClaimRetry
  refine Keeps.next ?_
  split
  · exact h
  · split
    · rename_i heq
      have h₁ := h.claimOn.of_eq heq
      exact h
    · rename_i heq
      have h₁ := h.claimOn.of_eq heq
      extract_lets
      split
      · exact h₁.upd
      · exact .ite h₁.upd.updCore h₁.upd.abortSlug

theorem Keeps.execClaimLimitExpiry (h : s₀.Keeps s) {core : Fin 16} : s₀.Answers (execClaimLimitExpiry core s) := by
  unfold Machine.execClaimLimitExpiry
  refine Keeps.next ?_
  split
  · exact h.breach
  · exact h

theorem Keeps.afterQuoin (h : s₀.Keeps s) {c : Nat} {st : QnStatus} : s₀.Keeps (s.afterQuoin c st) := .ite h.abortSlug h.nextCmd

theorem Keeps.execQuoinSignal (h : s₀.Keeps s) {req : Requester} {quoin : BitVec 12} {n : BitVec 32} : s₀.Answers (execQuoinSignal req quoin n s) := by
  unfold Machine.execQuoinSignal
  refine Keeps.next ?_
  split
  · exact h.command fun _ _ h₁ => h₁.signalBy.fst.afterQuoin
  · exact h.signalBy.fst.qnResult

theorem Keeps.execQuoinReset (h : s₀.Keeps s) {req : Requester} {quoin : BitVec 12} {value : BitVec 32} : s₀.Answers (execQuoinReset req quoin value s) := by
  unfold Machine.execQuoinReset
  refine Keeps.next ?_
  split
  · exact h.command fun _ _ h₁ => h₁.resetBy.fst.afterQuoin
  · exact h.resetBy.fst.qnResult

theorem Keeps.execQuoinPoll (h : s₀.Keeps s) {req : Requester} {quoin : BitVec 12} {thresh : BitVec 32} : s₀.Answers (execQuoinPoll req quoin thresh s) :=
  h.pollBy.fst.qnResult.next

theorem Keeps.execQuoinWait (h : s₀.Keeps s) {req : Requester} {quoin : BitVec 12} {thresh : BitVec 32} : s₀.Answers (execQuoinWait req quoin thresh s) := by
  unfold Machine.execQuoinWait
  refine Keeps.next ?_
  split
  · refine h.command fun _ _ h₁ => ?_
    split
    · rename_i heq
      have h₂ := h₁.waitBy.of_eq heq
      exact h₂.updCore
    · rename_i heq
      have h₂ := h₁.waitBy.of_eq heq
      exact h₂.afterQuoin
  · exact h.waitBy.fst.qnResult

theorem Keeps.execWaitLimitExpiry (h : s₀.Keeps s) {core : Fin 16} : s₀.Answers (execWaitLimitExpiry core s) := by
  unfold Machine.execWaitLimitExpiry
  refine Keeps.next ?_
  split
  · exact h.breach
  · exact h

theorem Keeps.failParked (h : s₀.Keeps s) {q : Nat} : s₀.Keeps (s.failParked q) := by
  unfold Machine.State.failParked
  refine .ite h.answerParked ?_
  refine .foldl h.upd fun _ _ h₁ => ?_
  split
  · exact h₁.abortSlug
  · exact h₁

theorem Keeps.execQuoinWrite (h : s₀.Keeps s) {req : Requester} {quoin : Fin 4096} {data : List Byte} : s₀.Answers (execQuoinWrite req quoin data s) :=
  Keeps.next (.ite h.violation.upd (.ite h.putQuoin.failParked.upd h.upd))

theorem Keeps.execQnNfyRead (h : s₀.Keeps s) {req : Requester} {station : Fin 32} : s₀.Answers (execQnNfyRead req station s) := by
  unfold Machine.execQnNfyRead
  refine Keeps.next ?_
  refine .ite h.violation.upd ?_
  split
  exact h.upd

theorem Keeps.startJob (h : s₀.Keeps s) {c v : Nat} : s₀.Keeps (s.startJob c v) := h.updCore

theorem Keeps.nextJob (h : s₀.Keeps s) {c : Nat} : s₀.Keeps (s.nextJob c) := by
  unfold Machine.State.nextJob
  split
  · exact h.updCore.startJob
  · exact h

theorem Keeps.execStream (h : s₀.Keeps s) {core : Fin 16} : s₀.Answers (execStream core s) := by
  unfold Machine.execStream
  refine Keeps.next ?_
  refine h.command fun _ _ h₁ => ?_
  refine .ite h₁.abortSlug ?_
  split
  · exact h₁.galleyAbort
  · exact .ite h₁ h₁.updCore.nextCmd.nextJob

theorem Keeps.updJob (h : s₀.Keeps s) {c : Nat} {f : StreamJob → StreamJob} : s₀.Keeps (s.updJob c f) := h.updCore

theorem Keeps.releaseEntry (h : s₀.Keeps s) {core : Fin 16} {ring : Nat} : s₀.Keeps (s.releaseEntry core ring) := h.releaseOn.fst

theorem Keeps.endJob (h : s₀.Keeps s) {c : Nat} : s₀.Keeps (s.endJob c) := by
  unfold Machine.State.endJob
  split
  · exact .ite h.updCore.count.nextJob h
  · exact h

theorem Keeps.badEntry (h : s₀.Keeps s) {c : Nat} : s₀.Keeps (s.badEntry c) := h.count.raise.abortSlug

theorem Keeps.jobError (h : s₀.Keeps s) {c : Nat} : s₀.Keeps (s.jobError c) := h.count.abortSlug

theorem Keeps.takeRun (h : s₀.Keeps s) {core : Fin 16} {j : StreamJob} {e : Nat} : s₀.Keeps (s.takeRun core j e) := by
  unfold Machine.State.takeRun
  refine .ite h.badEntry ?_
  extract_lets
  split
  · exact h.badEntry
  · exact h.galleyAbort
  · exact .ite h.badEntry h.updJob

theorem Keeps.takeControl (h : s₀.Keeps s) {core : Fin 16} {j : StreamJob} {e : Nat} : s₀.Keeps (s.takeControl core j e) :=
  .ite (.ite h (.ite h.signalBy.fst.jobError h.signalBy.fst.updJob.releaseEntry.endJob)) (.ite h.updJob.releaseEntry.endJob (.ite h.updJob.releaseEntry.endJob h.badEntry))

theorem Keeps.execStreamEntry (h : s₀.Keeps s) {core : Fin 16} : s₀.Answers (execStreamEntry core s) := by
  unfold Machine.execStreamEntry
  refine Keeps.next ?_
  split
  · refine .ite h ?_
    split
    · rename_i heq
      have h₁ := h.readPieces.of_eq heq
      exact h₁.jobError
    · rename_i heq
      have h₁ := h.readPieces.of_eq heq
      exact .ite h₁.takeControl h₁.takeRun
  · exact h

theorem Keeps.readRun (h : s₀.Keeps s) {core : Fin 16} {err : MemErr} {x : List (Nat × Nat)} : s₀.KeepsFst (s.readRun core err x) := by
  unfold Machine.State.readRun
  split
  · exact h.pair
  · split
    · rename_i heq
      have h₁ := h.fabric.of_eq heq
      exact h₁.pair
    · rename_i heq
      have h₁ := h.fabric.of_eq heq
      split
      · rename_i heq
        have h₂ := h₁.readPieces.of_eq heq
        exact h₂.pair
      · rename_i heq
        have h₂ := h₁.readPieces.of_eq heq
        exact h₂.pair

theorem Keeps.execStreamReadComplete (h : s₀.Keeps s) {core : Fin 16} {run : Nat} {err : MemErr} : s₀.Answers (execStreamReadComplete core run err s) := by
  unfold Machine.execStreamReadComplete
  refine Keeps.next ?_
  split
  · split
    · exact h
    · split
      · rename_i heq
        have h₁ := h.readRun.of_eq heq
        exact h₁.jobError
      · rename_i heq
        have h₁ := h.readRun.of_eq heq
        exact h₁.touch.putGalley.updJob.releaseEntry.endJob
  · exact h

theorem Keeps.takeRecord (h : s₀.Keeps s) {c : Nat} {sl : Slug} : s₀.KeepsFst (s.takeRecord c sl) := by
  unfold Machine.State.takeRecord
  refine .ite h.pair ?_
  refine .dite (fun _ => ?_) fun _ => h.pair
  extract_lets
  split
  · rename_i heq
    have h₁ := h.readPieces.of_eq heq
    exact h₁.releaseOn.fst.pair
  · rename_i heq
    have h₁ := h.readPieces.of_eq heq
    exact h₁.releaseOn.fst.pair

theorem Keeps.noteCarry (h : s₀.Keeps s) {c : Nat} {sl : Slug} : s₀.Keeps (s.noteCarry c sl) :=
  .ite h (Keeps.drainRing (.foldl h.upd fun _ _ h₁ => h₁.updSeq))

theorem Keeps.partDone (h : s₀.Keeps s) {c : Nat} {sl : Slug} {record : Option Nat} {denied : Bool} {slot : Nat} {e : Nat} : s₀.Keeps (s.partDone c sl record denied slot e) := by
  unfold Machine.State.partDone
  refine .ite (.ite h.count.raise h) ?_
  refine .ite ?_ h.updSeq.updSeq
  refine .ite ?_ h.updSeq.updSeq
  refine .ite h.updSeq.endSeq.count.raise ?_
  refine .ite h.updSeq.endSeq ?_
  split <;> exact h.updSeq.endSeq

theorem Keeps.execSlugComplete (h : s₀.Keeps s) {core : Fin 16} {galleyFixes : Nat} {formeFixes : Nat} : s₀.Answers (execSlugComplete core galleyFixes formeFixes s) :=
  Keeps.next (.ite h (Keeps.coreFree (.foldl ((KeepsFst.fst (.ite h.countN.countN.count.stopEngines.upd.takeRecord h.countN.countN.count.stopEngines.upd.pair)).noteCarry) fun _ _ h₁ => h₁.partDone)))

theorem Keeps.writePrograms (h : s₀.Keeps s) {c : Nat} {t : Template} {part : Nat} {st : Nat} {slots : List (Nat × Nat)} : s₀.KeepsFst (s.writePrograms c t part st slots) := by
  unfold Machine.State.writePrograms
  split
  · exact h.pair
  · exact .foldl h.pair fun _ _ h₁ => .ite h₁ (.dite (fun _ => h₁.fst.putRecord.fst.pair) fun _ => h₁)

theorem Keeps.readGroup (h : s₀.Keeps s) {g : Group} {c : Nat} {home : Bool} {warm : Bool} : s₀.KeepsFst (s.readGroup g c home warm) :=
  .dite (fun _ => h.readPieces.fst.pair) fun _ => h.pair

theorem Keeps.dispatchGroup (h : s₀.Keeps s) {g : Group} {c : Nat} {home : Bool} {warm : Bool} : s₀.Keeps (s.dispatchGroup g c home warm) :=
  Keeps.startSlug (.foldl h.upd.upd fun _ _ h₁ => h₁.updSeq)

theorem Keeps.placeGroup (h : s₀.Keeps s) {g : Group} {c : Nat} {home : Bool} {warm : Bool} : s₀.KeepsFst (s.placeGroup g c home warm) := by
  unfold Machine.State.placeGroup
  extract_lets
  split
  · rename_i heq
    have h₁ := h.readGroup.of_eq heq
    exact Keeps.pair (.foldl h₁ fun _ _ h₂ => h₂.endSeq)
  · rename_i heq
    have h₁ := h.readGroup.of_eq heq
    split
    · rename_i heq
      have h₂ := h₁.writePrograms.of_eq heq
      exact Keeps.pair (.foldl h₂ fun _ _ h₃ => h₃.endSeq)
    · rename_i heq
      have h₂ := h₁.writePrograms.of_eq heq
      exact h₂.dispatchGroup.pair

theorem Keeps.build (h : s₀.Keeps s) {l : List Group} {idle : List Nat} {n : Nat} : s₀.KeepsFst (s.build l idle n) := by
  induction l generalizing s idle n with
  | nil => exact h.pair
  | cons g l ih =>
    unfold Machine.State.build
    refine .ite (ih h) (.ite h.pair ?_)
    split
    · exact (ih h).fst.pair
    · split
      · next heq => exact ih (h.placeGroup.of_eq heq)
      · next heq => exact ih (h.placeGroup.of_eq heq)

theorem Keeps.startTests (h : s₀.Keeps s) {l idle : List Nat} : s₀.Keeps (s.startTests l idle) := by
  induction l generalizing s idle with
  | nil => exact h
  | cons c l ih =>
    unfold Machine.State.startTests
    exact .ite (ih h.updCore.setCore.count) (ih h)

theorem Keeps.endWithoutCore (h : s₀.Keeps s) {e : Nat} : s₀.Keeps (s.endWithoutCore e) := .ite h (.ite h.endSeq h)

theorem Keeps.execRosterStep (h : s₀.Keeps s) : s₀.Answers (execRosterStep s) := by
  unfold Machine.execRosterStep
  refine Keeps.next (.ite h ?_)
  extract_lets _ s₁ s₂ s₃ s₄ es old new
  have h₂ : s₀.Keeps s₂ := .foldl h.upd fun _ _ h => h.applyVariant
  have h₃ : s₀.Keeps s₃ := h₂.foldl fun _ _ h => .ite h.startChain h
  have h₄ : s₀.Keeps s₄ := h₃.foldl fun _ _ h => h.endWithoutCore
  split
  next heq =>
  have h₅ := h₄.build.of_eq heq
  exact .ite h₅.upd.count h₅.upd.startTests

theorem Keeps.dropRecord (h : s₀.Keeps s) {st : Nat} {w : Released} : s₀.Keeps (s.dropRecord st w) := h.upd.drainRing

theorem Keeps.openSequence (h : s₀.Keeps s) {st p : Nat} {w : Released} : s₀.Keeps (s.openSequence st p w) := by
  unfold Machine.State.openSequence
  split
  · exact h.dropRecord
  · refine .ite h.dropRecord ?_
    split
    · exact h.sendVerdict.count.raiseSec.dropRecord
    · exact h.upd.count.endWithoutCore

theorem Keeps.execSequenceCreate (h : s₀.Keeps s) {channel : Fin 16} {window : Fin 32} : s₀.Answers (execSequenceCreate channel window s) := by
  unfold Machine.execSequenceCreate
  refine Keeps.next ?_
  split
  · exact h
  · extract_lets
    split
    · exact h.upd
    · exact .ite h.upd (.ite h.upd.dropRecord h.upd.openSequence)

theorem Keeps.execSequenceDeadline (h : s₀.Keeps s) {entry : Fin 1024} : s₀.Answers (execSequenceDeadline entry s) := Keeps.next (.ite h.endSeq h)

theorem Keeps.lostPart (h : s₀.Keeps s) {part e : Nat} : s₀.Keeps (s.lostPart part e) := .ite h.updSeq.count h.endSeq

theorem Keeps.execRosterRetirement (h : s₀.Keeps s) {core : Fin 16} : s₀.Answers (execRosterRetirement core s) :=
  Keeps.next (.ite h (.foldl (.foldl (Keeps.upd (.foldl h.upd fun _ _ h₁ => h₁.switchVariant)) fun _ _ h₁ => h₁.lostPart) fun _ _ h₁ => h₁.endWithoutCore))

theorem Keeps.followResources (h : s₀.Keeps s) {st : Nat} : s₀.Keeps (s.followResources st) := by
  unfold Machine.State.followResources
  split
  · exact .ite h h.setStation
  · exact .ite h.setStation h
  · exact h
  · exact h
  · exact h

theorem Keeps.pushMaps (h : s₀.Keeps s) : s₀.Keeps s.pushMaps := .ite h.upd h

theorem Keeps.applyGranules (h : s₀.Keeps s) {st : Nat} {dom : List Byte} : s₀.Keeps (s.applyGranules st dom) := .foldl h fun _ _ h₁ => h₁.updCore

theorem Keeps.applyResource (h : s₀.Keeps s) {st sub : Nat} {data : List Byte} : s₀.Keeps (s.applyResource st sub data) := by
  unfold Machine.State.applyResource
  split
  · exact h.upd
  · exact h.upd.applyGranules
  · exact Keeps.setNum (.foldl h fun _ _ h₁ => .ite h₁.carveWay (.ite h₁.returnWay h₁))
  · exact h.setNum

theorem Keeps.setUpAgain (h : s₀.Keeps s) {st : Nat} : s₀.Keeps (s.setUpAgain st) := h.updChain

theorem Keeps.writeResource (h : s₀.Keeps s) {st sub : Nat} {data : List Byte} : s₀.KeepsFst (s.writeResource st sub data) := by
  unfold Machine.State.writeResource
  refine .ite h.pair ?_
  refine .ite h.pair ?_
  refine .ite h.pair ?_
  refine .ite h.pair ?_
  split
  · exact h.pair
  · exact h.applyResource.followResources.pushMaps.setUpAgain.pair

theorem Keeps.execStationResourceWrite (h : s₀.Keeps s) {station : Fin 32} {sub : BitVec 8} {data : List Byte} : s₀.Answers (execStationResourceWrite station sub data s) :=
  (h.served h.writeResource).next

theorem Keeps.writeWindowSet (h : s₀.Keeps s) {st : Nat} {data : List Byte} : s₀.KeepsFst (s.writeWindowSet st data) :=
  .ite h.pair (.ite h.pair (.ite h.upd.followResources.setUpAgain.pair h.pair))

theorem Keeps.execStationWindowsWrite (h : s₀.Keeps s) {station : Fin 32} {data : List Byte} : s₀.Answers (execStationWindowsWrite station data s) :=
  (h.served h.writeWindowSet).next

theorem Keeps.openGates (h : s₀.Keeps s) {st : Nat} : s₀.Keeps (s.openGates st) := by
  unfold Machine.State.openGates
  exact h.setNum.setStation.upd.takeVariant.loadSpacing.startChain

theorem Keeps.writeAdmit (h : s₀.Keeps s) {st v : Nat} : s₀.KeepsFst (s.writeAdmit st v) :=
  .ite h.pair (.ite h.stopAdmission.settleStation.pair (.ite h.pair (.ite h.pair (.ite h.openGates.pair h.raise.pair))))

theorem Keeps.execAdmitWrite (h : s₀.Keeps s) {station : Fin 32} {value : BitVec 8} : s₀.Answers (execAdmitWrite station value s) :=
  (h.served h.writeAdmit).next

theorem Keeps.writeRoster (h : s₀.Keeps s) {st sub : Nat} {data : List Byte} : s₀.KeepsFst (s.writeRoster st sub data) := by
  unfold Machine.State.writeRoster
  split
  · exact .ite h.pair (.ite h.pair h.setNum.takeVariant.pair)
  · exact .ite h.pair h.setNum.pair
  · exact .ite h.pair (.ite h.pair h.setNum.pair)
  · exact .ite h.pair (.ite h.upd.pair h.pair)
  · exact .ite h.pair h.setNum.pair
  · exact .ite h.pair (.ite h.pair h.setNum.pair)

theorem Keeps.startTearDown (h : s₀.Keeps s) {st : Nat} : s₀.KeepsFst (s.startTearDown st) := .ite h.pair h.setStation.startLong.pair

theorem Keeps.execTearDown (h : s₀.Keeps s) {station : Fin 32} : s₀.Answers (execTearDown station s) := (h.served h.startTearDown).next

theorem Keeps.wipeWindows (h : s₀.Keeps s) {st : Nat} : s₀.Keeps (s.wipeWindows st) := by
  unfold Machine.State.wipeWindows
  refine .foldl h fun _ _ h₁ => ?_
  split
  · exact .ite h₁.wipe h₁
  · exact h₁

theorem Keeps.wipeGranules (h : s₀.Keeps s) {st : Nat} : s₀.Keeps (s.wipeGranules st) := .foldl h fun _ _ h₁ => h₁.updCore

theorem Keeps.tearDown (h : s₀.Keeps s) {st : Nat} : s₀.Keeps (s.tearDown st) :=
  ((((Keeps.wipeWindows (.foldl (Keeps.upd (.foldl h fun _ _ h₁ => .ite h₁.turnOff h₁)) fun _ _ h₁ => .ite h₁.returnWay.setScratch h₁)).wipeGranules).setStation).count).raise

theorem Keeps.checkMarkSet (h : s₀.Keeps s) {n : Nat} : s₀.Keeps (s.checkMarkSet n) := .ite h.setNum.raise h

theorem Keeps.pushConfig (h : s₀.Keeps s) : s₀.Keeps s.pushConfig :=
  .foldl (.foldl h fun _ _ h₁ => h₁.checkMarkSet) fun _ _ h₁ => .ite h₁ h₁.applyField

theorem Keeps.forwardLevels (h : s₀.Keeps s) : s₀.Keeps s.forwardLevels := .foldl h fun _ _ h₁ => .ite h₁ h₁.forwardEye

theorem Keeps.dropLostCues (h : s₀.Keeps s) : s₀.Keeps s.dropLostCues := h.upd

theorem Keeps.openSession (h : s₀.Keeps s) : s₀.Keeps s.openSession :=
  Keeps.forwardLevels (.foldl h.sendField.pushConfig.pushMaps.dropLostCues fun _ _ h₁ => h₁.loadSpacing)

theorem Keeps.fieldHeartbeat (h : s₀.Keeps s) {state us : Nat} : s₀.Keeps (s.fieldHeartbeat state us) :=
  .ite h.fieldTakes (.ite h.fieldTakes.upd (.ite h.fieldTakes.upd.leaveAutonomy.upd.openSession h.fieldTakes.upd.upd))

theorem Keeps.execHeartbeat (h : s₀.Keeps s) {side : LinkSide} {state : BitVec 8} {us : BitVec 32} : s₀.Answers (execHeartbeat side state us s) := by
  unfold Machine.execHeartbeat
  refine Keeps.next ?_
  split
  · exact h.fieldHeartbeat
  · exact h.computeTakes.upd

theorem Keeps.noteRestart (h : s₀.Keeps s) : s₀.Keeps s.noteRestart := .ite (Keeps.upd (.foldl h.count.raise fun _ _ h₁ => h₁.endSeq)) h

theorem Keeps.noteWake (h : s₀.Keeps s) : s₀.Keeps s.noteWake := by
  unfold Machine.State.noteWake
  refine .ite h.upd.raise ?_
  split
  · exact h
  · exact h.upd.raise

theorem Keeps.execFieldLinkUp (h : s₀.Keeps s) : s₀.Answers (execFieldLinkUp s) :=
  Keeps.next (.ite h (.ite h.noteRestart.noteWake.upd h.noteRestart.noteWake.upd.reportGathered.openSession))

theorem Keeps.groupVariant (h : s₀.Keeps s) {u : CueUse} : s₀.Keeps (s.groupVariant u) := h.applyVariant.upd

theorem Keeps.freeUse (h : s₀.Keeps s) {e : Nat} : s₀.Keeps (s.freeUse e) := h.upd

theorem Keeps.firstCrossed (h : s₀.Keeps s) {u : CueUse} : s₀.Keeps (s.firstCrossed u) := .ite h.groupVariant.nextGroup h.groupVariant

theorem Keeps.triggerCrossed (h : s₀.Keeps s) {u : CueUse} : s₀.Keeps (s.triggerCrossed u) := .ite h h.expectFrames

theorem Keeps.groupRefused (h : s₀.Keeps s) {u : CueUse} : s₀.Keeps (s.groupRefused u) := .ite h (.ite h.upd.count.raise.startChain h.upd.count.raise)

theorem Keeps.cueExpiredHere (h : s₀.Keeps s) {e : Nat} {u : CueUse} : s₀.Keeps (s.cueExpiredHere e u) :=
  .ite (.foldl h fun _ _ h₁ => h₁.endSeq) (.ite h.startChain h)

theorem Keeps.takeResult (h : s₀.Keeps s) {e code : Nat} : s₀.Keeps (s.takeResult e code) :=
  .ite h (Keeps.settleStation (.ite (.ite h.freeUse.triggerCrossed.firstCrossed h.freeUse.triggerCrossed) (.ite (.ite h.freeUse.firstCrossed h.freeUse) (.ite h.freeUse.cueExpiredHere (.ite h.freeUse.groupRefused h.freeUse)))))

theorem Keeps.execCueResult (h : s₀.Keeps s) {entry : Fin 8192} {code : Fin 8} : s₀.Answers (execCueResult entry code s) :=
  Keeps.next (.ite h.computeTakes.takeResult h.computeTakes)

theorem Keeps.clearCompute (h : s₀.Keeps s) {cause : Nat} : s₀.Keeps (s.clearCompute cause) :=
  ⟨h.pending, fun hm => cellsFrom_filter _ (h.bytes hm), fun _ => ⟨Nat.zero_le _, Nat.zero_le _⟩⟩

theorem Keeps.execPorstAssert (h : s₀.Keeps s) : s₀.Answers (execPorstAssert s) := h.clearCompute.next

theorem Keeps.execBrownOut (h : s₀.Keeps s) {soc : Bool} : s₀.Answers (execBrownOut soc s) := Keeps.next (.ite h h.clearCompute)

theorem Keeps.execSupplyExcursion (h : s₀.Keeps s) {soc : Bool} : s₀.Answers (execSupplyExcursion soc s) := Keeps.next (.ite h.count.raiseSec h)

theorem Keeps.setRtc (h : s₀.Keeps s) {v : Nat} : s₀.Keeps (s.setRtc v) := h.upd

theorem Keeps.execDozeEntry (h : s₀.Keeps s) : s₀.Answers (execDozeEntry s) := Keeps.next (.ite h h.upd.count)

theorem Keeps.execDozeExit (h : s₀.Keeps s) {hart : Fin 4} : s₀.Answers (execDozeExit hart s) := Keeps.next (.ite h.wakeHart h)

theorem Keeps.acceptSleep (h : s₀.Keeps s) {kind : Nat} : s₀.Keeps (s.acceptSleep kind) := h.upd

theorem Keeps.requestSleep (h : s₀.Keeps s) {kind : Nat} : s₀.KeepsFst (s.requestSleep kind) :=
  .ite h.pair (.ite h.acceptSleep.pair h.upd.count.raise.pair)

theorem Keeps.writeRequest (h : s₀.Keeps s) {kind : Nat} : s₀.KeepsFst (s.writeRequest kind) := h.requestSleep.fst.pair

theorem Keeps.sleepCommand (h : s₀.Keeps s) {kind : Nat} {viaRegister : Bool} : s₀.Keeps (s.sleepCommand kind viaRegister) :=
  .ite (h.served h.writeRequest) (.ite h.requestSleep.fst.upd h)

theorem Keeps.execRequestStop (h : s₀.Keeps s) {viaRegister : Bool} : s₀.Answers (execRequestStop viaRegister s) := h.sleepCommand.next

theorem Keeps.execRequestHibernate (h : s₀.Keeps s) {viaRegister : Bool} : s₀.Answers (execRequestHibernate viaRegister s) := h.sleepCommand.next

theorem Keeps.execSleepCommit (h : s₀.Keeps s) : s₀.Answers (execSleepCommit s) :=
  Keeps.next (.ite h (Keeps.upd (.ite h.sendField.canLost h.sendField.canLost.count)))

theorem Keeps.abandonEntry (h : s₀.Keeps s) : s₀.Keeps s.abandonEntry := h.upd.count

theorem Keeps.execSleepEntryStart (h : s₀.Keeps s) : s₀.Answers (execSleepEntryStart s) := Keeps.next (.ite h (.ite h.abandonEntry h.upd))

theorem Keeps.wake (h : s₀.Keeps s) {src : Nat} : s₀.Keeps (s.wake src) := .ite (.ite h.upd (.ite h.upd h)) (.ite h.abandonEntry h)

theorem Keeps.execRtcAlarm (h : s₀.Keeps s) : s₀.Answers (execRtcAlarm s) := Keeps.next (.ite h.wake h)

theorem Keeps.execGpioWakeLatch (h : s₀.Keeps s) {pin : Fin 16} {rise : Bool} : s₀.Answers (execGpioWakeLatch pin rise s) :=
  Keeps.next (.ite h (.ite ((h.report fun _ h₁ => h₁.same).wake) (h.report fun _ h₁ => h₁.same)))

theorem Keeps.execPwrWakeNFall (h : s₀.Keeps s) : s₀.Answers (execPwrWakeNFall s) := Keeps.next (.ite h.wake h)

theorem Keeps.execWakeDuringEntry (h : s₀.Keeps s) {bit : Fin 3} : s₀.Answers (execWakeDuringEntry bit s) := Keeps.next (.ite h.abandonEntry h)

theorem Keeps.applyLatch (h : s₀.Keeps s) {n : Nat} : s₀.Keeps (s.applyLatch n) :=
  .ite h (Keeps.count (.ite ((h.report fun _ h₁ => h₁.same).report fun _ h₁ => h₁.same.evaluate) ((h.report fun _ h₁ => h₁.same).occur)))

theorem Keeps.execStopExitComplete (h : s₀.Keeps s) : s₀.Answers (execStopExitComplete s) :=
  Keeps.next (.ite h (.foldl h.upd fun _ _ h₁ => h₁.applyLatch))

theorem Keeps.touchFlash (h : s₀.Keeps s) {a : Nat} {erase : Bool} : s₀.Keeps (s.touchFlash a erase) := h.upd

theorem Keeps.eraseSector (h : s₀.Keeps s) {a : Nat} : s₀.Keeps (s.eraseSector a) := h.poke.touchFlash.count

theorem Keeps.eraseSectors (h : s₀.Keeps s) {a n : Nat} : s₀.Keeps (s.eraseSectors a n) := .foldl h fun _ _ h₁ => h₁.eraseSector

theorem Keeps.program32 (h : s₀.Keeps s) {a : Nat} {x : List Byte} : s₀.Keeps (s.program32 a x) := h.poke.touchFlash.upd

theorem Keeps.writeBootRec (h : s₀.Keeps s) {f : BootRec → BootRec} : s₀.Keeps (s.writeBootRec f) := h.eraseSector.program32.program32

theorem Keeps.raiseLevel (h : s₀.Keeps s) {n : Nat} : s₀.Keeps (s.raiseLevel n) := .ite h.upd h

theorem Keeps.putStored (h : s₀.Keeps s) {k : Nat} {v : List Byte} : s₀.Keeps (s.putStored k v) := by
  unfold Machine.State.putStored
  split
  · exact h
  · exact .ite h.upd h.setNum

theorem Keeps.makeRoom (h : s₀.Keeps s) {k w n : Nat} : s₀.Keeps (s.makeRoom k w n) := .foldl h fun _ _ h₁ => h₁.eraseSector

theorem Keeps.programWords (h : s₀.Keeps s) {k w n : Nat} {b : List Byte} : s₀.Keeps (s.programWords k w b n) := by
  induction n generalizing s w b with
  | zero => exact h
  | succ n ih => exact ih h.program32

theorem Keeps.writeSet (h : s₀.Keeps s) {k schema version : Nat} {payload : List Byte} : s₀.Keeps (s.writeSet k schema version payload) :=
  h.makeRoom.programWords.program32.count

theorem Keeps.writeMark (h : s₀.Keeps s) {k scope : Nat} : s₀.Keeps (s.writeMark k scope) := by
  unfold Machine.State.writeMark
  split
  · exact h
  · exact h.makeRoom.program32

theorem Keeps.finishCarves (h : s₀.Keeps s) : s₀.Keeps s.finishCarves := .foldl h fun _ _ h₁ => h₁.endTransfer

theorem Keeps.restoreSet (h : s₀.Keeps s) {st : Nat} {l : List (Nat × List Byte)} : s₀.KeepsSome (s.restoreSet st l) := by
  induction l generalizing s with
  | nil => exact h.isSome
  | cons x l ih =>
    unfold Machine.State.restoreSet
    split
    · next heq => exact ih ((KeepsFst.ite h.writeWindowSet h.writeResource).of_eq heq).finishCarves
    · exact fun _ ht => nomatch ht

theorem Keeps.restoreStation (h : s₀.Keeps s) {es : List (Nat × List Byte)} {st : Nat} : s₀.Keeps (s.restoreStation es st) := by
  unfold Machine.State.restoreStation
  dsimp only
  split
  · next heq => exact h.restoreSet _ heq
  · exact h.raise

theorem Keeps.loadEntries (h : s₀.Keeps s) {es : List (Nat × List Byte)} : s₀.Keeps (s.loadEntries es) :=
  .foldl (.foldl h fun _ _ h₁ => h₁.putStored) fun _ _ h₁ => h₁.restoreStation

theorem Keeps.loadPipelines (h : s₀.Keeps s) : s₀.Keeps s.loadPipelines := .foldl h fun _ _ h₁ => h₁.updPipe

theorem Keeps.startDefaults (h : s₀.Keeps s) {detail : Nat} : s₀.Keeps (s.startDefaults detail) := h.raise

theorem Keeps.settingsUnreadable (h : s₀.Keeps s) : s₀.Keeps s.settingsUnreadable := h.writeBootRec.clearCompute

theorem Keeps.selectSettings (h : s₀.Keeps s) : s₀.Keeps s.selectSettings := by
  unfold Machine.State.selectSettings
  refine .ite h ?_
  extract_lets
  split
  · refine .ite h.loadEntries.loadPipelines ?_
    refine .ite h.startDefaults ?_
    split
    · exact h.startDefaults
    · exact .ite h.writeSet.loadEntries.loadPipelines (.ite h.settingsUnreadable h.startDefaults)
  · refine .ite h.startDefaults ?_
    split
    · exact h.startDefaults
    · exact .ite h.writeSet.loadEntries.loadPipelines (.ite h.settingsUnreadable h.startDefaults)

theorem Keeps.reloadComm (h : s₀.Keeps s) : s₀.Keeps s.reloadComm := by
  unfold Machine.State.reloadComm
  extract_lets
  split
  · exact h.upd
  · exact .foldl h.upd fun _ _ h₁ => h₁.putStored

theorem Keeps.trainLp (h : s₀.Keeps s) {trained : Bool} : s₀.Keeps (s.trainLp trained) := .ite h (.ite h.updMem h.updMem.updMem.count.raise)

theorem Keeps.loadTcm (h : s₀.Keeps s) {p : Nat} : s₀.Keeps (s.loadTcm p) := h.poke

theorem Keeps.raiseAll (h : s₀.Keeps s) {l : List Ev} : s₀.Keeps (s.raiseAll l) := .foldl h fun _ _ h₁ => h₁.raise

theorem Keeps.startPressroom (h : s₀.Keeps s) : s₀.Keeps s.startPressroom :=
  Keeps.report h.loadTcm.loadTcm.same fun _ h => h

theorem Keeps.jump (h : s₀.Keeps s) {k : Nat} {trial : Bool} : s₀.Keeps (s.jump k trial) := by
  unfold Machine.State.jump
  exact (Keeps.startPressroom (.ite (Keeps.raise (.ite h.upd.raiseLevel h.upd)) (.ite h.upd.raiseLevel h.upd))).selectSettings

theorem Keeps.recover (h : s₀.Keeps s) : s₀.Keeps s.recover := h.poke.upd.upd.writeHpCtrl

theorem Keeps.halt (h : s₀.Keeps s) {code : Nat} : s₀.Keeps (s.halt code) := h.upd

theorem Keeps.bootFrom (h : s₀.Keeps s) {mode : Nat} : s₀.Keeps (s.bootFrom mode) := by
  unfold Machine.State.bootFrom
  extract_lets
  split
  · exact h.raiseAll.writeBootRec.jump
  · exact .ite h.raiseAll.writeBootRec.recover h.raiseAll.writeBootRec.halt

theorem Keeps.leaveReset (h : s₀.Keeps s) {mode : Nat} {vddioKept : Bool} : s₀.Keeps (s.leaveReset mode vddioKept) :=
  .ite h.clearCompute.upd.raise h.clearCompute.upd

theorem Keeps.execComputeResetRelease (h : s₀.Keeps s) {bootmode : Fin 4} {vddioKept : Bool} {lpTrained : Bool} : s₀.Answers (execComputeResetRelease bootmode vddioKept lpTrained s) :=
  Keeps.next (.ite h (.ite h.leaveReset.halt (.ite (.ite h.leaveReset.halt h.leaveReset) (.ite h.leaveReset.trainLp.writeBootRec.recover h.leaveReset.trainLp.bootFrom))))

theorem Keeps.execBootWatchdogExpiry (h : s₀.Keeps s) : s₀.Answers (execBootWatchdogExpiry s) := Keeps.next (.ite h h.clearCompute.upd)

theorem Keeps.execBootOk (h : s₀.Keeps s) {value : BitVec 32} : s₀.Answers (execBootOk value s) := Keeps.next (.ite h.upd h)

theorem Keeps.execBootLpcfgWrite (h : s₀.Keeps s) {value : BitVec 128} : s₀.Answers (execBootLpcfgWrite value s) := h.writeBootRec.next

theorem Keeps.flashCommand (h : s₀.Keeps s) {f : State → Nat → State} (hf : ∀ s x, s₀.Keeps s → s₀.Keeps (f s x)) : s₀.Keeps (s.flashCommand f) :=
  .ite h.upd ((hf _ _ h).upd)

theorem Keeps.execFlashProgram (h : s₀.Keeps s) : s₀.Answers (execFlashProgram s) := (h.flashCommand fun _ _ h₁ => h₁.program32).next

theorem Keeps.execFlashErase (h : s₀.Keeps s) : s₀.Answers (execFlashErase s) := (h.flashCommand fun _ _ h₁ => h₁.eraseSector).next

theorem Keeps.execFlashCommandComplete (h : s₀.Keeps s) : s₀.Answers (execFlashCommandComplete s) := h.upd.next

theorem Keeps.refuse (h : s₀.Keeps s) : s₀.KeepsFst s.refuse := h.pair

theorem Keeps.clearCounter (h : s₀.Keeps s) {idx sub : Nat} : s₀.Keeps (s.clearCounter idx sub) := h.same

theorem Keeps.writeCounter (h : s₀.Keeps s) {idx sub v : Nat} : s₀.KeepsFst (s.writeCounter idx sub v) := by
  unfold Machine.State.writeCounter
  split
  · exact h.pair
  · exact .ite h.pair (.ite h.pair (.ite h.clearCounter.pair h.pair))

theorem Keeps.regAnswer (h : s₀.Keeps s) {ok : Bool} : s₀.Keeps (s.regAnswer ok) := h.upd

theorem Keeps.execCounterClear (h : s₀.Keeps s) {index : BitVec 16} {sub : BitVec 8} {value : BitVec 32} {mirror : Bool} : s₀.Answers (execCounterClear index sub value mirror s) :=
  Keeps.next (.ite (.ite h (.ite (.ite h.clearCounter.regAnswer h.regAnswer) h.count.regAnswer)) (h.served h.writeCounter))

theorem Keeps.clearObject (h : s₀.Keeps s) {idx : Nat} : s₀.KeepsSome (s.clearObject idx) := by
  unfold Machine.State.clearObject
  split
  · exact fun _ ht => nomatch ht
  · exact h.same.isSome

theorem Keeps.execCounterObjectClear (h : s₀.Keeps s) {index : BitVec 16} {viaRegister : Bool} :
    s₀.Answers (execCounterObjectClear index viaRegister s) := by
  refine Keeps.next (.ite (.ite h ?_) (h.served ?_))
  · split
    · next heq => exact (h.clearObject _ heq).regAnswer
    · exact h.regAnswer
  · split
    · next heq => exact (h.clearObject _ heq).pair
    · exact h.pair

theorem Keeps.execErrorHistoryClear (h : s₀.Keeps s) {value : BitVec 8} : s₀.Answers (execErrorHistoryClear value s) :=
  (h.served (.ite h.histCleared.pair h.pair)).next

theorem Keeps.execEventLogClear (h : s₀.Keeps s) {value : BitVec 8} : s₀.Answers (execEventLogClear value s) :=
  (h.served (.ite h.logCleared.pair h.pair)).next

theorem Keeps.revokeKey (h : s₀.Keeps s) {v : Nat} : s₀.KeepsFst (s.revokeKey v) := .ite h.pair (.ite h.pair (.ite h.refuse h.upd.raise.pair))

theorem Keeps.execKeyRevoke (h : s₀.Keeps s) {value : BitVec 8} : s₀.Answers (execKeyRevoke value s) := (h.served h.revokeKey).next

theorem Keeps.progress (h : s₀.Keeps s) {k len : Nat} : s₀.Keeps (s.progress k len) := .ite h.upd.writeBootRec h.upd

theorem Keeps.updateBegin (h : s₀.Keeps s) : s₀.KeepsFst s.updateBegin :=
  .ite h.refuse (.ite h.writeBootRec.upd.progress.pair h.writeBootRec.eraseSector.eraseSector.upd.pair)

theorem Keeps.execUpdateBegin (h : s₀.Keeps s) : s₀.Answers (execUpdateBegin s) := (h.served h.updateBegin).next

theorem Keeps.updateBlock (h : s₀.Keeps s) {data : List Byte} : s₀.KeepsFst (s.updateBlock data) :=
  .ite h.pair (.ite h.count.refuse (.ite h.count.pair (.ite h.count.raise.pair (((((Keeps.program32 (.ite h h.eraseSector)).upd).progress).count).pair))))

theorem Keeps.execUpdateBlock (h : s₀.Keeps s) {data : List Byte} : s₀.Answers (execUpdateBlock data s) := (h.served h.updateBlock).next

theorem Keeps.updateVerify (h : s₀.Keeps s) : s₀.KeepsFst s.updateVerify := .ite h.startLong.pair h.refuse

theorem Keeps.execUpdateVerify (h : s₀.Keeps s) : s₀.Answers (execUpdateVerify s) := (h.served h.updateVerify).next

theorem Keeps.verifyImage (h : s₀.Keeps s) {k : Nat} : s₀.KeepsFst (s.verifyImage k) :=
  .ite h.upd.writeBootRec.pair h.upd.writeBootRec.count.raise.pair

theorem Keeps.updateActivate (h : s₀.Keeps s) : s₀.KeepsFst s.updateActivate := .ite h.refuse h.writeBootRec.upd.pair

theorem Keeps.execUpdateActivate (h : s₀.Keeps s) : s₀.Answers (execUpdateActivate s) := (h.served h.updateActivate).next

theorem Keeps.execActivateReset (h : s₀.Keeps s) : s₀.Answers (execActivateReset s) := Keeps.next (.ite h.clearCompute h)

theorem Keeps.updateConfirm (h : s₀.Keeps s) : s₀.KeepsFst s.updateConfirm := .ite h.refuse h.writeBootRec.raiseLevel.upd.raise.pair

theorem Keeps.execUpdateConfirm (h : s₀.Keeps s) : s₀.Answers (execUpdateConfirm s) := (h.served h.updateConfirm).next

theorem Keeps.updateCancel (h : s₀.Keeps s) : s₀.KeepsFst s.updateCancel := .ite h.writeBootRec.eraseSector.upd.pair h.refuse

theorem Keeps.execUpdateCancel (h : s₀.Keeps s) : s₀.Answers (execUpdateCancel s) := (h.served h.updateCancel).next

theorem Keeps.updPk (h : s₀.Keeps s) {p : Nat} {f : Package → Package} : s₀.Keeps (s.updPk p f) := h.upd

theorem Keeps.writeAs (h : s₀.Keeps s) {st a : Nat} {x : List Byte} : s₀.KeepsFst (s.writeAs st a x) := by
  unfold Machine.State.writeAs
  extract_lets
  split
  · exact h.violation.pair
  · split
    · rename_i heq
      have h₁ := h.memAccess.of_eq heq
      exact h₁.pair
    · rename_i heq
      have h₁ := h.memAccess.of_eq heq
      exact h₁.pair

theorem Keeps.packageSegment (h : s₀.Keeps s) {p off : Nat} {last : Bool} {data : List Byte} :
    s₀.KeepsFst (s.packageSegment p off last data) := by
  unfold Machine.State.packageSegment
  refine .ite h.refuse (.ite h.pair ?_)
  dsimp only
  split
  · next heq => exact ((KeepsFst.ite h.updPk.pair h.updPk.writeAs).of_eq heq).pair
  · next heq =>
    have h₁ := (KeepsFst.ite h.updPk.pair h.updPk.writeAs).of_eq heq
    exact (Keeps.ite h₁.updPk.startLong h₁.updPk).pair

theorem Keeps.execPackageImageSegment (h : s₀.Keeps s) {slot : Fin 64} {offset : BitVec 32} {last : Bool} {data : List Byte} : s₀.Answers (execPackageImageSegment slot offset last data s) :=
  (h.served h.packageSegment).next

theorem Keeps.installPackage (h : s₀.Keeps s) {p : Nat} : s₀.KeepsFst (s.installPackage p) := .ite h.poke.updPk.pair h.updPk.pair

theorem Keeps.packageVerify (h : s₀.Keeps s) {p : Nat} : s₀.KeepsFst (s.packageVerify p) := .ite h.startLong.pair h.refuse

theorem Keeps.execPackageVerify (h : s₀.Keeps s) {slot : Fin 64} : s₀.Answers (execPackageVerify slot s) := (h.served h.packageVerify).next

theorem Keeps.verifyPackage (h : s₀.Keeps s) {p : Nat} : s₀.KeepsFst (s.verifyPackage p) := .ite h.updPk.pair h.updPk.pair

theorem Keeps.packageRemove (h : s₀.Keeps s) {p : Nat} : s₀.KeepsFst (s.packageRemove p) := .ite h.refuse h.updPk.pair

theorem Keeps.execPackageRemove (h : s₀.Keeps s) {slot : Fin 64} : s₀.Answers (execPackageRemove slot s) := (h.served h.packageRemove).next

theorem Keeps.writeStore (h : s₀.Keeps s) {scope v : Nat} : s₀.KeepsFst (s.writeStore scope v) := .ite h.startLong.pair h.refuse

theorem Keeps.execStoreParameters (h : s₀.Keeps s) {scope : Fin 4} {value : BitVec 32} : s₀.Answers (execStoreParameters scope value s) :=
  (h.served h.writeStore).next

theorem Keeps.writeRestore (h : s₀.Keeps s) {scope v : Nat} : s₀.KeepsFst (s.writeRestore scope v) := .ite h.startLong.pair h.refuse

theorem Keeps.execRestoreDefaults (h : s₀.Keeps s) {scope : Fin 4} {value : BitVec 32} : s₀.Answers (execRestoreDefaults scope value s) :=
  (h.served h.writeRestore).next

theorem Keeps.storeSettings (h : s₀.Keeps s) {scope : Nat} {ok : Bool} : s₀.KeepsFst (s.storeSettings scope ok) :=
  .ite h.count.raise.pair h.writeSet.pair

theorem Keeps.finishTest (h : s₀.Keeps s) {failed : Nat} : s₀.KeepsFst (s.finishTest failed) :=
  Keeps.pair (.foldl h.upd fun _ _ h₁ => .ite h₁.retireCore h₁.zeroCore.coreFree)

theorem Keeps.longWork (h : s₀.Keeps s) {o : LongOp} {ok : Bool} {failed : Nat} : s₀.KeepsFst (s.longWork o ok failed) := by
  unfold Machine.State.longWork
  split
  · exact h.storeSettings
  · exact .ite (Keeps.pair (.ite h h.writeMark)) h.pair
  · exact h.installPackage
  · exact h.verifyPackage
  · exact h.verifyImage
  · exact h.finishTest
  · exact h.tearDown.pair

theorem Keeps.endLong (h : s₀.Keeps s) {o : LongOp} {result : Nat} : s₀.Keeps (s.endLong o result) := h.upd.raise

theorem Keeps.execLongOperationComplete (h : s₀.Keeps s) {ok : Bool} {failed : BitVec 16} : s₀.Answers (execLongOperationComplete ok failed s) := by
  unfold Machine.execLongOperationComplete
  refine Keeps.next ?_
  split
  · exact h
  · exact .ite h h.longWork.fst.endLong

theorem Keeps.execLongOperationTimeout (h : s₀.Keeps s) : s₀.Answers (execLongOperationTimeout s) := by
  unfold Machine.execLongOperationTimeout
  refine Keeps.next ?_
  split
  · exact h
  · exact h.endLong

theorem Keeps.ringEcc (h : s₀.Keeps s) {r : Nat} {err : MemErr} : s₀.Keeps (s.ringEcc r err) := by
  unfold Machine.State.ringEcc
  split
  · exact h.count
  · exact h.putRing.count.raise
  · exact h

theorem Keeps.quoinEcc (h : s₀.Keeps s) {q : Nat} {err : MemErr} : s₀.Keeps (s.quoinEcc q err) := by
  unfold Machine.State.quoinEcc
  split
  · exact h.count
  · exact h.putQuoin.count.raise.failParked
  · exact h

theorem Keeps.passRead (h : s₀.Keeps s) {r : Nat} : s₀.KeepsFst (s.passRead r) := .ite h.pair h.upd.pair

theorem Keeps.passStep (h : s₀.Keeps s) {r i : Nat} : s₀.Keeps (s.passStep r i) := .ite h.upd (.ite h.upd.count h.upd.count)

theorem Keeps.execDeepStoreScrubRead (h : s₀.Keeps s) {ch : Fin 8} {err : MemErr} : s₀.Answers (execDeepStoreScrubRead ch err s) := by
  unfold Machine.execDeepStoreScrubRead
  refine Keeps.next ?_
  refine .ite h ?_
  refine .ite ?_ ?_
  · split
    · exact h.passRead.fst.count.updChan
    · exact h.passRead.fst.dsUncorrectable
    · exact h.passRead.fst
  · refine Keeps.passStep ?_
    split
    · exact h.passRead.fst.count.updChan
    · exact h.passRead.fst.dsUncorrectable
    · exact h.passRead.fst

theorem Keeps.execRingTableScrubRead (h : s₀.Keeps s) {err : MemErr} : s₀.Answers (execRingTableScrubRead err s) :=
  Keeps.next (.ite h h.passRead.fst.ringEcc.passStep)

theorem Keeps.execScrubPassLate (h : s₀.Keeps s) {res : Fin 9} : s₀.Answers (execScrubPassLate res s) := Keeps.next (.ite h h.upd.count)

theorem Keeps.execScrubForcedMode (h : s₀.Keeps s) {res : Fin 9} : s₀.Answers (execScrubForcedMode res s) := Keeps.next (.ite h h.upd.raise)

theorem Keeps.execForcedIntervalStart (h : s₀.Keeps s) {res : Fin 9} : s₀.Answers (execForcedIntervalStart res s) := Keeps.next (.ite h h.upd.count)

theorem Keeps.execForcedIntervalEnd (h : s₀.Keeps s) {res : Fin 9} : s₀.Answers (execForcedIntervalEnd res s) := h.upd.next

theorem Keeps.execPhyCalibrationStart (h : s₀.Keeps s) {ch : Fin 16} : s₀.Answers (execPhyCalibrationStart ch s) := Keeps.next (.ite h.upd h)

theorem Keeps.execPhyCalibrationComplete (h : s₀.Keeps s) {ch : Fin 16} : s₀.Answers (execPhyCalibrationComplete ch s) :=
  Keeps.next (.ite h h.upd.count)

theorem Keeps.execCalibrationPeriodEnd (h : s₀.Keeps s) {ch : Fin 16} : s₀.Answers (execCalibrationPeriodEnd ch s) :=
  Keeps.next (.ite h (.ite h.upd (.ite h.upd.count.raise h.upd.count)))

theorem Keeps.execEraseAhead (h : s₀.Keeps s) : s₀.Answers (execEraseAhead s) := by
  unfold Machine.execEraseAhead
  refine Keeps.next ?_
  refine .ite h ?_
  extract_lets
  split
  · exact h
  · exact h.eraseSector.count

theorem Keeps.tempDue (h : s₀.Keeps s) : s₀.Keeps s.tempDue := .foldl h fun _ _ h₁ => .ite h₁.upd h₁

theorem Keeps.execTelemetryRead (h : s₀.Keeps s) {t0 t1 t2 t3 neural soc vfield : BitVec 16} : s₀.Answers (execTelemetryRead t0 t1 t2 t3 neural soc vfield s) :=
  Keeps.next (.ite h (.ite h.upd.tempDue.count.raise h.upd.tempDue))

theorem Keeps.errors (h : s₀.Keeps s) {p : Nat} {f : CanPort → CanPort} : s₀.Keeps (s.errors p f) := .ite h.updPort.count.raise h.updPort

theorem Keeps.endLonely (h : s₀.Keeps s) {p : Nat} : s₀.Keeps (s.endLonely p) := .ite h.updPort.raise h.updPort

theorem Keeps.recDown (h : s₀.Keeps s) {p : Nat} : s₀.Keeps (s.recDown p) := .ite h (.ite h.updPort h.upd.updPort)

theorem Keeps.receive (h : s₀.Keeps s) {p : Nat} : s₀.Keeps (s.receive p) := h.count.recDown.endLonely.occur

theorem Keeps.takeFrame (h : s₀.Keeps s) {p : Nat} : s₀.Keeps (s.takeFrame p) := by
  unfold Machine.State.takeFrame
  split
  · exact h.receive
  · exact h.updPort

theorem Keeps.onPort (h : s₀.Keeps s) {p : Nat} {f : State → State} (hf : ∀ s, s₀.Keeps s → s₀.Keeps (f s)) : s₀.Keeps (s.onPort p f) :=
  .ite (hf _ h.takeFrame) h

theorem Keeps.onCanopen (h : s₀.Keeps s) {p : Nat} {f : State → State} (hf : ∀ s, s₀.Keeps s → s₀.Keeps (f s)) : s₀.Keeps (s.onCanopen p f) :=
  h.onPort fun _ h₁ => .ite h₁.count (.ite h₁ (hf _ h₁))

theorem Keeps.sendCan (h : s₀.Keeps s) {p : Nat} {m : CanMsg} : s₀.Keeps (s.sendCan p m) := .ite h (.ite h.updPort.count h.updPort)

theorem Keeps.dropTx (h : s₀.Keeps s) {p : Nat} {m : CanMsg} : s₀.Keeps (s.dropTx p m) := h.updPort

theorem Keeps.enterLonely (h : s₀.Keeps s) {p : Nat} : s₀.Keeps (s.enterLonely p) := h.same.updPort.count.raise.countN

theorem Keeps.checkBusOff (h : s₀.Keeps s) {p : Nat} : s₀.Keeps (s.checkBusOff p) := .ite h.updPort.count.raise h

theorem Keeps.txAcked (h : s₀.Keeps s) {p : Nat} {m : CanMsg} : s₀.Keeps (s.txAcked p m) := h.dropTx.count.endLonely.updPort

theorem Keeps.txAckError (h : s₀.Keeps s) {p : Nat} {m : CanMsg} : s₀.Keeps (s.txAckError p m) :=
  .ite (Keeps.dropTx (.ite h.count.errors.updPort.enterLonely h.count.errors.updPort)) (.ite h.count.errors.updPort.enterLonely h.count.errors.updPort)

theorem Keeps.txError (h : s₀.Keeps s) {p : Nat} {m : CanMsg} : s₀.Keeps (s.txError p m) := Keeps.checkBusOff (.ite h.errors.dropTx h.errors)

theorem Keeps.execCanFrameTransmit (h : s₀.Keeps s) {port : Fin 2} {result : TxResult} : s₀.Answers (execCanFrameTransmit port result s) := by
  unfold Machine.execCanFrameTransmit
  refine Keeps.next ?_
  refine .ite h ?_
  refine .ite ?_ ?_
  · split
    · exact h
    · exact h.dropTx.count
  · refine .ite h ?_
    split
    · exact h
    · split
      · exact h.txAcked
      · exact h.txAckError
      · exact h.txError

theorem Keeps.execBusOffRecovery (h : s₀.Keeps s) {port : Fin 2} : s₀.Answers (execBusOffRecovery port s) := Keeps.next (.ite h.updPort.raise h)

theorem Keeps.execCanReceiveError (h : s₀.Keeps s) {port : Fin 2} {heavy : Bool} : s₀.Answers (execCanReceiveError port heavy s) :=
  Keeps.next (.ite h h.errors)

theorem Keeps.execCanRx (h : s₀.Keeps s) {port : Fin 2} {fmt : FrameFmt} {id : BitVec 29} {rtr : Bool} {sec : Bool} {data : List Byte} : s₀.Answers (execCanRx port fmt id rtr sec data s) := by
  unfold Machine.execCanRx
  refine Keeps.next ?_
  refine .ite h ?_
  refine .ite h.receive.count.raise ?_
  split <;> exact h.receive.updPort

theorem Keeps.execCanFrameDiscard (h : s₀.Keeps s) {port : Fin 2} : s₀.Answers (execCanFrameDiscard port s) := by
  unfold Machine.execCanFrameDiscard
  refine Keeps.next ?_
  split
  · exact h.onPort fun _ h₁ => h₁.count
  · exact .ite (h.onPort fun _ h₁ => h₁.count) h

theorem Keeps.execCanWakeup (h : s₀.Keeps s) {port : Fin 2} {dominant5us : Bool} {pattern : Bool} : s₀.Answers (execCanWakeup port dominant5us pattern s) :=
  Keeps.next (.ite h.upd.fieldWake.fdRaise h)

theorem Keeps.updTpdo (h : s₀.Keeps s) {p n : Nat} {f : TpdoState → TpdoState} : s₀.Keeps (s.updTpdo p n f) := h.updPort

theorem Keeps.queueTpdo (h : s₀.Keeps s) {p n : Nat} : s₀.Keeps (s.queueTpdo p n) := .ite h.updTpdo.count h.updTpdo

theorem Keeps.queueWhere (h : s₀.Keeps s) {p : Nat} {c : State → Nat → Bool} : s₀.Keeps (s.queueWhere p c) :=
  .foldl h fun _ _ h₁ => .ite h₁.queueTpdo h₁

theorem Keeps.startPdos (h : s₀.Keeps s) {p : Nat} : s₀.Keeps (s.startPdos p) := h.queueWhere

theorem Keeps.execTpdoChangeCheck (h : s₀.Keeps s) : s₀.Answers (execTpdoChangeCheck s) := h.queueWhere.queueWhere.next

theorem Keeps.execTpdoEventTimer (h : s₀.Keeps s) {port : Fin 2} {n : Fin 8} : s₀.Answers (execTpdoEventTimer port n s) :=
  Keeps.next (.ite h.queueTpdo h)

theorem Keeps.execTpdoTransmit (h : s₀.Keeps s) {port : Fin 2} {n : Fin 8} : s₀.Answers (execTpdoTransmit port n s) :=
  Keeps.next (.ite h.updTpdo.sendCan h)

theorem Keeps.applyRpdo (h : s₀.Keeps s) {l : List Nat} {x : List Byte} : s₀.Keeps (s.applyRpdo l x) := by
  induction l generalizing s x with
  | nil => exact h
  | cons m l ih => exact ih h.writeAdmit.fst

theorem Keeps.takeRpdo (h : s₀.Keeps s) {p n : Nat} {x : List Byte} : s₀.Keeps (s.takeRpdo p n x) := .ite h.applyRpdo h.updPort

theorem Keeps.execRpdoReceive (h : s₀.Keeps s) {port : Fin 2} {n : Fin 8} {data : List Byte} : s₀.Answers (execRpdoReceive port n data s) :=
  (h.onCanopen fun _ h₁ => .ite h₁ (.ite h₁.count (.ite h₁.count.raise (.ite h₁.count.raise.takeRpdo h₁.takeRpdo)))).next

theorem Keeps.syncTpdo (h : s₀.Keeps s) {p n : Nat} : s₀.Keeps (s.syncTpdo p n) := .ite h (.ite (.ite h h.queueTpdo) (.ite h.queueTpdo h.updTpdo))

theorem Keeps.execSyncReceive (h : s₀.Keeps s) {port : Fin 2} : s₀.Answers (execSyncReceive port s) :=
  (h.onCanopen fun _ h₁ => .ite h₁ (.foldl (.foldl h₁.updPort fun _ _ h₂ => h₂.applyRpdo) fun _ _ h₂ => h₂.syncTpdo)).next

theorem Keeps.execEmcyTransmit (h : s₀.Keeps s) {port : Fin 2} : s₀.Answers (execEmcyTransmit port s) := by
  unfold Machine.execEmcyTransmit
  refine Keeps.next ?_
  split
  · exact h
  · exact .ite (.ite h.same h.same.updPort.sendCan) h

theorem Keeps.execErrorRegisterCheck (h : s₀.Keeps s) : s₀.Answers (execErrorRegisterCheck s) :=
  Keeps.next (.ite h (.ite (h.same.report fun _ h₁ => h₁.emcyPort.emcyPort) h.same))

theorem Keeps.resetComm (h : s₀.Keeps s) {p : Nat} : s₀.Keeps (s.resetComm p) := .ite h.updPort.same h.updPort.same.sendCan.updPort

theorem Keeps.freshConsumer (h : s₀.Keeps s) {i : Nat} : s₀.Keeps (s.freshConsumer i) := h.updPort.updPort

theorem Keeps.reloadShared (h : s₀.Keeps s) : s₀.Keeps s.reloadShared := .foldl h.reloadComm fun _ _ h₁ => .ite h₁ h₁.freshConsumer

theorem Keeps.nmt (h : s₀.Keeps s) {p : Nat} {node : BitVec 8} {f : State → State} (hf : ∀ s, s₀.Keeps s → s₀.Keeps (f s)) : s₀.Keeps (s.nmt p node f) :=
  h.onCanopen fun _ h₁ => .ite (hf _ h₁) h₁

theorem Keeps.enterNmt (h : s₀.Keeps s) {p : Nat} {x : NmtState} : s₀.Keeps (s.enterNmt p x) := h.updPort

theorem Keeps.execNmtStart (h : s₀.Keeps s) {port : Fin 2} {node : BitVec 8} : s₀.Answers (execNmtStart port node s) :=
  (h.nmt fun _ h₁ => .ite h₁ h₁.enterNmt.startPdos).next

theorem Keeps.execNmtStop (h : s₀.Keeps s) {port : Fin 2} {node : BitVec 8} : s₀.Answers (execNmtStop port node s) :=
  (h.nmt fun _ h₁ => h₁.enterNmt).next

theorem Keeps.execNmtEnterPreOperational (h : s₀.Keeps s) {port : Fin 2} {node : BitVec 8} : s₀.Answers (execNmtEnterPreOperational port node s) :=
  (h.nmt fun _ h₁ => h₁.enterNmt).next

theorem Keeps.execNmtResetNode (h : s₀.Keeps s) {port : Fin 2} {node : BitVec 8} : s₀.Answers (execNmtResetNode port node s) :=
  (h.nmt fun _ h₁ => h₁.reloadShared.resetComm).next

theorem Keeps.execNmtResetCommunication (h : s₀.Keeps s) {port : Fin 2} {node : BitVec 8} : s₀.Answers (execNmtResetCommunication port node s) :=
  (h.nmt fun _ h₁ => h₁.resetComm).next

theorem Keeps.execHeartbeatProducer (h : s₀.Keeps s) {port : Fin 2} : s₀.Answers (execHeartbeatProducer port s) := Keeps.next (.ite h.sendCan h)

theorem Keeps.execHeartbeatConsumerTimeout (h : s₀.Keeps s) {port : Fin 2} {entry : Fin 4} : s₀.Answers (execHeartbeatConsumerTimeout port entry s) :=
  Keeps.next (.ite h.updPort.count.raise h)

theorem Keeps.lssOn (h : s₀.Keeps s) {p : Nat} {f : State → Lss → State} (hf : ∀ s x, s₀.Keeps s → s₀.Keeps (f s x)) : s₀.Keeps (s.lssOn p f) :=
  h.onCanopen fun _ h₁ => .ite h₁ (hf _ _ h₁)

theorem Keeps.lssConfig (h : s₀.Keeps s) {p : Nat} {f : State → State} (hf : ∀ s, s₀.Keeps s → s₀.Keeps (f s)) : s₀.Keeps (s.lssConfig p f) :=
  h.lssOn fun _ _ h₁ => .ite (hf _ h₁) h₁

theorem Keeps.setLss (h : s₀.Keeps s) {p : Nat} {l : Lss} : s₀.Keeps (s.setLss p l) := h.updPort

theorem Keeps.execLssSwitchStateGlobal (h : s₀.Keeps s) {port : Fin 2} {config : Bool} : s₀.Answers (execLssSwitchStateGlobal port config s) :=
  (h.lssOn fun _ _ h₁ => h₁.setLss).next

theorem Keeps.execLssSwitchStateSelective (h : s₀.Keeps s) {port : Fin 2} {field : Fin 4} {value : BitVec 32} : s₀.Answers (execLssSwitchStateSelective port field value s) :=
  (h.lssOn fun _ _ h₁ => .ite h₁ (.ite (.ite h₁.setLss.sendCan h₁.setLss) h₁.setLss)).next

theorem Keeps.execLssConfigureNodeId (h : s₀.Keeps s) {port : Fin 2} {node : BitVec 8} : s₀.Answers (execLssConfigureNodeId port node s) :=
  (h.lssConfig fun _ h₁ => .ite h₁.setNum.sendCan h₁.sendCan).next

theorem Keeps.execLssConfigureBitTiming (h : s₀.Keeps s) {port : Fin 2} {table : BitVec 8} {index : BitVec 8} : s₀.Answers (execLssConfigureBitTiming port table index s) :=
  (h.lssConfig fun _ h₁ => .ite h₁.setLss.sendCan h₁.sendCan).next

theorem Keeps.execLssActivateBitTiming (h : s₀.Keeps s) {port : Fin 2} : s₀.Answers (execLssActivateBitTiming port s) :=
  (h.lssConfig fun _ h₁ => h₁.updPort).next

theorem Keeps.execLssStoreConfiguration (h : s₀.Keeps s) {port : Fin 2} : s₀.Answers (execLssStoreConfiguration port s) := by
  unfold Machine.execLssStoreConfiguration
  refine Keeps.next ?_
  refine h.lssConfig fun _ h₁ => ?_
  refine Keeps.sendCan ?_
  split
  · exact h₁.setNum
  · exact h₁

theorem Keeps.execLssInquireIdentity (h : s₀.Keeps s) {port : Fin 2} {field : Fin 4} : s₀.Answers (execLssInquireIdentity port field s) :=
  (h.lssConfig fun _ h₁ => h₁.sendCan).next

theorem Keeps.execLssInquireNodeId (h : s₀.Keeps s) {port : Fin 2} : s₀.Answers (execLssInquireNodeId port s) :=
  (h.lssConfig fun _ h₁ => h₁.sendCan).next

theorem Keeps.execLssIdentifyRemoteSlave (h : s₀.Keeps s) {port : Fin 2} {field : Fin 6} {value : BitVec 32} : s₀.Answers (execLssIdentifyRemoteSlave port field value s) :=
  (h.lssOn fun _ _ h₁ => .ite (.ite h₁.setLss.sendCan h₁.setLss) h₁.setLss).next

theorem Keeps.execLssFastscan (h : s₀.Keeps s) {port : Fin 2} {id : BitVec 32} {bitChecked : Fin 129} {sub : Fin 4} {next : Fin 4} : s₀.Answers (execLssFastscan port id bitChecked sub next s) :=
  (h.lssOn fun _ _ h₁ => .ite h₁ (.ite h₁.setLss.sendCan (.ite (Keeps.sendCan (.ite h₁.setLss h₁)) h₁))).next

theorem Keeps.execProtocolSideReturn (h : s₀.Keeps s) : s₀.Answers (execProtocolSideReturn s) :=
  Keeps.next (.ite (.foldl h fun _ _ h₁ => .ite h₁ h₁.updPort.resetComm) h)

theorem Keeps.done (h : s₀.Keeps s) : s₀.KeepsFst (done s) := h.pair

theorem Keeps.setPlain (h : s₀.Keeps s) {idx sub v : Nat} : s₀.KeepsFst (s.setPlain idx sub v) := h.setNum.done

theorem Keeps.putDom (h : s₀.Keeps s) {idx sub : Nat} {b : List Byte} : s₀.Keeps (s.putDom idx sub b) := h.upd

theorem Keeps.badValue (h : s₀.Keeps s) : s₀.KeepsFst s.badValue := h.pair

theorem Keeps.writePdoComm (h : s₀.Keeps s) {idx sub v : Nat} : s₀.KeepsFst (s.writePdoComm idx sub v) :=
  .ite (.ite h.badValue h.setPlain) (.ite (.ite h.badValue h.setPlain) (.ite (.ite h.badValue h.setPlain) h.setPlain))

theorem Keeps.writePdoMap (h : s₀.Keeps s) {idx sub v : Nat} : s₀.KeepsFst (s.writePdoMap idx sub v) :=
  .ite h.refuse (.ite (.ite h.pair (.ite h.pair h.setPlain)) (.ite h.refuse (.ite h.pair h.setPlain)))

theorem Keeps.writeComm (h : s₀.Keeps s) {idx sub v : Nat} : s₀.KeepsFst (s.writeComm idx sub v) :=
  .ite (.ite h.histCleared.done h.badValue) (.ite h.writeStore (.ite h.writeRestore (.ite h.setNum.freshConsumer.done (.ite h.setPlain (.ite h.writePdoComm h.writePdoMap)))))

theorem Keeps.writeWc (h : s₀.Keeps s) {n sub v : Nat} : s₀.KeepsFst (s.writeWc n sub v) := by
  unfold Machine.State.writeWc
  split
  · exact h.writeDecode
  · exact h.writeLen
  · exact h.writeMarkCfg
  · exact h.writeMarkCfg
  · exact h.writeMarkCfg
  · exact .ite h.returnToPrimary h.acknowledgeLost
  · exact .ite h.badValue (h.fieldWrite fun _ h₁ => .ite h₁.refuse (.ite h₁.refuse h₁.applyField.done))

theorem Keeps.writeKicker (h : s₀.Keeps s) {n sub v : Nat} : s₀.KeepsFst (s.writeKicker n sub v) := by
  unfold Machine.State.writeKicker
  split
  · exact h.writeKickEnable
  · exact .ite h.retryNow h.clearOpenOn
  · exact h.fieldWrite fun _ h₁ => h₁.applyField.done

theorem Keeps.writePins (h : s₀.Keeps s) {idx sub v : Nat} : s₀.KeepsFst (s.writePins idx sub v) :=
  .ite h.retryTriggers (h.fieldWrite fun _ h₁ => .ite h₁.refuse h₁.applyField.done)

theorem Keeps.writeIc (h : s₀.Keeps s) {n sub v : Nat} : s₀.KeepsFst (s.writeIc n sub v) := by
  unfold Machine.State.writeIc
  split
  · exact .ite h.enableChannel h.disableChannel
  · exact .ite h.resetChannel h.flushSerial
  · split
    · exact h.pair
    · exact h.setPlain

theorem Keeps.bothSets (h : s₀.Keeps s') {n : Nat} : s₀.Keeps (s.bothSets s' n) := .ite h.updPipe h

theorem Keeps.writeIsp (h : s₀.Keeps s) {n sub v : Nat} : s₀.KeepsFst (s.writeIsp n sub v) := by
  unfold Machine.State.writeIsp
  refine .ite h.applySet ?_
  dsimp only
  split
  · exact h.pair
  · exact h.setNum.bothSets.done

theorem Keeps.writeIspDom (h : s₀.Keeps s) {n idx sub : Nat} {b : List Byte} : s₀.KeepsFst (s.writeIspDom n idx sub b) := by
  unfold Machine.State.writeIspDom
  dsimp only
  split
  · exact h.pair
  · exact h.putDom.bothSets.done

theorem Keeps.writeResultRing (h : s₀.Keeps s) {sub v : Nat} : s₀.KeepsFst (s.writeResultRing sub v) := .ite h.setPlain h.refuse

theorem Keeps.writeStation (h : s₀.Keeps s) {st sub : Nat} {data : List Byte} : s₀.KeepsFst (s.writeStation st sub data) :=
  .ite h.writeWindowSet (.ite h.startTearDown (.ite h.writeAdmit (.ite h.writeRoster h.writeResource)))

theorem Keeps.writeCan (h : s₀.Keeps s) {p sub v : Nat} : s₀.KeepsFst (s.writeCan p sub v) := .ite h.badValue (.ite h.refuse h.setPlain)

theorem Keeps.writeUpdate (h : s₀.Keeps s) {sub v : Nat} : s₀.KeepsFst (s.writeUpdate sub v) := by
  unfold Machine.State.writeUpdate
  split
  · exact .ite h.updateBegin (.ite h.updateVerify (.ite h.updateActivate (.ite h.updateConfirm h.updateCancel)))
  · exact .ite h.refuse h.upd.done
  · exact h.upd.done
  · exact h.setPlain

theorem Keeps.writePackage (h : s₀.Keeps s) {p sub v : Nat} : s₀.KeepsFst (s.writePackage p sub v) := by
  unfold Machine.State.writePackage
  split
  · exact .ite h.updPk.done h.refuse
  · exact .ite h.badValue (.ite h.updPk.done h.refuse)
  · exact .ite h.packageVerify h.packageRemove

theorem Keeps.writeCore (h : s₀.Keeps s) {idx sub v : Nat} : s₀.KeepsFst (s.writeCore idx sub v) :=
  .ite h.writeRetire (.ite h.writeTest (.ite h.writeRequest h.setPlain))

theorem Keeps.writeLog (h : s₀.Keeps s) {sub v : Nat} : s₀.KeepsFst (s.writeLog sub v) := .ite h.upd.done h.logCleared.done

theorem Keeps.writeClear (h : s₀.Keeps s) {v : Nat} : s₀.KeepsFst (s.writeClear v) := by
  unfold Machine.State.writeClear
  split
  · next heq => exact (h.clearObject _ heq).done
  · exact h.badValue

theorem Keeps.writeNum (h : s₀.Keeps s) {idx sub v : Nat} {data : List Byte} : s₀.KeepsFst (s.writeNum idx sub v data) :=
  .ite h.writeComm (.ite h.writeWc (.ite h.setPlain (.ite h.writeIc (.ite h.writeIsp (.ite h.writeResultRing (.ite h.writeStation (.ite h.writeCore (.ite h.writeKicker (.ite h.writePins (.ite h.writeClear (.ite h.writeCounter (.ite h.writeUpdate (.ite h.revokeKey (.ite h.writeLog (.ite h.setPlain (.ite h.writeCan h.writePackage))))))))))))))))

theorem Keeps.writeDom (h : s₀.Keeps s) {idx sub : Nat} {data : List Byte} : s₀.KeepsFst (s.writeDom idx sub data) :=
  .ite h.writeIspDom (.ite h.writeIspDom (.ite h.writeStation h.updateBlock))

theorem Keeps.writeValue (h : s₀.Keeps s) {idx sub : Nat} {r : Row} {data : List Byte} : s₀.KeepsFst (s.writeValue idx sub r data) :=
  .ite (.ite h.writeDom h.pair) (.ite h.pair (.ite h.badValue h.writeNum))

theorem Keeps.imageSegment (h : s₀.Keeps s) {f p off : Nat} {last : Bool} {data : List Byte} : s₀.KeepsFst (s.imageSegment f p off last data) := by
  unfold Machine.State.imageSegment
  split
  · rename_i heq
    have h₁ := h.packageSegment.of_eq heq
    exact Keeps.done (.ite h₁.updPk h₁)
  · exact h.packageSegment

theorem Answers.ran {o : Host.Outcome State Fault Refusal} (h : s₀.Answers o) : s₀.Keeps (ran o s) := by
  obtain ⟨t, rfl, ht⟩ := h
  exact ht

theorem Keeps.regError (h : s₀.Keeps s) : s₀.Keeps s.regError := h.upd

theorem KeepsFst.answered {p : State × Option (List Byte)} (h : s₀.KeepsFst p) : s₀.Keeps (answered p) := by
  unfold State.answered
  split
  · exact Keeps.rdata h
  · exact Keeps.upd (Keeps.regError h)

theorem Keeps.regDone (h : s₀.Keeps s) : s₀.Keeps s.regDone := h.regAnswer

theorem Keeps.asEntry (h : s₀.Keeps s) {f : State → State × Resp} (hf : ∀ s, s₀.Keeps s → s₀.KeepsFst (f s)) : s₀.Keeps (s.asEntry f) := by
  unfold Machine.State.asEntry
  split
  · rename_i heq
    have h₁ := (hf _ h).of_eq heq
    exact h.regError
  · rename_i heq
    have h₁ := (hf _ h).of_eq heq
    exact h₁.regDone
  · rename_i heq
    have h₁ := (hf _ h).of_eq heq
    exact h₁.regDone

theorem Keeps.skipIf (h : s₀.Keeps s) {same : Bool} {f : State → State × Resp} (hf : ∀ s, s₀.Keeps s → s₀.KeepsFst (f s)) : s₀.KeepsFst (skipIf same f s) :=
  .ite h.pair (hf _ h)

theorem Keeps.writeWcCtrl (h : s₀.Keeps s) {n v : Nat} : s₀.Keeps (s.writeWcCtrl n v) :=
  .ite h.regError (h.asEntry fun _ h₁ => h₁.fieldWrite fun _ h₂ => ((h₂.skipIf fun _ h₃ => h₃.writeDecode).andThen fun _ h₃ => h₃.skipIf fun _ h₄ => h₄.writeWc).andThen fun _ h₃ => h₃.skipIf fun _ h₄ => h₄.writeWc)

theorem Keeps.writeFdStat (h : s₀.Keeps s) {v : Nat} : s₀.Keeps (s.writeFdStat v) := h.asEntry fun _ h₁ => h₁.fieldWrite fun _ h₂ => h₂.upd.pair

theorem Keeps.writeIcReg (h : s₀.Keeps s) {n : Fin 16} {off : Nat} {v : Nat} : s₀.Keeps (s.writeIcReg n off v) := by
  unfold Machine.State.writeIcReg
  split
  · exact h.asEntry fun _ h₁ => h₁.writeIc
  · exact h.execScpTxWrite.ran.regDone
  · exact h.execCciCmdWrite.ran.regDone
  · exact h.execXtrigPulse.ran.regDone

theorem Keeps.writeGranules (h : s₀.Keeps s) {c g v : Nat} : s₀.Keeps (s.writeGranules c g v) := h.updCore.regDone

theorem Keeps.writeRstReg (h : s₀.Keeps s) {off v : Nat} : s₀.Keeps (s.writeRstReg off v) := by
  unfold Machine.State.writeRstReg
  split
  · exact h.asEntry fun _ h₁ => h₁.writeRoster
  · exact h.upd.regDone

theorem Keeps.writeRgOp (h : s₀.Keeps s) {req : Requester} {v : Nat} : s₀.Keeps (s.writeRgOp req v) := by
  unfold Machine.State.writeRgOp
  extract_lets
  split
  · exact h.execRingClaim.ran
  · exact h.execRingCommit.ran
  · exact h.execRingAbandon.ran
  · exact h.execRingRelease.ran
  · exact h.regError

theorem Keeps.writeQnOp (h : s₀.Keeps s) {req : Requester} {v : Nat} : s₀.Keeps (s.writeQnOp req v) := by
  unfold Machine.State.writeQnOp
  extract_lets
  split
  · exact h.execQuoinSignal.ran
  · exact h.execQuoinReset.ran
  · exact h.execQuoinPoll.ran
  · exact h.regError

theorem Keeps.writeCarve (h : s₀.Keeps s) {req : Requester} {v : Nat} : s₀.Keeps (s.writeCarve req v) := .ite h.carveHalf.carveHalf h.carveHalf

theorem Keeps.writeRefReg (h : s₀.Keeps s) {req : Requester} {off : Nat} {v : Nat} : s₀.Keeps (s.writeRefReg req off v) :=
  .ite h.writeCarve h.upd.regDone

theorem Keeps.evcRefuse (h : s₀.Keeps s) : s₀.Keeps s.evcRefuse := h.count.regError

theorem Keeps.writeSrc (h : s₀.Keeps s) {id v : Nat} : s₀.Keeps (s.writeSrc id v) :=
  .ite (((((h.report fun _ h₁ => h₁.same).report fun _ h₁ => .ite h₁.same h₁).evaluate).evaluate).regDone) h.evcRefuse

theorem Keeps.writeTgt (h : s₀.Keeps s) {t v : Nat} : s₀.Keeps (s.writeTgt t v) := ((h.report fun _ h₁ => h₁.setTarget).evaluate).regDone

theorem Keeps.writeStk (h : s₀.Keeps s) {t : Fin 38} {v : Nat} : s₀.Keeps (s.writeStk t v) :=
  Keeps.regDone (.dite (fun _ => .ite ((Keeps.execEvcTagAck (.ite h.execEvcStackReset.ran h)).ran) (.ite h.execEvcStackReset.ran h)) fun _ => .ite h.execEvcStackReset.ran h)

theorem Keeps.writeEvcReg (h : s₀.Keeps s) {off v : Nat} : s₀.Keeps (s.writeEvcReg off v) :=
  .ite h.writeSrc (.dite (fun _ => .ite h.writeTgt h.writeStk) fun _ => h.execEvcSwset.ran.regDone)

theorem Keeps.writePwrCtrl (h : s₀.Keeps s) {v : Nat} : s₀.Keeps (s.writePwrCtrl v) :=
  .ite h.setNum.regDone (.ite h.regError (.ite h.sleepCommand h.setNum.sleepCommand))

theorem Keeps.writePwrReg (h : s₀.Keeps s) {off v : Nat} : s₀.Keeps (s.writePwrReg off v) := by
  unfold Machine.State.writePwrReg
  split
  · exact h.writePwrCtrl
  · exact h.setNum.regDone
  · exact h.setRtc.regDone
  · exact h.upd.regDone

theorem Keeps.writeFlashCmd (h : s₀.Keeps s) {v : Nat} : s₀.Keeps (s.writeFlashCmd v) := by
  unfold Machine.State.writeFlashCmd
  split
  · exact h.execFlashProgram.ran
  · exact h.execFlashErase.ran
  · exact h.regError

theorem Keeps.writeBootReg (h : s₀.Keeps s) {off v : Nat} : s₀.Keeps (s.writeBootReg off v) := by
  unfold Machine.State.writeBootReg
  split
  · exact h.execBootOk.ran.regDone
  · exact h.execBootLpcfgWrite.ran.regDone
  · exact h.upd.regDone
  · exact h.writeFlashCmd
  · exact h.upd.regDone

theorem Keeps.writeGkCtrl (h : s₀.Keeps s) {v : Nat} : s₀.Keeps (s.writeGkCtrl v) := .ite h.regError h.upd.regDone

theorem Keeps.writeGkReg (h : s₀.Keeps s) {off v : Nat} : s₀.Keeps (s.writeGkReg off v) :=
  .ite h.execCounterClear.ran (.ite h.writeGkCtrl h.execCounterObjectClear.ran)

theorem Keeps.writeHpReg (h : s₀.Keeps s) {off v : Nat} : s₀.Keeps (s.writeHpReg off v) :=
  .ite h.writeHpCtrl.regDone (.ite h.upd.regDone (.ite h.updMac.regDone (.ite h.execPhcSet.ran.regDone h.setPhcAdj.regDone)))

theorem Keeps.regWrite (h : s₀.Keeps s) {req : Requester} {block : Nat} {off : Nat} {v : Nat} : s₀.Keeps (s.regWrite req block off v) := by
  unfold Machine.State.regWrite
  split
  · exact h.writeWcCtrl
  · exact h.writeFdStat
  · exact h.writeIcReg
  · exact .ite (h.asEntry fun _ h₁ => h₁.applySet) h.regDone
  · exact h.writeGranules
  · exact h.writeRstReg
  · exact h.writeRgOp
  · exact h.writeQnOp
  · exact h.writeRefReg
  · exact h.writeEvcReg
  · exact h.writePwrReg
  · exact h.writeBootReg
  · exact h.writeGkReg
  · exact h.writeHpReg
  · exact h.execCodecSubmit.ran.regDone
  · exact h.regError

theorem Keeps.regRead (h : s₀.Keeps s) {req : Requester} {block : Nat} {off : Nat} {size : Nat} : s₀.Keeps (s.regRead req block off size) :=
  .ite h.execScpRxRead.ran (.ite h.execCciRxRead.ran (.ite h.execQnNfyRead.ran h.rdata))

theorem Keeps.badRegister (h : s₀.Keeps s) : s₀.Keeps s.badRegister := h.count.regError

theorem Keeps.clearAnswer (h : s₀.Keeps s) : s₀.Keeps s.clearAnswer := h.upd

theorem Keeps.regAccess (h : s₀.Keeps s) {req : Requester} {a : Nat} {op : FabricOp} : s₀.Keeps (s.regAccess req a op) := by
  unfold Machine.State.regAccess
  extract_lets
  split
  · exact h.clearAnswer.badRegister
  · split
    · exact h.clearAnswer.regError
    · exact .ite h.clearAnswer.regError h.clearAnswer.regRead
    · exact .ite h.clearAnswer.regError h.clearAnswer.regWrite

theorem Keeps.regRequest (h : s₀.Keeps s) {req : Requester} {a : Nat} {op : FabricOp} : s₀.KeepsFst (s.regRequest req a op) := by
  unfold Machine.State.regRequest
  extract_lets
  split
  · exact h.violation.regError.pair
  · exact h.regAccess.pair

theorem Keeps.setXfer (h : s₀.Keeps s) {x : Option Xfer} {x' : Path} : s₀.Keeps (s.setXfer x x') := by
  unfold Machine.State.setXfer
  split
  · exact h.updFunc
  · exact h.updPort
  · exact h.upd
  · exact h
  · exact h

theorem Keeps.writeWhole (h : s₀.Keeps s) {path : Path} {idx : Nat} {sub : Nat} {r : Row} {data : List Byte} : s₀.KeepsFst (s.writeWhole path idx sub r data) :=
  .ite h.pair h.writeValue.fst.pair

theorem Keeps.serveWrite (h : s₀.Keeps s) {path : Path} {idx : Nat} {sub : Nat} {last : Bool} {off : Nat} {data : List Byte} : s₀.KeepsFst (s.serveWrite path idx sub last off data) := by
  unfold Machine.State.serveWrite
  split
  · exact h.setXfer.pair
  · refine .ite (.ite h.imageSegment.fst.pair h.writeWhole) ?_
    refine .ite h.setXfer.pair ?_
    split
    · exact h.setXfer.pair
    · exact .ite h.setXfer.pair (.ite (.ite h.setXfer.pair (Keeps.pair (.ite h.setXfer.imageSegment.fst.setXfer h.setXfer.imageSegment.fst))) (.ite h.setXfer.writeWhole h.setXfer.setXfer.pair))

theorem Keeps.serveReq (h : s₀.Keeps s) {path : Path} {req : DictReq} : s₀.KeepsFst (s.serveReq path req) := by
  unfold Machine.State.serveReq
  split
  · exact h.pair
  · exact .ite h.pair h.pair
  · exact .ite h.pair h.pair
  · exact .ite h.pair h.serveWrite

theorem Keeps.toMailbox (h : s₀.Keeps s) {f : Nat} {x : List Byte} : s₀.Keeps (s.toMailbox f x) := .ite h.updFunc.count.occur h.updFunc.count

theorem Keeps.toSdo (h : s₀.Keeps s) {p idx sub : Nat} {a : Answer} : s₀.Keeps (s.toSdo p idx sub a) :=
  .ite ((Keeps.updPort (.ite h.count h)).sendCan) (Keeps.sendCan (.ite h.count h))

theorem Keeps.toJdt (h : s₀.Keeps s) {p addr vcid : Nat} {ends : Bool} {a : Answer} {x : List Byte} : s₀.Keeps (s.toJdt p addr vcid ends a x) :=
  Keeps.sendCan (.ite (Keeps.count (.ite h.count h)) (.ite h.count h))

theorem Keeps.deliver (h : s₀.Keeps s) {w : Waiting} {a : Answer} : s₀.Keeps (s.deliver w a) := by
  unfold Machine.State.deliver
  split
  · split
    · exact h.answer.toMailbox
    · exact h.answer.toSdo
    · exact h.answer.toSdo
    · exact h.answer.toJdt
    · exact h.answer.count.upd

theorem Keeps.serveOne (h : s₀.Keeps s) {w : Waiting} : s₀.Keeps (s.serveOne w) := h.serveReq.fst.deliver

theorem Keeps.request (h : s₀.Keeps s) {w : Waiting} : s₀.Keeps (s.request w) := .ite (.ite h h.serveOne) (.ite h.upd h)

theorem Keeps.arrive (h : s₀.Keeps s) {w : Waiting} : s₀.Keeps (s.arrive w) := .ite h.request h

theorem Keeps.execDictRead (h : s₀.Keeps s) {path : Path} {index : BitVec 16} {sub : BitVec 8} {max : BitVec 32} {offset : BitVec 32} : s₀.Answers (execDictRead path index sub max offset s) :=
  h.arrive.next

theorem Keeps.execDictWrite (h : s₀.Keeps s) {path : Path} {index : BitVec 16} {sub : BitVec 8} {last : Bool} {offset : BitVec 32} {data : List Byte} : s₀.Answers (execDictWrite path index sub last offset data s) :=
  h.arrive.next

theorem Keeps.doorbell (h : s₀.Keeps s) {f : Fin 32} {v : Nat} : s₀.Keeps (s.doorbell f v) := .ite h (.ite h.count h.updFunc.request)

theorem Keeps.execMbxDoorbell (h : s₀.Keeps s) {fn : Fin 32} {value : BitVec 32} : s₀.Answers (execMbxDoorbell fn value s) := h.doorbell.next

theorem Keeps.sdoSay (h : s₀.Keeps s) {p idx sub : Nat} {r : Resp} : s₀.Keeps (s.sdoSay p idx sub r) := h.answer.toSdo

theorem Keeps.setSdo (h : s₀.Keeps s) {p : Nat} {x : Option Xfer} : s₀.Keeps (s.setSdo p x) := h.updPort

theorem Keeps.sdoData (h : s₀.Keeps s) {path : Path} {x : Xfer} {last : Bool} {data : List Byte} : s₀.Keeps (s.sdoData path x last data) := by
  unfold Machine.State.sdoData
  refine .ite ?_ (.ite h.setSdo.request h.setSdo.sdoSay)
  extract_lets
  split
  · exact h.setSdo.upd.request.setSdo
  · exact h.setSdo.upd.request

theorem Keeps.sdoServe (h : s₀.Keeps s) {path : Path} {op : SdoOp} : s₀.Keeps (s.sdoServe path op) := by
  unfold Machine.State.sdoServe
  refine .ite h.setSdo ?_
  refine .ite h.setSdo.sdoSay ?_
  split
  · exact h.setSdo.request
  · exact .ite h.setSdo.sdoSay h.setSdo.answer.sendCan
  · split
    · exact h.setSdo.sdoSay
    · exact h.setSdo.sdoData
  · exact .ite h.setSdo.sdoSay h.sdoData
  · exact h
  · exact h.setSdo.sdoSay

theorem Keeps.sdoRequest (h : s₀.Keeps s) {p profile : Nat} {path : Path} {op : SdoOp} : s₀.Keeps (s.sdoRequest p profile path op) :=
  h.onPort fun _ h₁ => .ite h₁.count (.ite h₁.sdoServe h₁)

theorem Keeps.execSdoRequest (h : s₀.Keeps s) {port : Fin 2} {op : SdoOp} : s₀.Answers (execSdoRequest port op s) := h.sdoRequest.next

theorem Keeps.execUsdoRequest (h : s₀.Keeps s) {port : Fin 2} {op : SdoOp} : s₀.Answers (execUsdoRequest port op s) := h.sdoRequest.next

theorem Keeps.jdtTake (h : s₀.Keeps s) {port : Fin 2} {addr : Nat} {vcid : Nat} {b : List Byte} : s₀.Keeps (s.jdtTake port addr vcid b) := by
  unfold Machine.State.jdtTake
  extract_lets
  split
  exact .ite h.deliver h.updPort.request

theorem Keeps.execJdtRequest (h : s₀.Keeps s) {port : Fin 2} {prio : BitVec 11} {sdt : BitVec 8} {vcid : BitVec 8} {sec : Bool} {af : BitVec 32} {data : List Byte} : s₀.Answers (execJdtRequest port prio sdt vcid sec af data s) :=
  (h.onPort fun _ h₁ => .ite h₁.count (.ite h₁ (.ite h₁.count h₁.jdtTake))).next

theorem Keeps.execJdtSegmentTimeout (h : s₀.Keeps s) {port : Fin 2} {addr : Fin 256} : s₀.Answers (execJdtSegmentTimeout port addr s) :=
  Keeps.next (.ite h.updPort.count h)

theorem Keeps.execUdpDictDatagram (h : s₀.Keeps s) {mac : Fin 2} {src : BitVec 48} {data : List Byte} : s₀.Answers (execUdpDictDatagram mac src data s) := by
  unfold Machine.execUdpDictDatagram
  extract_lets
  split
  exact Keeps.next (.ite h (.ite h.count (.ite h.deliver h.request)))

theorem Keeps.stopP0 (h : s₀.Keeps s) : s₀.Keeps s.stopP0 := h.upd

theorem Keeps.execPressroomWatchdogExpiry (h : s₀.Keeps s) {hart : Fin 2} : s₀.Answers (execPressroomWatchdogExpiry hart s) :=
  Keeps.next (.ite h ((Keeps.count (.ite ((h.loadTcm.upd.report fun _ h₁ => h₁.emptyStack).stopP0) (h.loadTcm.upd.report fun _ h₁ => h₁.emptyStack))).raise))

theorem Keeps.execPressroomRestartComplete (h : s₀.Keeps s) {hart : Fin 2} : s₀.Answers (execPressroomRestartComplete hart s) :=
  Keeps.next (.ite h (.ite h.upd (.foldl h.upd.upd fun _ _ h₁ => h₁.serveOne)))

theorem Keeps.ringAccess (h : s₀.Keeps s) {req : Requester} {a : Nat} {op : FabricOp} {err : MemErr} : s₀.Keeps (s.ringAccess req a op err) := by
  unfold Machine.State.ringAccess
  extract_lets
  split
  · exact h.regError
  · exact .ite h.execRingDescriptorWrite.ran h.count.regError
  · exact .ite h.ringEcc.regError h.ringEcc.rdata

theorem Keeps.quoinAccess (h : s₀.Keeps s) {req : Requester} {a : Nat} {op : FabricOp} {err : MemErr} : s₀.Keeps (s.quoinAccess req a op err) := by
  unfold Machine.State.quoinAccess
  extract_lets
  split
  · exact h.regError
  · exact .ite h.execQuoinWrite.ran h.regError
  · exact .ite h.quoinEcc.regError h.quoinEcc.rdata

theorem Keeps.waitAccess (h : s₀.Keeps s) {req : Requester} {st : Nat} {a : Nat} {op : FabricOp} {err : MemErr} {victim : Nat} : s₀.Keeps (s.waitAccess req st a op err victim) :=
  h.updMem

theorem Keeps.serveTarget (h : s₀.Keeps s) {req : Requester} {st : Nat} {a : Nat} {op : FabricOp} {err : MemErr} {victim : Nat} : s₀.Keeps (s.serveTarget req st a op err victim) := by
  unfold Machine.State.serveTarget
  split
  · exact h.ringAccess
  · exact h.quoinAccess
  · exact h.outAccess.answered
  · exact .ite h.memAccess.answered h.waitAccess
  · exact h.memAccess.answered

theorem Keeps.requesterError (h : s₀.Keeps s) {req : Requester} : s₀.Keeps (s.requesterError req) := by
  unfold Machine.State.requesterError
  split
  · exact .ite h.abortSlug h
  · exact h

theorem Keeps.fabricRequest (h : s₀.Keeps s) {req : Requester} {a : Nat} {op : FabricOp} {err : MemErr} {victim : Nat} : s₀.KeepsFst (s.fabricRequest req a op err victim) := by
  unfold Machine.State.fabricRequest
  refine .ite h.upd.pair ?_
  refine .ite h.upd.regRequest ?_
  extract_lets
  split
  · exact h.upd.violation.regError.pair
  · exact h.upd.serveTarget.pair

theorem Keeps.execFabricAccess (h : s₀.Keeps s) {req : Requester} {op : FabricOp} {addr : BitVec 40} {err : MemErr} {victim : Fin 16} : s₀.Answers (execFabricAccess req op addr err victim s) :=
  Keeps.next (.ite h.fabricRequest.fst.requesterError h)

theorem Keeps.execRegisterWrite (h : s₀.Keeps s) {req : Requester} {addr : BitVec 40} {data : List Byte} : s₀.Answers (execRegisterWrite req addr data s) :=
  Keeps.next (.ite h.fabricRequest.fst h)

theorem Keeps.writeVector (h : s₀.Keeps s) {f v at_ : Nat} {d : List Byte} : s₀.Keeps (s.writeVector f v at_ d) := h.updFunc.regDone

theorem Keeps.vectorWindow (h : s₀.Keeps s) {f v : Fin 32} {at_ : Nat} {op : FabricOp} : s₀.Keeps (s.vectorWindow f v at_ op) := by
  unfold Machine.State.vectorWindow
  split
  · exact .ite h.execEvcClaim.ran h.execEvcClaim.ran.rdata
  · exact .ite h.execEvcComplete.ran h.refuseInbound
  · exact .ite h.rdata h.refuseInbound
  · exact .ite h.refuseInbound (.ite h.execEvcStackReset.ran h)
  · exact h.refuseInbound

theorem Keeps.mailboxReg (h : s₀.Keeps s) {f : Fin 32} {at_ : Nat} {op : FabricOp} : s₀.Keeps (s.mailboxReg f at_ op) := by
  unfold Machine.State.mailboxReg
  extract_lets
  split
  · exact .ite h.doorbell h.refuseInbound
  · exact h.rdata
  · exact h.rdata
  · exact .ite h.updFunc h.refuseInbound
  · exact h.refuseInbound

theorem Keeps.mailboxBuffer (h : s₀.Keeps s) {f at_ : Nat} {op : FabricOp} : s₀.Keeps (s.mailboxBuffer f at_ op) := by
  unfold Machine.State.mailboxBuffer
  split
  · exact .ite h.updFunc h.refuseInbound
  · exact h.rdata
  · exact h.rdata

theorem Keeps.msixTable (h : s₀.Keeps s) {f at_ : Nat} {op : FabricOp} : s₀.Keeps (s.msixTable f at_ op) := by
  unfold Machine.State.msixTable
  refine .ite h.refuseInbound ?_
  split
  · exact h.writeVector
  · exact h.rdata

theorem Keeps.bar0Access (h : s₀.Keeps s) {f : Fin 32} {at_ : Nat} {op : FabricOp} : s₀.Keeps (s.bar0Access f at_ op) :=
  .ite h.upd.mailboxReg (.ite h.upd.mailboxBuffer (.ite h.upd.vectorWindow (.ite h.upd.msixTable (.ite h.upd.rdata h.upd.refuseInbound))))

theorem Keeps.bar2Access (h : s₀.Keeps s) {f : Fin 32} {a : Nat} {op : FabricOp} {err : MemErr} {victim : Nat} : s₀.Keeps (s.bar2Access f a op err victim) :=
  .ite h.fabricRequest.fst.count h.fabricRequest.fst

theorem Keeps.execPcieInboundRequest (h : s₀.Keeps s) {fn : Fin 32} {bar0 : Bool} {addr : BitVec 40} {op : FabricOp} {err : MemErr} {victim : Fin 16} : s₀.Answers (execPcieInboundRequest fn bar0 addr op err victim s) :=
  Keeps.next (.ite h (.ite (.ite h.bar0Access h) (.ite h.bar2Access h)))

theorem Keeps.serveWaiting (h : s₀.Keeps s) {c : Nat} : s₀.Keeps (s.serveWaiting c) :=
  .foldl h.updMem fun _ _ h₁ => h₁.memAccess.answered.requesterError

theorem Keeps.execDeepStoreStartComplete (h : s₀.Keeps s) {ch : Fin 8} {passed : Bool} : s₀.Answers (execDeepStoreStartComplete ch passed s) :=
  Keeps.next (.ite h (Keeps.serveWaiting (.ite h.wipe.updChan.upd h.wipe.updChan.fence)))

/-! ### Commands and steps -/

/-- Every command completes, with a state that is kept. -/
theorem Keeps.exec (h : s₀.Keeps s) (i : Instr) : s₀.Answers (exec i s) := by
  cases i with
  | fieldDieStart => exact h.execFieldDieStart
  | vfieldUndervoltage => exact h.execVfieldUndervoltage
  | vfieldUndervoltageRecover => exact h.execVfieldUndervoltageRecover
  | vfieldOvervoltage => exact h.execVfieldOvervoltage
  | vfieldOvervoltageRecover => exact h.execVfieldOvervoltageRecover
  | fieldDieReset => exact h.execFieldDieReset
  | vfieldReversed => exact h.execVfieldReversed
  | quadratureEdge => exact h.execQuadratureEdge
  | zMarkerEdge => exact h.execZMarkerEdge
  | velocityUpdate => exact h.execVelocityUpdate
  | accelerationCheck => exact h.execAccelerationCheck
  | standstillTimeout => exact h.execStandstillTimeout
  | peEdge => exact h.execPeEdge
  | encoderProbe => exact h.execEncoderProbe
  | encoderFaultFlag => exact h.execEncoderFaultFlag
  | encoderFlagClear => exact h.execEncoderFlagClear
  | returnToPrimary => exact h.execReturnToPrimary
  | acknowledgeLost => exact h.execAcknowledgeLost
  | decodeWrite => exact h.execDecodeWrite
  | impressionLenWrite => exact h.execImpressionLenWrite
  | markConfigWrite => exact h.execMarkConfigWrite
  | cueCrossing => exact h.execCueCrossing
  | cueExpiry => exact h.execCueExpiry
  | triggerPulseEnd => exact h.execTriggerPulseEnd
  | kickPulseEnd => exact h.execKickPulseEnd
  | maxOnCutoff => exact h.execMaxOnCutoff
  | ceilingRecompute => exact h.execCeilingRecompute
  | ceilingRaisePublish => exact h.execCeilingRaisePublish
  | triggerShortTrip => exact h.execTriggerShortTrip
  | triggerRetry => exact h.execTriggerRetry
  | kickerTrip => exact h.execKickerTrip
  | kickerRetryDue => exact h.execKickerRetryDue
  | kickerRetryJudge => exact h.execKickerRetryJudge
  | kickerRetryNow => exact h.execKickerRetryNow
  | clearOpenOn => exact h.execClearOpenOn
  | kickerEnableWrite => exact h.execKickerEnableWrite
  | kickerShortVf => exact h.execKickerShortVf
  | kickerShortVfClear => exact h.execKickerShortVfClear
  | kickerThermal => exact h.execKickerThermal
  | kickerThermalClear => exact h.execKickerThermalClear
  | openOffDetect => exact h.execOpenOffDetect
  | openOffClear => exact h.execOpenOffClear
  | canLineShort => exact h.execCanLineShort
  | canLineShortClear => exact h.execCanLineShortClear
  | dominantCutoff => exact h.execDominantCutoff
  | fieldSlotReceive => exact h.execFieldSlotReceive
  | computeSlotReceive => exact h.execComputeSlotReceive
  | heartbeatSend => exact h.execHeartbeatSend
  | heartbeat => exact h.execHeartbeat
  | heartbeatMiss => exact h.execHeartbeatMiss
  | verdict => exact h.execVerdict
  | cuePart => exact h.execCuePart
  | cuePartTimeout => exact h.execCuePartTimeout
  | regWrite => exact h.execRegWrite
  | regRead => exact h.execRegRead
  | regData => exact h.execRegData
  | canTx => exact h.execCanTx
  | canRx => exact h.execCanRx
  | cueResult => exact h.execCueResult
  | peEdgeMessage => exact h.execPeEdgeMessage
  | pinEvent => exact h.execPinEvent
  | sleep => exact h.execSleep
  | linkRetrain => exact h.execLinkRetrain
  | fieldLinkUp => exact h.execFieldLinkUp
  | linkTrainTimeout => exact h.execLinkTrainTimeout
  | xinFailure => exact h.execXinFailure
  | rosterStall => exact h.execRosterStall
  | channelEnable => exact h.execChannelEnable
  | channelDisable => exact h.execChannelDisable
  | laneStopState => exact h.execLaneStopState
  | laneStopTimeout => exact h.execLaneStopTimeout
  | deskewSequence => exact h.execDeskewSequence
  | frameStart => exact h.execFrameStart
  | lineReceived => exact h.execLineReceived
  | frameEnd => exact h.execFrameEnd
  | embeddedData => exact h.execEmbeddedData
  | packetDiscard => exact h.execPacketDiscard
  | phyError => exact h.execPhyError
  | feTimeout => exact h.execFeTimeout
  | xtrigAckEdge => exact h.execXtrigAckEdge
  | xtrigPulse => exact h.execXtrigPulse
  | xtrigPeriod => exact h.execXtrigPeriod
  | scpTxWrite => exact h.execScpTxWrite
  | scpWordStart => exact h.execScpWordStart
  | scpWordComplete => exact h.execScpWordComplete
  | scpRxRead => exact h.execScpRxRead
  | cciCmdWrite => exact h.execCciCmdWrite
  | cciTransactionStart => exact h.execCciTransactionStart
  | cciTransactionEnd => exact h.execCciTransactionEnd
  | cciStretchTimeout => exact h.execCciStretchTimeout
  | cciRxRead => exact h.execCciRxRead
  | channelFailure => exact h.execChannelFailure
  | channelReset => exact h.execChannelReset
  | channelResetComplete => exact h.execChannelResetComplete
  | serialQueueFlush => exact h.execSerialQueueFlush
  | pipelineApply => exact h.execPipelineApply
  | patchVerdict => exact h.execPatchVerdict
  | fabricAccess => exact h.execFabricAccess
  | correctedRewrite => exact h.execCorrectedRewrite
  | wayCarve => exact h.execWayCarve
  | wayReturn => exact h.execWayReturn
  | wayTransferComplete => exact h.execWayTransferComplete
  | lpddr5xTrainingFailure => exact h.execLpddr5xTrainingFailure
  | deepStoreStartComplete => exact h.execDeepStoreStartComplete
  | ringDescriptorWrite => exact h.execRingDescriptorWrite
  | ringClaim => exact h.execRingClaim
  | ringCommit => exact h.execRingCommit
  | ringAbandon => exact h.execRingAbandon
  | ringRelease => exact h.execRingRelease
  | blockedClaimRetry => exact h.execBlockedClaimRetry
  | quoinWrite => exact h.execQuoinWrite
  | quoinSignal => exact h.execQuoinSignal
  | quoinReset => exact h.execQuoinReset
  | quoinPoll => exact h.execQuoinPoll
  | quoinWait => exact h.execQuoinWait
  | waitLimitExpiry => exact h.execWaitLimitExpiry
  | claimLimitExpiry => exact h.execClaimLimitExpiry
  | qnNfyRead => exact h.execQnNfyRead
  | streamEntry => exact h.execStreamEntry
  | streamReadComplete => exact h.execStreamReadComplete
  | nop => exact h.execNop
  | move => exact h.execMove
  | matmul => exact h.execMatmul
  | tileDrain => exact h.execTileDrain
  | post => exact h.execPost
  | expand => exact h.execExpand
  | stream => exact h.execStream
  | stride => exact h.execStride
  | store => exact h.execStore
  | sync => exact h.execSync
  | endCmd => exact h.execEndCmd
  | maxpool => exact h.execMaxpool
  | avgpool => exact h.execAvgpool
  | dwconv => exact h.execDwconv
  | add => exact h.execAdd
  | mul => exact h.execMul
  | max => exact h.execMax
  | min => exact h.execMin
  | lut => exact h.execLut
  | softmax => exact h.execSoftmax
  | reduce => exact h.execReduce
  | matvec => exact h.execMatvec
  | argmax => exact h.execArgmax
  | compare => exact h.execCompare
  | upsample => exact h.execUpsample
  | copy => exact h.execCopy
  | requant => exact h.execRequant
  | slugComplete => exact h.execSlugComplete
  | slugOverrun => exact h.execSlugOverrun
  | startupTestComplete => exact h.execStartupTestComplete
  | shortTestComplete => exact h.execShortTestComplete
  | shortTestDeferred => exact h.execShortTestDeferred
  | retire => exact h.execRetire
  | test => exact h.execTest
  | coreMemoryUncorrectable => exact h.execCoreMemoryUncorrectable
  | rosterStep => exact h.execRosterStep
  | sequenceCreate => exact h.execSequenceCreate
  | sequenceDeadline => exact h.execSequenceDeadline
  | admitWrite => exact h.execAdmitWrite
  | rosterRetirement => exact h.execRosterRetirement
  | stationResourceWrite => exact h.execStationResourceWrite
  | stationWindowsWrite => exact h.execStationWindowsWrite
  | tearDown => exact h.execTearDown
  | pressroomWatchdogExpiry => exact h.execPressroomWatchdogExpiry
  | pressroomRestartComplete => exact h.execPressroomRestartComplete
  | pcieInboundRequest => exact h.execPcieInboundRequest
  | outboundCompletionTimeout => exact h.execOutboundCompletionTimeout
  | functionLevelReset => exact h.execFunctionLevelReset
  | perstNReset => exact h.execPerstNReset
  | pcieLinkDown => exact h.execPcieLinkDown
  | pcieLinkUp => exact h.execPcieLinkUp
  | cfgReady => exact h.execCfgReady
  | cfgReadyTimeout => exact h.execCfgReadyTimeout
  | mbxDoorbell => exact h.execMbxDoorbell
  | dictRead => exact h.execDictRead
  | dictWrite => exact h.execDictWrite
  | ethFrameReceive => exact h.execEthFrameReceive
  | ethFrameTransmit => exact h.execEthFrameTransmit
  | ethLinkChange => exact h.execEthLinkChange
  | phcSet => exact h.execPhcSet
  | ppsEdge => exact h.execPpsEdge
  | codecSubmit => exact h.execCodecSubmit
  | codecJobStart => exact h.execCodecJobStart
  | codecJobComplete => exact h.execCodecJobComplete
  | evcOccurrence => exact h.execEvcOccurrence
  | evcLineAccept => exact h.execEvcLineAccept
  | evcBatchTimeout => exact h.execEvcBatchTimeout
  | evcClaim => exact h.execEvcClaim
  | evcComplete => exact h.execEvcComplete
  | evcStackReset => exact h.execEvcStackReset
  | evcTagAck => exact h.execEvcTagAck
  | evcSwset => exact h.execEvcSwset
  | msixHeldRelease => exact h.execMsixHeldRelease
  | porstAssert => exact h.execPorstAssert
  | computeResetRelease => exact h.execComputeResetRelease
  | brownOut => exact h.execBrownOut
  | supplyExcursion => exact h.execSupplyExcursion
  | dozeEntry => exact h.execDozeEntry
  | dozeExit => exact h.execDozeExit
  | requestStop => exact h.execRequestStop
  | requestHibernate => exact h.execRequestHibernate
  | sleepEntryStart => exact h.execSleepEntryStart
  | sleepCommit => exact h.execSleepCommit
  | rtcAlarm => exact h.execRtcAlarm
  | gpioWakeLatch => exact h.execGpioWakeLatch
  | pwrWakeNFall => exact h.execPwrWakeNFall
  | wakeDuringEntry => exact h.execWakeDuringEntry
  | canFrameTransmit => exact h.execCanFrameTransmit
  | busOffRecovery => exact h.execBusOffRecovery
  | canFrameDiscard => exact h.execCanFrameDiscard
  | nmtStart => exact h.execNmtStart
  | nmtStop => exact h.execNmtStop
  | nmtEnterPreOperational => exact h.execNmtEnterPreOperational
  | nmtResetNode => exact h.execNmtResetNode
  | nmtResetCommunication => exact h.execNmtResetCommunication
  | sdoRequest => exact h.execSdoRequest
  | usdoRequest => exact h.execUsdoRequest
  | jdtRequest => exact h.execJdtRequest
  | jdtSegmentTimeout => exact h.execJdtSegmentTimeout
  | udpDictDatagram => exact h.execUdpDictDatagram
  | rpdoReceive => exact h.execRpdoReceive
  | syncReceive => exact h.execSyncReceive
  | heartbeatConsumerTimeout => exact h.execHeartbeatConsumerTimeout
  | heartbeatProducer => exact h.execHeartbeatProducer
  | tpdoChangeCheck => exact h.execTpdoChangeCheck
  | tpdoEventTimer => exact h.execTpdoEventTimer
  | tpdoTransmit => exact h.execTpdoTransmit
  | emcyTransmit => exact h.execEmcyTransmit
  | errorRegisterCheck => exact h.execErrorRegisterCheck
  | lssSwitchStateGlobal => exact h.execLssSwitchStateGlobal
  | lssSwitchStateSelective => exact h.execLssSwitchStateSelective
  | lssConfigureNodeId => exact h.execLssConfigureNodeId
  | lssConfigureBitTiming => exact h.execLssConfigureBitTiming
  | lssActivateBitTiming => exact h.execLssActivateBitTiming
  | lssStoreConfiguration => exact h.execLssStoreConfiguration
  | lssInquireIdentity => exact h.execLssInquireIdentity
  | lssInquireNodeId => exact h.execLssInquireNodeId
  | lssIdentifyRemoteSlave => exact h.execLssIdentifyRemoteSlave
  | lssFastscan => exact h.execLssFastscan
  | canWakeup => exact h.execCanWakeup
  | protocolSideReturn => exact h.execProtocolSideReturn
  | storeParameters => exact h.execStoreParameters
  | restoreDefaults => exact h.execRestoreDefaults
  | longOperationComplete => exact h.execLongOperationComplete
  | longOperationTimeout => exact h.execLongOperationTimeout
  | errorHistoryClear => exact h.execErrorHistoryClear
  | eventLogClear => exact h.execEventLogClear
  | keyRevoke => exact h.execKeyRevoke
  | updateBegin => exact h.execUpdateBegin
  | updateBlock => exact h.execUpdateBlock
  | updateVerify => exact h.execUpdateVerify
  | updateActivate => exact h.execUpdateActivate
  | activateReset => exact h.execActivateReset
  | updateConfirm => exact h.execUpdateConfirm
  | updateCancel => exact h.execUpdateCancel
  | packageImageSegment => exact h.execPackageImageSegment
  | packageVerify => exact h.execPackageVerify
  | packageRemove => exact h.execPackageRemove
  | counterClear => exact h.execCounterClear
  | counterObjectClear => exact h.execCounterObjectClear
  | bootWatchdogExpiry => exact h.execBootWatchdogExpiry
  | bootOk => exact h.execBootOk
  | bootLpcfgWrite => exact h.execBootLpcfgWrite
  | flashProgram => exact h.execFlashProgram
  | flashErase => exact h.execFlashErase
  | flashCommandComplete => exact h.execFlashCommandComplete
  | deepStoreScrubRead => exact h.execDeepStoreScrubRead
  | ringTableScrubRead => exact h.execRingTableScrubRead
  | scrubPassLate => exact h.execScrubPassLate
  | scrubForcedMode => exact h.execScrubForcedMode
  | forcedIntervalStart => exact h.execForcedIntervalStart
  | forcedIntervalEnd => exact h.execForcedIntervalEnd
  | phyCalibrationStart => exact h.execPhyCalibrationStart
  | phyCalibrationComplete => exact h.execPhyCalibrationComplete
  | calibrationPeriodEnd => exact h.execCalibrationPeriodEnd
  | eraseAhead => exact h.execEraseAhead
  | telemetryRead => exact h.execTelemetryRead
  | registerWrite => exact h.execRegisterWrite
  | xinReturn => exact h.execXinReturn
  | canReceiveError => exact h.execCanReceiveError
  | outboundCompletion => exact h.execOutboundCompletion
  | pcieConfigRequest => exact h.execPcieConfigRequest
  | hartTimerInterrupt => exact h.execHartTimerInterrupt
  | stopExitComplete => exact h.execStopExitComplete

theorem Keeps.tick (h : s₀.Keeps s) : s₀.Keeps s.tick := .ite h.upd.sendField h.upd

/-- A step keeps the state whose queue has lost its first command. -/
theorem step_answers (s : State) : State.Answers { s with pending := s.pending.tail } (step s) := by
  unfold step
  split
  · next hempty =>
    have hself : { s with pending := s.pending.tail } = s := by rw [hempty, List.tail_nil, ← hempty]
    rw [hself]
    exact (Keeps.refl s).tick.next
  · next c rest hqueue =>
    have hrest : { s with pending := s.pending.tail } = { s with pending := rest } := by rw [hqueue, List.tail_cons]
    rw [hrest]
    exact (Keeps.refl _).exec c

theorem wellKept_iff (s : State) : s.wellKept ↔ Memory.wf s.mem = true ∧ s.rep.Bounded :=
  ⟨fun h => ⟨h.1, h.2.1, h.2.2⟩, fun h => ⟨h.1, h.2.log, h.2.hist⟩⟩

theorem Keeps.wellKept (h : s₀.Keeps s) (hs : s₀.wellKept) : s.wellKept := by
  obtain ⟨hbytes, hreports⟩ := s₀.wellKept_iff.1 hs
  exact s.wellKept_iff.2 ⟨h.bytes hbytes, h.reports hreports⟩

end State

/-- Settles O3: a step is a command on the rest of the queue, and every command completes and leaves the queue alone. -/
theorem everyStepAnswers : Obligations.EveryStepAnswers := by
  intro s
  obtain ⟨t, hstep, hkeeps⟩ := s.step_answers
  exact ⟨t, hstep, hkeeps.pending⟩

/-- Settles O4: a step ends in a state that is kept, and being well kept does not speak of the queue. -/
theorem memoryAndLogsStayInForm : Obligations.MemoryAndLogsStayInForm := by
  intro s t hs hstep
  obtain ⟨t', hstep', hkeeps⟩ := s.step_answers
  obtain rfl : t = t' := Host.Outcome.next.inj (hstep.symm.trans hstep')
  exact hkeeps.wellKept hs

end Machine
end Sys2Proof
end


section
/-!
SUPPORT. Rules that several families of statements share: what the shared updates count, and what folds over tables leave.
-/
namespace Sys2Proof
namespace Machine

/-! ### What has been counted -/

namespace Counted

variable {s t u : State} {ks : List Nat}

/-- The order in which counters are named does not matter. -/
theorem congr {ks' : List Nat} (h : Counted s t ks) (hmem : ∀ k, k ∈ ks ↔ k ∈ ks') : Counted s t ks' := fun k hk => by
  rw [h k hk]
  simp only [hmem]

/-- What moves none of the counters that a statement speaks of keeps what has been counted. -/
theorem of_tally (h : Counted s t ks) (htally : ∀ k, k ∉ ownCounters → u.tally k = t.tally k) : Counted s u ks := fun k hk =>
  (htally k hk).trans (h k hk)

theorem and_count (h : Counted s t ks) {i j : Nat} (hnew : key i j ∉ ks) : Counted s (t.count i j) (ks ++ [key i j]) := fun k hk => by
  rw [State.tally_count _ _ _ _ hk, h k hk]
  by_cases hkey : k = key i j
  · subst hkey
    simp [hnew]
  · simp [hkey]

theorem raise (h : Counted s t ks) (e : Ev) : Counted s (t.raise e) ks := h.of_tally fun k hk => t.tally_raise e k hk

theorem raiseSec (h : Counted s t ks) (n : Nat) (e : Ev) : Counted s (t.raiseSec n e) ks := h.of_tally fun k hk => t.tally_raiseSec n e k hk

theorem raiseImp (h : Counted s t ks) (n m : Nat) (e : Ev) : Counted s (t.raiseImp n m e) ks :=
  h.of_tally fun k hk => t.tally_raiseImp n m e k hk

theorem occur (h : Counted s t ks) (id : Nat) : Counted s (t.occur id) ks := h.of_tally fun k hk => t.tally_occur id k hk

theorem evaluate (h : Counted s t ks) (n : Nat) : Counted s (t.evaluate n) ks := h.of_tally fun k hk => t.tally_evaluate n k hk

end Counted

/-! ### Tables -/

/-- A fold of steps that each write one key of a table writes the keys of its list, when they are distinct. -/
theorem Tab.at_foldl_step {α : Type} (d : α) {f : Tab α → Nat → Tab α} {g : Nat → α → α}
    (hf : ∀ t n k, (f t n).at d k = if k = n then g n (t.at d n) else t.at d k) (l : List Nat) (hl : l.Nodup) (t : Tab α) (k : Nat) :
    (l.foldl f t).at d k = if k ∈ l then g k (t.at d k) else t.at d k := by
  induction l generalizing t with
  | nil => rfl
  | cons n l ih =>
    obtain ⟨hn, hl⟩ := List.nodup_cons.1 hl
    rw [List.foldl_cons, ih hl, hf]
    by_cases hk : k = n
    · subst hk
      simp [hn]
    · simp [hk]

theorem Tab.at_upd {α : Type} (d : α) (t : Tab α) (n k : Nat) (f : α → α) :
    (t.upd d n f).at d k = if k = n then f (t.at d n) else t.at d k := by
  split
  · next h => rw [h, Tab.at_upd_same]
  · next h => rw [Tab.at_upd_other _ _ _ h]

/-! ### Folds that report -/

/-- A fold of steps that each change the reports alone changes the reports alone. -/
theorem State.foldl_onlyRep {α : Type} {f : State → α → State} (hf : ∀ s x, f s x = { s with rep := (f s x).rep }) (l : List α) (s : State) :
    l.foldl f s = { s with rep := (l.foldl f s).rep } := by
  induction l generalizing s with
  | nil => rfl
  | cons x l ih => rw [List.foldl_cons, ih, hf]

end Machine
end Sys2Proof
end


section
/-!
PROOF. Slots of the Field Link (03 R91-R93): what a position section makes of the eight views, and what a bad slot leaves.
-/
namespace Sys2Proof
namespace Machine

variable {s : State}

/-! ### The views that a good slot leaves -/

/-- What the position section of a clock makes of its view; a slot without one leaves it. -/
def slotTake (pos : SlotPos) (n : Nat) (v : View) : View :=
  match pos.clocks[n]? with
  | none => v
  | some c => v.take c (if pos.seq.val % 8 = n then some pos.high.val else none)

/-- The views that the eight position sections of a slot leave (03 R91, R92). -/
def slotViews (pos : SlotPos) (v : Tab View) : Tab View :=
  (List.range 8).foldl (fun t n =>
    match pos.clocks[n]? with
    | none => t
    | some c => t.upd {} n (fun v => v.take c (if pos.seq.val % 8 = n then some pos.high.val else none))) v

theorem slotViews_at (pos : SlotPos) (v : Tab View) {n : Nat} (hn : n < 8) : (slotViews pos v).at {} n = slotTake pos n (v.at {} n) := by
  rw [slotViews, Tab.at_foldl_step {} (g := slotTake pos) _ _ List.nodup_range, if_pos (List.mem_range.2 hn)]
  intro t m k
  unfold slotTake
  split
  · split
    · next h => rw [h]
    · rfl
  · exact Tab.at_upd ..

/-- What a report beside the position makes of a view (log entry 10). -/
def State.reportView (s : State) (n : Nat) (v : View) : View :=
  { v with vel := (s.clock n).velReported, idx := (s.clock n).idx, phase := (s.clock n).phase, stat := s.wcStatus n, markErr := (s.clock n).markErr }

theorem State.takeReports_view (s : State) {n : Nat} (hn : n < 8) : s.takeReports.view n = s.reportView n (s.view n) := by
  have hat := Tab.at_foldl_step {} (g := s.reportView) (fun t m k => Tab.at_upd ..) (List.range 8) List.nodup_range s.link.views n
  rw [if_pos (List.mem_range.2 hn)] at hat
  exact hat

/-- A good slot, before the changes of HEALTH are noted. -/
def State.slotTaken (s : State) (pos : SlotPos) : State :=
  ({ s with link := { s.link with seq := pos.seq.val, autonomy := s.link.autonomy && pos.auto, views := slotViews pos s.link.views } } : State).takeReports

theorem View.take_health (v : View) (c : SlotClock) (high : Option Nat) : (v.take c high).health = c.health.val := by
  unfold View.take
  split
  · rfl
  · split
    · rfl
    · split <;> rfl

theorem State.slotTaken_view (s : State) {pos : SlotPos} {n : Nat} {c : SlotClock} (hn : n < 8) (hc : pos.clocks[n]? = some c) :
    (s.slotTaken pos).view n = State.reportView s n ((s.view n).take c (if pos.seq.val % 8 = n then some pos.high.val else none)) := by
  have htake : slotTake pos n (s.view n) = (s.view n).take c (if pos.seq.val % 8 = n then some pos.high.val else none) := by
    rw [slotTake, hc]
  rw [State.slotTaken, State.takeReports_view _ hn, ← htake]
  exact congrArg _ (slotViews_at _ _ hn)

/-- A changed HEALTH is one occurrence of the clock's source (13 Table 13-2). -/
def State.noteHealth (s : State) (before : Tab View) : State :=
  (List.range 8).foldl (fun s n => if (before.at ({} : View) n).health = (s.view n).health then s else s.occur (180 + n)) s

theorem State.noteHealth_rep (s : State) (before : Tab View) : s.noteHealth before = { s with rep := (s.noteHealth before).rep } := by
  refine State.foldl_onlyRep (fun s n => ?_) _ s
  split <;> rfl

theorem exec_fieldSlotReceive_good (hup : s.link.up = true) (pos : SlotPos) :
    exec (.fieldSlotReceive pos true) s = .next ((s.slotTaken pos).noteHealth s.link.views) := by
  show execFieldSlotReceive pos true s = _
  unfold execFieldSlotReceive
  rw [hup]
  rfl

/-! ### The statement -/

theorem fieldSlotReceive_bad (hup : s.link.up = true) (pos : SlotPos) : Completes (.fieldSlotReceive pos false) s (fun t =>
    t.link.views = s.link.views ∧ t.link.seq = s.link.seq ∧ t.counter 0x2810 1 = satInc (s.counter 0x2810 1)
    ∧ t = { s with link := t.link, rep := t.rep }) := by
  have hcounted := s.count_counter 0x2810 1 (by decide)
  simp only [Completes, exec, execFieldSlotReceive, hup]
  split
  · contradiction
  · split
    · split
      · exact ⟨_, rfl, rfl, rfl, (State.raise_counter _ _ _ _ (by decide)).trans hcounted, rfl⟩
      · exact ⟨_, rfl, rfl, rfl, hcounted, rfl⟩
    · contradiction

theorem fieldSlotReceive_good (hup : s.link.up = true) (pos : SlotPos) : Completes (.fieldSlotReceive pos true) s (fun t =>
    t.link.seq = pos.seq.val
    ∧ (∀ (n : Nat) (c : SlotClock), n < 8 → pos.clocks[n]? = some c →
        (t.view n).health = c.health.val
        ∧ (pos.seq.val % 8 = n → (t.view n).valid = true
            ∧ (t.view n).pos = BitVec.ofNat 56 ((pos.high.val * 1024 + c.low.val) * 256 + c.frac.val))
        ∧ (pos.seq.val % 8 ≠ n → c.jump = true → (t.view n).valid = false)
        ∧ (pos.seq.val % 8 ≠ n → c.jump = false → (s.view n).valid = true → (t.view n).valid = true
            ∧ (t.view n).pos = BitVec.ofNat 56 (rebuild ((s.view n).pos.toNat / 256) c.low.val * 256 + c.frac.val)))
    ∧ t = { s with link := t.link, rep := t.rep, wc := t.wc }) := by
  refine .of_exec (exec_fieldSlotReceive_good hup pos) ?_
  rw [State.noteHealth_rep]
  refine ⟨rfl, fun n c hn hc => ?_, rfl⟩
  have hview := s.slotTaken_view hn hc
  refine ⟨?_, fun hseq => ?_, fun hseq hjump => ?_, fun hseq hjump hvalid => ?_⟩
  · exact (congrArg View.health hview).trans (View.take_health ..)
  · rw [if_pos hseq] at hview
    exact ⟨congrArg View.valid hview, congrArg View.pos hview⟩
  · rw [if_neg hseq, View.take, if_pos hjump] at hview
    exact congrArg View.valid hview
  · rw [if_neg hseq, View.take, if_neg (by simp [hjump]), if_pos hvalid] at hview
    exact ⟨(congrArg View.valid hview).trans hvalid, congrArg View.pos hview⟩

/-- Settles O7. A good slot is the fold of its eight position sections over the views; what follows it, the reports beside the position and the notes of changed HEALTH, leaves the positions and their validity. -/
theorem linkSlots : Obligations.LinkSlots := by
  intro s
  refine ⟨fun pos hup => ⟨fieldSlotReceive_bad hup pos, fieldSlotReceive_good hup pos⟩, fun time hon hup => ⟨?_, fun hdirect => ?_⟩⟩
  · refine .of_exec (t := { s with link := { s.link with lastTime := time.toNat, disciplined := s.fd.autonomy == .none } }) ?_ ⟨rfl, rfl, rfl⟩
    simp [exec, execComputeSlotReceive, hon, hup]
  · refine .of_exec (t := s.count 0x2810 4) ?_ ⟨.count s, rfl⟩
    simp [exec, execComputeSlotReceive, hon, hup, State.fdCount_direct hdirect]

end Machine
end Sys2Proof
end


section
/-!
PROOF. Heartbeats, autonomy and training (03 R95-R98; 01 R37). What a session is brought up with leaves the session itself: `State.session` is what training and heartbeats decide.
-/
namespace Sys2Proof
namespace Machine

variable {s : State}

/-! ### What bringing up a session leaves -/

/-- Whether both sides are up, what the compute die knows of its sessions, and the field die's autonomy. -/
def State.session (s : State) : Bool × Bool × Bool × Bool × Bool × Autonomy :=
  (s.link.up, s.link.training, s.link.seen, s.fd.up, s.fd.everUp, s.fd.autonomy)

theorem State.kickChanged_session (s t : State) (n : Nat) : (s.kickChanged t n).session = s.session := by
  unfold State.kickChanged State.fdOccur
  split
  · rfl
  · split <;> rfl

theorem State.applyKickEnable_session (s : State) (n v : Nat) : (s.applyKickEnable n v).session = s.session := by
  refine (State.kickChanged_session ..).trans ?_
  split <;> rfl

theorem State.applyDecode_session (s : State) (n v : Nat) : (s.applyDecode n v).session = s.session := by
  unfold State.applyDecode
  dsimp only
  split <;> rfl

theorem State.markFollow_session (s : State) (n : Nat) : (s.markFollow n).session = s.session := rfl

theorem State.applyField_session (s : State) (idx sub v : Nat) : (s.applyField idx sub v).session = s.session := by
  have hmark : ((if v = (s.wcCfg (idx - 0x2100)).markPe then s.setField idx sub v
      else (s.setField idx sub v).updClock (idx - 0x2100) fun w => { w with mark := .off }).markFollow (idx - 0x2100)).session = s.session := by
    rw [State.markFollow_session]
    split <;> rfl
  unfold State.applyField
  dsimp only
  split
  · split
    · rfl
    · split
      · exact s.applyDecode_session ..
      · split
        · rfl
        · split
          · exact hmark
          · rfl
  · split
    · exact s.applyKickEnable_session ..
    · split <;> rfl

theorem State.pushConfig_session (s : State) : s.pushConfig.session = s.session := by
  unfold State.pushConfig
  dsimp only
  rw [foldl_keeps State.session, foldl_keeps State.session]
  · intro s n
    unfold State.checkMarkSet
    split <;> rfl
  · intro s k
    split
    · rfl
    · exact s.applyField_session ..

theorem State.pushMaps_session (s : State) : s.pushMaps.session = s.session := by
  unfold State.pushMaps
  split <;> rfl

theorem State.loadSpacing_session (s : State) (n : Nat) : (s.loadSpacing n).session = s.session := by
  unfold State.loadSpacing
  split <;> rfl

theorem State.fdCount_session (s : State) (i j : Nat) : (s.fdCount i j).session = s.session := by
  unfold State.fdCount
  split <;> rfl

theorem State.forwardEye_session (s : State) (k : Nat) (level : Bool) : (s.forwardEye k level).session = s.session := by
  unfold State.forwardEye
  extract_lets p soon msg
  split
  · rfl
  · split
    · exact State.fdCount_session ..
    · rfl

theorem State.forwardLevels_session (s : State) : s.forwardLevels.session = s.session := by
  refine foldl_keeps State.session _ (fun s k => ?_) _ s
  dsimp only
  split
  · rfl
  · exact s.forwardEye_session ..

theorem State.dropLostCues_session (s : State) : s.dropLostCues.session = s.session := rfl

theorem State.sendField_session (s : State) (m : Msg) : (s.sendField m).session = s.session := rfl

theorem State.openSession_session (s : State) : s.openSession.session = s.session := by
  unfold State.openSession
  rw [State.forwardLevels_session, foldl_keeps State.session _ State.loadSpacing_session, State.dropLostCues_session,
    State.pushMaps_session, State.pushConfig_session, State.sendField_session]

/-! ### What noting a restart and a wake leaves -/

theorem State.violation_session (s : State) (req : Requester) (st cause a access size owner detail : Nat) :
    (s.violation req st cause a access size owner detail).session = s.session := by
  unfold State.violation
  dsimp only
  split <;> simp [State.session]

theorem State.answerParked_session (s : State) (q : Nat) : (s.answerParked q).session = s.session := by
  unfold State.answerParked
  refine (foldl_keeps State.session _ (fun s p => ?_) _ _).trans rfl
  split <;> rfl

theorem State.notify_session (s : State) (st q : Nat) : (s.notify st q).session = s.session := by
  unfold State.notify
  dsimp only
  split
  · rfl
  · split <;> rfl

theorem State.signal_session (s : State) (q n : Nat) : (s.signal q n).1.session = s.session := by
  unfold State.signal State.quoinUsable
  dsimp only
  split
  · next h =>
    split at h
    · cases h
      rfl
    · split at h <;> cases h
      rfl
  · next h =>
    split at h
    · cases h
    · split at h <;> cases h
      split
      · exact State.answerParked_session ..
      · refine (State.answerParked_session ..).trans ?_
        split
        · exact State.notify_session ..
        · rfl

theorem State.ringGate_session (s : State) (req : Requester) (r : Nat) : (s.ringGate req r).1.session = s.session := by
  unfold State.ringGate
  dsimp only
  split
  · exact State.violation_session ..
  · split
    · rfl
    · split <;> rfl

theorem State.releaseOn_session (s : State) (req : Requester) (r n : Nat) : (s.releaseOn req r n).1.session = s.session := by
  have hgate := s.ringGate_session req r
  unfold State.releaseOn
  split
  · next h => rwa [h] at hgate
  · next h =>
    rw [h] at hgate
    dsimp only
    split
    · exact hgate
    · split
      · exact (State.signal_session ..).trans hgate
      · exact hgate

theorem State.drainRing_session (s : State) (st ring n : Nat) : (s.drainRing st ring n).session = s.session := by
  induction n generalizing s with
  | zero => rfl
  | succ n ih =>
    unfold State.drainRing
    split
    · rfl
    · split
      · rfl
      · refine (ih _).trans ?_
        unfold State.releaseRec
        split
        · exact State.releaseOn_session ..
        · rfl

theorem State.endSeq_reset_session (s : State) (e : Nat) : (s.endSeq e .reset).session = s.session := by
  unfold State.endSeq State.settleStation State.setStation State.closeRecs
  dsimp only
  split
  · rfl
  · have hdrain : ∀ (u : State) (st : Nat) (l : List Nat),
        (l.foldl (fun s ring => s.drainRing st ring s.rs.wins.length) u).session = u.session := fun u st l =>
      foldl_keeps State.session _ (fun s ring => s.drainRing_session ..) l u
    split
    · split
      · exact hdrain ..
      · exact hdrain ..
    · exact hdrain ..

theorem State.noteRestart_session (s : State) : s.noteRestart.session = s.session := by
  unfold State.noteRestart
  dsimp only
  split
  · exact (foldl_keeps State.session _ State.endSeq_reset_session _ _).trans rfl
  · rfl

theorem State.noteWake_session (s : State) : s.noteWake.session = s.session := by
  unfold State.noteWake
  split
  · rfl
  · split <;> rfl

theorem State.session_autonomy {s t : State} (h : s.session = t.session) : s.fd.autonomy = t.fd.autonomy := congrArg (·.2.2.2.2.2) h

theorem State.session_up {s t : State} (h : s.session = t.session) : s.link.up = t.link.up := congrArg (·.1) h

theorem State.session_training {s t : State} (h : s.session = t.session) : s.link.training = t.link.training := congrArg (·.2.1) h

theorem State.session_seen {s t : State} (h : s.session = t.session) : s.link.seen = t.link.seen := congrArg (·.2.2.1) h

theorem State.session_fd_up {s t : State} (h : s.session = t.session) : s.fd.up = t.fd.up := congrArg (·.2.2.2.1) h

theorem State.session_everUp {s t : State} (h : s.session = t.session) : s.fd.everUp = t.fd.everUp := congrArg (·.2.2.2.2.1) h

/-! ### A link that is lost -/

theorem State.dropped_views {t : State} (h : t.link.views = s.link.dropViews.views) (n : Nat) : (t.view n).valid = false := by
  unfold State.view
  rw [h]
  exact congrArg View.valid (Tab.at_map {} s.link.views (fun _ v => { v with valid := false }) (fun _ => rfl) n)

theorem State.lost_ports {t : State} (h : t.can = s.canLost.can) (p : Nat) :
    (t.port p).avail = false ∧ (t.port p).rx = [] ∧ (t.port p).tx = [] := by
  have hport : t.port p = { s.port p with avail := false, rx := [], tx := [], sdo := none, jdtWait := [], jdtXfer := [] } := by
    unfold State.port
    rw [h]
    exact Tab.at_map {} s.can (fun _ x => { x with avail := false, rx := [], tx := [], sdo := none, jdtWait := [], jdtXfer := [] }) (fun _ => rfl) p
  simp [hport]

/-! ### One step of each side -/

theorem heartbeat_compute (state : BitVec 8) (us : BitVec 32) : Completes (.heartbeat .compute state us) s (fun t =>
    t.link = { s.link with missRun := 0 } ∧ t = { s with link := t.link, fd := t.fd }) :=
  ⟨_, rfl, rfl, rfl⟩

theorem State.openSession_autonomy (s : State) : s.openSession.fd.autonomy = s.fd.autonomy := State.session_autonomy s.openSession_session

theorem heartbeat_field (state : BitVec 8) (us : BitVec 32) (hon : s.fd.on = true) (hup : s.fd.up = true) :
    Completes (.heartbeat .field state us) s (fun t =>
      (s.fd.autonomy = .none →
        t.fd = { s.fd with missRun := 0, stat := if state = 1 then 1 else s.fd.stat } ∧ t = { s with fd := t.fd, link := t.link })
      ∧ (s.fd.autonomy ≠ .none → s.fd.hbRun < 7 →
        t.fd.hbRun = s.fd.hbRun + 1 ∧ t.fd.autonomy = s.fd.autonomy ∧ t = { s with fd := t.fd, link := t.link })
      ∧ (s.fd.autonomy ≠ .none → 7 ≤ s.fd.hbRun → t.fd.autonomy = .none)) := by
  have hstate : state.toNat = 1 ↔ state = 1 := by bv_omega
  refine ⟨s.fieldHeartbeat state.toNat us.toNat, rfl, fun hnone => ?_, fun hsome hfew => ?_, fun hsome hmany => ?_⟩
  all_goals
    unfold State.fieldHeartbeat State.fieldTakes
    dsimp only
    rw [if_neg (by simp [hon, hup])]
  · rw [if_pos hnone]
    simp [hstate]
  · rw [if_neg hsome, if_neg (by omega)]
    exact ⟨rfl, rfl, rfl⟩
  · rw [if_neg hsome, if_pos (by omega), State.openSession_autonomy]
    rfl

theorem State.computeLost_can (s : State) : s.computeLost.can = s.canLost.can := rfl

theorem State.computeLost_counter (s : State) : s.computeLost.counter 0x2810 2 = s.counter 0x2810 2 := by
  unfold State.computeLost
  exact (State.raise_counter _ _ _ _ (by decide)).trans (State.count_counter_other _ _ _ _ _ (by decide) (by decide))

theorem heartbeatMiss_compute (hup : s.link.up = true) (hrun : s.computeRuns = true) : Completes (.heartbeatMiss .compute) s (fun t =>
    t.counter 0x2810 2 = satInc (s.counter 0x2810 2)
    ∧ (s.link.missRun < 2 → t.link = { s.link with missRun := s.link.missRun + 1 } ∧ t = { s with rep := t.rep, link := t.link })
    ∧ (2 ≤ s.link.missRun → t.link.up = false ∧ t.link.autonomy = true ∧ (∀ n, (t.view n).valid = false)
        ∧ (∀ p, (t.port p).avail = false ∧ (t.port p).rx = [] ∧ (t.port p).tx = []))) := by
  have hcounted : (s.count 0x2810 2).counter 0x2810 2 = satInc (s.counter 0x2810 2) := s.count_counter 0x2810 2 (by decide)
  by_cases hthird : 2 ≤ s.link.missRun
  · exact ⟨_, congrArg Host.Outcome.next ((if_neg (by simp [hup, hrun])).trans (if_pos (by simp; omega))),
      (State.computeLost_counter _).trans hcounted, fun hfew => absurd hfew (by omega),
      fun _ => ⟨rfl, rfl, State.dropped_views rfl, State.lost_ports rfl⟩⟩
  · exact ⟨_, congrArg Host.Outcome.next ((if_neg (by simp [hup, hrun])).trans (if_neg (by simp; omega))), hcounted, fun _ => ⟨rfl, rfl⟩,
      fun hmany => absurd hmany hthird⟩

theorem heartbeatMiss_field (hon : s.fd.on = true) (hup : s.fd.up = true) (hdir : s.direct = true) :
    Completes (.heartbeatMiss .field) s (fun t =>
      t.counter 0x2810 5 = satInc (s.counter 0x2810 5)
      ∧ (s.fd.missRun < 2 → t.fd = { s.fd with missRun := s.fd.missRun + 1, hbRun := 0 } ∧ t = { s with rep := t.rep, fd := t.fd })
      ∧ (2 ≤ s.fd.missRun → t.fd.up = false ∧ t.fd.autonomy = .fault ∧ t.fd.txq = [])) := by
  have hcounted : (s.fdCount 0x2810 5).counter 0x2810 5 = satInc (s.counter 0x2810 5) := by
    rw [State.fdCount_direct hdir]
    exact s.count_counter 0x2810 5 (by decide)
  have hmiss : execHeartbeatMiss .field s = .next (if 3 ≤ s.fd.missRun + 1 then (s.count 0x2810 5).fieldDeclaresLost
      else { s.count 0x2810 5 with fd := { s.fd with missRun := s.fd.missRun + 1, hbRun := 0 } }) := by
    simp [execHeartbeatMiss, hon, hup, State.fdCount_direct hdir]
  rw [State.fdCount_direct hdir] at hcounted
  refine ⟨_, hmiss, ?_⟩
  by_cases hthird : 2 ≤ s.fd.missRun
  · rw [if_pos (by omega)]
    refine ⟨hcounted, fun hfew => absurd hfew (by omega), fun _ => ⟨rfl, ?_, rfl⟩⟩
    exact if_pos ((State.direct_iff s).1 hdir).2.1
  · rw [if_neg (by omega)]
    exact ⟨hcounted, fun _ => ⟨rfl, rfl⟩, fun hmany => absurd hmany hthird⟩

theorem fieldLinkUp_opens (hup : s.link.up = false) (htr : s.link.training = true) (hlanes : s.link.lanes = 0xF#4) (hon : s.fd.on = true)
    (hok : s.heartOk = true) : Completes .fieldLinkUp s (fun t =>
      t.link.up = true ∧ t.fd.up = true ∧ t.fd.everUp = true ∧ t.link.training = false ∧ t.link.seen = true
      ∧ t.fd.autonomy = s.fd.autonomy) := by
  have hnoted : s.noteRestart.noteWake.fd.autonomy = s.fd.autonomy :=
    State.session_autonomy ((State.noteWake_session _).trans (State.noteRestart_session _))
  refine ⟨_, congrArg Host.Outcome.next (if_neg (by simp [hup, htr, hlanes, hon, hok])), ?_⟩
  dsimp only
  split
  · exact ⟨rfl, rfl, rfl, rfl, rfl, hnoted⟩
  · exact ⟨State.session_up (State.openSession_session _), State.session_fd_up (State.openSession_session _),
      State.session_everUp (State.openSession_session _), State.session_training (State.openSession_session _),
      State.session_seen (State.openSession_session _), (State.openSession_autonomy _).trans hnoted⟩

/-- Settles O8: what brings a session up or down is followed through one step, and the rest of the session's opening keeps `State.session`. -/
theorem linkHeartbeats : Obligations.LinkHeartbeats := by
  unfold Obligations.LinkHeartbeats
  intro s
  refine ⟨fun hup hok => ?_, fun hon hup hreq => ?_, fun hon hup hreq haut => ?_, heartbeat_compute, fun state us => heartbeat_field state us,
    heartbeatMiss_compute, heartbeatMiss_field, fun lanes hup hok hon hlost => ?_, fun lanes hup hok => ?_, ?_, ?_, fun hrun => ?_,
    fieldLinkUp_opens⟩
  · exact ⟨_, congrArg Host.Outcome.next (if_pos (by simp [hup, hok])), rfl, rfl⟩
  · exact ⟨_, congrArg Host.Outcome.next ((if_neg (by simp [hup, hon])).trans (if_neg (by simp [hreq]))), rfl, rfl⟩
  · exact ⟨_, congrArg Host.Outcome.next ((if_neg (by simp [hup, hon])).trans (if_pos (by simp [hreq, haut]))), rfl, rfl, rfl, rfl,
      State.count_counter _ _ _ (by decide)⟩
  · exact ⟨_, congrArg Host.Outcome.next (if_neg (by
      simp only [hup, hok, hon]
      split
      · simp
      · next at_ heq => simpa using hlost at_ heq)), rfl⟩
  · exact ⟨_, congrArg Host.Outcome.next (if_neg (by simp [hup, hok])), rfl, rfl, rfl⟩
  · exact ⟨_, rfl, by simp [State.heartOk], rfl, rfl⟩
  · exact ⟨_, rfl, rfl⟩
  · exact ⟨_, congrArg Host.Outcome.next (if_pos hrun), by simp [State.heartOk], rfl, rfl⟩

end Machine
end Sys2Proof
end

section
/-!
REFUTATION. Messages that the field die takes while a session is up: where the written value of a register of the web clock stands.
-/
namespace Sys2Proof
namespace Machine

/-- Refutes O9: a write of a web clock's register over the link is kept in the field die's settings and in the dictionary of the compute die
as well (`State.setField`), where the statement lets the link and the field die alone change. On the reset state with a session up, writing 5
to 2100h:06 leaves 5 in the dictionary, which held nothing there. -/
theorem not_messagesToTheFieldDie : ¬ Obligations.MessagesToTheFieldDie := by
  unfold Obligations.MessagesToTheFieldDie
  intro h
  obtain ⟨-, -, -, -, -, -, -, -, hentry, -⟩ := h { State.reset with
    fd := { State.reset.fd with on := true, up := true }, link := { State.reset.link with up := true } } (by decide) (by decide)
  obtain ⟨t, hexec, -, hframe⟩ := hentry 0 5
  have hdictionary := congrArg (fun u : State => u.num 0x2100 6 0) hframe
  cases hexec
  exact absurd hdictionary (by decide)

end Machine
end Sys2Proof
end

section
/-!
PROOF. Messages that the compute die takes while the link is up (03 R100-R103; 10 R275).
-/
namespace Sys2Proof
namespace Machine

/-! ### Reporting leaves the lines and the settings of the Event Concentrator's sources -/

section
variable (r : Reporting) (env : Env)

/-- What is set and sampled of the sources, apart from what they make pending. -/
def Evc.inputs (e : Evc) : Tab ExtLine × Tab (BitVec 64) := (e.line, e.src)

theorem Reporting.evaluate_inputs (t : Nat) : (r.evaluate env t).evc.inputs = r.evc.inputs := by
  obtain ⟨sig, held, h⟩ := r.evaluate_evc env t
  rw [h]
  rfl

theorem Reporting.occur_inputs (id : Nat) : (r.occur env id).evc.inputs = r.evc.inputs := by
  unfold Reporting.occur
  dsimp only
  split
  · rfl
  · rw [Reporting.evaluate_inputs]
    split
    · rw [Reporting.limited_evc, Reporting.bump_evc]
      rfl
    · rfl

theorem Reporting.enter_inputs (e : Ev) : (r.enter env e).evc.inputs = r.evc.inputs := by
  unfold Reporting.enter
  dsimp only
  rw [Reporting.occur_inputs]
  split
  · rfl
  · rw [Reporting.emcyPort_evc, Reporting.emcyPort_evc]

theorem Reporting.settle_inputs : (r.settle env).evc.inputs = r.evc.inputs :=
  Reporting.drainN_induction env (fun _ u => u.evc.inputs = r.evc.inputs) (fun _ _ h => h)
    (fun _ u e rest h => (Reporting.enter_inputs { u with due := rest } env e).trans h) _ r rfl

theorem Reporting.settle_ext (k : Nat) : (r.settle env).evc.ext k = r.evc.ext k :=
  congrArg (fun x : Tab ExtLine × Tab (BitVec 64) => Tab.at ({} : ExtLine) x.1 k) (r.settle_inputs env)

end

/-! ### Results of cues -/

variable {s : State}

theorem State.settleStation_eq (s : State) (st : Nat) :
    s.settleStation st = { s with st := (s.settleStation st).st, rep := (s.settleStation st).rep } := by
  unfold State.settleStation State.setStation
  split
  · split <;> rfl
  · rfl

theorem State.takeResult_of_unused {e c : Nat} (h : (s.cueUse e).used = false) : s.takeResult e c = s := by
  unfold State.takeResult
  exact if_pos h

theorem State.takeResult_of_kick {e c : Nat} (hused : (s.cueUse e).used = true) (hfirst : (s.cueUse e).first = false)
    (hkick : (s.cueUse e).kick = true) (hc : c < 2) : s.takeResult e c = (s.freeUse e).settleStation (s.cueUse e).station := by
  unfold State.takeResult State.triggerCrossed
  have hcode : c = cueCrossed ∨ c = cueSuppressed := by
    unfold cueCrossed cueSuppressed
    omega
  rcases hcode with rfl | rfl
  · simp [hused, hfirst, hkick]
  · simp [hused, hfirst, cueCrossed, cueSuppressed]

theorem State.freeUse_cueUse (s : State) (e f : Nat) : (s.freeUse e).cueUse f = if f = e then {} else s.cueUse f := by
  unfold State.freeUse State.cueUse
  split
  · next h => rw [h, Tab.at_put_same]
  · next h => rw [Tab.at_put_other _ _ _ h]

theorem cueResult_frees {e : Fin 8192} {c : Fin 8} (hup : s.link.up = true) (hrun : s.computeRuns = true) (hused : (s.cueUse e).used = true)
    (hfirst : (s.cueUse e).first = false) (hkick : (s.cueUse e).kick = true) (hc : c.val < 2) : Completes (.cueResult e c) s (fun t =>
      t.cueUse e = {} ∧ (∀ f, f ≠ e.val → t.cueUse f = s.cueUse f) ∧ t = { s with fd := t.fd, rs := t.rs, st := t.st, rep := t.rep }) := by
  have huse : ∀ f, ((((s.computeTakes (.cueResult e.val c.val)).freeUse e).settleStation (s.cueUse e).station).cueUse f)
      = if f = e.val then {} else s.cueUse f := fun f => by
    rw [State.settleStation_eq]
    exact State.freeUse_cueUse ..
  refine ⟨_, congrArg Host.Outcome.next ((if_pos (by simp [State.computeTakes, hup]; exact hrun)).trans
    (State.takeResult_of_kick (s := s.computeTakes (.cueResult e.val c.val)) hused hfirst hkick hc)), ?_, fun f hf => ?_, ?_⟩
  · exact (huse e).trans (if_pos rfl)
  · exact (huse f).trans (if_neg hf)
  · rw [State.settleStation_eq]
    rfl

/-- Settles O10: a message takes the front of the field die's queue and then writes the one place that its kind names. -/
theorem messagesToTheComputeDie : Obligations.MessagesToTheComputeDie := by
  unfold Obligations.MessagesToTheComputeDie
  intro s hup
  have htaken : ¬ (!s.link.up) = true := by simp [hup]
  refine ⟨fun d => ⟨_, congrArg Host.Outcome.next (if_neg htaken), rfl, rfl⟩, fun d => ⟨_, congrArg Host.Outcome.next (if_neg htaken), rfl, rfl⟩,
    fun i j d => ⟨_, congrArg Host.Outcome.next (if_neg htaken), rfl, rfl⟩,
    fun k l us => ⟨_, congrArg Host.Outcome.next (if_neg htaken), ?_, fun m hm => ?_, rfl⟩,
    fun c u st d ctr hc => ⟨_, congrArg Host.Outcome.next ((if_neg htaken).trans ((if_pos rfl).trans (if_neg hc))), rfl, rfl⟩,
    fun u st d ctr n hn => ⟨_, congrArg Host.Outcome.next ((if_neg htaken).trans (if_neg hn)), rfl, rfl⟩,
    fun e c hunused => ⟨s.computeTakes (.cueResult e.val c.val), congrArg Host.Outcome.next ?_, rfl⟩,
    fun e c hrun hused hfirst hkick hc => cueResult_frees hup hrun hused hfirst hkick hc⟩
  · exact (Reporting.settle_ext _ _ _).trans (by simp [Evc.ext, State.computeTakes])
  · exact (Reporting.settle_ext _ _ _).trans (by simp [Evc.ext, State.computeTakes, Tab.at_upd_other _ _ _ hm])
  · split
    · exact State.takeResult_of_unused hunused
    · rfl

end Machine
end Sys2Proof
end

section
/-!
PROOF. Counting and the web clock commands (02 R38, R43, R54, R55, R57): what one change of an encoder's levels does to the clocks, one clock after the other.
-/
namespace Sys2Proof
namespace Machine

variable {s : State}

/-- A fold keeps what each of its steps keeps, where the steps are those of the list. -/
theorem foldl_keeps_of_mem {α β : Type} (g : State → β) (f : State → α → State) {l : List α} (h : ∀ x ∈ l, ∀ s, g (f s x) = g s) (s : State) :
    g (l.foldl f s) = g s := by
  induction l generalizing s with
  | nil => rfl
  | cons x l ih => rw [List.foldl_cons, ih fun y hy => h y (.tail _ hy), h x (.head _)]

/-! ### The field die's settings -/

theorem wcNote_cfg (s : State) (n : Nat) (x : WcNote) : (s.wcNote n x).fd.cfg = s.fd.cfg := by
  unfold State.wcNote
  split
  · split
    · rw [State.fdCount_fd]
    · rfl
  · split
    · rw [State.fdRaise_fd]
    · rfl
  · split
    · rw [State.fdRaiseImp_fd]
    · rfl
  · rfl

theorem wcApply_cfg (s : State) (n : Nat) (r : WebClock × List WcNote) : (s.wcApply n r).fd.cfg = s.fd.cfg :=
  foldl_keeps (fun s : State => s.fd.cfg) _ (fun s x => wcNote_cfg s n x) _ _

theorem wakeTick_fd (s : State) (k : Nat) : (s.wakeTick k).fd = { s.fd with wakeN := (s.wakeTick k).fd.wakeN, wakeSrc := (s.wakeTick k).fd.wakeSrc } := by
  unfold State.wakeTick State.fieldWake
  split
  · dsimp only
    split
    · split <;> rfl
    · rfl
  · rfl

theorem wakeTick_clock (s : State) (n k : Nat) :
    (s.wakeTick n).clock k = { s.clock k with wakeTicks := ((s.wakeTick n).clock k).wakeTicks } ∧ (k ≠ n → (s.wakeTick n).clock k = s.clock k) := by
  unfold State.wakeTick
  split
  · have hwc : ∀ u : State, (u.fieldWake 4).clock k = u.clock k := fun u => clock_of_wc (by simp) k
    have hclock : ((s.updClock n fun w => { w with wakeTicks := w.wakeTicks + 1 }).clock k)
        = { s.clock k with wakeTicks := ((s.updClock n fun w => { w with wakeTicks := w.wakeTicks + 1 }).clock k).wakeTicks }
        ∧ (k ≠ n → (s.updClock n fun w => { w with wakeTicks := w.wakeTicks + 1 }).clock k = s.clock k) := by
      by_cases hk : k = n
      · subst hk
        simp
      · simp [State.clock_updClock_other _ _ hk]
    dsimp only
    split
    · rw [hwc]
      exact hclock
    · exact hclock
  · exact ⟨rfl, fun _ => rfl⟩

/-! ### One clock takes the change -/

/-- A clock that uses the encoder takes a new state from its own rules; a position that has moved may wake the machine and re-arm the clock's cues. -/
theorem clockEdge_cases (s : State) (m n : Nat) (q : Int) (g : Bool) (huses : n = m ∨ (s.wcCfg n).backup = m) : ∃ r u, u = s.wcApply n r
    ∧ (n = m → (s.wcCfg n).backup ≠ m → r.1.x4 = ((s.clock n).primary (s.wcCfg n) s.clk.field q g).1.x4)
    ∧ (s.clockEdge m n q g = u ∨ s.clockEdge m n q g = u.wakeTick n ∨ s.clockEdge m n q g = (u.wakeTick n).rearmCues n) := by
  unfold State.clockEdge
  extract_lets c now w w1 w2 high src wz u v
  rw [if_pos huses]
  refine ⟨(wz, w1.2 ++ w2.2), u, rfl, fun hn hb => ?_, ?_⟩
  · have hw : w2 = (w1.1, []) := if_neg hb
    have hw1 : w1 = w.primary c now q g := if_pos hn
    simp only [wz, src, hw, hw1]
    rfl
  · split
    · exact .inl rfl
    · split
      · exact .inr (.inl rfl)
      · exact .inr (.inr rfl)

theorem clockEdge_of_unused (s : State) {m n : Nat} (q : Int) (g : Bool) (hn : n ≠ m) (hb : (s.wcCfg n).backup ≠ m) : s.clockEdge m n q g = s := by
  unfold State.clockEdge
  exact if_neg (by simp [hn, hb])

/-- What applying a clock's rules, waking and re-arming keep, a change of levels keeps. -/
theorem clockEdge_keeps {β : Type} (f : State → β) (s : State) (m n : Nat) (q : Int) (g : Bool) (happly : ∀ r, f (s.wcApply n r) = f s)
    (hwake : ∀ u : State, f (u.wakeTick n) = f u) (hrearm : ∀ u : State, f (u.rearmCues n) = f u) : f (s.clockEdge m n q g) = f s := by
  by_cases huses : n = m ∨ (s.wcCfg n).backup = m
  · obtain ⟨r, u, rfl, -, h | h | h⟩ := clockEdge_cases s m n q g huses
    · rw [h, happly]
    · rw [h, hwake, happly]
    · rw [h, hrearm, hwake, happly]
  · obtain ⟨hn, hb⟩ := not_or.1 huses
    rw [clockEdge_of_unused s q g hn hb]

theorem clockEdge_cfg (s : State) (m n : Nat) (q : Int) (g : Bool) : (s.clockEdge m n q g).fd.cfg = s.fd.cfg :=
  clockEdge_keeps (fun s : State => s.fd.cfg) s m n q g (wcApply_cfg s n) (fun u => by rw [wakeTick_fd]) fun u => by rw [State.rearmCues_fd]

theorem clockEdge_enc (s : State) (m n : Nat) (q : Int) (g : Bool) (k : Nat) : (s.clockEdge m n q g).enc k = s.enc k :=
  clockEdge_keeps (fun s : State => s.enc k) s m n q g (wcApply_enc s n k) (fun u => enc_of_fd (by rw [wakeTick_fd]) k)
    fun u => enc_of_fd (by rw [State.rearmCues_fd]) k

theorem clockEdge_clock_other (s : State) (m n : Nat) (q : Int) (g : Bool) {k : Nat} (hk : k ≠ n) : (s.clockEdge m n q g).clock k = s.clock k :=
  clockEdge_keeps (fun s : State => s.clock k) s m n q g (wcApply_clock_other s n k hk) (fun u => (wakeTick_clock u n k).2 hk)
    fun u => clock_of_wc (by simp) k

theorem primary_x4 (w : WebClock) (c : WcCfg) (now : Nat) (q : Int) (g : Bool) (hlost : w.lost = false) (hback : w.onBackup = false)
    (hdir : c.expectDir = 0) : (w.primary c now q g).1.x4 = if g then w.x4 else BitVec.ofInt 50 (w.x4.toNat + q) := by
  unfold WebClock.primary WebClock.glitch WebClock.count4
  rw [if_neg (by simp [hlost, hback])]
  cases g with
  | true => rfl
  | false =>
    simp only [hdir, zero_ne_one, Bool.false_eq_true, if_false]
    split <;> rfl

/-- The x4 count of the clock that the encoder drives, on a clock that does not use it as its backup too. -/
theorem clockEdge_x4 (s : State) (n : Nat) (q : Int) (g : Bool) (hb : (s.wcCfg n).backup ≠ n) (hlost : (s.clock n).lost = false)
    (hback : (s.clock n).onBackup = false) (hdir : (s.wcCfg n).expectDir = 0) :
    ((s.clockEdge n n q g).clock n).x4 = if g then (s.clock n).x4 else BitVec.ofInt 50 ((s.clock n).x4.toNat + q) := by
  rw [← primary_x4 (s.clock n) (s.wcCfg n) s.clk.field q g hlost hback hdir]
  obtain ⟨r, u, rfl, hx4, h⟩ := clockEdge_cases s n n q g (.inl rfl)
  have hwake : (((s.wcApply n r).wakeTick n).clock n).x4 = ((s.wcApply n r).clock n).x4 := by rw [(wakeTick_clock _ n n).1]
  rw [← hx4 rfl hb, ← wcApply_clock s n r]
  rcases h with h | h | h
  · rw [h]
  · rw [h, hwake]
  · rw [h, ← hwake]
    exact congrArg WebClock.x4 (clock_of_wc (by simp) n)

/-! ### All clocks take the change -/

/-- A change of an encoder's levels, taken by the eight clocks in turn. -/
def State.edgeTaken (s : State) (m : Nat) (q : Int) (g : Bool) : State := (List.range 8).foldl (fun s n => s.clockEdge m n q g) s

theorem edgeTaken_enc (s : State) (m : Nat) (q : Int) (g : Bool) (k : Nat) : (s.edgeTaken m q g).enc k = s.enc k :=
  foldl_keeps (fun s : State => s.enc k) _ (fun s n => clockEdge_enc s m n q g k) _ s

theorem edgeTaken_eq (s : State) (m : Nat) (q : Int) (g : Bool) : s.edgeTaken m q g = { s with
    fd := (s.edgeTaken m q g).fd, rep := (s.edgeTaken m q g).rep, wc := (s.edgeTaken m q g).wc, cue := (s.edgeTaken m q g).cue } := by
  refine (List.range 8).foldlRecOn _ (motive := fun t : State => t = { s with fd := t.fd, rep := t.rep, wc := t.wc, cue := t.cue }) rfl
    fun t ht n _ => ?_
  have hedge : t.clockEdge m n q g = { t with
      fd := (t.clockEdge m n q g).fd, rep := (t.clockEdge m n q g).rep, wc := (t.clockEdge m n q g).wc, cue := (t.clockEdge m n q g).cue } := by
    apply State.eq_of_fields <;> simp
  rw [hedge, ht]

/-- A clock is touched at its own turn alone. -/
theorem edgeTaken_clock (s : State) (m : Nat) (q : Int) (g : Bool) {n : Nat} (hn : n < 8) :
    ∃ u : State, u.clock n = s.clock n ∧ u.wcCfg n = s.wcCfg n ∧ (s.edgeTaken m q g).clock n = (u.clockEdge m n q g).clock n := by
  obtain ⟨a, b, hab⟩ := List.append_of_mem (List.mem_range.2 hn)
  have hnodup := hab ▸ List.nodup_range (n := 8)
  have ha : ∀ k ∈ a, n ≠ k := fun k hk heq => by
    subst heq
    exact (List.disjoint_of_nodup_append hnodup) hk (.head _)
  have hb : ∀ k ∈ b, n ≠ k := fun k hk heq => by
    subst heq
    exact (List.nodup_cons.1 hnodup.of_append_right).1 hk
  refine ⟨a.foldl (fun s n => s.clockEdge m n q g) s, ?_, ?_, ?_⟩
  · exact foldl_keeps_of_mem (fun s : State => s.clock n) _ (fun k hk u => clockEdge_clock_other u m k q g (ha k hk)) s
  · exact congrArg (fun c => Machine.wcCfg c n) (foldl_keeps (fun s : State => s.fd.cfg) _ (fun s k => clockEdge_cfg s m k q g) a s)
  · unfold State.edgeTaken
    rw [hab, List.foldl_append, List.foldl_cons]
    exact foldl_keeps_of_mem (fun s : State => s.clock n) _ (fun k hk u => clockEdge_clock_other u m k q g (hb k hk)) _

theorem edgeTaken_clock_unused (s : State) (m : Nat) (q : Int) (g : Bool) {k : Nat} (hk : k ≠ m) (hb : (s.wcCfg k).backup ≠ m) :
    (s.edgeTaken m q g).clock k = s.clock k := by
  by_cases h8 : k < 8
  · obtain ⟨u, hclock, hcfg, h⟩ := edgeTaken_clock s m q g h8
    rw [h, clockEdge_of_unused u q g hk (hcfg ▸ hb), hclock]
  · exact foldl_keeps_of_mem (fun s : State => s.clock k) _
      (fun n hn u => clockEdge_clock_other u m n q g (by have := List.mem_range.1 hn; omega)) s

theorem quadratureEdge_counts (n : Fin 8) (hon : s.fd.on = true) {a b : Bool} (hchange : (s.enc n).a ≠ a ∨ (s.enc n).b ≠ b) :
    Completes (.quadratureEdge n a b) s (fun t =>
      t.enc n = { s.enc n with a := a, b := b } ∧ (∀ k, k ≠ n.val → t.enc k = s.enc k)
      ∧ (∀ k, k ≠ n.val → (s.wcCfg k).backup ≠ n.val → t.clock k = s.clock k)
      ∧ ((s.wcCfg n).backup ≠ n.val → (s.clock n).lost = false → (s.clock n).onBackup = false → (s.wcCfg n).expectDir = 0 →
          (t.clock n).x4 = (if (s.enc n).a ≠ a ∧ (s.enc n).b ≠ b then (s.clock n).x4
            else BitVec.ofInt 50 ((s.clock n).x4.toNat + quadStep (s.enc n).a (s.enc n).b a b)))
      ∧ t = { s with fd := t.fd, rep := t.rep, wc := t.wc, cue := t.cue }) := by
  have hguard : ¬ (!s.fd.on || ((s.enc n).a == a && (s.enc n).b == b)) = true := by
    simp only [hon]
    rcases hchange with h | h <;> simp [h]
  refine ⟨(s.updEnc n fun e => { e with a := a, b := b }).edgeTaken n (quadStep (s.enc n).a (s.enc n).b a b)
    ((s.enc n).a != a && (s.enc n).b != b), congrArg Host.Outcome.next (if_neg hguard), ?_, fun k hk => ?_, fun k hk hb => ?_,
    fun hb hlost hback hdir => ?_, ?_⟩
  · simp [edgeTaken_enc]
  · rw [edgeTaken_enc, State.enc_updEnc_other _ _ hk]
  · exact edgeTaken_clock_unused _ _ _ _ hk hb
  · obtain ⟨u, hclock, hcfg, h⟩ := edgeTaken_clock (s.updEnc n fun e => { e with a := a, b := b }) n (quadStep (s.enc n).a (s.enc n).b a b)
      ((s.enc n).a != a && (s.enc n).b != b) n.isLt
    have hclock' : u.clock n = s.clock n := hclock
    have hcfg' : u.wcCfg n = s.wcCfg n := hcfg
    rw [h, clockEdge_x4 u n _ _ (hcfg' ▸ hb) (hclock' ▸ hlost) (hclock' ▸ hback) (hcfg' ▸ hdir), hclock']
    simp
  · rw [edgeTaken_eq]
    rfl

/-! ### The other commands -/

theorem standstill_stops (n : Fin 8) (hon : s.fd.on = true) (hlost : (s.clock n).lost = false) : Completes (.standstillTimeout n) s (fun t =>
      (t.clock n).standstill = true ∧ ((s.clock n).standstill = false → (t.clock n).vel = 0) ∧ (t.clock n).x4 = (s.clock n).x4
      ∧ (∀ k, k ≠ n.val → t.clock k = s.clock k) ∧ t = { s with fd := t.fd, rep := t.rep, wc := t.wc }) := by
  refine ⟨_, congrArg Host.Outcome.next (if_pos (by simp [hon, hlost])), ?_, fun hmoving => ?_, ?_, fun k hk => ?_, ?_⟩
  · rw [wcApply_clock]
    unfold WebClock.stop
    split
    · assumption
    · rfl
  · rw [wcApply_clock]
    simp [WebClock.stop, hmoving]
  · rw [wcApply_clock]
    unfold WebClock.stop
    split <;> rfl
  · exact wcApply_clock_other _ _ _ hk _
  · apply State.eq_of_fields <;> simp

theorem velocityUpdate_follows (n : Fin 8) (hon : s.fd.on = true) : Completes (.velocityUpdate n) s (fun t =>
      ((s.clock n).standstill = true ∨ (s.clock n).lost = true → (t.clock n).vel = 0)
      ∧ ((s.clock n).standstill = false → (s.clock n).lost = false →
          (t.clock n).vel = (if (s.clock n).velReset then (s.clock n).raw (s.wcCfg n) s.clk.field
            else (s.clock n).vel + ((s.clock n).raw (s.wcCfg n) s.clk.field - (s.clock n).vel) / ((2 ^ (s.wcCfg n).velFilter : Nat) : Rat)))
      ∧ (t.clock n).x4 = (s.clock n).x4 ∧ (∀ k, k ≠ n.val → t.clock k = s.clock k) ∧ t = { s with wc := t.wc }) := by
  refine ⟨_, congrArg Host.Outcome.next (if_pos hon), fun hstop => ?_, fun hmoving hlost => ?_, ?_, fun k hk => ?_, rfl⟩
  · simp [WebClock.velocityUpdate, hstop]
  · simp [WebClock.velocityUpdate, hmoving, hlost]
  · rw [State.clock_updClock]
    unfold WebClock.velocityUpdate
    split <;> rfl
  · exact State.clock_updClock_other _ _ hk

/-- A command on a web clock that the field die takes. -/
theorem State.fieldWrite_of_writable (f : State → State × Resp) (hw : s.fieldWritable = true) : s.fieldWrite f = f s := if_pos hw

theorem returnToPrimary_returns (n : Fin 8) (hans : s.answers) (hw : s.fieldWritable = true) (hback : (s.clock n).onBackup = true)
    (hlost : (s.clock n).lost = false) (hok : (s.enc n).healthy = true) (hsince : (s.enc n).okSince + 1000 * Config.psPerMs ≤ s.clk.field) :
    Completes (.returnToPrimary n) s (fun t =>
      (t.clock n).onBackup = false ∧ (t.clock n).suspFail = false ∧ (t.clock n).x4 = (s.clock n).x4 ∧ t.out.resp = some .ok
      ∧ (∀ k, k ≠ n.val → t.clock k = s.clock k) ∧ t = { s with fd := t.fd, rep := t.rep, wc := t.wc, out := t.out }) := by
  have hdone : s.returnToPrimary n = (((s.updClock n fun w => { w with
      onBackup := false, suspFail := false, rem := 0, bAtEdge := w.bX4.fdiv (2 ^ decodeShift (s.wcCfg n).decode : Nat) }).wcNote n (.ev 0x100B)), .ok) := by
    unfold State.returnToPrimary
    rw [State.fieldWrite_of_writable _ hw]
    exact if_pos ⟨hback, hlost, hok, hsince⟩
  refine ⟨_, congrArg Host.Outcome.next (State.served_answers hans _ _), ?_⟩
  rw [hdone]
  have hclock : ∀ (u : State) (r : Resp) (k : Nat), (u.answer r).clock k = u.clock k := fun _ _ _ => rfl
  refine ⟨?_, ?_, ?_, rfl, fun k hk => ?_, ?_⟩
  · simp [hclock, wcNote_clock]
  · simp [hclock, wcNote_clock]
  · simp [hclock, wcNote_clock]
  · rw [hclock, wcNote_clock, State.clock_updClock_other _ _ hk]
  · apply State.eq_of_fields <;> simp

theorem acknowledgeLost_acknowledges (n : Fin 8) (hans : s.answers) (hw : s.fieldWritable = true) (hlost : (s.clock n).lost = true)
    (hok : (s.enc (if (s.clock n).onBackup then (s.wcCfg n).backup else n)).healthy = true)
    (hsince : (s.enc (if (s.clock n).onBackup then (s.wcCfg n).backup else n)).okSince + 100 * Config.psPerMs ≤ s.clk.field) :
    Completes (.acknowledgeLost n) s (fun t =>
      (t.clock n).lost = false ∧ (t.clock n).standstill = true ∧ (t.clock n).vel = 0 ∧ (t.clock n).x4 = (s.clock n).x4
      ∧ ((s.clock n).mark ≠ .off → (t.clock n).mark = .seeking) ∧ t.out.resp = some .ok
      ∧ (∀ k, k ≠ n.val → t.clock k = s.clock k) ∧ t = { s with fd := t.fd, rep := t.rep, wc := t.wc, out := t.out }) := by
  have hdone : s.acknowledgeLost n = (((s.updClock n WebClock.acknowledge).wcNote n (.ev 0x100C)), .ok) := by
    unfold State.acknowledgeLost
    rw [State.fieldWrite_of_writable _ hw]
    exact if_pos ⟨hlost, hok, hsince⟩
  refine ⟨_, congrArg Host.Outcome.next (State.served_answers hans _ _), ?_⟩
  rw [hdone]
  have hclock : ∀ (u : State) (r : Resp) (k : Nat), (u.answer r).clock k = u.clock k := fun _ _ _ => rfl
  refine ⟨?_, ?_, ?_, ?_, fun hmark => ?_, rfl, fun k hk => ?_, ?_⟩
  · simp [hclock, wcNote_clock, WebClock.acknowledge]
  · simp [hclock, wcNote_clock, WebClock.acknowledge]
  · simp [hclock, wcNote_clock, WebClock.acknowledge]
  · simp [hclock, wcNote_clock, WebClock.acknowledge]
  · simp [hclock, wcNote_clock, WebClock.acknowledge, hmark]
  · rw [hclock, wcNote_clock, State.clock_updClock_other _ _ hk]
  · apply State.eq_of_fields <;> simp

/-- Settles O11: a change of levels is followed clock by clock, and each command acts on the one clock that it names. -/
theorem webClockCommands : Obligations.WebClockCommands := by
  unfold Obligations.WebClockCommands
  intro s n hon
  exact ⟨fun a b hchange => quadratureEdge_counts n hon hchange, velocityUpdate_follows n hon, standstill_stops n hon,
    returnToPrimary_returns n, acknowledgeLost_acknowledges n⟩

end Machine
end Sys2Proof
end

section
/-!
PROOF. The supply of the field die (03 R79, R80; 19). A supply fault switches the eight kickers off one after the other.
-/
namespace Sys2Proof
namespace Machine

variable {s : State}

/-! ### Every kicker is switched off -/

theorem foldl_cutKick_kick (l : List Nat) (s : State) (n : Nat) :
    ((l.foldl (fun s n => s.cutKick n) s).kick n).latch = (s.kick n).latch
    ∧ ((l.foldl (fun s n => s.cutKick n) s).kick n).on = (decide (n ∉ l) && (s.kick n).on) := by
  induction l generalizing s with
  | nil => simp
  | cons m l ih =>
    rw [List.foldl_cons, (ih _).1, (ih _).2]
    by_cases hn : n = m
    · subst hn
      rw [State.cutKick_kick]
      simp
    · rw [State.cutKick_kick_other _ _ _ hn]
      simp [hn]

theorem cutAllKicks_latch (s : State) (n : Nat) : (s.cutAllKicks.kick n).latch = (s.kick n).latch := (foldl_cutKick_kick _ s n).1

theorem cutAllKicks_off (s : State) {n : Nat} (hn : n < 8) : (s.cutAllKicks.kick n).on = false := by
  refine (foldl_cutKick_kick _ s n).2.trans ?_
  simp [hn]

theorem cutAllKicks_direct (s : State) : s.cutAllKicks.direct = s.direct := foldl_keeps State.direct _ State.direct_cutKick _ s

theorem cutAllKicks_trg (s : State) : s.cutAllKicks.fd.trg = s.fd.trg := by
  have hcut : ∀ (u : State) (n : Nat), (u.cutKick n).fd.trg = u.fd.trg := fun u n => by rw [State.cutKick_fd]
  have hfold : ∀ (l : List Nat) (u : State), (l.foldl (fun s n => s.cutKick n) u).fd.trg = u.fd.trg :=
    foldl_keeps (fun s : State => s.fd.trg) _ hcut
  rw [State.cutAllKicks, hfold]

theorem cutAllKicks_tally (s : State) {k : Nat} (hown : k ∉ ownCounters) (hk : ∀ n, n < 8 → k ≠ key (0x2815 + n) 2) : s.cutAllKicks.tally k = s.tally k := by
  refine foldl_keeps_of_mem (fun s : State => s.tally k) _ (fun n hn u => State.tally_cutKick u n k hown (hk n ?_)) s
  exact List.mem_range.1 hn

theorem allTriggersOff_trg (s : State) (k : Nat) : (s.allTriggersOff.trg k).on = false :=
  congrArg Trigger.on (Tab.at_map ({} : Trigger) s.fd.trg (fun _ x => ({ x with on := false, until_ := 0 } : Trigger)) (fun _ => rfl) k)

/-- A supply fault is counted at once while a session is up, and its event is raised. -/
theorem counter_of_counted_raised {u : State} (hdir : u.direct = true) {i j : Nat} (hown : key i j ∉ ownCounters) (e : Ev) :
    ((u.fdCount i j).fdRaise e).counter i j = satInc (u.counter i j) := by
  rw [State.fdRaise_direct ((State.direct_fdCount ..).trans hdir), State.fdCount_direct hdir, State.raise_counter _ _ _ _ hown,
    State.count_counter _ _ _ hown]

theorem fdRaised_fd {u : State} (hdir : u.direct = true) (i j : Nat) (e : Ev) : ((u.fdCount i j).fdRaise e).fd = u.fd := by
  rw [State.fdRaise_direct ((State.direct_fdCount ..).trans hdir), State.fdCount_direct hdir]
  rfl

/-- Every output is off for undervoltage. -/
def State.cutForUnder (s : State) : State :=
  { s.cutAllKicks.allTriggersOff with fd := { s.cutAllKicks.allTriggersOff.fd with under := true } }

/-- Every kicker is off for overvoltage. -/
def State.cutForOver (s : State) : State := { s.cutAllKicks with fd := { s.cutAllKicks.fd with overV := true } }

theorem supplyFault_key {j : Nat} (hj : j < 256) : ∀ n, n < 8 → key 0x2811 j ≠ key (0x2815 + n) 2 := fun n _ heq => by
  have := (key_inj hj (by decide) heq).1
  omega

theorem undervoltage_switches_off (hon : s.fd.on = true) (hunder : s.fd.under = false) (hdir : s.direct = true) :
    Completes .vfieldUndervoltage s (fun t =>
      t.fd.under = true ∧ (∀ n, n < 8 → (t.kick n).on = false) ∧ (∀ k, (t.trg k).on = false)
      ∧ (∀ n, (t.kick n).latch = (s.kick n).latch) ∧ t.counter 0x2811 1 = satInc (s.counter 0x2811 1) ∧ t = { s with fd := t.fd, rep := t.rep }) := by
  have hcut : s.cutForUnder.direct = true := by
    have hsame : s.cutForUnder.direct = s.cutAllKicks.direct := by simp only [State.direct, State.cutForUnder, State.allTriggersOff]
    rw [hsame, cutAllKicks_direct, hdir]
  have hexec : exec .vfieldUndervoltage s = .next ((s.cutForUnder.fdCount 0x2811 1).fdRaise { code := 0x1102 }) :=
    congrArg Host.Outcome.next (if_neg (by simp [hon, hunder]))
  have hfd := fdRaised_fd hcut 0x2811 1 { code := 0x1102 }
  have hkick : ∀ n, ((s.cutForUnder.fdCount 0x2811 1).fdRaise { code := 0x1102 }).kick n = s.cutAllKicks.kick n :=
    fun n => State.kick_of_fd ((congrArg FieldDie.kck hfd).trans (by simp only [State.cutForUnder, State.allTriggersOff])) n
  refine ⟨_, hexec, congrArg FieldDie.under hfd, fun n hn => ?_, fun k => ?_, fun n => ?_, ?_, ?_⟩
  · rw [hkick, cutAllKicks_off s hn]
  · have htrg : s.cutForUnder.fd.trg = s.cutAllKicks.allTriggersOff.fd.trg := by simp only [State.cutForUnder]
    rw [State.trg, hfd, htrg, ← State.trg, allTriggersOff_trg]
  · rw [hkick, cutAllKicks_latch]
  · have hcnt : s.cutForUnder.rep = s.cutAllKicks.rep := by simp only [State.cutForUnder, State.allTriggersOff]
    rw [counter_of_counted_raised hcut (by decide), State.counter_eq, State.counter_eq, State.tally, hcnt, ← State.tally,
      cutAllKicks_tally s (by decide) (supplyFault_key (by decide))]
  · apply State.eq_of_fields <;> simp [State.cutForUnder]

theorem overvoltage_switches_off (hon : s.fd.on = true) (hover : s.fd.overV = false) (hdir : s.direct = true) :
    Completes .vfieldOvervoltage s (fun t =>
      t.fd.overV = true ∧ (∀ n, n < 8 → (t.kick n).on = false) ∧ t.fd.trg = s.fd.trg
      ∧ (∀ n, (t.kick n).latch = (s.kick n).latch) ∧ t.counter 0x2811 2 = satInc (s.counter 0x2811 2) ∧ t = { s with fd := t.fd, rep := t.rep }) := by
  have hcut : s.cutForOver.direct = true := by
    have hsame : s.cutForOver.direct = s.cutAllKicks.direct := by simp only [State.direct, State.cutForOver]
    rw [hsame, cutAllKicks_direct, hdir]
  have hexec : exec .vfieldOvervoltage s = .next ((s.cutForOver.fdCount 0x2811 2).fdRaise { code := 0x1103 }) :=
    congrArg Host.Outcome.next (if_neg (by simp [hon, hover]))
  have hfd := fdRaised_fd hcut 0x2811 2 { code := 0x1103 }
  have hkick : ∀ n, ((s.cutForOver.fdCount 0x2811 2).fdRaise { code := 0x1103 }).kick n = s.cutAllKicks.kick n :=
    fun n => State.kick_of_fd ((congrArg FieldDie.kck hfd).trans (by simp only [State.cutForOver])) n
  refine ⟨_, hexec, congrArg FieldDie.overV hfd, fun n hn => ?_, ?_, fun n => ?_, ?_, ?_⟩
  · rw [hkick, cutAllKicks_off s hn]
  · have htrg : s.cutForOver.fd.trg = s.cutAllKicks.fd.trg := by simp only [State.cutForOver]
    rw [hfd, htrg, cutAllKicks_trg]
  · rw [hkick, cutAllKicks_latch]
  · have hcnt : s.cutForOver.rep = s.cutAllKicks.rep := by simp only [State.cutForOver]
    rw [counter_of_counted_raised hcut (by decide), State.counter_eq, State.counter_eq, State.tally, hcnt, ← State.tally,
      cutAllKicks_tally s (by decide) (supplyFault_key (by decide))]
  · apply State.eq_of_fields <;> simp [State.cutForOver]

theorem reversed_loses (s : State) : Completes .vfieldReversed s (fun t =>
      t.fd.on = false ∧ t.pwr.vfield = .reversed ∧ t.pwr.fieldReversed = true
      ∧ t = { s with fd := t.fd, wc := t.wc, cue := t.cue, rep := t.rep, pwr := t.pwr }) := by
  have hlost : ∃ u : State, (u = if s.fd.on then s.fieldLost else s) ∧ u.fd.on = false
      ∧ u = { s with fd := u.fd, wc := u.wc, cue := u.cue, rep := u.rep } := by
    refine ⟨_, rfl, ?_⟩
    split
    · exact ⟨rfl, rfl⟩
    · next hoff => exact ⟨by simpa using hoff, rfl⟩
  obtain ⟨u, hu, hoff, hframe⟩ := hlost
  refine ⟨_, rfl, ?_⟩
  simp only [← hu]
  split
  · exact ⟨hoff, rfl, rfl, by rw [hframe]⟩
  · exact ⟨hoff, rfl, rfl, by rw [hframe]; rfl⟩

/-- Settles O12: a supply fault switches the outputs off one by one and is counted; a supply that goes takes the field die's state with it. -/
theorem fieldSupply : Obligations.FieldSupply := by
  unfold Obligations.FieldSupply
  intro s
  exact ⟨fun hoff => ⟨_, congrArg Host.Outcome.next (if_neg (by simp [hoff])), rfl, rfl, rfl, rfl, rfl, rfl, rfl⟩, undervoltage_switches_off,
    ⟨_, rfl, rfl, rfl⟩, overvoltage_switches_off, ⟨_, rfl, rfl, rfl⟩,
    fun hon => ⟨_, congrArg Host.Outcome.next (if_pos hon), rfl, rfl, rfl, rfl, rfl⟩, reversed_loses s⟩

end Machine
end Sys2Proof
end

section
/-!
PROOF. Web clock writes (02 R49, R59, R70): DECODE, the impression length and the mark-lock settings.
-/
namespace Sys2Proof
namespace Machine

variable {s : State}

theorem State.fnum_setField (s : State) (i j v d : Nat) : (s.setField i j v).fnum i j d = v := by
  simp [State.fnum, State.setField, Cfg.get, Cfg.set]

theorem State.fnum_setField_other (s : State) {i j i' j' : Nat} (v d : Nat) (h : key i' j' ≠ key i j) : (s.setField i j v).fnum i' j' d = s.fnum i' j' d := by
  simp [State.fnum, State.setField, Cfg.get, Cfg.set, Tab.at_put_other _ _ _ h]

theorem State.wcCfg_setField_markPe (s : State) (n v : Nat) : ((s.setField (0x2100 + n) 0x0C v).wcCfg n).markPe = v :=
  s.fnum_setField (0x2100 + n) 0x0C v 0xFF

theorem State.wcCfg_setField_markPe_enable (s : State) (n v : Nat) : ((s.setField (0x2100 + n) 0x0C v).wcCfg n).enable = (s.wcCfg n).enable :=
  congrArg (· == 1) (s.fnum_setField_other v 0 (i := 0x2100 + n) (j := 0x0C) (i' := 0x2100 + n) (j' := 1) (by unfold key; omega))

theorem decodeWrite_rescales (n : Fin 8) (hans : s.answers) (hw : s.fieldWritable = true) {v : BitVec 8} (hv : v = 1 ∨ v = 2 ∨ v = 4)
    (hidle : s.cuesActive n = false) (hnew : (s.wcCfg n).decode ≠ v.toNat) : Completes (.decodeWrite n v) s (fun t =>
      t.fnum (0x2100 + n.val) 2 4 = v.toNat ∧ t.out.resp = some .ok ∧ (t.clock n).x4 = (s.clock n).x4 ∧ (t.clock n).jump = true
      ∧ (t.clock n).turn = posOf v.toNat (s.clock n).x4 ∧ ((s.clock n).mark = .locked → (t.clock n).mark = .seeking)
      ∧ (∀ k, k ≠ n.val → t.clock k = s.clock k) ∧ t = { s with fd := t.fd, od := t.od, wc := t.wc, cue := t.cue, out := t.out }) := by
  have hv' : v.toNat = 1 ∨ v.toNat = 2 ∨ v.toNat = 4 := by
    rcases hv with rfl | rfl | rfl <;> simp
  have hwrite : s.writeDecode n v.toNat = (s.applyDecode n v.toNat, .ok) := by
    unfold State.writeDecode
    rw [if_neg (not_not.2 hv'), State.fieldWrite_of_writable _ hw, if_neg (by simp [hidle])]
  refine ⟨_, congrArg Host.Outcome.next (State.served_answers hans _ _), ?_⟩
  rw [hwrite]
  unfold State.applyDecode
  dsimp only
  rw [if_neg hnew]
  have hclock : ∀ (u : State) (c : Cues) (k : Nat), (State.answer { u with cue := c } .ok).clock k = u.clock k := fun _ _ _ => rfl
  refine ⟨?_, rfl, ?_, ?_, ?_, fun hlocked => ?_, fun k hk => ?_, rfl⟩
  · exact State.fnum_setField ..
  all_goals rw [hclock]
  · rw [State.clock_updClock]
    rfl
  · simp
  · rw [State.clock_updClock]
    rfl
  · rw [State.clock_updClock]
    exact if_pos hlocked
  · rw [State.clock_updClock_other _ _ hk]
    rfl

theorem impressionLenWrite_takes (n : Fin 8) (hans : s.answers) (hw : s.fieldWritable = true) {v : BitVec 32} (hlow : 1 ≤ v.toNat)
    (hhigh : v.toNat ≤ 16777216) (hmark : (s.wcCfg n).markPe = 0xFF ∨ markRule (s.wcCfg n).markPhase (s.wcCfg n).markWindow v.toNat = true) :
    Completes (.impressionLenWrite n v) s (fun t =>
      t.fnum (0x2100 + n.val) 4 8192 = v.toNat ∧ t.out.resp = some .ok
      ∧ ((s.clock n).touched = false → (t.clock n).len = v.toNat ∧ (t.clock n).lenPend = none)
      ∧ ((s.clock n).touched = true → (t.clock n).len = (s.clock n).len ∧ (t.clock n).lenPend = if v.toNat = (s.clock n).len then none else some v.toNat)
      ∧ (t.clock n).phase = (s.clock n).phase ∧ (∀ k, k ≠ n.val → t.clock k = s.clock k)
      ∧ t = { s with fd := t.fd, od := t.od, wc := t.wc, out := t.out }) := by
  have hwrite : s.writeLen n v.toNat = (s.applyLen n v.toNat, .ok) := by
    unfold State.writeLen
    rw [if_neg (by omega), if_neg (by rcases hmark with h | h <;> simp [h]), State.fieldWrite_of_writable _ hw]
  refine ⟨_, congrArg Host.Outcome.next (State.served_answers hans _ _), ?_⟩
  rw [hwrite]
  unfold State.applyLen
  have hsame : ∀ k, (s.setField (0x2100 + n.val) 4 v.toNat).clock k = s.clock k := fun _ => rfl
  have hclock : ∀ (u : State) (k : Nat), (u.answer .ok).clock k = u.clock k := fun _ _ => rfl
  refine ⟨State.fnum_setField .., rfl, fun hfresh => ?_, fun hmoved => ?_, ?_, fun k hk => ?_, rfl⟩
  all_goals rw [hclock]
  · simp [hsame, hfresh]
  · simp [hsame, hmoved]
  · rw [State.clock_updClock, hsame]
    split <;> rfl
  · rw [State.clock_updClock_other _ _ hk, hsame]

theorem markConfigWrite_pe (n : Fin 8) (hans : s.answers) (hw : s.fieldWritable = true) {v : BitVec 32}
    (hrule : s.markRuleOk n (s.wcCfg n).markPhase (s.wcCfg n).markWindow = true) (hv : v.toNat ≤ 15) :
    Completes (.markConfigWrite n .pe v) s (fun t =>
      t.fnum (0x2100 + n.val) 0x0C 0xFF = v.toNat ∧ t.out.resp = some .ok
      ∧ ((s.wcCfg n).enable = true → v.toNat ≠ (s.wcCfg n).markPe → (t.clock n).mark = .seeking)
      ∧ (∀ k, k ≠ n.val → t.clock k = s.clock k) ∧ t = { s with fd := t.fd, od := t.od, wc := t.wc, out := t.out }) := by
  have hwrite : s.writeMarkCfg n .pe v.toNat = ((if v.toNat = (s.wcCfg n).markPe then s.setField (0x2100 + n.val) 0x0C v.toNat
      else (s.setField (0x2100 + n.val) 0x0C v.toNat).updClock n fun w => { w with mark := .off }).markFollow n, .ok) := by
    unfold State.writeMarkCfg
    rw [State.fieldWrite_of_writable _ hw]
    dsimp only
    rw [if_neg (not_not.2 (Or.inl hv)), if_neg (by simp [hrule])]
  refine ⟨_, congrArg Host.Outcome.next (State.served_answers hans _ _), ?_⟩
  rw [hwrite]
  have hclock : ∀ (u : State) (k : Nat), (u.answer .ok).clock k = u.clock k := fun _ _ => rfl
  have hsame : ∀ k, (s.setField (0x2100 + n.val) 0x0C v.toNat).clock k = s.clock k := fun _ => rfl
  unfold State.markFollow
  split
  · next heq =>
    refine ⟨State.fnum_setField .., rfl, fun _ hother => absurd heq hother, fun k hk => ?_, rfl⟩
    rw [hclock, State.clock_updClock_other _ _ hk, hsame]
  · refine ⟨State.fnum_setField .., rfl, fun hen _ => ?_, fun k hk => ?_, rfl⟩
    · have hcfg : ∀ (u : State) (f : WebClock → WebClock), (u.updClock n f).wcCfg n = u.wcCfg n := fun _ _ => rfl
      rw [hclock, State.clock_updClock, State.clock_updClock, hcfg, State.wcCfg_setField_markPe, State.wcCfg_setField_markPe_enable,
        if_pos ⟨hen, by omega⟩]
      rfl
    · rw [hclock, State.clock_updClock_other _ _ hk, State.clock_updClock_other _ _ hk, hsame]

theorem markConfigWrite_phase (n : Fin 8) (hans : s.answers) (hw : s.fieldWritable = true) {v : BitVec 32}
    (hrule : (s.wcCfg n).markPe = 0xFF ∨ s.markRuleOk n v.toNat (s.wcCfg n).markWindow = true) : Completes (.markConfigWrite n .phase v) s (fun t =>
      t.fnum (0x2100 + n.val) 0x0E 0 = v.toNat ∧ t.out.resp = some .ok ∧ t = { s with fd := t.fd, od := t.od, out := t.out }) := by
  have hwrite : s.writeMarkCfg n .phase v.toNat = (s.setField (0x2100 + n.val) 0x0E v.toNat, .ok) := by
    unfold State.writeMarkCfg
    rw [State.fieldWrite_of_writable _ hw]
    exact if_neg (by rcases hrule with h | h <;> simp [h])
  refine ⟨_, congrArg Host.Outcome.next (State.served_answers hans _ _), ?_⟩
  rw [hwrite]
  exact ⟨State.fnum_setField .., rfl, rfl⟩

theorem markConfigWrite_window (n : Fin 8) (hans : s.answers) (hw : s.fieldWritable = true) {v : BitVec 32}
    (hrule : (s.wcCfg n).markPe = 0xFF ∨ s.markRuleOk n (s.wcCfg n).markPhase v.toNat = true) : Completes (.markConfigWrite n .window v) s (fun t =>
      t.fnum (0x2100 + n.val) 0x0F 0 = v.toNat ∧ t.out.resp = some .ok ∧ t = { s with fd := t.fd, od := t.od, out := t.out }) := by
  have hwrite : s.writeMarkCfg n .window v.toNat = (s.setField (0x2100 + n.val) 0x0F v.toNat, .ok) := by
    unfold State.writeMarkCfg
    rw [State.fieldWrite_of_writable _ hw]
    exact if_neg (by rcases hrule with h | h <;> simp [h])
  refine ⟨_, congrArg Host.Outcome.next (State.served_answers hans _ _), ?_⟩
  rw [hwrite]
  exact ⟨State.fnum_setField .., rfl, rfl⟩

/-- Settles O14: each accepted write is rewritten to the settings and the clock that it leaves. -/
theorem webClockWrites : Obligations.WebClockWrites := by
  unfold Obligations.WebClockWrites
  intro s n hans hw
  exact ⟨fun v => decodeWrite_rescales n hans hw, fun v => impressionLenWrite_takes n hans hw, fun v => markConfigWrite_pe n hans hw,
    fun v => markConfigWrite_phase n hans hw, fun v => markConfigWrite_window n hans hw⟩

end Machine
end Sys2Proof
end

section
/-!
PROOF. Photo-eyes, the acceleration check and the speed ceilings (02 R48, R58, R66, R67; 03 R90): what the clocks' own rules leave of the photo-eyes and of the field die's queue.
-/
namespace Sys2Proof
namespace Machine

variable {s : State}

/-! ### A photo-eye is forwarded -/

/-- The photo-eyes, what the field die has queued, and whether a session is up. -/
def State.eyeSide (s : State) : Tab PhotoEye × List Msg × Bool := (s.fd.pe, s.fd.txq, s.direct)

theorem wcNote_eyeSide (s : State) (n : Nat) (x : WcNote) : (s.wcNote n x).eyeSide = s.eyeSide := by
  unfold State.wcNote State.fdCount State.fdRaiseImp State.fdRaise
  split
  · split
    · split <;> rfl
    · rfl
  · split
    · split <;> rfl
    · rfl
  · split
    · split
      · rfl
      · split <;> rfl
    · rfl
  · rfl

theorem wcApply_eyeSide (s : State) (n : Nat) (r : WebClock × List WcNote) : (s.wcApply n r).eyeSide = s.eyeSide :=
  foldl_keeps State.eyeSide _ (fun s x => wcNote_eyeSide s n x) _ _

theorem markEdges_eyeSide (s : State) (k : Nat) (level : Bool) : (s.markEdges k level).eyeSide = s.eyeSide := by
  refine foldl_keeps State.eyeSide _ (fun s n => ?_) _ s
  dsimp only
  split
  · exact wcApply_eyeSide ..
  · rfl

theorem fieldWake_eyeSide (s : State) (src : Nat) : (s.fieldWake src).eyeSide = s.eyeSide := by
  unfold State.fieldWake
  split <;> rfl

theorem State.eyeSide_eye {t : State} (h : t.eyeSide = s.eyeSide) (k : Nat) : t.eye k = s.eye k :=
  congrArg (fun x : Tab PhotoEye × List Msg × Bool => Tab.at ({} : PhotoEye) x.1 k) h

theorem State.eyeSide_txq {t : State} (h : t.eyeSide = s.eyeSide) : t.fd.txq = s.fd.txq := congrArg (·.2.1) h

theorem State.eyeSide_direct {t : State} (h : t.eyeSide = s.eyeSide) : t.direct = s.direct := congrArg (·.2.2) h

/-- A level that is due for forwarding goes out with the field die's time. -/
theorem State.forwardEye_of_due (s : State) (k : Nat) (level : Bool) (hdir : s.direct = true)
    (hdue : ∀ at_, (s.eye k).lastFwd = some at_ → at_ + Config.psPerUs ≤ s.clk.field) :
    s.forwardEye k level = { s with fd := { s.fd with
      txq := s.fd.txq ++ [.peEdge k level s.fieldUs]
      pe := s.fd.pe.put k { s.eye k with lastFwd := some s.clk.field, fwdLevel := level } } } := by
  unfold State.forwardEye
  extract_lets p soon msg
  have hsoon : ¬ soon = true := by
    simp only [soon, p]
    split
    · simp
    · next at_ heq => simpa using hdue at_ heq
  rw [if_neg (by simp [hdir]), if_neg hsoon]

/-- The level of a photo-eye is kept. -/
def State.eyeKept (s : State) (k : Nat) (level : Bool) : State :=
  { s with fd := { s.fd with pe := s.fd.pe.upd {} k fun p => { p with level := level } } }

/-- The mark edges of a photo-eye's level are judged, and an orderly field die may wake the machine. -/
def State.eyeJudged (s : State) (k : Nat) (level : Bool) : State :=
  if bit (((s.eyeKept k level).markEdges k level).fnum 0x2620 0x12 0) k then ((s.eyeKept k level).markEdges k level).fieldWake 3
  else (s.eyeKept k level).markEdges k level

theorem exec_peEdge {k : Fin 16} {level : Bool} (hon : s.fd.on = true) (hnew : (s.eye k).level ≠ level) :
    exec (.peEdge k level) s = .next ((s.eyeJudged k level).forwardEye k level) :=
  congrArg Host.Outcome.next (if_neg (by simp [hon, hnew]))

theorem eyeJudged_eyeSide (s : State) (k : Nat) (level : Bool) : (s.eyeJudged k level).eyeSide = (s.eyeKept k level).eyeSide := by
  unfold State.eyeJudged
  split
  · rw [fieldWake_eyeSide, markEdges_eyeSide]
  · exact markEdges_eyeSide ..

theorem eyeJudged_eq (s : State) (k : Nat) (level : Bool) : s.eyeJudged k level = { s with
    fd := (s.eyeJudged k level).fd, rep := (s.eyeJudged k level).rep, wc := (s.eyeJudged k level).wc } := by
  unfold State.eyeJudged
  split <;> apply State.eq_of_fields <;> simp [State.eyeKept]

theorem eyeKept_eye (s : State) (k j : Nat) (level : Bool) :
    (s.eyeKept k level).eye j = if j = k then { s.eye k with level := level } else s.eye j :=
  Tab.at_upd ({} : PhotoEye) s.fd.pe k j fun p => { p with level := level }

theorem peEdge_forwards (k : Fin 16) (level : Bool) (hon : s.fd.on = true) (hnew : (s.eye k).level ≠ level) (hdir : s.direct = true)
    (hdue : ∀ at_, (s.eye k).lastFwd = some at_ → at_ + Config.psPerUs ≤ s.clk.field) : Completes (.peEdge k level) s (fun t =>
      t.eye k = { s.eye k with level := level, lastFwd := some s.clk.field, fwdLevel := level } ∧ (∀ j, j ≠ k.val → t.eye j = s.eye j)
      ∧ t.fd.txq = s.fd.txq ++ [.peEdge k level s.fieldUs] ∧ t = { s with fd := t.fd, rep := t.rep, wc := t.wc }) := by
  have hside := eyeJudged_eyeSide s k level
  have hframe := eyeJudged_eq s k level
  have hclk : (s.eyeJudged k level).clk = s.clk := by rw [hframe]
  have hus : (s.eyeJudged k level).fieldUs = s.fieldUs := by rw [State.fieldUs, hclk, ← State.fieldUs]
  have heye : ∀ j, (s.eyeJudged k level).eye j = if j = k.val then { s.eye k with level := level } else s.eye j := fun j =>
    (State.eyeSide_eye hside j).trans (eyeKept_eye s k j level)
  have hforward := State.forwardEye_of_due (s.eyeJudged k level) k level ((State.eyeSide_direct hside).trans hdir) fun at_ hat => by
    rw [heye, if_pos rfl] at hat
    rw [hclk]
    exact hdue at_ hat
  refine ⟨_, exec_peEdge hon hnew, ?_⟩
  rw [hforward, hus, hclk, State.eyeSide_txq hside, heye, if_pos rfl]
  refine ⟨Tab.at_put_same .., fun j hj => ?_, rfl, ?_⟩
  · refine (Tab.at_put_other _ _ _ hj).trans ((heye j).trans (if_neg hj))
  · rw [hframe]

/-! ### The acceleration check -/

theorem State.fdRaiseImp_keeps_counted {u : State} {ks : List Nat} (h : Counted s u ks) (scope imp : Nat) (e : Ev) :
    Counted s (u.fdRaiseImp scope imp e) ks := by
  unfold State.fdRaiseImp State.fdRaise
  split
  · exact h
  · split
    · exact (h.of_rep rfl).raise e
    · exact h.of_rep rfl

theorem State.fdRaiseImp_eq (s : State) (scope imp : Nat) (e : Ev) :
    s.fdRaiseImp scope imp e = { s with fd := (s.fdRaiseImp scope imp e).fd, rep := (s.fdRaiseImp scope imp e).rep } := by
  apply State.eq_of_fields <;> simp

/-- How far the velocity has moved since the last check. -/
theorem excess_of_change {a : Nat} {d : Rat} (h : (a : Rat) < d ∨ (a : Rat) < -d) : (a : Rat) < if d < 0 then -d else d := by
  have ha : (0 : Rat) ≤ a := Nat.cast_nonneg a
  split
  · rcases h with h | h <;> linarith
  · rcases h with h | h <;> linarith

/-- The velocity of a clock is taken as the next one to compare with. -/
def State.velTaken (s : State) (n : Nat) : State := s.updClock n fun x => { x with velMs := x.vel }

/-- The velocity has changed by more than the packages on the clock allow. -/
def State.excess (s : State) (n : Nat) : Bool :=
  match s.accelLimit n with
  | none => false
  | some a => decide ((a : Rat) < (if ((s.clock n).vel - (s.clock n).velMs) * 1000 < 0 then -(((s.clock n).vel - (s.clock n).velMs) * 1000)
      else ((s.clock n).vel - (s.clock n).velMs) * 1000))

theorem State.excess_of_moved {n a : Nat} (ha : s.accelLimit n = some a) (hmoved : (a : Rat) < ((s.clock n).vel - (s.clock n).velMs) * 1000
    ∨ (a : Rat) < ((s.clock n).velMs - (s.clock n).vel) * 1000) : s.excess n = true := by
  unfold State.excess
  rw [ha]
  exact decide_eq_true (excess_of_change (hmoved.imp id fun h => by rwa [← neg_mul, neg_sub]))

/-- A change of velocity above the limit is counted and raised. -/
def State.excessNoted (u : State) (n imp pos : Nat) : State := (u.fdCount (0x2820 + n) 0x0B).fdRaiseImp n imp { code := 0x1008, unit := n, detail := pos }

theorem excessNoted_eq (u : State) (n imp pos : Nat) :
    u.excessNoted n imp pos = { u with fd := (u.excessNoted n imp pos).fd, rep := (u.excessNoted n imp pos).rep } := by
  apply State.eq_of_fields <;> simp [State.excessNoted]

theorem accelerationCheck_takes (n : Fin 8) (hon : s.fd.on = true) : Completes (.accelerationCheck n) s (fun t =>
      t.clock n = { s.clock n with velMs := (s.clock n).vel } ∧ (∀ k, k ≠ n.val → t.clock k = s.clock k)
      ∧ (∀ a, s.accelLimit n = some a → s.direct = true → (s.wcCfg n).enable = true →
          ((a : Rat) < ((s.clock n).vel - (s.clock n).velMs) * 1000 ∨ (a : Rat) < ((s.clock n).velMs - (s.clock n).vel) * 1000) →
          Counted s t [key (0x2820 + n.val) 0x0B])
      ∧ t = { s with fd := t.fd, rep := t.rep, wc := t.wc }) := by
  have hsame : (s.velTaken n).clock n = { s.clock n with velMs := (s.clock n).vel } := State.clock_updClock ..
  have hother : ∀ k, k ≠ n.val → (s.velTaken n).clock k = s.clock k := fun k hk => State.clock_updClock_other _ _ hk
  have hclock : ∀ (u : State) (i p k : Nat), (u.excessNoted n i p).clock k = u.clock k := fun u i p k =>
    clock_of_wc (by rw [excessNoted_eq]) k
  have hexec : exec (.accelerationCheck n) s = .next (if s.excess n && (s.wcCfg n).enable then
      (s.velTaken n).excessNoted n (s.clock n).idx.toNat ((s.clock n).pos (s.wcCfg n)).toNat else s.velTaken n) := by
    show execAccelerationCheck n s = _
    unfold execAccelerationCheck
    have hon' : (s.velTaken n).fd.on = true := hon
    dsimp only
    rw [if_pos hon]
    show Host.Outcome.next (if (s.velTaken n).fd.on && s.excess n && (s.wcCfg n).enable then
      (s.velTaken n).excessNoted n (s.clock n).idx.toNat ((s.clock n).pos (s.wcCfg n)).toNat else s.velTaken n) = _
    rw [hon', Bool.true_and]
  refine ⟨_, hexec, ?_⟩
  split
  · refine ⟨(hclock ..).trans hsame, fun k hk => (hclock ..).trans (hother k hk), fun a ha hdir _ _ => ?_, ?_⟩
    · exact State.fdRaiseImp_keeps_counted ((((Counted.refl s).of_rep (t' := s.velTaken n) rfl).fdCount hdir List.not_mem_nil)) _ _ _
    · rw [excessNoted_eq]
      rfl
  · next hquiet =>
    exact ⟨hsame, hother, fun a ha _ hen hmove => absurd (by simp [State.excess_of_moved ha hmove, hen]) hquiet, rfl⟩

/-! ### The speed ceilings -/

theorem State.loadSpacing_eq (s : State) (n : Nat) : ∃ c l, s.loadSpacing n = { s with rs := { s.rs with chain := c }, link := l } := by
  unfold State.loadSpacing
  split
  · exact ⟨_, _, rfl⟩
  · exact ⟨_, _, rfl⟩

theorem State.loadSpacings_eq (s : State) (w : Nat) : ∃ c l, s.loadSpacings w = { s with rs := { s.rs with chain := c }, link := l } := by
  unfold State.loadSpacings
  refine (s.boundTo w).foldlRecOn _ (motive := fun t : State => ∃ c l, t = { s with rs := { s.rs with chain := c }, link := l }) ⟨_, _, rfl⟩
    fun t ht n _ => ?_
  obtain ⟨c, l, rfl⟩ := ht
  obtain ⟨c', l', h⟩ := State.loadSpacing_eq _ n
  exact ⟨c', l', h⟩

theorem State.publish_eq (s : State) (w v why : Nat) : ∃ c l, s.publish w v why
    = { s with rs := { s.rs with ceiling := s.rs.ceiling.put w { value := v, reason := why }, chain := c }, link := l } := by
  unfold State.publish
  obtain ⟨c, l, h⟩ := State.loadSpacings_eq ({ s with rs := { s.rs with ceiling := s.rs.ceiling.put w { value := v, reason := why } } } : State) w
  exact ⟨c, l, h⟩

theorem State.ceil_put (s : State) (w u : Nat) (x : Ceiling) (c : Tab Chain) (l : Link) :
    (({ s with rs := { s.rs with ceiling := s.rs.ceiling.put w x, chain := c }, link := l } : State).ceil u) = if u = w then x else s.ceil u := by
  unfold State.ceil
  split
  · next h => rw [h, Tab.at_put_same]
  · next h => rw [Tab.at_put_other _ _ _ h]

/-- What recomputing may change. -/
def State.ceilsOnly (s t : State) : Prop := t = { s with rs := t.rs, rep := t.rep, link := t.link }

theorem State.ceilsOnly_trans {s t u : State} (hst : s.ceilsOnly t) (htu : t.ceilsOnly u) : s.ceilsOnly u := by
  unfold State.ceilsOnly at *
  rw [htu, hst]

/-- Recomputing one ceiling leaves the others, and lowers this one to what the rules give where they give less. -/
theorem State.recomputeOne_ceil (s : State) (w : Nat) : (∀ u, u ≠ w → (s.recomputeOne w).ceil u = s.ceil u)
    ∧ ((s.recomputeOne w).ceil w).value = min (s.ceil w).value (s.ceilingOf w).1 ∧ s.ceilsOnly (s.recomputeOne w) := by
  unfold State.recomputeOne
  rcases s.ceilingOf w with ⟨v, why⟩
  dsimp only
  split
  · next h =>
    obtain ⟨ch, l, hpub⟩ := s.publish_eq w v why
    have hraise : ∀ (u : State) (e : Ev) (k : Nat), (u.raise e).ceil k = u.ceil k := fun _ _ _ => rfl
    rw [hpub]
    split
    · refine ⟨fun u hu => ?_, ?_, rfl⟩
      · rw [State.ceil_put, if_neg hu]
      · rw [State.ceil_put, if_pos rfl]
        exact (Nat.min_eq_right (Nat.le_of_lt h)).symm
    · refine ⟨fun u hu => ?_, ?_, rfl⟩
      · rw [hraise, State.ceil_put, if_neg hu]
      · rw [hraise, State.ceil_put, if_pos rfl]
        exact (Nat.min_eq_right (Nat.le_of_lt h)).symm
  · next h =>
    have hmin : (s.ceil w).value = min (s.ceil w).value v := (Nat.min_eq_left (Nat.not_lt.1 h)).symm
    have hput : ∀ x : Ceiling, x.value = (s.ceil w).value →
        (∀ u, u ≠ w → ({ s with rs := { s.rs with ceiling := s.rs.ceiling.put w x } } : State).ceil u = s.ceil u)
        ∧ (({ s with rs := { s.rs with ceiling := s.rs.ceiling.put w x } } : State).ceil w).value = min (s.ceil w).value v
        ∧ s.ceilsOnly { s with rs := { s.rs with ceiling := s.rs.ceiling.put w x } } := fun x hx =>
      ⟨fun u hu => (s.ceil_put w u x s.rs.chain s.link).trans (if_neg hu),
        (congrArg Ceiling.value ((s.ceil_put w w x s.rs.chain s.link).trans (if_pos rfl))).trans (hx.trans hmin), rfl⟩
    split
    · exact hput _ rfl
    · split
      · exact ⟨fun _ _ => rfl, hmin, rfl⟩
      · exact hput _ rfl

theorem ceilingRecompute_lowers (hrun : s.computeRuns = true) : Completes .ceilingRecompute s (fun t =>
      (∀ w, (t.ceil w).value ≤ (s.ceil w).value) ∧ (t.ceil 0).value = min (s.ceil 0).value (s.ceilingOf 0).1
      ∧ t = { s with rs := t.rs, rep := t.rep, link := t.link }) := by
  have hlower : ∀ (u : State) (w k : Nat), ((u.recomputeOne w).ceil k).value ≤ (u.ceil k).value := fun u w k => by
    by_cases hk : k = w
    · rw [hk, (u.recomputeOne_ceil w).2.1]
      exact Nat.min_le_left ..
    · rw [(u.recomputeOne_ceil w).1 k hk]
  obtain ⟨-, hfirst, hframe⟩ := s.recomputeOne_ceil 0
  have hrest := [1, 2, 3, 4, 5, 6, 7].foldlRecOn (fun s w => s.recomputeOne w)
    (motive := fun t : State => (∀ w, (t.ceil w).value ≤ (s.ceil w).value) ∧ (t.ceil 0).value = min (s.ceil 0).value (s.ceilingOf 0).1 ∧ s.ceilsOnly t)
    (b := s.recomputeOne 0) ⟨fun w => hlower s 0 w, hfirst, hframe⟩ fun t ht w hw => by
      obtain ⟨hle, hzero, honly⟩ := ht
      obtain ⟨hother, -, hstep⟩ := t.recomputeOne_ceil w
      have hw0 : 0 ≠ w := fun h => by
        subst h
        simp at hw
      exact ⟨fun k => (hlower t w k).trans (hle k), by rw [hother 0 hw0, hzero], State.ceilsOnly_trans honly hstep⟩
  have hrange : List.range 8 = 0 :: [1, 2, 3, 4, 5, 6, 7] := rfl
  have hexec : exec .ceilingRecompute s = .next ([1, 2, 3, 4, 5, 6, 7].foldl (fun s w => s.recomputeOne w) (s.recomputeOne 0)) := by
    unfold exec execCeilingRecompute
    rw [if_pos hrun, hrange, List.foldl_cons]
  exact ⟨_, hexec, hrest⟩

theorem ceilingRaisePublish_publishes (w : Fin 8) (v : Nat) (hrun : s.computeRuns = true) (hhigher : (s.ceil w).higher = some v)
    (hheld : (s.ceil w).since + s.num 0x2110 0x12 1000 * Config.psPerMs ≤ s.clk.ref) : Completes (.ceilingRaisePublish w) s (fun t =>
      (t.ceil w).value = v ∧ (t.ceil w).higher = none ∧ (∀ u, u ≠ w.val → t.ceil u = s.ceil u)
      ∧ t = { s with rs := t.rs, link := t.link }) := by
  obtain ⟨c, l, hpub⟩ := s.publish_eq w v (if (s.ceilingOf w).1 = v then (s.ceilingOf w).2 else (s.ceil w).reason)
  have hexec : exec (.ceilingRaisePublish w) s
      = .next (s.publish w v (if (s.ceilingOf w).1 = v then (s.ceilingOf w).2 else (s.ceil w).reason)) := by
    simp only [exec, execCeilingRaisePublish, hhigher]
    rw [if_pos ⟨hrun, hheld⟩]
  refine ⟨_, hexec, ?_⟩
  rw [hpub]
  refine ⟨?_, ?_, fun u hu => ?_, rfl⟩
  · rw [State.ceil_put, if_pos rfl]
  · rw [State.ceil_put, if_pos rfl]
  · rw [State.ceil_put, if_neg hu]

/-- Settles O15: an accepted level goes through the clocks' mark locks and then out; a ceiling is only ever lowered by its own recomputation. -/
theorem photoEyesAndCeilings : Obligations.PhotoEyesAndCeilings := by
  unfold Obligations.PhotoEyesAndCeilings
  intro s
  exact ⟨peEdge_forwards, accelerationCheck_takes, ceilingRecompute_lowers, ceilingRaisePublish_publishes⟩

end Machine
end Sys2Proof
end

section
/-!
PROOF. Trigger outputs and the CAN line side (03 R80, R84-R86; 15 R368).
-/
namespace Sys2Proof
namespace Machine

variable {s : State}

/-! ### While a session is up -/

/-- While a session is up, what the field die counts and raises is counted and raised at once. -/
theorem State.fdCount_fdRaise_direct {u : State} (hdir : u.direct = true) (i j : Nat) (e : Ev) :
    (u.fdCount i j).fdRaise e = (u.count i j).raise e := by
  rw [State.fdRaise_direct ((State.direct_fdCount ..).trans hdir), State.fdCount_direct hdir]

theorem Counted.count_raise {u : State} (hrep : u.rep = s.rep) {i j : Nat} (e : Ev) : Counted s ((u.count i j).raise e) [key i j] :=
  ((((Counted.refl s).of_rep hrep).and_count List.not_mem_nil)).raise e

theorem Tab.at_put {α : Type} (d : α) (t : Tab α) (n k : Nat) (x : α) : (t.put n x).at d k = if k = n then x else t.at d k := by
  split
  · next h => rw [h, Tab.at_put_same]
  · next h => rw [Tab.at_put_other _ _ _ h]

/-! ### One trigger output, one line -/

theorem State.trg_of_put {t : State} {k : Nat} {x : Trigger} (h : t.fd.trg = s.fd.trg.put k x) (j : Nat) :
    t.trg j = if j = k then x else s.trg j := by
  unfold State.trg
  rw [h, Tab.at_put]

theorem State.canWire_of_put {t : State} {p : Nat} {x : CanLine} (h : t.fd.canLine = s.fd.canLine.put p x) (q : Nat) :
    t.canWire q = if q = p then x else s.canWire q := by
  unfold State.canWire
  rw [h, Tab.at_put]

theorem triggerShortTrip_latches (k : Fin 32) (hon : s.fd.on = true) (hen : s.trgEnabled k = true) (hfree : (s.trg k).shorted = false)
    (hunder : s.fd.under = false) (hdir : s.direct = true) : Completes (.triggerShortTrip k) s (fun t =>
      t.trg k = { s.trg k with on := false, shorted := true, until_ := 0 } ∧ (∀ j, j ≠ k.val → t.trg j = s.trg j)
      ∧ Counted s t [key 0x2814 (k.val + 1)] ∧ t.fd = { s.fd with trg := t.fd.trg } ∧ t = { s with fd := t.fd, rep := t.rep }) := by
  have hdir' : (s.putTrg k { s.trg k with on := false, shorted := true, until_ := 0 }).direct = true := hdir
  refine ⟨_, congrArg Host.Outcome.next ((if_pos (by simp [hon, hen, hfree, hunder])).trans (State.fdCount_fdRaise_direct hdir' _ _ _)), ?_,
    fun j hj => ?_, Counted.count_raise rfl _, rfl, rfl⟩
  · exact (State.trg_of_put rfl _).trans (if_pos rfl)
  · exact (State.trg_of_put rfl _).trans (if_neg hj)

theorem canLineShort_disables (p : Fin 2) (hon : s.fd.on = true) (hfree : (s.canWire p).short = false) (hdir : s.direct = true) :
    Completes (.canLineShort p) s (fun t =>
      t.canWire p = { s.canWire p with short := true } ∧ (∀ q, q ≠ p.val → t.canWire q = s.canWire q)
      ∧ t.port p = { s.port p with lonely := 0, isLonely := false } ∧ (∀ q, q ≠ p.val → t.port q = s.port q)
      ∧ Counted s t [key 0x281D (1 + p.val)] ∧ t.fd = { s.fd with canLine := t.fd.canLine }
      ∧ t = { s with fd := t.fd, rep := t.rep, can := t.can }) := by
  have hdir' : ({ s with fd := { s.fd with canLine := s.fd.canLine.put p { s.canWire p with short := true } } } : State).direct = true := hdir
  refine ⟨_, congrArg Host.Outcome.next ((if_neg (by simp [hon, hfree])).trans
    (congrArg (State.updPort · p.val fun c => { c with lonely := 0, isLonely := false }) (State.fdCount_fdRaise_direct hdir' _ _ _))),
    ?_, fun q hq => ?_, ?_, fun q hq => ?_, (Counted.count_raise rfl _).of_rep rfl, rfl, rfl⟩
  · exact (State.canWire_of_put rfl _).trans (if_pos rfl)
  · exact (State.canWire_of_put rfl _).trans (if_neg hq)
  · exact State.port_updPort ..
  · exact State.port_updPort_other _ _ hq

theorem dominantCutoff_cuts (p : Fin 2) (hon : s.fd.on = true) (hdir : s.direct = true) : Completes (.dominantCutoff p) s (fun t =>
      t.canWire p = { s.canWire p with cut := true } ∧ (∀ q, q ≠ p.val → t.canWire q = s.canWire q)
      ∧ Counted s t [key 0x281D (3 + p.val)] ∧ t.fd = { s.fd with canLine := t.fd.canLine } ∧ t = { s with fd := t.fd, rep := t.rep }) := by
  have hdir' : ({ s with fd := { s.fd with canLine := s.fd.canLine.put p { s.canWire p with cut := true } } } : State).direct = true := hdir
  refine ⟨_, congrArg Host.Outcome.next ((if_pos hon).trans (State.fdCount_direct hdir' _ _)), ?_, fun q hq => ?_,
    ((Counted.refl s).of_rep rfl).and_count List.not_mem_nil, rfl, rfl⟩
  · exact (State.canWire_of_put rfl _).trans (if_pos rfl)
  · exact (State.canWire_of_put rfl _).trans (if_neg hq)

/-- Settles O16: each command writes one entry of the trigger or the line table, and counts once. -/
theorem triggersAndCanLines : Obligations.TriggersAndCanLines := by
  unfold Obligations.TriggersAndCanLines
  intro s
  refine ⟨fun k => ⟨_, rfl, ?_, fun j hj => ?_, rfl, rfl⟩, triggerShortTrip_latches, canLineShort_disables,
    fun p => ⟨_, rfl, ?_, fun q hq => ?_, rfl, rfl⟩, dominantCutoff_cuts⟩
  · exact (State.trg_of_put rfl _).trans (if_pos rfl)
  · exact (State.trg_of_put rfl _).trans (if_neg hj)
  · exact (State.canWire_of_put rfl _).trans (if_pos rfl)
  · exact (State.canWire_of_put rfl _).trans (if_neg hq)

end Machine
end Sys2Proof
end

section
/-!
PROOF. Kicker flags (03 R82, R83, R87): one kicker's entry is written, and its state may be noted as a source of the Event Concentrator.
-/
namespace Sys2Proof
namespace Machine

variable {s : State}

/-! ### One kicker's entry -/

theorem State.putKick_eq (s : State) (n : Nat) (k : Kicker) :
    s.putKick n k = { s with fd := { s.fd with kck := s.fd.kck.put n k }, rep := (s.putKick n k).rep } := by
  apply State.eq_of_fields <;> simp [State.putKick_fd]

theorem Counted.putKick {t : State} {ks : List Nat} (h : Counted s t ks) (n : Nat) (k : Kicker) : Counted s (t.putKick n k) ks :=
  h.of_tally fun c hc => t.tally_putKick n k c hc

/-- Kicker `n` alone has a new entry, and reporting alone has changed besides. -/
def State.kickWritten (s t : State) (n : Nat) (k : Kicker) : Prop :=
  t.kick n = k ∧ (∀ m, m ≠ n → t.kick m = s.kick m) ∧ t.fd = { s.fd with kck := t.fd.kck } ∧ t = { s with fd := t.fd, rep := t.rep }

theorem State.putKick_written (s : State) (n : Nat) (k : Kicker) : s.kickWritten (s.putKick n k) n k :=
  ⟨s.putKick_kick n k, fun _ hm => s.putKick_kick_other k hm, by rw [State.putKick_fd], by rw [State.putKick_eq]⟩

theorem State.kickWritten_count_raise {t : State} {n : Nat} {k : Kicker} (h : s.kickWritten t n k) (i j : Nat) (e : Ev) :
    s.kickWritten ((t.count i j).raise e) n k := by
  obtain ⟨hkick, hother, hfd, hframe⟩ := h
  have hsame : ∀ m, ((t.count i j).raise e).kick m = t.kick m := fun m => State.kick_of_fd rfl m
  refine ⟨(hsame n).trans hkick, fun m hm => (hsame m).trans (hother m hm), hfd, ?_⟩
  rw [hframe]
  rfl

/-- A flag that is set is counted and raised. -/
theorem State.putKick_noted (hdir : s.direct = true) (n : Nat) (k : Kicker) (i j : Nat) (e : Ev) :
    s.kickWritten (((s.putKick n k).fdCount i j).fdRaise e) n k ∧ Counted s (((s.putKick n k).fdCount i j).fdRaise e) [key i j] := by
  rw [State.fdCount_fdRaise_direct ((s.direct_putKick n k).trans hdir)]
  exact ⟨State.kickWritten_count_raise (s.putKick_written n k) i j e, ((((Counted.refl s).putKick n k).and_count List.not_mem_nil)).raise e⟩

/-! ### The flags -/

theorem kickerShortVf_flags (n : Fin 8) (hen : s.kickEnabled n = true) (hoff : (s.kick n).on = false) (hidle : (s.kick n).pulse = false)
    (hdir : s.direct = true) (hclear : (s.kick n).svf = false) : Completes (.kickerShortVf n) s (fun t =>
        t.kick n = { s.kick n with svf := true } ∧ Counted s t [key (0x2815 + n.val) 8]
        ∧ (∀ m, m ≠ n.val → t.kick m = s.kick m) ∧ t.fd = { s.fd with kck := t.fd.kck } ∧ t = { s with fd := t.fd, rep := t.rep }) := by
  obtain ⟨⟨hkick, hother, hfd, hframe⟩, hcount⟩ := State.putKick_noted hdir n { s.kick n with svf := true } (0x2815 + n.val) 8 { code := 0x110B, unit := n }
  exact ⟨_, congrArg Host.Outcome.next (if_pos (by simp [hen, hoff, hidle, hclear])), hkick, hcount, hother, hfd, hframe⟩

theorem openOffDetect_flags (n : Fin 8) (hen : s.kickEnabled n = true) (hoff : (s.kick n).on = false) (hidle : (s.kick n).pulse = false)
    (hdir : s.direct = true) (hclear : (s.kick n).openOff = false) (hmask : bit (s.fnum (0x2600 + n.val) 6 3) 0 = true) :
    Completes (.openOffDetect n) s (fun t =>
        t.kick n = { s.kick n with openOff := true } ∧ Counted s t [key (0x2815 + n.val) 6]
        ∧ (∀ m, m ≠ n.val → t.kick m = s.kick m) ∧ t.fd = { s.fd with kck := t.fd.kck } ∧ t = { s with fd := t.fd, rep := t.rep }) := by
  obtain ⟨⟨hkick, hother, hfd, hframe⟩, hcount⟩ := State.putKick_noted hdir n { s.kick n with openOff := true } (0x2815 + n.val) 6 { code := 0x110A, unit := n }
  exact ⟨_, congrArg Host.Outcome.next (if_pos (by simp [hen, hoff, hidle, hclear, hmask])), hkick, hcount, hother, hfd, hframe⟩

theorem cutKick_eq (s : State) (n : Nat) : s.cutKick n = { s with fd := (s.cutKick n).fd, rep := (s.cutKick n).rep } := by
  apply State.eq_of_fields <;> simp

theorem kickerThermal_cuts (n : Fin 8) (hcool : (s.kick n).hot = false) (hen : s.kickEnabled n = true) (hdir : s.direct = true) :
    Completes (.kickerThermal n) s (fun t =>
        (t.kick n).hot = true ∧ (t.kick n).on = false ∧ (t.kick n).kicks = [] ∧ (t.kick n).latch = (s.kick n).latch ∧ (t.kick n).retries = (s.kick n).retries
        ∧ t.counter (0x2815 + n.val) 9 = satInc (s.counter (0x2815 + n.val) 9)
        ∧ (∀ m, m ≠ n.val → t.kick m = s.kick m) ∧ t = { s with fd := t.fd, rep := t.rep }) := by
  have hen' : (s.cutKick n).kickEnabled n = true := by
    unfold State.kickEnabled State.fnum at *
    rw [State.cutKick_fd]
    exact hen
  have hown : key (0x2815 + n.val) 9 ∉ ownCounters := by
    have := n.isLt
    simp [ownCounters, key]
    omega
  have hkey : key (0x2815 + n.val) 9 ≠ key (0x2815 + n.val) 2 := by
    unfold key
    omega
  obtain ⟨⟨hkick, hother, -, hframe⟩, hcount⟩ := State.putKick_noted ((s.direct_cutKick n).trans hdir) n
    { (s.cutKick n).kick n with hot := true } (0x2815 + n.val) 9 { code := 0x110C, unit := n }
  have hoff : ((s.cutKick n).kick n).on = false := by rw [s.cutKick_kick]
  have hnone : ((s.cutKick n).kick n).kicks = [] := by rw [s.cutKick_kick]
  have hlatch : ((s.cutKick n).kick n).latch = (s.kick n).latch := by rw [s.cutKick_kick]
  have hretries : ((s.cutKick n).kick n).retries = (s.kick n).retries := by rw [s.cutKick_kick]
  refine ⟨_, congrArg Host.Outcome.next ((if_neg (by simp [hcool])).trans (if_pos hen')), ?_, ?_, ?_, ?_, ?_, ?_, fun m hm => ?_, ?_⟩
  · exact congrArg Kicker.hot hkick
  · exact (congrArg Kicker.on hkick).trans hoff
  · exact (congrArg Kicker.kicks hkick).trans hnone
  · exact (congrArg Kicker.latch hkick).trans hlatch
  · exact (congrArg Kicker.retries hkick).trans hretries
  · rw [hcount.counter hown (by simp), State.counter_eq, State.counter_eq, State.tally_cutKick _ _ _ hown hkey]
  · exact (hother m hm).trans (s.cutKick_kick_other n m hm)
  · refine hframe.trans ?_
    rw [cutKick_eq]

/-- Settles O19: a flag's entry is written, counted and raised; its clear writes the entry alone. -/
theorem kickerFlags : Obligations.KickerFlags := by
  unfold Obligations.KickerFlags
  intro s n
  have hclear : ∀ k : Kicker, (s.putKick n k).kick n = k ∧ Counted s (s.putKick n k) [] ∧ (∀ m, m ≠ n.val → (s.putKick n k).kick m = s.kick m)
      ∧ (s.putKick n k).fd = { s.fd with kck := (s.putKick n k).fd.kck }
      ∧ s.putKick n k = { s with fd := (s.putKick n k).fd, rep := (s.putKick n k).rep } := fun k =>
    have ⟨hkick, hother, hfd, hframe⟩ := s.putKick_written n k
    ⟨hkick, (Counted.refl s).putKick n k, hother, hfd, hframe⟩
  exact ⟨fun hen hoff hidle hdir => ⟨kickerShortVf_flags n hen hoff hidle hdir, openOffDetect_flags n hen hoff hidle hdir⟩,
    kickerThermal_cuts n, ⟨_, rfl, hclear _⟩, ⟨_, rfl, hclear _⟩, ⟨_, rfl, hclear _⟩⟩

end Machine
end Sys2Proof
end

section
/-!
PROOF. Kicker commands and trigger retries (03 R80, R83-R85), on a field die that takes the write.
-/
namespace Sys2Proof
namespace Machine

variable {s : State}

/-- What is answered changes the response alone. -/
theorem State.answer_written {t : State} {r : Resp} (h : t = { s with fd := t.fd, rep := t.rep }) :
    t.answer r = { s with fd := (t.answer r).fd, rep := (t.answer r).rep, out := (t.answer r).out } := by
  rw [h]
  rfl

theorem kickerRetryNow_pulses (hans : s.answers) (hw : s.fieldWritable = true) (n : Fin 8) (hst : s.kickState n = 3 ∨ s.kickState n = 4)
    (hidle : (s.kick n).pulse = false) (hunder : s.fd.under = false) (hover : s.fd.overV = false) : Completes (.kickerRetryNow n) s (fun t =>
      t.kick n = { s.kick n with pulse := true } ∧ t.out.resp = some .ok
      ∧ (∀ m, m ≠ n.val → t.kick m = s.kick m) ∧ t.fd = { s.fd with kck := t.fd.kck } ∧ t = { s with fd := t.fd, rep := t.rep, out := t.out }) := by
  have hdone : s.retryNow n = (s.putKick n { s.kick n with pulse := true }, .ok) := by
    unfold State.retryNow
    rw [State.fieldWrite_of_writable _ hw]
    dsimp only
    rw [if_pos ⟨hst, hidle⟩, if_neg (by simp [hunder, hover])]
  obtain ⟨hkick, hother, hfd, hframe⟩ := s.putKick_written n { s.kick n with pulse := true }
  refine ⟨_, congrArg Host.Outcome.next (State.served_answers hans _ _), ?_⟩
  rw [hdone]
  exact ⟨hkick, rfl, hother, hfd, State.answer_written hframe⟩

theorem clearOpenOn_clears (hans : s.answers) (hw : s.fieldWritable = true) (n : Fin 8) : Completes (.clearOpenOn n) s (fun t =>
      t.kick n = { s.kick n with openOn := false } ∧ t.out.resp = some .ok
      ∧ (∀ m, m ≠ n.val → t.kick m = s.kick m) ∧ t.fd = { s.fd with kck := t.fd.kck } ∧ t = { s with fd := t.fd, rep := t.rep, out := t.out }) := by
  have hdone : s.clearOpenOn n = (s.putKick n { s.kick n with openOn := false }, .ok) := State.fieldWrite_of_writable _ hw
  obtain ⟨hkick, hother, hfd, hframe⟩ := s.putKick_written n { s.kick n with openOn := false }
  refine ⟨_, congrArg Host.Outcome.next (State.served_answers hans _ _), ?_⟩
  rw [hdone]
  exact ⟨hkick, rfl, hother, hfd, State.answer_written hframe⟩

/-! ### ENABLE -/



theorem State.kickChanged_eq (t s : State) (n : Nat) : t.kickChanged s n = { t with rep := (t.kickChanged s n).rep } := by
  unfold State.kickChanged State.fdOccur
  split
  · rfl
  · split <;> rfl

/-- A kicker that is disabled: the output is off, its flags are clear, and a latch is kept. -/
def Kicker.disabled (k : Kicker) : Kicker :=
  { k with on := false, kicks := [], pulse := false, kickOn := false, svf := false, openOff := false, openOn := false }

/-- The state in which a write of ENABLE leaves the field die, before the kicker's new state is noted. -/
def State.enableSet (s : State) (n v : Nat) : State :=
  if v = 0 then
    { s.setField (0x2600 + n) 1 v with
      fd := { (s.setField (0x2600 + n) 1 v).fd with kck := (s.setField (0x2600 + n) 1 v).fd.kck.upd {} n Kicker.disabled } }
  else s.setField (0x2600 + n) 1 v

theorem State.enableSet_kick (s : State) (n v m : Nat) :
    (s.enableSet n v).kick m = if m = n ∧ v = 0 then (s.kick m).disabled else s.kick m := by
  unfold State.enableSet
  by_cases hv : v = 0
  · rw [if_pos hv]
    refine (Tab.at_upd ({} : Kicker) s.fd.kck n m Kicker.disabled).trans ?_
    by_cases hm : m = n
    · subst hm
      simp [hv, State.kick]
    · simp [hm, State.kick]
  · rw [if_neg hv]
    simp [hv, State.kick, State.setField]

theorem State.enableSet_eq (s : State) (n v : Nat) : s.enableSet n v = { s with
    fd := { s.fd with kck := (s.enableSet n v).fd.kck, cfg := s.fd.cfg.set (0x2600 + n) 1 v }
    od := { s.od with cfg := s.od.cfg.set (0x2600 + n) 1 v } } := by
  unfold State.enableSet
  split <;> rfl

theorem kickerEnableWrite_takes (hans : s.answers) (hw : s.fieldWritable = true) (n : Fin 8) {v : BitVec 8} (hv : v.toNat ≤ 1) :
    Completes (.kickerEnableWrite n v) s (fun t =>
      t.fnum (0x2600 + n.val) 1 0 = v.toNat ∧ t.num (0x2600 + n.val) 1 0 = v.toNat ∧ t.out.resp = some .ok
      ∧ t.kick n = (if v = 0 then { s.kick n with on := false, kicks := [], pulse := false, kickOn := false, svf := false, openOff := false, openOn := false } else s.kick n)
      ∧ (∀ m, m ≠ n.val → t.kick m = s.kick m)
      ∧ t.fd = { s.fd with kck := t.fd.kck, cfg := t.fd.cfg } ∧ t = { s with fd := t.fd, rep := t.rep, out := t.out, od := t.od }) := by
  have hdone : s.writeKickEnable n v.toNat = ((s.enableSet n v.toNat).kickChanged s n, .ok) := by
    unfold State.writeKickEnable
    rw [if_neg (by omega), State.fieldWrite_of_writable _ hw]
    rfl
  have hzero : v = 0 ↔ v.toNat = 0 := by bv_omega
  refine ⟨_, congrArg Host.Outcome.next (State.served_answers hans _ _), ?_⟩
  rw [hdone, State.kickChanged_eq]
  have hkick : ∀ (u : State) (r : Reporting) (m : Nat), (State.answer { u with rep := r } .ok).kick m = u.kick m := fun _ _ _ => rfl
  refine ⟨?_, ?_, rfl, ?_, fun m hm => ?_, ?_, ?_⟩
  · rw [State.enableSet_eq]
    exact s.fnum_setField (0x2600 + n.val) 1 v.toNat 0
  · rw [State.enableSet_eq]
    simp [State.num, State.answer, Cfg.get, Cfg.set]
  · rw [hkick, State.enableSet_kick]
    simp only [hzero, true_and]
    rfl
  · rw [hkick, State.enableSet_kick, if_neg fun h => hm h.1]
  · rw [State.enableSet_eq]
    rfl
  · rw [State.enableSet_eq]
    rfl

/-! ### Trigger retries -/

theorem triggerRetry_reenables (hans : s.answers) (hw : s.fieldWritable = true) (mask : BitVec 32) : Completes (.triggerRetry mask) s (fun t =>
      (∀ k, t.trg k = { s.trg k with shorted := (s.trg k).shorted && !bit mask.toNat k }) ∧ t.out.resp = some .ok
      ∧ t.fd = { s.fd with trg := t.fd.trg } ∧ t = { s with fd := t.fd, out := t.out }) := by
  have hretry : (fun x : Nat × Trigger => if bit mask.toNat x.1 then (x.1, { x.2 with shorted := false }) else x)
      = fun x => (x.1, ({ x.2 with shorted := x.2.shorted && !bit mask.toNat x.1 } : Trigger)) := by
    funext x
    cases hbit : bit mask.toNat x.1 <;> simp
  have hdone : s.retryTriggers mask.toNat = ({ s with fd := { s.fd with
      trg := s.fd.trg.map fun x => (x.1, ({ x.2 with shorted := x.2.shorted && !bit mask.toNat x.1 } : Trigger)) } }, .ok) := by
    rw [← hretry]
    exact State.fieldWrite_of_writable _ hw
  refine ⟨_, congrArg Host.Outcome.next (State.served_answers hans _ _), ?_⟩
  rw [hdone]
  exact ⟨fun k => Tab.at_map ({} : Trigger) s.fd.trg (fun j x => { x with shorted := x.shorted && !bit mask.toNat j }) (fun _ => rfl) k, rfl, rfl, rfl⟩

/-- Settles O20: each accepted command writes the entry of the kicker or the trigger outputs that it names. -/
theorem kickerAndTriggerCommands : Obligations.KickerAndTriggerCommands := by
  unfold Obligations.KickerAndTriggerCommands
  intro s hans hw
  exact ⟨kickerRetryNow_pulses hans hw, clearOpenOn_clears hans hw, fun n v => kickerEnableWrite_takes hans hw n,
    triggerRetry_reenables hans hw⟩

end Machine
end Sys2Proof
end

section
/-!
PROOF. States of an intake channel (04 R106, R126-R128, R131): a channel's entry is written, and with no frame and no expectation there is nothing to close.
-/
namespace Sys2Proof
namespace Machine

variable {s : State}

theorem State.intake_same_of_put {t : State} {n : Nat} {x : Channel} (h : t.ic = s.ic.put n x) : t.intake n = x := by
  rw [State.intake, h, Tab.at_put_same]

theorem State.intake_other_of_put {t : State} {n k : Nat} {x : Channel} (h : t.ic = s.ic.put n x) (hk : k ≠ n) :
    t.intake k = s.intake k := by
  rw [State.intake, h, Tab.at_put_other _ _ _ hk, ← State.intake]

theorem State.intake_updIntake_same (s : State) (n : Nat) (f : Channel → Channel) : (s.updIntake n f).intake n = f (s.intake n) :=
  State.intake_same_of_put rfl

theorem State.intake_updIntake_other (s : State) {n k : Nat} (f : Channel → Channel) (hk : k ≠ n) : (s.updIntake n f).intake k = s.intake k :=
  State.intake_other_of_put rfl hk

theorem State.intake_of_ic {t : State} (h : t.ic = s.ic) (k : Nat) : t.intake k = s.intake k := by rw [State.intake, h, ← State.intake]

/-! ### Closing what is open -/

theorem State.closeFrameAs_of_none {n : Nat} (h : (s.intake n).frame = none) (status : FrameStatus) (sub vc : Nat) :
    s.closeFrameAs n status sub vc = s := by
  unfold State.closeFrameAs
  rw [h]

theorem State.closeExp_of_nil {n : Nat} (h : (s.intake n).exps = []) (k : Nat) (early late : FrameStatus) (sub : Nat) :
    s.closeExp n k early late sub = s := by
  unfold State.closeExp
  rw [h]
  rfl

theorem State.closeAll_of_idle {n : Nat} (hframe : (s.intake n).frame = none) (hexps : (s.intake n).exps = []) (status : FrameStatus) :
    s.closeAll n status = s := by
  unfold State.closeAll State.closeFrame
  rw [State.closeFrameAs_of_none hframe]
  exact (List.range 4).foldlRecOn _ (motive := fun t : State => t = s) rfl fun t ht _ _ => by
    rw [ht, State.closeExp_of_nil hexps]

theorem State.failChannel_of_idle {n : Nat} (hlive : (s.intake n).live = true) (hframe : (s.intake n).frame = none)
    (hexps : (s.intake n).exps = []) : s.failChannel n = ((s.updIntake n fun c => { c with state := .failed }).count (0x2830 + n) 0x18).raise
      { code := 0x1301, unit := n, station := (s.updIntake n fun c => { c with state := .failed }).channelOwner n } := by
  have hsame := s.intake_updIntake_same n fun c => { c with state := .failed }
  unfold State.failChannel
  rw [if_pos hlive]
  dsimp only
  rw [State.closeAll_of_idle (by rw [hsame]; exact hframe) (by rw [hsame]; exact hexps)]

/-- A failure of a live channel with nothing open is counted once. -/
theorem State.failChannel_spec {u : State} {n : Nat} (hlive : (u.intake n).live = true) (hframe : (u.intake n).frame = none)
    (hexps : (u.intake n).exps = []) (hcount : Counted s u []) :
    (u.failChannel n).intake n = { u.intake n with state := .failed } ∧ Counted s (u.failChannel n) [key (0x2830 + n) 0x18]
    ∧ (∀ k, k ≠ n → (u.failChannel n).intake k = u.intake k)
    ∧ u.failChannel n = { u with ic := (u.failChannel n).ic, rep := (u.failChannel n).rep } := by
  rw [State.failChannel_of_idle hlive hframe hexps]
  exact ⟨State.intake_same_of_put rfl, ((hcount.of_rep rfl).and_count List.not_mem_nil).raise _, fun k hk => State.intake_other_of_put rfl hk, rfl⟩

/-! ### The commands -/

theorem State.icn_of_od {t : State} (h : t.od = s.od) (n k : Nat) : t.icn n k = s.icn n k := by rw [State.icn, State.num, h, ← State.num, ← State.icn]

theorem State.icn_setNum (s : State) (n v : Nat) : (s.setNum (0x2200 + n) 1 v).icn n 1 = v := s.num_setNum ..

/-- The state in which a channel that has been enabled starts. -/
def State.started (s : State) (n : Nat) : State :=
  ((s.setNum (0x2200 + n) 1 1).updIntake n fun c => { c with state := .starting, stuck := 0, deskewed := false, buf := 0, ackPend := false }).updPipe
    n fun p => { p with refOk := false }

theorem State.enableChannel_eq {n : Nat} (hoff : s.icn n 1 = 0) (hok : s.enableFault n = none) (check : Bool) :
    s.enableChannel n check = (if check then s.started n else (s.started n).failChannel n, .ok) := by
  unfold State.enableChannel
  rw [if_neg (by omega), hok]
  rfl

theorem State.started_intake (s : State) (n : Nat) :
    (s.started n).intake n = { s.intake n with state := .starting, stuck := 0, deskewed := false, buf := 0, ackPend := false } :=
  State.intake_same_of_put rfl

theorem State.started_intake_other (s : State) {n k : Nat} (hk : k ≠ n) : (s.started n).intake k = s.intake k :=
  State.intake_other_of_put rfl hk

theorem channelEnable_starts (n : Fin 16) (hans : s.answers) (hoff : s.icn n 1 = 0) (hok : s.enableFault n = none) :
    Completes (.channelEnable n true) s (fun t =>
      t.icn n 1 = 1 ∧ t.intake n = { s.intake n with state := .starting, stuck := 0, deskewed := false, buf := 0, ackPend := false }
      ∧ (∀ k, k ≠ n.val → t.intake k = s.intake k) ∧ t.out.resp = some .ok ∧ t = { s with od := t.od, ic := t.ic, isp := t.isp, out := t.out }) := by
  refine ⟨_, congrArg Host.Outcome.next (State.served_answers hans _ _), ?_⟩
  rw [State.enableChannel_eq hoff hok]
  exact ⟨s.icn_setNum n 1, s.started_intake n, fun k hk => s.started_intake_other hk, rfl, rfl⟩

theorem channelEnable_fails (n : Fin 16) (hans : s.answers) (hoff : s.icn n 1 = 0) (hok : s.enableFault n = none)
    (hframe : (s.intake n).frame = none) (hexps : (s.intake n).exps = []) : Completes (.channelEnable n false) s (fun t =>
      t.icn n 1 = 1 ∧ (t.intake n).state = .failed ∧ Counted s t [key (0x2830 + n.val) 0x18] ∧ (∀ k, k ≠ n.val → t.intake k = s.intake k)
      ∧ t = { s with od := t.od, ic := t.ic, isp := t.isp, rep := t.rep, out := t.out }) := by
  have hstarted := s.started_intake n
  obtain ⟨hfailed, hcount, hother, hframe⟩ := State.failChannel_spec (s := s) (u := s.started n) (n := n) (by rw [hstarted]; rfl)
    (by rw [hstarted]; exact hframe) (by rw [hstarted]; exact hexps) ((Counted.refl s).of_rep rfl)
  refine ⟨_, congrArg Host.Outcome.next (State.served_answers hans _ _), ?_⟩
  rw [State.enableChannel_eq hoff hok, if_neg Bool.false_ne_true]
  refine ⟨?_, congrArg Channel.state hfailed, hcount.of_rep rfl, fun k hk => (hother k hk).trans (s.started_intake_other hk), ?_⟩
  · refine (State.icn_of_od (s := s.setNum (0x2200 + n) 1 1) ?_ n 1).trans (s.icn_setNum n 1)
    rw [hframe]
    rfl
  · rw [hframe]
    rfl

theorem channelDisable_turns_off (n : Fin 16) (hans : s.answers) (hon : s.icn n 1 ≠ 0) (hframe : (s.intake n).frame = none)
    (hexps : (s.intake n).exps = []) : Completes (.channelDisable n) s (fun t =>
      t.icn n 1 = 0 ∧ t.intake n = { s.intake n with state := .off, stuck := 0, deskewed := false, resetting := false }
      ∧ (∀ k, k ≠ n.val → t.intake k = s.intake k) ∧ t.out.resp = some .ok ∧ t = { s with od := t.od, ic := t.ic, out := t.out }) := by
  have hdone : s.disableChannel n = ((s.setNum (0x2200 + n) 1 0).updIntake n fun c =>
      { c with state := .off, stuck := 0, deskewed := false, resetting := false }, .ok) := by
    unfold State.disableChannel State.turnOff
    rw [if_neg hon, State.closeAll_of_idle hframe hexps]
  refine ⟨_, congrArg Host.Outcome.next (State.served_answers hans _ _), ?_⟩
  rw [hdone]
  exact ⟨s.icn_setNum n 0, State.intake_same_of_put rfl,
    fun k hk => State.intake_other_of_put rfl hk, rfl, rfl⟩

theorem laneStopState_frees (n : Fin 16) (l : BitVec 5) (hrun : s.computeRuns = true) : Completes (.laneStopState n l) s (fun t =>
      (t.intake n).stuck = (s.intake n).stuck &&& ~~~l
      ∧ (t.intake n).state = (if (s.intake n).state = .starting ∧ (BitVec.ofNat 5 (s.lanesUsed n) &&& ~~~l) = 0 then .ready else (s.intake n).state)
      ∧ (∀ k, k ≠ n.val → t.intake k = s.intake k) ∧ t = { s with ic := t.ic }) := by
  have hsame := s.intake_updIntake_same n fun c => { c with stuck := c.stuck &&& ~~~l }
  have hother : ∀ k, k ≠ n.val → _ := fun k hk => s.intake_updIntake_other (fun c => { c with stuck := c.stuck &&& ~~~l }) hk
  refine ⟨_, congrArg Host.Outcome.next (if_neg (by simp [hrun])), ?_⟩
  dsimp only
  rw [hsame]
  split
  · refine ⟨?_, ?_, fun k hk => ?_, rfl⟩
    · rw [State.intake_updIntake_same, hsame]
    · rw [State.intake_updIntake_same]
    · rw [State.intake_updIntake_other _ _ hk, hother k hk]
  · next hwait => exact ⟨by rw [hsame], by rw [hsame], hother, rfl⟩

theorem laneStopTimeout_sticks (n : Fin 16) (l : BitVec 5) (hrun : s.computeRuns = true) (hst : (s.intake n).state = .starting)
    (hnew : l &&& BitVec.ofNat 5 (s.lanesUsed n) &&& ~~~(s.intake n).stuck ≠ 0) : Completes (.laneStopTimeout n l) s (fun t =>
      t.intake n = { s.intake n with stuck := (s.intake n).stuck ||| (l &&& BitVec.ofNat 5 (s.lanesUsed n) &&& ~~~(s.intake n).stuck) }
      ∧ (∀ k, k ≠ n.val → t.intake k = s.intake k) ∧ t = { s with ic := t.ic, rep := t.rep }) :=
  ⟨_, congrArg Host.Outcome.next (if_pos ⟨hrun, hst, hnew⟩), State.intake_same_of_put rfl, fun _ hk => State.intake_other_of_put rfl hk, rfl⟩

theorem deskewSequence_notes (n : Fin 16) (hrun : s.computeRuns = true) (hlive : (s.intake n).live = true) (hphy : s.icn n 2 = 0) :
    Completes (.deskewSequence n) s (fun t =>
      t.intake n = { s.intake n with deskewed := true } ∧ (∀ k, k ≠ n.val → t.intake k = s.intake k) ∧ t = { s with ic := t.ic }) :=
  ⟨_, congrArg Host.Outcome.next (if_pos (by simp [hrun, hlive, hphy])), State.intake_same_of_put rfl, fun _ hk => State.intake_other_of_put rfl hk, rfl⟩

theorem channelFailure_fails (n : Fin 16) (f : ChanFault) (hrun : s.computeRuns = true) (hlive : (s.intake n).live = true)
    (hframe : (s.intake n).frame = none) (hexps : (s.intake n).exps = []) : Completes (.channelFailure n f) s (fun t =>
      t.intake n = { s.intake n with state := .failed } ∧ Counted s t [key (0x2830 + n.val) 0x18] ∧ (∀ k, k ≠ n.val → t.intake k = s.intake k)
      ∧ t = { s with ic := t.ic, rep := t.rep }) := by
  have hfail : ∀ u : State, u.ic = s.ic → Counted s u [] → u = { s with rep := u.rep } → ((u.failChannel n).intake n = { s.intake n with state := .failed }
      ∧ Counted s (u.failChannel n) [key (0x2830 + n.val) 0x18] ∧ (∀ k, k ≠ n.val → (u.failChannel n).intake k = s.intake k)
      ∧ u.failChannel n = { s with ic := (u.failChannel n).ic, rep := (u.failChannel n).rep }) := fun u hic hcount hu => by
    have hintake := fun k => State.intake_of_ic hic k
    rw [← hintake] at hlive hframe hexps
    obtain ⟨hfailed, hcounted, hother, hchanged⟩ := State.failChannel_spec hlive hframe hexps hcount
    refine ⟨?_, hcounted, fun k hk => (hother k hk).trans (hintake k), ?_⟩
    · rw [hfailed, hintake]
    · rw [hchanged, hu]
  refine ⟨_, congrArg Host.Outcome.next (if_pos (by simp [hrun, hlive])), ?_⟩
  cases f with
  | lineBuffer => exact hfail _ rfl ((Counted.refl s).raise _) rfl
  | buffer => exact hfail s rfl (Counted.refl s) rfl
  | noProgress => exact hfail s rfl (Counted.refl s) rfl

theorem channelReset_resets (n : Fin 16) (hans : s.answers) (hst : (s.intake n).state = .failed) : Completes (.channelReset n) s (fun t =>
      t.intake n = { s.intake n with resetting := true } ∧ (∀ k, k ≠ n.val → t.intake k = s.intake k) ∧ t.out.resp = some .ok
      ∧ t = { s with ic := t.ic, out := t.out }) := by
  refine ⟨_, congrArg Host.Outcome.next (State.served_answers hans _ _), ?_⟩
  unfold State.resetChannel
  rw [if_pos hst]
  exact ⟨State.intake_same_of_put rfl, fun _ hk => State.intake_other_of_put rfl hk, rfl, rfl⟩

theorem channelReset_refused (n : Fin 16) (hans : s.answers) (hst : (s.intake n).state ≠ .failed) :
    Completes (.channelReset n) s (fun t => t.out.resp = some (.abort 0x08000020) ∧ t = { s with out := t.out }) := by
  refine ⟨_, congrArg Host.Outcome.next (State.served_answers hans _ _), ?_⟩
  unfold State.resetChannel
  rw [if_neg hst]
  exact ⟨rfl, rfl⟩

theorem channelResetComplete_ends (n : Fin 16) (b : Bool) (hrun : s.computeRuns = true) (hreset : (s.intake n).resetting = true)
    (hcci : (s.intake n).cciRun = none) : Completes (.channelResetComplete n b) s (fun t =>
      t.intake n = { s.intake n with resetting := false, deskewed := false, buf := 0, state := if b then .ready else (s.intake n).state }
      ∧ (∀ k, k ≠ n.val → t.intake k = s.intake k) ∧ t = { s with ic := t.ic, rep := t.rep }) := by
  have hsame := s.intake_updIntake_same n fun c => { c with resetting := false, deskewed := false, buf := 0 }
  have hother : ∀ k, k ≠ n.val → _ := fun k hk =>
    s.intake_updIntake_other (fun c => { c with resetting := false, deskewed := false, buf := 0 }) hk
  refine ⟨_, congrArg Host.Outcome.next (if_pos ⟨hrun, hreset, hcci⟩), ?_⟩
  cases b with
  | true =>
    exact ⟨(State.intake_same_of_put rfl).trans (congrArg (fun c : Channel => { c with state := .ready }) hsame), fun k hk => (State.intake_other_of_put rfl hk).trans (hother k hk), rfl⟩
  | false => exact ⟨hsame, hother, rfl⟩

/-- Settles O21: each command writes the entry of its own channel. -/
theorem intakeStates : Obligations.IntakeStates := by
  unfold Obligations.IntakeStates
  intro s n
  exact ⟨channelEnable_starts n, channelEnable_fails n, channelDisable_turns_off n, laneStopState_frees n, laneStopTimeout_sticks n,
    deskewSequence_notes n, channelFailure_fails n, channelReset_resets n, channelReset_refused n, channelResetComplete_ends n⟩

end Machine
end Sys2Proof
end

section
/-!
PROOF. The XTRIG input and output of an intake channel (04 R112, R120, Table 4-12).
-/
namespace Sys2Proof
namespace Machine

variable {s : State}

theorem State.openExpect_of_room {u : State} {n : Nat} (hroom : (u.intake n).exps.length < 4) (e : Expect) :
    u.openExpect n e = u.updIntake n fun c => { c with exps := c.exps ++ [{ e with opened := u.clk.ref, ack := c.ackPend }], ackPend := false } := by
  unfold State.openExpect
  rw [if_neg (Nat.not_le.2 hroom)]

/-- A TEST pulse ends at a time. -/
def Channel.pulsed (c : Channel) (end_ : Nat) : Channel := { c with xtUntil := end_ }

theorem Channel.pulsed_live (c : Channel) (end_ : Nat) : (c.pulsed end_).live = c.live := rfl

theorem Channel.pulsed_exps (c : Channel) (end_ : Nat) : (c.pulsed end_).exps = c.exps := rfl

theorem Channel.pulsed_ackPend (c : Channel) (end_ : Nat) : (c.pulsed end_).ackPend = c.ackPend := rfl

theorem Channel.pulsed_test (c : Channel) (end_ : Nat) (l : List Expect) :
    { c.pulsed end_ with exps := l, ackPend := false } = { c with xtUntil := end_, ackPend := false, exps := l } := rfl

/-- A TEST pulse on a live channel with room for one more expectation. -/
theorem State.testPulse_spec {n : Nat} (hlive : (s.intake n).live = true) (hroom : (s.intake n).exps.length < 4) :
    (s.testPulse n).intake n = { s.intake n with
      xtUntil := s.clk.ref + (s.intake n).xtWidth * Config.psPerUs, ackPend := false
      exps := (s.intake n).exps ++ [{ test := true, opened := s.clk.ref, ack := (s.intake n).ackPend }] }
    ∧ (∀ k, k ≠ n → (s.testPulse n).intake k = s.intake k) ∧ s.testPulse n = { s with ic := (s.testPulse n).ic } := by
  have hsame := s.intake_updIntake_same n fun c => c.pulsed (s.clk.ref + c.xtWidth * Config.psPerUs)
  have hlive' : ((s.updIntake n fun c => c.pulsed (s.clk.ref + c.xtWidth * Config.psPerUs)).intake n).live = true := by
    rw [hsame, Channel.pulsed_live, hlive]
  have hroom' : ((s.updIntake n fun c => c.pulsed (s.clk.ref + c.xtWidth * Config.psPerUs)).intake n).exps.length < 4 := by
    rwa [hsame, Channel.pulsed_exps]
  have hpulse : s.testPulse n = (s.updIntake n fun c => c.pulsed (s.clk.ref + c.xtWidth * Config.psPerUs)).openExpect n { test := true } :=
    if_pos hlive'
  rw [hpulse, State.openExpect_of_room hroom']
  refine ⟨?_, fun k hk => ?_, rfl⟩
  · rw [State.intake_updIntake_same, hsame, Channel.pulsed_exps, Channel.pulsed_ackPend, Channel.pulsed_test]
    rfl
  · rw [State.intake_updIntake_other _ _ hk, State.intake_updIntake_other _ _ hk]

/-- An edge of ACK is taken by the oldest expectation that waits for one, and else held. -/
def Channel.ackEdge (c : Channel) (pos : BitVec 56) (us : BitVec 32) : Channel :=
  match c.exps.findIdx? (fun e => !e.ack && !e.paired) with
  | some k => { c with cap := pos, capTime := us, exps := c.exps.modify k fun e => { e with ack := true } }
  | none => { c with cap := pos, capTime := us, ackPend := true }

theorem Channel.ackEdge_captures (c : Channel) (pos : BitVec 56) (us : BitVec 32) :
    (c.ackEdge pos us).cap = pos ∧ (c.ackEdge pos us).capTime = us := by
  unfold Channel.ackEdge
  split <;> exact ⟨rfl, rfl⟩

theorem Channel.ackEdge_of_none {c : Channel} {pos : BitVec 56} {us : BitVec 32} (h : ∀ e ∈ c.exps, e.ack = true ∨ e.paired = true) :
    (c.ackEdge pos us).ackPend = true ∧ (c.ackEdge pos us).exps = c.exps := by
  have hnone : c.exps.findIdx? (fun e => !e.ack && !e.paired) = none := by
    rw [List.findIdx?_eq_none_iff]
    intro e he
    rcases h e he with h | h <;> simp [h]
  unfold Channel.ackEdge
  rw [hnone]
  exact ⟨rfl, rfl⟩

theorem Channel.ackEdge_of_waiting {c : Channel} {pos : BitVec 56} {us : BitVec 32} {e : Expect} {r : List Expect} (hexps : c.exps = e :: r)
    (hack : e.ack = false) (hpaired : e.paired = false) :
    (c.ackEdge pos us).exps = { e with ack := true } :: r ∧ (c.ackEdge pos us).ackPend = c.ackPend := by
  have hfirst : c.exps.findIdx? (fun e => !e.ack && !e.paired) = some 0 := by
    rw [hexps]
    simp [List.findIdx?_cons, hack, hpaired]
  unfold Channel.ackEdge
  rw [hfirst, hexps]
  exact ⟨rfl, rfl⟩

theorem exec_xtrigAckEdge {n : Fin 16} (hrun : s.computeRuns = true) (hmode : s.icn n 0x14 = 1) : exec (.xtrigAckEdge n) s
    = .next (s.updIntake n fun c => c.ackEdge (s.viewAt (s.stClock (s.channelOwner n))).pos (BitVec.ofNat 32 s.us32)) := by
  refine congrArg Host.Outcome.next ((if_pos (by simp [hrun, hmode])).trans (congrArg (s.updIntake n) (funext fun c => ?_)))
  unfold Channel.ackEdge
  dsimp only
  cases c.exps.findIdx? fun e => !e.ack && !e.paired <;> rfl

theorem xtrigPulse_sets (n : Fin 16) (w : BitVec 32) (hrun : s.computeRuns = true) (hquiet : bit w.toNat 31 = false) :
    Completes (.xtrigPulse n w) s (fun t =>
      t.intake n = { s.intake n with xtPeriod := bits w.toNat 16 15, xtWidth := bits w.toNat 0 16 } ∧ (∀ k, k ≠ n.val → t.intake k = s.intake k)
      ∧ t = { s with ic := t.ic }) :=
  ⟨_, congrArg Host.Outcome.next ((if_neg (by simp [hrun])).trans (if_neg (by simp [hquiet]))), State.intake_same_of_put rfl,
    fun _ hk => State.intake_other_of_put rfl hk, rfl⟩

theorem xtrigPulse_fires (n : Fin 16) (w : BitVec 32) (hrun : s.computeRuns = true) (hfire : bit w.toNat 31 = true) (hmode : s.icn n 0x14 = 2)
    (hlive : (s.intake n).live = true) (hroom : (s.intake n).exps.length < 4) : Completes (.xtrigPulse n w) s (fun t =>
      (t.intake n).xtUntil = s.clk.ref + bits w.toNat 0 16 * Config.psPerUs
      ∧ (t.intake n).exps = (s.intake n).exps ++ [{ test := true, opened := s.clk.ref, ack := (s.intake n).ackPend }] ∧ (t.intake n).ackPend = false
      ∧ (∀ k, k ≠ n.val → t.intake k = s.intake k) ∧ t = { s with ic := t.ic }) := by
  have hsame := s.intake_updIntake_same n fun c => { c with xtPeriod := bits w.toNat 16 15, xtWidth := bits w.toNat 0 16 }
  obtain ⟨hpulse, hother, hframe⟩ := State.testPulse_spec (s := s.updIntake n fun c =>
    { c with xtPeriod := bits w.toNat 16 15, xtWidth := bits w.toNat 0 16 }) (n := n) (by rw [hsame]; exact hlive) (by rw [hsame]; exact hroom)
  rw [hsame] at hpulse
  have hmode' : (s.updIntake n fun c => { c with xtPeriod := bits w.toNat 16 15, xtWidth := bits w.toNat 0 16 }).icn n 0x14 = 2 := hmode
  refine ⟨_, congrArg Host.Outcome.next ((if_neg (by simp [hrun])).trans (if_pos (by simp [hfire, hmode']))), ?_, ?_, ?_, fun k hk => ?_, hframe⟩
  · rw [hpulse]
    rfl
  · rw [hpulse]
    rfl
  · rw [hpulse]
  · rw [hother k hk, State.intake_updIntake_other _ _ hk]

/-- Settles O22: an edge of ACK is one function of the channel's entry, and every pulse is the TEST pulse of `State.testPulse_spec`. -/
theorem intakeXtrig : Obligations.IntakeXtrig := by
  unfold Obligations.IntakeXtrig
  intro s n hrun
  refine ⟨fun hmode => ⟨_, exec_xtrigAckEdge hrun hmode, ?_, ?_, fun hall => ?_, fun e r hexps hack hpaired => ?_,
      fun k hk => s.intake_updIntake_other _ hk, rfl⟩, fun w => xtrigPulse_sets n w hrun, fun w => xtrigPulse_fires n w hrun,
    fun hmode hperiod hlive hroom => ⟨_, congrArg Host.Outcome.next (if_pos (by simp [hrun, hmode, hperiod])), State.testPulse_spec hlive hroom⟩⟩
  all_goals rw [s.intake_updIntake_same]
  · exact (Channel.ackEdge_captures ..).1
  · exact (Channel.ackEdge_captures ..).2
  · exact Channel.ackEdge_of_none hall
  · exact Channel.ackEdge_of_waiting hexps hack hpaired

end Machine
end Sys2Proof
end

section
/-!
PROOF. Parameter sets and patch verdicts of the image pipelines (05 R134, R148; 10 R275; 12 R300).
-/
namespace Sys2Proof
namespace Machine

variable {s : State}

theorem State.pipe_of_put {t : State} {n : Nat} {x : Pipeline} (h : t.isp = s.isp.put n x) (k : Nat) :
    t.pipe k = if k = n then x else s.pipe k := by
  unfold State.pipe
  rw [h, Tab.at_put]

theorem pipelineApply_pends (n : Fin 16) (hans : s.answers) (hok : s.setFault n (s.shadowSet n) = none) : Completes (.pipelineApply n) s (fun t =>
      t.pipe n = { s.pipe n with pend := some (s.shadowSet n) } ∧ (∀ k, k ≠ n.val → t.pipe k = s.pipe k) ∧ t.out.resp = some .ok
      ∧ t = { s with isp := t.isp, out := t.out }) := by
  have hdone : s.applySet n = (s.updPipe n fun p => { p with pend := some (s.shadowSet n) }, .ok) := by
    unfold State.applySet
    dsimp only
    rw [hok]
  refine ⟨_, congrArg Host.Outcome.next (State.served_answers hans _ _), ?_⟩
  rw [hdone]
  exact ⟨(State.pipe_of_put rfl _).trans (if_pos rfl), fun k hk => (State.pipe_of_put rfl _).trans (if_neg hk), rfl, rfl⟩

theorem pipelineApply_refused (n : Fin 16) (hans : s.answers) {f : SetFault} (hfault : s.setFault n (s.shadowSet n) = some f) :
    Completes (.pipelineApply n) s (fun t =>
      t.out.resp = some (.abort (setAbort f)) ∧ t = { s with rep := t.rep, out := t.out }) := by
  have hdone : s.applySet n = (s.raise { code := 0x1404, unit := n, station := s.channelOwner n }, .abort (setAbort f)) := by
    unfold State.applySet
    dsimp only
    rw [hfault]
  refine ⟨_, congrArg Host.Outcome.next (State.served_answers hans _ _), ?_⟩
  rw [hdone]
  exact ⟨rfl, rfl⟩

theorem State.intake_of_no_verdicts {n : Nat} (h : (s.intake n).verdicts = []) (k : Nat) :
    (s.updIntake n fun c => { c with verdicts := [] }).intake k = s.intake k := by
  by_cases hk : k = n
  · subst hk
    rw [State.intake_updIntake_same, ← h]
  · exact State.intake_updIntake_other _ _ hk

theorem patchVerdict_sends (n : Fin 16) {v : PatchVerdict} {e : Nat} (hv : (s.intake n).verdicts = [v])
    (hkick : s.kickOf v.station v.imp v.window = some e) (hup : s.link.up = true) (hused : (s.cueUse e).used = true) :
    Completes (.patchVerdict n) s (fun t =>
      t.link.txq = s.link.txq ++ [.verdict e (if v.fail then .fail else .pass)] ∧ t.intake n = { s.intake n with verdicts := [] }
      ∧ (∀ k, k ≠ n.val → t.intake k = s.intake k) ∧ t = { s with ic := t.ic, link := { s.link with txq := t.link.txq } }) := by
  have hkick' : (s.updIntake n fun c => { c with verdicts := [] }).kickOf v.station v.imp v.window = some e := hkick
  have hused' : ((s.updIntake n fun c => { c with verdicts := [] }).cueUse e).used = true := hused
  have hexec : exec (.patchVerdict n) s = .next ((s.updIntake n fun c => { c with verdicts := [] }).sendField
      (.verdict e (if v.fail then .fail else .pass))) := by
    show execPatchVerdict n s = _
    unfold execPatchVerdict
    dsimp only
    rw [hv, List.foldl_cons, List.foldl_nil, hkick']
    exact congrArg Host.Outcome.next (if_pos (by rw [hused']; simp [hup]))
  exact ⟨_, hexec, rfl, State.intake_same_of_put rfl, fun k hk => State.intake_other_of_put rfl hk, rfl⟩

/-- Settles O26: APPLY is the one write of the shadow set, and a single verdict goes over the link into its kick cue. -/
theorem pipelines : Obligations.Pipelines := by
  unfold Obligations.Pipelines
  intro s n
  refine ⟨fun hans => ⟨pipelineApply_pends n hans, fun f hfault => ?_⟩, fun hoff => ?_, fun hserves hlong => ?_,
    fun v e => patchVerdict_sends n, fun hnone => ⟨_, ?_, State.intake_of_no_verdicts hnone, rfl⟩⟩
  · cases f with
    | range => exact pipelineApply_refused n hans hfault
    | ring => exact pipelineApply_refused n hans hfault
  · exact ⟨s, congrArg Host.Outcome.next (if_pos (by simp [hoff])), rfl⟩
  · exact ⟨_, congrArg Host.Outcome.next ((if_neg (by simp [hserves])).trans (if_pos (Option.isSome_iff_ne_none.2 hlong))), rfl⟩
  · show execPatchVerdict n s = _
    unfold execPatchVerdict
    dsimp only
    rw [hnone]
    rfl

end Machine
end Sys2Proof
end

section
/-!
SUPPORT. A violation that the Referee logs and counts (11 R287, R291; Table 11-7), for a log with room.
-/
namespace Sys2Proof
namespace Machine

variable {s : State}

/-- What a violation leaves besides the counters of a full log. -/
def State.violationNoted (s : State) (st cause : Nat) : State :=
  ((((s.count 0x2890 1).count 0x2891 (st + 1)).count 0x2892 cause).occur 196).raiseSec st { code := 0x1901, station := st }

theorem State.violation_of_room (h : s.ref.written < 64) (req : Requester) (st cause a access size owner detail : Nat) :
    ∃ r : Referee, r.written = s.ref.written + 1 ∧ r.hart = s.ref.hart
      ∧ s.violation req st cause a access size owner detail = ({ s with ref := r } : State).violationNoted st cause := by
  unfold State.violation State.violationNoted
  dsimp only
  rw [if_neg (by omega)]
  refine ⟨_, ?_, ?_, rfl⟩
  · exact Nat.min_eq_right (by omega)
  · rfl

theorem State.violationNoted_eq (u : State) (st cause : Nat) : u.violationNoted st cause = { u with rep := (u.violationNoted st cause).rep } := by
  apply State.eq_of_fields <;> simp [State.violationNoted]

theorem Counted.violationNoted {u : State} {ks : List Nat} (h : Counted s u ks) {st cause : Nat} (hst : st < 32) (hcause : cause < 256)
    (h1 : key 0x2890 1 ∉ ks) (h2 : key 0x2891 (st + 1) ∉ ks) (h3 : key 0x2892 cause ∉ ks) :
    Counted s (u.violationNoted st cause) (ks ++ [key 0x2890 1, key 0x2891 (st + 1), key 0x2892 cause]) := by
  have h12 : key 0x2891 (st + 1) ≠ key 0x2890 1 := fun heq => by
    have := (key_inj (by omega) (by decide) heq).1
    omega
  have h13 : key 0x2892 cause ≠ key 0x2890 1 := fun heq => by
    have := (key_inj hcause (by decide) heq).1
    omega
  have h23 : key 0x2892 cause ≠ key 0x2891 (st + 1) := fun heq => by
    have := (key_inj hcause (by omega) heq).1
    omega
  have hcounted := ((h.and_count h1).and_count (i := 0x2891) (j := st + 1) (by simp [h2, h12])).and_count (i := 0x2892) (j := cause)
    (by simp [h3, h13, h23])
  exact ((hcounted.occur 196).raiseSec st _).congr fun k => by simp

theorem Counted.violation {t : State} (h : s.ref.written < 64) {req : Requester} {st cause a access size owner detail : Nat} (hst : st < 32)
    (hcause : cause < 256) (ht : t = s.violation req st cause a access size owner detail) :
    Counted s t [key 0x2890 1, key 0x2891 (st + 1), key 0x2892 cause] := by
  obtain ⟨r, -, -, hr⟩ := s.violation_of_room h req st cause a access size owner detail
  rw [ht, hr]
  have hbase : Counted s { s with ref := r } [] := (Counted.refl s).of_rep (t' := { s with ref := r }) rfl
  have hnoted := hbase.violationNoted hst hcause List.not_mem_nil List.not_mem_nil List.not_mem_nil
  rwa [List.nil_append] at hnoted

theorem State.violation_written (h : s.ref.written < 64) (req : Requester) (st cause a access size owner detail : Nat) :
    (s.violation req st cause a access size owner detail).ref.written = s.ref.written + 1 := by
  obtain ⟨r, hw, -, hr⟩ := s.violation_of_room h req st cause a access size owner detail
  rw [hr, State.violationNoted_eq]
  exact hw

theorem State.violation_eq (s : State) (req : Requester) (st cause a access size owner detail : Nat) :
    s.violation req st cause a access size owner detail = { s with
      ref := (s.violation req st cause a access size owner detail).ref, rep := (s.violation req st cause a access size owner detail).rep } := by
  unfold State.violation
  dsimp only
  split <;> apply State.eq_of_fields <;> simp

end Machine
end Sys2Proof
end

section
/-!
PROOF. Type Case ways and the memories' own events (06 R152-R157, R160, R168, R175; 11 R287): a carve or return of several ways goes through them one by one.
-/
namespace Sys2Proof
namespace Machine

variable {s : State}

/-! ### The bits of a mask -/

theorem bit_eq_testBit (v i : Nat) : bit v i = v.testBit i := by
  rw [Nat.testBit_eq_decide_div_mod_eq, bit]
  rfl

/-- Adding a bit that is clear sets it and leaves the others. -/
theorem bit_add_two_pow {v w : Nat} (h : bit v w = false) (k : Nat) : bit (v + 2 ^ w) k = (decide (k = w) || bit v k) := by
  rw [bit_eq_testBit] at h
  simp only [bit_eq_testBit]
  rw [Nat.add_comm]
  rcases Nat.lt_trichotomy k w with hk | rfl | hk
  · rw [Nat.testBit_two_pow_add_gt hk]
    simp [Nat.ne_of_lt hk]
  · rw [Nat.testBit_two_pow_add_eq]
    simp [h]
  · have hpow : 2 ^ k = 2 ^ w * 2 * 2 ^ (k - w - 1) := by
      rw [← Nat.pow_succ, ← Nat.pow_add]
      congr 1
      omega
    have heven : v / 2 ^ w % 2 = 0 := by
      rw [Nat.testBit_eq_decide_div_mod_eq] at h
      have := of_decide_eq_false h
      omega
    have hdiv : (2 ^ w + v) / 2 ^ w / 2 = v / 2 ^ w / 2 := by
      rw [Nat.add_div_left _ (Nat.two_pow_pos w)]
      omega
    have hsame : (2 ^ w + v) / 2 ^ k = v / 2 ^ k := by
      rw [hpow, ← Nat.div_div_eq_div_mul, ← Nat.div_div_eq_div_mul, hdiv, Nat.div_div_eq_div_mul, Nat.div_div_eq_div_mul,
        Nat.mul_assoc]
    simp [Nat.testBit_eq_decide_div_mod_eq, hsame, Nat.ne_of_gt hk]

/-- Taking a bit that is set away clears it and leaves the others. -/
theorem bit_sub_two_pow {v w : Nat} (h : bit v w = true) (k : Nat) : bit (v - 2 ^ w) k = (!decide (k = w) && bit v k) := by
  have hle : 2 ^ w ≤ v := Nat.ge_two_pow_of_testBit (by rwa [← bit_eq_testBit])
  have hback : v = v - 2 ^ w + 2 ^ w := (Nat.sub_add_cancel hle).symm
  have hclear : bit (v - 2 ^ w) w = false := by
    rw [hback, bit_eq_testBit, Nat.add_comm, Nat.testBit_two_pow_add_eq, ← bit_eq_testBit] at h
    simpa using h
  have hset := bit_add_two_pow hclear k
  rw [← hback] at hset
  by_cases hk : k = w
  · subst hk
    simp [hclear]
  · simp [hset, hk]

/-- The mask of scratch ways once way `w` is in it or out of it. -/
def scratchMask (on : Bool) (v w : Nat) : Nat := if on then (if bit v w then v else v + 2 ^ w) else (if bit v w then v - 2 ^ w else v)

theorem bit_scratchMask (on : Bool) (v w k : Nat) : bit (scratchMask on v w) k = if k = w then on else bit v k := by
  unfold scratchMask
  cases on with
  | true =>
    rw [if_pos rfl]
    split
    · next h =>
      split
      · next hk => rw [hk, h]
      · rfl
    · next h =>
      rw [bit_add_two_pow (by simpa using h)]
      split <;> simp [*]
  | false =>
    rw [if_neg Bool.false_ne_true]
    split
    · next h =>
      rw [bit_sub_two_pow h]
      split <;> simp [*]
    · next h =>
      split
      · next hk => rw [hk, Bool.eq_false_iff.2 h]
      · rfl

/-! ### One way -/

/-- What a way that is taken must be, and what it becomes. -/
def waySource (on : Bool) : WayMode := if on then .cache else .scratch

def wayGoal (on : Bool) : WayMode := if on then .toScratch else .toCache

/-- A way begins to leave its mode; a carve writes its dirty lines back. -/
def State.wayLeft (s : State) (w : Nat) (on : Bool) : State := if s.wayMode w = waySource on then s.beginCarve w (wayGoal on) else s

theorem State.wayLeft_eq (s : State) (w : Nat) (on : Bool) : (if on then s.carveWay w else s.returnWay w) = s.wayLeft w on := by
  cases on <;> rfl

theorem State.writeBack_eq (s : State) (line : Nat) : s.writeBack line = { s with rep := (s.writeBack line).rep } := by
  unfold State.writeBack
  split
  · split <;> rfl
  · rfl

/-- A way that begins to leave takes its mode and its lines with it; a return reports nothing. -/
theorem State.beginCarve_eq (s : State) (w : Nat) (m : WayMode) : ∃ r, s.beginCarve w m = { s with
      mem := { s.mem with way := s.mem.way.put w m, lines := s.mem.lines.filter fun l => l.way != w }, rep := r } ∧ (m ≠ .toScratch → r = s.rep) := by
  unfold State.beginCarve
  by_cases hm : m = .toScratch
  · rw [if_pos hm, State.foldl_onlyRep fun s (l : TcLine) => State.writeBack_eq s l.line]
    exact ⟨_, rfl, fun h => absurd hm h⟩
  · rw [if_neg hm]
    exact ⟨_, rfl, fun _ => rfl⟩

/-- One way of a half: it leaves, and the station's mask of scratch ways takes it in or gives it up. -/
def State.halfStep (s : State) (st ways : Nat) (on : Bool) (w : Nat) : State :=
  if bit ways w then (s.wayLeft w on).setScratch st w on else s

/-- The ways of `l` that the mask names have left where they could, and the station's mask of scratch ways says so. -/
structure HalfDone (s t : State) (st ways : Nat) (on : Bool) (l : List Nat) : Prop where
  mode : ∀ k, t.wayMode k = if k ∈ l ∧ bit ways k = true ∧ s.wayMode k = waySource on then wayGoal on else s.wayMode k
  mask : ∀ k, bit (t.stNum st 7) k = if k ∈ l ∧ bit ways k = true then on else bit (s.stNum st 7) k
  lines : t.mem.lines = s.mem.lines.filter fun x => !(decide (x.way ∈ l) && bit ways x.way && s.wayMode x.way == waySource on)
  frame : t = { s with mem := { s.mem with way := t.mem.way, lines := t.mem.lines }, od := t.od, rep := t.rep }
  quiet : on = false → t.rep = s.rep

theorem HalfDone.nil (s : State) (st ways : Nat) (on : Bool) : HalfDone s s st ways on [] where
  mode k := by simp
  mask k := by simp
  lines := by simp
  frame := rfl
  quiet _ := rfl

theorem State.stNum_setScratch (s : State) (st w : Nat) (on : Bool) : (s.setScratch st w on).stNum st 7 = scratchMask on (s.stNum st 7) w := s.num_setNum ..

theorem State.wayLeft_done (s : State) (st ways w : Nat) (on : Bool) (hw : bit ways w = true) :
    HalfDone s ((s.wayLeft w on).setScratch st w on) st ways on [w] := by
  by_cases hsrc : s.wayMode w = waySource on
  · obtain ⟨r, hr, hquiet⟩ := s.beginCarve_eq w (wayGoal on)
    have hleft : s.wayLeft w on = _ := (if_pos hsrc).trans hr
    rw [hleft]
    refine ⟨fun k => ?_, fun k => ?_, ?_, rfl, fun hon => hquiet (by subst hon; decide)⟩
    · refine (Tab.at_put WayMode.cache s.mem.way w k (wayGoal on)).trans ?_
      by_cases hk : k = w
      · subst hk
        simp [hw, hsrc]
      · simp [hk, State.wayMode]
    · rw [State.stNum_setScratch, bit_scratchMask]
      by_cases hk : k = w
      · subst hk
        simp [hw]
      · simp [hk]
        rfl
    · refine List.filter_congr fun x _ => ?_
      by_cases hx : x.way = w
      · simp [hx, hw, hsrc]
      · simp [hx]
  · have hleft : s.wayLeft w on = s := if_neg hsrc
    rw [hleft]
    refine ⟨fun k => ?_, fun k => ?_, ?_, rfl, fun _ => rfl⟩
    · by_cases hk : k = w
      · subst hk
        simp [hsrc]
        rfl
      · simp [hk]
        rfl
    · rw [State.stNum_setScratch, bit_scratchMask]
      by_cases hk : k = w
      · subst hk
        simp [hw]
      · simp [hk]
    · refine (List.filter_eq_self.2 fun x _ => ?_).symm
      by_cases hx : x.way = w
      · simp [hx, hsrc]
      · simp [hx]

theorem State.halfStep_done (s : State) (st ways w : Nat) (on : Bool) : HalfDone s (s.halfStep st ways on w) st ways on [w] := by
  unfold State.halfStep
  split
  · next hw => exact s.wayLeft_done st ways w on hw
  · next hw =>
    refine ⟨fun k => ?_, fun k => ?_, ?_, rfl, fun _ => rfl⟩
    · rw [if_neg fun h => hw (by rw [← List.mem_singleton.1 h.1]; exact h.2.1)]
    · rw [if_neg fun h => hw (by rw [← List.mem_singleton.1 h.1]; exact h.2)]
    · refine (List.filter_eq_self.2 fun x _ => ?_).symm
      by_cases hx : x.way = w
      · simp [hx, Bool.eq_false_iff.2 hw]
      · simp [hx]

theorem HalfDone.cons {t u : State} {st ways w : Nat} {on : Bool} {l : List Nat} (h : HalfDone s u st ways on [w]) (hl : HalfDone u t st ways on l)
    (hw : w ∉ l) : HalfDone s t st ways on (w :: l) where
  mode k := by
    rw [hl.mode, h.mode]
    by_cases hk : k = w
    · subst hk
      simp [hw]
    · simp [hk]
  mask k := by
    rw [hl.mask, h.mask]
    by_cases hk : k = w
    · subst hk
      simp [hw]
    · simp [hk]
  lines := by
    rw [hl.lines, h.lines, List.filter_filter]
    refine List.filter_congr fun x _ => ?_
    rw [h.mode]
    by_cases hx : x.way = w
    · simp [hx, hw]
    · simp [hx]
  frame := by
    rw [hl.frame, h.frame]
  quiet hon := (hl.quiet hon).trans (h.quiet hon)

theorem foldl_halfStep_done (st ways : Nat) (on : Bool) (l : List Nat) (hl : l.Nodup) (s : State) :
    HalfDone s (l.foldl (fun s w => s.halfStep st ways on w) s) st ways on l := by
  induction l generalizing s with
  | nil => exact .nil ..
  | cons w l ih =>
    obtain ⟨hw, hl⟩ := List.nodup_cons.1 hl
    exact (s.halfStep_done st ways w on).cons (ih hl _) hw

/-! ### A half of the command -/

/-- Every way of a mask is the requester's own. -/
def State.ownsWays (s : State) (req : Requester) (ways : BitVec 16) : Prop := ∀ w, w < 16 → bit ways.toNat w = true → s.wayOwner w = s.attrib req

theorem State.carveHalf_of_owned {req : Requester} {ways : BitVec 16} (hown : s.ownsWays req ways) (on : Bool) :
    ∃ t, HalfDone s t (s.attrib req) ways.toNat on (List.range 16) ∧ s.carveHalf req ways.toNat on = { t with out := { t.out with err := false } } := by
  refine ⟨_, foldl_halfStep_done (s.attrib req) ways.toNat on (List.range 16) List.nodup_range s, ?_⟩
  have hnone : (List.range 16).find? (fun w => bit ways.toNat w && s.wayOwner w != s.attrib req) = none := by
    rw [List.find?_eq_none]
    intro w hw
    by_cases hbit : bit ways.toNat w = true
    · simp [hown w (List.mem_range.1 hw) hbit]
    · simp [hbit]
  unfold State.carveHalf
  dsimp only
  rw [hnone]
  simp only [State.wayLeft_eq]
  rfl

theorem bit_of_way (ways : BitVec 16) {k : Nat} (hk : ¬ k < 16) : bit ways.toNat k = false := by
  rw [bit_eq_testBit]
  exact Nat.testBit_lt_two_pow (ways.isLt.trans_le (Nat.pow_le_pow_right (by decide) (Nat.not_lt.1 hk)))

/-- A violation in a log with room is one more record, counted at its three places. -/
theorem State.violation_spec (hroom : s.ref.written < 64) {st cause : Nat} (hst : st < 32) (hcause : cause < 256) (req : Requester)
    (a access size owner detail : Nat) : ∃ u, s.violation req st cause a access size owner detail = u
      ∧ Counted s u [key 0x2890 1, key 0x2891 (st + 1), key 0x2892 cause] ∧ u.ref.written = s.ref.written + 1
      ∧ u = { s with ref := u.ref, rep := u.rep } :=
  ⟨_, rfl, Counted.violation hroom hst hcause rfl, State.violation_written hroom .., State.violation_eq ..⟩

theorem carveHalf_refused {req : Requester} {ways : BitVec 16} {w : Nat} (hw : w < 16) (hbit : bit ways.toNat w = true)
    (hother : s.wayOwner w ≠ s.attrib req) (hst : s.attrib req < 32) (hroom : s.ref.written < 64) (on : Bool) :
    Counted s (s.carveHalf req ways.toNat on) [key 0x2890 1, key 0x2891 (s.attrib req + 1), key 0x2892 7]
      ∧ (s.carveHalf req ways.toNat on).out.err = true ∧ (s.carveHalf req ways.toNat on).ref.written = s.ref.written + 1
      ∧ s.carveHalf req ways.toNat on = { s with
        ref := (s.carveHalf req ways.toNat on).ref, rep := (s.carveHalf req ways.toNat on).rep, out := (s.carveHalf req ways.toNat on).out } := by
  have hsome : ∃ v, (List.range 16).find? (fun w => bit ways.toNat w && s.wayOwner w != s.attrib req) = some v :=
    Option.isSome_iff_exists.1 (List.find?_isSome.2 ⟨w, List.mem_range.2 hw, by simp [hbit, hother]⟩)
  obtain ⟨v, hv⟩ := hsome
  obtain ⟨u, hu, hcount, hwritten, hframe⟩ := State.violation_spec hroom hst (cause := 7) (by decide) req 0x10160040 1 4 (s.wayOwner v) 0
  have hviol : s.carveHalf req ways.toNat on = { u with out := { s.out with err := true } } := by
    unfold State.carveHalf
    dsimp only
    rw [hv, ← hu]
  rw [hviol]
  refine ⟨hcount.of_rep rfl, rfl, hwritten, ?_⟩
  rw [hframe]

/-! ### A transfer that ends -/

theorem wayDone_spec (w : Fin 16) (m : WayMode) : (s.wayDone w m).wayMode w = m ∧ (∀ v, v ≠ w.val → (s.wayDone w m).wayMode v = s.wayMode v)
      ∧ (∀ a, (s.wayDone w m).byte a = if scratchBase w ≤ a ∧ a < scratchBase w + 0x80000 then 0 else s.byte a)
      ∧ Counted s (s.wayDone w m) [key 0x2858 5]
      ∧ s.wayDone w m = { s with mem := { s.mem with bytes := (s.wayDone w m).mem.bytes, way := (s.wayDone w m).mem.way }, rep := (s.wayDone w m).rep } := by
  refine ⟨Tab.at_put_same .., fun v hv => Tab.at_put_other _ _ _ hv, fun a => ?_, ((Counted.refl s).of_rep rfl).and_count List.not_mem_nil, rfl⟩
  show cellGet memDefault (cellWipe s.mem.bytes (scratchBase w) 0x80000) a = _
  split
  · next h =>
    rw [cellGet_wipe_inside _ _ _ _ h]
    exact if_neg (by unfold scratchBase at h; omega)
  · next h => exact cellGet_wipe_outside _ _ _ _ (by omega)

theorem wayTransferComplete_ends (w : Fin 16) (hmoving : s.wayMode w = .toScratch ∨ s.wayMode w = .toCache) :
    Completes (.wayTransferComplete w) s (fun t =>
      t.wayMode w = (if s.wayMode w = .toScratch then .scratch else .cache) ∧ (∀ v, v ≠ w.val → t.wayMode v = s.wayMode v)
      ∧ (∀ a, t.byte a = if scratchBase w ≤ a ∧ a < scratchBase w + 0x80000 then 0 else s.byte a)
      ∧ Counted s t [key 0x2858 5] ∧ t = { s with mem := { s.mem with bytes := t.mem.bytes, way := t.mem.way }, rep := t.rep }) := by
  have hend : s.endTransfer w = s.wayDone w (if s.wayMode w = .toScratch then .scratch else .cache) := by
    unfold State.endTransfer
    rcases hmoving with h | h <;> rw [h] <;> rfl
  exact ⟨_, congrArg Host.Outcome.next hend, wayDone_spec w _⟩

theorem State.chan_of_put {t : State} {c : Nat} {x : DsChan} (h : t.mem.ds = s.mem.ds.put c x) (d : Nat) :
    t.chan d = if d = c then x else s.chan d := by
  unfold State.chan
  rw [h, Tab.at_put]

theorem correctedRewrite_rewrites (word : BitVec 37) (c : Nat) (hregion : regionOf (word.toNat * 8) = some (.ds c)) :
    Completes (.correctedRewrite word) s (fun t =>
      t.chan c = { s.chan c with fix := (s.chan c).fix.filter (· ≠ word.toNat) } ∧ (∀ d, d ≠ c → t.chan d = s.chan d)
      ∧ t = { s with mem := { s.mem with ds := t.mem.ds } }) := by
  have hexec : exec (.correctedRewrite word) s = .next (s.updChan c fun d => { d with fix := d.fix.filter (· ≠ word.toNat) }) := by
    show execCorrectedRewrite word s = _
    unfold execCorrectedRewrite
    rw [hregion]
  exact ⟨_, hexec, (State.chan_of_put rfl _).trans (if_pos rfl), fun d hd => (State.chan_of_put rfl _).trans (if_neg hd), rfl⟩

/-- Settles O27: a half of WAY is followed way by way (`HalfDone`), or refused for the first way that another station owns. -/
theorem typeCaseWays : Obligations.TypeCaseWays := by
  unfold Obligations.TypeCaseWays
  intro s
  refine ⟨fun req ways hown => ?_, fun req ways hown => ?_, fun req ways w hw hbit hother hst hroom =>
      ⟨⟨_, rfl, carveHalf_refused hw hbit hother hst hroom true⟩, ⟨_, rfl, carveHalf_refused hw hbit hother hst hroom false⟩⟩,
    wayTransferComplete_ends, fun w hstill => ?_, correctedRewrite_rewrites, fun husable hok => ?_⟩
  · obtain ⟨t, hdone, ht⟩ := State.carveHalf_of_owned hown true
    refine ⟨_, congrArg Host.Outcome.next ht, fun w hw => ?_, fun w hw => ?_, ?_, rfl, ?_⟩
    · exact (hdone.mode w).trans (by simp [hw, waySource, wayGoal])
    · exact (hdone.mask w).trans (by cases hb : bit ways.toNat w <;> simp [hw])
    · refine hdone.lines.trans (List.filter_congr fun x _ => ?_)
      by_cases hx : x.way < 16
      · simp [hx, waySource]
      · simp [hx, bit_of_way ways hx]
    · rw [hdone.frame]
  · obtain ⟨t, hdone, ht⟩ := State.carveHalf_of_owned hown false
    refine ⟨_, congrArg Host.Outcome.next ht, fun w hw => ?_, fun w hw => ?_, rfl, ?_⟩
    · exact (hdone.mode w).trans (by simp [hw, waySource, wayGoal])
    · exact (hdone.mask w).trans (by cases hb : bit ways.toNat w <;> simp [hw])
    · rw [hdone.frame, hdone.quiet rfl]
  · refine ⟨s, congrArg Host.Outcome.next ?_, rfl⟩
    unfold State.endTransfer
    rcases hstill with h | h <;> rw [h]
  · exact ⟨_, congrArg Host.Outcome.next (if_neg (by simp [husable, hok])), 
      Counted.count_raise (u := { s with mem := { s.mem with lpFailed := true } }) (i := 0x2859) (j := 5) rfl _, rfl⟩

end Machine
end Sys2Proof
end

section
/-!
SUPPORT. A neural core whose slug ends (08 R221, R224, R225): its engines stop, it is freed or retired, and its entry alone changes.
-/
namespace Sys2Proof
namespace Machine

variable {s : State}

/-- What has been counted since a state with the same counters. -/
theorem Counted.of_base {t u : State} {ks : List Nat} (h : Counted u t ks) (hrep : u.rep = s.rep) : Counted s t ks := fun k hk => by
  have htally : u.tally k = s.tally k := by
    unfold State.tally
    rw [hrep]
  rw [h k hk, htally]

/-! ### One core's entry -/

theorem State.core_of_put {t : State} {c : Nat} {x : NeuralCore} (h : t.nc.core = s.nc.core.put c x) (k : Nat) :
    t.core k = if k = c then x else s.core k := by
  unfold State.core
  rw [h, Tab.at_put]

theorem State.core_updCore (s : State) (c k : Nat) (f : NeuralCore → NeuralCore) :
    (s.updCore c f).core k = if k = c then f (s.core c) else s.core k := State.core_of_put rfl k

/-- What the end of a slug leaves of a core's entry. -/
structure CoreStands (x y : NeuralCore) : Prop where
  cause : y.cause = x.cause
  faultSt : y.faultSt = x.faultSt
  faultCmd : y.faultCmd = x.faultCmd
  waiting : x.waiting = false → y.waiting = false

theorem CoreStands.refl (x : NeuralCore) : CoreStands x x := ⟨rfl, rfl, rfl, id⟩

theorem CoreStands.trans {x y z : NeuralCore} (hxy : CoreStands x y) (hyz : CoreStands y z) : CoreStands x z :=
  ⟨hyz.cause.trans hxy.cause, hyz.faultSt.trans hxy.faultSt, hyz.faultCmd.trans hxy.faultCmd, fun h => hyz.waiting (hxy.waiting h)⟩

/-- Core `c` alone has changed its entry, its requests in quoins and rings may be gone, and nothing has been counted. -/
structure CoreTouched (s t : State) (c : Nat) : Prop where
  stands : CoreStands (s.core c) (t.core c)
  others : ∀ k, k ≠ c → t.core k = s.core k
  counted : ∀ {u : State} {ks : List Nat}, Counted u s ks → Counted u t ks
  frame : t = { s with nc := { s.nc with core := t.nc.core }, qn := { s.qn with parked := t.qn.parked }
                       rg := { s.rg with blocked := t.rg.blocked }, rep := t.rep }

theorem CoreTouched.refl (s : State) (c : Nat) : CoreTouched s s c := ⟨.refl _, fun _ _ => rfl, id, rfl⟩

theorem CoreTouched.trans {t u : State} {c : Nat} (hst : CoreTouched s t c) (htu : CoreTouched t u c) : CoreTouched s u c where
  stands := hst.stands.trans htu.stands
  others k hk := (htu.others k hk).trans (hst.others k hk)
  counted h := htu.counted (hst.counted h)
  frame := by rw [htu.frame, hst.frame]

theorem State.updCore_touched (s : State) (c : Nat) {f : NeuralCore → NeuralCore} (hf : CoreStands (s.core c) (f (s.core c))) :
    CoreTouched s (s.updCore c f) c where
  stands := by rwa [State.core_updCore, if_pos rfl]
  others k hk := by rw [State.core_updCore, if_neg hk]
  counted h := h.of_rep rfl
  frame := rfl

theorem State.report_touched {t : State} {c : Nat} (hframe : t = { s with rep := t.rep })
    (hcount : ∀ {u : State} {ks : List Nat}, Counted u s ks → Counted u t ks) : CoreTouched s t c := by
  have hcore : ∀ k, t.core k = s.core k := fun k => by rw [hframe]; rfl
  exact ⟨by rw [hcore]; exact .refl _, fun k _ => hcore k, hcount, by rw [hframe]⟩

theorem State.setCore_touched (s : State) (c : Nat) (x : CoreState) : CoreTouched s (s.setCore c x) c ∧ ((s.setCore c x).core c).state = x := by
  unfold State.setCore
  split
  · next h => exact ⟨.refl .., h⟩
  · refine ⟨(s.updCore_touched c ⟨rfl, rfl, rfl, id⟩).trans (State.report_touched rfl fun h => h.occur _), ?_⟩
    show ((s.updCore c fun y => { y with state := x }).core c).state = x
    rw [State.core_updCore, if_pos rfl]

theorem State.stopEngines_touched (s : State) (c : Nat) : CoreTouched s (s.stopEngines c) c ∧ ((s.stopEngines c).core c).waiting = false
    ∧ ((s.stopEngines c).core c).pc = (s.core c).pc ∧ ((s.stopEngines c).core c).station = (s.core c).station := by
  have hcore : ∀ k, (s.stopEngines c).core k = if k = c then { s.core c with
      waiting := false, drains := [], mats := [], posts := [], strms := [], job := none, claims := [], touched := [], ended := false
      started := none } else s.core k := fun k => State.core_of_put rfl k
  refine ⟨⟨?_, fun k hk => ?_, fun h => h.of_rep rfl, rfl⟩, ?_, ?_, ?_⟩
  · rw [hcore, if_pos rfl]
    exact ⟨rfl, rfl, rfl, fun _ => rfl⟩
  · rw [hcore, if_neg hk]
  all_goals rw [hcore, if_pos rfl]

/-- A core retired for a reason that is not counted there. -/
theorem State.retireCore_touched (s : State) (c : Nat) {reason : Nat} (hreason : 3 < reason) :
    CoreTouched s (s.retireCore c reason) c ∧ ((s.retireCore c reason).core c).state = .retired := by
  unfold State.retireCore
  dsimp only
  rw [if_neg (Nat.not_le.2 hreason)]
  have hstop := (s.stopEngines_touched c).1.trans (State.updCore_touched _ c (f := fun k => { k with reason := reason, retire := false })
    ⟨rfl, rfl, rfl, id⟩)
  obtain ⟨hset, hstate⟩ := State.setCore_touched ((s.stopEngines c).updCore c fun k => { k with reason := reason, retire := false }) c .retired
  refine ⟨(hstop.trans hset).trans (State.report_touched rfl fun h => h.raise _), ?_⟩
  exact hstate

theorem State.coreFree_touched (s : State) (c : Nat) : CoreTouched s (s.coreFree c) c ∧ ((s.coreFree c).core c).state ≠ .running := by
  unfold State.coreFree
  split
  · obtain ⟨htouched, hstate⟩ := s.retireCore_touched c (reason := 6) (by decide)
    exact ⟨htouched, by rw [hstate]; decide⟩
  · split
    · obtain ⟨htouched, hstate⟩ := s.setCore_touched c .testing
      exact ⟨htouched, by rw [hstate]; decide⟩
    · obtain ⟨htouched, hstate⟩ := s.setCore_touched c .idle
      exact ⟨htouched, by rw [hstate]; decide⟩

/-! ### A slug that carries no sequence is aborted -/

/-- The engines have stopped and the fault of the slug is kept. -/
def State.faultKept (s : State) (c cause : Nat) : State :=
  (s.stopEngines c).updCore c fun x => { x with cause := cause, faultSt := (s.core c).station, faultCmd := (s.core c).pc % 2 ^ 32 }

/-- The abort is counted, and the slug's entry is gone. -/
def State.slugGone (s : State) (c cause : Nat) (station : Nat) : State :=
  let u := ((s.faultKept c cause).count (0x2870 + c) 2).raise { code := 0x1705, unit := c, station := station }
  { u with rs := { u.rs with slug := u.rs.slug.put c {} } }

theorem State.abortSlug_eq (s : State) {c cause : Nat} (hseqs : s.slugSeqs c = []) (h5 : cause ≠ 5) (h6 : cause ≠ 6) :
    s.abortSlug c cause = (s.slugGone c cause (s.core c).station).coreFree c := by
  unfold State.abortSlug State.dropSlug
  dsimp only
  rw [if_neg h6, if_neg h5]
  have hnone : ((((s.stopEngines c).updCore c fun x => { x with cause := cause, faultSt := (s.core c).station, faultCmd := (s.core c).pc % 2 ^ 32 }).count
    (0x2870 + c) 2).raise { code := 0x1705, unit := c, station := (s.core c).station }).slugSeqs c = [] := hseqs
  rw [hnone]
  rfl

theorem State.faultKept_core (s : State) (c cause k : Nat) : (s.faultKept c cause).core k = if k = c then { (s.stopEngines c).core c with
    cause := cause, faultSt := (s.core c).station, faultCmd := (s.core c).pc % 2 ^ 32 } else s.core k := by
  unfold State.faultKept
  rw [State.core_updCore]
  split
  · rfl
  · next hk => exact (s.stopEngines_touched c).1.others k hk

theorem State.slugGone_eq (s : State) (c cause station : Nat) : s.slugGone c cause station =
    { s with nc := { s.nc with core := (s.slugGone c cause station).nc.core }, qn := { s.qn with parked := (s.slugGone c cause station).qn.parked }
             rg := { s.rg with blocked := (s.slugGone c cause station).rg.blocked }, rs := { s.rs with slug := s.rs.slug.put c {} }
             rep := (s.slugGone c cause station).rep } := by
  have hframe := (s.stopEngines_touched c).1.frame
  unfold State.slugGone State.faultKept
  dsimp only
  generalize s.stopEngines c = u at hframe ⊢
  rw [hframe]
  rfl

theorem State.abortSlug_spec (s : State) {c cause : Nat} (hseqs : s.slugSeqs c = []) (h5 : cause ≠ 5) (h6 : cause ≠ 6) :
    s.slugAborted (s.abortSlug c cause) c cause := by
  rw [State.abortSlug_eq s hseqs h5 h6]
  have hcore : ∀ k, (s.slugGone c cause (s.core c).station).core k = (s.faultKept c cause).core k := fun _ => rfl
  have hkept := (hcore c).trans ((s.faultKept_core c cause c).trans (if_pos rfl))
  obtain ⟨⟨⟨hcause, hst, hcmd, hwait⟩, hothers, hcounted, hframe⟩, hstate⟩ := State.coreFree_touched (s.slugGone c cause (s.core c).station) c
  generalize (s.slugGone c cause (s.core c).station).coreFree c = t at *
  refine ⟨hstate, ?_, ?_, ?_, hwait ?_, fun k hk => ?_, hcounted ?_, ?_⟩
  · rw [hcause, hkept]
  · rw [hst, hkept]
  · rw [hcmd, hkept]
  · rw [hkept]
    exact (s.stopEngines_touched c).2.1
  · rw [hothers k hk, hcore, State.faultKept_core, if_neg hk]
  · have hcount : Counted s (((s.faultKept c cause).count (0x2870 + c) 2).raise { code := 0x1705, unit := c, station := (s.core c).station })
        [key (0x2870 + c) 2] := (((Counted.refl s).of_rep (t' := s.faultKept c cause) rfl).and_count List.not_mem_nil).raise _
    exact hcount.of_rep (t' := s.slugGone c cause (s.core c).station) rfl
  · have hslug : t.rs.slug = s.rs.slug.put c {} := by rw [hframe]; rfl
    rw [hslug, hframe, State.slugGone_eq]

end Machine
end Sys2Proof
end

section
/-!
PROOF. Accesses that enter the fabric (06 R152, R157, R159, R163-R173; 11 R286-R291). An access that the Referee lets through is served by the memory that it names; an error response then reaches a neural core as the end of its slug (08 R221).
-/
namespace Sys2Proof
namespace Machine

variable {s : State}

/-! ### What the Referee names as the cause -/

theorem State.checkWindow_cause {st a c : Nat} {acc : Access} (h : s.checkWindow st a acc = some c) : c ≤ 10 := by
  unfold State.checkWindow at h
  dsimp only at h
  split at h
  · cases h
    decide
  · split at h <;> cases h
    decide

theorem State.checkRegister_cause {st a c : Nat} {wr : Bool} (h : s.checkRegister st a wr = some c) : c ≤ 10 := by
  unfold State.checkRegister at h
  dsimp only at h
  repeat' split at h
  all_goals cases h
  all_goals decide

theorem State.checkLine_cause {req : Requester} {st a c : Nat} {acc : Access} (h : s.checkLine req st a acc = some c) : c ≤ 10 := by
  have hor : ∀ (o : Option Nat) (d : Nat), d ≤ 10 → (s.checkWindow st a acc).or o = some c → (∀ x, o = some x → x = d) → c ≤ 10 := fun o d hd ho hx => by
    rcases Option.or_eq_some_iff.1 ho with hw | ⟨-, ho⟩
    · exact State.checkWindow_cause hw
    · exact hx c ho ▸ hd
  unfold State.checkLine at h
  split at h
  · cases h
    decide
  · split at h
    · cases h
    · split at h
      · split at h <;> cases h
        decide
      · cases h
      · exact State.checkRegister_cause h
      · split at h <;> cases h
        decide
      · split at h <;> cases h
        decide
      · exact hor _ 7 (by decide) h fun x hx => by split at hx <;> cases hx; rfl
      · exact hor _ 6 (by decide) h fun x hx => by split at hx <;> cases hx; rfl
      · split at h
        · cases h
          decide
        · exact State.checkWindow_cause h
      · exact State.checkWindow_cause h

theorem State.check_cause {req : Requester} {st a n l c : Nat} {acc : Access} (h : s.check req st a n acc = some (l, c)) : c ≤ 10 := by
  obtain ⟨x, -, hx⟩ := List.exists_of_findSome?_eq_some h
  obtain ⟨c', hc', heq⟩ := Option.map_eq_some_iff.1 hx
  cases heq
  exact State.checkLine_cause hc'

/-! ### The requester -/

theorem State.requesterError_of_no_core {req : Requester} (h : coreOf req = none) (u : State) : u.requesterError req = u := by
  cases req with
  | core c => cases h
  | _ => rfl

theorem State.requesterError_of_ok {u : State} (h : u.out.err = false) (req : Requester) : u.requesterError req = u := by
  unfold State.requesterError
  split
  · rw [if_neg (by simp [h])]
  · rfl

theorem exec_fabricAccess (hrun : s.computeRuns = true) (req : Requester) (op : FabricOp) (a : BitVec 40) (e : MemErr) (v : Fin 16) :
    exec (.fabricAccess req op a e v) s = .next ((s.fabricRequest req a.toNat op e v.val).1.requesterError req) :=
  congrArg Host.Outcome.next (if_pos hrun)

theorem State.fabricRequest_served {req : Requester} {a : Nat} {op : FabricOp} (hlen : fabricLen op ≠ 0) (hregs : regionOf a ≠ some .regs)
    (hcheck : s.check req (s.attrib req) a (fabricLen op) (accessOf op) = none) (e : MemErr) (v : Nat) :
    (s.fabricRequest req a op e v).1 = (s.rdata []).serveTarget req (s.attrib req) a op e v := by
  have hcheck' : (s.rdata []).check req (s.attrib req) a (fabricLen op) (accessOf op) = none := hcheck
  have hsame : (s.rdata []).attrib req = s.attrib req := rfl
  show (State.fabricRequest s req a op e v).1 = _
  unfold State.fabricRequest
  rw [if_neg hlen, if_neg hregs]
  show (match (s.rdata []).check req ((s.rdata []).attrib req) a (fabricLen op) (accessOf op) with
    | some (l, cause) => (((s.rdata []).violation req ((s.rdata []).attrib req) cause l (accessCode (accessOf op)) (fabricLen op)
        ((s.rdata []).targetOwner l) 0).regError, true)
    | none => ((s.rdata []).serveTarget req ((s.rdata []).attrib req) a op e v, false)).1 = _
  rw [hsame, hcheck']

theorem fabricAccess_errors {req : Requester} (hreq : coreOf req = none) {op : FabricOp} {a : BitVec 40} {e : MemErr} {v : Fin 16} {t : State}
    (hrun : s.computeRuns = true) (h : (s.fabricRequest req a.toNat op e v.val).1 = t) {post : State → Prop} (hpost : post t) :
    Completes (.fabricAccess req op a e v) s post :=
  ⟨t, (exec_fabricAccess hrun ..).trans (congrArg Host.Outcome.next (by rw [h, State.requesterError_of_no_core hreq])), hpost⟩

theorem fabricAccess_completes {req : Requester} {op : FabricOp} {a : BitVec 40} {e : MemErr} {v : Fin 16} {t : State}
    (hrun : s.computeRuns = true) (h : (s.fabricRequest req a.toNat op e v.val).1 = t) (hok : t.out.err = false) {post : State → Prop} (hpost : post t) :
    Completes (.fabricAccess req op a e v) s post :=
  ⟨t, (exec_fabricAccess hrun ..).trans (congrArg Host.Outcome.next (by rw [h, State.requesterError_of_ok hok])), hpost⟩

/-! ### What a memory answers -/

theorem State.answered_error (u : State) : State.answered (u, none) = { u with out := { u.out with rdata := [], err := true } } := rfl

theorem State.serveTarget_ds {a c : Nat} (hregion : regionOf a = some (.ds c)) (hready : (s.chan c).ready = true) (req : Requester) (st : Nat)
    (op : FabricOp) (e : MemErr) (v : Nat) : s.serveTarget req st a op e v = State.answered (s.dsAccess st c a op e v) := by
  unfold State.serveTarget State.memAccess
  rw [hregion]
  exact if_pos hready

theorem State.dsAccess_fenced {c : Nat} (h : (s.chan c).fenced = true) (st a : Nat) (op : FabricOp) (e : MemErr) (v : Nat) :
    s.dsAccess st c a op e v = (s, none) := if_pos h

/-- Reading the Type Case changes its lines; a line that it writes back may be counted. -/
theorem State.lookup_eq (s : State) (st line v : Nat) (wr : Bool) : s.lookup st line v wr =
    { s with mem := { s.mem with lines := (s.lookup st line v wr).mem.lines }, rep := (s.lookup st line v wr).rep } := by
  unfold State.lookup
  split
  · split <;> rfl
  · split
    · rfl
    · split
      · rfl
      · dsimp only
        split
        · split
          · rw [State.writeBack_eq]
          · rfl
        · rfl

theorem State.lookup_quiet (h : s.mem.lines = []) (st line v : Nat) (wr : Bool) : (s.lookup st line v wr).rep = s.rep := by
  unfold State.lookup
  rw [h]
  dsimp only [List.find?_nil]
  split
  · rfl
  · split <;> rfl

theorem State.lookup_chan (s : State) (st line v : Nat) (wr : Bool) (c : Nat) : (s.lookup st line v wr).chan c = s.chan c := by
  rw [State.lookup_eq]
  rfl

theorem State.dsAccess_none {c : Nat} (h : (s.chan c).fenced = false) (st a : Nat) (op : FabricOp) (v : Nat) :
    s.dsAccess st c a op .none v = (s.lookup st (a / 64) v (fabricWrites op)).poisonable op a (s.chan c).poison
      (fun p s => s.updChan c (fun d => { d with poison := p })) (fun s => s.count (0x2850 + c) 3) := by
  rw [← s.lookup_chan st (a / 64) v (fabricWrites op)]
  exact if_neg (by simp [h])

theorem State.dsAccess_uncorrectable {c : Nat} (h : (s.chan c).fenced = false) (st a : Nat) (op : FabricOp) (v : Nat) :
    s.dsAccess st c a op .uncorrectable v = ((s.lookup st (a / 64) v (fabricWrites op)).dsUncorrectable c a, none) :=
  if_neg (by simp [h])

theorem poisonedWords_nil {poison : List Nat} {a n : Nat} (h : ∀ w ∈ wordsOf a n, w ∉ poison) :
    (wordsOf a n).filter (fun w => poison.contains w) = [] :=
  List.filter_eq_nil_iff.2 fun w hw => by simpa using h w hw

theorem State.poisonable_read {poison : List Nat} {a n : Nat} (h : ∀ w ∈ wordsOf a n, w ∉ poison) (keep : List Nat → State → State)
    (poisoned : State → State) : s.poisonable (.read n) a poison keep poisoned = (s, some (s.peek a n)) := by
  unfold State.poisonable
  dsimp only [fabricLen]
  rw [poisonedWords_nil h]
  rfl

theorem State.poisonable_poisoned {poison : List Nat} {a n : Nat} (h : ∃ w ∈ wordsOf a n, w ∈ poison) (keep : List Nat → State → State)
    (poisoned : State → State) : s.poisonable (.read n) a poison keep poisoned = (poisoned s, none) := by
  obtain ⟨w, hw, hp⟩ := h
  have hmem : w ∈ (wordsOf a n).filter (fun w => poison.contains w) := List.mem_filter.2 ⟨hw, by simpa using hp⟩
  exact if_neg (by simp only [List.isEmpty_iff]; exact List.ne_nil_of_mem hmem)

theorem State.poisonable_write {poison : List Nat} {a : Nat} {d : List Byte} (h : ∀ w ∈ wordsOf a d.length, w ∉ poison)
    (keep : List Nat → State → State) (poisoned : State → State) : s.poisonable (.write d) a poison keep poisoned = ((keep poison s).poke a d, some []) := by
  unfold State.poisonable
  dsimp only [fabricLen]
  rw [poisonedWords_nil h]
  have hkeep : poison.filter (fun w => !([] : List Nat).contains w) = poison := List.filter_eq_self.2 fun _ _ => rfl
  rw [hkeep]
  rfl

theorem State.byte_poke (u : State) (a : Nat) (d : List Byte) (b : Nat) :
    (u.poke a d).byte b = if a ≤ b ∧ b < a + d.length then d.getD (b - a) 0 else u.byte b := by
  show cellGet memDefault (cellWrite memDefault u.mem.bytes a d) b = _
  split
  · next h =>
    obtain ⟨i, rfl⟩ := Nat.exists_eq_add_of_le h.1
    have hi : i < d.length := by omega
    rw [cellGet_write_inside u.mem.bytes a d i hi]
    simp [List.getD_eq_getElem?_getD, hi]
  · next h => exact cellGet_write_outside u.mem.bytes a d b (by omega)

theorem State.chan_keepPoison (u : State) (c : Nat) (k : Nat) : (u.updChan c (fun d => { d with poison := (u.chan c).poison })).chan k = u.chan k := by
  refine (State.chan_of_put (s := u) rfl k).trans ?_
  split
  · next h => subst h; rfl
  · rfl

/-- A channel that remembers an uncorrectable error at `loc`. -/
def DsChan.remembers (d : DsChan) (loc now : Nat) : DsChan :=
  { d with unc := (loc, now) :: d.unc.filter (fun x => x.1 != loc && decide (now ≤ x.2 + 60 * Config.psPerS)) }

theorem DsChan.remembers_first {d : DsChan} (h : d.unc = []) (loc now : Nat) : (d.remembers loc now).unc = [(loc, now)] := by
  unfold DsChan.remembers
  rw [h]
  rfl

/-- The first uncorrectable error of a channel is counted and remembered; it fences nothing. -/
theorem State.dsUncorrectable_first (u : State) {c : Nat} (h : (u.chan c).unc = []) (a : Nat) : Counted u (u.dsUncorrectable c a) [key (0x2850 + c) 2]
    ∧ ((u.dsUncorrectable c a).chan c).unc = [(a / 64, u.clk.ref)] ∧ (∀ d, d ≠ c → (u.dsUncorrectable c a).chan d = u.chan d)
    ∧ u.dsUncorrectable c a = { u with mem := { u.mem with ds := (u.dsUncorrectable c a).mem.ds }, rep := (u.dsUncorrectable c a).rep } := by
  have hchan : ∀ k, (((u.count (0x2850 + c) 2).raise { code := 0x1501, unit := c, detail := a }).updChan c
      (·.remembers (a / 64) u.clk.ref)).chan k = if k = c then (u.chan c).remembers (a / 64) u.clk.ref else u.chan k :=
    fun k => State.chan_of_put (s := u) rfl k
  have hself := congrArg DsChan.unc ((hchan c).trans (if_pos rfl))
  rw [DsChan.remembers_first h] at hself
  have hplain : u.dsUncorrectable c a = ((u.count (0x2850 + c) 2).raise { code := 0x1501, unit := c, detail := a }).updChan c
      (·.remembers (a / 64) u.clk.ref) := by
    refine if_neg (fun hfull => ?_)
    have hlen := congrArg List.length hself
    exact absurd (hlen ▸ hfull) (by simp)
  rw [hplain]
  exact ⟨(Counted.count_raise (u := u) (i := 0x2850 + c) (j := 2) rfl _).of_rep rfl, hself, fun d hd => (hchan d).trans (if_neg hd), rfl⟩

/-! ### The accesses -/

theorem State.fabricRequest_refused {req : Requester} {a : Nat} {op : FabricOp} {l cause : Nat} (hlen : fabricLen op ≠ 0)
    (hregs : regionOf a ≠ some .regs) (hcheck : s.check req (s.attrib req) a (fabricLen op) (accessOf op) = some (l, cause)) (e : MemErr) (v : Nat) :
    (s.fabricRequest req a op e v).1 = ((s.rdata []).violation req (s.attrib req) cause l (accessCode (accessOf op)) (fabricLen op)
      ((s.rdata []).targetOwner l) 0).regError := by
  have hcheck' : (s.rdata []).check req (s.attrib req) a (fabricLen op) (accessOf op) = some (l, cause) := hcheck
  have hsame : (s.rdata []).attrib req = s.attrib req := rfl
  unfold State.fabricRequest
  rw [if_neg hlen, if_neg hregs]
  show (match (s.rdata []).check req ((s.rdata []).attrib req) a (fabricLen op) (accessOf op) with
    | some (l, cause) => (((s.rdata []).violation req ((s.rdata []).attrib req) cause l (accessCode (accessOf op)) (fabricLen op)
        ((s.rdata []).targetOwner l) 0).regError, true)
    | none => ((s.rdata []).serveTarget req ((s.rdata []).attrib req) a op e v, false)).1 = _
  rw [hsame, hcheck']

section
variable {req : Requester} {a : BitVec 40} {v : Fin 16}

theorem fabricAccess_refused {op : FabricOp} {e : MemErr} {l cause : Nat} (hrun : s.computeRuns = true) (hreq : coreOf req = none)
    (hlen : fabricLen op ≠ 0) (hregs : regionOf a.toNat ≠ some .regs)
    (hcheck : s.check req (s.attrib req) a.toNat (fabricLen op) (accessOf op) = some (l, cause)) (hst : s.attrib req < 32) (hroom : s.ref.written < 64) :
    Completes (.fabricAccess req op a e v) s (fun t =>
      t.out.err = true ∧ t.out.rdata = [] ∧ Counted s t [key 0x2890 1, key 0x2891 (s.attrib req + 1), key 0x2892 cause]
      ∧ t.ref.written = s.ref.written + 1 ∧ t = { s with ref := t.ref, rep := t.rep, out := t.out }) := by
  have hcause : cause < 256 := (State.check_cause hcheck).trans_lt (by decide)
  obtain ⟨u, hu, hcount, hwritten, hframe⟩ := State.violation_spec (s := s.rdata []) hroom hst hcause req l (accessCode (accessOf op)) (fabricLen op)
    ((s.rdata []).targetOwner l) 0
  refine fabricAccess_errors (t := u.regError) hreq hrun ((State.fabricRequest_refused hlen hregs hcheck ..).trans (congrArg State.regError hu))
    ⟨rfl, ?_, ?_, hwritten, ?_⟩
  · rw [hframe]
    rfl
  · exact (hcount.of_base (s := s) rfl).of_rep rfl
  · rw [hframe]
    rfl

theorem fabricAccess_read {n c : Nat} (hrun : s.computeRuns = true) (hregion : regionOf a.toNat = some (.ds c)) (hready : (s.chan c).ready = true)
    (hopen : (s.chan c).fenced = false) (hn : n ≠ 0) (hcheck : s.check req (s.attrib req) a.toNat n .read = none)
    (hclean : ∀ w ∈ wordsOf a.toNat n, w ∉ (s.chan c).poison) : Completes (.fabricAccess req (.read n) a .none v) s (fun t =>
      t = { s with mem := { s.mem with lines := t.mem.lines }, rep := t.rep, out := { s.out with rdata := s.peek a.toNat n, err := false } }) := by
  have hserve := State.fabricRequest_served (op := .read n) hn (by rw [hregion]; simp) hcheck .none v.val
  rw [State.serveTarget_ds (s := s.rdata []) hregion hready, State.dsAccess_none (s := s.rdata []) hopen] at hserve
  rw [State.poisonable_read (poison := ((s.rdata []).chan c).poison) hclean] at hserve
  refine fabricAccess_completes hrun hserve rfl ?_
  rw [State.lookup_eq]
  rfl

theorem fabricAccess_poisoned {n c : Nat} (hrun : s.computeRuns = true) (hregion : regionOf a.toNat = some (.ds c)) (hready : (s.chan c).ready = true)
    (hopen : (s.chan c).fenced = false) (hn : n ≠ 0) (hcheck : s.check req (s.attrib req) a.toNat n .read = none)
    (hpoison : ∃ w ∈ wordsOf a.toNat n, w ∈ (s.chan c).poison) (hreq : coreOf req = none) (hlines : s.mem.lines = []) :
    Completes (.fabricAccess req (.read n) a .none v) s (fun t =>
      t.out.err = true ∧ Counted s t [key (0x2850 + c) 3] ∧ t = { s with mem := { s.mem with lines := t.mem.lines }, rep := t.rep, out := t.out }) := by
  have hserve := State.fabricRequest_served (op := .read n) hn (by rw [hregion]; simp) hcheck .none v.val
  rw [State.serveTarget_ds (s := s.rdata []) hregion hready, State.dsAccess_none (s := s.rdata []) hopen] at hserve
  rw [State.poisonable_poisoned (poison := ((s.rdata []).chan c).poison) hpoison] at hserve
  have hquiet := State.lookup_quiet (s := s.rdata []) hlines (s.attrib req) (a.toNat / 64) v.val (fabricWrites (.read n))
  refine fabricAccess_errors hreq hrun hserve ⟨rfl, ?_, ?_⟩
  · exact (((Counted.refl s).of_rep hquiet).and_count List.not_mem_nil).of_rep rfl
  · rw [State.lookup_eq]
    rfl

theorem fabricAccess_uncorrectable {n c : Nat} (hrun : s.computeRuns = true) (hregion : regionOf a.toNat = some (.ds c)) (hready : (s.chan c).ready = true)
    (hopen : (s.chan c).fenced = false) (hn : n ≠ 0) (hcheck : s.check req (s.attrib req) a.toNat n .read = none)
    (hreq : coreOf req = none) (hlines : s.mem.lines = []) (hunc : (s.chan c).unc = []) :
    Completes (.fabricAccess req (.read n) a .uncorrectable v) s (fun t =>
      t.out.err = true ∧ Counted s t [key (0x2850 + c) 2] ∧ (t.chan c).unc = [(a.toNat / 64, s.clk.ref)] ∧ (∀ d, d ≠ c → t.chan d = s.chan d)
      ∧ t = { s with mem := { s.mem with lines := t.mem.lines, ds := t.mem.ds }, rep := t.rep, out := t.out }) := by
  have hserve := State.fabricRequest_served (op := .read n) hn (by rw [hregion]; simp) hcheck .uncorrectable v.val
  rw [State.serveTarget_ds (s := s.rdata []) hregion hready, State.dsAccess_uncorrectable (s := s.rdata []) hopen] at hserve
  have hlook := State.lookup_eq (s.rdata []) (s.attrib req) (a.toNat / 64) v.val (fabricWrites (.read n))
  rw [State.lookup_quiet (s := s.rdata []) hlines] at hlook
  generalize (s.rdata []).lookup (s.attrib req) (a.toNat / 64) v.val (fabricWrites (.read n)) = u at hserve hlook
  have hchan : ∀ k, u.chan k = s.chan k := fun k => by rw [hlook]; rfl
  obtain ⟨hcount, hself, hothers, hframe⟩ := u.dsUncorrectable_first ((congrArg DsChan.unc (hchan c)).trans hunc) a.toNat
  generalize u.dsUncorrectable c a.toNat = w at *
  refine fabricAccess_errors hreq hrun hserve ⟨rfl, ?_, ?_, fun d hd => (hothers d hd).trans (hchan d), ?_⟩
  · rw [hlook] at hcount
    exact (hcount.of_base (s := s) rfl).of_rep rfl
  · refine hself.trans ?_
    rw [hlook]
    rfl
  · rw [hframe, hlook]
    rfl

theorem fabricAccess_write {c : Nat} {d : List Byte} (hrun : s.computeRuns = true) (hregion : regionOf a.toNat = some (.ds c))
    (hready : (s.chan c).ready = true) (hopen : (s.chan c).fenced = false) (hd : d ≠ [])
    (hcheck : s.check req (s.attrib req) a.toNat d.length .write = none) (hclean : ∀ w ∈ wordsOf a.toNat d.length, w ∉ (s.chan c).poison) :
    Completes (.fabricAccess req (.write d) a .none v) s (fun t =>
      (∀ b, t.byte b = if a.toNat ≤ b ∧ b < a.toNat + d.length then d.getD (b - a.toNat) 0 else s.byte b)
      ∧ t.out.err = false ∧ (∀ k, t.chan k = s.chan k)
      ∧ t = { s with mem := { s.mem with bytes := t.mem.bytes, lines := t.mem.lines, ds := t.mem.ds }, rep := t.rep, out := t.out }) := by
  have hserve := State.fabricRequest_served (op := .write d) (fun h => hd (List.length_eq_zero_iff.1 h)) (by rw [hregion]; simp) hcheck .none v.val
  rw [State.serveTarget_ds (s := s.rdata []) hregion hready, State.dsAccess_none (s := s.rdata []) hopen] at hserve
  rw [State.poisonable_write (poison := ((s.rdata []).chan c).poison) hclean] at hserve
  have hlook := State.lookup_eq (s.rdata []) (s.attrib req) (a.toNat / 64) v.val (fabricWrites (.write d))
  generalize (s.rdata []).lookup (s.attrib req) (a.toNat / 64) v.val (fabricWrites (.write d)) = u at hserve hlook
  have hchan : ∀ k, u.chan k = s.chan k := fun k => by rw [hlook]; rfl
  have hbyte : ∀ b, u.byte b = s.byte b := fun b => by rw [hlook]; rfl
  refine fabricAccess_completes hrun hserve rfl ⟨fun b => ?_, rfl, fun k => ?_, ?_⟩
  · rw [← hbyte]
    exact State.byte_poke (u.updChan c fun x => { x with poison := ((s.rdata []).chan c).poison }) a.toNat d b
  · refine Eq.trans ?_ (hchan k)
    have hkeep := u.chan_keepPoison c k
    rw [hchan c] at hkeep
    exact hkeep
  · rw [hlook]
    rfl

theorem fabricAccess_waits {c : Nat} {op : FabricOp} {e : MemErr} (hrun : s.computeRuns = true) (hregion : regionOf a.toNat = some (.ds c))
    (hlen : fabricLen op ≠ 0) (hcheck : s.check req (s.attrib req) a.toNat (fabricLen op) (accessOf op) = none) (hready : (s.chan c).ready = false) :
    Completes (.fabricAccess req op a e v) s (fun t =>
      t.mem.waiting = s.mem.waiting ++ [{ req := req, station := s.attrib req, op := op, addr := a.toNat, err := e, victim := v.val }]
      ∧ t = { s with mem := { s.mem with waiting := t.mem.waiting }, out := { s.out with rdata := [], err := false } }) := by
  have hserve := State.fabricRequest_served hlen (by rw [hregion]; simp) hcheck e v.val
  have hwait : (s.rdata []).serveTarget req (s.attrib req) a.toNat op e v.val = (s.rdata []).waitAccess req (s.attrib req) a.toNat op e v.val := by
    unfold State.serveTarget
    rw [hregion]
    exact if_neg (Bool.eq_false_iff.1 hready)
  exact fabricAccess_completes hrun (hserve.trans hwait) rfl ⟨rfl, rfl⟩

theorem State.fabricRequest_fenced {c : Nat} {op : FabricOp} (hregion : regionOf a.toNat = some (.ds c))
    (hlen : fabricLen op ≠ 0) (hcheck : s.check req (s.attrib req) a.toNat (fabricLen op) (accessOf op) = none) (hready : (s.chan c).ready = true)
    (hfenced : (s.chan c).fenced = true) (e : MemErr) (v : Nat) :
    (s.fabricRequest req a.toNat op e v).1 = { s with out := { s.out with rdata := [], err := true } } := by
  rw [State.fabricRequest_served hlen (by rw [hregion]; simp) hcheck, State.serveTarget_ds (s := s.rdata []) hregion hready,
    State.dsAccess_fenced (s := s.rdata []) hfenced]
  rfl

/-- A neural core whose access is answered with an error ends its slug with cause 7. -/
theorem fabricAccess_aborts {c : Fin 16} {k : Nat} {op : FabricOp} {e : MemErr} (hrun : s.computeRuns = true) (hrunning : (s.core c).state = .running)
    (hseqs : s.slugSeqs c = []) (hregion : regionOf a.toNat = some (.ds k)) (hready : (s.chan k).ready = true) (hfenced : (s.chan k).fenced = true)
    (hlen : fabricLen op ≠ 0) (hcheck : s.check (.core c) (s.attrib (.core c)) a.toNat (fabricLen op) (accessOf op) = none) :
    Completes (.fabricAccess (.core c) op a e v) s (fun t =>
      (t.core c).state ≠ .running ∧ (t.core c).cause = 7 ∧ (t.core c).waiting = false ∧ (∀ k, k ≠ c.val → t.core k = s.core k)
      ∧ t = { s with nc := t.nc, qn := t.qn, rg := t.rg, rs := t.rs, rep := t.rep, out := t.out }) := by
  have habort : State.requesterError { s with out := { s.out with rdata := [], err := true } } (.core c) =
      State.abortSlug { s with out := { s.out with rdata := [], err := true } } c 7 :=
    if_pos (by
      show (true && (s.core c.val).state == .running) = true
      rw [hrunning]
      rfl)
  refine ⟨_, (exec_fabricAccess hrun ..).trans (congrArg Host.Outcome.next (by
    rw [State.fabricRequest_fenced hregion hlen hcheck hready hfenced, habort])), ?_⟩
  obtain ⟨hstate, hcause, -, -, hwait, hothers, -, hframe⟩ :=
    State.abortSlug_spec { s with out := { s.out with rdata := [], err := true } } (c := c) (cause := 7) hseqs (by decide) (by decide)
  refine ⟨hstate, hcause, hwait, hothers, ?_⟩
  generalize State.abortSlug { s with out := { s.out with rdata := [], err := true } } c 7 = t at *
  rw [hframe]

theorem State.serveTarget_mem {a : Nat} {r : Region} (hregion : regionOf a = some r) (hmem : r = .flash ∨ (∃ p, r = .tcm p) ∨ (∃ w, r = .scratch w) ∨ r = .lpddr)
    (req : Requester) (st : Nat) (op : FabricOp) (e : MemErr) (v : Nat) : s.serveTarget req st a op e v = State.answered (s.memAccess st a op e v) := by
  unfold State.serveTarget
  rw [hregion]
  rcases hmem with rfl | ⟨p, rfl⟩ | ⟨w, rfl⟩ | rfl <;> rfl

end

/-- Settles O28: the Referee's answer comes first; what it lets through is served by the memory that the address names. -/
theorem fabricAccess : Obligations.FabricAccess := by
  intro s req a v
  refine ⟨fun op e hrun => ⟨_, congrArg Host.Outcome.next (if_neg (by simp [hrun])), rfl⟩, fun op e hrun hlen => ?_,
    fun op e l cause hrun hreq hlen hregs hcheck hst hroom => fabricAccess_refused hrun hreq hlen hregs hcheck hst hroom,
    fun c n hrun hregion hready hopen hn hcheck => ⟨fun hclean => fabricAccess_read hrun hregion hready hopen hn hcheck hclean,
      fun hpoison hreq hlines => fabricAccess_poisoned hrun hregion hready hopen hn hcheck hpoison hreq hlines,
      fun hreq hlines hunc => fabricAccess_uncorrectable hrun hregion hready hopen hn hcheck hreq hlines hunc⟩,
    fun c d hrun hregion hready hopen hd hcheck hclean => fabricAccess_write hrun hregion hready hopen hd hcheck hclean,
    fun c op e hrun hregion hlen hcheck hreq => ⟨fun hready => fabricAccess_waits hrun hregion hlen hcheck hready, fun hready hfenced =>
      fabricAccess_errors hreq hrun (State.fabricRequest_fenced hregion hlen hcheck hready hfenced ..) rfl⟩,
    fun c op e hrun hreq hrunning hseqs hfenced hlen hcheck => ?_, fun d e hrun hregion hd hcheck hreq => ?_,
    fun n hrun hregion hn hcheck => ?_, fun w op e hrun hregion hmode hlen hcheck hreq => ?_,
    fun op e hrun hregion hup hover hlen hcheck hreq => ?_⟩
  · exact fabricAccess_completes (t := s.rdata []) hrun (congrArg Prod.fst (if_pos hlen)) rfl rfl
  · subst hreq
    obtain ⟨k, hregion, hready, hfenced⟩ := hfenced
    exact fabricAccess_aborts hrun hrunning hseqs hregion hready hfenced hlen hcheck
  · refine fabricAccess_errors hreq hrun ((State.fabricRequest_served (op := .write d) (fun h => hd (List.length_eq_zero_iff.1 h))
      (by rw [hregion]; simp) hcheck ..).trans (State.serveTarget_mem hregion (.inl rfl) ..)) ?_
    unfold State.memAccess
    rw [hregion]
    rfl
  · rcases hregion with hregion | ⟨p, hregion⟩
    · refine fabricAccess_completes (t := { s with out := { s.out with rdata := s.peek a.toNat n, err := false } }) hrun
        ((State.fabricRequest_served (op := .read n) hn (by rw [hregion]; simp) hcheck ..).trans
          ((State.serveTarget_mem hregion (.inl rfl) ..).trans ?_)) rfl rfl
      unfold State.memAccess
      rw [hregion]
      rfl
    · refine fabricAccess_completes (t := { s with out := { s.out with rdata := s.peek a.toNat n, err := false } }) hrun
        ((State.fabricRequest_served (op := .read n) hn (by rw [hregion]; simp) hcheck ..).trans
          ((State.serveTarget_mem hregion (.inr (.inl ⟨p, rfl⟩)) ..).trans ?_)) rfl rfl
      unfold State.memAccess
      rw [hregion]
      rfl
  · have hserve := (State.fabricRequest_served hlen (by rw [hregion]; simp) hcheck e v.val).trans
      (State.serveTarget_mem hregion (.inr (.inr (.inl ⟨w, rfl⟩))) ..)
    have hmem : (s.rdata []).memAccess (s.attrib req) a.toNat op e v.val = ((s.rdata []).count 0x2858 6, none) := by
      unfold State.memAccess
      rw [hregion]
      exact if_pos hmode
    rw [hmem] at hserve
    exact fabricAccess_errors hreq hrun hserve
      ⟨rfl, (((Counted.refl s).of_rep (t' := s.rdata []) rfl).and_count List.not_mem_nil).of_rep rfl, rfl⟩
  · have hserve := (State.fabricRequest_served hlen (by rw [hregion]; simp) hcheck e v.val).trans
      (State.serveTarget_mem hregion (.inr (.inr (.inr rfl))) ..)
    have hmem : (s.rdata []).memAccess (s.attrib req) a.toNat op e v.val = ((s.rdata []).count 0x2859 6, none) := by
      unfold State.memAccess
      rw [hregion]
      exact (if_neg (by simpa using hup)).trans (if_pos (Or.inr hover))
    rw [hmem] at hserve
    exact fabricAccess_errors hreq hrun hserve
      ⟨rfl, (((Counted.refl s).of_rep (t' := s.rdata []) rfl).and_count List.not_mem_nil).of_rep rfl, rfl⟩

end Machine
end Sys2Proof
end

section
/-!
SUPPORT. Rings (07): the gate of every operation, one ring's entry, and the result that software reads.
-/
namespace Sys2Proof
namespace Machine

variable {s : State}

/-! ### One ring's entry -/

theorem State.ring_of_put {t : State} {r : Nat} {d : Ring} (h : t.rg.ring = s.rg.ring.put r d) (k : Nat) :
    t.ring k = if k = r then d else s.ring k := by
  unfold State.ring
  rw [h, Tab.at_put]

theorem State.ring_same_of_put {t : State} {r : Nat} {d : Ring} (h : t.rg.ring = s.rg.ring.put r d) : t.ring r = d :=
  (State.ring_of_put h r).trans (if_pos rfl)

theorem State.ring_other_of_put {t : State} {r : Nat} {d : Ring} (h : t.rg.ring = s.rg.ring.put r d) (k : Nat) (hk : k ≠ r) : t.ring k = s.ring k :=
  (State.ring_of_put h k).trans (if_neg hk)

/-! ### The result word -/

theorem State.rgResult_eq (u : State) (req : Requester) (st : RgStatus) (v : Nat) : u.rgResult req st v =
    { u with rg := { u.rg with res := (u.rgResult req st v).rg.res }, out := { u.out with err := rgError st } } := by
  unfold State.rgResult
  cases softRequester req <;> rfl

theorem State.rgResult_ring (u : State) (req : Requester) (st : RgStatus) (v : Nat) : (u.rgResult req st v).rg.ring = u.rg.ring := by
  rw [State.rgResult_eq]

theorem State.rgResult_res (u : State) {req : Requester} {k : Nat} (h : softRequester req = some k) (st : RgStatus) (v : Nat) :
    (u.rgResult req st v).rg.res.at 0 k = rgCode st * 2 ^ 60 + v := by
  unfold State.rgResult
  rw [h]
  exact Tab.at_put_same ..

theorem State.rgResult_rep (u : State) (req : Requester) (st : RgStatus) (v : Nat) : (u.rgResult req st v).rep = u.rep := by
  rw [State.rgResult_eq]

/-! ### The gate -/

theorem State.ringGate_open {req : Requester} {r : Nat} (h : s.ringOpen req r) : s.ringGate req r = (s, none) := by
  obtain ⟨hin, hvalid, hdamaged, howner⟩ := h
  unfold State.ringGate
  simp [hin, hvalid, hdamaged, howner]

theorem State.ringGate_damaged {req : Requester} {r : Nat} (hin : s.ringIn (s.attrib req) r = true)
    (howner : (s.ring r).valid = true → (s.ring r).owner = s.attrib req) (h : (s.ring r).damaged = true) :
    s.ringGate req r = (s.count 0x2860 9, some .damaged) := by
  unfold State.ringGate
  cases hvalid : (s.ring r).valid <;> simp_all

theorem State.ringGate_invalid {req : Requester} {r : Nat} (hin : s.ringIn (s.attrib req) r = true) (h : (s.ring r).damaged = false)
    (hvalid : (s.ring r).valid = false) : s.ringGate req r = (s.count 0x2860 8, some .refused) := by
  unfold State.ringGate
  simp [hin, h, hvalid]

theorem State.ringGate_foreign {req : Requester} {r : Nat}
    (h : s.ringIn (s.attrib req) r = false ∨ ((s.ring r).valid = true ∧ (s.ring r).owner ≠ s.attrib req)) :
    s.ringGate req r = (s.violation req (s.attrib req) 8 (0x20000000 + r * 32) 3 32 (if (s.ring r).valid then (s.ring r).owner else 63) r, some .refused) := by
  unfold State.ringGate
  rcases h with h | ⟨hvalid, howner⟩
  · simp [h]
  · simp [hvalid, howner]

/-! ### Waiting blocks of a quoin -/

/-- What an answered wait does: the core goes on; another block has its answer already. -/
def State.answerOne (s : State) (p : Parked) : State :=
  match p.who with
  | .core c => s.updCore c.val NeuralCore.resume
  | _ => s

def State.metBy (s : State) (q : Nat) (p : Parked) : Bool := p.quoin == q && decide (p.thresh ≤ (s.quoin q).count)

theorem State.answerParked_def (s : State) (q : Nat) : s.answerParked q =
    (s.qn.parked.filter (s.metBy q)).foldl State.answerOne { s with qn := { s.qn with parked := s.qn.parked.filter (fun p => !s.metBy q p) } } := rfl

theorem State.answerParked_eq (s : State) (q : Nat) : s.answerParked q =
    { s with qn := { s.qn with parked := s.qn.parked.filter (fun p => !s.metBy q p) }, nc := { s.nc with core := (s.answerParked q).nc.core } } := by
  have hfold : ∀ (l : List Parked) (u : State), l.foldl State.answerOne u = { u with nc := { u.nc with core := (l.foldl State.answerOne u).nc.core } } := by
    intro l
    induction l with
    | nil => exact fun u => rfl
    | cons p l ih =>
      intro u
      have hone : u.answerOne p = { u with nc := { u.nc with core := (u.answerOne p).nc.core } } := by
        unfold State.answerOne
        split <;> rfl
      rw [List.foldl_cons, ih, hone]
  rw [State.answerParked_def, hfold]

theorem State.metBy_of_other {q : Nat} {p : Parked} (h : p.quoin ≠ q) : s.metBy q p = false := by simp [State.metBy, h]

/-- Where no wait of the quoin is met, nothing changes. -/
theorem State.answerParked_unmet {q : Nat} (h : ∀ p ∈ s.qn.parked, s.metBy q p = false) : s.answerParked q = s := by
  have hall : s.qn.parked.filter (fun p => !s.metBy q p) = s.qn.parked := List.filter_eq_self.2 fun p hp => by rw [h p hp]; rfl
  have hmet : s.qn.parked.filter (s.metBy q) = [] := List.filter_eq_nil_iff.2 fun p hp => by simp [h p hp]
  rw [State.answerParked_def, hmet, hall]
  rfl

theorem State.answerParked_idle {q : Nat} (h : ∀ p ∈ s.qn.parked, p.quoin ≠ q) : s.answerParked q = s :=
  State.answerParked_unmet fun p hp => State.metBy_of_other (h p hp)

/-! ### One quoin's entry -/

theorem State.quoin_of_put {t : State} {q : Nat} {x : Quoin} (h : t.qn.quoin = s.qn.quoin.put q x) (k : Nat) :
    t.quoin k = if k = q then x else s.quoin k := by
  unfold State.quoin
  rw [h, Tab.at_put]

theorem State.quoin_same_of_put {t : State} {q : Nat} {x : Quoin} (h : t.qn.quoin = s.qn.quoin.put q x) : t.quoin q = x :=
  (State.quoin_of_put h q).trans (if_pos rfl)

theorem State.quoin_other_of_put {t : State} {q : Nat} {x : Quoin} (h : t.qn.quoin = s.qn.quoin.put q x) (k : Nat) (hk : k ≠ q) : t.quoin k = s.quoin k :=
  (State.quoin_of_put h k).trans (if_neg hk)

/-- A notification enters the owner's queue, or its overflow is noted. -/
theorem State.notify_eq (s : State) (st q : Nat) : s.notify st q = { s with qn := { s.qn with nfy := (s.notify st q).qn.nfy }, rep := (s.notify st q).rep } := by
  unfold State.notify
  dsimp only
  split
  · rfl
  · split <;> rfl

/-- The quoin has its new count, and its owner has heard of it where NOTIFY is set. -/
def State.signalled (s : State) (q n : Nat) : State :=
  if (s.quoin q).notify then (s.putQuoin q { s.quoin q with count := (s.quoin q).count + n }).notify (s.quoin q).owner q
  else s.putQuoin q { s.quoin q with count := (s.quoin q).count + n }

theorem State.quoinUsable_ok {q : Nat} (hvalid : (s.quoin q).valid = true) (hdamaged : (s.quoin q).damaged = false) : s.quoinUsable q = (s, none) := by
  unfold State.quoinUsable
  simp [hvalid, hdamaged]

theorem State.signal_ok {q n : Nat} (hvalid : (s.quoin q).valid = true) (hdamaged : (s.quoin q).damaged = false)
    (hroom : (s.quoin q).count + n ≤ 0xFFFFFFFF) : s.signal q n = ((s.signalled q n).answerParked q, .ok) := by
  unfold State.signal
  rw [State.quoinUsable_ok hvalid hdamaged]
  exact if_neg (Nat.not_lt.2 hroom)

theorem State.signalled_quoin (s : State) (q n : Nat) :
    (s.signalled q n).qn.quoin = s.qn.quoin.put q { s.quoin q with count := (s.quoin q).count + n } := by
  unfold State.signalled
  split
  · rw [State.notify_eq]
    rfl
  · rfl

theorem State.signalled_eq (s : State) (q n : Nat) : s.signalled q n =
    { s with qn := { s.qn with quoin := (s.signalled q n).qn.quoin, nfy := (s.signalled q n).qn.nfy }, rep := (s.signalled q n).rep } := by
  unfold State.signalled
  split
  · rw [State.notify_eq]
    rfl
  · rfl

/-- A signal on a usable quoin below its top adds to its count; the waits that it meets go on. -/
theorem State.signal_spec {q n : Nat} (hvalid : (s.quoin q).valid = true) (hdamaged : (s.quoin q).damaged = false)
    (hroom : (s.quoin q).count + n ≤ 0xFFFFFFFF) : ∃ u, s.signal q n = (u, .ok)
      ∧ u.qn.quoin = s.qn.quoin.put q { s.quoin q with count := (s.quoin q).count + n }
      ∧ u = { s with qn := u.qn, nc := u.nc, rep := u.rep } := by
  refine ⟨_, State.signal_ok hvalid hdamaged hroom, ?_, ?_⟩
  · rw [State.answerParked_eq]
    exact s.signalled_quoin q n
  · rw [State.answerParked_eq]
    have h := s.signalled_eq q n
    generalize s.signalled q n = u at *
    rw [h]

end Machine
end Sys2Proof
end

section
/-!
PROOF. Claims on rings (07 R180-R186, Table 7-10): an open ring takes the claim, is full, or makes the requester wait.
-/
namespace Sys2Proof
namespace Machine

variable {s : State} {req : Requester} {r n : Nat}

/-- A length that the ring takes (07 R182). -/
def Ring.takesLength (d : Ring) (n : Nat) : Prop := ¬ (n = 0 ∨ n % 4 ≠ 0 ∨ d.size < n ∨ (d.recLog2 ≠ 0 ∧ n ≠ 2 ^ d.recLog2))

/-- The requester may claim: the length is one that the ring takes and no other producer has claims there. -/
structure State.mayClaim (s : State) (req : Requester) (r n : Nat) : Prop where
  gate : s.ringOpen req r
  length : (s.ring r).takesLength n
  alone : (s.ring r).ends = [] ∨ (s.ring r).producer = some req

theorem State.claimOn_gated (h : s.ringOpen req r) (retry : Bool) : s.claimOn req r n retry =
    (let d := s.ring r
    if n = 0 ∨ n % 4 ≠ 0 ∨ d.size < n ∨ (d.recLog2 ≠ 0 ∧ n ≠ 2 ^ d.recLog2) then (s.count 0x2860 8, .refused, 0)
    else if d.ends ≠ [] ∧ d.producer ≠ some req then (s.count 0x2860 7, .otherProducer, 0)
    else if d.fill + n ≤ d.size then (s.putRing r (d.grant req n), .ok, d.claim)
    else if d.policy = 0 then ((if retry then s else s.count 0x2860 6), .wouldBlock, 0)
    else if d.policy = 2 ∧ d.recLog2 ≠ 0 ∧ d.need n * 2 ^ d.recLog2 ≤ d.content then
      ((s.countN 0x2860 5 (d.need n)).putRing r ({ d with tail := (d.tail + d.need n * 2 ^ d.recLog2) % 2 ^ 32 }.grant req n), .ok, d.claim)
    else (s.count (0x2860 + 0) (1 + d.cls), .full, 0)) := by
  unfold State.claimOn
  rw [State.ringGate_open h]

theorem State.claimOn_short (h : s.mayClaim req r n) (retry : Bool) : s.claimOn req r n retry =
    (let d := s.ring r
    if d.fill + n ≤ d.size then (s.putRing r (d.grant req n), .ok, d.claim)
    else if d.policy = 0 then ((if retry then s else s.count 0x2860 6), .wouldBlock, 0)
    else if d.policy = 2 ∧ d.recLog2 ≠ 0 ∧ d.need n * 2 ^ d.recLog2 ≤ d.content then
      ((s.countN 0x2860 5 (d.need n)).putRing r ({ d with tail := (d.tail + d.need n * 2 ^ d.recLog2) % 2 ^ 32 }.grant req n), .ok, d.claim)
    else (s.count 0x2860 (1 + d.cls), .full, 0)) := by
  rw [State.claimOn_gated h.gate]
  refine (if_neg h.length).trans (if_neg fun hother => ?_)
  rcases h.alone with hends | hprod
  · exact hother.1 hends
  · exact hother.2 hprod

theorem State.claimOn_fits (h : s.mayClaim req r n) (hfit : (s.ring r).fill + n ≤ (s.ring r).size) (retry : Bool) :
    s.claimOn req r n retry = (s.putRing r ((s.ring r).grant req n), .ok, (s.ring r).claim) :=
  (State.claimOn_short h retry).trans (if_pos hfit)

theorem State.claimOn_blocks (h : s.mayClaim req r n) (hfull : (s.ring r).size < (s.ring r).fill + n) (hpol : (s.ring r).policy = 0) (retry : Bool) :
    s.claimOn req r n retry = ((if retry then s else s.count 0x2860 6), .wouldBlock, 0) :=
  (State.claimOn_short h retry).trans ((if_neg (Nat.not_le.2 hfull)).trans (if_pos hpol))

theorem State.claimOn_full (h : s.mayClaim req r n) (hfull : (s.ring r).size < (s.ring r).fill + n) (hpol : (s.ring r).policy = 1) (retry : Bool) :
    s.claimOn req r n retry = (s.count 0x2860 (1 + (s.ring r).cls), .full, 0) :=
  (State.claimOn_short h retry).trans ((if_neg (Nat.not_le.2 hfull)).trans ((if_neg (by simp [hpol])).trans (if_neg (by simp [hpol]))))

theorem State.claimOn_drops (h : s.mayClaim req r n) (hfull : (s.ring r).size < (s.ring r).fill + n) (hpol : (s.ring r).policy = 2)
    (hrec : (s.ring r).recLog2 ≠ 0) (hneed : (s.ring r).need n * 2 ^ (s.ring r).recLog2 ≤ (s.ring r).content) (retry : Bool) :
    s.claimOn req r n retry = ((s.countN 0x2860 5 ((s.ring r).need n)).putRing r
      ({ s.ring r with tail := ((s.ring r).tail + (s.ring r).need n * 2 ^ (s.ring r).recLog2) % 2 ^ 32 }.grant req n), .ok, (s.ring r).claim) :=
  (State.claimOn_short h retry).trans ((if_neg (Nat.not_le.2 hfull)).trans ((if_neg (by simp [hpol])).trans (if_pos ⟨hpol, hrec, hneed⟩)))

theorem State.claimOn_length (h : s.ringOpen req r) (hlen : ¬ (s.ring r).takesLength n) (retry : Bool) :
    s.claimOn req r n retry = (s.count 0x2860 8, .refused, 0) :=
  (State.claimOn_gated h retry).trans (if_pos (not_not.1 hlen))

theorem State.claimOn_other (h : s.ringOpen req r) (hlen : (s.ring r).takesLength n) (hends : (s.ring r).ends ≠ []) (hprod : (s.ring r).producer ≠ some req)
    (retry : Bool) : s.claimOn req r n retry = (s.count 0x2860 7, .otherProducer, 0) :=
  (State.claimOn_gated h retry).trans ((if_neg hlen).trans (if_pos ⟨hends, hprod⟩))

theorem rgWord_ok (v : Nat) : rgCode .ok * 2 ^ 60 + v = v := by simp [rgCode]
theorem rgWord_full : rgCode .full * 2 ^ 60 + 0 = 2 ^ 60 := by simp [rgCode]
theorem rgWord_wouldBlock : rgCode .wouldBlock * 2 ^ 60 + 0 = 2 * 2 ^ 60 := by simp [rgCode]

theorem Ring.grant_eq (d : Ring) (req : Requester) (n : Nat) : d.grant req n =
    { d with claim := (d.claim + n) % 2 ^ 32, producer := some req, ends := d.ends ++ [(d.claim + n) % 2 ^ 32]
             high := max d.high (((d.claim + n) % 2 ^ 32 + 2 ^ 32 - d.tail) % 2 ^ 32) } := by
  unfold Ring.grant Ring.fill
  rfl

theorem Ring.grant_fields (d : Ring) (req : Requester) (n : Nat) : (d.grant req n).tail = d.tail ∧ (d.grant req n).claim = (d.claim + n) % 2 ^ 32
    ∧ (d.grant req n).ends = d.ends ++ [(d.claim + n) % 2 ^ 32] ∧ (d.grant req n).producer = some req ∧ (d.grant req n).head = d.head :=
  ⟨rfl, rfl, rfl, rfl, rfl⟩

theorem ringClaim_answers {r : BitVec 16} {n : BitVec 32} {u : State} {st : RgStatus} {start : Nat} (hreq : coreOf req = none)
    (hclaim : s.claimOn req r.toNat n.toNat false = (u, st, start)) (hst : st ≠ .wouldBlock ∨ softRequester req ≠ none) {post : State → Prop}
    (hpost : post (u.rgResult req st start)) : Completes (.ringClaim req r n) s post := by
  refine ⟨_, congrArg Host.Outcome.next ?_, hpost⟩
  rw [hreq]
  dsimp only
  rw [hclaim]
  exact if_neg fun h => hst.elim (fun hst => hst h.1) fun hsoft => hsoft h.2

theorem ringClaim_parks {r : BitVec 16} {n : BitVec 32} {u : State} {start : Nat} (hreq : coreOf req = none)
    (hclaim : s.claimOn req r.toNat n.toNat false = (u, .wouldBlock, start)) (hsoft : softRequester req = none) {post : State → Prop}
    (hpost : post { u with rg := { u.rg with blocked := u.rg.blocked ++ [{ ring := r.toNat, req := req, len := n.toNat }] } }) :
    Completes (.ringClaim req r n) s post := by
  refine ⟨_, congrArg Host.Outcome.next ?_, hpost⟩
  rw [hreq]
  dsimp only
  rw [hclaim]
  exact if_pos ⟨rfl, hsoft⟩

/-- A refused claim is counted and answered with an error. -/
theorem ringClaim_refused {r : BitVec 16} {n : BitVec 32} {i j start : Nat} {st : RgStatus} (hreq : coreOf req = none)
    (hclaim : s.claimOn req r.toNat n.toNat false = (s.count i j, st, start)) (hst : rgError st = true) :
    Completes (.ringClaim req r n) s (fun t =>
      Counted s t [key i j] ∧ t = { s with rg := { s.rg with res := t.rg.res }, rep := t.rep, out := { s.out with err := true } }) := by
  refine ringClaim_answers hreq hclaim (.inl fun h => by rw [h] at hst; cases hst) ⟨(Counted.count s).of_rep (State.rgResult_rep ..), ?_⟩
  rw [State.rgResult_eq, hst]
  rfl

theorem State.countN_counter (s : State) {i j m : Nat} (hown : key i j ∉ ownCounters) (h : (s.counter i j).toNat + m < 0xFFFFFFFF) :
    ((s.countN i j m).counter i j).toNat = (s.counter i j).toNat + m := by
  unfold State.countN
  rw [State.report_counter _ _ _ _ hown]
  have hv : (s.rep.cnt.at 0 (key i j)).toNat + m < 0xFFFFFFFF := h
  dsimp only
  split
  · next hzero =>
    rcases hzero with rfl | htop
    · rfl
    · omega
  · rw [Tab.at_put_same, BitVec.toNat_ofNat, Nat.mod_eq_of_lt (by omega)]
    rfl

/-- The oldest records have given way to a claim: `m` of them are counted, and TAIL stands behind them. -/
theorem ringClaim_dropped {r : BitVec 16} {n : BitVec 32} {m tail start : Nat} (hreq : coreOf req = none)
    (hclaim : s.claimOn req r.toNat n.toNat false =
      ((s.countN 0x2860 5 m).putRing r.toNat ({ s.ring r.toNat with tail := tail }.grant req n.toNat), .ok, start)) :
    Completes (.ringClaim req r n) s (fun t =>
      (t.ring r.toNat).tail = tail ∧ (t.ring r.toNat).claim = ((s.ring r.toNat).claim + n.toNat) % 2 ^ 32
      ∧ (t.ring r.toNat).ends = (s.ring r.toNat).ends ++ [((s.ring r.toNat).claim + n.toNat) % 2 ^ 32]
      ∧ (t.ring r.toNat).producer = some req ∧ (t.ring r.toNat).head = (s.ring r.toNat).head ∧ (∀ k, k ≠ r.toNat → t.ring k = s.ring k)
      ∧ ((s.counter 0x2860 5).toNat + m < 0xFFFFFFFF → (t.counter 0x2860 5).toNat = (s.counter 0x2860 5).toNat + m)
      ∧ t = { s with rg := { s.rg with ring := t.rg.ring, res := t.rg.res }, rep := t.rep, out := { s.out with err := false } }) := by
  refine ringClaim_answers hreq hclaim (.inl (by decide)) ?_
  obtain ⟨htail, hclaim, hends, hprod, hhead⟩ := Ring.grant_fields { s.ring r.toNat with tail := tail } req n.toNat
  generalize { s.ring r.toNat with tail := tail }.grant req n.toNat = d at *
  have hput := State.rgResult_ring ((s.countN 0x2860 5 m).putRing r.toNat d) req .ok start
  have hself := State.ring_same_of_put (s := s) hput
  refine ⟨?_, ?_, ?_, ?_, ?_, State.ring_other_of_put hput, fun htop => ?_, ?_⟩
  · rw [hself, htail]
  · rw [hself, hclaim]
  · rw [hself, hends]
  · rw [hself, hprod]
  · rw [hself, hhead]
  · unfold State.counter
    rw [State.rgResult_rep]
    exact s.countN_counter (by decide) htop
  · rw [State.rgResult_eq]
    rfl

/-- A waiting claim that is not yet granted stays as it is; one that fits is granted. -/
theorem blockedClaimRetry_eq {r : BitVec 16} {b : BlockedClaim} (hfind : s.rg.blocked.find? (fun x => x.ring == r.toNat) = some b)
    (hreq : coreOf b.req = none) {u : State} {start : Nat} (hclaim : s.claimOn b.req b.ring b.len true = (u, .ok, start)) :
    exec (.blockedClaimRetry r) s = .next { u with rg := { u.rg with blocked := u.rg.blocked.erase b } } := by
  refine congrArg Host.Outcome.next ?_
  rw [hfind]
  dsimp only
  rw [hclaim]
  dsimp only
  rw [hreq]

theorem blockedClaimRetry_waits {r : BitVec 16} {b : BlockedClaim} (hfind : s.rg.blocked.find? (fun x => x.ring == r.toNat) = some b)
    {u : State} {start : Nat} (hclaim : s.claimOn b.req b.ring b.len true = (u, .wouldBlock, start)) : exec (.blockedClaimRetry r) s = .next s := by
  refine congrArg Host.Outcome.next ?_
  rw [hfind]
  dsimp only
  rw [hclaim]

/-- Settles O30: the cases of a claim on an open ring, and the retry of the oldest waiting one. -/
theorem ringClaims : Obligations.RingClaims := by
  intro s req r n hreq hopen hn hn4 hsize hrec halone
  have hlength : (s.ring r.toNat).takesLength n.toNat := by
    have hpos : n.toNat ≠ 0 := fun h => hn (BitVec.eq_of_toNat_eq h)
    rintro (h | h | h | ⟨h, h'⟩)
    · exact hpos h
    · exact h hn4
    · exact absurd hsize (Nat.not_le.2 h)
    · exact hrec.elim h h'
  have hmay : s.mayClaim req r.toNat n.toNat := ⟨hopen, hlength, halone⟩
  refine ⟨fun hfit => ?_, fun hfull hpol hcls => ?_, fun hfull hpol => ⟨fun k hk => ?_, fun hsoft => ?_⟩, fun hfull hpol hrl hneed => ?_,
    fun m hm => ?_, fun q hq hst hends hprod => ?_, fun b hfind hb => ⟨fun hfit => ?_, fun hfull hpol => ?_⟩, fun hfind => ?_⟩
  · refine ringClaim_answers hreq (State.claimOn_fits hmay hfit false) (.inl (by decide)) ⟨?_, fun k hk => ?_, fun k hk => ?_, ?_⟩
    · rw [State.ring_same_of_put (State.rgResult_ring ..), Ring.grant_eq]
    · exact State.ring_other_of_put (State.rgResult_ring ..) k hk
    · rw [State.rgResult_res _ hk]
      exact rgWord_ok _
    · rw [State.rgResult_eq]
      rfl
  · refine ringClaim_answers hreq (State.claimOn_full hmay hfull hpol false) (.inl (by decide)) ⟨(Counted.count s).of_rep (State.rgResult_rep ..), fun k hk => ?_, ?_⟩
    · rw [State.rgResult_res _ hk]
      exact rgWord_full
    · rw [State.rgResult_eq]
      rfl
  · refine ringClaim_answers hreq (State.claimOn_blocks hmay hfull hpol false) (.inr (by simp [hk]))
      ⟨(Counted.count s).of_rep (State.rgResult_rep ..), ?_, ?_⟩
    · rw [State.rgResult_res _ hk]
      exact rgWord_wouldBlock
    · rw [State.rgResult_eq]
      rfl
  · exact ringClaim_parks hreq (State.claimOn_blocks hmay hfull hpol false) hsoft ⟨(Counted.count s).of_rep rfl, rfl⟩
  · exact ringClaim_dropped hreq (State.claimOn_drops hmay hfull hpol hrl hneed false)
  · refine ringClaim_refused hreq (State.claimOn_length hopen (not_not.2 ?_) false) rfl
    exact hm.imp_left fun h => by rw [h]; rfl
  · obtain ⟨hin, hvalid, hdamaged, howner⟩ := hopen
    have hopen' : s.ringOpen q r.toNat := ⟨by rwa [hst], hvalid, hdamaged, by rwa [hst]⟩
    exact ringClaim_refused hq (State.claimOn_other hopen' hlength hends hprod false) rfl
  · subst hb
    refine ⟨_, blockedClaimRetry_eq hfind hreq (State.claimOn_fits hmay hfit true), ?_⟩
    obtain ⟨-, hclaim, -, hprod, -⟩ := (s.ring r.toNat).grant_fields req n.toNat
    refine ⟨?_, ?_, State.ring_other_of_put rfl, rfl⟩
    · rw [State.ring_same_of_put (s := s) (d := (s.ring r.toNat).grant req n.toNat) rfl, hclaim]
    · rw [State.ring_same_of_put (s := s) (d := (s.ring r.toNat).grant req n.toNat) rfl, hprod]
  · subst hb
    exact ⟨_, blockedClaimRetry_waits hfind (State.claimOn_blocks hmay hfull hpol true), rfl⟩
  · refine ⟨s, congrArg Host.Outcome.next ?_, rfl⟩
    rw [hfind]

end Machine
end Sys2Proof
end

section
/-!
PROOF. Commits, abandons, releases and descriptors of rings (07 R183-R192, Table 7-10).
-/
namespace Sys2Proof
namespace Machine

variable {s : State} {req : Requester} {r : Nat}

/-! ### The three operations behind an open gate -/

/-- The ring after its oldest claim is committed. -/
def Ring.committed (d : Ring) (e : Nat) (rest : List Nat) : Ring :=
  { d with head := e, ends := rest, producer := if rest = [] then none else d.producer }

theorem State.commitOn_open (h : s.ringOpen req r) {e : Nat} {rest : List Nat} (hends : (s.ring r).ends = e :: rest)
    (hprod : (s.ring r).producer = some req) : s.commitOn req r =
    ((if (s.ring r).pqEn then (((s.putRing r ((s.ring r).committed e rest)).ringWatch r).signal (s.ring r).pquoin 1).1
      else (s.putRing r ((s.ring r).committed e rest)).ringWatch r), .ok) := by
  unfold State.commitOn
  rw [State.ringGate_open h]
  dsimp only
  rw [hends]
  exact if_neg (not_not.2 hprod)

theorem State.commitOn_without (h : s.ringOpen req r) (hnone : (s.ring r).ends = [] ∨ (s.ring r).producer ≠ some req) :
    s.commitOn req r = (s.count 0x2860 8, .refused) := by
  unfold State.commitOn
  rw [State.ringGate_open h]
  dsimp only
  cases hends : (s.ring r).ends with
  | nil => rfl
  | cons e rest => exact if_pos (hnone.resolve_left (by simp [hends]))

theorem State.abandonOn_open (h : s.ringOpen req r) (hends : (s.ring r).ends ≠ []) (hprod : (s.ring r).producer = some req) :
    s.abandonOn req r = (s.putRing r { s.ring r with claim := (s.ring r).head, ends := [], producer := none }, .ok) := by
  unfold State.abandonOn
  rw [State.ringGate_open h]
  exact if_neg (by simp [hends, hprod])

theorem State.abandonOn_without (h : s.ringOpen req r) (hnone : (s.ring r).ends = [] ∨ (s.ring r).producer ≠ some req) :
    s.abandonOn req r = (s.count 0x2860 8, .refused) := by
  unfold State.abandonOn
  rw [State.ringGate_open h]
  exact if_pos hnone

theorem State.releaseOn_open (h : s.ringOpen req r) {n : Nat} (hn : n ≠ 0) (hn4 : n % 4 = 0) (hcontent : n ≤ (s.ring r).content) :
    s.releaseOn req r n =
    ((if (s.ring r).cqEn then ((s.putRing r { s.ring r with tail := ((s.ring r).tail + n) % 2 ^ 32 }).signal (s.ring r).cquoin 1).1
      else s.putRing r { s.ring r with tail := ((s.ring r).tail + n) % 2 ^ 32 }), .ok) := by
  unfold State.releaseOn
  rw [State.ringGate_open h]
  exact if_neg (by simp [hn, hn4, hcontent])

theorem State.releaseOn_beyond (h : s.ringOpen req r) {n : Nat} (hn : n = 0 ∨ n % 4 ≠ 0 ∨ (s.ring r).content < n) :
    s.releaseOn req r n = (s.count 0x2860 8, .refused) := by
  unfold State.releaseOn
  rw [State.ringGate_open h]
  exact if_pos hn

/-! ### The commands of a requester that is no core -/

section
variable {k : BitVec 16} {u : State} {st : RgStatus} {post : State → Prop}

theorem ringCommit_answers (hreq : coreOf req = none) (h : s.commitOn req k.toNat = (u, st))
    (hpost : post (u.rgResult req st (u.ring k.toNat).head)) : Completes (.ringCommit req k) s post := by
  refine ⟨_, congrArg Host.Outcome.next ?_, hpost⟩
  rw [hreq]
  dsimp only
  rw [h]

theorem ringAbandon_answers (hreq : coreOf req = none) (h : s.abandonOn req k.toNat = (u, st))
    (hpost : post (u.rgResult req st (u.ring k.toNat).head)) : Completes (.ringAbandon req k) s post := by
  refine ⟨_, congrArg Host.Outcome.next ?_, hpost⟩
  rw [hreq]
  dsimp only
  rw [h]

theorem ringRelease_answers {n : BitVec 32} (hreq : coreOf req = none) (h : s.releaseOn req k.toNat n.toNat = (u, st))
    (hpost : post (u.rgResult req st (u.ring k.toNat).head)) : Completes (.ringRelease req k n) s post := by
  refine ⟨_, congrArg Host.Outcome.next ?_, hpost⟩
  rw [hreq]
  dsimp only
  rw [h]

end

/-- An operation refused with counter `j` of the rings. -/
theorem State.rgResult_counted {st : RgStatus} (hst : rgError st = true) (i j v : Nat) (req : Requester) :
    Counted s ((s.count i j).rgResult req st v) [key i j]
      ∧ (s.count i j).rgResult req st v = { s with
        rg := { s.rg with res := ((s.count i j).rgResult req st v).rg.res }, rep := ((s.count i j).rgResult req st v).rep
        out := { s.out with err := true } } := by
  refine ⟨(Counted.count s).of_rep (State.rgResult_rep ..), ?_⟩
  rw [State.rgResult_eq, hst]
  rfl

/-- The four operations answer alike where the gate of the ring is shut. -/
theorem ringOp_shut (hreq : coreOf req = none) {k : BitVec 16} (n : BitVec 32) {u : State} {st : RgStatus} (hgate : s.ringGate req k.toNat = (u, some st))
    (hst : st = .damaged ∨ st = .refused) {post : State → Prop} (hpost : ∀ v, post (u.rgResult req st v)) :
    ∀ i ∈ [Instr.ringClaim req k n, .ringCommit req k, .ringAbandon req k, .ringRelease req k n], Completes i s post := by
  intro i hi
  simp only [List.mem_cons, List.not_mem_nil, or_false] at hi
  rcases hi with rfl | rfl | rfl | rfl
  · refine ringClaim_answers (u := u) (st := st) (start := 0) hreq ?_ (.inl fun h => by rw [h] at hst; simp at hst) (hpost _)
    unfold State.claimOn
    rw [hgate]
  · refine ringCommit_answers (u := u) (st := st) hreq ?_ (hpost _)
    unfold State.commitOn
    rw [hgate]
  · refine ringAbandon_answers (u := u) (st := st) hreq ?_ (hpost _)
    unfold State.abandonOn
    rw [hgate]
  · refine ringRelease_answers (u := u) (st := st) hreq ?_ (hpost _)
    unfold State.releaseOn
    rw [hgate]

theorem State.ringWatch_eq (s : State) (r : Nat) : s.ringWatch r = { s with rep := (s.ringWatch r).rep } :=
  State.foldl_onlyRep (f := fun s i => s.occur (512 + i)) (fun _ _ => rfl) _ s

/-- A release that the quoin of the consumers hears of, and a commit that the producers' one hears of: the ring has its new entry, and the quoin
counts one more. -/
theorem State.signal_one {d : Ring} {q : Nat} {u : State} (hu : u = { s with rg := { s.rg with ring := s.rg.ring.put r d }, rep := u.rep })
    (hvalid : (s.quoin q).valid = true) (hdamaged : (s.quoin q).damaged = false) (hroom : (s.quoin q).count < 0xFFFFFFFF) :
    (u.signal q 1).1.rg.ring = s.rg.ring.put r d
    ∧ (u.signal q 1).1.qn.quoin = s.qn.quoin.put q { s.quoin q with count := (s.quoin q).count + 1 }
    ∧ (u.signal q 1).1 = { s with rg := { s.rg with ring := (u.signal q 1).1.rg.ring }, qn := (u.signal q 1).1.qn, nc := (u.signal q 1).1.nc
                                  rep := (u.signal q 1).1.rep } := by
  have hquoin : u.quoin q = s.quoin q := by rw [hu]; rfl
  have hqn : u.qn = s.qn := by rw [hu]
  obtain ⟨t, ht, hput, hframe⟩ := State.signal_spec (s := u) (q := q) (n := 1) (by rwa [hquoin]) (by rwa [hquoin]) (by rw [hquoin]; exact hroom)
  rw [hquoin, hqn] at hput
  rw [ht]
  refine ⟨?_, hput, ?_⟩
  · rw [hframe, hu]
  · rw [hframe, hu]

/-- Settles O31: an open ring takes the operation or counts why not; a shut gate answers every operation alike. -/
theorem ringMoves : Obligations.RingMoves := by
  intro s req r hreq
  refine ⟨fun hopen => ⟨fun e rest hends hprod hpq => ?_, fun e rest hends hprod hpq hvalid hdamaged hroom => ?_, fun hnone => ⟨?_, ?_⟩,
      fun hends hprod => ?_, fun n hn hn4 hcontent hcq => ?_, fun n hn hn4 hcontent hcq hvalid hdamaged hroom => ?_, fun n hn => ?_⟩,
    fun n i hi => ⟨fun hin howner => ⟨fun hdamaged => ?_, fun hdamaged hvalid => ?_⟩, fun hforeign hst hroom => ?_⟩,
    fun x k hin => ⟨fun hlen hacc => ?_, fun hbad => ?_⟩⟩
  · have hcommit := State.commitOn_open hopen hends hprod
    simp only [hpq, Bool.false_eq_true, if_false] at hcommit
    refine ringCommit_answers hreq hcommit ?_
    have hwatch := State.ringWatch_eq
      (s.putRing r.toNat ((s.ring r.toNat).committed e rest)) r.toNat
    generalize State.ringWatch _ _ = u at hwatch ⊢
    have hput : u.rg.ring = s.rg.ring.put r.toNat ((s.ring r.toNat).committed e rest) := by rw [hwatch]; rfl
    have hput' := (u.rgResult_ring req .ok (u.ring r.toNat).head).trans hput
    refine ⟨State.ring_same_of_put hput', State.ring_other_of_put hput', fun k hk => ?_, ?_⟩
    · rw [State.rgResult_res _ hk, State.ring_same_of_put hput]
      exact rgWord_ok e
    · rw [State.rgResult_eq, hwatch]
      rfl
  · have hcommit := State.commitOn_open hopen hends hprod
    simp only [hpq, if_true] at hcommit
    refine ringCommit_answers hreq hcommit ?_
    have hwatch := State.ringWatch_eq
      (s.putRing r.toNat ((s.ring r.toNat).committed e rest)) r.toNat
    generalize State.ringWatch _ _ = u at hwatch ⊢
    obtain ⟨hring, hquoin, hframe⟩ := State.signal_one (s := s) hwatch hvalid hdamaged hroom
    generalize (u.signal (s.ring r.toNat).pquoin 1).1 = t at *
    have hring' := (t.rgResult_ring req .ok (t.ring r.toNat).head).trans hring
    have hquoin' : (t.rgResult req .ok (t.ring r.toNat).head).qn.quoin = _ := (congrArg (fun t : State => t.qn.quoin) (State.rgResult_eq ..)).trans hquoin
    refine ⟨?_, State.ring_other_of_put hring', State.quoin_same_of_put hquoin', State.quoin_other_of_put hquoin', ?_⟩
    · rw [State.ring_same_of_put hring']
      rfl
    · rw [State.rgResult_eq, hframe]
      rfl
  · exact ringCommit_answers hreq (State.commitOn_without hopen hnone) (State.rgResult_counted rfl ..)
  · exact ringAbandon_answers hreq (State.abandonOn_without hopen hnone) (State.rgResult_counted rfl ..)
  · refine ringAbandon_answers hreq (State.abandonOn_open hopen hends hprod) ?_
    refine ⟨State.ring_same_of_put (State.rgResult_ring ..), State.ring_other_of_put (State.rgResult_ring ..), ?_⟩
    rw [State.rgResult_eq]
    rfl
  · have hn0 : n.toNat ≠ 0 := fun h => hn (BitVec.eq_of_toNat_eq h)
    have hrelease := State.releaseOn_open hopen hn0 hn4 hcontent
    rw [hcq] at hrelease
    refine ringRelease_answers hreq hrelease ?_
    refine ⟨State.ring_same_of_put (State.rgResult_ring ..), State.ring_other_of_put (State.rgResult_ring ..), ?_⟩
    rw [State.rgResult_eq]
    rfl
  · have hn0 : n.toNat ≠ 0 := fun h => hn (BitVec.eq_of_toNat_eq h)
    have hrelease := State.releaseOn_open hopen hn0 hn4 hcontent
    rw [if_pos hcq] at hrelease
    refine ringRelease_answers hreq hrelease ?_
    obtain ⟨hring, hquoin, hframe⟩ := State.signal_one (s := s) (r := r.toNat)
      (u := s.putRing r.toNat { s.ring r.toNat with tail := ((s.ring r.toNat).tail + n.toNat) % 2 ^ 32 }) rfl hvalid hdamaged hroom
    generalize (State.signal _ (s.ring r.toNat).cquoin 1).1 = t at *
    have hring' := (t.rgResult_ring req .ok (t.ring r.toNat).head).trans hring
    have hquoin' : (t.rgResult req .ok (t.ring r.toNat).head).qn.quoin = _ := (congrArg (fun t : State => t.qn.quoin) (State.rgResult_eq ..)).trans hquoin
    refine ⟨State.ring_same_of_put hring', State.ring_other_of_put hring', State.quoin_same_of_put hquoin', State.quoin_other_of_put hquoin', ?_⟩
    rw [State.rgResult_eq, hframe]
    rfl
  · refine ringRelease_answers hreq (State.releaseOn_beyond hopen (hn.imp_left fun h => ?_)) (State.rgResult_counted rfl ..)
    rw [h]
    rfl
  · exact ringOp_shut hreq n (State.ringGate_damaged hin howner hdamaged) (.inl rfl) (fun v => State.rgResult_counted rfl ..) i hi
  · exact ringOp_shut hreq n (State.ringGate_invalid hin hdamaged hvalid) (.inr rfl) (fun v => State.rgResult_counted rfl ..) i hi
  · obtain ⟨u, hu, hcount, -, hframe⟩ := State.violation_spec (s := s) hroom hst (cause := 8) (by decide) req (0x20000000 + r.toNat * 32) 3 32
      (if (s.ring r.toNat).valid then (s.ring r.toNat).owner else 63) r.toNat
    have hgate := State.ringGate_foreign hforeign
    rw [hu] at hgate
    refine ringOp_shut hreq n hgate (.inr rfl) (fun v => ⟨hcount.of_rep (State.rgResult_rep ..), ?_⟩) i hi
    rw [State.rgResult_eq, hframe]
    rfl
  · refine ⟨_, congrArg Host.Outcome.next ((if_neg (by simp [hin])).trans (if_pos ⟨hlen, hacc⟩)), ?_⟩
    exact ⟨State.ring_same_of_put rfl, State.ring_other_of_put rfl, rfl⟩
  · refine ⟨_, congrArg Host.Outcome.next ((if_neg (by simp [hin])).trans (if_neg fun h => ?_)), (Counted.count s).of_rep rfl, rfl⟩
    rcases hbad with hlen | hacc
    · exact hlen h.1
    · exact absurd h.2 (by simp [hacc])

end Machine
end Sys2Proof
end

section
/-!
PROOF. Quoins (07 R193-R202): the gate, the four operations, direct writes and the notification queues.
-/
namespace Sys2Proof
namespace Machine

variable {s : State} {req : Requester} {q : Nat}

/-! ### The gate and the result word -/

theorem State.quoinGate_open (h : s.quoinOpen req q) : s.quoinGate req q = (s, none) := by
  obtain ⟨hin, hvalid, hdamaged, howner⟩ := h
  refine (if_pos ?_).trans (State.quoinUsable_ok hvalid hdamaged)
  simp [hin, howner]

theorem State.quoinGate_unusable (hin : s.quoinIn (s.attrib req) q = true) (howner : (s.quoin q).valid = true → (s.quoin q).owner = s.attrib req)
    (hbad : (s.quoin q).damaged = true ∨ (s.quoin q).valid = false) :
    ∃ st, qnError st = true ∧ s.quoinGate req q = (s.count 0x2861 2, some st) := by
  have hpass : s.quoinGate req q = s.quoinUsable q := if_pos (by cases hvalid : (s.quoin q).valid <;> simp_all)
  rw [hpass]
  unfold State.quoinUsable
  dsimp only
  by_cases hdamaged : (s.quoin q).damaged = true
  · exact ⟨.damaged, rfl, if_pos hdamaged⟩
  · exact ⟨.refused, rfl, (if_neg hdamaged).trans (if_pos (by simp [hbad.resolve_left hdamaged]))⟩

theorem State.quoinGate_foreign (h : s.quoinIn (s.attrib req) q = false ∨ ((s.quoin q).valid = true ∧ (s.quoin q).owner ≠ s.attrib req)) :
    s.quoinGate req q = (s.violation req (s.attrib req) 9 (0x20200000 + q * 8) 4 8 (if (s.quoin q).valid then (s.quoin q).owner else 63) q, some .refused) := by
  refine if_neg ?_
  rcases h with h | ⟨hvalid, howner⟩
  · simp [h]
  · simp [hvalid, howner]

theorem State.qnResult_eq (u : State) (req : Requester) (q : Nat) (st : QnStatus) : u.qnResult req q st =
    { u with qn := { u.qn with res := (u.qnResult req q st).qn.res }, out := { u.out with err := qnError st } } := by
  unfold State.qnResult
  cases softRequester req <;> rfl

theorem State.qnResult_res (u : State) {k : Nat} (h : softRequester req = some k) (q : Nat) (st : QnStatus) :
    (u.qnResult req q st).qn.res.at 0 k = qnCode st * 2 ^ 60 + (u.quoin q).count := by
  unfold State.qnResult
  dsimp only
  rw [h]
  exact Tab.at_put_same ..

theorem State.qnResult_deaf (u : State) (h : softRequester req = none) (q : Nat) (st : QnStatus) :
    u.qnResult req q st = { u with out := { u.out with err := qnError st } } := by
  unfold State.qnResult
  dsimp only
  rw [h]

theorem State.qnResult_quoin (u : State) (req : Requester) (q : Nat) (st : QnStatus) : (u.qnResult req q st).qn.quoin = u.qn.quoin := by
  rw [State.qnResult_eq]

theorem State.qnResult_nfy (u : State) (req : Requester) (q : Nat) (st : QnStatus) : (u.qnResult req q st).qn.nfy = u.qn.nfy := by
  rw [State.qnResult_eq]

theorem State.qnResult_rep (u : State) (req : Requester) (q : Nat) (st : QnStatus) : (u.qnResult req q st).rep = u.rep := by
  rw [State.qnResult_eq]

theorem qnWord_ok (v : Nat) : qnCode .ok * 2 ^ 60 + v = v := by simp [qnCode]
theorem qnWord_notMet (v : Nat) : qnCode .notMet * 2 ^ 60 + v = 2 ^ 60 + v := by simp [qnCode]

/-! ### The commands of a requester that is no core -/

section
variable {k : BitVec 12} {n : BitVec 32} {u : State} {st : QnStatus} {post : State → Prop}

theorem quoinSignal_answers (hreq : coreOf req = none) (h : s.signalBy req k.toNat n.toNat = (u, st))
    (hpost : post (u.qnResult req k.toNat st)) : Completes (.quoinSignal req k n) s post := by
  refine ⟨_, congrArg Host.Outcome.next ?_, hpost⟩
  rw [hreq]
  dsimp only
  rw [h]

theorem quoinReset_answers (hreq : coreOf req = none) (h : s.resetBy req k.toNat n.toNat = (u, st))
    (hpost : post (u.qnResult req k.toNat st)) : Completes (.quoinReset req k n) s post := by
  refine ⟨_, congrArg Host.Outcome.next ?_, hpost⟩
  rw [hreq]
  dsimp only
  rw [h]

theorem quoinPoll_answers (h : s.pollBy req k.toNat n.toNat = (u, st)) (hpost : post (u.qnResult req k.toNat st)) :
    Completes (.quoinPoll req k n) s post :=
  ⟨_, congrArg (fun x : State × QnStatus => Host.Outcome.next (x.1.qnResult req k.toNat x.2)) h, hpost⟩

theorem quoinWait_answers {parked : Bool} (hreq : coreOf req = none) (h : s.waitBy req k.toNat n.toNat = (u, st, parked))
    (hpost : post (u.qnResult req k.toNat st)) : Completes (.quoinWait req k n) s post := by
  refine ⟨_, congrArg Host.Outcome.next ?_, hpost⟩
  rw [hreq]
  dsimp only
  rw [h]

end

/-- The four operations answer alike where the gate of the quoin is shut. -/
theorem quoinOp_shut (hreq : coreOf req = none) {k : BitVec 12} (v : BitVec 32) {u : State} {st : QnStatus} (hgate : s.quoinGate req k.toNat = (u, some st))
    {post : State → Prop} (hpost : post (u.qnResult req k.toNat st)) :
    ∀ i ∈ [Instr.quoinSignal req k v, .quoinReset req k v, .quoinPoll req k v, .quoinWait req k v], Completes i s post := by
  intro i hi
  simp only [List.mem_cons, List.not_mem_nil, or_false] at hi
  rcases hi with rfl | rfl | rfl | rfl
  · refine quoinSignal_answers hreq ?_ hpost
    unfold State.signalBy
    rw [hgate]
  · refine quoinReset_answers hreq ?_ hpost
    unfold State.resetBy
    rw [hgate]
  · refine quoinPoll_answers ?_ hpost
    unfold State.pollBy
    rw [hgate]
  · refine quoinWait_answers (parked := false) hreq ?_ hpost
    unfold State.waitBy
    rw [hgate]

/-! ### SIGNAL -/

theorem State.putQuoin_same (s : State) (q : Nat) (x : Quoin) : (s.putQuoin q x).quoin q = x := State.quoin_same_of_put rfl


theorem State.signalBy_open (h : s.quoinOpen req q) (n : Nat) : s.signalBy req q n = s.signal q n := by
  unfold State.signalBy
  rw [State.quoinGate_open h]

theorem State.signal_open (h : s.quoinOpen req q) {n : Nat} (hroom : (s.quoin q).count + n ≤ 0xFFFFFFFF) :
    s.signalBy req q n = ((s.signalled q n).answerParked q, .ok) := by
  obtain ⟨-, hvalid, hdamaged, -⟩ := id h
  rw [State.signalBy_open h, State.signal_ok hvalid hdamaged hroom]

theorem State.signalled_parked (s : State) (q n : Nat) : (s.signalled q n).qn.parked = s.qn.parked := by
  rw [State.signalled_eq]

theorem State.signal_open_idle (h : s.quoinOpen req q) {n : Nat} (hroom : (s.quoin q).count + n ≤ 0xFFFFFFFF)
    (hidle : ∀ p ∈ s.qn.parked, p.quoin ≠ q) : s.signalBy req q n = (s.signalled q n, .ok) := by
  rw [State.signal_open h hroom, State.answerParked_idle (by rwa [State.signalled_parked])]

theorem State.signalled_quiet (h : (s.quoin q).notify = false) (n : Nat) :
    s.signalled q n = s.putQuoin q { s.quoin q with count := (s.quoin q).count + n } :=
  if_neg (by simp [h])

theorem State.signalled_notify (h : (s.quoin q).notify = true) (n : Nat) :
    s.signalled q n = (s.putQuoin q { s.quoin q with count := (s.quoin q).count + n }).notify (s.quoin q).owner q :=
  if_pos h

theorem State.nfy_of_put {t : State} {st : Nat} {x : NotifyQ} (h : t.qn.nfy = s.qn.nfy.put st x) (k : Nat) :
    t.qn.nfy.at {} k = if k = st then x else s.qn.nfy.at {} k := by
  rw [h, Tab.at_put]

theorem State.notify_room {st : Nat} (h : (s.qn.nfy.at {} st).q.length < 16) :
    (s.notify st q).qn.nfy = s.qn.nfy.put st { s.qn.nfy.at {} st with q := (s.qn.nfy.at {} st).q ++ [q] } := by
  unfold State.notify
  dsimp only
  rw [if_pos h]
  rfl

theorem State.notify_full {st : Nat} (h : 16 ≤ (s.qn.nfy.at {} st).q.length) :
    (s.notify st q).qn.nfy = s.qn.nfy.put st { s.qn.nfy.at {} st with ovf := true }
    ∧ ∀ {u : State}, s.rep = u.rep → Counted u (s.notify st q) [key 0x2861 4] := by
  unfold State.notify
  dsimp only
  rw [if_neg (Nat.not_lt.2 h)]
  split
  · exact ⟨rfl, fun {u} hrep => (((Counted.refl u).of_rep (t' := { s with
      qn := { s.qn with nfy := s.qn.nfy.put st { s.qn.nfy.at {} st with ovf := true } } }) hrep).and_count List.not_mem_nil)⟩
  · exact ⟨rfl, fun {u} hrep => Counted.count_raise (s := u) (u := { s with
      qn := { s.qn with nfy := s.qn.nfy.put st { s.qn.nfy.at {} st with ovf := true } } }) hrep _⟩

theorem State.signal_saturated (h : s.quoinOpen req q) {n : Nat} (hover : 0xFFFFFFFF < (s.quoin q).count + n)
    (hidle : ∀ p ∈ s.qn.parked, p.quoin ≠ q) : s.signalBy req q n =
      (((s.putQuoin q { s.quoin q with count := 0xFFFFFFFF }).count 0x2861 1).raise { code := 0x1602, station := (s.quoin q).owner }, .saturated) := by
  obtain ⟨-, hvalid, hdamaged, -⟩ := id h
  rw [State.signalBy_open h]
  unfold State.signal
  rw [State.quoinUsable_ok hvalid hdamaged]
  refine (if_pos hover).trans (congrArg (·, QnStatus.saturated) ?_)
  exact State.answerParked_idle (s := ((s.putQuoin q { s.quoin q with count := 0xFFFFFFFF }).count 0x2861 1).raise
    { code := 0x1602, station := (s.quoin q).owner }) hidle

/-- The one waiting core whose threshold is met goes on. -/
theorem State.answerParked_core {c : Fin 16} {th : Nat} (h : s.qn.parked = [{ who := .core c, quoin := q, thresh := th }])
    (hmet : th ≤ (s.quoin q).count) : s.answerParked q = State.updCore { s with qn := { s.qn with parked := [] } } c NeuralCore.resume := by
  have hone : s.metBy q { who := .core c, quoin := q, thresh := th } = true := by simp [State.metBy, hmet]
  rw [State.answerParked_def, h]
  simp only [List.filter_cons, List.filter_nil, hone, if_true, Bool.not_true, Bool.false_eq_true, if_false, List.foldl_cons, List.foldl_nil]
  rfl

/-! ### RESET, POLL and WAIT -/

theorem State.resetBy_idle (h : s.quoinOpen req q) (v : Nat) (hidle : ∀ p ∈ s.qn.parked, p.quoin ≠ q) :
    s.resetBy req q v = (s.putQuoin q { s.quoin q with count := v }, .ok) := by
  unfold State.resetBy
  rw [State.quoinGate_open h]
  exact congrArg (·, QnStatus.ok) (State.answerParked_idle (s := s.putQuoin q { s.quoin q with count := v }) hidle)

theorem State.pollBy_open (h : s.quoinOpen req q) (v : Nat) : s.pollBy req q v = (s, if v ≤ (s.quoin q).count then .ok else .notMet) := by
  unfold State.pollBy
  rw [State.quoinGate_open h]

theorem State.waitBy_open (h : s.quoinOpen req q) (v : Nat) : s.waitBy req q v =
    if v ≤ (s.quoin q).count then (s, .ok, false)
    else if parkPlaces req ≤ (s.qn.parked.filter (fun p => parkSame p.who req)).length then (s.count 0x2861 3, .refused, false)
    else ({ s with qn := { s.qn with parked := s.qn.parked ++ [{ who := req, quoin := q, thresh := v }] } }, .notMet, true) := by
  unfold State.waitBy
  rw [State.quoinGate_open h]

/-! ### Direct writes and the notification queue -/

theorem State.failParked_idle (h : ∀ p ∈ s.qn.parked, p.quoin ≠ q) : s.failParked q = s := by
  unfold State.failParked
  dsimp only
  split
  · exact State.answerParked_idle h
  · have hhit : s.qn.parked.filter (fun p => p.quoin == q) = [] := List.filter_eq_nil_iff.2 fun p hp => by simpa using h p hp
    have hall : s.qn.parked.filter (fun p => p.quoin != q) = s.qn.parked := List.filter_eq_self.2 fun p hp => by simpa using h p hp
    rw [hhit, hall]
    rfl

theorem popNotify_cons {x : NotifyQ} {k : Nat} {rest : List Nat} (h : x.q = k :: rest) :
    popNotify x = (2 ^ 63 + bitIf x.ovf 62 + k, { q := rest, ovf := false }) := by
  unfold popNotify
  rw [h]

theorem popNotify_nil {x : NotifyQ} (h : x.q = []) : popNotify x = (bitIf x.ovf 62, { x with ovf := false }) := by
  unfold popNotify
  rw [h]

/-! ### The clauses of the statement -/

section
variable {k : BitVec 12}

theorem quoinSignal_quiet (hreq : coreOf req = none) (hopen : s.quoinOpen req k.toNat) {n : BitVec 32}
    (hroom : (s.quoin k.toNat).count + n.toNat ≤ 0xFFFFFFFF) (hidle : ∀ p ∈ s.qn.parked, p.quoin ≠ k.toNat) (hquiet : (s.quoin k.toNat).notify = false) :
    Completes (.quoinSignal req k n) s (fun t =>
      t.quoin k.toNat = { s.quoin k.toNat with count := (s.quoin k.toNat).count + n.toNat } ∧ (∀ j, j ≠ k.toNat → t.quoin j = s.quoin j)
      ∧ (∀ j, softRequester req = some j → t.qn.res.at 0 j = (s.quoin k.toNat).count + n.toNat)
      ∧ t = { s with qn := { s.qn with quoin := t.qn.quoin, res := t.qn.res }, out := { s.out with err := false } }) := by
  refine quoinSignal_answers hreq (State.signal_open_idle hopen hroom hidle) ?_
  rw [State.signalled_quiet hquiet]
  refine ⟨State.quoin_same_of_put (State.qnResult_quoin ..), State.quoin_other_of_put (State.qnResult_quoin ..), fun j hj => ?_, ?_⟩
  · rw [State.qnResult_res _ hj, State.quoin_same_of_put rfl]
    exact qnWord_ok _
  · rw [State.qnResult_eq]
    rfl

theorem quoinSignal_notified (hreq : coreOf req = none) (hopen : s.quoinOpen req k.toNat) {n : BitVec 32}
    (hroom : (s.quoin k.toNat).count + n.toNat ≤ 0xFFFFFFFF) (hidle : ∀ p ∈ s.qn.parked, p.quoin ≠ k.toNat) (hnotify : (s.quoin k.toNat).notify = true)
    (hspace : (s.qn.nfy.at {} (s.quoin k.toNat).owner).q.length < 16) : Completes (.quoinSignal req k n) s (fun t =>
      t.quoin k.toNat = { s.quoin k.toNat with count := (s.quoin k.toNat).count + n.toNat }
      ∧ (t.qn.nfy.at {} (s.quoin k.toNat).owner).q = (s.qn.nfy.at {} (s.quoin k.toNat).owner).q ++ [k.toNat]
      ∧ (t.qn.nfy.at {} (s.quoin k.toNat).owner).ovf = (s.qn.nfy.at {} (s.quoin k.toNat).owner).ovf
      ∧ (∀ j, j ≠ (s.quoin k.toNat).owner → t.qn.nfy.at {} j = s.qn.nfy.at {} j)
      ∧ t = { s with qn := { s.qn with quoin := t.qn.quoin, nfy := t.qn.nfy, res := t.qn.res }, rep := t.rep, out := { s.out with err := false } }) := by
  refine quoinSignal_answers hreq (State.signal_open_idle hopen hroom hidle) ?_
  have hput := State.signalled_quoin s k.toNat n.toNat
  have hframe := State.signalled_eq s k.toNat n.toNat
  have hnfy := State.notify_room (s := s.putQuoin k.toNat { s.quoin k.toNat with count := (s.quoin k.toNat).count + n.toNat }) (q := k.toNat) hspace
  rw [← State.signalled_notify hnotify] at hnfy
  generalize s.signalled k.toNat n.toNat = u at *
  have hentry := State.nfy_of_put (s := s) ((State.qnResult_nfy u req k.toNat .ok).trans hnfy)
  have hself := (hentry (s.quoin k.toNat).owner).trans (if_pos rfl)
  refine ⟨State.quoin_same_of_put ((State.qnResult_quoin ..).trans hput), ?_, ?_,
    fun j hj => (hentry j).trans (if_neg hj), ?_⟩
  · rw [hself]
    rfl
  · rw [hself]
    rfl
  · rw [State.qnResult_eq, hframe]
    rfl

theorem quoinSignal_overflows (hreq : coreOf req = none) (hopen : s.quoinOpen req k.toNat) {n : BitVec 32}
    (hroom : (s.quoin k.toNat).count + n.toNat ≤ 0xFFFFFFFF) (hidle : ∀ p ∈ s.qn.parked, p.quoin ≠ k.toNat) (hnotify : (s.quoin k.toNat).notify = true)
    (hfull : 16 ≤ (s.qn.nfy.at {} (s.quoin k.toNat).owner).q.length) : Completes (.quoinSignal req k n) s (fun t =>
      t.quoin k.toNat = { s.quoin k.toNat with count := (s.quoin k.toNat).count + n.toNat }
      ∧ t.qn.nfy.at {} (s.quoin k.toNat).owner = { s.qn.nfy.at {} (s.quoin k.toNat).owner with ovf := true } ∧ Counted s t [key 0x2861 4]
      ∧ t = { s with qn := { s.qn with quoin := t.qn.quoin, nfy := t.qn.nfy, res := t.qn.res }, rep := t.rep, out := { s.out with err := false } }) := by
  refine quoinSignal_answers hreq (State.signal_open_idle hopen hroom hidle) ?_
  have hput := State.signalled_quoin s k.toNat n.toNat
  have hframe := State.signalled_eq s k.toNat n.toNat
  obtain ⟨hnfy, hcount⟩ := State.notify_full (s := s.putQuoin k.toNat { s.quoin k.toNat with count := (s.quoin k.toNat).count + n.toNat })
    (q := k.toNat) hfull
  rw [← State.signalled_notify hnotify] at hnfy hcount
  have hcounted := hcount (u := s) rfl
  clear hcount
  generalize s.signalled k.toNat n.toNat = u at *
  refine ⟨State.quoin_same_of_put ((State.qnResult_quoin ..).trans hput),
    (State.nfy_of_put (s := s) ((State.qnResult_nfy u req k.toNat .ok).trans hnfy) _).trans (if_pos rfl), hcounted.of_rep (State.qnResult_rep ..), ?_⟩
  rw [State.qnResult_eq, hframe]
  rfl

theorem quoinSignal_saturates (hreq : coreOf req = none) (hopen : s.quoinOpen req k.toNat) {n : BitVec 32}
    (hover : 0xFFFFFFFF < (s.quoin k.toNat).count + n.toNat) (hidle : ∀ p ∈ s.qn.parked, p.quoin ≠ k.toNat) :
    Completes (.quoinSignal req k n) s (fun t =>
      t.quoin k.toNat = { s.quoin k.toNat with count := 0xFFFFFFFF } ∧ Counted s t [key 0x2861 1]
      ∧ (∀ j, softRequester req = some j → t.qn.res.at 0 j = 6 * 2 ^ 60 + 0xFFFFFFFF)
      ∧ t = { s with qn := { s.qn with quoin := t.qn.quoin, res := t.qn.res }, rep := t.rep, out := { s.out with err := true } }) := by
  refine quoinSignal_answers hreq (State.signal_saturated hopen hover hidle) ?_
  refine ⟨State.quoin_same_of_put (State.qnResult_quoin ..), (Counted.count_raise (s := s)
    (u := s.putQuoin k.toNat { s.quoin k.toNat with count := 0xFFFFFFFF }) rfl _).of_rep (State.qnResult_rep ..), fun j hj => ?_, ?_⟩
  · have hself : State.quoin (((s.putQuoin k.toNat { s.quoin k.toNat with count := 0xFFFFFFFF }).count 0x2861 1).raise
        { code := 0x1602, station := (s.quoin k.toNat).owner }) k.toNat = { s.quoin k.toNat with count := 0xFFFFFFFF } := State.quoin_same_of_put rfl
    rw [State.qnResult_res _ hj, hself]
    rfl
  · rw [State.qnResult_eq]
    rfl

/-- A core waits for the quoin and nobody else does: the signal that meets its threshold lets it go on. -/
theorem quoinSignal_meets (hreq : coreOf req = none) (hopen : s.quoinOpen req k.toNat) {n : BitVec 32} {c : Fin 16} {th : Nat}
    (hroom : (s.quoin k.toNat).count + n.toNat ≤ 0xFFFFFFFF) (hquiet : (s.quoin k.toNat).notify = false)
    (hparked : s.qn.parked = [{ who := .core c, quoin := k.toNat, thresh := th }]) (hmet : th ≤ (s.quoin k.toNat).count + n.toNat) :
    Completes (.quoinSignal req k n) s (fun t =>
      t.qn.parked = [] ∧ t.core c = { s.core c with waiting := false, pc := (s.core c).pc + 1 } ∧ (∀ j, j ≠ c.val → t.core j = s.core j)
      ∧ t = { s with qn := { s.qn with quoin := t.qn.quoin, res := t.qn.res, parked := [] }, nc := { s.nc with core := t.nc.core }
                     out := { s.out with err := false } }) := by
  have hcount : ((s.putQuoin k.toNat { s.quoin k.toNat with count := (s.quoin k.toNat).count + n.toNat }).quoin k.toNat).count =
      (s.quoin k.toNat).count + n.toNat := by rw [State.putQuoin_same]
  have hsignal := State.signal_open hopen hroom
  rw [State.signalled_quiet hquiet, State.answerParked_core (s := s.putQuoin k.toNat
    { s.quoin k.toNat with count := (s.quoin k.toNat).count + n.toNat }) hparked (by rwa [hcount])] at hsignal
  refine quoinSignal_answers hreq hsignal ?_
  have hcore : ∀ (u : State) j, (u.qnResult req k.toNat .ok).core j = u.core j := fun u j => by rw [State.qnResult_eq]; rfl
  refine ⟨?_, ?_, fun j hj => ?_, ?_⟩
  · rw [State.qnResult_eq]
    rfl
  · rw [hcore, State.core_updCore, if_pos rfl]
    rfl
  · rw [hcore, State.core_updCore, if_neg hj]
    rfl
  · rw [State.qnResult_eq]
    rfl

theorem quoinSignal_misses (hreq : coreOf req = none) (hopen : s.quoinOpen req k.toNat) {n : BitVec 32} {c : Fin 16} {th : Nat}
    (hroom : (s.quoin k.toNat).count + n.toNat ≤ 0xFFFFFFFF) (hquiet : (s.quoin k.toNat).notify = false)
    (hparked : s.qn.parked = [{ who := .core c, quoin := k.toNat, thresh := th }]) (hmiss : (s.quoin k.toNat).count + n.toNat < th) :
    Completes (.quoinSignal req k n) s (fun t => t.qn.parked = s.qn.parked ∧ (t.quoin k.toNat).count = (s.quoin k.toNat).count + n.toNat
      ∧ t = { s with qn := { s.qn with quoin := t.qn.quoin, res := t.qn.res }, out := { s.out with err := false } }) := by
  have hunmet : ∀ p ∈ (s.putQuoin k.toNat { s.quoin k.toNat with count := (s.quoin k.toNat).count + n.toNat }).qn.parked,
      (s.putQuoin k.toNat { s.quoin k.toNat with count := (s.quoin k.toNat).count + n.toNat }).metBy k.toNat p = false := fun p hp => by
    have hcount : ((s.putQuoin k.toNat { s.quoin k.toNat with count := (s.quoin k.toNat).count + n.toNat }).quoin k.toNat).count =
        (s.quoin k.toNat).count + n.toNat := by rw [State.putQuoin_same]
    obtain rfl : p = { who := .core c, quoin := k.toNat, thresh := th } := List.mem_singleton.1 (hparked ▸ hp)
    simp [State.metBy, hcount, hmiss]
  have hsignal := State.signal_open hopen hroom
  rw [State.signalled_quiet hquiet, State.answerParked_unmet hunmet] at hsignal
  refine quoinSignal_answers hreq hsignal ⟨?_, ?_, ?_⟩
  · rw [State.qnResult_eq]
    rfl
  · rw [State.quoin_same_of_put (State.qnResult_quoin ..)]
  · rw [State.qnResult_eq]
    rfl

end

/-- Settles O32: the operations on an open quoin, the answers of a shut gate, direct writes and the notification queue. -/
theorem quoins : Obligations.Quoins := by
  intro s req q hreq
  refine ⟨fun hopen => ⟨fun n hroom hidle => ⟨fun hquiet => quoinSignal_quiet hreq hopen hroom hidle hquiet,
        fun hnotify hspace => quoinSignal_notified hreq hopen hroom hidle hnotify hspace,
        fun hnotify hfull => quoinSignal_overflows hreq hopen hroom hidle hnotify hfull⟩,
      fun n hover hidle => quoinSignal_saturates hreq hopen hover hidle,
      fun n c th hroom hquiet hparked => ⟨fun hmet => quoinSignal_meets hreq hopen hroom hquiet hparked hmet,
        fun hmiss => quoinSignal_misses hreq hopen hroom hquiet hparked hmiss⟩,
      fun v hidle => ?_, fun v => ?_, fun v hmet => ?_, fun v st hmiss hroster => ⟨fun hspace => ?_, fun hfull => ?_⟩, fun v hmiss hnone => ?_⟩,
    fun v i hi => ⟨fun hin howner hbad => ?_, fun hforeign hst hroom => ?_⟩,
    fun k b hin hlen => ⟨fun howner hidle => ?_, fun howner => ?_⟩, fun st hst => ⟨fun k rest hq => ?_, fun hq => ?_⟩⟩
  · refine quoinReset_answers hreq (State.resetBy_idle hopen v.toNat hidle) ⟨State.quoin_same_of_put (State.qnResult_quoin ..),
      State.quoin_other_of_put (State.qnResult_quoin ..), ?_⟩
    rw [State.qnResult_eq]
    rfl
  · refine quoinPoll_answers (State.pollBy_open hopen v.toNat) ⟨fun k hk => ?_, ?_⟩
    · rw [State.qnResult_res _ hk]
      split
      · rw [qnWord_ok, Nat.zero_add]
      · exact qnWord_notMet _
    · rw [State.qnResult_eq]
      split <;> rfl
  · refine quoinWait_answers hreq ((State.waitBy_open hopen v.toNat).trans (if_pos hmet)) ?_
    rw [State.qnResult_eq]
    rfl
  · subst hroster
    refine quoinWait_answers hreq ((State.waitBy_open hopen v.toNat).trans ((if_neg (Nat.not_le.2 hmiss)).trans (if_neg (Nat.not_le.2 hspace)))) ?_
    exact State.qnResult_deaf _ rfl ..
  · subst hroster
    refine quoinWait_answers hreq ((State.waitBy_open hopen v.toNat).trans ((if_neg (Nat.not_le.2 hmiss)).trans (if_pos hfull))) ?_
    rw [State.qnResult_deaf _ rfl]
    exact ⟨(Counted.count s).of_rep rfl, rfl⟩
  · refine quoinWait_answers hreq ((State.waitBy_open hopen v.toNat).trans ((if_neg (Nat.not_le.2 hmiss)).trans (if_pos (by rw [hnone]; exact Nat.zero_le _)))) ?_
    refine ⟨(Counted.count s).of_rep (State.qnResult_rep ..), ?_⟩
    rw [State.qnResult_eq]
    rfl
  · obtain ⟨st, hst, hgate⟩ := State.quoinGate_unusable hin howner hbad
    refine quoinOp_shut hreq v hgate ⟨(Counted.count s).of_rep (State.qnResult_rep ..), ?_⟩ i hi
    rw [State.qnResult_eq, hst]
    rfl
  · obtain ⟨u, hu, hcount, -, hframe⟩ := State.violation_spec (s := s) hroom hst (cause := 9) (by decide) req (0x20200000 + q.toNat * 8) 4 8
      (if (s.quoin q.toNat).valid then (s.quoin q.toNat).owner else 63) q.toNat
    have hgate := State.quoinGate_foreign hforeign
    rw [hu] at hgate
    refine quoinOp_shut hreq v hgate ⟨hcount.of_rep (State.qnResult_rep ..), ?_⟩ i hi
    rw [State.qnResult_eq, hframe]
    rfl
  · refine ⟨_, congrArg Host.Outcome.next ((if_neg (by simp [hin])).trans (if_pos ⟨hlen, howner⟩)), ?_⟩
    have hfail := State.failParked_idle (s := s.putQuoin k (quoinOf (leNat b))) hidle
    rw [hfail]
    exact ⟨State.quoin_same_of_put rfl, State.quoin_other_of_put rfl, rfl⟩
  · exact ⟨_, congrArg Host.Outcome.next ((if_neg (by simp [hin])).trans (if_neg fun h => howner h.2)), rfl⟩
  · refine ⟨_, congrArg Host.Outcome.next (if_neg (by simp [hst])), ?_⟩
    rw [popNotify_cons hq]
    have hentry := State.nfy_of_put (s := s) (t := { s with qn := { s.qn with nfy := s.qn.nfy.put st.val { q := rest, ovf := false } } }) rfl
    exact ⟨(hentry st.val).trans (if_pos rfl), fun j hj => (hentry j).trans (if_neg hj), rfl⟩
  · refine ⟨_, congrArg Host.Outcome.next (if_neg (by simp [hst])), ?_⟩
    rw [popNotify_nil hq]
    have hentry := State.nfy_of_put (s := s) (t := { s with qn := { s.qn with
      nfy := s.qn.nfy.put st.val { s.qn.nfy.at {} st.val with ovf := false } } }) rfl
    exact ⟨congrArg NotifyQ.ovf ((hentry st.val).trans (if_pos rfl)), rfl⟩

end Machine
end Sys2Proof
end

section
/-!
SUPPORT. The sequencer of a neural core (08 R219-R224): what the fetch of one command gives, and the command that runs on it.
-/
namespace Sys2Proof
namespace Machine

variable {s u : State} {c : Fin 16} {v : Nat}

theorem leNat_leBytes (n v : Nat) : leNat (leBytes n v) = v % 256 ^ n := by
  induction n generalizing v with
  | zero => simp [leNat, leBytes, Nat.mod_one]
  | succ n ih =>
    rw [leBytes, leNat, ih, BitVec.toNat_ofNat]
    have hpow : 256 ^ (n + 1) = 2 ^ 8 * 256 ^ n := Nat.pow_succ'
    rw [hpow]
    exact Nat.mod_mul.symm

theorem leNat_command (hv : v < 2 ^ 128) : leNat (leBytes 16 v) = v := by
  rw [leNat_leBytes]
  exact Nat.mod_eq_of_lt hv

theorem bits_opcode (hv : v < 2 ^ 128) : cmdOp v = v / 2 ^ 120 := by
  unfold cmdOp bits
  omega

/-! ### The fetch -/

theorem State.fetch_idle (h : (s.core c).ready = false) (kind : CmdKind) : s.fetch c kind = .done s :=
  if_pos (by simp [h])

/-- The word that a fetch decodes once the memory has answered. -/
def State.decoded (s w : State) (c : Fin 16) (kind : CmdKind) (v : Nat) : Fetched :=
  match cmdFields (cmdOp v) with
  | none => .done (w.abortSlug c.val 1)
  | some fs =>
    if !(onlyFields v fs && cmdSubOk v) then .done (w.abortSlug c.val 2)
    else if cmdOp v ≠ kind.op then .done s
    else match kind.sub with
      | some x => if cmdSub v = x then .run w v else .done s
      | none => .run w v

/-- The first command of a slug starts its time (08 R220). -/
def State.clocked (u : State) (c : Fin 16) (first : Bool) : State :=
  if first then u.updCore c.val (fun x => { x with started := some u.clk.ref }) else u

theorem State.fetch_word {b : List Byte} (hready : (s.core c).ready = true)
    (hfabric : s.fabric (.core c) ((s.core c).list + 16 * (s.core c).pc) (.read 16) .none 0 (s.core c).pc = (u, some b)) (kind : CmdKind) :
    s.fetch c kind = s.decoded (u.clocked c (s.core c).started.isNone) c kind (leNat b) := by
  unfold State.fetch State.decoded State.clocked
  dsimp only
  rw [if_neg (by simp [hready]), hfabric] <;> rfl

theorem State.fetch_again (h : s.fetches c u (some (leBytes 16 v))) (hv : v < 2 ^ 128) (kind : CmdKind) : s.fetch c kind = s.decoded u c kind v := by
  obtain ⟨hready, hstarted, hfabric⟩ := h
  rw [State.fetch_word hready hfabric, leNat_command hv]
  unfold State.clocked
  rw [if_neg (by simpa using hstarted)]

theorem State.fetch_error (h : s.fetches c u none) (kind : CmdKind) : s.fetch c kind = .done (u.abortSlug c 7) := by
  obtain ⟨hready, -, hfabric⟩ := h
  unfold State.fetch
  dsimp only
  rw [if_neg (by simp [hready]), hfabric]

section
variable {w : State} {kind : CmdKind}

theorem State.decoded_unknown (h : 0x0D ≤ cmdOp v) : s.decoded w c kind v = .done (w.abortSlug c.val 1) := by
  have hnone : cmdFields (cmdOp v) = none := by
    obtain ⟨k, hk⟩ := Nat.exists_eq_add_of_le' h
    rw [hk]
    rfl
  unfold State.decoded
  rw [hnone]

theorem State.decoded_spoiled {fs : List (Nat × Nat)} (hfs : cmdFields (cmdOp v) = some fs) (h : onlyFields v fs = false) :
    s.decoded w c kind v = .done (w.abortSlug c.val 2) := by
  unfold State.decoded
  rw [hfs]
  exact if_pos (by simp [h])

theorem State.decoded_other {fs : List (Nat × Nat)} (hfs : cmdFields (cmdOp v) = some fs) (hok : (onlyFields v fs && cmdSubOk v) = true)
    (hop : cmdOp v ≠ kind.op) : s.decoded w c kind v = .done s := by
  unfold State.decoded
  rw [hfs]
  exact (if_neg (by simp [hok])).trans (if_pos hop)

theorem State.decoded_run {op : Nat} {fs : List (Nat × Nat)} (hop : cmdOp v = op) (hfs : cmdFields op = some fs)
    (hok : (onlyFields v fs && cmdSubOk v) = true) : s.decoded w c ⟨op, none⟩ v = .run w v := by
  unfold State.decoded
  rw [hop, hfs]
  exact (if_neg (by simp [hok])).trans (if_neg (not_not.2 rfl))

end

/-! ### The command -/

theorem State.command_run {kind : CmdKind} (h : s.fetch c kind = .run u v) (f : State → Nat → State) : s.command c kind f = f u v := by
  unfold State.command
  rw [h]

theorem State.command_done {kind : CmdKind} (h : s.fetch c kind = .done u) (f : State → Nat → State) : s.command c kind f = u := by
  unfold State.command
  rw [h]

/-- An instruction that is a row of the sequencer on core `c`. -/
def IsRow (i : Instr) (c : Fin 16) : Prop := ∃ kind f, ∀ s : State, exec i s = .next (s.command c kind f)

theorem IsRow.done {i : Instr} (hrow : IsRow i c) (h : ∀ kind, s.fetch c kind = .done u) {post : State → Prop} (hpost : post u) : Completes i s post := by
  obtain ⟨kind, f, hexec⟩ := hrow
  exact ⟨u, (hexec s).trans (congrArg Host.Outcome.next (State.command_done (h kind) f)), hpost⟩

theorem isRow_of_mem {i : Instr} (hi : i ∈ [Instr.nop c, .move c, .matmul c, .post c, .expand c, .stride c, .store c, .sync c, .endCmd c, .stream c,
    .maxpool c, .avgpool c, .dwconv c, .add c, .mul c, .max c, .min c, .lut c, .softmax c, .reduce c, .matvec c, .argmax c, .compare c, .upsample c,
    .copy c, .requant c]) : IsRow i c := by
  simp only [List.mem_cons, List.not_mem_nil, or_false] at hi
  rcases hi with rfl | rfl | rfl | rfl | rfl | rfl | rfl | rfl | rfl | rfl | rfl | rfl | rfl | rfl | rfl | rfl | rfl | rfl | rfl | rfl | rfl | rfl
    | rfl | rfl | rfl | rfl <;> exact ⟨_, _, fun s => rfl⟩

theorem State.updCore_only (u : State) (c : Nat) (f : NeuralCore → NeuralCore) : u.onlyCore (u.updCore c f) c (f (u.core c)) :=
  ⟨by rw [State.core_updCore, if_pos rfl], fun d hd => by rw [State.core_updCore, if_neg hd], rfl⟩

theorem State.onlyCore.trans {t w : State} {k x : NeuralCore} {n : Nat} (hut : u.onlyCore t n k) (htw : t.onlyCore w n x) : u.onlyCore w n x := by
  obtain ⟨-, hothers, hframe⟩ := hut
  obtain ⟨hcore, hothers', hframe'⟩ := htw
  refine ⟨hcore, fun d hd => (hothers' d hd).trans (hothers d hd), ?_⟩
  rw [hframe', hframe]

theorem State.nextCmd_only {t : State} {k : NeuralCore} {n : Nat} (h : u.onlyCore t n k) : u.onlyCore (t.nextCmd n) n { k with pc := k.pc + 1 } := by
  have hstep := h.trans (t.updCore_only n fun k => { k with pc := k.pc + 1 })
  rwa [h.1] at hstep

/-- A core that touches further ranges (08 R222). -/
def NeuralCore.touching (k : NeuralCore) (ts : List Touch) : NeuralCore :=
  { k with
    racy := k.racy || ts.any (fun t => k.touched.any (fun u => t.clash u))
    touched := k.touched ++ ts.filter (fun t => t.engine != engSeq && t.engine != engStream) }

theorem State.touch_only (u : State) (c : Nat) (ts : List Touch) : u.onlyCore (u.touch c ts) c ((u.core c).touching ts) := u.updCore_only c _

/-- The first ranges that a core touches clash with none. -/
theorem NeuralCore.touching_first {k : NeuralCore} (hracy : k.racy = false) (htouched : k.touched = []) (ts : List Touch) :
    k.touching ts = { k with touched := (k.touching ts).touched } := by
  have hfree : (k.touching ts).racy = k.racy := by simp [NeuralCore.touching, hracy, htouched]
  unfold NeuralCore.touching at hfree ⊢
  dsimp only at hfree ⊢
  rw [hfree]

/-- What the sequencer touches is not kept. -/
theorem NeuralCore.touching_seq (k : NeuralCore) {x : Touch} (hx : x.engine = engSeq) : k.touching [x] = { k with racy := (k.touching [x]).racy } := by
  have hkept : (k.touching [x]).touched = k.touched := by simp [NeuralCore.touching, hx]
  unfold NeuralCore.touching at hkept ⊢
  dsimp only at hkept ⊢
  rw [hkept]

end Machine
end Sys2Proof
end

section
/-!
PROOF. The sequencer of a neural core (08 R218-R224, Tables 8-7 to 8-9).
-/
namespace Sys2Proof
namespace Machine

variable {s u : State} {c : Fin 16} {v : Nat}

/-! ### The words of the statement -/

theorem onlyFields_of {op : Nat} {fs : List (Nat × Nat)} (hop : cmdOp v = op) (h : v = op * 2 ^ 120 + (fs.map (fun f => bits v f.1 f.2 * 2 ^ f.1)).sum) :
    onlyFields v fs = true := by
  unfold cmdOp at hop
  unfold onlyFields
  rw [hop]
  exact beq_iff_eq.2 h

theorem cmdSubOk_of {op : Nat} (hop : cmdOp v = op) (h : op = 0x07 ∨ op = 0x0B) : cmdSubOk v = true := by
  unfold cmdSubOk
  rw [hop]
  rcases h with rfl | rfl <;> rfl

theorem sync_word {mask : Nat} (hmask : mask < 2 ^ 10) (hv : v = 0x0B * 2 ^ 120 + mask) : v < 2 ^ 128 ∧ cmdOp v = 0x0B
    ∧ bits v 0 10 = mask ∧ (onlyFields v [(0, 10)] && cmdSubOk v) = true := by
  have hop : cmdOp v = 0x0B := by
    unfold cmdOp bits
    omega
  have hbits : bits v 0 10 = mask := by
    unfold bits
    omega
  refine ⟨by omega, hop, hbits, Bool.and_eq_true_iff.2 ⟨onlyFields_of hop ?_, cmdSubOk_of hop (.inr rfl)⟩⟩
  simp only [List.map_cons, List.map_nil, List.sum_cons, List.sum_nil, hbits]
  omega

section
variable {first num src : Nat}

theorem stride_fields (hfirst : first < 16) (hnum : num < 16) (hsrc : src < 2 ^ 32)
    (hv : v = 7 * 2 ^ 120 + first * 2 ^ 116 + num * 2 ^ 112 + src * 2 ^ 64) :
    bits v 120 8 = 7 ∧ bits v 116 4 = first ∧ bits v 112 4 = num ∧ bits v 64 32 = src := by
  unfold bits
  refine ⟨?_, ?_, ?_, ?_⟩ <;> omega

theorem stride_only (hv : v = 7 * 2 ^ 120 + first * 2 ^ 116 + num * 2 ^ 112 + src * 2 ^ 64)
    (hfields : bits v 116 4 = first ∧ bits v 112 4 = num ∧ bits v 64 32 = src) (hop : cmdOp v = 7) :
    onlyFields v [(116, 4), (112, 4), (64, 32)] = true := by
  obtain ⟨hf, hn, hs⟩ := hfields
  refine onlyFields_of hop ?_
  rw [List.map_cons, List.map_cons, List.map_cons, List.map_nil, List.sum_cons, List.sum_cons, List.sum_cons, List.sum_nil, hf, hn, hs, hv,
    Nat.add_zero, Nat.add_assoc, Nat.add_assoc]

theorem stride_word (hfirst : first < 16) (hnum : num < 16) (hsrc : src < 2 ^ 32)
    (hv : v = 7 * 2 ^ 120 + first * 2 ^ 116 + num * 2 ^ 112 + src * 2 ^ 64) : v < 2 ^ 128
    ∧ cmdOp v = 7 ∧ (bits v 116 4 = first ∧ bits v 112 4 = num ∧ bits v 64 32 = src)
    ∧ (onlyFields v [(116, 4), (112, 4), (64, 32)] && cmdSubOk v) = true := by
  obtain ⟨hop, hfields⟩ := stride_fields hfirst hnum hsrc hv
  have hlt : v < 2 ^ 128 := by omega
  exact ⟨hlt, hop, hfields, Bool.and_eq_true_iff.2 ⟨stride_only hv hfields hop, cmdSubOk_of hop (.inl rfl)⟩⟩

end

theorem onlyFields_power (k : Fin 120) : cmdOp (2 ^ k.val) = 0 ∧ onlyFields (2 ^ k.val) [] = false := by
  have hlt : 2 ^ k.val < 2 ^ 120 := Nat.pow_lt_pow_right (by decide) k.isLt
  have hop : cmdOp (2 ^ k.val) = 0 := by
    unfold cmdOp bits
    rw [Nat.div_eq_of_lt hlt, Nat.zero_mod]
  refine ⟨hop, ?_⟩
  unfold cmdOp at hop
  simp [onlyFields, hop]

/-! ### STRIDE -/

/-- One entry of the stride table loaded from the galley. -/
def NeuralCore.loadStride (b : List Byte) (first : Nat) (k : NeuralCore) (i : Nat) : NeuralCore :=
  { k with
    stride := k.stride.put (first + i) (field b (4 * i) 4)
    strideOk := if bit k.strideOk (first + i) then k.strideOk else k.strideOk + 2 ^ (first + i) }

theorem bit_set (v w k : Nat) : bit (if bit v w then v else v + 2 ^ w) k = (decide (k = w) || bit v k) := by
  split
  · next h =>
    by_cases hk : k = w
    · simp [hk, h]
    · simp [hk]
  · next h => exact bit_add_two_pow (by simpa using h) k

theorem NeuralCore.loadStrides (b : List Byte) (first num : Nat) (k : NeuralCore) :
    (∀ e, ((List.range num).foldl (NeuralCore.loadStride b first) k).stride.at 0 e
      = if first ≤ e ∧ e < first + num then field b (4 * (e - first)) 4 else k.stride.at 0 e)
    ∧ (∀ e, bit ((List.range num).foldl (NeuralCore.loadStride b first) k).strideOk e = (decide (first ≤ e ∧ e < first + num) || bit k.strideOk e))
    ∧ (List.range num).foldl (NeuralCore.loadStride b first) k = { k with
        stride := ((List.range num).foldl (NeuralCore.loadStride b first) k).stride
        strideOk := ((List.range num).foldl (NeuralCore.loadStride b first) k).strideOk } := by
  induction num with
  | zero =>
    refine ⟨fun e => (if_neg (by omega)).symm, fun e => ?_, rfl⟩
    simp only [List.range_zero, List.foldl_nil]
    rw [decide_eq_false (by omega), Bool.false_or]
  | succ n ih =>
    obtain ⟨hstride, hok, hframe⟩ := ih
    rw [List.range_succ, List.foldl_append]
    generalize (List.range n).foldl (NeuralCore.loadStride b first) k = x at *
    refine ⟨fun e => ?_, fun e => ?_, ?_⟩
    · refine (Tab.at_put 0 x.stride (first + n) e _).trans ?_
      rw [hstride]
      by_cases he : e = first + n
      · rw [if_pos he, if_pos (by omega), he, Nat.add_sub_cancel_left]
      · rw [if_neg he]
        by_cases hin : first ≤ e ∧ e < first + n
        · rw [if_pos hin, if_pos (by omega)]
        · rw [if_neg hin, if_neg (by omega)]
    · refine (bit_set x.strideOk (first + n) e).trans ?_
      rw [hok, ← Bool.or_assoc]
      congr 1
      rw [← Bool.decide_or]
      exact decide_eq_decide.2 (by omega)
    · rw [hframe]
      rfl

theorem State.doStride_loads {src : Nat} {first num : Nat} (hword : bits v 116 4 = first ∧ bits v 112 4 = num ∧ bits v 64 32 = src)
    (hrange : 1 ≤ first ∧ 1 ≤ num ∧ first + num ≤ 15) (hfault : u.galleyFault c src (4 * num) = none) (hjob : (u.core c).job = none)
    (hstrms : (u.core c).strms = []) : u.doStride c v =
      (((u.touch c [{ engine := engSeq, space := 0, first := src, len := 4 * num }]).updCore c
        (fun k => (List.range num).foldl (NeuralCore.loadStride (u.galley c src (4 * num)) first) k)).nextCmd c) := by
  obtain ⟨hf, hn, hs⟩ := hword
  obtain ⟨h1, h2, h3⟩ := hrange
  unfold State.doStride
  dsimp only
  rw [hf, hn, hs, if_neg (by simp [within]; omega), hfault]
  dsimp only
  rw [if_neg (by simp [hjob, hstrms])]
  have hgalley : (u.touch c [{ engine := engSeq, space := 0, first := src, len := 4 * num }]).galley c src (4 * num) = u.galley c src (4 * num) := by
    unfold State.galley State.touch
    rw [State.core_updCore, if_pos rfl]
  rw [hgalley]
  rfl

theorem State.doStride_waits {src : Nat} {first num : Nat} (hword : bits v 116 4 = first ∧ bits v 112 4 = num ∧ bits v 64 32 = src)
    (hrange : 1 ≤ first ∧ 1 ≤ num ∧ first + num ≤ 15) (hfault : u.galleyFault c src (4 * num) = none) (hjob : (u.core c).job ≠ none) :
    u.doStride c v = u := by
  obtain ⟨hf, hn, hs⟩ := hword
  obtain ⟨h1, h2, h3⟩ := hrange
  unfold State.doStride
  dsimp only
  rw [hf, hn, hs, if_neg (by simp [within]; omega), hfault]
  exact if_pos (by simp [Option.isSome_iff_ne_none, hjob])

/-- Settles O33: the fetch decides; a row of another command leaves the word to its own. -/
theorem neuralSequencer : Obligations.NeuralSequencer := by
  intro s u c
  refine ⟨fun hready i hi => (isRow_of_mem hi).done (fun kind => State.fetch_idle hready kind) rfl, fun hfetch => ?_, fun hready hstarted hfabric => ?_,
    fun hfetch => ⟨?_, ?_⟩, fun mask hfetch => ⟨fun hsynced => ?_, fun hsynced => ?_⟩,
    fun first num src hfirst hnum hsum hfault hfetch => ⟨fun hjob hstrms => ?_, fun hjob => ?_⟩, fun v hfetch hseqs hop i hi => ?_,
    fun k hfetch hseqs => ?_, fun hfetch hseqs i hi => ?_⟩
  · have hrun := State.fetch_again hfetch (by decide) ⟨0x00, none⟩
    rw [State.decoded_run (op := 0) (by decide) rfl (by decide)] at hrun
    refine ⟨_, congrArg Host.Outcome.next (State.command_run hrun _), ?_⟩
    exact u.updCore_only c fun k => { k with pc := k.pc + 1 }
  · have hrun := State.fetch_word hready hfabric ⟨0x00, none⟩
    rw [leNat_command (by decide), State.decoded_run (op := 0) (by decide) rfl (by decide), hstarted] at hrun
    refine ⟨_, congrArg Host.Outcome.next (State.command_run hrun _), ?_⟩
    exact State.nextCmd_only (u.updCore_only c fun x => { x with started := some u.clk.ref })
  · have hrun := State.fetch_again hfetch (by decide) ⟨0x0C, none⟩
    rw [State.decoded_run (op := 0x0C) (by decide) rfl (by decide)] at hrun
    refine ⟨_, congrArg Host.Outcome.next (State.command_run hrun _), ?_⟩
    exact u.updCore_only c fun k => { k with ended := true }
  · have hdone := State.fetch_again hfetch (by decide) ⟨0x00, none⟩
    rw [State.decoded_other (fs := []) (by decide) (by decide) (by decide)] at hdone
    exact ⟨_, congrArg Host.Outcome.next (State.command_done hdone _), rfl⟩
  · obtain ⟨v, hv⟩ : ∃ v, v = 0x0B * 2 ^ 120 + mask.toNat := ⟨_, rfl⟩
    rw [← hv] at hfetch
    obtain ⟨hlt, hop, hbits, hok⟩ := sync_word mask.isLt hv
    have hrun := State.fetch_again hfetch hlt ⟨0x0B, none⟩
    rw [State.decoded_run hop rfl hok] at hrun
    refine ⟨_, congrArg Host.Outcome.next (State.command_run hrun _), ?_⟩
    dsimp only
    rw [hbits, if_pos hsynced]
    exact State.nextCmd_only (u.updCore_only c fun k => { k with touched := k.touched.filter (fun t => !bit mask.toNat t.engine) })
  · obtain ⟨v, hv⟩ : ∃ v, v = 0x0B * 2 ^ 120 + mask.toNat := ⟨_, rfl⟩
    rw [← hv] at hfetch
    obtain ⟨hlt, hop, hbits, hok⟩ := sync_word mask.isLt hv
    have hrun := State.fetch_again hfetch hlt ⟨0x0B, none⟩
    rw [State.decoded_run hop rfl hok] at hrun
    refine ⟨_, congrArg Host.Outcome.next (State.command_run hrun _), ?_⟩
    dsimp only
    rw [hbits, if_neg (by simp [hsynced])]
  · obtain ⟨v, hv⟩ : ∃ v, v = 7 * 2 ^ 120 + first * 2 ^ 116 + num * 2 ^ 112 + src.toNat * 2 ^ 64 := ⟨_, rfl⟩
    rw [← hv] at hfetch
    obtain ⟨hlt, hop, hword, hok⟩ := stride_word (by omega) (by omega) src.isLt hv
    have hrun := State.fetch_again hfetch hlt ⟨0x07, none⟩
    rw [State.decoded_run hop rfl hok] at hrun
    refine ⟨_, congrArg Host.Outcome.next (State.command_run hrun _), ?_⟩
    dsimp only
    rw [State.doStride_loads hword ⟨hfirst, hnum, hsum⟩ hfault hjob hstrms]
    have htouch := u.touch_only c [{ engine := engSeq, space := 0, first := src.toNat, len := 4 * num }]
    rw [NeuralCore.touching_seq _ rfl] at htouch
    have hkeep := htouch.1
    have honly := State.nextCmd_only (htouch.trans (State.updCore_only _ c
      (fun k => (List.range num).foldl (NeuralCore.loadStride (u.galley c src.toNat (4 * num)) first) k)))
    rw [hkeep] at honly
    obtain ⟨hstride, hstrideOk, hframe⟩ := NeuralCore.loadStrides (u.galley c src.toNat (4 * num)) first num
      { u.core c with racy := ((u.core c).touching [{ engine := engSeq, space := 0, first := src.toNat, len := 4 * num }]).racy }
    generalize List.foldl _ _ _ = x at *
    generalize State.nextCmd _ _ = t at *
    obtain ⟨hself, hothers, ht⟩ := honly
    refine ⟨fun e => ?_, fun e => ?_, ?_, hothers, ht⟩
    · rw [hself]
      exact hstride e
    · rw [hself]
      exact hstrideOk e
    · rw [hself, hframe]
  · obtain ⟨v, hv⟩ : ∃ v, v = 7 * 2 ^ 120 + first * 2 ^ 116 + num * 2 ^ 112 + src.toNat * 2 ^ 64 := ⟨_, rfl⟩
    rw [← hv] at hfetch
    obtain ⟨hlt, hop, hword, hok⟩ := stride_word (by omega) (by omega) src.isLt hv
    have hrun := State.fetch_again hfetch hlt ⟨0x07, none⟩
    rw [State.decoded_run hop rfl hok] at hrun
    exact ⟨_, congrArg Host.Outcome.next (State.command_run hrun _), State.doStride_waits hword ⟨hfirst, hnum, hsum⟩ hfault hjob⟩
  · have hrow : IsRow i c := isRow_of_mem (by simp only [List.mem_cons, List.not_mem_nil, or_false] at hi ⊢; tauto)
    refine hrow.done (u := u.abortSlug c 1) (fun kind => ?_) (u.abortSlug_spec hseqs (by decide) (by decide))
    rw [State.fetch_again hfetch v.isLt, State.decoded_unknown (by rwa [bits_opcode v.isLt])]
  · obtain ⟨hop, hspoiled⟩ := onlyFields_power k
    have hlt : 2 ^ k.val < 2 ^ 128 := Nat.pow_lt_pow_right (by decide) (by omega)
    refine (isRow_of_mem (c := c) (i := .nop c) (by simp)).done (u := u.abortSlug c 2) (fun kind => ?_) (u.abortSlug_spec hseqs (by decide) (by decide))
    rw [State.fetch_again hfetch hlt, State.decoded_spoiled (fs := []) (by rw [hop]; rfl) hspoiled]
  · have hrow : IsRow i c := isRow_of_mem (by simp only [List.mem_cons, List.not_mem_nil, or_false] at hi ⊢; tauto)
    exact hrow.done (u := u.abortSlug c 7) (fun kind => State.fetch_error hfetch kind) (u.abortSlug_spec hseqs (by decide) (by decide))

end Machine
end Sys2Proof
end

section
/-!
SUPPORT. A neural core that is freed or retired (08 R225-R231): its entry exactly, and what else moves.
-/
namespace Sys2Proof
namespace Machine

variable {s : State}

/-- The entry of a core whose engines have stopped. -/
def NeuralCore.stopped (k : NeuralCore) : NeuralCore :=
  { k with
    waiting := false, drains := [], mats := [], posts := [], strms := [], job := none, claims := [], touched := [], ended := false, started := none }

theorem State.stopEngines_core (s : State) (c k : Nat) : (s.stopEngines c).core k = if k = c then (s.core c).stopped else s.core k :=
  State.core_of_put rfl k

theorem State.setCore_core (s : State) (c : Nat) (x : CoreState) (k : Nat) :
    (s.setCore c x).core k = if k = c then { s.core c with state := x } else s.core k := by
  unfold State.setCore
  split
  · next h =>
    subst h
    split
    · next hk => rw [hk]
    · rfl
  · show (s.updCore c fun y => { y with state := x }).core k = _
    exact State.core_updCore ..

theorem State.setCore_eq (s : State) (c : Nat) (x : CoreState) : s.setCore c x = { s with nc := { s.nc with core := (s.setCore c x).nc.core }, rep := (s.setCore c x).rep } := by
  unfold State.setCore
  split <;> rfl

theorem State.setCore_counted {u : State} {ks : List Nat} (h : Counted u s ks) (c : Nat) (x : CoreState) : Counted u (s.setCore c x) ks :=
  (s.setCore_touched c x).1.counted h

/-- The entry of a core that is retired. -/
def NeuralCore.retiredFor (k : NeuralCore) (reason : Nat) : NeuralCore := { k.stopped with reason := reason, retire := false, state := .retired }

/-- A core on its way out: stopped, with its reason. -/
def State.leaving (s : State) (c reason : Nat) : State :=
  ((s.stopEngines c).updCore c fun k => { k with reason := reason, retire := false }).setCore c .retired

theorem State.retireCore_def (s : State) (c reason : Nat) : ∃ e : Ev, s.retireCore c reason =
    (if reason ≤ 3 then (s.leaving c reason).count (0x2870 + c) 6 else s.leaving c reason).raise e := ⟨_, rfl⟩

theorem State.leaving_core (s : State) (c reason k : Nat) :
    (s.leaving c reason).core k = if k = c then (s.core c).retiredFor reason else s.core k := by
  unfold State.leaving
  rw [State.setCore_core, State.core_updCore, State.core_updCore, State.stopEngines_core, State.stopEngines_core]
  split
  · rw [if_pos rfl, if_pos rfl]
    rfl
  · rfl

theorem State.leaving_eq (s : State) (c reason : Nat) : s.leaving c reason = { s with
    nc := { s.nc with core := (s.leaving c reason).nc.core }, qn := { s.qn with parked := (s.leaving c reason).qn.parked }
    rg := { s.rg with blocked := (s.leaving c reason).rg.blocked }, rep := (s.leaving c reason).rep } := by
  unfold State.leaving
  rw [State.setCore_eq]
  rfl

theorem State.leaving_counted (s : State) (c reason : Nat) : Counted s (s.leaving c reason) [] :=
  State.setCore_counted (s := (s.stopEngines c).updCore c fun k => { k with reason := reason, retire := false }) ((Counted.refl s).of_rep rfl) c .retired

theorem State.retireCore_core (s : State) (c reason k : Nat) :
    (s.retireCore c reason).core k = if k = c then (s.core c).retiredFor reason else s.core k := by
  obtain ⟨e, he⟩ := s.retireCore_def c reason
  rw [he, ← State.leaving_core]
  split <;> rfl

theorem State.retireCore_eq (s : State) (c reason : Nat) : s.retireCore c reason = { s with
    nc := { s.nc with core := (s.retireCore c reason).nc.core }, qn := { s.qn with parked := (s.retireCore c reason).qn.parked }
    rg := { s.rg with blocked := (s.retireCore c reason).rg.blocked }, rep := (s.retireCore c reason).rep } := by
  obtain ⟨e, he⟩ := s.retireCore_def c reason
  have hleaving := s.leaving_eq c reason
  rw [he]
  generalize s.leaving c reason = u at *
  split
  · rw [hleaving]
    rfl
  · rw [hleaving]
    rfl

/-- A core retired after a test is counted. -/
theorem State.retireCore_tested (s : State) (c : Nat) {reason : Nat} (h : reason ≤ 3) : Counted s (s.retireCore c reason) [key (0x2870 + c) 6] := by
  obtain ⟨e, he⟩ := s.retireCore_def c reason
  rw [he, if_pos h]
  exact ((s.leaving_counted c reason).and_count List.not_mem_nil).raise _

/-- The waits that a step leaves are waits that stood before it. -/
structure WaitsKept (s t : State) : Prop where
  blocked : ∀ x ∈ t.rg.blocked, x ∈ s.rg.blocked
  parked : ∀ x ∈ t.qn.parked, x ∈ s.qn.parked

theorem WaitsKept.of_eq {t : State} (hrg : t.rg = s.rg) (hqn : t.qn = s.qn) : WaitsKept s t :=
  ⟨fun x hx => by rwa [hrg] at hx, fun x hx => by rwa [hqn] at hx⟩

theorem State.setCore_waits (s : State) (c : Nat) (x : CoreState) : WaitsKept s (s.setCore c x) := by
  refine .of_eq ?_ ?_ <;> rw [State.setCore_eq]

theorem State.stopEngines_waits (s : State) (c : Nat) : WaitsKept s (s.stopEngines c) :=
  ⟨fun _ hx => List.mem_of_mem_filter hx, fun _ hx => List.mem_of_mem_filter hx⟩

theorem State.stopEngines_none (s : State) (c : Fin 16) : (∀ x ∈ (s.stopEngines c).rg.blocked, x.req ≠ .core c)
    ∧ ∀ x ∈ (s.stopEngines c).qn.parked, x.who ≠ .core c :=
  ⟨fun x hx hreq => by simpa [hreq] using (List.mem_filter.1 hx).2, fun x hx hwho => by simpa [hwho] using (List.mem_filter.1 hx).2⟩

theorem State.retireCore_waits (s : State) (c reason : Nat) : WaitsKept s (s.retireCore c reason) := by
  obtain ⟨e, he⟩ := s.retireCore_def c reason
  have hwaits : WaitsKept s (s.leaving c reason) := by
    obtain ⟨hb, hp⟩ := State.setCore_waits ((s.stopEngines c).updCore c fun k => { k with reason := reason, retire := false }) c .retired
    obtain ⟨hb', hp'⟩ := s.stopEngines_waits c
    exact ⟨fun x hx => hb' x (hb x hx), fun x hx => hp' x (hp x hx)⟩
  rw [he]
  generalize s.leaving c reason = u at *
  split
  · exact ⟨hwaits.1, hwaits.2⟩
  · exact ⟨hwaits.1, hwaits.2⟩

theorem State.coreFree_waits (s : State) (c : Nat) : WaitsKept s (s.coreFree c) := by
  unfold State.coreFree
  split
  · exact s.retireCore_waits ..
  · split
    · exact s.setCore_waits ..
    · exact s.setCore_waits ..

/-- A core that is neither retired nor tested again is idle. -/
theorem State.coreFree_idle {c : Nat} (hretire : (s.core c).retire = false) (htesting : bit s.nc.testing c = false) : s.coreFree c = s.setCore c .idle := by
  unfold State.coreFree
  simp [hretire, htesting]

theorem State.coreFree_stopped {c : Nat} (hended : (s.core c).ended = false) (hstarted : (s.core c).started = none) :
    ((s.coreFree c).core c).ended = false ∧ ((s.coreFree c).core c).started = none := by
  unfold State.coreFree
  split
  · rw [State.retireCore_core, if_pos rfl]
    exact ⟨rfl, rfl⟩
  · split <;> rw [State.setCore_core, if_pos rfl] <;> exact ⟨hended, hstarted⟩

end Machine
end Sys2Proof
end

section
/-!
PROOF. Tests, retirement and the ends of slugs (07 R191, R197; 08 R221-R231; 10 R264-R268).
-/
namespace Sys2Proof
namespace Machine

variable {s : State} {c : Fin 16}

/-! ### Tests -/

theorem State.coreLive_new {c : Nat} (h : bit s.rs.live c = false) :
    s.coreLive c = { s with rs := { s.rs with live := s.rs.live + 2 ^ c, started := true } } := by
  unfold State.coreLive
  simp [h]

theorem startupTest_passes (hin : s.inStartup c = true) (hretire : (s.core c).retire = false) : Completes (.startupTestComplete c true) s (fun t =>
    t.core c = { s.core c with state := .idle, galley := [], wForme := [], aForme := [], vForme := [], pSlot := [], pFull := 0, plane := [], cur := []
                               testBase := s.clk.ref }
    ∧ (∀ d, d ≠ c.val → t.core d = s.core d) ∧ t.rs = { s.rs with live := s.rs.live + 2 ^ c.val, started := true }
    ∧ t = { s with nc := { s.nc with core := t.nc.core }, rs := t.rs, rep := t.rep }) := by
  obtain ⟨⟨-, hlive⟩, htesting⟩ : ((s.core c).state = .testing ∧ bit s.rs.live c = false) ∧ bit s.nc.testing c = false := by
    simpa [State.inStartup] using hin
  have hcore : ∀ k, (((s.zeroCore c).updCore c (fun k => { k with testBase := s.clk.ref })).coreLive c).core k = if k = c.val then { s.core c with
      galley := [], wForme := [], aForme := [], vForme := [], pSlot := [], pFull := 0, plane := [], cur := [], testBase := s.clk.ref } else s.core k := by
    intro k
    show ((s.zeroCore c).updCore c (fun k => { k with testBase := s.clk.ref })).core k = _
    unfold State.zeroCore
    rw [State.core_updCore, State.core_updCore, State.core_updCore]
    split
    · rw [if_pos rfl]
    · rfl
  have hrs : (((s.zeroCore c).updCore c (fun k => { k with testBase := s.clk.ref })).coreLive c).rs =
      { s.rs with live := s.rs.live + 2 ^ c.val, started := true } := by
    rw [State.coreLive_new (s := (s.zeroCore c).updCore c (fun k => { k with testBase := s.clk.ref })) hlive]
    rfl
  have hframe : ((s.zeroCore c).updCore c (fun k => { k with testBase := s.clk.ref })).coreLive c = { s with
      nc := { s.nc with core := (((s.zeroCore c).updCore c (fun k => { k with testBase := s.clk.ref })).coreLive c).nc.core }
      rs := (((s.zeroCore c).updCore c (fun k => { k with testBase := s.clk.ref })).coreLive c).rs } := rfl
  refine ⟨_, congrArg Host.Outcome.next ((if_neg (by simp [hin])).trans (if_pos rfl)), ?_⟩
  generalize ((s.zeroCore c).updCore c (fun k => { k with testBase := s.clk.ref })).coreLive c = u at *
  rw [State.coreFree_idle (by rw [hcore, if_pos rfl]; exact hretire) (by rw [hframe]; exact htesting)]
  refine ⟨?_, fun d hd => ?_, ?_, ?_⟩
  · rw [State.setCore_core, if_pos rfl, hcore, if_pos rfl]
  · rw [State.setCore_core, if_neg hd, hcore, if_neg hd]
  · rw [State.setCore_eq, hrs]
  · rw [State.setCore_eq, hframe]

/-- A core retired by a test. -/
theorem State.retireCore_test (s : State) (c : Fin 16) {reason : Nat} (h : reason ≤ 3) : ((s.retireCore c reason).core c).state = .retired
    ∧ ((s.retireCore c reason).core c).reason = reason ∧ (∀ d, d ≠ c.val → (s.retireCore c reason).core d = s.core d)
    ∧ Counted s (s.retireCore c reason) [key (0x2870 + c) 6]
    ∧ s.retireCore c reason = { s with nc := { s.nc with core := (s.retireCore c reason).nc.core }, qn := (s.retireCore c reason).qn
                                       rg := (s.retireCore c reason).rg, rep := (s.retireCore c reason).rep } := by
  refine ⟨by rw [State.retireCore_core, if_pos rfl]; rfl, by rw [State.retireCore_core, if_pos rfl]; rfl,
    fun d hd => by rw [State.retireCore_core, if_neg hd], s.retireCore_tested c h, ?_⟩
  rw [State.retireCore_eq]

theorem shortTest_passes (htest : (s.core c).state = .testing) (hlive : bit s.rs.live c = true) (htesting : bit s.nc.testing c = false)
    (hretire : (s.core c).retire = false) : Completes (.shortTestComplete c true) s (fun t =>
      t.core c = { s.core c with state := .idle, wForme := [], aForme := [], vForme := [], pSlot := [], pFull := 0, plane := [], cur := [] }
      ∧ (∀ d, d ≠ c.val → t.core d = s.core d) ∧ Counted s t [key (0x2870 + c) 4] ∧ t = { s with nc := { s.nc with core := t.nc.core }, rep := t.rep }) := by
  refine ⟨_, congrArg Host.Outcome.next ((if_neg (by simp [htest, hlive, htesting])).trans (if_pos rfl)), ?_⟩
  have hcore : ∀ k, ((s.updCore c (fun k => { k with wForme := [], aForme := [], vForme := [], pSlot := [], pFull := 0, plane := [], cur := [] })).count
      (0x2870 + c.val) 4).core k = if k = c.val then { s.core c with
        wForme := [], aForme := [], vForme := [], pSlot := [], pFull := 0, plane := [], cur := [] } else s.core k := fun k => State.core_updCore ..
  have hcount : Counted s ((s.updCore c (fun k => { k with wForme := [], aForme := [], vForme := [], pSlot := [], pFull := 0, plane := [], cur := [] })).count
      (0x2870 + c.val) 4) [key (0x2870 + c) 4] := ((Counted.refl s).of_rep rfl).and_count List.not_mem_nil
  have hframe : (s.updCore c (fun k => { k with wForme := [], aForme := [], vForme := [], pSlot := [], pFull := 0, plane := [], cur := [] })).count
      (0x2870 + c.val) 4 = { s with
        nc := { s.nc with core := ((s.updCore c (fun k => { k with
          wForme := [], aForme := [], vForme := [], pSlot := [], pFull := 0, plane := [], cur := [] })).count (0x2870 + c.val) 4).nc.core }
        rep := ((s.updCore c (fun k => { k with
          wForme := [], aForme := [], vForme := [], pSlot := [], pFull := 0, plane := [], cur := [] })).count (0x2870 + c.val) 4).rep } := rfl
  generalize (s.updCore c (fun k => { k with wForme := [], aForme := [], vForme := [], pSlot := [], pFull := 0, plane := [], cur := [] })).count
      (0x2870 + c.val) 4 = u at *
  rw [State.coreFree_idle (by rw [hcore, if_pos rfl]; exact hretire) (by rw [hframe]; exact htesting)]
  refine ⟨?_, fun d hd => ?_, State.setCore_counted hcount c .idle, ?_⟩
  · rw [State.setCore_core, if_pos rfl, hcore, if_pos rfl]
  · rw [State.setCore_core, if_neg hd, hcore, if_neg hd]
  · rw [State.setCore_eq, hframe]

/-! ### RETIRE and TEST -/

/-- RETIRE at one core of the mask. -/
def State.retireOne (mask : Nat) (s : State) (c : Nat) : State :=
  if !bit mask c || (s.core c).state == .retired then s
  else if (s.core c).state = .idle then s.retireCore c 6
  else s.updCore c (fun k => { k with retire := true })

/-- What RETIRE leaves of a core's entry. -/
def NeuralCore.retireBy (k : NeuralCore) (named : Bool) : NeuralCore :=
  if !named || k.state == .retired then k else if k.state = .idle then k.retiredFor 6 else { k with retire := true }

theorem State.retireOne_core (mask : Nat) (s : State) (c k : Nat) :
    (s.retireOne mask c).core k = if k = c then (s.core c).retireBy (bit mask c) else s.core k := by
  unfold State.retireOne NeuralCore.retireBy
  split
  · split
    · next hk => rw [hk]
    · rfl
  · split
    · exact State.retireCore_core ..
    · exact State.core_updCore ..

theorem State.retireOne_eq (mask : Nat) (s : State) (c : Nat) : s.retireOne mask c = { s with
    nc := { s.nc with core := (s.retireOne mask c).nc.core }, qn := (s.retireOne mask c).qn, rg := (s.retireOne mask c).rg
    rep := (s.retireOne mask c).rep } := by
  unfold State.retireOne
  split
  · rfl
  · split
    · rw [State.retireCore_eq]
    · rfl

theorem State.retireAll_core (mask : Nat) (l : List Nat) (hl : l.Nodup) (s : State) (k : Nat) :
    (l.foldl (State.retireOne mask) s).core k = if k ∈ l then (s.core k).retireBy (bit mask k) else s.core k := by
  induction l generalizing s with
  | nil => rfl
  | cons c l ih =>
    obtain ⟨hnot, hl⟩ := List.nodup_cons.1 hl
    rw [List.foldl_cons, ih hl, State.retireOne_core]
    by_cases hk : k = c
    · subst hk
      rw [if_neg hnot, if_pos rfl, if_pos List.mem_cons_self]
    · simp only [List.mem_cons, hk, false_or, if_false]

theorem State.retireAll_eq (mask : Nat) (l : List Nat) (s : State) : l.foldl (State.retireOne mask) s = { s with
    nc := { s.nc with core := (l.foldl (State.retireOne mask) s).nc.core }, qn := (l.foldl (State.retireOne mask) s).qn
    rg := (l.foldl (State.retireOne mask) s).rg, rep := (l.foldl (State.retireOne mask) s).rep } := by
  induction l generalizing s with
  | nil => rfl
  | cons c l ih => rw [List.foldl_cons, ih, State.retireOne_eq]

theorem retire_completes (hans : s.answers) (m : BitVec 16) : Completes (.retire m) s (fun t =>
    ((bit m.toNat c = false ∨ (s.core c).state = .retired) → t.core c = s.core c)
    ∧ (bit m.toNat c = true → (s.core c).state = .idle → (t.core c).state = .retired ∧ (t.core c).reason = 6)
    ∧ (bit m.toNat c = true → ((s.core c).state = .running ∨ (s.core c).state = .testing) → t.core c = { s.core c with retire := true })
    ∧ t.out.resp = some .ok ∧ t = { s with nc := { s.nc with core := t.nc.core }, qn := t.qn, rg := t.rg, rep := t.rep, out := t.out }) := by
  refine ⟨_, congrArg Host.Outcome.next (State.served_answers hans _ _), ?_⟩
  have hdone : s.writeRetire m.toNat = ((List.range 16).foldl (State.retireOne m.toNat) s, .ok) := rfl
  rw [hdone]
  have hcore : ((List.range 16).foldl (State.retireOne m.toNat) s).core c = (s.core c).retireBy (bit m.toNat c) :=
    (State.retireAll_core m.toNat (List.range 16) List.nodup_range s c).trans (if_pos (List.mem_range.2 c.isLt))
  have hframe := State.retireAll_eq m.toNat (List.range 16) s
  generalize (List.range 16).foldl (State.retireOne m.toNat) s = u at *
  refine ⟨fun h => hcore.trans (if_pos (by rcases h with h | h <;> simp [h])), fun hbit hidle => ?_, fun hbit hbusy => ?_, rfl, ?_⟩
  · have hself : u.core c = (s.core c).retiredFor 6 := hcore.trans ((if_neg (by simp [hbit, hidle])).trans (if_pos hidle))
    exact ⟨congrArg NeuralCore.state hself, congrArg NeuralCore.reason hself⟩
  · exact hcore.trans (by rcases hbusy with h | h <;> exact (if_neg (by simp [hbit, h])).trans (if_neg (by simp [h])))
  · dsimp only
    rw [hframe]
    rfl

theorem bit_powers (l : List Nat) (hl : l.Nodup) (k : Nat) : bit ((l.map (fun c => 2 ^ c)).sum) k = decide (k ∈ l) := by
  induction l generalizing k with
  | nil => simp [bit]
  | cons c l ih =>
    obtain ⟨hnot, hl⟩ := List.nodup_cons.1 hl
    have hfree : bit ((l.map (fun c => 2 ^ c)).sum) c = false := (ih hl c).trans (decide_eq_false hnot)
    rw [List.map_cons, List.sum_cons, Nat.add_comm, bit_add_two_pow hfree, ih hl k]
    by_cases hk : k = c <;> simp [hk]

/-- TEST at one core that it names. -/
def State.testOne (s : State) (c : Nat) : State := if (s.core c).state = .idle then s.setCore c .testing else s

theorem State.testOne_core (s : State) (c k : Nat) :
    (s.testOne c).core k = if k = c ∧ (s.core c).state = .idle then { s.core c with state := .testing } else s.core k := by
  unfold State.testOne
  split
  · next h =>
    rw [State.setCore_core]
    simp [h]
  · next h => rw [if_neg fun hk => h hk.2]

theorem State.testOne_eq (s : State) (c : Nat) : s.testOne c = { s with nc := { s.nc with core := (s.testOne c).nc.core }, rep := (s.testOne c).rep } := by
  unfold State.testOne
  split
  · rw [State.setCore_eq]
  · rfl

theorem State.testAll_core (l : List Nat) (hl : l.Nodup) (s : State) (k : Nat) :
    (l.foldl State.testOne s).core k = if k ∈ l ∧ (s.core k).state = .idle then { s.core k with state := .testing } else s.core k := by
  induction l generalizing s with
  | nil => simp
  | cons c l ih =>
    obtain ⟨hnot, hl⟩ := List.nodup_cons.1 hl
    rw [List.foldl_cons, ih hl, State.testOne_core]
    by_cases hk : k = c
    · subst hk
      simp [hnot]
    · simp [hk]

theorem State.testAll_eq (l : List Nat) (s : State) : l.foldl State.testOne s =
    { s with nc := { s.nc with core := (l.foldl State.testOne s).nc.core }, rep := (l.foldl State.testOne s).rep } := by
  induction l generalizing s with
  | nil => rfl
  | cons c l ih => rw [List.foldl_cons, ih, State.testOne_eq]

/-- The cores that TEST takes. -/
def State.testable (s : State) (mask : Nat) : List Nat := (List.range 16).filter (fun c => bit mask c && !s.retired c)

theorem State.mem_testable (s : State) (mask : Nat) (c : Fin 16) : c.val ∈ s.testable mask ↔ bit mask c = true ∧ s.retired c = false := by
  simp [State.testable, c.isLt]

theorem test_runs (hans : s.answers) (m : BitVec 16) (hadmit : s.anyAdmit = false) : Completes (.test m) s (fun t =>
    t.od.longop = some { code := 6, inst := 255, arg := m.toNat, started := s.clk.ref } ∧ bit t.nc.testing c = (bit m.toNat c && !s.retired c)
    ∧ t.core c = (if bit m.toNat c = true ∧ (s.core c).state = .idle then { s.core c with state := .testing } else s.core c)
    ∧ t.out.resp = some .ok ∧ t = { s with od := { s.od with longop := t.od.longop }, nc := t.nc, rep := t.rep, out := t.out }) := by
  refine ⟨_, congrArg Host.Outcome.next (State.served_answers hans _ _), ?_⟩
  have hdone : s.writeTest m.toNat = ((s.testable m.toNat).foldl State.testOne { s.startLong 6 255 m.toNat with
      nc := { s.nc with testing := ((s.testable m.toNat).map (fun c => 2 ^ c)).sum, failed := 0 } }, .ok) := if_neg (by simp [hadmit])
  have hnodup : (s.testable m.toNat).Nodup := List.nodup_range.filter _
  rw [hdone]
  have hcore := State.testAll_core (s.testable m.toNat) hnodup { s.startLong 6 255 m.toNat with
    nc := { s.nc with testing := ((s.testable m.toNat).map (fun c => 2 ^ c)).sum, failed := 0 } } c
  have hframe := State.testAll_eq (s.testable m.toNat) { s.startLong 6 255 m.toNat with
    nc := { s.nc with testing := ((s.testable m.toNat).map (fun c => 2 ^ c)).sum, failed := 0 } }
  generalize (s.testable m.toNat).foldl State.testOne _ = u at *
  refine ⟨?_, ?_, hcore.trans ?_, rfl, ?_⟩
  · dsimp only
    rw [hframe]
    rfl
  · have htesting : u.nc.testing = ((s.testable m.toNat).map (fun c => 2 ^ c)).sum := by rw [hframe]
    refine (congrArg (bit · c) htesting).trans ((bit_powers _ hnodup c).trans (Bool.eq_iff_iff.2 ?_))
    rw [decide_eq_true_iff, State.mem_testable]
    simp
  · show (if c.val ∈ s.testable m.toNat ∧ (s.core c).state = .idle then { s.core c with state := .testing } else s.core c) = _
    refine if_congr ?_ rfl rfl
    rw [State.mem_testable]
    refine ⟨fun h => ⟨h.1.1, h.2⟩, fun h => ⟨⟨h.1, ?_⟩, h.2⟩⟩
    unfold State.retired
    rw [h.2]
    rfl
  · dsimp only
    rw [hframe]
    rfl

/-! ### Slugs that are dropped -/

/-- A core freed after its slug has been dropped: `w` is the state in which the fault is kept and the slug is gone. -/
theorem State.coreFree_dropped {cause : Nat} {w : State} {rs : Roster} (hw : w = { s.faultKept c cause with rs := rs, rep := w.rep }) :
    ((w.coreFree c).core c).state ≠ .running ∧ ((w.coreFree c).core c).cause = cause ∧ (∀ d, d ≠ c.val → (w.coreFree c).core d = s.core d)
    ∧ (∀ x ∈ (w.coreFree c).rg.blocked, x.req ≠ .core c) ∧ (∀ x ∈ (w.coreFree c).qn.parked, x.who ≠ .core c)
    ∧ (∀ ks, Counted s w ks → Counted s (w.coreFree c) ks)
    ∧ w.coreFree c = { s with nc := { s.nc with core := (w.coreFree c).nc.core }, qn := (w.coreFree c).qn, rg := (w.coreFree c).rg
                              rs := (w.coreFree c).rs, rep := (w.coreFree c).rep } := by
  obtain ⟨⟨hstands, hothers, hcounted, hframe⟩, hstate⟩ := w.coreFree_touched c
  have hcore : ∀ k, w.core k = (s.faultKept c cause).core k := fun k => by rw [hw]; rfl
  have hkept := (hcore c).trans ((s.faultKept_core c cause c).trans (if_pos rfl))
  obtain ⟨hblocked, hparked⟩ := w.coreFree_waits c
  obtain ⟨hnone, hnone'⟩ := s.stopEngines_none c
  refine ⟨hstate, by rw [hstands.cause, hkept], fun d hd => ?_, fun x hx => hnone x ?_, fun x hx => hnone' x ?_, fun ks h => hcounted h, ?_⟩
  · rw [hothers d hd, hcore, State.faultKept_core, if_neg hd]
  · have hin := hblocked x hx
    rw [hw] at hin
    exact hin
  · have hin := hparked x hx
    rw [hw] at hin
    exact hin
  · rw [hframe, hw]
    rfl

/-- The slug's entry is empty. -/
def State.slugLost (u : State) (c : Nat) : State := { u with rs := { u.rs with slug := u.rs.slug.put c {} } }

theorem State.dropSlug_def (s : State) (c cause : Nat) : s.dropSlug c cause =
    (let k := s.core c
    let u := s.faultKept c cause
    let u := if cause = 6 then u
      else if cause = 5 then (u.count (0x2870 + c) 3).raise { code := 0x1704, unit := c, station := k.station }
      else (u.count (0x2870 + c) 2).raise { code := 0x1705, unit := c, station := k.station }
    ((u.slugSeqs c).foldl (fun s e => s.endSeq e .aborted) (u.slugLost c)).coreFree c) := rfl

theorem State.faultKept_slugSeqs (s : State) (c cause : Nat) : (s.faultKept c cause).slugSeqs c = s.slugSeqs c := rfl

theorem State.slugSeqs_of_rs {t u : State} (h : t.rs = u.rs) (c : Nat) : t.slugSeqs c = u.slugSeqs c := by
  unfold State.slugSeqs
  rw [h]

theorem State.dropSlug_five (hseqs : s.slugSeqs c = []) : ∃ w : State, s.dropSlug c 5 = w.coreFree c
    ∧ w = { s.faultKept c 5 with rs := w.rs, rep := w.rep } ∧ Counted s w [key (0x2870 + c) 3] := by
  have hkept := (s.faultKept_slugSeqs c 5).trans hseqs
  have hcount : Counted s (((s.faultKept c 5).count (0x2870 + c.val) 3).raise { code := 0x1704, unit := c.val, station := (s.core c.val).station })
      [key (0x2870 + c.val) 3] := Counted.count_raise (u := s.faultKept c 5) rfl _
  rw [State.dropSlug_def]
  dsimp only
  rw [if_neg (by decide), if_pos rfl]
  generalize s.faultKept c 5 = v at *
  refine ⟨((v.count (0x2870 + c) 3).raise { code := 0x1704, unit := c, station := (s.core c).station }).slugLost c, ?_, rfl, hcount.of_rep rfl⟩
  rw [State.slugSeqs_of_rs (t := (v.count (0x2870 + c) 3).raise { code := 0x1704, unit := c, station := (s.core c).station }) (u := v) rfl, hkept,
    List.foldl_nil]

theorem State.dropSlug_six (hseqs : s.slugSeqs c = []) : ∃ w : State, s.dropSlug c 6 = w.coreFree c
    ∧ w = { s.faultKept c 6 with rs := w.rs, rep := w.rep } ∧ w.rep = s.rep := by
  have hkept := (s.faultKept_slugSeqs c 6).trans hseqs
  have hrep : (s.faultKept c 6).rep = s.rep := rfl
  rw [State.dropSlug_def]
  dsimp only
  rw [if_pos rfl]
  generalize s.faultKept c 6 = v at *
  refine ⟨v.slugLost c, ?_, rfl, hrep⟩
  rw [hkept, List.foldl_nil]

theorem slugOverrun_drops (hseqs : s.slugSeqs c = []) (hrun : (s.core c).state = .running) (hstarted : (s.core c).started ≠ none)
    (hended : (s.core c).ended = false) : Completes (.slugOverrun c) s (fun t =>
      (t.core c).state ≠ .running ∧ (t.core c).cause = 5 ∧ Counted s t [key (0x2870 + c) 3] ∧ (∀ d, d ≠ c.val → t.core d = s.core d)
      ∧ t = { s with nc := { s.nc with core := t.nc.core }, qn := t.qn, rg := t.rg, rs := t.rs, rep := t.rep }) := by
  obtain ⟨w, hdrop, hw, hcount⟩ := State.dropSlug_five hseqs
  obtain ⟨hstate, hcause, hothers, -, -, hcounted, hframe⟩ := State.coreFree_dropped hw
  exact ⟨_, congrArg Host.Outcome.next ((if_neg (by simp [hrun, hstarted, hended])).trans hdrop), hstate, hcause, hcounted _ hcount, hothers, hframe⟩

/-- A breach of a limit drops the slug and is counted. -/
theorem State.breach_spec (hseqs : s.slugSeqs c = []) (what : Nat) : ((s.breach c what).core c).state ≠ .running ∧ ((s.breach c what).core c).cause = 6
    ∧ Counted s (s.breach c what) [key 0x2862 2] ∧ (∀ x ∈ (s.breach c what).rg.blocked, x.req ≠ .core c)
    ∧ (∀ x ∈ (s.breach c what).qn.parked, x.who ≠ .core c) ∧ ∀ d, d ≠ c.val → (s.breach c what).core d = s.core d := by
  obtain ⟨e, hbreach⟩ : ∃ e : Ev, s.breach c what = ((s.count 0x2862 2).raise e).dropSlug c 6 := ⟨_, rfl⟩
  have hcount := Counted.count_raise (s := s) (u := s) (i := 0x2862) (j := 2) rfl e
  have hcore : ∀ k, ((s.count 0x2862 2).raise e).core k = s.core k := fun _ => rfl
  have hseqs' : ((s.count 0x2862 2).raise e).slugSeqs c = [] := hseqs
  rw [hbreach]
  generalize (s.count 0x2862 2).raise e = u at *
  obtain ⟨w, hdrop, hw, hrep⟩ := State.dropSlug_six hseqs'
  obtain ⟨hstate, hcause, hothers, hblocked, hparked, -, -⟩ := State.coreFree_dropped hw
  rw [hdrop]
  exact ⟨hstate, hcause, (w.coreFree_touched c).1.counted (hcount.of_rep hrep), hblocked, hparked, fun d hd => (hothers d hd).trans (hcore d)⟩

/-! ### Slugs that complete -/

theorem Counted.countN_zero {t : State} {ks : List Nat} (h : Counted s t ks) (i j : Nat) : Counted s (t.countN i j 0) ks :=
  h.of_tally fun k hk => Reporting.settle_cnt _ _ k hk

/-- A slug has ended well: its core has stopped and its entry is empty. -/
def State.slugDone (s : State) (c : Nat) : State :=
  let u := (((s.countN 0x285A 1 0).countN 0x285A 3 0).count (0x2870 + c) 1).stopEngines c
  { u with rs := { u.rs with slug := u.rs.slug.put c {} } }

theorem State.slugDone_counted (s : State) (c : Nat) : Counted s (s.slugDone c) [key (0x2870 + c) 1] :=
  ((((Counted.refl s).countN_zero 0x285A 1).countN_zero 0x285A 3).and_count List.not_mem_nil).of_rep rfl

theorem State.slugDone_eq (s : State) (c : Nat) : s.slugDone c = { s with
    nc := { s.nc with core := (s.slugDone c).nc.core }, qn := { s.qn with parked := (s.slugDone c).qn.parked }
    rg := { s.rg with blocked := (s.slugDone c).rg.blocked }, rs := { s.rs with slug := s.rs.slug.put c {} }, rep := (s.slugDone c).rep } := by
  have hframe := ((((s.countN 0x285A 1 0).countN 0x285A 3 0).count (0x2870 + c) 1).stopEngines_touched c).1.frame
  unfold State.slugDone
  dsimp only
  generalize State.stopEngines _ _ = u at hframe ⊢
  rw [hframe]
  rfl

theorem State.slugDone_core (s : State) (c k : Nat) : (s.slugDone c).core k = if k = c then (s.core c).stopped else s.core k := by
  have hcore : ∀ k, (((s.countN 0x285A 1 0).countN 0x285A 3 0).count (0x2870 + c) 1).core k = s.core k := fun _ => rfl
  have hstop := (((s.countN 0x285A 1 0).countN 0x285A 3 0).count (0x2870 + c) 1).stopEngines_core c k
  rw [hcore, hcore] at hstop
  rw [← hstop]
  unfold State.slugDone
  generalize ((s.countN 0x285A 1 0).countN 0x285A 3 0).count (0x2870 + c) 1 = u
  rfl

/-- What a completed slug leaves once its core has stopped. -/
def State.slugSettled (u : State) (c : Nat) (sl : Slug) : State :=
  let (s, record, denied) := if sl.last then u.takeRecord c sl else (u, none, false)
  let s := s.noteCarry c sl
  let s := sl.seqs.foldl (fun s x => s.partDone c sl record denied x.1 x.2) s
  s.coreFree c

theorem slugComplete_eq (hrun : (s.core c).state = .running) (hended : (s.core c).ended = true) (hidle : (s.core c).enginesIdle = true) :
    exec (.slugComplete c 0 0) s = .next ((s.slugDone c).slugSettled c (s.rs.slug.at ({} : Slug) c)) := by
  have hslug : (((s.countN 0x285A 1 0).countN 0x285A 3 0).count (0x2870 + c) 1).rs.slug = s.rs.slug := rfl
  have hends : ¬ ((s.core c.val).state ≠ .running ∨ (s.core c.val).ended = false ∨ (s.core c.val).enginesIdle = false) := by simp [hrun, hended, hidle]
  refine congrArg Host.Outcome.next ((if_neg hends).trans ?_)
  show (s.slugDone c).slugSettled c ((((s.countN 0x285A 1 0).countN 0x285A 3 0).count (0x2870 + c) 1).rs.slug.at ({} : Slug) c) = _
  rw [hslug]

theorem State.noteCarry_none {c : Nat} {sl : Slug} (h : committedFrom (s.ring (s.carryRing sl.package c)) sl.crStart = 0) : s.noteCarry c sl = s := if_pos h

theorem State.slugDone_ring (s : State) (c r : Nat) : (s.slugDone c).ring r = s.ring r := by
  rw [State.slugDone_eq]
  rfl

theorem State.slugDone_carry (s : State) (c p k : Nat) : (s.slugDone c).carryRing p k = s.carryRing p k := by
  rw [State.slugDone_eq]
  rfl

theorem State.slugDone_verdict (s : State) (c p k : Nat) : (s.slugDone c).verdictRing p k = s.verdictRing p k := by
  rw [State.slugDone_eq]
  rfl

theorem State.slugSettled_plain {c : Nat} {sl : Slug} (hcarry : committedFrom (s.ring (s.carryRing sl.package c)) sl.crStart = 0) (hseqs : sl.seqs = [])
    (hlast : sl.last = false) : s.slugSettled c sl = s.coreFree c := by
  unfold State.slugSettled
  rw [hlast, if_neg Bool.false_ne_true]
  dsimp only
  rw [State.noteCarry_none hcarry, hseqs]
  rfl

theorem State.slugSettled_last {c : Nat} {sl : Slug} {k e : Nat} (hcarry : committedFrom (s.ring (s.carryRing sl.package c)) sl.crStart = 0)
    (hseqs : sl.seqs = [(k, e)]) (hlast : sl.last = true) (hverdict : committedFrom (s.ring (s.verdictRing sl.package c)) sl.vrStart < 16) :
    s.slugSettled c sl = (s.partDone c sl none false k e).coreFree c := by
  have hrecord : s.takeRecord c sl = (s, none, false) := if_pos hverdict
  unfold State.slugSettled
  rw [if_pos hlast, hrecord]
  dsimp only
  rw [State.noteCarry_none hcarry, hseqs]
  rfl

theorem slugComplete_frees (hrun : (s.core c).state = .running) (hended : (s.core c).ended = true) (hidle : (s.core c).enginesIdle = true)
    (hcarry : committedFrom (s.ring (s.carryRing (s.rs.slug.at ({} : Slug) c).package c)) (s.rs.slug.at ({} : Slug) c).crStart = 0)
    (hseqs : (s.rs.slug.at ({} : Slug) c).seqs = []) (hlast : (s.rs.slug.at ({} : Slug) c).last = false) : Completes (.slugComplete c 0 0) s (fun t =>
      (t.core c).state ≠ .running ∧ (t.core c).ended = false ∧ (t.core c).started = none ∧ t.rs.slug.at ({} : Slug) c = {} ∧ Counted s t [key (0x2870 + c) 1]
      ∧ (∀ d, d ≠ c.val → t.core d = s.core d)) := by
  have hdone := State.slugSettled_plain (s := s.slugDone c) (c := c) (sl := s.rs.slug.at ({} : Slug) c)
    (by rwa [State.slugDone_ring, State.slugDone_carry]) hseqs hlast
  refine ⟨_, (slugComplete_eq hrun hended hidle).trans (congrArg Host.Outcome.next hdone), ?_⟩
  have hcore := s.slugDone_core c
  have hcount := s.slugDone_counted c
  have hslug : (s.slugDone c).rs.slug = s.rs.slug.put c {} := by rw [State.slugDone_eq]
  generalize s.slugDone c = w at *
  obtain ⟨⟨-, hothers, hcounted, hframe⟩, hstate⟩ := w.coreFree_touched c
  have hself := (hcore c).trans (if_pos rfl)
  obtain ⟨hended', hstarted⟩ := State.coreFree_stopped (s := w) (c := c) (by rw [hself]; rfl) (by rw [hself]; rfl)
  refine ⟨hstate, hended', hstarted, ?_, hcounted hcount, fun d hd => (hothers d hd).trans ((hcore d).trans (if_neg hd))⟩
  rw [hframe]
  dsimp only
  rw [hslug, Tab.at_put_same]

/-- Counts of two steps, of different counters. -/
theorem Counted.then {t u : State} {ks ls : List Nat} (hst : Counted s t ks) (htu : Counted t u ls) (hnew : ∀ k ∈ ls, k ∉ ks) : Counted s u (ks ++ ls) :=
  fun k hk => by
  rw [htu k hk, hst k hk]
  by_cases hl : k ∈ ls
  · rw [if_pos hl, if_neg (hnew k hl), if_pos (List.mem_append_right _ hl)]
  · rw [if_neg hl]
    by_cases hs : k ∈ ks
    · rw [if_pos hs, if_pos (List.mem_append_left _ hs)]
    · rw [if_neg hs, if_neg (by simp [hl, hs])]

/-! ### A last part without a verdict -/

theorem State.seq_updSeq (s : State) (e k : Nat) (f : SeqEntry → SeqEntry) : (s.updSeq e f).seq k = if k = e then f (s.seq e) else s.seq k :=
  Tab.at_put ..

theorem State.sendVerdict_used {cue : Nat} (hup : s.link.up = true) (hused : (s.cueUse cue).used = true) (v : Verdict) :
    s.sendVerdict cue v = s.sendField (.verdict cue v) := if_pos (by simp [hup, hused])

theorem State.closeRecs_empty (h : s.rs.wins = []) (st e : Nat) : s.closeRecs st e = s := by
  have hsame : { s with rs := { s.rs with wins := [] } } = s := by rw [← h]
  unfold State.closeRecs
  rw [h]
  exact hsame

/-- A sequence without a verdict ends UNSEEN, is counted, and frees its entry. -/
theorem State.endSeq_unseen {e : Nat} (hbusy : (s.seq e).state ≠ .free) (hwins : s.rs.wins = []) (hup : s.link.up = true)
    (hused : (s.cueUse (s.seq e).cue).used = true) (hst : s.stState (s.seq e).station ≠ .draining) :
    (s.endSeq e .noVerdict).seq e = {} ∧ (s.endSeq e .noVerdict).link.txq = s.link.txq ++ [.verdict (s.seq e).cue .unseen]
    ∧ Counted s (s.endSeq e .noVerdict) [key 0x2880 0x0A] := by
  have hreport : s.reportEnd (s.seq e) .noVerdict = ((s.sendField (.verdict (s.seq e).cue .unseen)).count 0x2880 0x0A).raise
      { code := 0x1805, station := (s.seq e).station } := by
    show ((s.sendVerdict (s.seq e).cue .unseen).count 0x2880 0x0A).raise { code := 0x1805, station := (s.seq e).station } = _
    rw [State.sendVerdict_used hup hused]
  have hcount : Counted s (((s.sendField (.verdict (s.seq e).cue .unseen)).count 0x2880 0x0A).raise { code := 0x1805, station := (s.seq e).station })
      [key 0x2880 0x0A] := Counted.count_raise (u := s.sendField (.verdict (s.seq e).cue .unseen)) rfl _
  have hframe : ((s.sendField (.verdict (s.seq e).cue .unseen)).count 0x2880 0x0A).raise { code := 0x1805, station := (s.seq e).station } =
      { s.sendField (.verdict (s.seq e).cue .unseen) with
        rep := (((s.sendField (.verdict (s.seq e).cue .unseen)).count 0x2880 0x0A).raise { code := 0x1805, station := (s.seq e).station }).rep } := rfl
  unfold State.endSeq
  dsimp only
  rw [if_neg hbusy, hreport]
  generalize State.raise _ _ = u at *
  have hwins' : u.rs.wins = [] := by rw [hframe]; exact hwins
  have hst' : u.stState (s.seq e).station ≠ .draining := by rw [hframe]; exact hst
  rw [State.closeRecs_empty (by exact hwins')]
  unfold State.settleStation
  rw [if_neg (fun h => hst' h.1)]
  refine ⟨Tab.at_put_same .., ?_, hcount.of_rep rfl⟩
  dsimp only
  rw [hframe]
  rfl

theorem State.partDone_unseen {c : Nat} {sl : Slug} {k e : Nat} (he : e < 1024) (hlast : sl.last = true) (hrun : (s.seq e).partsRun = 1)
    (hleft : (s.seq e).partsLeft = []) (hdue : s.deadlineDue e = false) : s.partDone c sl none false k e =
      (s.updSeq e (fun q => { q with partsRun := q.partsRun - 1 })).endSeq e .noVerdict := by
  have hself : (s.updSeq e (fun q => { q with partsRun := q.partsRun - 1 })).seq e = { s.seq e with partsRun := (s.seq e).partsRun - 1 } :=
    (s.seq_updSeq e e _).trans (if_pos rfl)
  have hdue' : (s.updSeq e (fun q => { q with partsRun := q.partsRun - 1 })).deadlineDue e = false := by
    unfold State.deadlineDue
    rw [hself]
    exact hdue
  unfold State.partDone
  dsimp only
  rw [if_neg (show e ≠ seqGone by unfold seqGone; omega), if_pos ⟨by rw [hrun], hleft⟩, if_pos hlast, if_neg (by simp [hdue']), if_neg (by decide)]
  rfl

theorem slugComplete_unseen {k e : Nat} (hrun : (s.core c).state = .running) (hended : (s.core c).ended = true) (hidle : (s.core c).enginesIdle = true)
    (hcarry : committedFrom (s.ring (s.carryRing (s.rs.slug.at ({} : Slug) c).package c)) (s.rs.slug.at ({} : Slug) c).crStart = 0)
    (hseqs : (s.rs.slug.at ({} : Slug) c).seqs = [(k, e)]) (he : e < 1024) (hlast : (s.rs.slug.at ({} : Slug) c).last = true)
    (hverdict : committedFrom (s.ring (s.verdictRing (s.rs.slug.at ({} : Slug) c).package c)) (s.rs.slug.at ({} : Slug) c).vrStart < 16)
    (hwins : s.rs.wins = []) (hstate : (s.seq e).state = .running) (hparts : (s.seq e).partsRun = 1) (hleft : (s.seq e).partsLeft = [])
    (hdue : s.deadlineDue e = false) (hup : s.link.up = true) (hused : (s.cueUse (s.seq e).cue).used = true)
    (hst : s.stState (s.seq e).station ≠ .draining) : Completes (.slugComplete c 0 0) s (fun t =>
      (t.core c).state ≠ .running ∧ t.seq e = {} ∧ t.link.txq = s.link.txq ++ [.verdict (s.seq e).cue .unseen]
      ∧ Counted s t [key (0x2870 + c) 1, key 0x2880 0x0A]) := by
  have hdone := State.slugSettled_last (s := s.slugDone c) (c := c) (sl := s.rs.slug.at ({} : Slug) c)
    (by rwa [State.slugDone_ring, State.slugDone_carry]) hseqs hlast (by rwa [State.slugDone_ring, State.slugDone_verdict])
  refine ⟨_, (slugComplete_eq hrun hended hidle).trans (congrArg Host.Outcome.next hdone), ?_⟩
  have hcount := s.slugDone_counted c
  have hframe := s.slugDone_eq c
  generalize s.slugDone c = w at *
  have hseq : w.seq e = s.seq e := by rw [hframe]; rfl
  have hpart := State.partDone_unseen (s := w) (c := c) (sl := s.rs.slug.at ({} : Slug) c) (k := k) he hlast (by rw [hseq]; exact hparts)
    (by rw [hseq]; exact hleft) (by rw [hframe]; exact hdue)
  have hself : (w.updSeq e (fun q => { q with partsRun := q.partsRun - 1 })).seq e = { s.seq e with partsRun := (s.seq e).partsRun - 1 } :=
    (w.seq_updSeq e e _).trans ((if_pos rfl).trans (by rw [hseq]))
  obtain ⟨hfree, htxq, hcounted⟩ := State.endSeq_unseen (s := w.updSeq e (fun q => { q with partsRun := q.partsRun - 1 })) (e := e)
    (by rw [hself]; dsimp only; rw [hstate]; decide) (by rw [hframe]; exact hwins) (by rw [hframe]; exact hup) (by rw [hself, hframe]; exact hused)
    (by rw [hself, hframe]; exact hst)
  rw [hpart]
  have hstart : Counted s (w.updSeq e (fun q => { q with partsRun := q.partsRun - 1 })) [key (0x2870 + c) 1] := hcount.of_rep rfl
  generalize hv : w.updSeq e (fun q => { q with partsRun := q.partsRun - 1 }) = v at *
  have hvlink : v.link = s.link := by rw [← hv, hframe]; rfl
  obtain ⟨⟨-, -, hfreed, hlast'⟩, hidle'⟩ := (v.endSeq e .noVerdict).coreFree_touched c
  refine ⟨hidle', ?_, ?_, hfreed (hstart.then hcounted ?_)⟩
  · rw [hlast']
    exact hfree
  · rw [hlast', ← hvlink]
    dsimp only
    rw [htxq, hself]
  · intro j hj hk
    rw [List.mem_singleton] at hj hk
    have hindex := (key_inj (by decide) (by decide) (hj.symm.trans hk)).1
    have hlt := c.isLt
    omega

theorem coreMemoryUncorrectable_retires (h : s.retired c = false) (b : Bool) : Completes (.coreMemoryUncorrectable c b) s (fun t =>
    (t.core c).state = .retired ∧ (t.core c).reason = (if b then 5 else 4) ∧ (∀ d, d ≠ c.val → t.core d = s.core d)
    ∧ Counted s t [key 0x285A (if b then 4 else 2)]
    ∧ t = { s with nc := { s.nc with core := t.nc.core }, qn := t.qn, rg := t.rg, rep := t.rep }) := by
  refine ⟨_, congrArg Host.Outcome.next (if_neg (by simp [h])), ?_⟩
  have hreason : 3 < (if b then 5 else 4) := by cases b <;> decide
  have hcount : Counted s (s.count 0x285A (if b then 4 else 2)) [key 0x285A (if b then 4 else 2)] := Counted.count s
  have hcore : ∀ k, (s.count 0x285A (if b then 4 else 2)).core k = s.core k := fun _ => rfl
  have hframe : s.count 0x285A (if b then 4 else 2) = { s with rep := (s.count 0x285A (if b then 4 else 2)).rep } := rfl
  generalize (if b then 5 else 4) = reason at *
  generalize s.count 0x285A (if b then 4 else 2) = u at *
  refine ⟨?_, ?_, fun d hd => ?_, (u.retireCore_touched c hreason).1.counted hcount, ?_⟩
  · rw [State.retireCore_core, if_pos rfl]
    rfl
  · rw [State.retireCore_core, if_pos rfl]
    rfl
  · rw [State.retireCore_core, if_neg hd, hcore]
  · rw [State.retireCore_eq, hframe]

theorem claimLimitExpiry_breaches (hseqs : s.slugSeqs c = []) {b : BlockedClaim} (hfind : s.rg.blocked.find? (fun x => x.req == .core c) = some b) :
    Completes (.claimLimitExpiry c) s (fun t => (t.core c).state ≠ .running ∧ (t.core c).cause = 6 ∧ Counted s t [key 0x2862 2]
      ∧ (∀ x ∈ t.rg.blocked, x.req ≠ .core c) ∧ (∀ d, d ≠ c.val → t.core d = s.core d)) := by
  obtain ⟨hstate, hcause, hcount, hblocked, -, hothers⟩ := State.breach_spec hseqs b.ring
  refine ⟨s.breach c b.ring, congrArg Host.Outcome.next ?_, hstate, hcause, hcount, hblocked, hothers⟩
  rw [hfind]

theorem waitLimitExpiry_breaches (hseqs : s.slugSeqs c = []) {p : Parked} (hfind : s.qn.parked.find? (fun x => x.who == .core c) = some p) :
    Completes (.waitLimitExpiry c) s (fun t => (t.core c).state ≠ .running ∧ (t.core c).cause = 6 ∧ Counted s t [key 0x2862 2]
      ∧ (∀ x ∈ t.qn.parked, x.who ≠ .core c) ∧ (∀ d, d ≠ c.val → t.core d = s.core d)) := by
  obtain ⟨hstate, hcause, hcount, -, hparked, hothers⟩ := State.breach_spec hseqs p.quoin
  refine ⟨s.breach c p.quoin, congrArg Host.Outcome.next ?_, hstate, hcause, hcount, hparked, hothers⟩
  rw [hfind]

theorem shortTestDeferred_counts (hperiod : s.testPeriod ≠ 0) (hnew : (s.core c).deferred = false)
    (hbusy : (s.core c).state = .idle ∨ (s.core c).state = .running) : Completes (.shortTestDeferred c) s (fun t =>
      t.core c = { s.core c with deferred := true } ∧ (∀ d, d ≠ c.val → t.core d = s.core d) ∧ Counted s t [key (0x2870 + c) 5]
      ∧ t = { s with nc := { s.nc with core := t.nc.core }, rep := t.rep }) := by
  have hstands : ¬ (s.testPeriod = 0 ∨ (s.core c).deferred = true ∨ (s.core c).state = .retired ∨ (s.core c).state = .testing ∨ s.retired c = true) := by
    unfold State.retired
    rcases hbusy with h | h <;> simp [hperiod, hnew, h]
  refine ⟨_, congrArg Host.Outcome.next (if_neg hstands), ?_⟩
  have hcore : ∀ k, (((s.updCore c (fun k => { k with deferred := true })).count (0x2870 + c) 5).raise { code := 0x1706, unit := c, station := 255 }).core k =
      if k = c.val then { s.core c with deferred := true } else s.core k := fun k => State.core_updCore ..
  exact ⟨(hcore c).trans (if_pos rfl), fun d hd => (hcore d).trans (if_neg hd),
    Counted.count_raise (u := s.updCore c (fun k => { k with deferred := true })) rfl _, rfl⟩

/-- Settles O37: tests, RETIRE and TEST, and the ways in which a slug ends. -/
theorem coreTestsAndSlugEnds : Obligations.CoreTestsAndSlugEnds := by
  intro s c
  refine ⟨fun hin => ⟨fun hretire => startupTest_passes hin hretire, ?_⟩, fun hin b => ?_, fun htest hlive htesting =>
      ⟨fun hretire => shortTest_passes htest hlive htesting hretire, ?_⟩,
    fun hperiod hnew hbusy => shortTestDeferred_counts hperiod hnew hbusy, fun hperiod => ?_, fun m hans => retire_completes hans m,
    fun m hans => ⟨fun hadmit => ?_, fun hadmit => test_runs hans m hadmit⟩, fun h b => coreMemoryUncorrectable_retires h b, fun h b => ?_,
    fun hseqs => ⟨fun hrun hstarted hended => slugOverrun_drops hseqs hrun hstarted hended, fun b hfind hrun => claimLimitExpiry_breaches hseqs hfind,
      fun b hfind hrun => waitLimitExpiry_breaches hseqs hfind⟩,
    fun hrun => ⟨?_, fun a b => ?_⟩, fun hfind => ?_, fun hfind => ?_,
    fun hrun hended hidle hcarry => ⟨fun hseqs hlast => slugComplete_frees hrun hended hidle hcarry hseqs hlast,
      fun k e hseqs he hlast hverdict hwins hstate hparts hleft hdue hup hused hst =>
        slugComplete_unseen hrun hended hidle hcarry hseqs he hlast hverdict hwins hstate hparts hleft hdue hup hused hst⟩⟩
  · obtain ⟨hstate, hreason, hothers, hcount, hframe⟩ := s.retireCore_test c (reason := 1) (by decide)
    exact ⟨_, congrArg Host.Outcome.next ((if_neg (by simp [hin])).trans (if_neg (by decide))), hstate, hreason, hothers, hcount, hframe⟩
  · exact ⟨s, congrArg Host.Outcome.next (if_pos (by simp [hin])), rfl⟩
  · obtain ⟨hstate, hreason, hothers, hcount, hframe⟩ := s.retireCore_test c (reason := 2) (by decide)
    exact ⟨_, congrArg Host.Outcome.next ((if_neg (by simp [htest, hlive, htesting])).trans (if_neg (by decide))), hstate, hreason, hothers, hcount, hframe⟩
  · exact ⟨s, congrArg Host.Outcome.next (if_pos (.inl hperiod)), rfl⟩
  · refine ⟨_, congrArg Host.Outcome.next (State.served_answers hans _ _), ?_⟩
    have hdone : s.writeTest m.toNat = (s, .abort 0x08000020) := if_pos hadmit
    rw [hdone]
    rfl
  · exact ⟨s, congrArg Host.Outcome.next (if_pos h), rfl⟩
  · exact ⟨s, congrArg Host.Outcome.next (if_pos (.inl hrun)), rfl⟩
  · exact ⟨s, congrArg Host.Outcome.next (if_pos (.inl hrun)), rfl⟩
  · refine ⟨s, congrArg Host.Outcome.next ?_, rfl⟩
    rw [hfind]
  · refine ⟨s, congrArg Host.Outcome.next ?_, rfl⟩
    rw [hfind]

end Machine
end Sys2Proof
end

section
/-!
SUPPORT. Accesses, rings and quoins leave the Roster's tables alone; the records of a sequence that ends move only its windows.
-/
namespace Sys2Proof
namespace Machine

variable {s : State}

/-! ### Accesses -/

theorem State.violation_rs (s : State) (req : Requester) (st cause a access size owner detail : Nat) :
    (s.violation req st cause a access size owner detail).rs = s.rs := by rw [State.violation_eq]

theorem State.lookup_rs (s : State) (st line v : Nat) (wr : Bool) : (s.lookup st line v wr).rs = s.rs := by rw [State.lookup_eq]

theorem State.transfer_rs (s : State) (op : FabricOp) (a : Nat) : (s.transfer op a).1.rs = s.rs := by
  cases op <;> rfl

theorem State.poisonable_rs (s : State) (op : FabricOp) (a : Nat) (poison : List Nat) {keep : List Nat → State → State} {poisoned : State → State}
    (hkeep : ∀ p u, (keep p u).rs = u.rs) (hpoisoned : ∀ u, (poisoned u).rs = u.rs) : (s.poisonable op a poison keep poisoned).1.rs = s.rs := by
  unfold State.poisonable
  dsimp only
  cases op with
  | write d =>
    dsimp only
    split
    · rfl
    · exact hkeep _ _
  | read n =>
    dsimp only
    split
    · exact State.transfer_rs ..
    · exact hpoisoned _
  | fetch n =>
    dsimp only
    split
    · exact State.transfer_rs ..
    · exact hpoisoned _

theorem State.dsAccess_rs (s : State) (st c a : Nat) (op : FabricOp) (v : Nat) : (s.dsAccess st c a op .none v).1.rs = s.rs := by
  cases h : (s.chan c).fenced with
  | true => rw [State.dsAccess_fenced h]
  | false =>
    rw [State.dsAccess_none h]
    refine (State.poisonable_rs _ _ _ _ ?_ ?_).trans (State.lookup_rs ..)
    · exact fun _ _ => rfl
    · exact fun _ => rfl

theorem State.lpAccess_rs (s : State) (st a : Nat) (op : FabricOp) (v : Nat) : (s.lpAccess st a op .none v).1.rs = s.rs := by
  unfold State.lpAccess
  split
  · rfl
  · split
    · rfl
    · have hclean : s.caseErrors a .none = (s, true) := rfl
      rw [hclean]
      dsimp only
      rw [if_neg (by decide), if_neg (by simp), if_neg (by decide), if_neg (by simp)]
      refine (State.poisonable_rs _ _ _ _ ?_ ?_).trans (State.lookup_rs ..)
      · exact fun _ _ => rfl
      · exact fun _ => rfl

theorem State.memAccess_rs (s : State) (st a : Nat) (op : FabricOp) (v : Nat) : (s.memAccess st a op .none v).1.rs = s.rs := by
  unfold State.memAccess
  split
  · unfold State.flashAccess
    split
    · rfl
    · exact State.transfer_rs ..
  · exact State.transfer_rs ..
  · unfold State.scratchAccess
    split
    · rfl
    · exact State.transfer_rs ..
  · exact State.dsAccess_rs ..
  · exact State.lpAccess_rs ..
  · rfl

theorem State.fabric_rs (s : State) (req : Requester) (a : Nat) (op : FabricOp) (v detail : Nat) : (s.fabric req a op .none v detail).1.rs = s.rs := by
  unfold State.fabric
  dsimp only
  split
  · exact State.violation_rs ..
  · exact State.memAccess_rs ..

theorem State.readPieces_rs (s : State) (req : Requester) (detail : Nat) (l : List (Nat × Nat)) : (s.readPieces req detail l).1.rs = s.rs := by
  induction l generalizing s with
  | nil => rfl
  | cons p l ih =>
    obtain ⟨a, n⟩ := p
    have hone := s.fabric_rs req a (.read n) 0 detail
    unfold State.readPieces
    cases hx : s.fabric req a (.read n) .none 0 detail with
    | mk u x =>
      rw [hx] at hone
      cases x with
      | none => exact hone
      | some x =>
        dsimp only
        have hrest := ih u
        cases hy : u.readPieces req detail l with
        | mk w y =>
          rw [hy] at hrest
          cases y with
          | none => exact hrest.trans hone
          | some y => exact hrest.trans hone

theorem State.writePieces_rs (s : State) (req : Requester) (detail : Nat) (l : List (Nat × Nat)) (x : List Byte) :
    (s.writePieces req detail l x).1.rs = s.rs := by
  induction l generalizing s x with
  | nil => rfl
  | cons p l ih =>
    obtain ⟨a, n⟩ := p
    have hone := s.fabric_rs req a (.write (x.take n)) 0 detail
    unfold State.writePieces
    cases hx : s.fabric req a (.write (x.take n)) .none 0 detail with
    | mk u y =>
      rw [hx] at hone
      cases y with
      | none => exact hone
      | some y => exact (ih u _).trans hone

/-! ### Rings and quoins -/

theorem State.answerParked_rs (s : State) (q : Nat) : (s.answerParked q).rs = s.rs := by rw [State.answerParked_eq]

theorem State.notify_rs (s : State) (st q : Nat) : (s.notify st q).rs = s.rs := by rw [State.notify_eq]

theorem State.quoinUsable_rs (s : State) (q : Nat) : (s.quoinUsable q).1.rs = s.rs := by
  unfold State.quoinUsable
  dsimp only
  split
  · rfl
  · split <;> rfl

theorem State.signal_rs (s : State) (q n : Nat) : (s.signal q n).1.rs = s.rs := by
  have husable := s.quoinUsable_rs q
  unfold State.signal
  split
  · next h => rwa [h] at husable
  · next h =>
    rw [h] at husable
    dsimp only
    split
    · exact (State.answerParked_rs ..).trans husable
    · refine (State.answerParked_rs ..).trans ?_
      split
      · exact (State.notify_rs ..).trans husable
      · exact husable

theorem State.ringGate_rs (s : State) (req : Requester) (r : Nat) : (s.ringGate req r).1.rs = s.rs := by
  unfold State.ringGate
  dsimp only
  split
  · exact State.violation_rs ..
  · split
    · rfl
    · split <;> rfl

theorem State.releaseOn_rs (s : State) (req : Requester) (r n : Nat) : (s.releaseOn req r n).1.rs = s.rs := by
  have hgate := s.ringGate_rs req r
  unfold State.releaseOn
  split
  · next h => rwa [h] at hgate
  · next h =>
    rw [h] at hgate
    dsimp only
    split
    · exact hgate
    · split
      · exact (State.signal_rs ..).trans hgate
      · exact hgate

theorem answer_ite_rs {p : Prop} [Decidable p] {x y : State × RgStatus × Nat} {rs : Roster} (hx : x.1.rs = rs) (hy : y.1.rs = rs) :
    (if p then x else y).1.rs = rs := by
  split
  · exact hx
  · exact hy

/-- A claim behind the gate. -/
def State.claimWithin (s : State) (req : Requester) (r n : Nat) (retry : Bool) : State × RgStatus × Nat :=
    let d := s.ring r
    if n = 0 ∨ n % 4 ≠ 0 ∨ d.size < n ∨ (d.recLog2 ≠ 0 ∧ n ≠ 2 ^ d.recLog2) then (s.count 0x2860 8, .refused, 0)
    else if d.ends ≠ [] ∧ d.producer ≠ some req then (s.count 0x2860 7, .otherProducer, 0)
    else if d.fill + n ≤ d.size then (s.putRing r (d.grant req n), .ok, d.claim)
    else if d.policy = 0 then ((if retry then s else s.count 0x2860 6), .wouldBlock, 0)
    else if d.policy = 2 ∧ d.recLog2 ≠ 0 ∧ d.need n * 2 ^ d.recLog2 ≤ d.content then
      let d' := { d with tail := (d.tail + d.need n * 2 ^ d.recLog2) % 2 ^ 32 }
      ((s.countN 0x2860 5 (d.need n)).putRing r (d'.grant req n), .ok, d.claim)
    else (s.count 0x2860 (1 + d.cls), .full, 0)

theorem State.claimWithin_rs (s : State) (req : Requester) (r n : Nat) (retry : Bool) : (s.claimWithin req r n retry).1.rs = s.rs := by
  have hfull : (if retry then s else s.count 0x2860 6).rs = s.rs := by cases retry <;> rfl
  exact answer_ite_rs (s.count_rs _ _) (answer_ite_rs (s.count_rs _ _) (answer_ite_rs (s.putRing_rs _ _) (answer_ite_rs hfull
    (answer_ite_rs ((State.putRing_rs _ _ _).trans (s.countN_rs _ _ _)) (s.count_rs _ _)))))

theorem State.claimOn_within {t : State} {req : Requester} {r : Nat} (h : s.ringGate req r = (t, none)) (n : Nat) (retry : Bool) :
    s.claimOn req r n retry = t.claimWithin req r n retry := by
  unfold State.claimOn State.claimWithin
  rw [h]

theorem State.claimOn_rs (s : State) (req : Requester) (r n : Nat) (retry : Bool) : (s.claimOn req r n retry).1.rs = s.rs := by
  have hgate := s.ringGate_rs req r
  rcases h : s.ringGate req r with ⟨t, o⟩
  rw [h] at hgate
  cases o with
  | none => rw [State.claimOn_within h, State.claimWithin_rs, hgate]
  | some st =>
    have hshut : s.claimOn req r n retry = (t, st, 0) := by
      unfold State.claimOn
      rw [h]
    rw [hshut, hgate]

theorem State.ringWatch_rs (s : State) (r : Nat) : (s.ringWatch r).rs = s.rs := by rw [State.ringWatch_eq]

theorem State.commitOn_rs (s : State) (req : Requester) (r : Nat) : (s.commitOn req r).1.rs = s.rs := by
  have hgate := s.ringGate_rs req r
  unfold State.commitOn
  split
  · next h => rwa [h] at hgate
  · next h =>
    rw [h] at hgate
    refine Eq.trans ?_ hgate
    dsimp only
    split
    · rfl
    · split
      · rfl
      · split
        · rw [State.signal_rs, State.ringWatch_rs, State.putRing_rs]
        · rw [State.ringWatch_rs, State.putRing_rs]

theorem State.abandonOn_rs (s : State) (req : Requester) (r : Nat) : (s.abandonOn req r).1.rs = s.rs := by
  have hgate := s.ringGate_rs req r
  unfold State.abandonOn
  split
  · next h => rwa [h] at hgate
  · next h =>
    rw [h] at hgate
    refine Eq.trans ?_ hgate
    dsimp only
    split <;> rfl

theorem State.putRecord_rs (s : State) (req : Requester) (r : Nat) (x : List Byte) : (s.putRecord req r x).1.rs = s.rs := by
  have hclaim := s.claimOn_rs req r x.length false
  unfold State.putRecord
  rcases hc : s.claimOn req r x.length false with ⟨u, st, start⟩
  rw [hc] at hclaim
  cases st with
  | ok =>
    dsimp only
    have hwrite := u.writePieces_rs req 0 (u.ringBytes r start x.length) x
    rcases hw : u.writePieces req 0 (u.ringBytes r start x.length) x with ⟨w, ok⟩
    rw [hw] at hwrite
    cases ok <;> dsimp only at hwrite hclaim ⊢
    case true => rw [State.commitOn_rs, hwrite, hclaim]
    case false => rw [State.abandonOn_rs, hwrite, hclaim]
  | _ => exact hclaim

/-! ### The records of a sequence -/

theorem State.drainRing_seq (s : State) (st ring n : Nat) : (s.drainRing st ring n).rs.seq = s.rs.seq := by
  induction n generalizing s with
  | zero => rfl
  | succ n ih =>
    unfold State.drainRing
    split
    · rfl
    · split
      · rfl
      · refine (ih _).trans ?_
        unfold State.releaseRec
        split
        · rw [State.releaseOn_rs]
        · rfl

theorem State.closeRecs_seq (s : State) (st e : Nat) : (s.closeRecs st e).rs.seq = s.rs.seq := by
  unfold State.closeRecs
  exact foldl_keeps (fun s : State => s.rs.seq) _ (fun s ring => s.drainRing_seq ..) _ _

theorem State.settleStation_rs (s : State) (st : Nat) : (s.settleStation st).rs = s.rs := by rw [State.settleStation_eq]

theorem State.sendVerdict_rs (s : State) (cue : Nat) (v : Verdict) : (s.sendVerdict cue v).rs = s.rs := by
  unfold State.sendVerdict
  split <;> rfl

theorem State.reportEnd_rs (s : State) (q : SeqEntry) (why : SeqEnd) : (s.reportEnd q why).rs = s.rs := by
  cases why with
  | verdict v => exact State.sendVerdict_rs ..
  | noVerdict => exact s.sendVerdict_rs q.cue .unseen
  | deadline => exact s.sendVerdict_rs q.cue .unseen
  | expired => rfl
  | noCandidate => exact s.sendVerdict_rs q.cue .unseen
  | lost => exact s.sendVerdict_rs q.cue .unseen
  | aborted => exact s.sendVerdict_rs q.cue .unseen
  | denied => exact s.sendVerdict_rs q.cue .unseen
  | reset => rfl

theorem State.seq_of_seq {t : State} (h : t.rs.seq = s.rs.seq) (k : Nat) : t.seq k = s.seq k := by
  unfold State.seq
  rw [h]

/-- A sequence that ends frees its entry and no other. -/
theorem State.endSeq_seq (s : State) (e : Nat) (why : SeqEnd) (k : Nat) (h : (s.seq e).state ≠ .free) :
    (s.endSeq e why).seq k = if k = e then {} else s.seq k := by
  have hput : (s.endSeq e why).rs.seq = s.rs.seq.put e {} := by
    unfold State.endSeq
    dsimp only
    rw [if_neg h, State.settleStation_rs, State.closeRecs_seq]
    dsimp only
    rw [State.reportEnd_rs]
  unfold State.seq
  rw [hput, Tab.at_put]

theorem State.endSeq_free {e : Nat} (h : (s.seq e).state = .free) (why : SeqEnd) : s.endSeq e why = s := if_pos h

end Machine
end Sys2Proof
end

section
/-!
PROOF. The Roster (10 R256-R271): its step, the sequences that it opens and ends, and a core that is lost.
-/
namespace Sys2Proof
namespace Machine

variable {s : State}

/-! ### The step -/

theorem foldl_same {α β : Type} {f : α → β → α} {a : α} {l : List β} (h : ∀ x ∈ l, f a x = a) : l.foldl f a = a := by
  induction l with
  | nil => rfl
  | cons x l ih =>
    rw [List.foldl_cons, h x List.mem_cons_self]
    exact ih fun y hy => h y (List.mem_cons_of_mem x hy)

/-- The step no longer stands still. -/
def State.stirred (s : State) : State := { s with link := { s.link with rosterStall := false } }

/-- The groups that wait for a core, in the order of their distance. -/
def State.waitingGroups (s : State) : List Group :=
  let es := s.waitingSeqs
  sortBy groupLe (s.oldGroups (es.filter (fun e => (s.seq e).batch != 0)) ++ s.newGroups es.length (es.filter (fun e => (s.seq e).batch == 0)))

/-- The groups are placed on idle cores, and what is left over is counted; else tests start. -/
def State.placeAll (s : State) : State :=
  let (s, n, idle, left) := s.build s.waitingGroups s.idleCores 0
  let s := { s with rs := { s.rs with makeup := n } }
  if left then s.count 0x2880 0x0B else s.startTests idle idle

/-- No station has a variant to switch to or cues to install. -/
def State.rosterQuiet (s : State) : Prop := ∀ st, st < 32 → (s.chain st).next = none ∧ s.mayInstall st = false

theorem rosterStep_idle (h : s.rs.started = false ∨ s.computeRuns = false ∨ s.pwr.entering = true) : Completes .rosterStep s (fun t => t = s) :=
  ⟨s, congrArg Host.Outcome.next (if_pos (by rcases h with h | h | h <;> simp [h])), rfl⟩

def State.variantsApplied (s : State) : State := (List.range 32).foldl (fun s st => s.applyVariant st) s

def State.chainsStarted (s : State) : State :=
  (List.range 32).foldl (fun s st => if s.mayInstall st && (s.chain st).imp.isNone then s.startChain st else s) s

def State.coresChecked (s : State) : State := (s.rs.seq.map Prod.fst).foldl (fun s e => s.endWithoutCore e) s

theorem State.variantsApplied_quiet (h : s.rosterQuiet) : s.stirred.variantsApplied = s.stirred := by
  refine foldl_same fun st hst => ?_
  have hnext : (s.stirred.chain st).next = none := (h st (List.mem_range.1 hst)).1
  unfold State.applyVariant
  rw [hnext]

theorem State.chainsStarted_quiet (h : s.rosterQuiet) : s.stirred.chainsStarted = s.stirred := by
  refine foldl_same fun st hst => if_neg ?_
  have hnot : s.stirred.mayInstall st = false := (h st (List.mem_range.1 hst)).2
  simp [hnot]

theorem execRosterStep_eq (s : State) : execRosterStep s =
    .next (if !s.rs.started || !s.computeRuns || s.pwr.entering then s else s.stirred.variantsApplied.chainsStarted.coresChecked.placeAll) := by
  unfold execRosterStep State.placeAll State.waitingGroups State.coresChecked State.chainsStarted State.variantsApplied State.stirred
  dsimp only

theorem rosterStep_eq (hstarted : s.rs.started = true) (hrun : s.computeRuns = true) (hawake : s.pwr.entering = false) (h : s.rosterQuiet)
    (hcores : ∀ e ∈ s.rs.seq.map Prod.fst, s.stirred.endWithoutCore e = s.stirred) : exec .rosterStep s = .next s.stirred.placeAll := by
  have hend : s.stirred.coresChecked = s.stirred := foldl_same hcores
  have hgo : ¬ (!s.rs.started || !s.computeRuns || s.pwr.entering) = true := by simp [hstarted, hrun, hawake]
  refine (execRosterStep_eq s).trans (congrArg Host.Outcome.next ((if_neg hgo).trans ?_))
  rw [State.variantsApplied_quiet h, State.chainsStarted_quiet h, hend]

/-! ### Nothing waits: tests -/

theorem State.placeAll_none (h : s.rs.seq = []) : s.placeAll = State.startTests { s with rs := { s.rs with makeup := 0 } } s.idleCores s.idleCores := by
  have hnone : s.waitingGroups = [] := by
    unfold State.waitingGroups State.waitingSeqs
    rw [h]
    rfl
  unfold State.placeAll
  rw [hnone]
  rfl

theorem State.startTests_off (h : s.testPeriod = 0) (l idle : List Nat) : s.startTests l idle = s := by
  induction l with
  | nil => rfl
  | cons c l ih => exact (if_neg (by simp [h])).trans ih

theorem State.startTests_alone (c : Nat) : s.startTests [c] [c] = s := if_neg (by simp)

theorem State.startTests_pair {c d : Fin 16} (hne : c ≠ d) (hclass : isQuad c = isQuad d) (hperiod : s.testPeriod ≠ 0)
    (hdue : (s.core c).testBase + s.testPeriod * Config.psPerS ≤ s.clk.ref) (hretire : (s.core c).retire = false) :
    s.startTests [c.val, d.val] [c.val, d.val] =
      ((s.updCore c (fun k => { k with testBase := s.clk.ref, deferred := false })).setCore c .testing).count 0x2880 0x0C := by
  have hval : d.val ≠ c.val := fun h => hne (Fin.ext h.symm)
  refine (if_pos ⟨⟨hperiod, hdue⟩, hretire, by simp [hval, hclass]⟩).trans ?_
  rw [List.erase_cons_head]
  exact State.startTests_alone d.val

theorem rosterStep_tests (hstarted : s.rs.started = true) (hrun : s.computeRuns = true) (hawake : s.pwr.entering = false) (h : s.rosterQuiet)
    (hseq : s.rs.seq = []) {c d : Fin 16} (hne : c ≠ d) (hclass : isQuad c = isQuad d) (hidle : s.idleCores = [c.val, d.val])
    (hperiod : s.testPeriod ≠ 0) (hdue : (s.core c).testBase + s.testPeriod * Config.psPerS ≤ s.clk.ref) (hretire : (s.core c).retire = false) :
    Completes .rosterStep s (fun t =>
      t.core c = { s.core c with state := .testing, testBase := s.clk.ref, deferred := false } ∧ (∀ k, k ≠ c.val → t.core k = s.core k)
      ∧ Counted s t [key 0x2880 0x0C]
      ∧ t = { s with link := { s.link with rosterStall := false }, rs := { s.rs with makeup := 0 }, nc := { s.nc with core := t.nc.core }, rep := t.rep }) := by
  refine ⟨_, rosterStep_eq hstarted hrun hawake h (by rw [hseq]; exact fun e he => absurd he List.not_mem_nil), ?_⟩
  have hidle' : s.stirred.idleCores = [c.val, d.val] := hidle
  rw [State.placeAll_none (s := s.stirred) hseq, hidle',
    State.startTests_pair (s := { s.stirred with rs := { s.stirred.rs with makeup := 0 } }) hne hclass hperiod hdue hretire]
  have hclk : State.clk { s.stirred with rs := { s.stirred.rs with makeup := 0 } } = s.clk := rfl
  rw [hclk]
  have hcore : ∀ k, (State.updCore { s.stirred with rs := { s.stirred.rs with makeup := 0 } } c
      (fun k => { k with testBase := s.clk.ref, deferred := false })).core k =
      if k = c.val then { s.core c with testBase := s.clk.ref, deferred := false } else s.core k := fun k => State.core_updCore ..
  have hframe : State.updCore { s.stirred with rs := { s.stirred.rs with makeup := 0 } } c (fun k => { k with testBase := s.clk.ref, deferred := false }) =
      { s with link := { s.link with rosterStall := false }, rs := { s.rs with makeup := 0 }
               nc := { s.nc with core := (State.updCore { s.stirred with rs := { s.stirred.rs with makeup := 0 } } c
                 (fun k => { k with testBase := s.clk.ref, deferred := false })).nc.core } } := rfl
  generalize State.updCore { s.stirred with rs := { s.stirred.rs with makeup := 0 } } c (fun k => { k with testBase := s.clk.ref, deferred := false }) = u at *
  have hcount : Counted s (u.setCore c .testing) [] := State.setCore_counted ((Counted.refl s).of_rep (by rw [hframe])) c .testing
  have hset := u.setCore_core c .testing
  have hsetf := u.setCore_eq c .testing
  generalize u.setCore c .testing = w at *
  have hkeep : ∀ k, (w.count 0x2880 0x0C).core k = w.core k := fun _ => rfl
  refine ⟨?_, fun k hk => ?_, hcount.and_count List.not_mem_nil, ?_⟩
  · rw [hkeep, hset, if_pos rfl, hcore, if_pos rfl]
  · rw [hkeep, hset, if_neg hk, hcore, if_neg hk]
  · rw [hsetf, hframe]
    rfl

/-! ### One sequence waits -/

/-- One READY sequence whose current step is one part. -/
structure State.oneWaits (s : State) (e : Nat) (q : SeqEntry) : Prop where
  seqs : s.rs.seq = [(e, q)]
  ready : q.state = .ready
  batch : q.batch = 0
  parts : q.partsLeft = [0]
  seen : s.viewOk (s.stClock q.station) = true
  single : (s.template q.package q.variant q.model q.step).parts = 1

variable {e : Nat} {q : SeqEntry}

theorem State.oneWaits.entry (h : s.oneWaits e q) : s.seq e = q := by
  unfold State.seq
  rw [h.seqs]
  exact if_pos rfl

theorem State.oneWaits.stirred (h : s.oneWaits e q) : s.stirred.oneWaits e q := ⟨h.seqs, h.ready, h.batch, h.parts, h.seen, h.single⟩

theorem State.oneWaits.template (h : s.oneWaits e q) : s.seqTemplate e = s.template q.package q.variant q.model q.step := by
  unfold State.seqTemplate
  rw [h.entry]

theorem State.oneWaits.stays (h : s.oneWaits e q) (hcand : s.candidates (s.template q.package q.variant q.model q.step) ≠ []) : s.endWithoutCore e = s := by
  unfold State.endWithoutCore
  dsimp only
  rw [h.entry, h.template, if_neg hcand]
  exact ite_self _

theorem State.oneWaits.waiting (h : s.oneWaits e q) : s.waitingSeqs = [e] := by
  unfold State.waitingSeqs
  rw [h.seqs]
  simp [h.ready, h.parts, h.seen]

theorem chunks_single (n e : Nat) : chunks (max 1 n) [e].length [e] = [[e]] := by
  obtain ⟨k, hk⟩ := Nat.exists_eq_add_of_le' (Nat.le_max_left 1 n)
  rw [hk]
  simp [chunks]

theorem State.oneWaits.groups (h : s.oneWaits e q) : s.waitingGroups = [s.mkGroup [e] 0] := by
  have hold : [e].filter (fun e => (s.seq e).batch != 0) = [] := by simp [h.entry, h.batch]
  have hnew : [e].filter (fun e => (s.seq e).batch == 0) = [e] := by simp [h.entry, h.batch]
  have hsame : [e].filter (fun x => sameKey (s.seq x) (s.seq e)) = [e] := by simp [sameKey]
  unfold State.waitingGroups
  rw [h.waiting]
  dsimp only
  rw [hold, hnew]
  show sortBy groupLe ([] ++ (((chunks (max 1 (s.seqTemplate e).width)
    (sortBy (fun a b => decide (s.distance a ≤ s.distance b)) ([e].filter (fun x => sameKey (s.seq x) (s.seq e)))).length
    (sortBy (fun a b => decide (s.distance a ≤ s.distance b)) ([e].filter (fun x => sameKey (s.seq x) (s.seq e))))).flatMap
      (fun m => (List.range (s.seqTemplate e).parts).map (s.mkGroup m))) ++ [])) = _
  rw [hsame, h.template, h.single]
  show sortBy groupLe ([] ++ (((chunks (max 1 (s.template q.package q.variant q.model q.step).width) [e].length [e]).flatMap
      (fun m => (List.range 1).map (s.mkGroup m))) ++ [])) = _
  rw [chunks_single]
  rfl

theorem State.mkGroup_members (s : State) (es : List Nat) (p : Nat) : (s.mkGroup es p).members = es := rfl

theorem State.oneWaits.members (h : s.oneWaits e q) : (s.mkGroup [e] 0).members.filter (fun e => (s.seq e).state != .free) = [e] := by
  rw [State.mkGroup_members]
  simp [h.entry, h.ready]

/-- The build comes to the one group. -/
theorem State.oneWaits.build (h : s.oneWaits e q) (idle : List Nat) : s.build [s.mkGroup [e] 0] idle 0 = match s.placement (s.mkGroup [e] 0) idle with
      | none => (s, 0, idle, true)
      | some (c, home, warm) => match s.placeGroup (s.mkGroup [e] 0) c home warm with
        | (s, true) => (s, 1, idle.erase c, false)
        | (s, false) => (s, 0, idle, false) := by
  have hgroup : { s.mkGroup [e] 0 with members := (s.mkGroup [e] 0).members.filter (fun e => (s.seq e).state != .free) } = s.mkGroup [e] 0 := by
    rw [h.members]
    rfl
  have hsome : ¬ (s.mkGroup [e] 0).members.filter (fun e => (s.seq e).state != .free) = [] := by
    rw [h.members]
    exact List.cons_ne_nil _ _
  unfold State.build
  dsimp only
  rw [if_neg hsome, if_neg (by decide), hgroup]
  rcases s.placement (s.mkGroup [e] 0) idle with _ | ⟨c, home, warm⟩
  · rfl
  · dsimp only
    rcases s.placeGroup (s.mkGroup [e] 0) c home warm with ⟨u, _ | _⟩ <;> rfl

theorem State.oneWaits.placed (h : s.oneWaits e q) {c : Nat} (hc : c ∈ s.candidates (s.template q.package q.variant q.model q.step)) :
    ∃ home warm, s.placement (s.mkGroup [e] 0) [c] = some (c, home, warm) := by
  have hmem : c ∈ (s.candidates (s.template q.package q.variant q.model q.step)).filter (fun d => [c].contains d) :=
    List.mem_filter.2 ⟨hc, by simp⟩
  have honly : ∀ d ∈ (s.candidates (s.template q.package q.variant q.model q.step)).filter (fun d => [c].contains d), d = c := fun d hd => by
    simpa using (List.mem_filter.1 hd).2
  unfold State.placement
  rw [State.mkGroup_members]
  show ∃ home warm, (match ((s.candidates (s.seqTemplate e)).filter (fun d => [c].contains d)).find? (s.fitsHome (s.mkGroup [e] 0) (s.seqTemplate e)) with
    | some d => some (d, true, s.rs.wset.at 0 (d * 32 + (s.mkGroup [e] 0).station) == (s.seqTemplate e).wset + 1)
    | none => match ((s.candidates (s.seqTemplate e)).filter (fun d => [c].contains d)).find?
          (fun d => s.rs.wset.at 0 (d * 32 + (s.mkGroup [e] 0).station) == (s.seqTemplate e).wset + 1) with
      | some d => some (d, false, true)
      | none => ((s.candidates (s.seqTemplate e)).filter (fun d => [c].contains d)).head?.map (fun d => (d, false, false))) = some (c, home, warm)
  rw [h.template]
  generalize (s.candidates (s.template q.package q.variant q.model q.step)).filter (fun d => [c].contains d) = cands at hmem honly
  split
  · next d hd => exact ⟨_, _, by rw [honly d (List.mem_of_find?_eq_some hd)]⟩
  · split
    · next d hd => exact ⟨_, _, by rw [honly d (List.mem_of_find?_eq_some hd)]⟩
    · obtain ⟨d, ds, rfl⟩ := List.exists_cons_of_ne_nil (List.ne_nil_of_mem hmem)
      exact ⟨_, _, by rw [List.head?_cons, honly d List.mem_cons_self]; rfl⟩

theorem State.oneWaits.unplaced (h : s.oneWaits e q) {c : Nat} (hc : c ∉ s.candidates (s.template q.package q.variant q.model q.step)) :
    s.placement (s.mkGroup [e] 0) [c] = none := by
  have hnone : (s.candidates (s.seqTemplate e)).filter (fun d => [c].contains d) = [] :=
    List.filter_eq_nil_iff.2 fun d hd hd' => hc (by
      rw [h.template] at hd
      rwa [show d = c by simpa using hd'] at hd)
  unfold State.placement
  rw [State.mkGroup_members]
  dsimp only [List.headD_cons]
  rw [hnone]
  rfl

theorem State.oneWaits.placeAll (h : s.oneWaits e q) {c : Nat} (hidle : s.idleCores = [c]) : s.placeAll =
    match s.placement (s.mkGroup [e] 0) [c] with
      | none => State.count { s with rs := { s.rs with makeup := 0 } } 0x2880 0x0B
      | some (d, home, warm) => match s.placeGroup (s.mkGroup [e] 0) d home warm with
        | (u, true) => State.startTests { u with rs := { u.rs with makeup := 1 } } ([c].erase d) ([c].erase d)
        | (u, false) => { u with rs := { u.rs with makeup := 0 } } := by
  unfold State.placeAll
  rw [h.groups, hidle, h.build]
  rcases s.placement (s.mkGroup [e] 0) [c] with _ | ⟨d, home, warm⟩
  · rfl
  · dsimp only
    rcases s.placeGroup (s.mkGroup [e] 0) d home warm with ⟨u, _ | _⟩
    · exact State.startTests_alone c
    · rfl

/-! ### A group is placed -/

theorem State.stopEngines_rs (s : State) (c : Nat) : (s.stopEngines c).rs = s.rs := rfl

theorem State.startSlug_rs (s : State) (c st slots list : Nat) : (s.startSlug c st slots list).rs = s.rs := by
  unfold State.startSlug
  dsimp only
  rw [State.setCore_eq]
  dsimp only
  rw [State.updCore_rs, State.stopEngines_rs]
  split <;> rfl

theorem State.startSlug_core (s : State) (c st slots list : Nat) :
    ((s.startSlug c st slots list).core c).state = .running ∧ ((s.startSlug c st slots list).core c).station = st := by
  unfold State.startSlug
  dsimp only
  rw [State.setCore_core, if_pos rfl, State.core_updCore, if_pos rfl]
  exact ⟨rfl, rfl⟩

theorem State.slotsOf_single {g : Group} (hg : g.members = [e]) (home : Bool) : ∃ x, s.slotsOf g home = [(x, e)] := by
  unfold State.slotsOf
  rw [hg]
  exact ⟨_, rfl⟩

/-- The Roster's tables when a group goes to a core as slug `sl`. -/
def State.slugPlaced (s : State) (g : Group) (c batches : Nat) (sl : Slug) (wset : Nat) : State :=
  { s with rs := { s.rs with
    batches := batches
    slug := s.rs.slug.put c sl
    wset := s.rs.wset.put (c * 32 + g.station) wset
    seq := s.rs.seq.map (fun (x : Nat × SeqEntry) =>
      if x.2.station = g.station ∧ x.2.homeCore = c then (x.1, { x.2 with homeValid := false }) else x) } }

theorem State.slugPlaced_seq (hseqs : s.rs.seq = [(e, q)]) (g : Group) (c batches : Nat) (sl : Slug) (wset : Nat) :
    ∃ valid, (s.slugPlaced g c batches sl wset).seq e = { q with homeValid := valid } := by
  unfold State.seq State.slugPlaced
  dsimp only
  rw [hseqs, List.map_cons]
  split
  · exact ⟨false, if_pos rfl⟩
  · exact ⟨q.homeValid, if_pos rfl⟩

/-- What a placed part changes in its sequence. -/
def SeqEntry.placed (q : SeqEntry) (part batch slot : Nat) : SeqEntry :=
  { q with state := .running, partsRun := q.partsRun + 1, partsLeft := q.partsLeft.erase part, batch := batch, slot := slot }

theorem State.dispatchGroup_single {g : Group} (hg : g.members = [e]) (c : Nat) (home warm : Bool) : ∃ batches sl wset batch slot n list,
    sl.on = true ∧ s.dispatchGroup g c home warm =
      ((s.slugPlaced g c batches sl wset).updSeq e (fun q => q.placed g.part batch slot)).startSlug c g.station n list := by
  obtain ⟨x, hx⟩ := s.slotsOf_single hg home
  unfold State.dispatchGroup
  dsimp only
  rw [hx]
  exact ⟨_, _, _, _, x, _, _, rfl, rfl⟩

theorem State.dispatchGroup_spec {g : Group} (hg : g.members = [e]) (hpart : g.part = 0) (hseqs : s.rs.seq = [(e, q)]) (hleft : q.partsLeft = [0])
    (c : Nat) (home warm : Bool) : ((s.dispatchGroup g c home warm).core c).state = .running
    ∧ ((s.dispatchGroup g c home warm).core c).station = g.station ∧ ((s.dispatchGroup g c home warm).seq e).state = .running
    ∧ ((s.dispatchGroup g c home warm).seq e).partsRun = q.partsRun + 1 ∧ ((s.dispatchGroup g c home warm).seq e).partsLeft = []
    ∧ ((s.dispatchGroup g c home warm).rs.slug.at ({} : Slug) c).on = true := by
  obtain ⟨batches, sl, wset, batch, slot, n, list, hon, hdispatch⟩ := s.dispatchGroup_single hg c home warm
  obtain ⟨valid, hvalid⟩ := State.slugPlaced_seq hseqs g c batches sl wset
  rw [hdispatch]
  obtain ⟨hrun, hst⟩ := ((s.slugPlaced g c batches sl wset).updSeq e (fun q => q.placed g.part batch slot)).startSlug_core c g.station n list
  have hrs := ((s.slugPlaced g c batches sl wset).updSeq e (fun q => q.placed g.part batch slot)).startSlug_rs c g.station n list
  have hself : (((s.slugPlaced g c batches sl wset).updSeq e (fun q => q.placed g.part batch slot)).startSlug c g.station n list).seq e =
      ({ q with homeValid := valid }).placed 0 batch slot := by
    rw [State.seq_of_seq (congrArg Roster.seq hrs), State.seq_updSeq, if_pos rfl, hvalid, hpart]
  refine ⟨hrun, hst, ?_, ?_, ?_, ?_⟩
  · rw [hself]
    rfl
  · rw [hself]
    rfl
  · rw [hself]
    show q.partsLeft.erase 0 = []
    rw [hleft]
    rfl
  · rw [hrs]
    exact (congrArg Slug.on (Tab.at_put_same ..)).trans hon

theorem State.writePrograms_rs (s : State) (c : Nat) (t : Template) (part st : Nat) (slots : List (Nat × Nat)) :
    (s.writePrograms c t part st slots).1.rs = s.rs := by
  have hfold : ∀ (f : State × Bool → Nat → State × Bool), (∀ y m, (f y m).1.rs = y.1.rs) → ∀ (l : List Nat) (y : State × Bool),
      (l.foldl f y).1.rs = y.1.rs := by
    intro f hf l
    induction l with
    | nil => exact fun y => rfl
    | cons m l ih => exact fun y => (ih (f y m)).trans (hf y m)
  unfold State.writePrograms
  cases slots with
  | nil => rfl
  | cons x slots =>
    refine (hfold _ (fun y m => ?_) _ _).trans rfl
    dsimp only
    split
    all_goals
      split
      · rfl
      · split
        · exact State.putRecord_rs ..
        · rfl

theorem State.readGroup_rs (s : State) (g : Group) (c : Nat) (home warm : Bool) : (s.readGroup g c home warm).1.rs = s.rs := by
  unfold State.readGroup
  split
  · exact State.readPieces_rs ..
  · rfl

/-- A group that is placed: what has been read and written for it leaves the Roster's tables alone, and then it goes to its core. -/
theorem State.placeGroup_goes {g : Group} {c : Nat} {home warm : Bool} (h : (s.placeGroup g c home warm).2 = true) :
    ∃ u : State, u.rs = s.rs ∧ s.placeGroup g c home warm = (u.dispatchGroup g c home warm, true) := by
  have hread := s.readGroup_rs g c home warm
  unfold State.placeGroup at h ⊢
  dsimp only at h ⊢
  rcases hr : s.readGroup g c home warm with ⟨u, ok⟩
  rw [hr] at h hread
  cases ok with
  | false => exact absurd h Bool.false_ne_true
  | true =>
    dsimp only at h hread ⊢
    have hwrite := u.writePrograms_rs c (u.seqTemplate (g.members.headD 0)) g.part g.station (u.slotsOf g home)
    rcases hw : u.writePrograms c (u.seqTemplate (g.members.headD 0)) g.part g.station (u.slotsOf g home) with ⟨w, ok⟩
    rw [hw] at h hwrite
    cases ok with
    | false => exact absurd h Bool.false_ne_true
    | true => exact ⟨w, hwrite.trans hread, rfl⟩

/-- A group that is refused: its sequences end DENIED. -/
theorem State.placeGroup_refused {g : Group} {c : Nat} {home warm : Bool} (h : (s.placeGroup g c home warm).2 = false) :
    ∃ u : State, u.rs = s.rs ∧ s.placeGroup g c home warm = (g.members.foldl (fun s e => s.endSeq e .denied) u, false) := by
  have hread := s.readGroup_rs g c home warm
  unfold State.placeGroup at h ⊢
  dsimp only at h ⊢
  rcases hr : s.readGroup g c home warm with ⟨u, ok⟩
  rw [hr] at h hread
  cases ok with
  | false => exact ⟨u, hread, rfl⟩
  | true =>
    dsimp only at h hread ⊢
    have hwrite := u.writePrograms_rs c (u.seqTemplate (g.members.headD 0)) g.part g.station (u.slotsOf g home)
    rcases hw : u.writePrograms c (u.seqTemplate (g.members.headD 0)) g.part g.station (u.slotsOf g home) with ⟨w, ok⟩
    rw [hw] at h hwrite
    cases ok with
    | false => exact ⟨w, hwrite.trans hread, rfl⟩
    | true => exact absurd h.symm Bool.false_ne_true

theorem rosterStep_places (hstarted : s.rs.started = true) (hrun : s.computeRuns = true) (hawake : s.pwr.entering = false) (hquiet : s.rosterQuiet)
    (h : s.oneWaits e q) (hsome : s.candidates (s.template q.package q.variant q.model q.step) ≠ []) {c : Fin 16} (hidle : s.idleCores = [c.val]) :
    exec .rosterStep s = .next (match s.stirred.placement (s.stirred.mkGroup [e] 0) [c.val] with
      | none => State.count { s.stirred with rs := { s.stirred.rs with makeup := 0 } } 0x2880 0x0B
      | some (d, home, warm) => match s.stirred.placeGroup (s.stirred.mkGroup [e] 0) d home warm with
        | (u, true) => State.startTests { u with rs := { u.rs with makeup := 1 } } ([c.val].erase d) ([c.val].erase d)
        | (u, false) => { u with rs := { u.rs with makeup := 0 } }) := by
  have hstays : ∀ k ∈ s.rs.seq.map Prod.fst, s.stirred.endWithoutCore k = s.stirred := fun k hk => by
    rw [h.seqs] at hk
    obtain rfl : k = e := List.mem_singleton.1 hk
    exact h.stirred.stays hsome
  rw [rosterStep_eq hstarted hrun hawake hquiet hstays, h.stirred.placeAll hidle]

theorem rosterStep_dispatches (hstarted : s.rs.started = true) (hrun : s.computeRuns = true) (hawake : s.pwr.entering = false) (hquiet : s.rosterQuiet)
    (h : s.oneWaits e q) {c : Fin 16} (hidle : s.idleCores = [c.val]) (hc : c.val ∈ s.candidates (s.template q.package q.variant q.model q.step))
    (hgrant : ∀ home warm, (s.stirred.placeGroup (s.stirred.mkGroup [e] 0) c home warm).2 = true) : Completes .rosterStep s (fun t =>
      (t.core c).state = .running ∧ (t.core c).station = q.station ∧ (t.seq e).state = .running ∧ (t.seq e).partsRun = q.partsRun + 1 ∧ (t.seq e).partsLeft = []
      ∧ (t.rs.slug.at ({} : Slug) c).on = true ∧ t.rs.makeup = 1) := by
  obtain ⟨home, warm, hplace⟩ := h.stirred.placed (c := c.val) hc
  obtain ⟨u, hrs, hgo⟩ := State.placeGroup_goes (hgrant home warm)
  have hstep := rosterStep_places hstarted hrun hawake hquiet h (List.ne_nil_of_mem hc) hidle
  rw [hplace] at hstep
  dsimp only at hstep
  rw [hgo] at hstep
  dsimp only at hstep
  rw [List.erase_cons_head] at hstep
  have hseqs : u.rs.seq = [(e, q)] := by
    rw [hrs]
    exact h.seqs
  have hst : (s.stirred.mkGroup [e] 0).station = q.station := congrArg SeqEntry.station h.stirred.entry
  obtain ⟨hrunning, hstation, hstate, hparts, hleft, hon⟩ := State.dispatchGroup_spec (s := u) (g := s.stirred.mkGroup [e] 0) (c := c.val)
    (home := home) (warm := warm) rfl rfl hseqs h.parts
  generalize u.dispatchGroup (s.stirred.mkGroup [e] 0) c.val home warm = w at *
  have hnone : State.startTests { w with rs := { w.rs with makeup := 1 } } [] [] = { w with rs := { w.rs with makeup := 1 } } := rfl
  rw [hnone] at hstep
  exact ⟨_, hstep, hrunning, hstation.trans hst, hstate, hparts, hleft, hon, rfl⟩

theorem rosterStep_refuses (hstarted : s.rs.started = true) (hrun : s.computeRuns = true) (hawake : s.pwr.entering = false) (hquiet : s.rosterQuiet)
    (h : s.oneWaits e q) {c : Fin 16} (hidle : s.idleCores = [c.val]) (hc : c.val ∈ s.candidates (s.template q.package q.variant q.model q.step))
    (hdeny : ∀ home warm, (s.stirred.placeGroup (s.stirred.mkGroup [e] 0) c home warm).2 = false) : Completes .rosterStep s (fun t =>
      (t.seq e).state = .free ∧ t.rs.makeup = 0) := by
  obtain ⟨home, warm, hplace⟩ := h.stirred.placed (c := c.val) hc
  obtain ⟨u, hrs, hgo⟩ := State.placeGroup_refused (hdeny home warm)
  have hstep := rosterStep_places hstarted hrun hawake hquiet h (List.ne_nil_of_mem hc) hidle
  rw [hplace] at hstep
  dsimp only at hstep
  rw [hgo] at hstep
  have hbusy : (u.seq e).state ≠ .free := by
    rw [State.seq_of_seq (congrArg Roster.seq hrs), h.stirred.entry, h.ready]
    decide
  refine ⟨_, hstep, ?_, rfl⟩
  show ((u.endSeq e .denied).seq e).state = .free
  rw [State.endSeq_seq u e .denied e hbusy, if_pos rfl]

theorem rosterStep_leaves (hstarted : s.rs.started = true) (hrun : s.computeRuns = true) (hawake : s.pwr.entering = false) (hquiet : s.rosterQuiet)
    (h : s.oneWaits e q) (hsome : s.candidates (s.template q.package q.variant q.model q.step) ≠ []) {c : Fin 16} (hidle : s.idleCores = [c.val])
    (hc : c.val ∉ s.candidates (s.template q.package q.variant q.model q.step)) : Completes .rosterStep s (fun t =>
      t.seq e = q ∧ Counted s t [key 0x2880 0x0B]
      ∧ t = { s with link := { s.link with rosterStall := false }, rs := { s.rs with makeup := 0 }, rep := t.rep }) := by
  have hstep := rosterStep_places hstarted hrun hawake hquiet h hsome hidle
  rw [h.stirred.unplaced hc] at hstep
  refine ⟨_, hstep, h.entry, ?_, rfl⟩
  have hbase : Counted s { s.stirred with rs := { s.stirred.rs with makeup := 0 } } [] := (Counted.refl s).of_rep rfl
  exact hbase.and_count List.not_mem_nil

/-! ### Sequences that end -/

theorem State.reportEnd_eq (s : State) (q : SeqEntry) (why : SeqEnd) : s.reportEnd q why =
    { s with link := { s.link with txq := (s.reportEnd q why).link.txq }, rep := (s.reportEnd q why).rep } := by
  have hsend : ∀ v, s.sendVerdict q.cue v = { s with link := { s.link with txq := (s.sendVerdict q.cue v).link.txq } } := fun v => by
    unfold State.sendVerdict
    split <;> rfl
  have hcounted : ∀ (u : State) (i j : Nat), u = { s with link := { s.link with txq := u.link.txq }, rep := u.rep } →
      u.count i j = { s with link := { s.link with txq := u.link.txq }, rep := (u.count i j).rep } := fun u i j hu => by
    rw [hu]
    rfl
  cases why with
  | verdict v =>
    show (s.count 0x2880 2).sendVerdict q.cue v = _
    unfold State.reportEnd State.sendVerdict
    split <;> rfl
  | noVerdict =>
    unfold State.reportEnd
    rw [hsend]
    rfl
  | deadline =>
    unfold State.reportEnd
    rw [hsend]
    rfl
  | expired => rfl
  | noCandidate =>
    unfold State.reportEnd
    rw [hsend]
    rfl
  | lost =>
    unfold State.reportEnd
    rw [hsend]
    rfl
  | aborted =>
    unfold State.reportEnd
    rw [hsend]
  | denied =>
    unfold State.reportEnd
    rw [hsend]
    rfl
  | reset => rfl

/-- A sequence that ends in a station that is not draining, while no record is open. -/
theorem State.endSeq_settled {why : SeqEnd} (hbusy : (s.seq e).state ≠ .free) (hwins : s.rs.wins = []) (hst : s.stState (s.seq e).station ≠ .draining) :
    ∃ slug, s.endSeq e why = { s.reportEnd (s.seq e) why with rs := { s.rs with seq := s.rs.seq.put e {}, slug := slug } } := by
  have hframe := s.reportEnd_eq (s.seq e) why
  unfold State.endSeq
  dsimp only
  rw [if_neg hbusy]
  generalize s.reportEnd (s.seq e) why = u at *
  rw [hframe, State.closeRecs_empty (by exact hwins)]
  unfold State.settleStation
  rw [if_neg (fun h => hst h.1)]
  exact ⟨_, rfl⟩

theorem State.reportEnd_used {why : SeqEnd} (hup : s.link.up = true) (hused : (s.cueUse q.cue).used = true) :
    (why = .deadline → (s.reportEnd q why).link.txq = s.link.txq ++ [.verdict q.cue .unseen] ∧ Counted s (s.reportEnd q why) [key 0x2880 4])
    ∧ (why = .lost → (s.reportEnd q why).link.txq = s.link.txq ++ [.verdict q.cue .unseen] ∧ Counted s (s.reportEnd q why) [key 0x2880 5]) := by
  have hbase : Counted s (s.sendField (.verdict q.cue .unseen)) [] := (Counted.refl s).of_rep rfl
  constructor
  · rintro rfl
    unfold State.reportEnd
    dsimp only
    rw [State.sendVerdict_used hup hused]
    exact ⟨rfl, (hbase.and_count List.not_mem_nil).raiseSec _ _⟩
  · rintro rfl
    unfold State.reportEnd
    rw [State.sendVerdict_used hup hused]
    exact ⟨rfl, hbase.and_count List.not_mem_nil⟩

theorem sequenceDeadline_ends {n : Fin 1024} (hwins : s.rs.wins = []) (hbusy : (s.seq n).state ≠ .free)
    (hvalid : (s.viewAt (s.stClock (s.seq n).station)).valid = true) (hdue : s.deadlineDue n = true) (hup : s.link.up = true)
    (hused : (s.cueUse (s.seq n).cue).used = true) (hst : s.stState (s.seq n).station ≠ .draining) : Completes (.sequenceDeadline n) s (fun t =>
      t.seq n = {} ∧ (∀ k, k ≠ n.val → t.seq k = s.seq k) ∧ t.link.txq = s.link.txq ++ [.verdict (s.seq n).cue .unseen] ∧ Counted s t [key 0x2880 4]
      ∧ t = { s with rs := { s.rs with seq := t.rs.seq, slug := t.rs.slug }, link := { s.link with txq := t.link.txq }, rep := t.rep }) := by
  obtain ⟨slug, hend⟩ := State.endSeq_settled (e := n.val) (why := .deadline) hbusy hwins hst
  obtain ⟨htxq, hcount⟩ := (State.reportEnd_used (q := s.seq n) (why := .deadline) hup hused).1 rfl
  have hframe := s.reportEnd_eq (s.seq n) .deadline
  have hseq := fun k => s.endSeq_seq n .deadline k hbusy
  refine ⟨_, congrArg Host.Outcome.next (if_pos ⟨hbusy, hvalid, hdue⟩), ?_⟩
  refine ⟨(hseq n).trans (if_pos rfl), fun k hk => (hseq k).trans (if_neg hk), ?_, ?_, ?_⟩
  · rw [hend]
    exact htxq
  · rw [hend]
    exact hcount.of_rep rfl
  · rw [hend]
    generalize s.reportEnd (s.seq n) .deadline = u at *
    rw [hframe]

/-! ### A core that is lost -/

theorem State.switchVariants_none (h : ∀ st, st < 32 → s.stPackage st = none) : (List.range 32).foldl (fun s st => s.switchVariant st) s = s := by
  refine foldl_same fun st hst => ?_
  unfold State.switchVariant
  rw [h st (List.mem_range.1 hst)]

/-- The core's bit has left the core map. -/
def State.mapWithout (s : State) (c : Nat) : State := { s with rs := { s.rs with live := if bit s.rs.live c then s.rs.live - 2 ^ c else s.rs.live } }

theorem State.mapWithout_live (s : State) (c k : Nat) : bit (s.mapWithout c).rs.live k = (bit s.rs.live k && decide (k ≠ c)) := by
  show bit (if bit s.rs.live c then s.rs.live - 2 ^ c else s.rs.live) k = _
  split
  · next h =>
    rw [bit_sub_two_pow h]
    by_cases hk : k = c <;> simp [hk]
  · next h =>
    by_cases hk : k = c
    · subst hk
      simpa using h
    · simp [hk]

theorem rosterRetirement_eq {c : Fin 16} (hret : s.retired c = true) (hpk : ∀ st, st < 32 → s.stPackage st = none) :
    exec (.rosterRetirement c) s = .next (((s.slugSeqs c).foldl (fun u e => u.lostPart (s.rs.slug.at ({} : Slug) c).part e)
      ((s.mapWithout c).slugLost c)).coresChecked) := by
  have hkeep : (List.range 32).foldl (fun s st => s.switchVariant st) (s.mapWithout c) = s.mapWithout c := State.switchVariants_none hpk
  have hslug : (s.mapWithout c).rs.slug = s.rs.slug := rfl
  show execRosterRetirement c s = _
  unfold execRosterRetirement State.coresChecked State.slugLost
  dsimp only
  rw [if_neg (by simp [hret])]
  unfold State.mapWithout at hkeep hslug ⊢
  rw [hkeep]
  unfold State.slugSeqs
  rfl

theorem rosterRetirement_quiet {c : Fin 16} (hret : s.retired c = true) (hpk : ∀ st, st < 32 → s.stPackage st = none) (hseq : s.rs.seq = [])
    (hseqs : s.slugSeqs c = []) : Completes (.rosterRetirement c) s (fun t =>
      (∀ k, k < 16 → bit t.rs.live k = (bit s.rs.live k && decide (k ≠ c.val))) ∧ t.rs.slug.at ({} : Slug) c = {}
      ∧ t = { s with rs := { s.rs with live := t.rs.live, slug := t.rs.slug } }) := by
  have hdone : State.coresChecked ((s.mapWithout c).slugLost c) = (s.mapWithout c).slugLost c :=
    foldl_same fun k hk => absurd (hseq ▸ hk) List.not_mem_nil
  have hexec := rosterRetirement_eq hret hpk
  rw [hseqs, List.foldl_nil, hdone] at hexec
  exact ⟨_, hexec, fun k _ => s.mapWithout_live c k, Tab.at_put_same .., rfl⟩

theorem State.lostPart_rerun (h : (s.seq e).rerun = true) (part : Nat) : s.lostPart part e = s.endSeq e .lost :=
  if_neg (by simp [h])

theorem rosterRetirement_ends {c : Fin 16} (hret : s.retired c = true) (hpk : ∀ st, st < 32 → s.stPackage st = none) (hseq : s.rs.seq = [(e, q)])
    (hseqs : s.slugSeqs c = [e]) (hbusy : q.state ≠ .free) (hrerun : q.rerun = true) (hwins : s.rs.wins = []) (hup : s.link.up = true)
    (hused : (s.cueUse q.cue).used = true) (hst : s.stState q.station ≠ .draining) : Completes (.rosterRetirement c) s (fun t =>
      t.seq e = {} ∧ t.link.txq = s.link.txq ++ [.verdict q.cue .unseen] ∧ Counted s t [key 0x2880 5] ∧ bit t.rs.live c = false) := by
  have hexec := rosterRetirement_eq hret hpk
  rw [hseqs, List.foldl_cons, List.foldl_nil] at hexec
  have hself : ((s.mapWithout c).slugLost c).seq e = q := by
    show s.rs.seq.at {} e = q
    rw [hseq]
    exact if_pos rfl
  rw [State.lostPart_rerun (by rw [hself]; exact hrerun)] at hexec
  have hrep : ((s.mapWithout c).slugLost c).rep = s.rep := rfl
  have hlink : ((s.mapWithout c).slugLost c).link = s.link := rfl
  have hlive : bit ((s.mapWithout c).slugLost c).rs.live c = false := (s.mapWithout_live c c).trans (by simp)
  have hseq' : ((s.mapWithout c).slugLost c).rs.seq = [(e, q)] := hseq
  have hwins' : ((s.mapWithout c).slugLost c).rs.wins = [] := hwins
  have hused' : (((s.mapWithout c).slugLost c).cueUse q.cue).used = true := hused
  have hst' : ((s.mapWithout c).slugLost c).stState q.station ≠ .draining := hst
  generalize (s.mapWithout c).slugLost c = u at *
  obtain ⟨slug, hend⟩ := State.endSeq_settled (s := u) (e := e) (why := .lost) (by rwa [hself]) hwins' (by rwa [hself])
  obtain ⟨htxq, hcount⟩ := (State.reportEnd_used (s := u) (q := u.seq e) (why := .lost) (by rw [hlink]; exact hup) (by rwa [hself])).2 rfl
  have hfree := (u.endSeq_seq e .lost e (by rwa [hself])).trans (if_pos rfl)
  have hkeys : (u.endSeq e .lost).rs.seq = [(e, {})] := by
    rw [hend, hseq']
    simp [Tab.put]
  have hdone : (u.endSeq e .lost).coresChecked = u.endSeq e .lost := by
    unfold State.coresChecked
    rw [hkeys]
    show (u.endSeq e .lost).endWithoutCore e = _
    unfold State.endWithoutCore
    rw [hfree]
    exact if_pos (.inl rfl)
  rw [hdone] at hexec
  refine ⟨_, hexec, hfree, ?_, ?_, ?_⟩
  · rw [hend, ← hlink]
    refine htxq.trans ?_
    rw [hself]
  · rw [hend]
    exact (hcount.of_base hrep).of_rep rfl
  · rw [hend]
    exact hlive

/-! ### Released windows -/

/-- The released window `x` has been taken. -/
def State.released (s : State) (x : Released) : State := { s with rs := { s.rs with rel := s.rs.rel.erase x } }

theorem sequenceCreate_opens {n : Fin 16} {w : Fin 32} {x : Released} (hfind : s.rs.rel.find? (fun x => x.channel == n.val && x.window == w.val) = some x)
    {p : Nat} (hpk : s.stPackage (s.channelOwner n) = some p) (hkind : s.pkKind p x.window = 1) (hup : s.link.up = true) (hawake : s.pwr.entering = false) :
    exec (.sequenceCreate n w) s = .next ((s.released x).openSequence (s.channelOwner n) p x) := by
  have hpk' : (s.released x).stPackage (s.channelOwner n) = some p := hpk
  have hkind' : (s.released x).pkKind p x.window = 1 := hkind
  show execSequenceCreate n w s = _
  unfold execSequenceCreate State.released at *
  rw [hfind]
  dsimp only
  rw [hpk']
  dsimp only
  rw [if_neg (not_not.2 hkind'), if_neg (by simp [hup, hawake])]

/-- The variant of a window: its cue's, or the station's. -/
def State.variantOf (s : State) (st cue : Nat) : Nat := if (s.cueUse cue).variant = 255 then (s.chain st).variant else (s.cueUse cue).variant

/-- The entry of a sequence that opens. -/
def State.opening (s : State) (st p cue : Nat) (x : Released) : SeqEntry :=
  { state := .ready, station := st, package := p, variant := s.variantOf st cue, model := s.pkModel p x.window, window := x.window
    tag := x.imp % 16, imp := x.imp, deadline := tickAt ((s.cueUse cue).pos / 256) (-(margin (s.pkVmax p) : Int)), cue := cue
    partsLeft := List.range (s.template p (s.variantOf st cue) (s.pkModel p x.window) 0).parts, recRing := x.ring, recStart := x.start }

/-- The sequence stands in entry `e`, and its record is in use. -/
def State.opened (s : State) (st p cue : Nat) (x : Released) (e : Nat) : State :=
  { s with rs := { s.rs with
    seq := s.rs.seq.put e (s.opening st p cue x)
    wins := s.rs.wins ++ [({ ring := x.ring, start := x.start, len := x.len, seq := e } : WinRec)] } }

section
variable {st p cue : Nat} {x : Released}

theorem State.openSequence_room (hkick : s.kickOf st x.imp x.window = some cue) (hv : s.variantOf st cue ≠ 255)
    (hhas : s.pkHas p (s.variantOf st cue) = true) (hquota : s.seqInUse st < s.stNum st 0x23) (hfree : freeEntry s.rs.seq = some e) :
    s.openSequence st p x = ((s.opened st p cue x e).count 0x2880 1).endWithoutCore e := by
  unfold State.openSequence
  rw [hkick]
  unfold State.variantOf at hv hhas
  dsimp only
  rw [if_neg (by simp [hv, hhas]), if_pos hquota, hfree]
  rfl

theorem State.openSequence_full (hkick : s.kickOf st x.imp x.window = some cue) (hv : s.variantOf st cue ≠ 255)
    (hhas : s.pkHas p (s.variantOf st cue) = true) (hquota : s.stNum st 0x23 ≤ s.seqInUse st) : s.openSequence st p x =
      State.dropRecord (((s.sendVerdict cue .unseen).count 0x2880 3).raiseSec st { code := 0x1806, station := st }) st x := by
  unfold State.openSequence
  rw [hkick]
  unfold State.variantOf at hv hhas
  dsimp only
  rw [if_neg (by simp [hv, hhas]), if_neg (Nat.not_lt.2 hquota)]

/-- A record that nobody else uses is released at once. -/
theorem State.dropRecord_alone (halone : ∀ y ∈ s.rs.wins, y.ring ≠ x.ring) (st : Nat) : s.dropRecord st x = s.releaseRec st x.ring x.len := by
  have hother : ∀ y ∈ s.rs.wins, (y.ring == x.ring) = false := fun y hy => by simpa using halone y hy
  have hfind : (s.rs.wins ++ [({ ring := x.ring, start := x.start, len := x.len, seq := seqGone, open_ := false } : WinRec)]).find?
      (fun r => r.ring == x.ring) = some { ring := x.ring, start := x.start, len := x.len, seq := seqGone, open_ := false } := by
    rw [List.find?_append, List.find?_eq_none.2 fun y hy => by simp [hother y hy]]
    simp
  have hclosed : (s.rs.wins ++ [({ ring := x.ring, start := x.start, len := x.len, seq := seqGone, open_ := false } : WinRec)]).any
      (fun y => y.ring == x.ring && y.start == x.start && y.open_) = false := by
    rw [List.any_append, List.any_eq_false.2 fun y hy => by simp [hother y hy]]
    simp
  have hleft : (s.rs.wins ++ [({ ring := x.ring, start := x.start, len := x.len, seq := seqGone, open_ := false } : WinRec)]).filter
      (fun y => !(y.ring == x.ring && y.start == x.start)) = s.rs.wins := by
    rw [List.filter_append, List.filter_eq_self.2 fun y hy => by simp [hother y hy]]
    simp
  have hdrained : ∀ (u : State) (k : Nat), u.rs.wins = s.rs.wins → u.drainRing st x.ring k = u := fun u k hu => by
    cases k with
    | zero => rfl
    | succ k =>
      unfold State.drainRing
      rw [hu, List.find?_eq_none.2 fun y hy => by simp [hother y hy]]
  have hwins : (s.releaseRec st x.ring x.len).rs.wins = s.rs.wins := by
    unfold State.releaseRec
    split
    · rw [State.releaseOn_rs]
    · rfl
  unfold State.dropRecord
  dsimp only
  rw [List.length_append, List.length_singleton]
  unfold State.drainRing
  dsimp only
  rw [hfind]
  dsimp only
  rw [hclosed, hleft]
  exact hdrained _ _ hwins

end

theorem sequenceCreate_ready {n : Fin 16} {w : Fin 32} {x : Released} {p cue : Nat}
    (hexec : exec (.sequenceCreate n w) s = .next ((s.released x).openSequence (s.channelOwner n) p x))
    (hkick : s.kickOf (s.channelOwner n) x.imp x.window = some cue) (hv : s.variantOf (s.channelOwner n) cue ≠ 255)
    (hhas : s.pkHas p (s.variantOf (s.channelOwner n) cue) = true) (hquota : s.seqInUse (s.channelOwner n) < s.stNum (s.channelOwner n) 0x23)
    (hfree : freeEntry s.rs.seq = some e)
    (hcand : s.candidates (s.template p (s.variantOf (s.channelOwner n) cue) (s.pkModel p x.window) 0) ≠ []) :
    Completes (.sequenceCreate n w) s (fun t =>
      t.seq e = s.opening (s.channelOwner n) p cue x ∧ (∀ k, k ≠ e → t.seq k = s.seq k) ∧ Counted s t [key 0x2880 1]
      ∧ t = { s with rs := { s.rs with rel := s.rs.rel.erase x, seq := t.rs.seq, wins := s.rs.wins ++ [{ ring := x.ring, start := x.start, len := x.len, seq := e }] }
                     rep := t.rep }) := by
  have hopen := State.openSequence_room (s := s.released x) (st := s.channelOwner n) (p := p) (x := x) hkick hv hhas hquota hfree
  have hseq : ∀ k, (((s.released x).opened (s.channelOwner n) p cue x e).count 0x2880 1).seq k =
      if k = e then s.opening (s.channelOwner n) p cue x else s.seq k := fun k => Tab.at_put ..
  have hself := (hseq e).trans (if_pos rfl)
  have hbase : Counted s ((s.released x).opened (s.channelOwner n) p cue x e) [] := (Counted.refl s).of_rep rfl
  have hstays : (((s.released x).opened (s.channelOwner n) p cue x e).count 0x2880 1).endWithoutCore e =
      ((s.released x).opened (s.channelOwner n) p cue x e).count 0x2880 1 := by
    have htemplate : (((s.released x).opened (s.channelOwner n) p cue x e).count 0x2880 1).candidates
        ((((s.released x).opened (s.channelOwner n) p cue x e).count 0x2880 1).seqTemplate e) =
        s.candidates (s.template p (s.variantOf (s.channelOwner n) cue) (s.pkModel p x.window) 0) := by
      unfold State.seqTemplate
      rw [hself]
      rfl
    unfold State.endWithoutCore
    dsimp only
    rw [htemplate, if_neg hcand]
    exact ite_self _
  rw [hopen, hstays] at hexec
  exact ⟨_, hexec, hself, fun k hk => (hseq k).trans (if_neg hk), hbase.and_count List.not_mem_nil, rfl⟩

theorem sequenceCreate_refused {n : Fin 16} {w : Fin 32} {x : Released} {p cue : Nat}
    (hexec : exec (.sequenceCreate n w) s = .next ((s.released x).openSequence (s.channelOwner n) p x))
    (hkick : s.kickOf (s.channelOwner n) x.imp x.window = some cue) (hv : s.variantOf (s.channelOwner n) cue ≠ 255)
    (hhas : s.pkHas p (s.variantOf (s.channelOwner n) cue) = true) (hquota : s.stNum (s.channelOwner n) 0x23 ≤ s.seqInUse (s.channelOwner n))
    (hup : s.link.up = true) (hused : (s.cueUse cue).used = true) (halone : ∀ y ∈ s.rs.wins, y.ring ≠ x.ring) (hst : s.channelOwner n < 32)
    (hring : s.ringOpen (.roster (Fin.ofNat 32 (s.channelOwner n))) x.ring) (hlen : x.len ≠ 0) (hlen4 : x.len % 4 = 0)
    (hcontent : x.len ≤ (s.ring x.ring).content) (hcq : (s.ring x.ring).cqEn = false) : Completes (.sequenceCreate n w) s (fun t =>
      t.rs.seq = s.rs.seq ∧ t.link.txq = s.link.txq ++ [.verdict cue .unseen] ∧ Counted s t [key 0x2880 3]
      ∧ (t.ring x.ring).tail = ((s.ring x.ring).tail + x.len) % 2 ^ 32 ∧ (∀ k, k ≠ x.ring → t.ring k = s.ring k)) := by
  have hfin : (⟨s.channelOwner n, hst⟩ : Fin 32) = Fin.ofNat 32 (s.channelOwner n) := Fin.ext (Nat.mod_eq_of_lt hst).symm
  have hopen := State.openSequence_full (s := s.released x) (st := s.channelOwner n) (p := p) (x := x) hkick hv hhas hquota
  rw [State.sendVerdict_used (s := s.released x) hup hused] at hopen
  have hbase : Counted s ((s.released x).sendField (.verdict cue .unseen)) [] := (Counted.refl s).of_rep rfl
  have hcount := (hbase.and_count (i := 0x2880) (j := 3) List.not_mem_nil).raiseSec (s.channelOwner n) { code := 0x1806, station := s.channelOwner n }
  have hframe : (((s.released x).sendField (.verdict cue .unseen)).count 0x2880 3).raiseSec (s.channelOwner n) { code := 0x1806, station := s.channelOwner n } =
      { s with rs := { s.rs with rel := s.rs.rel.erase x }, link := { s.link with txq := s.link.txq ++ [.verdict cue .unseen] }
               rep := ((((s.released x).sendField (.verdict cue .unseen)).count 0x2880 3).raiseSec (s.channelOwner n)
                 { code := 0x1806, station := s.channelOwner n }).rep } := rfl
  generalize State.raiseSec _ _ _ = u at *
  have hring' : u.ringOpen (.roster ⟨s.channelOwner n, hst⟩) x.ring := by
    rw [hfin, hframe]
    exact hring
  have hsame : ∀ k, u.ring k = s.ring k := fun k => by rw [hframe]; rfl
  have hrelease := State.releaseOn_open hring' hlen hlen4 (by rw [hsame]; exact hcontent)
  rw [if_neg (by rw [hsame, hcq]; decide)] at hrelease
  have hdrop := State.dropRecord_alone (s := u) (x := x) (by rw [hframe]; exact halone) (s.channelOwner n)
  unfold State.releaseRec at hdrop
  rw [dif_pos hst, hrelease] at hdrop
  rw [hopen, hdrop] at hexec
  refine ⟨_, hexec, ?_, ?_, hcount.of_rep rfl, ?_, fun k hk => ?_⟩
  · show u.rs.seq = _
    rw [hframe]
  · show u.link.txq = _
    rw [hframe]
  · rw [State.ring_same_of_put (s := u) rfl, hsame]
  · rw [State.ring_other_of_put (s := u) rfl k hk, hsame]

/-- Settles O38: the step of the Roster, the sequences that open and end, and the core that is lost. -/
theorem rosterSteps : Obligations.RosterSteps := by
  intro s
  refine ⟨fun h => rosterStep_idle h, fun hstarted hrun hawake hquiet => ⟨fun hseq => ⟨fun hperiod => ?_,
        fun c d hne hclass hidle hperiod hdue hretire => rosterStep_tests hstarted hrun hawake hquiet hseq hne hclass hidle hperiod hdue hretire⟩,
      fun e q c hseqs hready hbatch hparts hseen hsingle hsome hidle => ?_⟩,
    fun n w => ⟨fun hfind => ?_, fun x hfind => ⟨fun hpk => ?_, fun p cue v e hpk hkind hup hawake hkick hv hv255 hhas => ?_⟩⟩,
    fun e hwins hbusy hvalid hdue hup hused hst => sequenceDeadline_ends hwins hbusy hvalid hdue hup hused hst, fun e h => ?_, fun c hret => ?_,
    fun c hret hpk => ⟨fun hseq hseqs => rosterRetirement_quiet hret hpk hseq hseqs, fun e q hseq hseqs hbusy hrerun hwins hup hused hst =>
      rosterRetirement_ends hret hpk hseq hseqs hbusy hrerun hwins hup hused hst⟩⟩
  · refine ⟨_, (rosterStep_eq hstarted hrun hawake hquiet (by rw [hseq]; exact fun e he => absurd he List.not_mem_nil)).trans
      (congrArg Host.Outcome.next ((State.placeAll_none (s := s.stirred) hseq).trans (State.startTests_off
        (s := { s.stirred with rs := { s.stirred.rs with makeup := 0 } }) hperiod _ _))), rfl⟩
  · have hone : s.oneWaits e q := ⟨hseqs, hready, hbatch, hparts, hseen, hsingle⟩
    exact ⟨fun hc => ⟨fun hgrant => rosterStep_dispatches hstarted hrun hawake hquiet hone hidle hc hgrant,
      fun hdeny => rosterStep_refuses hstarted hrun hawake hquiet hone hidle hc hdeny⟩,
      fun hc => rosterStep_leaves hstarted hrun hawake hquiet hone hsome hidle hc⟩
  · refine ⟨s, congrArg Host.Outcome.next ?_, rfl⟩
    rw [hfind]
  · refine ⟨s.released x, congrArg Host.Outcome.next ?_, rfl⟩
    rw [hfind]
    have hpk' : (s.released x).stPackage (s.channelOwner n) = none := hpk
    unfold State.released at *
    dsimp only
    rw [hpk']
  · have hexec := sequenceCreate_opens hfind hpk hkind hup hawake
    have hv' : v = s.variantOf (s.channelOwner n) cue := hv
    subst hv'
    exact ⟨fun hquota hfree hcand => sequenceCreate_ready hexec hkick hv255 hhas hquota hfree hcand,
      fun hquota hused halone hst hring hlen hlen4 hcontent hcq =>
        sequenceCreate_refused hexec hkick hv255 hhas hquota hup hused halone hst hring hlen hlen4 hcontent hcq⟩
  · exact ⟨s, congrArg Host.Outcome.next (if_neg fun hends => h.elim (fun hfree => hends.1 hfree) fun hdue => by rw [hdue] at hends; exact absurd hends.2.2 (by decide)), rfl⟩
  · exact ⟨s, congrArg Host.Outcome.next (if_pos hret), rfl⟩

end Machine
end Sys2Proof
end

section
open scoped List
namespace Sys2Proof
namespace Machine

variable {s : State}

/-! The PCIe host port (12): outbound reads, resets of functions, the link and configuration requests. -/

/-- An outbound read ends in an error: it is counted, and its data is an error response (12 R303). -/
def State.outboundFails (s : State) (o : Outbound) : State :=
  { ((s.dropOutbound o).outboundError : State) with out := { s.out with rdata := [], err := true } }

/-- With no access waiting, none can be sent into the outbound window. -/
theorem State.sendWaiting_none (h : s.mem.waiting = []) : s.sendWaiting = s := by
  unfold State.sendWaiting
  simp only [h, List.filter_nil, List.foldl_nil]
  rw [← h]

theorem freeTag_nil : freeTag [] = some 0 := by
  unfold freeTag
  rw [List.range_succ_eq_map]
  rfl

theorem Outbound.erase_only (o : Outbound) : [o].erase o = [] := by simp

/-- A single access that waits for a tag is sent once one is free (12 R303). -/
theorem State.sendWaiting_one {x : WaitingAccess} (h : s.mem.waiting = [x]) (hregion : regionOf x.addr = some .outbound) :
    s.sendWaiting = (({ s with mem := { s.mem with waiting := [] } } : State).outAccess x.req x.station x.addr x.op).1 := by
  have hout : (regionOf x.addr == some .outbound) = true := by rw [hregion]; rfl
  have hin : (regionOf x.addr != some .outbound) = false := by rw [hregion]; rfl
  unfold State.sendWaiting
  simp only [h, List.filter_cons, List.filter_nil, hout, hin, if_true, Bool.false_eq_true, if_false, List.foldl_cons, List.foldl_nil]

theorem State.outAccess_read {f : Nat} (hup : s.host.linkUp = true) (hon : s.funcOn f = true) (hbme : (s.func f).bme = true) (hout : s.host.outst = [])
    (req : Requester) (a n : Nat) : s.outAccess req f a (.read n) =
      ({ s with host := { s.host with outst := [{ tag := 0, fn := f, addr := s.host.outBase / 4096 * 4096 + (a - Machine.outBase), len := n }] } }, some []) := by
  unfold State.outAccess State.outRead
  rw [if_neg (by simp [hup, hon, hbme]), hout, freeTag_nil]
  rfl

theorem State.hartAt_of_upd {t : State} {h : Nat} {g : Hart → Hart} (hhart : t.host.hart = s.host.hart.upd {} h g) (k : Nat) :
    t.hartAt k = if k = h then g (s.hartAt h) else s.hartAt k := by
  unfold State.hartAt
  rw [hhart]
  exact Tab.at_upd _ _ _ _ _

/-- A function's reset, field by field (12 R303, R306). -/
def State.resetFuncOut (s : State) (f : Nat) : Out :=
  if s.host.outst.all (fun o => o.fn != f) then s.out else { s.out with rdata := [], err := true }

theorem State.endOutbound_eq (s : State) (f : Nat) : s.endOutbound f =
    { s with host := { s.host with outst := s.host.outst.filter (fun o => o.fn != f) }, out := s.resetFuncOut f } := by
  unfold State.endOutbound State.resetFuncOut
  split
  next h =>
    have hall : s.host.outst.filter (fun o => o.fn != f) = s.host.outst := List.filter_eq_self.mpr (List.all_eq_true.mp h)
    rw [hall]
  next => rfl

theorem State.resetFunc_eq (s : State) (f : Nat) : s.resetFunc f =
    { s with
      host := { s.host with fn := s.host.fn.upd {} f (fun _ => {}), outst := s.host.outst.filter (fun o => o.fn != f)
                            numVfs := if f = 0 then 0 else s.host.numVfs }
      od := { s.od with waiting := s.od.waiting.filter (fun (w : Waiting) => !ofMailbox f w.path) }
      out := s.resetFuncOut f } := by
  unfold State.resetFunc
  rw [State.endOutbound_eq]
  split <;> rfl

theorem State.func_of_upd {t : State} {f : Nat} {g : Pf → Pf} (h : t.host.fn = s.host.fn.upd {} f g) (k : Nat) :
    t.func k = if k = f then g (s.func f) else s.func k := by
  unfold State.func
  rw [h]
  exact Tab.at_upd _ _ _ _ _

theorem path_of_not_mailbox {f : Fin 32} {p : Path} (h : (!ofMailbox f.val p) = true) : p ≠ .mailbox f := by
  rintro rfl
  simp [ofMailbox] at h

/-- Functions `l` have been reset, and no other (12 Table 12-3). -/
structure FuncsReset (s t : State) (l : List Nat) : Prop where
  func : ∀ k, t.func k = if k ∈ l then {} else s.func k
  reads : ∀ o ∈ t.host.outst, o.fn ∉ l
  numVfs : t.host.numVfs = if 0 ∈ l then 0 else s.host.numVfs
  paths : ∀ w ∈ t.od.waiting, ∀ f : Fin 32, f.val ∈ l → w.path ≠ .mailbox f
  frame : t = { s with host := { s.host with fn := t.host.fn, outst := t.host.outst, numVfs := t.host.numVfs }
                       od := { s.od with waiting := t.od.waiting }, out := t.out }

theorem FuncsReset.nil (s : State) : FuncsReset s s [] where
  func _ := rfl
  reads _ _ := List.not_mem_nil
  numVfs := rfl
  paths _ _ _ hf := absurd hf List.not_mem_nil
  frame := rfl

theorem FuncsReset.snoc {t : State} {l : List Nat} (h : FuncsReset s t l) (f : Nat) : FuncsReset s (t.resetFunc f) (l ++ [f]) := by
  rw [State.resetFunc_eq]
  obtain ⟨hfunc, hreads, hvfs, hpaths, hframe⟩ := h
  constructor
  · intro k
    refine (State.func_of_upd (s := t) (f := f) (g := fun _ => {}) rfl k).trans ?_
    by_cases hk : k = f <;> simp [hk, hfunc]
  · intro o ho
    obtain ⟨hmem, hfn⟩ := List.mem_filter.mp ho
    simpa using ⟨hreads o hmem, by simpa using hfn⟩
  · by_cases hf : f = 0
    · simp [hf]
    · simp [hf, hvfs, Ne.symm hf]
  · intro w hw g hg
    obtain ⟨hmem, hpath⟩ := List.mem_filter.mp hw
    rcases List.mem_append.mp hg with hl | hl
    · exact hpaths w hmem g hl
    · obtain rfl : g.val = f := by simpa using hl
      exact path_of_not_mailbox hpath
  · generalize State.resetFuncOut t f = x
    rw [hframe]

theorem FuncsReset.foldl (s : State) (l : List Nat) : FuncsReset s (l.foldl (fun s f => s.resetFunc f) s) l := by
  induction l using List.reverseRecOn with
  | nil => exact .nil s
  | append_singleton l f ih => rw [List.foldl_append]; exact ih.snoc f

/-- Every function has been reset (12 R320). -/
def State.allReset (s : State) : State := (List.range 32).foldl (fun s f => s.resetFunc f) s

theorem State.allReset_spec (s : State) : FuncsReset s s.allReset (List.range 32) := .foldl s _

/-- A filter on the keys of a table keeps the entries of the keys it lets through. -/
theorem Tab.at_filter {α : Type} (d : α) (t : Tab α) (p : Nat → Bool) {k : Nat} (hk : p k = true) :
    Tab.at d (t.filter (fun x => p x.1)) k = t.at d k := by
  induction t with
  | nil => rfl
  | cons x r ih =>
    obtain ⟨j, y⟩ := x
    by_cases hj : p j = true
    · simp only [List.filter_cons, hj, if_true, Tab.at, ih]
    · have hne : j ≠ k := fun h => hj (h ▸ hk)
      simp only [List.filter_cons, hj, Tab.at, if_neg hne, ← ih]
      rfl

/-- A configuration request that is served, not retried, changes a function (12 R320). -/
def State.noRetry (s : State) (f : Nat) (g : Pf → Pf) : State :=
  ({ s with out := { s.out with retry := false } } : State).updFunc f g

theorem State.noRetry_func (s : State) (f : Nat) (g : Pf → Pf) (k : Nat) : (s.noRetry f g).func k = if k = f then g (s.func f) else s.func k :=
  State.func_of_upd rfl k

theorem pcieLinkDown_down (h : s.host.linkUp = false) : exec .pcieLinkDown s = .next s := by
  show execPcieLinkDown s = _
  unfold execPcieLinkDown
  rw [if_pos (by simp [h])]

theorem State.failOutbound_one {o : Outbound} (h : s.host.outst = [o]) : s.failOutbound = s.outboundFails o := by
  unfold State.failOutbound
  rw [h]
  rfl

theorem State.outboundFails_counted (s : State) (o : Outbound) : Counted s (s.outboundFails o) [key 0x28A0 3] :=
  ((Counted.count s).raiseSec 0 { code := 0x1A03 }).of_rep rfl

theorem State.outboundFails_eq (s : State) (o : Outbound) : s.outboundFails o =
    { s with host := { s.host with outst := s.host.outst.erase o }, out := { s.out with rdata := [], err := true }, rep := (s.outboundFails o).rep } := rfl

/-- Ends of one outbound read (12 R303). -/
theorem outboundCompletion_ends {tag : Fin 1024} {o : Outbound} (hfind : s.host.outst.find? (fun x => x.tag == tag.val) = some o)
    (hwait : s.mem.waiting = []) (d : List Byte) :
    Completes (.outboundCompletion tag .success d) s (fun t =>
        t = { s with host := { s.host with outst := s.host.outst.erase o }, out := { s.out with rdata := d.take o.len, err := false } })
      ∧ Completes (.outboundCompletion tag .unsupported d) s (fun t => Counted s t [key 0x28A0 2, key 0x28A0 3]
        ∧ t = { s with host := { s.host with outst := s.host.outst.erase o }, out := { s.out with rdata := [], err := true }, rep := t.rep })
      ∧ Completes (.outboundCompletion tag .abort d) s (fun t => Counted s t [key 0x28A0 3]
        ∧ t = { s with host := { s.host with outst := s.host.outst.erase o }, out := { s.out with rdata := [], err := true }, rep := t.rep })
      ∧ Completes (.outboundCompletionTimeout tag) s (fun t => Counted s t [key 0x28A0 3]
        ∧ t = { s with host := { s.host with outst := s.host.outst.erase o }, out := { s.out with rdata := [], err := true }, rep := t.rep }) := by
  have hfails := s.outboundFails_counted o
  have hquiet : (s.outboundFails o).sendWaiting = s.outboundFails o := State.sendWaiting_none hwait
  refine ⟨⟨_, congrArg Host.Outcome.next ?_, rfl⟩, ?_, ⟨s.outboundFails o, congrArg Host.Outcome.next ?_, hfails, rfl⟩,
    s.outboundFails o, congrArg Host.Outcome.next ?_, hfails, rfl⟩
  · rw [hfind]; exact State.sendWaiting_none hwait
  · obtain ⟨u, hu, hcount⟩ : ∃ u : State, s.count 0x28A0 2 = u ∧ Counted s u [key 0x28A0 2] := ⟨_, rfl, Counted.count s⟩
    have hframe : u = { s with rep := u.rep } := by rw [← hu]; rfl
    have hdrop : (s.dropOutbound o).count 0x28A0 2 = u.dropOutbound o := by rw [← hu]; rfl
    have hstay : (u.outboundFails o).sendWaiting = u.outboundFails o := State.sendWaiting_none (by rw [hframe]; exact hwait)
    have hboth : Counted s (u.outboundFails o) [key 0x28A0 2, key 0x28A0 3] :=
      ((hcount.and_count (by decide)).raiseSec 0 { code := 0x1A03 }).of_rep rfl
    refine ⟨u.outboundFails o, congrArg Host.Outcome.next ?_, hboth, ?_⟩
    · rw [hfind]
      dsimp only
      rw [hdrop]
      refine Eq.trans (congrArg State.sendWaiting ?_) hstay
      rw [hframe]; rfl
    · rw [hframe]; rfl
  · rw [hfind]; exact hquiet
  · rw [hfind]; exact hquiet

/-- A completion frees a tag, and the read that waited for one is sent with it (12 R303). -/
theorem outboundCompletion_sends {tag : Fin 1024} {o : Outbound} {x : WaitingAccess} {d : List Byte} {n : Nat} (hout : s.host.outst = [o])
    (htag : o.tag = tag.val) (hwait : s.mem.waiting = [x]) (hregion : regionOf x.addr = some .outbound) (hop : x.op = .read n)
    (hup : s.host.linkUp = true) (hon : s.funcOn x.station = true) (hbme : (s.func x.station).bme = true) :
    Completes (.outboundCompletion tag .success d) s (fun t => t.mem.waiting = []
      ∧ t.host.outst = [{ tag := 0, fn := x.station, addr := s.host.outBase / 4096 * 4096 + (x.addr - outBase), len := n }] ∧ t.out.rdata = d.take o.len) := by
  have hfind : s.host.outst.find? (fun x => x.tag == tag.val) = some o := by simp [hout, htag]
  obtain ⟨t, ht, htout, htdata, htbase, htacc⟩ : ∃ t : State,
      ({ s.dropOutbound o with out := { s.out with rdata := d.take o.len, err := false } } : State) = t
      ∧ t.host.outst = [] ∧ t.out.rdata = d.take o.len ∧ t.host.outBase = s.host.outBase
      ∧ t.mem.waiting = [x] ∧ t.host.linkUp = true ∧ t.funcOn x.station = true ∧ (t.func x.station).bme = true :=
    ⟨_, rfl, by simp [State.dropOutbound, hout], rfl, rfl, hwait, hup, hon, hbme⟩
  obtain ⟨htwait, htup, hton, htbme⟩ := htacc
  refine ⟨t.sendWaiting, congrArg Host.Outcome.next ?_, ?_⟩
  · rw [hfind, ← ht]; rfl
  · rw [State.sendWaiting_one htwait hregion, hop]
    obtain ⟨u, hu, huout, hudata, hubase, hurest⟩ : ∃ u : State, ({ t with mem := { t.mem with waiting := [] } } : State) = u
        ∧ u.host.outst = [] ∧ u.out.rdata = d.take o.len ∧ u.host.outBase = s.host.outBase
        ∧ u.mem.waiting = [] ∧ u.host.linkUp = true ∧ u.funcOn x.station = true ∧ (u.func x.station).bme = true :=
      ⟨_, rfl, htout, htdata, htbase, rfl, htup, hton, htbme⟩
    obtain ⟨huwait, huup, huon, hubme⟩ := hurest
    rw [hu, State.outAccess_read huup huon hubme huout, hubase]
    exact ⟨huwait, rfl, hudata⟩

theorem pcieLinkDown_idle (hup : s.host.linkUp = true) (hwait : s.mem.waiting = []) (hout : s.host.outst = []) :
    Completes .pcieLinkDown s (fun t => Counted s t [key 0x28A0 4] ∧ t = { s with host := { s.host with linkUp := false }, rep := t.rep }) := by
  obtain ⟨u, hu, hrep⟩ : ∃ u : State, ({ s with host := { s.host with linkUp := false } } : State) = u ∧ u.rep = s.rep := ⟨_, rfl, rfl⟩
  have hfail : u.failOutbound.sendWaiting = u := by
    subst hu
    unfold State.failOutbound
    rw [hout]
    exact State.sendWaiting_none hwait
  refine ⟨(u.count 0x28A0 4).raise { code := 0x1A01 }, congrArg Host.Outcome.next ?_, Counted.count_raise hrep _, ?_⟩
  · rw [if_neg (by simp [hup]), hu]
    dsimp only
    rw [hfail]
  · subst hu; rfl

/-- The link's fall ends the one read that stands (12 R303). -/
theorem pcieLinkDown_one (hup : s.host.linkUp = true) (hwait : s.mem.waiting = []) {o : Outbound} (hout : s.host.outst = [o]) :
    Completes .pcieLinkDown s (fun t => Counted s t [key 0x28A0 3, key 0x28A0 4]
      ∧ t = { s with host := { s.host with linkUp := false, outst := [] }, out := { s.out with rdata := [], err := true }, rep := t.rep }) := by
  obtain ⟨u, hu, hrep, huout, huwait⟩ : ∃ u : State, ({ s with host := { s.host with linkUp := false } } : State) = u ∧ u.rep = s.rep
      ∧ u.host.outst = [o] ∧ u.mem.waiting = [] := ⟨_, rfl, rfl, hout, hwait⟩
  obtain ⟨w, hw⟩ : ∃ w : State, u.outboundFails o = w := ⟨_, rfl⟩
  have hone : Counted s w [key 0x28A0 3] := hw ▸ (u.outboundFails_counted o).of_base hrep
  have hframe : w = { u with host := { u.host with outst := [] }, out := { u.out with rdata := [], err := true }, rep := w.rep } := by
    have h := u.outboundFails_eq o
    rw [hw, huout, o.erase_only] at h
    exact h
  have hquiet : w.sendWaiting = w := State.sendWaiting_none (by rw [hframe]; exact huwait)
  refine ⟨(w.count 0x28A0 4).raise { code := 0x1A01 }, ?_, (hone.and_count (by decide)).raise _, ?_⟩
  · show execPcieLinkDown s = _
    unfold execPcieLinkDown
    rw [if_neg (by simp [hup]), hu]
    dsimp only
    rw [State.failOutbound_one huout, hw, hquiet]
  · rw [hframe, ← hu]; rfl

theorem pcieLinkUp_comes (hdown : s.host.linkUp = false) (w : Fin 3) (g : Fin 4) (hrun : s.computeRuns = true) (hstay : s.pwr.entering = false) :
    Completes (.pcieLinkUp w g) s (fun t => t = { s with host := { s.host with linkUp := true, width := w, gen := g }, rep := t.rep }
      ∧ ∀ k, k ∉ ownCounters → t.tally k = s.tally k) := by
  obtain ⟨u, hu, hrep⟩ : ∃ u : State, ({ s with host := { s.host with linkUp := true, width := w.val, gen := g.val } } : State) = u ∧ u.rep = s.rep :=
    ⟨_, rfl, rfl⟩
  refine ⟨u.raise { code := 0x1A02 }, congrArg Host.Outcome.next ?_, ?_, fun k hk => ?_⟩
  · rw [if_neg (by simp [hdown, hrun, hstay]), hu]
  · subst hu; rfl
  · refine (u.tally_raise _ k hk).trans ?_
    unfold State.tally
    rw [hrep]

theorem perstNReset_resets (hrun : s.computeRuns = true) : Completes .perstNReset s (fun t =>
    (∀ k, k < 32 → t.func k = {}) ∧ (∀ o ∈ t.host.outst, 32 ≤ o.fn) ∧ t.host.numVfs = 0 ∧ (∀ w ∈ t.od.waiting, ∀ f, w.path ≠ .mailbox f)
    ∧ Counted s t [key 0x28A0 5] ∧ t = { s with host := { s.host with fn := t.host.fn, outst := t.host.outst, numVfs := 0 }
                                                od := { s.od with waiting := t.od.waiting }, out := t.out, rep := t.rep }) := by
  refine ⟨(s.allReset.count 0x28A0 5).raise { code := 0x1A04 }, congrArg Host.Outcome.next (if_neg (by simp [hrun])), ?_⟩
  obtain ⟨hfunc, hreads, hvfs, hpaths, hframe⟩ := s.allReset_spec
  generalize s.allReset = t at *
  refine ⟨fun k hk => (hfunc k).trans (if_pos (List.mem_range.mpr hk)), fun o ho => by simpa using hreads o ho,
    hvfs.trans (if_pos (by simp)), fun w hw f => hpaths w hw f (by simp), Counted.count_raise (by rw [hframe]) _, ?_⟩
  have hzero : t.host.numVfs = 0 := hvfs.trans (if_pos (by simp))
  rw [hzero] at hframe
  rw [hframe]; rfl

theorem functionLevelReset_resets (f : Fin 32) (hrun : s.computeRuns = true) (hon : s.funcOn f = true) : Completes (.functionLevelReset f) s (fun t =>
    t.func f = {} ∧ (∀ k, k ≠ f.val → t.func k = s.func k) ∧ t.host.outst = s.host.outst.filter (fun o => o.fn != f.val)
    ∧ t.host.numVfs = (if f = 0 then 0 else s.host.numVfs) ∧ (∀ w ∈ t.od.waiting, w.path ≠ .mailbox f) ∧ Counted s t [key 0x28A0 5]
    ∧ t = { s with host := { s.host with fn := t.host.fn, outst := t.host.outst, numVfs := t.host.numVfs }
                   od := { s.od with waiting := t.od.waiting }, out := t.out, rep := t.rep }) := by
  refine ⟨_, congrArg Host.Outcome.next (if_neg (by simp [hrun, hon])), ?_⟩
  have hreset := (FuncsReset.nil s).snoc f.val
  obtain ⟨hfunc, -, -, hpaths, hframe⟩ := hreset
  have hreads : (s.resetFunc f.val).host.outst = s.host.outst.filter (fun o => o.fn != f.val) := by rw [State.resetFunc_eq]
  have hvfs : (s.resetFunc f.val).host.numVfs = if f = 0 then 0 else s.host.numVfs := by
    rw [State.resetFunc_eq]
    exact if_congr Fin.val_eq_zero_iff rfl rfl
  generalize s.resetFunc f.val = t at *
  refine ⟨(hfunc f.val).trans (if_pos (by simp)), fun k hk => (hfunc k).trans (if_neg (by simpa using hk)), hreads, hvfs,
    fun w hw => hpaths w hw f (by simp), Counted.count_raise (by rw [hframe]) _, ?_⟩
  rw [hframe]; rfl

/-- Settles O39: every end of a read drops it from the list and `sendWaiting` has nothing to send where nothing waits; a reset of
functions is `FuncsReset`, by the list of the functions; configuration requests change their function alone. -/
theorem hostPort : Obligations.HostPort := by
  unfold Obligations.HostPort
  intro s
  refine ⟨fun tag o d hfind hwait => outboundCompletion_ends hfind hwait d, ?_, ?_, ?_, ?_, ?_, ?_, ?_, ?_, ?_, ?_, ?_, ?_, ?_⟩
  · intro tag c d hfind
    exact ⟨⟨s, congrArg Host.Outcome.next (by rw [hfind]), rfl⟩, s, congrArg Host.Outcome.next (by rw [hfind]), rfl⟩
  · intro tag o x d n hout htag hwait hregion hop hup hon hbme
    exact outboundCompletion_sends hout htag hwait hregion hop hup hon hbme
  · exact fun f hrun hon => functionLevelReset_resets f hrun hon
  · intro f hoff
    refine ⟨s, congrArg Host.Outcome.next (if_pos ?_), rfl⟩
    rcases hoff with h | h <;> simp [h]
  · exact perstNReset_resets
  · exact fun hup hwait => ⟨fun hout => pcieLinkDown_idle hup hwait hout, fun o hout => pcieLinkDown_one hup hwait hout⟩
  · intro hdown
    refine ⟨⟨s, pcieLinkDown_down hdown, rfl⟩, fun w g hrun hstay => pcieLinkUp_comes hdown w g hrun hstay⟩
  · exact fun v => ⟨_, rfl, rfl⟩
  · exact ⟨_, rfl, rfl⟩
  · intro f hup hon
    refine ⟨fun hcrs op => ⟨_, congrArg Host.Outcome.next ((if_neg (by simp [hup, hon])).trans (if_pos hcrs)), rfl⟩, fun hcrs => ?_⟩
    have hserve (op : CfgOp) : exec (.pcieConfigRequest f op) s = .next (({ s with out := { s.out with retry := false } } : State).configure f.val op) :=
      congrArg Host.Outcome.next ((if_neg (by simp [hup, hon])).trans (if_neg (by simp [hcrs])))
    have hbits (op : CfgOp) (g : Pf → Pf) (hop : ({ s with out := { s.out with retry := false } } : State).configure f.val op = (s.noRetry f.val g)) :
        Completes (.pcieConfigRequest f op) s (fun t => t.func f = g (s.func f) ∧ (∀ k, k ≠ f.val → t.func k = s.func k)
          ∧ t = { s with host := { s.host with fn := t.host.fn }, out := { s.out with retry := false } }) :=
      ⟨_, (hserve op).trans (congrArg Host.Outcome.next hop), (s.noRetry_func _ _ _).trans (if_pos rfl),
        fun k hk => (s.noRetry_func _ _ _).trans (if_neg hk), rfl⟩
    refine ⟨fun off => ⟨_, hserve _, rfl⟩, fun b => hbits _ (fun p => { p with bme := b }) rfl,
      fun b => hbits _ (fun p => { p with msixEn := b }) rfl, fun b => hbits _ (fun p => { p with msixMask := b }) rfl,
      fun b => hbits _ (fun p => { p with d3 := b }) rfl, fun n hn hf => ?_⟩
    subst hf
    refine ⟨_, (hserve _).trans (congrArg Host.Outcome.next (if_neg (by simp; omega))), rfl, fun k hk => ?_, rfl⟩
    exact Tab.at_filter _ _ (fun j => decide (j ≤ n)) (decide_eq_true hk)
  · intro f op hoff
    refine ⟨s, congrArg Host.Outcome.next (if_pos ?_), rfl⟩
    rcases hoff with h | h <;> simp [h]
  · intro h hrun hout
    refine ⟨_, congrArg Host.Outcome.next (if_pos (by simp [hrun, hout])), (State.hartAt_of_upd (s := s) (h := h.val) (g := fun x => { x with wfi := false }) rfl _).trans (if_pos rfl),
      fun k hk => (State.hartAt_of_upd (s := s) (g := fun x => { x with wfi := false }) rfl k).trans (if_neg hk), ?_, rfl⟩
    rcases hp : s.pwr.state <;> simp_all [State.computeRuns, State.wakeHart]
  · exact fun h hout => ⟨s, congrArg Host.Outcome.next (if_neg (by simp [hout])), rfl⟩

end Machine
end Sys2Proof
end

section
open scoped List
namespace Sys2Proof
namespace Machine

variable {s : State}

/-! Clears of counters and logs (16 R408, R410) and the revocation of keys (18 R455). -/

/-- A filter on the keys of a table leaves what it lets through and takes the rest back to the default. -/
theorem Tab.at_filter_keys {α : Type} (d : α) (t : Tab α) (p : Nat → Bool) (k : Nat) :
    Tab.at d (t.filter (fun x => p x.1)) k = if p k then t.at d k else d := by
  by_cases hk : p k = true
  · rw [if_pos hk]; exact Tab.at_filter d t p hk
  · rw [if_neg hk]
    apply Tab.at_of_not_mem
    simp only [List.mem_map, List.mem_filter, not_exists, not_and]
    rintro ⟨j, x⟩ ⟨-, hj⟩ rfl
    exact hk hj

theorem State.clearCounter_tally (s : State) (i j k : Nat) : (s.clearCounter i j).tally k = if k = key i j then 0 else s.tally k := by
  refine (Tab.at_filter_keys 0 s.rep.cnt (fun x => x != key i j) k).trans ?_
  by_cases hk : k = key i j <;> simp [hk, State.tally]

/-- Every counter of an object has been cleared (16 R408). -/
def State.objectCleared (s : State) (i : Nat) : State :=
  { s with rep := { s.rep with cnt := s.rep.cnt.filter (fun (x : Nat × BitVec 32) => x.1 / 256 != i) } }

theorem State.clearObject_of_counters {i h : Nat} (hhigh : counterHigh i = some h) : s.clearObject i = some (s.objectCleared i) := by
  unfold State.clearObject
  rw [hhigh]
  rfl

theorem State.clearObject_of_none {i : Nat} (hhigh : counterHigh i = none) : s.clearObject i = none := by
  unfold State.clearObject
  rw [hhigh]

theorem State.objectCleared_tally (s : State) (i k : Nat) : (s.objectCleared i).tally k = if k / 256 = i then 0 else s.tally k := by
  refine (Tab.at_filter_keys 0 s.rep.cnt (fun x => x / 256 != i) k).trans ?_
  by_cases hk : k / 256 = i <;> simp [hk, State.tally]

theorem State.writeCounter_none {i : Nat} (h : counterHigh i = none) (j v : Nat) : s.writeCounter i j v = (s, .abort 0x06020000) := by
  unfold State.writeCounter
  rw [h]

theorem State.writeCounter_some {i h : Nat} (hhigh : counterHigh i = some h) (j v : Nat) : s.writeCounter i j v =
    if h < j then (s, .abort 0x06090011) else if j = 0 then (s, .abort 0x06010002)
    else if v = 0 then (s.clearCounter i j, .ok) else (s, .abort 0x06090030) := by
  unfold State.writeCounter
  rw [hhigh]

/-- A write to a counter's object over the dictionary is answered at once (12 R300, 16 R408). -/
theorem counterClear_answers (hans : s.answers) (i : BitVec 16) (sub : BitVec 8) (v : BitVec 32) {r : State × Resp}
    (hwrite : s.writeCounter i.toNat sub.toNat v.toNat = r) : exec (.counterClear i sub v false) s = .next (r.1.answer r.2) :=
  congrArg Host.Outcome.next (by rw [if_neg (by decide), State.served_answers hans, hwrite])

theorem toNat_ne_zero {w : Nat} {v : BitVec w} (h : v ≠ 0) : v.toNat ≠ 0 := fun hz => h (BitVec.eq_of_toNat_eq (by simp [hz]))

theorem counterClear_dictionary (i : BitVec 16) (sub : BitVec 8) (h : Nat) (hans : s.answers) (hhigh : counterHigh i.toNat = some h) :
    (sub ≠ 0 → sub.toNat ≤ h → Completes (.counterClear i sub 0 false) s (fun t =>
        (∀ k, t.tally k = if k = key i.toNat sub.toNat then 0 else s.tally k)
        ∧ t = { s with rep := { s.rep with cnt := t.rep.cnt }, out := { s.out with resp := some .ok } }))
      ∧ (∀ v : BitVec 32, sub ≠ 0 → sub.toNat ≤ h → v ≠ 0 → Completes (.counterClear i sub v false) s (fun t => t = { s with out := { s.out with resp := some (.abort 0x06090030) } }))
      ∧ (∀ v, Completes (.counterClear i 0 v false) s (fun t => t = { s with out := { s.out with resp := some (.abort 0x06010002) } }))
      ∧ (∀ v, h < sub.toNat → Completes (.counterClear i sub v false) s (fun t => t = { s with out := { s.out with resp := some (.abort 0x06090011) } })) := by
  refine ⟨fun hsub hle => ?_, fun v hsub hle hv => ?_, fun v => ?_, fun v hlt => ?_⟩
  · refine ⟨_, counterClear_answers hans i sub 0 ((State.writeCounter_some hhigh _ _).trans ((if_neg (Nat.not_lt.mpr hle)).trans
      ((if_neg (toNat_ne_zero hsub)).trans (if_pos rfl)))), fun k => s.clearCounter_tally _ _ k, rfl⟩
  · refine ⟨_, counterClear_answers hans i sub v ((State.writeCounter_some hhigh _ _).trans ((if_neg (Nat.not_lt.mpr hle)).trans
      ((if_neg (toNat_ne_zero hsub)).trans (if_neg (toNat_ne_zero hv))))), rfl⟩
  · exact ⟨_, counterClear_answers hans i 0 v ((State.writeCounter_some hhigh _ _).trans ((if_neg (Nat.not_lt_zero h)).trans (if_pos rfl))), rfl⟩
  · exact ⟨_, counterClear_answers hans i sub v ((State.writeCounter_some hhigh _ _).trans (if_pos hlt)), rfl⟩

theorem counterClear_mirror (i : BitVec 16) (sub : BitVec 8) (hrun : s.computeRuns = true) :
    (isCounter i.toNat sub.toNat = true → Completes (.counterClear i sub 0 true) s (fun t =>
        (∀ k, t.tally k = if k = key i.toNat sub.toNat then 0 else s.tally k) ∧ t = { s with rep := { s.rep with cnt := t.rep.cnt }, out := { s.out with err := false } })
      ∧ ∀ v : BitVec 32, v ≠ 0 → Completes (.counterClear i sub v true) s (fun t => t = { s with out := { s.out with err := true } }))
    ∧ (isCounter i.toNat sub.toNat = false → ∀ v, Completes (.counterClear i sub v true) s (fun t =>
        Counted s t [key 0x285A 0x0F] ∧ t = { s with rep := t.rep, out := { s.out with err := true } })) := by
  have hruns : ¬(!s.computeRuns) = true := by simp [hrun]
  refine ⟨fun hc => ⟨?_, fun v hv => ?_⟩, fun hc v => ?_⟩
  · exact ⟨(s.clearCounter i.toNat sub.toNat).regAnswer true,
      congrArg Host.Outcome.next ((if_pos rfl).trans ((if_neg hruns).trans ((if_pos hc).trans (if_pos rfl)))), fun k => s.clearCounter_tally _ _ k, rfl⟩
  · exact ⟨s.regAnswer false, congrArg Host.Outcome.next ((if_pos rfl).trans ((if_neg hruns).trans ((if_pos hc).trans (if_neg hv)))), rfl⟩
  · have hno : ¬isCounter i.toNat sub.toNat = true := by simp [hc]
    exact ⟨(s.count 0x285A 0x0F).regAnswer false, congrArg Host.Outcome.next ((if_pos rfl).trans ((if_neg hruns).trans (if_neg hno))),
      (Counted.count s).of_rep rfl, rfl⟩

theorem counterObjectClear_dictionary (i : BitVec 16) (hans : s.answers) :
    (∀ h, counterHigh i.toNat = some h → Completes (.counterObjectClear i false) s (fun t => (∀ k, t.tally k = if k / 256 = i.toNat then 0 else s.tally k)
        ∧ t = { s with rep := { s.rep with cnt := t.rep.cnt }, out := { s.out with resp := some .ok } }))
    ∧ (counterHigh i.toNat = none → Completes (.counterObjectClear i false) s (fun t => t = { s with out := { s.out with resp := some (.abort 0x06090030) } })) := by
  have hserve : exec (.counterObjectClear i false) s = .next (((fun s : State => match s.clearObject i.toNat with
      | some s' => (s', Resp.ok)
      | none => (s, .abort 0x06090030)) s).1.answer ((fun s : State => match s.clearObject i.toNat with
      | some s' => (s', Resp.ok)
      | none => (s, .abort 0x06090030)) s).2) :=
    congrArg Host.Outcome.next ((if_neg (by decide)).trans (State.served_answers hans _ _))
  refine ⟨fun h hhigh => ⟨(s.objectCleared i.toNat).answer .ok, hserve.trans ?_, fun k => s.objectCleared_tally _ k, rfl⟩,
    fun hhigh => ⟨s.answer (.abort 0x06090030), hserve.trans ?_, rfl⟩⟩
  · dsimp only; rw [State.clearObject_of_counters hhigh]
  · dsimp only; rw [State.clearObject_of_none hhigh]

theorem counterObjectClear_register (i : BitVec 16) (hrun : s.computeRuns = true) :
    (∀ h, counterHigh i.toNat = some h → Completes (.counterObjectClear i true) s (fun t => (∀ k, t.tally k = if k / 256 = i.toNat then 0 else s.tally k)
        ∧ t = { s with rep := { s.rep with cnt := t.rep.cnt }, out := { s.out with err := false } }))
    ∧ (counterHigh i.toNat = none → Completes (.counterObjectClear i true) s (fun t => t = { s with out := { s.out with err := true } })) := by
  have hruns : ¬(!s.computeRuns) = true := by simp [hrun]
  refine ⟨fun h hhigh => ⟨(s.objectCleared i.toNat).regAnswer true, congrArg Host.Outcome.next ((if_pos rfl).trans ((if_neg hruns).trans ?_)),
    fun k => s.objectCleared_tally _ k, rfl⟩, fun hhigh => ⟨s.regAnswer false, congrArg Host.Outcome.next ((if_pos rfl).trans ((if_neg hruns).trans ?_)), rfl⟩⟩
  · rw [State.clearObject_of_counters hhigh]
  · rw [State.clearObject_of_none hhigh]

theorem keyRevoke_cases (v : BitVec 8) (hans : s.answers) :
    (v.toNat ≤ 3 → v.toNat ≠ s.boot.keySlot → s.boot.fuses.revoke ||| BitVec.ofNat 4 (2 ^ v.toNat) ≠ 0xF#4 → Completes (.keyRevoke v) s (fun t =>
        t.boot = { s.boot with fuses := { s.boot.fuses with revoke := s.boot.fuses.revoke ||| BitVec.ofNat 4 (2 ^ v.toNat) } }
        ∧ t = { s with boot := t.boot, rep := t.rep, out := { s.out with resp := some .ok } } ∧ ∀ k, k ∉ ownCounters → t.tally k = s.tally k))
      ∧ (v.toNat ≤ 3 → (v.toNat = s.boot.keySlot ∨ s.boot.fuses.revoke ||| BitVec.ofNat 4 (2 ^ v.toNat) = 0xF#4) → Completes (.keyRevoke v) s (fun t =>
        t = { s with out := { s.out with resp := some (.abort 0x08000020) } }))
      ∧ (3 < v.toNat → Completes (.keyRevoke v) s (fun t => t = { s with out := { s.out with resp := some (.abort 0x06090030) } })) := by
  have hnormal : ¬s.boot.recovery = true := by simp [hans.2.2]
  have hserve {r : State × Resp} (h : s.revokeKey v.toNat = r) : exec (.keyRevoke v) s = .next (r.1.answer r.2) :=
    congrArg Host.Outcome.next ((State.served_answers hans _ _).trans (by rw [h]))
  refine ⟨fun hle hslot hlast => ?_, fun hle hkept => ?_, fun hgt => ?_⟩
  · refine ⟨_, hserve ((if_neg hnormal).trans ((if_neg (Nat.not_lt.mpr hle)).trans (if_neg (not_or.mpr ⟨hslot, hlast⟩)))), rfl, rfl, fun k hk => ?_⟩
    exact State.tally_raise _ _ k hk
  · exact ⟨_, hserve ((if_neg hnormal).trans ((if_neg (Nat.not_lt.mpr hle)).trans (if_pos hkept))), rfl⟩
  · exact ⟨_, hserve ((if_neg hnormal).trans (if_pos hgt)), rfl⟩

/-- Settles O58: a clear is a filter on the keys of the counter table, and each refusal is the first condition of `writeCounter` or `revokeKey` that fails. -/
theorem clearsAndKeys : Obligations.ClearsAndKeys := by
  unfold Obligations.ClearsAndKeys
  intro s
  refine ⟨fun i sub h hans hhigh => ?_, fun i sub v hans hhigh => ?_, fun i sub hrun => ?_, fun hans => ?_, fun v hans => keyRevoke_cases v hans⟩
  · obtain ⟨hclear, hvalue, hzero, hbeyond⟩ := counterClear_dictionary i sub h hans hhigh
    exact ⟨hclear, hvalue, hzero, hbeyond, (counterObjectClear_dictionary i hans).1 h hhigh⟩
  · exact ⟨⟨_, counterClear_answers hans i sub v (State.writeCounter_none hhigh _ _), rfl⟩, (counterObjectClear_dictionary i hans).2 hhigh⟩
  · obtain ⟨hcounter, hother⟩ := counterClear_mirror i sub hrun
    obtain ⟨hobject, hnone⟩ := counterObjectClear_register i hrun
    exact ⟨hcounter, hother, hobject, hnone⟩
  · refine ⟨⟨_, congrArg Host.Outcome.next (State.served_answers hans _ _), rfl⟩, fun v hv => ?_,
      ⟨_, congrArg Host.Outcome.next (State.served_answers hans _ _), rfl⟩, fun v hv => ?_⟩
    · exact ⟨_, congrArg Host.Outcome.next ((State.served_answers hans _ _).trans (by rw [if_neg hv]; rfl)), rfl⟩
    · exact ⟨_, congrArg Host.Outcome.next ((State.served_answers hans _ _).trans (by rw [if_neg hv]; rfl)), rfl⟩

end Machine
end Sys2Proof
end

section
open scoped List
namespace Sys2Proof
namespace Machine

variable {s : State}

/-! Calibration, erase-ahead and telemetry (17 R423, 18 R447-R450). -/

/-- A count that does not reach the last value but one moves the counters alone (00 R13). -/
theorem State.count_quiet (hs : s.settled) {i j : Nat} (h : s.tally (key i j) ≠ 0xFFFFFFFE) :
    ∃ c, s.count i j = { s with rep := { s.rep with cnt := c } } := by
  obtain ⟨-, hdue⟩ := hs
  by_cases hfull : s.tally (key i j) = 0xFFFFFFFF
  · exact ⟨s.rep.cnt, s.count_of_full i j hdue hfull⟩
  · have hroom : s.counter i j < 0xFFFFFFFE := by
      change s.tally (key i j) < 0xFFFFFFFE
      bv_omega
    exact ⟨_, s.count_of_room i j hdue hroom⟩

/-- An event raised with none due is entered in the log under the next sequence number (16 R411). -/
theorem State.raise_logged (hs : s.settled) (e : Ev) :
    ∃ x ∈ (s.raise e).rep.log, x.code = e.code ∧ x.unit = e.unit ∧ x.seq = s.rep.seq + 1 := by
  obtain ⟨hrun, hdue⟩ := hs
  have hmem := Reporting.settle_enters { s.rep with due := s.rep.due ++ [e] } s.env e hrun (by simp [hdue])
  exact ⟨_, hmem, rfl, rfl, rfl⟩

/-! ### Calibration -/

/-- The state after a missed period, before an event is raised (18 R448). -/
def State.calMissed (s : State) (n : Nat) : State :=
  ({ s with gk := { s.gk with calMiss := s.gk.calMiss.put n (s.gk.calMiss.at 0 n + 1) } } : State).count 0x28F0 6

theorem State.calMissed_counted (s : State) (n : Nat) : Counted s (s.calMissed n) [key 0x28F0 6] :=
  (Counted.count _).of_base rfl

theorem State.calMissed_quiet (hs : s.settled) (hroom : s.roomy) (n : Nat) : (s.calMissed n).settled
    ∧ (s.calMissed n).rep.log = s.rep.log ∧ (s.calMissed n).rep.seq = s.rep.seq := by
  obtain ⟨c, hc⟩ := State.count_quiet (s := { s with gk := { s.gk with calMiss := s.gk.calMiss.put n (s.gk.calMiss.at 0 n + 1) } })
    (i := 0x28F0) (j := 6) hs (hroom _)
  unfold State.calMissed
  rw [hc]
  exact ⟨hs, rfl, rfl⟩

theorem calibrationPeriodEnd_missed (n : Fin 16) (hrun : s.computeRuns = true) (hcal : s.calibrates n = true)
    (hdone : s.gk.calDone.at false n = false) (hdue : s.gk.calDue.at false n = true) : Completes (.calibrationPeriodEnd n) s (fun t =>
      t.gk.calMiss.at 0 n = s.gk.calMiss.at 0 n + 1 ∧ (∀ k, k ≠ n.val → t.gk.calMiss.at 0 k = s.gk.calMiss.at 0 k) ∧ Counted s t [key 0x28F0 6]
      ∧ (s.settled → s.roomy → if s.gk.calMiss.at 0 n = 9 then ∃ e ∈ t.rep.log, e.code = 0x1F03 ∧ e.unit = n ∧ e.seq = s.rep.seq + 1 else t.rep.log = s.rep.log)
      ∧ t = { s with gk := { s.gk with calMiss := t.gk.calMiss }, rep := t.rep }) := by
  have hsame : Tab.at 0 (s.gk.calMiss.put n.val (s.gk.calMiss.at 0 n + 1)) n.val = s.gk.calMiss.at 0 n + 1 := (Tab.at_put _ _ _ _ _).trans (if_pos rfl)
  have hother : ∀ k, k ≠ n.val → Tab.at 0 (s.gk.calMiss.put n.val (s.gk.calMiss.at 0 n + 1)) k = s.gk.calMiss.at 0 k :=
    fun k hk => (Tab.at_put _ _ _ _ _).trans (if_neg hk)
  have hserve : exec (.calibrationPeriodEnd n) s = .next (if s.gk.calMiss.at 0 n.val + 1 = 10 then (s.calMissed n).raise { code := 0x1F03, unit := n.val }
      else s.calMissed n) :=
    congrArg Host.Outcome.next ((if_neg (by simp [State.gkRuns, hrun, hcal])).trans (if_neg (by simp [hdone, hdue])))
  by_cases hten : s.gk.calMiss.at 0 n.val = 9
  · refine ⟨(s.calMissed n).raise { code := 0x1F03, unit := n.val }, hserve.trans (by rw [if_pos (by omega)]), hsame, hother,
      (s.calMissed_counted n).raise _, fun hs hroom => ?_, rfl⟩
    obtain ⟨hset, -, hseq⟩ := State.calMissed_quiet hs hroom n.val
    rw [if_pos hten, ← hseq]
    exact State.raise_logged hset _
  · refine ⟨s.calMissed n, hserve.trans (by rw [if_neg (by omega)]), hsame, hother, s.calMissed_counted n, fun hs hroom => ?_, rfl⟩
    rw [if_neg hten]
    exact (State.calMissed_quiet hs hroom n.val).2.1

theorem State.byte_eraseSector (s : State) {a : Nat} (ha : a % 4096 = 0) (b : Nat) :
    (s.eraseSector a).byte b = if a ≤ b ∧ b < a + 4096 then 0xFF else s.byte b := by
  have hbase : a / 4096 * 4096 = a := Nat.div_mul_cancel (Nat.dvd_of_mod_eq_zero ha)
  have hpoke : (s.eraseSector a).byte b = (s.poke (a / 4096 * 4096) (List.replicate 4096 0xFF)).byte b := rfl
  rw [hpoke, State.byte_poke, hbase, List.length_replicate]
  refine if_ctx_congr Iff.rfl (fun h => ?_) (fun _ => rfl)
  exact List.getD_replicate _ (by omega)

/-- The sectors of the parameter areas lie in no image and are no download sector (17 R417). -/
theorem State.eraseSector_eq (s : State) {a : Nat} (ha : 0x7A0000 ≤ a) :
    s.eraseSector a = { s with mem := { s.mem with bytes := (s.eraseSector a).mem.bytes }, rep := (s.eraseSector a).rep } := by
  have htouch (u : State) : u.touchFlash a true = u := by
    have hA : decide (0x20000 ≤ a ∧ a < 0x320000) = false := decide_eq_false (by omega)
    have hB : decide (0x620000 ≤ a ∧ a < 0x7A0000) = false := decide_eq_false (by omega)
    have hdl : ¬(true = true ∧ a / 4096 = 0x12) := by omega
    unfold State.touchFlash
    rw [hA, hB, if_neg hdl, if_neg hdl, Bool.not_false, Bool.and_true, Bool.and_true]
  unfold State.eraseSector
  rw [htouch]
  rfl

theorem State.eraseSector_counted (s : State) (a : Nat) : Counted s (s.eraseSector a) [key 0x28E0 7] :=
  (Counted.count _).of_base rfl

/-- A sector ahead is to be erased: something is written in it and no record that is kept lies in it (18 R449). -/
def State.aheadFree (s : State) (x : Nat) : Bool :=
  !s.erased (areaBase s.boot.slot + 4096 * x) 4096 && !(s.keptSectors s.boot.slot).contains x

theorem State.aheadFree_iff (s : State) (x : Nat) :
    s.aheadFree x = true ↔ s.erased (areaBase s.boot.slot + 4096 * x) 4096 = false ∧ x ∉ s.keptSectors s.boot.slot := by
  simp [State.aheadFree]

theorem eraseAhead_opens (hrun : s.computeRuns = true) (hboot : s.boot.bootOk = true) (hslot : s.boot.slot ≠ 2) (hbusy : s.boot.flashBusy = false)
    (hop : s.od.longop = none) {o : Option Nat} (hfind : (s.aheadSectors s.boot.slot).find? s.aheadFree = o) :
    (o = none → exec .eraseAhead s = .next s)
    ∧ ∀ c, o = some c → exec .eraseAhead s = .next ((s.eraseSector (areaBase s.boot.slot + 4096 * c)).count 0x28F0 8) := by
  have hgo : ¬(!s.gkRuns || !s.boot.bootOk || s.boot.slot == 2 || s.boot.flashBusy || s.od.longop.isSome) = true := by
    simp [State.gkRuns, hrun, hboot, hslot, hbusy, hop]
  constructor
  · rintro rfl
    refine congrArg Host.Outcome.next ((if_neg hgo).trans ?_)
    change (match (s.aheadSectors s.boot.slot).find? s.aheadFree with | none => s | some c => _) = _
    rw [hfind]
  · rintro c rfl
    refine congrArg Host.Outcome.next ((if_neg hgo).trans ?_)
    change (match (s.aheadSectors s.boot.slot).find? s.aheadFree with | none => s | some c => _) = _
    rw [hfind]

/-! ### Telemetry -/

/-- Dueness of the channels once the temperature `hot` is known (18 R447). -/
def dueMarks (hot : Int) (due : Tab Bool) (l : Tab Int) : Tab Bool :=
  l.foldl (fun d x => if 100 ≤ (hot - x.2).natAbs then d.put x.1 true else d) due

theorem dueMarks_at (hot : Int) (l : Tab Int) (due : Tab Bool) (n : Nat) :
    (dueMarks hot due l).at false n = true ↔ due.at false n = true ∨ ∃ x, (n, x) ∈ l ∧ 100 ≤ (hot - x).natAbs := by
  induction l generalizing due with
  | nil => simp [dueMarks]
  | cons y r ih =>
    obtain ⟨m, y⟩ := y
    have hstep : dueMarks hot due ((m, y) :: r) = dueMarks hot (if 100 ≤ (hot - y).natAbs then due.put m true else due) r := rfl
    rw [hstep, ih]
    by_cases hy : 100 ≤ (hot - y).natAbs
    · rw [if_pos hy, Tab.at_put]
      by_cases hn : n = m
      · subst hn
        simp only [if_true, true_or, true_iff]
        exact .inr ⟨y, List.mem_cons_self, hy⟩
      · simp [hn]
    · rw [if_neg hy]
      refine or_congr Iff.rfl ⟨fun ⟨x, hx, hfar⟩ => ⟨x, List.mem_cons_of_mem _ hx, hfar⟩, fun ⟨x, hx, hfar⟩ => ⟨x, ?_, hfar⟩⟩
      rcases List.mem_cons.mp hx with h | h
      · obtain ⟨-, rfl⟩ := Prod.mk.inj h
        exact absurd hfar hy
      · exact h

theorem State.tempDue_eq (s : State) :
    s.tempDue = { s with gk := { s.gk with calDue := dueMarks s.gk.temp s.gk.calDue s.gk.calTemp } } := by
  unfold State.tempDue
  generalize s.gk.calTemp = l
  induction l generalizing s with
  | nil => rfl
  | cons x r ih =>
    rw [List.foldl_cons]
    by_cases hx : 100 ≤ (s.gk.temp - x.2).natAbs
    · rw [if_pos hx, ih]
      unfold dueMarks
      rw [List.foldl_cons, if_pos hx]
    · rw [if_neg hx, ih]
      unfold dueMarks
      rw [List.foldl_cons, if_neg hx]

/-- The state after the sensors have been read, before over-temperature is reported (18 R450). -/
def State.measured (s : State) (hot : Int) (vn vs vf : Nat) (now : Bool) : State :=
  { s with gk := { s.gk with
    temp := hot, vddN := vn, vddS := vs, vfield := vf, overTemp := now, calDue := dueMarks hot s.gk.calDue s.gk.calTemp } }

theorem telemetryRead_reads (t0 t1 t2 t3 vn vs vf : BitVec 16) (hrun : s.computeRuns = true) {hot : Int}
    (hhot : max (max t0.toInt t1.toInt) (max t2.toInt t3.toInt) = hot) :
    exec (.telemetryRead t0 t1 t2 t3 vn vs vf) s = .next
      (if (decide (1050 < hot) || (s.gk.overTemp && !decide (hot < 1000))) && !s.gk.overTemp then
        ((s.measured hot vn.toNat vs.toNat vf.toNat (decide (1050 < hot) || (s.gk.overTemp && !decide (hot < 1000)))).count 0x28F0 9).raise { code := 0x1F04 }
      else s.measured hot vn.toNat vs.toNat vf.toNat (decide (1050 < hot) || (s.gk.overTemp && !decide (hot < 1000)))) := by
  subst hhot
  refine congrArg Host.Outcome.next ((if_neg (by simp [State.gkRuns, hrun])).trans ?_)
  dsimp only
  rw [State.tempDue_eq]
  rfl

theorem overTemp_hysteresis (hot : Int) (was : Bool) {now : Bool} (hnow : now = (decide (1050 < hot) || (was && !decide (hot < 1000)))) :
    (1050 < hot → now = true) ∧ (hot < 1000 → now = false) ∧ (1000 ≤ hot → hot ≤ 1050 → now = was) ∧ ((now && !was) = decide (1050 < hot ∧ was = false)) := by
  subst hnow
  refine ⟨fun h => by simp [h], fun h => ?_, fun h h' => ?_, ?_⟩
  · have : ¬1050 < hot := by omega
    simp [h, this]
  · simp [Int.not_lt.mpr h, Int.not_lt.mpr h']
  · cases was <;> simp

theorem telemetryRead_measures (t0 t1 t2 t3 vn vs vf : BitVec 16) (hrun : s.computeRuns = true) {hot : Int}
    (hhot : max (max t0.toInt t1.toInt) (max t2.toInt t3.toInt) = hot) : Completes (.telemetryRead t0 t1 t2 t3 vn vs vf) s (fun t =>
      t.gk.temp = hot ∧ t.gk.vddN = vn.toNat ∧ t.gk.vddS = vs.toNat ∧ t.gk.vfield = vf.toNat
      ∧ (1050 < hot → t.gk.overTemp = true) ∧ (hot < 1000 → t.gk.overTemp = false) ∧ (1000 ≤ hot → hot ≤ 1050 → t.gk.overTemp = s.gk.overTemp)
      ∧ Counted s t (if 1050 < hot ∧ s.gk.overTemp = false then [key 0x28F0 9] else [])
      ∧ (∀ n x, (n, x) ∈ s.gk.calTemp → 100 ≤ (hot - x).natAbs → t.gk.calDue.at false n = true)
      ∧ (∀ n, (∀ x, (n, x) ∈ s.gk.calTemp → (hot - x).natAbs < 100) → t.gk.calDue.at false n = s.gk.calDue.at false n)
      ∧ t = { s with gk := { s.gk with temp := t.gk.temp, vddN := t.gk.vddN, vddS := t.gk.vddS, vfield := t.gk.vfield, overTemp := t.gk.overTemp, calDue := t.gk.calDue }, rep := t.rep }) := by
  have hexec := telemetryRead_reads (s := s) t0 t1 t2 t3 vn vs vf hrun hhot
  obtain ⟨now, hnow⟩ : ∃ now, now = (decide (1050 < hot) || (s.gk.overTemp && !decide (hot < 1000))) := ⟨_, rfl⟩
  rw [← hnow] at hexec
  obtain ⟨hon, hoff, hstay, hstart⟩ := overTemp_hysteresis hot s.gk.overTemp hnow
  have hmarks : ∀ n x, (n, x) ∈ s.gk.calTemp → 100 ≤ (hot - x).natAbs → (dueMarks hot s.gk.calDue s.gk.calTemp).at false n = true :=
    fun n x hmem hfar => (dueMarks_at _ _ _ _).mpr (.inr ⟨x, hmem, hfar⟩)
  have hkeeps : ∀ n, (∀ x, (n, x) ∈ s.gk.calTemp → (hot - x).natAbs < 100) →
      (dueMarks hot s.gk.calDue s.gk.calTemp).at false n = s.gk.calDue.at false n := by
    intro n hnear
    rw [Bool.eq_iff_iff, dueMarks_at]
    refine or_iff_left ?_
    rintro ⟨x, hmem, hfar⟩
    exact absurd (hnear x hmem) (by omega)
  rw [hstart] at hexec
  by_cases hgoes : 1050 < hot ∧ s.gk.overTemp = false
  · rw [if_pos (decide_eq_true hgoes)] at hexec
    refine ⟨_, hexec, rfl, rfl, rfl, rfl, hon, hoff, hstay, ?_, hmarks, hkeeps, rfl⟩
    rw [if_pos hgoes]
    exact Counted.count_raise rfl _
  · rw [if_neg (by simpa using hgoes)] at hexec
    refine ⟨_, hexec, rfl, rfl, rfl, rfl, hon, hoff, hstay, ?_, hmarks, hkeeps, rfl⟩
    rw [if_neg hgoes]
    exact (Counted.refl s).of_rep rfl

/-- Settles O60: the sectors ahead are searched for the first free one, and the two thresholds of the temperature are `overTemp_hysteresis`. -/
theorem calibrationAndTelemetry : Obligations.CalibrationAndTelemetry := by
  unfold Obligations.CalibrationAndTelemetry
  intro s
  refine ⟨fun n => ⟨?_, ?_, ?_, ?_, ?_, calibrationPeriodEnd_missed n, ?_⟩, ?_, ?_, ?_, fun t0 t1 t2 t3 vn vs vf hrun => telemetryRead_measures t0 t1 t2 t3 vn vs vf hrun rfl⟩
  · intro hrun hen hdue hcal hready hexps hfar
    refine ⟨_, congrArg Host.Outcome.next (if_pos (by simp [State.gkRuns, hrun, hen, hdue, hcal, hready, hexps, hfar])), (Tab.at_put _ _ _ _ _).trans (if_pos rfl),
      fun k hk => (Tab.at_put _ _ _ _ _).trans (if_neg hk), rfl⟩
  · intro hnot
    refine ⟨s, congrArg Host.Outcome.next (if_neg ?_), rfl⟩
    simp only [State.gkRuns, Bool.and_eq_true, beq_iff_eq, List.isEmpty_iff]
    rintro ⟨⟨⟨⟨⟨⟨hrun, hen⟩, hdue⟩, hcal⟩, hready⟩, hexps⟩, hfar⟩
    simp [hrun, hen, hdue, hcal, hready, hexps, hfar] at hnot
  · intro hrun hcal
    have hput {α : Type} (d : α) (t : Tab α) (x : α) : Tab.at d (t.put n.val x) n.val = x := (Tab.at_put _ _ _ _ _).trans (if_pos rfl)
    have hkeep {α : Type} (d : α) (t : Tab α) (x : α) {k : Nat} (hk : k ≠ n.val) : Tab.at d (t.put n.val x) k = t.at d k := (Tab.at_put _ _ _ _ _).trans (if_neg hk)
    refine ⟨_, congrArg Host.Outcome.next (if_neg (by simp [State.gkRuns, hrun, hcal])), hput _ _ _, hput _ _ _, hput _ _ _, hput _ _ _, hput _ _ _,
      fun k hk => ⟨hkeep _ _ _ hk, hkeep _ _ _ hk, hkeep _ _ _ hk, hkeep _ _ _ hk, hkeep _ _ _ hk⟩, (Counted.count _).of_base rfl, rfl⟩
  · intro hnot
    refine ⟨s, congrArg Host.Outcome.next (if_pos ?_), rfl⟩
    rcases hnot with h | h <;> simp [State.gkRuns, h]
  · intro hrun hcal hmet
    refine ⟨_, congrArg Host.Outcome.next ((if_neg (by simp [State.gkRuns, hrun, hcal])).trans (if_pos (by rcases hmet with h | h <;> simp [h]))),
      (Tab.at_put _ _ _ _ _).trans (if_pos rfl), (Tab.at_put _ _ _ _ _).trans (if_pos rfl),
      fun k hk => ⟨(Tab.at_put _ _ _ _ _).trans (if_neg hk), (Tab.at_put _ _ _ _ _).trans (if_neg hk)⟩, rfl⟩
  · intro hnot
    refine ⟨s, congrArg Host.Outcome.next (if_pos ?_), rfl⟩
    rcases hnot with h | h <;> simp [State.gkRuns, h]
  · intro hnot
    refine ⟨s, congrArg Host.Outcome.next (if_pos ?_), rfl⟩
    rcases hnot with h | h | h | h | h
    all_goals simp [State.gkRuns, h, Option.isSome_iff_ne_none]
  · intro hrun hboot hslot hbusy hop
    refine ⟨fun hnone => ?_, fun xs x ys hahead hbefore hfree => ?_⟩
    · refine ⟨s, (eraseAhead_opens hrun hboot hslot hbusy hop rfl).1 ?_, rfl⟩
      rw [List.find?_eq_none]
      exact fun x hx hf => hnone x hx ((s.aheadFree_iff x).mp hf)
    · have hfind : (s.aheadSectors s.boot.slot).find? s.aheadFree = some x := by
        rw [hahead, List.find?_append, List.find?_eq_none.mpr (fun y hy hf => hbefore y hy ((s.aheadFree_iff y).mp hf)),
          List.find?_cons_of_pos ((s.aheadFree_iff x).mpr hfree)]
        rfl
      have hlow : 0x7A0000 ≤ areaBase s.boot.slot + 4096 * x := by unfold areaBase; omega
      have hpage : (areaBase s.boot.slot + 4096 * x) % 4096 = 0 := by unfold areaBase; omega
      have hexec := (eraseAhead_opens hrun hboot hslot hbusy hop rfl).2 x hfind
      generalize areaBase s.boot.slot + 4096 * x = a at *
      refine ⟨_, hexec, fun b => s.byte_eraseSector hpage b, (s.eraseSector_counted a).and_count (by decide), ?_⟩
      have hframe := s.eraseSector_eq hlow
      generalize s.eraseSector a = u at *
      rw [hframe]
      rfl
  · intro t0 t1 t2 t3 vn vs vf hstop
    exact ⟨s, congrArg Host.Outcome.next (if_pos (by simp [State.gkRuns, hstop])), rfl⟩

end Machine
end Sys2Proof
end

section
open scoped List
namespace Sys2Proof
namespace Machine

variable {s : State}

/-! Patrol scrubs (18 R443-R446, 06 R176). -/

/-- The state in which a read of a pass is made: a resource without a pass has started one (18 R443). -/
def State.passOpen (s : State) (r : Nat) : State := (s.passRead r).1

theorem State.passRead_eq (s : State) (r : Nat) : s.passRead r = (s.passOpen r, s.scrubPlace r) := by
  unfold State.passOpen State.scrubPlace State.passRead
  split <;> rfl

theorem State.passOpen_eq (s : State) (r : Nat) : s.passOpen r = { s with gk := (s.passOpen r).gk } := by
  unfold State.passOpen State.passRead
  split <;> rfl

/-- Counter of the passes that have ended on a resource (18 R444). -/
def passKey (r : Nat) : Nat := if r = 8 then key 0x28F0 1 else key (0x2850 + r) 4

/-- A pass on a resource ends (18 R444, R445). -/
def State.passEnd (s : State) (r : Nat) : State :=
  { s with gk := { s.gk with
    passOn := s.gk.passOn.put r false, pass := s.gk.pass.put r 0, late := s.gk.late.put r false
    forced := s.gk.forced.put r false, interval := s.gk.interval.put r false } }

theorem State.passOpen_on (s : State) (r : Nat) : (s.passOpen r).gk.passOn.at false r = true := by
  unfold State.passOpen State.passRead
  split
  · assumption
  · exact Tab.at_put_same ..

theorem State.passOpen_other (s : State) {r k : Nat} (hk : k ≠ r) : (s.passOpen r).gk.passOn.at false k = s.gk.passOn.at false k
    ∧ (s.passOpen r).gk.pass.at 0 k = s.gk.pass.at 0 k := by
  unfold State.passOpen State.passRead
  split
  · exact ⟨rfl, rfl⟩
  · exact ⟨(Tab.at_put ..).trans (if_neg hk), (Tab.at_put ..).trans (if_neg hk)⟩

theorem State.passOpen_gk (s : State) (r : Nat) : (s.passOpen r).gk =
    { s.gk with passOn := (s.passOpen r).gk.passOn, pass := (s.passOpen r).gk.pass, late := (s.passOpen r).gk.late } := by
  unfold State.passOpen State.passRead
  split <;> rfl

/-- The step that ends a read: the pass stands at the next place, or has ended (18 R444, R445). -/
theorem State.passStep_scrubbed {u : State} {r : Nat} (hgk : u.gk = (s.passOpen r).gk) :
    s.scrubbed (u.passStep r (s.scrubPlace r)) r ∧ Counted u (u.passStep r (s.scrubPlace r)) (s.scrubEnds r (passKey r))
    ∧ u.passStep r (s.scrubPlace r) = { u with gk := (u.passStep r (s.scrubPlace r)).gk, rep := (u.passStep r (s.scrubPlace r)).rep } := by
  obtain ⟨v, hv⟩ : ∃ v, s.passOpen r = v := ⟨_, rfl⟩
  have hon := s.passOpen_on r
  have hother : ∀ k, k ≠ r → v.gk.passOn.at false k = s.gk.passOn.at false k ∧ v.gk.pass.at 0 k = s.gk.pass.at 0 k :=
    fun k hk => hv ▸ s.passOpen_other hk
  have hopen := s.passOpen_gk r
  rw [hv] at hgk hon hopen
  have hforced : v.gk.forced = s.gk.forced := by rw [hopen]
  have hinterval : v.gk.interval = s.gk.interval := by rw [hopen]
  have hself {α : Type} (d : α) (t : Tab α) (x : α) : Tab.at d (t.put r x) r = x := Tab.at_put_same ..
  have hkeep {α : Type} (d : α) (t : Tab α) (x : α) {k : Nat} (hk : k ≠ r) : Tab.at d (t.put r x) k = t.at d k := (Tab.at_put ..).trans (if_neg hk)
  by_cases hlast : s.scrubPlace r + 1 < passLen r
  · have hstep : u.passStep r (s.scrubPlace r) = { u with gk := { u.gk with pass := u.gk.pass.put r (s.scrubPlace r + 1) } } := if_pos hlast
    rw [hstep]
    refine ⟨⟨?_, ?_, ?_, ?_, fun k hk => ⟨?_, ?_, ?_, ?_⟩, ?_⟩, ?_, rfl⟩
    · rw [decide_eq_true hlast, ← hon, hgk]
    · rw [if_pos hlast]; exact hself ..
    · rw [decide_eq_true hlast, Bool.true_and, ← hforced, hgk]
    · rw [decide_eq_true hlast, Bool.true_and, ← hinterval, hgk]
    · exact (by rw [hgk] : _ = v.gk.passOn.at false k).trans (hother k hk).1
    · exact (hkeep _ _ _ hk).trans ((by rw [hgk] : _ = v.gk.pass.at 0 k).trans (hother k hk).2)
    · rw [← hforced, hgk]
    · rw [← hinterval, hgk]
    · rw [hgk, hopen]
    · unfold State.scrubEnds
      rw [if_pos hlast]
      exact (Counted.refl u).of_rep rfl
  · have hstep : ∃ w : State, u.passStep r (s.scrubPlace r) = w ∧ Counted u w [passKey r] ∧ w = { u.passEnd r with rep := w.rep } := by
      refine ⟨_, rfl, ?_⟩
      have hend : u.passStep r (s.scrubPlace r) = if r = 8 then (u.passEnd r).count 0x28F0 1 else (u.passEnd r).count (0x2850 + r) 4 := if_neg hlast
      rw [hend]
      unfold passKey
      split
      · exact ⟨(Counted.count _).of_base rfl, rfl⟩
      · exact ⟨(Counted.count _).of_base rfl, rfl⟩
    obtain ⟨w, hw, hcount, hframe⟩ := hstep
    have hwgk : w.gk = (u.passEnd r).gk := by rw [hframe]
    rw [hw]
    unfold State.scrubbed State.scrubEnds
    rw [if_neg hlast, if_neg hlast, decide_eq_false hlast, hwgk]
    refine ⟨⟨hself .., hself .., hself .., hself .., fun k hk => ⟨?_, ?_, ?_, ?_⟩, ?_⟩, hcount, ?_⟩
    · exact (hkeep _ _ _ hk).trans ((by rw [hgk] : _ = v.gk.passOn.at false k).trans (hother k hk).1)
    · exact (hkeep _ _ _ hk).trans ((by rw [hgk] : _ = v.gk.pass.at 0 k).trans (hother k hk).2)
    · exact (hkeep _ _ _ hk).trans (by rw [hgk, hforced])
    · exact (hkeep _ _ _ hk).trans (by rw [hgk, hinterval])
    · unfold State.passEnd
      dsimp only
      rw [hgk, hopen]
    · rw [hframe]; rfl

/-! ### Errors found by a read of the Deep Store -/

/-- An uncorrectable error is counted and remembered (06 R176). -/
def State.uncNoted (s : State) (c a : Nat) : State :=
  ((s.count (0x2850 + c) 2).raise { code := 0x1501, unit := c, detail := a }).updChan c (·.remembers (a / 64) s.clk.ref)

theorem State.uncNoted_chan (s : State) (c a k : Nat) :
    (s.uncNoted c a).chan k = if k = c then (s.chan c).remembers (a / 64) s.clk.ref else s.chan k :=
  State.chan_of_put (s := s) rfl k

theorem State.uncNoted_counted (s : State) (c a : Nat) : Counted s (s.uncNoted c a) [key (0x2850 + c) 2] :=
  (Counted.count_raise (u := s) rfl _).of_rep rfl

theorem State.uncNoted_eq (s : State) (c a : Nat) :
    s.uncNoted c a = { s with mem := { s.mem with ds := (s.uncNoted c a).mem.ds }, rep := (s.uncNoted c a).rep } := rfl

theorem State.dsUncorrectable_eq (s : State) (c a : Nat) :
    s.dsUncorrectable c a = if 3 ≤ ((s.uncNoted c a).chan c).unc.length then (s.uncNoted c a).fence c else s.uncNoted c a := rfl

/-- Stations `l` have been barred: none of them admits, and memory stands (11 R286). -/
structure Barred (s t : State) (l : List Nat) : Prop where
  admits : ∀ st ∈ l, t.num (0x2400 + st) 0x22 0 = 0
  mem : t.mem = s.mem
  tally : Counted s t []

theorem State.setStation_frame (s : State) (st : Nat) (x : StationState) :
    (s.setStation st x).od = s.od ∧ (s.setStation st x).mem = s.mem ∧ Counted s (s.setStation st x) [] := by
  unfold State.setStation
  split
  · exact ⟨rfl, rfl, Counted.refl s⟩
  · exact ⟨rfl, rfl, ((Counted.refl s).of_rep rfl).occur _⟩

theorem State.barStation_frame (s : State) (st : Nat) : (s.barStation st).od = (s.setNum (0x2400 + st) 0x22 0).od
    ∧ (s.barStation st).mem = s.mem ∧ Counted s (s.barStation st) [] := by
  unfold State.barStation State.stopAdmission
  dsimp only
  split
  · obtain ⟨hod, hmem, hcount⟩ := State.setStation_frame ({ s.setNum (0x2400 + st) 0x22 0 with
      rs := { s.rs with chain := s.rs.chain.upd {} st (fun (x : Chain) => { x with imp := none }) } } : State) st .draining
    exact ⟨hod, hmem, (hcount.of_rep rfl).of_base rfl⟩
  · exact ⟨rfl, rfl, (Counted.refl s).of_rep rfl⟩

theorem stationKey_ne {x st : Nat} (h : st ≠ x) : key (0x2400 + st) 0x22 ≠ key (0x2400 + x) 0x22 := by
  unfold key
  omega

theorem Barred.snoc {t : State} {l : List Nat} (h : Barred s t l) (x : Nat) : Barred s (t.barStation x) (l ++ [x]) := by
  obtain ⟨hod, hmem, hcount⟩ := t.barStation_frame x
  obtain ⟨hadmits, hsame, htally⟩ := h
  refine ⟨fun st hst => ?_, hmem.trans hsame, htally.then hcount (by simp)⟩
  have hnum : (t.barStation x).num (0x2400 + st) 0x22 0 = (t.setNum (0x2400 + x) 0x22 0).num (0x2400 + st) 0x22 0 := by
    unfold State.num
    rw [hod]
  rw [hnum]
  by_cases hx : st = x
  · rw [hx]; exact State.num_setNum ..
  · rw [State.num_setNum_other _ _ _ (stationKey_ne hx)]
    exact hadmits st (by simpa [hx] using hst)

theorem Barred.foldl (s : State) (l : List Nat) : Barred s (l.foldl (fun s st => s.barStation st) s) l := by
  induction l using List.reverseRecOn with
  | nil => exact ⟨fun _ h => absurd h List.not_mem_nil, rfl, Counted.refl s⟩
  | append_singleton l x ih => rw [List.foldl_append]; exact ih.snoc x

/-- A channel is fenced: every station that holds a share of it stops admission, and the fence is counted (06 R176). -/
theorem State.fence_spec {c : Nat} (hopen : (s.chan c).fenced = false) :
    ((s.fence c).chan c).fenced = true ∧ (∀ d, d ≠ c → (s.fence c).chan d = s.chan d)
    ∧ (∀ st, st < 32 → s.holdsShare st c = true → (s.fence c).admits st = false)
    ∧ Counted s (s.fence c) [key (0x2850 + c) 5] ∧ (s.fence c).mem.bytes = s.mem.bytes := by
  obtain ⟨u, hu, hrep, hod, hbytes, hchan⟩ : ∃ u : State, s.updChan c (fun d => { d with fenced := true }) = u ∧ u.rep = s.rep ∧ u.od = s.od
      ∧ u.mem.bytes = s.mem.bytes ∧ ∀ k, u.chan k = if k = c then { s.chan c with fenced := true } else s.chan k :=
    ⟨_, rfl, rfl, rfl, rfl, fun k => State.chan_of_put (s := s) rfl k⟩
  have hshare (st : Nat) : u.holdsShare st c = s.holdsShare st c := by
    unfold State.holdsShare State.sharesLeft State.sharesOf State.stDom
    rw [hod]
  have hbar := Barred.foldl u ((List.range 32).filter (fun st => u.holdsShare st c))
  have hfence : s.fence c = ((((List.range 32).filter (fun st => u.holdsShare st c)).foldl (fun s st => s.barStation st) u).count (0x2850 + c) 5).raise
      { code := 0x1502, unit := c } := by
    rw [← hu]
    exact if_neg (by simp [hopen])
  generalize ((List.range 32).filter (fun st => u.holdsShare st c)).foldl (fun s st => s.barStation st) u = w at *
  obtain ⟨hadmits, hmem, htally⟩ := hbar
  rw [hfence]
  have hwchan (k : Nat) : w.chan k = if k = c then { s.chan c with fenced := true } else s.chan k := by
    rw [← hchan]
    unfold State.chan
    rw [hmem]
  have hcount : Counted s ((w.count (0x2850 + c) 5).raise { code := 0x1502, unit := c }) [key (0x2850 + c) 5] :=
    ((htally.and_count (by simp)).raise _).of_base hrep
  refine ⟨congrArg DsChan.fenced ((hwchan c).trans (if_pos rfl)), fun d hd => (hwchan d).trans (if_neg hd), fun st hst hholds => ?_, hcount, ?_⟩
  · have hzero := hadmits st (List.mem_filter.mpr ⟨List.mem_range.mpr hst, (hshare st).trans hholds⟩)
    change (w.num (0x2400 + st) 0x22 0 == 1) = false
    rw [hzero]
    rfl
  · change w.mem.bytes = s.mem.bytes
    rw [hmem, hbytes]

/-- Counters of a read that moves `k` and of the end of its pass (18 R444). -/
theorem Counted.scrub {u t : State} {r : Nat} {ks : List Nat} (hs : Counted s u ks) (hend : Counted u t (s.scrubEnds r (passKey r)))
    (hnew : passKey r ∉ ks) : Counted s t (ks ++ s.scrubEnds r (passKey r)) := by
  refine hs.then hend (fun k hk => ?_)
  unfold State.scrubEnds at hk
  split at hk
  · exact absurd hk List.not_mem_nil
  · rwa [List.mem_singleton.mp hk]

theorem passKey_chan (c : Fin 8) : passKey c.val = key (0x2850 + c) 4 := if_neg (by omega)

theorem passKey_not_error (c : Fin 8) {j : Nat} (hj : j < 4) : passKey c.val ∉ [key (0x2850 + c) j] := by
  rw [passKey_chan, List.mem_singleton]
  unfold key
  omega

/-- A word that is corrected is noted for its rewrite (06 R176). -/
def DsChan.toRewrite (d : DsChan) (w : Nat) : DsChan := { d with fix := if d.fix.contains w then d.fix else d.fix ++ [w] }

theorem DsChan.mem_toRewrite (d : DsChan) (w x : Nat) : x ∈ (d.toRewrite w).fix ↔ x = w ∨ x ∈ d.fix := by
  unfold DsChan.toRewrite
  by_cases hw : w ∈ d.fix
  · simp only [List.contains_iff_mem, hw, if_true]
    exact ⟨.inr, fun h => h.elim (fun h => h ▸ hw) id⟩
  · simp [hw, or_comm]

/-- What a scrub read at address `a` of a channel reports (18 R443). -/
def State.dsFound (s : State) (c a : Nat) : MemErr → State
  | .corrected => (s.count (0x2850 + c) 1).updChan c (·.toRewrite (a / 8))
  | .uncorrectable => s.dsUncorrectable c a
  | _ => s

/-- The end of a read at place `i`; a fenced channel leaves its pass (18 R444). -/
def State.readDone (s : State) (c i : Nat) : State := if (s.chan c).fenced then s else s.passStep c i

theorem deepStoreScrubRead_open (c : Fin 8) (hrun : s.computeRuns = true) (hready : (s.chan c).ready = true) (hopen : (s.chan c).fenced = false) (e : MemErr) :
    exec (.deepStoreScrubRead c e) s = .next (((s.passOpen c).dsFound c (dsBase c + 64 * s.scrubPlace c) e).readDone c (s.scrubPlace c)) := by
  show execDeepStoreScrubRead c e s = _
  unfold execDeepStoreScrubRead
  dsimp only
  rw [if_neg (by simp [State.gkRuns, hrun, hready, hopen]), State.passRead_eq]
  cases e <;> rfl

/-- A read ends, with what it has found in `u`: its pass goes on, since the channel is not fenced (18 R444). -/
theorem deepStoreScrubRead_ends (c : Fin 8) {u : State} {e : MemErr} (hexec : exec (.deepStoreScrubRead c e) s = .next (u.readDone c (s.scrubPlace c)))
    (hopen : (u.chan c).fenced = false) (hgk : u.gk = (s.passOpen c).gk) {ks : List Nat} (hcount : Counted s u ks) (hnew : passKey c.val ∉ ks) :
    ∃ t, exec (.deepStoreScrubRead c e) s = .next t ∧ s.scrubbed t c ∧ Counted s t (ks ++ s.scrubEnds c (key (0x2850 + c) 4))
      ∧ t = { u with gk := t.gk, rep := t.rep } := by
  obtain ⟨hscrub, hend, hframe⟩ := State.passStep_scrubbed (s := s) (r := c.val) hgk
  have hdone : u.readDone c (s.scrubPlace c) = u.passStep c (s.scrubPlace c) := if_neg (by simp [hopen])
  refine ⟨_, hexec.trans (congrArg Host.Outcome.next hdone), hscrub, ?_, hframe⟩
  rw [← passKey_chan]
  exact hcount.scrub hend hnew

theorem deepStoreScrubRead_none (c : Fin 8) (hrun : s.computeRuns = true) (hready : (s.chan c).ready = true) (hopen : (s.chan c).fenced = false) :
    Completes (.deepStoreScrubRead c .none) s (fun t =>
      s.scrubbed t c ∧ Counted s t (s.scrubEnds c (key (0x2850 + c) 4)) ∧ t = { s with gk := t.gk, rep := t.rep }) := by
  have hframe := s.passOpen_eq c
  have hexec := deepStoreScrubRead_open c hrun hready hopen .none
  have hchan : (s.passOpen c).chan c = s.chan c := by rw [hframe]; rfl
  have hcount : Counted s (s.passOpen c) [] := (Counted.refl s).of_rep (by rw [hframe])
  obtain ⟨t, ht, hscrub, hend, htframe⟩ := deepStoreScrubRead_ends c (u := s.passOpen c) hexec (by rw [hchan, hopen]) rfl hcount List.not_mem_nil
  refine ⟨t, ht, hscrub, hend, ?_⟩
  rw [htframe, hframe]

theorem deepStoreScrubRead_corrected (c : Fin 8) (hrun : s.computeRuns = true) (hready : (s.chan c).ready = true) (hopen : (s.chan c).fenced = false)
    {w : Nat} (hw : (dsBase c + 64 * s.scrubPlace c) / 8 = w) : Completes (.deepStoreScrubRead c .corrected) s (fun t =>
        s.scrubbed t c ∧ Counted s t (key (0x2850 + c) 1 :: s.scrubEnds c (key (0x2850 + c) 4)) ∧ w ∈ (t.chan c).fix
        ∧ t.chan c = { s.chan c with fix := (t.chan c).fix } ∧ (∀ x, x ∈ (t.chan c).fix ↔ x = w ∨ x ∈ (s.chan c).fix) ∧ (∀ d, d ≠ c.val → t.chan d = s.chan d)
        ∧ t = { s with gk := t.gk, mem := { s.mem with ds := t.mem.ds }, rep := t.rep }) := by
  have hframe := s.passOpen_eq c
  have hexec := deepStoreScrubRead_open c hrun hready hopen .corrected
  unfold State.dsFound at hexec
  rw [hw] at hexec
  obtain ⟨u, hu⟩ : ∃ u : State, ((s.passOpen c).count (0x2850 + c) 1).updChan c (·.toRewrite w) = u := ⟨_, rfl⟩
  have hbase : (s.passOpen c).chan c = s.chan c := by rw [hframe]; rfl
  have hchan (k : Nat) : u.chan k = if k = c.val then (s.chan c).toRewrite w else s.chan k := by
    rw [← hbase, ← hu]
    exact State.chan_of_put (s := s) (c := c.val) (by rw [hframe]; rfl) k
  have huframe : u = { s with gk := u.gk, mem := { s.mem with ds := u.mem.ds }, rep := u.rep } := by rw [← hu, hframe]; rfl
  have hgk : u.gk = (s.passOpen c).gk := by rw [← hu]; rfl
  have hcount : Counted s u [key (0x2850 + c) 1] := by
    rw [← hu]
    exact ((Counted.count _).of_rep rfl).of_base (by rw [hframe])
  have hstay : (u.chan c).fenced = false := (congrArg DsChan.fenced ((hchan c).trans (if_pos rfl))).trans hopen
  rw [hu] at hexec
  obtain ⟨t, ht, hscrub, hend, htframe⟩ := deepStoreScrubRead_ends c hexec hstay hgk hcount (passKey_not_error c (by decide))
  have htchan (k : Nat) : t.chan k = if k = c.val then (s.chan c).toRewrite w else s.chan k := by
    rw [← hchan, htframe]; rfl
  have hself := (htchan c).trans (if_pos rfl)
  have hmem (x : Nat) : x ∈ (t.chan c).fix ↔ x = w ∨ x ∈ (s.chan c).fix := by rw [hself]; exact DsChan.mem_toRewrite _ _ _
  refine ⟨t, ht, hscrub, hend, (hmem w).mpr (.inl rfl), ?_, hmem, fun d hd => (htchan d).trans (if_neg hd), ?_⟩
  · rw [hself]; rfl
  · rw [htframe, huframe]

/-- What the channel remembers of earlier errors when another word fails (06 R176). -/
def DsChan.recent (d : DsChan) (loc now : Nat) : List (Nat × Nat) :=
  d.unc.filter (fun x => x.1 != loc && decide (now ≤ x.2 + 60 * Config.psPerS))

theorem deepStoreScrubRead_uncorrectable (c : Fin 8) (hrun : s.computeRuns = true) (hready : (s.chan c).ready = true) (hopen : (s.chan c).fenced = false)
    {w : Nat} (hw : (dsBase c + 64 * s.scrubPlace c) / 8 = w) :
    (((s.chan c).recent (w / 8) s.clk.ref).length < 2 → Completes (.deepStoreScrubRead c .uncorrectable) s (fun t =>
        s.scrubbed t c ∧ Counted s t (key (0x2850 + c) 2 :: s.scrubEnds c (key (0x2850 + c) 4))
        ∧ t.chan c = { s.chan c with unc := (w / 8, s.clk.ref) :: (s.chan c).recent (w / 8) s.clk.ref } ∧ (∀ d, d ≠ c.val → t.chan d = s.chan d)
        ∧ t = { s with gk := t.gk, mem := { s.mem with ds := t.mem.ds }, rep := t.rep }))
      ∧ (2 ≤ ((s.chan c).recent (w / 8) s.clk.ref).length → Completes (.deepStoreScrubRead c .uncorrectable) s (fun t =>
        (t.chan c).fenced = true ∧ (∀ d, d ≠ c.val → t.chan d = s.chan d) ∧ (∀ st, st < 32 → s.holdsShare st c = true → t.admits st = false)
        ∧ t.counter (0x2850 + c) 2 = satInc (s.counter (0x2850 + c) 2) ∧ t.counter (0x2850 + c) 5 = satInc (s.counter (0x2850 + c) 5) ∧ t.mem.bytes = s.mem.bytes)) := by
  have hframe := s.passOpen_eq c
  have hexec := deepStoreScrubRead_open c hrun hready hopen .uncorrectable
  unfold State.dsFound at hexec
  rw [State.dsUncorrectable_eq] at hexec
  have hloc : (dsBase c + 64 * s.scrubPlace c) / 64 = w / 8 := by omega
  obtain ⟨v, hv, hvframe⟩ : ∃ v : State, s.passOpen c = v ∧ v = { s with gk := v.gk } := ⟨_, rfl, hframe⟩
  rw [hv] at hexec
  obtain ⟨u, hu⟩ : ∃ u : State, v.uncNoted c (dsBase c + 64 * s.scrubPlace c) = u := ⟨_, rfl⟩
  have hbase (k : Nat) : v.chan k = s.chan k := by rw [hvframe]; rfl
  have hchan (k : Nat) : u.chan k = if k = c.val then (s.chan c).remembers (w / 8) s.clk.ref else s.chan k := by
    rw [← hu, State.uncNoted_chan, hloc, hbase, hbase, hvframe]
  have hcount : Counted s u [key (0x2850 + c) 2] := by
    rw [← hu]
    exact (State.uncNoted_counted _ _ _).of_base (by rw [hvframe])
  have huframe : u = { s with gk := v.gk, mem := { s.mem with ds := u.mem.ds }, rep := u.rep } := by
    rw [← hu, State.uncNoted_eq, hvframe]
  rw [hu] at hexec
  have hself := (hchan c).trans (if_pos rfl)
  have hlen : (u.chan c).unc.length = ((s.chan c).recent (w / 8) s.clk.ref).length + 1 := by rw [hself]; rfl
  have hstay : (u.chan c).fenced = false := (congrArg DsChan.fenced hself).trans hopen
  refine ⟨fun hfew => ?_, fun hmany => ?_⟩
  · rw [if_neg (by omega)] at hexec
    obtain ⟨t, ht, hscrub, hend, htframe⟩ := deepStoreScrubRead_ends c hexec hstay (by rw [huframe, hv]) hcount (passKey_not_error c (by decide))
    have htchan (k : Nat) : t.chan k = u.chan k := by rw [htframe]; rfl
    refine ⟨t, ht, hscrub, hend, (htchan c).trans hself, fun d hd => (htchan d).trans ((hchan d).trans (if_neg hd)), ?_⟩
    rw [htframe, huframe]
  · rw [if_pos (by omega)] at hexec
    obtain ⟨hfenced, hothers, hadmits, hfcount, hbytes⟩ := State.fence_spec hstay
    have hshare (st : Nat) : u.holdsShare st c = s.holdsShare st c := by rw [huframe]; rfl
    have hall : Counted s (u.fence c) ([key (0x2850 + c) 2] ++ [key (0x2850 + c) 5]) := hcount.then hfcount (by
      intro k hk
      rw [List.mem_singleton] at hk ⊢
      unfold key at *
      omega)
    have hown {j : Nat} (hj : j < 256) : key (0x2850 + c) j ∉ ownCounters := by
      unfold ownCounters key
      simp only [List.mem_cons, List.not_mem_nil, or_false, not_or]
      omega
    refine ⟨u.fence c, hexec.trans (congrArg Host.Outcome.next (if_pos hfenced)), hfenced, fun d hd => (hothers d hd).trans ((hchan d).trans (if_neg hd)),
      fun st hst hholds => hadmits st hst ((hshare st).trans hholds), hall.counter (hown (by decide)) (by simp), hall.counter (hown (by decide)) (by simp), ?_⟩
    rw [hbytes, huframe]

/-! ### The Ring Table and the pass of a resource -/

/-- A read of the Ring Table's pass ends, with what it has found in `u` (18 R443, R444). -/
theorem ringTableScrubRead_ends {u : State} {e : MemErr} (hrun : s.computeRuns = true) (hecc : (s.passOpen 8).ringEcc (s.scrubPlace 8) e = u)
    (hgk : u.gk = (s.passOpen 8).gk) {ks : List Nat} (hcount : Counted (s.passOpen 8) u ks) (hnew : key 0x28F0 1 ∉ ks) :
    ∃ t, exec (.ringTableScrubRead e) s = .next t ∧ s.scrubbed t 8 ∧ Counted s t (ks ++ s.scrubEnds 8 (key 0x28F0 1))
      ∧ t = { u with gk := t.gk, rep := t.rep } := by
  obtain ⟨hscrub, hend, hframe⟩ := State.passStep_scrubbed (s := s) (r := 8) hgk
  have hbase : Counted s u ks := hcount.of_base (by rw [s.passOpen_eq])
  refine ⟨_, ?_, hscrub, hbase.scrub hend hnew, hframe⟩
  show execRingTableScrubRead e s = _
  unfold execRingTableScrubRead
  rw [if_neg (by simp [State.gkRuns, hrun]), State.passRead_eq]
  dsimp only
  rw [hecc]

theorem ringTableScrubRead_reads (hrun : s.computeRuns = true) :
    Completes (.ringTableScrubRead .none) s (fun t =>
        s.scrubbed t 8 ∧ Counted s t (s.scrubEnds 8 (key 0x28F0 1)) ∧ t = { s with gk := t.gk, rep := t.rep })
      ∧ Completes (.ringTableScrubRead .corrected) s (fun t =>
        s.scrubbed t 8 ∧ Counted s t (key 0x285A 5 :: s.scrubEnds 8 (key 0x28F0 1)) ∧ t = { s with gk := t.gk, rep := t.rep })
      ∧ Completes (.ringTableScrubRead .uncorrectable) s (fun t =>
        s.scrubbed t 8 ∧ Counted s t (key 0x285A 6 :: s.scrubEnds 8 (key 0x28F0 1))
        ∧ t.ring (s.scrubPlace 8) = { s.ring (s.scrubPlace 8) with damaged := true } ∧ (∀ r, r ≠ s.scrubPlace 8 → t.ring r = s.ring r)
        ∧ t = { s with gk := t.gk, rg := { s.rg with ring := t.rg.ring }, rep := t.rep }) := by
  have hframe := s.passOpen_eq 8
  refine ⟨?_, ?_, ?_⟩
  · obtain ⟨t, ht, hscrub, hend, htframe⟩ := ringTableScrubRead_ends (e := .none) hrun rfl rfl (Counted.refl _) (by simp)
    refine ⟨t, ht, hscrub, hend, ?_⟩
    rw [htframe]
    change ({ s.passOpen 8 with gk := t.gk, rep := t.rep } : State) = _
    rw [hframe]
  · obtain ⟨t, ht, hscrub, hend, htframe⟩ := ringTableScrubRead_ends (e := .corrected) hrun rfl rfl (Counted.count _) (by decide)
    refine ⟨t, ht, hscrub, hend, ?_⟩
    rw [htframe]
    change ({ s.passOpen 8 with gk := t.gk, rep := t.rep } : State) = _
    rw [hframe]
  · obtain ⟨v, hv, hvframe⟩ : ∃ v : State, s.passOpen 8 = v ∧ v = { s with gk := v.gk } := ⟨_, rfl, hframe⟩
    obtain ⟨u, hu⟩ : ∃ u : State, v.ringEcc (s.scrubPlace 8) .uncorrectable = u := ⟨_, rfl⟩
    have hring (k : Nat) : u.ring k = if k = s.scrubPlace 8 then { s.ring (s.scrubPlace 8) with damaged := true } else s.ring k := by
      have hbase : s.ring (s.scrubPlace 8) = v.ring (s.scrubPlace 8) := by rw [hvframe]; rfl
      rw [hbase, ← hu]
      exact State.ring_of_put (s := s) (by rw [hvframe]; rfl) k
    have huframe : u = { s with gk := v.gk, rg := { s.rg with ring := u.rg.ring }, rep := u.rep } := by rw [← hu, hvframe]; rfl
    have hcount : Counted v u [key 0x285A 6] := by
      rw [← hu]
      exact Counted.count_raise rfl _
    obtain ⟨t, ht, hscrub, hend, htframe⟩ := ringTableScrubRead_ends (e := .uncorrectable) hrun (hv ▸ hu) (by rw [huframe, hv]) (hv ▸ hcount) (by decide)
    have htring (k : Nat) : t.ring k = u.ring k := by rw [htframe]; rfl
    refine ⟨t, ht, hscrub, hend, (htring _).trans ((hring _).trans (if_pos rfl)), fun r hr => (htring r).trans ((hring r).trans (if_neg hr)), ?_⟩
    rw [htframe, huframe]

theorem forcedIntervalStart_starts (r : Fin 9) (hrun : s.computeRuns = true) (hpass : s.passRuns r = true) (hforced : s.gk.forced.at false r = true)
    (hidle : s.gk.interval.at false r = false) (hapart : ∀ x, s.gk.lastInt.at none r = some x → x + 10 * Config.psPerMs ≤ s.clk.ref) :
    Completes (.forcedIntervalStart r) s (fun t =>
      t.gk.interval.at false r = true ∧ t.gk.lastInt.at none r = some s.clk.ref ∧ (∀ k, k ≠ r.val → t.gk.interval.at false k = s.gk.interval.at false k)
      ∧ Counted s t [key 0x28F0 4] ∧ t = { s with gk := { s.gk with interval := t.gk.interval, lastInt := t.gk.lastInt }, rep := t.rep }) := by
  refine ⟨_, congrArg Host.Outcome.next (if_neg ?_), Tab.at_put_same .., Tab.at_put_same .., fun k hk => (Tab.at_put ..).trans (if_neg hk),
    (Counted.count _).of_base rfl, rfl⟩
  cases hlast : s.gk.lastInt.at none r.val with
  | none => simp [State.gkRuns, hrun, hpass, hforced, hidle]
  | some x => simp [State.gkRuns, hrun, hpass, hforced, hidle, Nat.not_lt.mpr (hapart x hlast)]

/-- Settles O59: every read opens its pass, reports what it has found and steps the pass (`passStep_scrubbed`); the third failing place within
60 s is the one that fences (`fence_spec`). -/
theorem patrolScrubs : Obligations.PatrolScrubs := by
  unfold Obligations.PatrolScrubs
  intro s
  refine ⟨fun c e hnot => ?_, fun c hrun hready hopen => ?_, fun e hstop => ?_, ringTableScrubRead_reads, fun r => ⟨fun hrun hpass => ⟨fun hlate => ?_,
    fun hforced => ?_, forcedIntervalStart_starts r hrun hpass⟩, fun hnot => ?_, fun hnot => ?_, fun hnot => ?_, ?_⟩⟩
  · refine ⟨s, congrArg Host.Outcome.next (if_pos ?_), rfl⟩
    rcases hnot with h | h | h <;> simp [State.gkRuns, h]
  · obtain ⟨hfew, hmany⟩ := deepStoreScrubRead_uncorrectable c hrun hready hopen rfl
    exact ⟨deepStoreScrubRead_none c hrun hready hopen, deepStoreScrubRead_corrected c hrun hready hopen rfl, hfew, hmany⟩
  · exact ⟨s, congrArg Host.Outcome.next (if_pos (by simp [State.gkRuns, hstop])), rfl⟩
  · have hkey : (if r = 8 then 3 else 2) = if r.val = 8 then 3 else 2 := if_congr Fin.ext_iff rfl rfl
    exact ⟨_, congrArg Host.Outcome.next (if_neg (by simp [State.gkRuns, hrun, hpass, hlate])), Tab.at_put_same .., by
      rw [hkey]
      exact (Counted.count _).of_base rfl, rfl⟩
  · exact ⟨_, congrArg Host.Outcome.next (if_neg (by simp [State.gkRuns, hrun, hpass, hforced])), Tab.at_put_same ..,
      ((Counted.refl _).raise _).of_base rfl, rfl⟩
  · refine ⟨s, congrArg Host.Outcome.next (if_pos ?_), rfl⟩
    rcases hnot with h | h | h <;> simp [State.gkRuns, h]
  · refine ⟨s, congrArg Host.Outcome.next (if_pos ?_), rfl⟩
    rcases hnot with h | h | h <;> simp [State.gkRuns, h]
  · refine ⟨s, congrArg Host.Outcome.next (if_pos ?_), rfl⟩
    rcases hnot with h | h | h | h | ⟨x, hlast, hearly⟩
    case inr.inr.inr.inr => simp [hlast, hearly]
    all_goals simp [State.gkRuns, h]
  · exact ⟨_, rfl, Tab.at_put_same .., fun k hk => (Tab.at_put ..).trans (if_neg hk), rfl⟩

end Machine
end Sys2Proof
end

section
/-!
PROOF. On-chip flash and its registers (17 R415-R421): programming erased words, erasing a sector, and the boot record, whose image is read back as it was written.
-/
namespace Sys2Proof
namespace Machine

variable {s : State}

/-! ### Little-endian fields of a byte string -/

theorem leBytes_length (n v : Nat) : (leBytes n v).length = n := by
  induction n generalizing v with
  | zero => rfl
  | succ n ih => simp [leBytes, ih]

theorem leBytes_getD (n v i : Nat) (hi : i < n) : (leBytes n v).getD i 0 = BitVec.ofNat 8 (v / 256 ^ i) := by
  induction n generalizing v i with
  | zero => exact absurd hi (Nat.not_lt_zero i)
  | succ n ih =>
    cases i with
    | zero => simp [leBytes]
    | succ i =>
      rw [leBytes, List.getD_cons_succ, ih (v / 256) i (by omega), Nat.div_div_eq_div_mul, ← Nat.pow_succ']

theorem leNat_bound (l : List Byte) : leNat l < 256 ^ l.length := by
  induction l with
  | nil => exact Nat.one_pos
  | cons b r ih =>
    have hb : b.toNat < 256 := b.isLt
    rw [leNat, List.length_cons, Nat.pow_succ]
    omega

theorem slice_len (b : List Byte) (a n : Nat) : (slice b a n).length = n := by
  simp only [slice, List.length_append, List.length_replicate, List.length_take, List.length_drop]
  omega

theorem field_bound (b : List Byte) (a n : Nat) : field b a n < 256 ^ n := by
  have h := leNat_bound (slice b a n)
  rwa [slice_len] at h

/-- A slice that lies behind the first part of a byte string. -/
theorem slice_skip {x y : List Byte} {a : Nat} (h : x.length ≤ a) (n : Nat) : slice (x ++ y) a n = slice y (a - x.length) n := by
  unfold slice
  rw [List.drop_append, List.drop_eq_nil_of_le h, List.nil_append]

theorem slice_front {x y : List Byte} {n : Nat} (h : x.length = n) : slice (x ++ y) 0 n = x := by
  subst h
  simp [slice]

theorem field_skip {n a : Nat} (h : n ≤ a) (v m : Nat) (y : List Byte) : field (leBytes n v ++ y) a m = field y (a - n) m := by
  unfold field
  rw [slice_skip (by rw [leBytes_length]; exact h), leBytes_length]

theorem field_front (n v : Nat) (y : List Byte) : field (leBytes n v ++ y) 0 n = v % 256 ^ n := by
  unfold field
  rw [slice_front (leBytes_length n v), leNat_leBytes]

/-! ### The image of a boot record -/

/-- Every field of a boot record fits its place (17 Table 17-3). -/
structure BootRec.Fits (r : BootRec) : Prop where
  seq : r.seq < 2 ^ 32
  stA : r.stA < 256
  stB : r.stB < 256
  conf : r.conf < 256
  trial : r.trial < 256
  boots : r.boots < 256
  result : r.result < 256
  fallback : r.fallback < 256
  count : r.count < 2 ^ 32
  lpcfg : r.lpcfg.length = 16

theorem recOf_fits (b : List Byte) : (recOf b).Fits where
  seq := field_bound b 4 4
  stA := field_bound b 8 1
  stB := field_bound b 9 1
  conf := field_bound b 10 1
  trial := field_bound b 11 1
  boots := field_bound b 12 1
  result := field_bound b 13 1
  fallback := field_bound b 14 1
  count := field_bound b 16 4
  lpcfg := slice_len b 20 16

theorem BootRec.fits_empty : ({} : BootRec).Fits := by constructor <;> decide

theorem State.bootCopy_fits {k : Nat} {r : BootRec} (h : s.bootCopy k = some r) : r.Fits := by
  unfold State.bootCopy at h
  dsimp only at h
  split at h
  · exact Option.some.inj h ▸ recOf_fits _
  · exact absurd h (by simp)

/-- The copy in force is one of the two, and the other has a lower SEQ or none (17 R420). -/
theorem State.recInForce_some {k : Nat} {r : BootRec} (h : s.recInForce = some (k, r)) : (k = 0 ∨ k = 1) ∧ s.bootCopy k = some r := by
  unfold State.recInForce at h
  cases h0 : s.bootCopy 0 with
  | none =>
    cases h1 : s.bootCopy 1 with
    | none => rw [h0, h1] at h; exact absurd h (by simp)
    | some b =>
      rw [h0, h1] at h
      obtain ⟨rfl, rfl⟩ := Prod.mk.inj (Option.some.inj h)
      exact ⟨.inr rfl, h1⟩
  | some a =>
    cases h1 : s.bootCopy 1 with
    | none =>
      rw [h0, h1] at h
      obtain ⟨rfl, rfl⟩ := Prod.mk.inj (Option.some.inj h)
      exact ⟨.inl rfl, h0⟩
    | some b =>
      rw [h0, h1] at h
      dsimp only at h
      split at h
      · obtain ⟨rfl, rfl⟩ := Prod.mk.inj (Option.some.inj h)
        exact ⟨.inr rfl, h1⟩
      · obtain ⟨rfl, rfl⟩ := Prod.mk.inj (Option.some.inj h)
        exact ⟨.inl rfl, h0⟩

theorem State.recInForce_none (h : s.recInForce = none) : s.bootCopy 0 = none ∧ s.bootCopy 1 = none := by
  unfold State.recInForce at h
  cases h0 : s.bootCopy 0 with
  | none =>
    cases h1 : s.bootCopy 1 with
    | none => exact ⟨rfl, rfl⟩
    | some b => rw [h0, h1] at h; exact absurd h (by simp)
  | some a =>
    cases h1 : s.bootCopy 1 with
    | none => rw [h0, h1] at h; exact absurd h (by simp)
    | some b =>
      rw [h0, h1] at h
      dsimp only at h
      split at h <;> exact absurd h (by simp)

theorem State.bootRec_fits (s : State) : s.bootRec.Fits := by
  unfold State.bootRec
  cases h : s.recInForce with
  | none => exact BootRec.fits_empty
  | some x =>
    obtain ⟨k, r⟩ := x
    exact State.bootCopy_fits (State.recInForce_some h).2

/-- What a copy of the boot record holds once it is written: the body, its CRC, SEQ again and zeros (17 R420). -/
def bootImage (r : BootRec) : List Byte :=
  (recBody r ++ leBytes 4 (crc32 (recBody r)).toNat) ++ (leBytes 4 r.seq ++ List.replicate 28 0)

theorem recBody_length (r : BootRec) : (recBody r).length = 4060 := by
  simp only [recBody, List.length_append, leBytes_length, slice_len, List.length_replicate]

theorem bootBody_length (r : BootRec) : (recBody r ++ leBytes 4 (crc32 (recBody r)).toNat).length = 4064 := by
  rw [List.length_append, recBody_length, leBytes_length]

theorem bootTail_length (r : BootRec) : (leBytes 4 r.seq ++ List.replicate 28 (0 : Byte)).length = 32 := by
  rw [List.length_append, leBytes_length, List.length_replicate]

theorem bootImage_length (r : BootRec) : (bootImage r).length = 4096 := by
  unfold bootImage
  rw [List.length_append, bootBody_length, bootTail_length]

theorem bootImage_body (r : BootRec) {i : Nat} (hi : i < 4064) : (bootImage r).getD i 0 = (recBody r ++ leBytes 4 (crc32 (recBody r)).toNat).getD i 0 :=
  List.getD_append _ _ _ _ (by rwa [bootBody_length])

theorem bootImage_tail (r : BootRec) {i : Nat} (hi : 4064 ≤ i) : (bootImage r).getD i 0 = (leBytes 4 r.seq ++ List.replicate 28 0).getD (i - 4064) 0 := by
  have h := List.getD_append_right (recBody r ++ leBytes 4 (crc32 (recBody r)).toNat) (leBytes 4 r.seq ++ List.replicate 28 0) 0 i (by rwa [bootBody_length])
  rwa [bootBody_length] at h

theorem bit_bitIf_byte (b : Bool) : bit (bitIf b 0 % 256 ^ 1) 0 = b := by cases b <;> rfl

theorem slice_lpcfg {l : List Byte} (h : l.length = 16) : slice l 0 16 = l := by
  have hfront := slice_front (y := []) h
  rwa [List.append_nil] at hfront

/-- The fields of a boot record, front to back, and what follows them. -/
theorem recOf_image {r : BootRec} (hr : r.Fits) : recOf (bootImage r) = r := by
  obtain ⟨hseq, hstA, hstB, hconf, htrial, hboots, hresult, hfallback, hcount, hlpcfg⟩ := hr
  obtain ⟨rest, hrest⟩ : ∃ rest, bootImage r = leBytes 4 0x4A524252 ++ (leBytes 4 r.seq ++ (leBytes 1 r.stA ++ (leBytes 1 r.stB ++ (leBytes 1 r.conf
      ++ (leBytes 1 r.trial ++ (leBytes 1 r.boots ++ (leBytes 1 r.result ++ (leBytes 1 r.fallback ++ (leBytes 1 (bitIf r.runDef 0) ++ (leBytes 4 r.count
      ++ (r.lpcfg ++ rest))))))))))) := by
    refine ⟨List.replicate 4024 0 ++ (leBytes 4 (crc32 (recBody r)).toNat ++ (leBytes 4 r.seq ++ List.replicate 28 0)), ?_⟩
    unfold bootImage
    conv_lhs => enter [1, 1]; unfold recBody
    simp only [List.append_assoc, slice_lpcfg hlpcfg]
  have hslice : slice (bootImage r) 20 16 = r.lpcfg := by
    rw [hrest]
    simp only [slice_skip, leBytes_length, Nat.reduceLeDiff, Nat.reduceSub, slice_front hlpcfg]
  unfold recOf
  rw [hslice, hrest]
  simp only [field_skip, field_front, Nat.reduceLeDiff, Nat.reduceSub, bit_bitIf_byte]
  rw [Nat.mod_eq_of_lt (show r.seq < 256 ^ 4 from hseq), Nat.mod_eq_of_lt (show r.stA < 256 ^ 1 from hstA), Nat.mod_eq_of_lt (show r.stB < 256 ^ 1 from hstB),
    Nat.mod_eq_of_lt (show r.conf < 256 ^ 1 from hconf), Nat.mod_eq_of_lt (show r.trial < 256 ^ 1 from htrial), Nat.mod_eq_of_lt (show r.boots < 256 ^ 1 from hboots),
    Nat.mod_eq_of_lt (show r.result < 256 ^ 1 from hresult), Nat.mod_eq_of_lt (show r.fallback < 256 ^ 1 from hfallback), Nat.mod_eq_of_lt (show r.count < 256 ^ 4 from hcount)]

theorem bootImage_valid {r : BootRec} (hseq : r.seq < 2 ^ 32) : recValid (bootImage r) = true := by
  obtain ⟨front, hfront⟩ : ∃ front, recBody r = leBytes 4 0x4A524252 ++ (leBytes 4 r.seq ++ front) := by
    unfold recBody
    simp only [List.append_assoc]
    exact ⟨_, rfl⟩
  obtain ⟨rest, hrest⟩ : ∃ rest, bootImage r = recBody r ++ rest := ⟨_, List.append_assoc ..⟩
  rw [hfront, List.append_assoc, List.append_assoc] at hrest
  have hmagic : field (bootImage r) 0 4 = 0x4A524252 := by
    rw [hrest, field_front]
    exact Nat.mod_eq_of_lt (by decide)
  have hfirst : field (bootImage r) 4 4 = r.seq := by
    rw [hrest, field_skip (Nat.le_refl 4), Nat.sub_self, field_front]
    exact Nat.mod_eq_of_lt hseq
  have hbody : (bootImage r).take 4060 = recBody r := by
    unfold bootImage
    rw [List.append_assoc]
    exact List.take_left' (recBody_length r)
  have hcrc : field (bootImage r) 4060 4 = (crc32 (recBody r)).toNat := by
    unfold field bootImage
    rw [List.append_assoc, slice_skip (by rw [recBody_length]), recBody_length, Nat.sub_self, slice_front (leBytes_length _ _), leNat_leBytes]
    exact Nat.mod_eq_of_lt (crc32 (recBody r)).isLt
  have hlast : field (bootImage r) 4064 4 = r.seq := by
    unfold field bootImage
    rw [slice_skip (by rw [bootBody_length]), bootBody_length, Nat.sub_self, slice_front (leBytes_length _ _), leNat_leBytes]
    exact Nat.mod_eq_of_lt hseq
  unfold recValid
  rw [hmagic, hbody, hcrc, hfirst, hlast]
  simp

/-! ### Erased words and sectors -/

theorem cellTake_length (d : Nat → Byte) (n : Nat) (l : List Host.Cell) (a : Nat) (acc : List Byte) : (cellTake d n l a acc).length = acc.length + n := by
  induction n generalizing l a acc with
  | zero => cases l <;> rfl
  | succ n ih =>
    cases l with
    | nil => unfold cellTake; rw [ih]; simp; omega
    | cons x r =>
      unfold cellTake
      split
      all_goals rw [ih]; simp; omega

theorem State.peek_length (s : State) (a n : Nat) : (s.peek a n).length = n := by
  unfold State.peek cellRead
  rw [List.length_reverse, cellTake_length]
  exact Nat.zero_add n

theorem State.peek_eq (h : Memory.wf s.mem = true) (a n : Nat) : s.peek a n = (List.range n).map (fun i => s.byte (a + i)) := cellRead_eq a n h

theorem mergeFlash_erased (i : Nat) {l x : List Byte} (hlen : l.length = x.length) (h : ∀ o ∈ l, o = 0xFF) : mergeFlash i l x = x := by
  induction l generalizing i x with
  | nil => cases x with
    | nil => rfl
    | cons b x => simp at hlen
  | cons o l ih => cases x with
    | nil => simp at hlen
    | cons b x =>
      rw [mergeFlash, if_pos (h o List.mem_cons_self), ih (i + 1) (by simpa using hlen) (fun y hy => h y (List.mem_cons_of_mem _ hy))]

/-- Words that are erased take what is programmed into them (17 R416). -/
theorem State.program32_erased {a : Nat} {x : List Byte} (h : s.erased a x.length = true) :
    s.program32 a x = { (s.poke a x).touchFlash a false with free := s.free + x.length } := by
  unfold State.program32
  dsimp only
  rw [mergeFlash_erased _ (s.peek_length _ _) (fun o ho => by simpa using List.all_eq_true.mp h o ho)]
  rfl

/-- Addresses outside the images and the download sector (17 R417, R425). -/
theorem State.touchFlash_other {a : Nat} (hA : ¬(0x20000 ≤ a ∧ a < 0x320000)) (hB : ¬(0x620000 ≤ a ∧ a < 0x7A0000)) {e : Bool} (hdl : a / 4096 ≠ 0x12) :
    s.touchFlash a e = s := by
  unfold State.touchFlash
  rw [decide_eq_false hA, decide_eq_false hB, if_neg (fun h => hdl h.2), if_neg (fun h => hdl h.2), Bool.not_false, Bool.and_true, Bool.and_true]

/-! ### A boot record is written -/

/-- The copy at `base` has been erased. -/
structure CopyErased (s t : State) (base : Nat) : Prop where
  byte : ∀ b, t.byte b = if base ≤ b ∧ b < base + 4096 then 0xFF else s.byte b
  wf : Memory.wf t.mem = true
  frame : t = { s with mem := { s.mem with bytes := t.mem.bytes }, rep := t.rep }
  counted : Counted s t [key 0x28E0 7]

theorem recBase_other {k : Nat} (hk : k ≤ 1) : ¬(0x20000 ≤ recBase k ∧ recBase k < 0x320000) ∧ ¬(0x620000 ≤ recBase k ∧ recBase k < 0x7A0000)
    ∧ recBase k / 4096 ≠ 0x12 ∧ recBase k % 4096 = 0 := by
  unfold recBase
  omega

theorem State.copy_erased (h : Memory.wf s.mem = true) {k : Nat} (hk : k ≤ 1) : CopyErased s (s.eraseSector (recBase k)) (recBase k) := by
  obtain ⟨hA, hB, hdl, hpage⟩ := recBase_other hk
  refine ⟨fun b => s.byte_eraseSector hpage b, poke_wf s _ _ h, ?_, s.eraseSector_counted _⟩
  unfold State.eraseSector
  rw [State.touchFlash_other hA hB hdl]
  rfl

/-- The copy at `base` holds the bytes `x` from `base` on, over what `s` holds. -/
structure CopyProgrammed (s t : State) (a : Nat) (x : List Byte) : Prop where
  byte : ∀ b, t.byte b = if a ≤ b ∧ b < a + x.length then x.getD (b - a) 0 else s.byte b
  wf : Memory.wf t.mem = true
  frame : t = { s with mem := { s.mem with bytes := t.mem.bytes }, free := t.free }

theorem State.copy_programmed (h : Memory.wf s.mem = true) {a : Nat} {x : List Byte} (hlow : 0x10000 ≤ a) (hhigh : a < 0x12000)
    (herased : ∀ b, a ≤ b → b < a + x.length → s.byte b = 0xFF) : CopyProgrammed s (s.program32 a x) a x := by
  have her : s.erased a x.length = true := by
    unfold State.erased
    rw [State.peek_eq h, List.all_eq_true]
    intro o ho
    obtain ⟨i, hi, rfl⟩ := List.mem_map.mp ho
    rw [List.mem_range] at hi
    rw [herased (a + i) (by omega) (by omega)]
    rfl
  have hprog : s.program32 a x = { s.poke a x with free := s.free + x.length } := by
    rw [State.program32_erased her, State.touchFlash_other (by omega) (by omega) (by omega)]
  rw [hprog]
  exact ⟨fun b => s.byte_poke a x b, poke_wf s a x h, rfl⟩

/-- The boot record that a write of it leaves: the other fields stand and SEQ moves on (17 R420). -/
def State.nextRec (s : State) (f : BootRec → BootRec) : BootRec := { f s.bootRec with seq := (s.bootRec.seq + 1) % 2 ^ 32 }

/-- The copy that a write of the boot record takes: the one that is not in force (17 R420). -/
def State.nextCopy (s : State) : Nat := match s.recInForce with | some (k, _) => 1 - k | none => 0

/-- Both parts of a copy have been programmed. -/
def State.imaged (s : State) (k : Nat) (r : BootRec) : State :=
  ((s.eraseSector (recBase k)).program32 (recBase k) (recBody r ++ leBytes 4 (crc32 (recBody r)).toNat)).program32 (recBase k + 4064)
    (leBytes 4 r.seq ++ List.replicate 28 0)

theorem State.writeBootRec_eq (s : State) (f : BootRec → BootRec) : s.writeBootRec f = s.imaged s.nextCopy (s.nextRec f) := rfl

/-- A copy of the boot record has been written, and no other byte. -/
structure CopyWritten (s t : State) (k : Nat) (r : BootRec) : Prop where
  byte : ∀ b, t.byte b = if recBase k ≤ b ∧ b < recBase k + 4096 then (bootImage r).getD (b - recBase k) 0 else s.byte b
  wf : Memory.wf t.mem = true
  frame : t = { s with mem := { s.mem with bytes := t.mem.bytes }, free := t.free, rep := t.rep }
  counted : Counted s t [key 0x28E0 7]

theorem State.imaged_written (h : Memory.wf s.mem = true) {k : Nat} (hk : k ≤ 1) (r : BootRec) : CopyWritten s (s.imaged k r) k r := by
  have hbase : 0x10000 ≤ recBase k ∧ recBase k ≤ 0x11000 := by unfold recBase; omega
  obtain ⟨hlow, hhigh⟩ := hbase
  unfold State.imaged
  have herase := State.copy_erased h hk
  generalize s.eraseSector (recBase k) = u at *
  obtain ⟨hubyte, huwf, huframe, hucount⟩ := herase
  have hbody := State.copy_programmed (x := recBody r ++ leBytes 4 (crc32 (recBody r)).toNat) huwf hlow (by omega)
    (fun b h1 h2 => (hubyte b).trans (if_pos ⟨h1, by rw [bootBody_length] at h2; omega⟩))
  generalize u.program32 (recBase k) (recBody r ++ leBytes 4 (crc32 (recBody r)).toNat) = v at *
  obtain ⟨hvbyte, hvwf, hvframe⟩ := hbody
  rw [bootBody_length] at hvbyte
  have htail := State.copy_programmed (x := leBytes 4 r.seq ++ List.replicate 28 0) (a := recBase k + 4064) hvwf (by omega) (by omega) (fun b h1 h2 => by
    rw [bootTail_length] at h2
    rw [hvbyte, if_neg (by omega), hubyte, if_pos (by omega)])
  generalize v.program32 (recBase k + 4064) (leBytes 4 r.seq ++ List.replicate 28 0) = w at *
  obtain ⟨hwbyte, hwwf, hwframe⟩ := htail
  rw [bootTail_length] at hwbyte
  refine ⟨fun b => ?_, hwwf, ?_, hucount.of_rep (by rw [hwframe, hvframe])⟩
  · rw [hwbyte, hvbyte, hubyte]
    by_cases hin : recBase k ≤ b ∧ b < recBase k + 4096
    · rw [if_pos hin, if_pos hin]
      by_cases hend : recBase k + 4064 ≤ b
      · have hlast : recBase k + 4064 ≤ b ∧ b < recBase k + 4064 + 32 := ⟨hend, by omega⟩
        have hoff : b - recBase k - 4064 = b - (recBase k + 4064) := by omega
        rw [if_pos hlast, bootImage_tail r (i := b - recBase k) (by omega), hoff]
      · have hlast : ¬(recBase k + 4064 ≤ b ∧ b < recBase k + 4064 + 32) := fun h => hend h.1
        have hfirst : recBase k ≤ b ∧ b < recBase k + 4064 := ⟨hin.1, Nat.not_le.mp hend⟩
        rw [if_neg hlast, if_pos hfirst]
        exact (bootImage_body r (i := b - recBase k) (by omega)).symm
    · rw [if_neg (by omega), if_neg (by omega), if_neg hin, if_neg hin]
  · rw [hwframe, hvframe, huframe]

/-- The copy that has been written reads back, and the other one as before (17 R420). -/
theorem CopyWritten.bootCopy {t : State} {k : Nat} {r : BootRec} (h : CopyWritten s t k r) (hwf : Memory.wf s.mem = true) (hr : r.Fits) :
    t.bootCopy k = some r ∧ ∀ j, j ≠ k → t.bootCopy j = s.bootCopy j := by
  constructor
  · have hpeek : t.peek (recBase k) 4096 = bootImage r := by
      rw [State.peek_eq h.wf]
      refine List.ext_getElem (by rw [List.length_map, List.length_range, bootImage_length]) (fun i hi hi' => ?_)
      rw [List.length_map, List.length_range] at hi
      rw [List.getElem_map, List.getElem_range, h.byte, if_pos (by omega), Nat.add_sub_cancel_left, List.getD_eq_getElem _ _ hi']
    unfold State.bootCopy
    dsimp only
    rw [hpeek, if_pos (bootImage_valid hr.seq), recOf_image hr]
  · intro j hj
    have hpeek : t.peek (recBase j) 4096 = s.peek (recBase j) 4096 := by
      rw [State.peek_eq h.wf, State.peek_eq hwf]
      refine List.map_congr_left (fun i hi => ?_)
      rw [List.mem_range] at hi
      rw [h.byte, if_neg]
      unfold recBase
      omega
    unfold State.bootCopy
    rw [hpeek]

theorem State.nextCopy_cases (s : State) : (s.nextCopy = 0 ∧ (s.bootCopy 1 = none ∨ s.bootCopy 1 = some s.bootRec))
    ∨ (s.nextCopy = 1 ∧ s.bootCopy 0 = some s.bootRec) := by
  unfold State.nextCopy State.bootRec
  cases h : s.recInForce with
  | none => exact .inl ⟨rfl, .inl (State.recInForce_none h).2⟩
  | some x =>
    obtain ⟨k, r⟩ := x
    obtain ⟨rfl | rfl, hcopy⟩ := State.recInForce_some h
    · exact .inr ⟨rfl, hcopy⟩
    · exact .inl ⟨rfl, .inr hcopy⟩

/-- What is written is in force: the other copy has none or a lower SEQ (17 R420). -/
theorem CopyWritten.inForce {t : State} {r : BootRec} (h : CopyWritten s t s.nextCopy r) (hwf : Memory.wf s.mem = true) (hr : r.Fits) (hseq : s.bootRec.seq < r.seq) :
    t.bootRec = r := by
  obtain ⟨hself, hother⟩ := h.bootCopy hwf hr
  unfold State.bootRec State.recInForce
  rcases s.nextCopy_cases with ⟨hk, hold⟩ | ⟨hk, hold⟩
  · rw [hk] at hself hother
    rw [hself, hother 1 (by decide)]
    rcases hold with hold | hold
    · rw [hold]
    · rw [hold]
      dsimp only
      rw [if_neg (Nat.lt_asymm hseq)]
  · rw [hk] at hself hother
    rw [hself, hother 0 (by decide), hold]
    dsimp only
    rw [if_pos hseq]

/-! ### The flash commands -/

theorem flashProgram_programs {a : Nat} (ha : s.boot.flashAddr % 0x800000 = a) (hopen : s.flashLocked a = false) (herased : s.erased (a / 32 * 32) 32 = true) :
    Completes .flashProgram s (fun t =>
      (∀ b, t.byte b = if a / 32 * 32 ≤ b ∧ b < a / 32 * 32 + 32 then BitVec.ofNat 8 (s.boot.flashData.toNat / 256 ^ (b - a / 32 * 32)) else s.byte b)
      ∧ t.boot.flashBusy = true ∧ t.boot.flashError = false
      ∧ t = { s with mem := { s.mem with bytes := t.mem.bytes }, boot := { s.boot with flashBusy := true, flashError := false, shipA := t.boot.shipA, shipBull := t.boot.shipBull }
                     free := t.free, out := { s.out with err := false } }) := by
  subst ha
  have hfree : ¬s.flashLocked (s.boot.flashAddr % 0x800000) = true := by simp [hopen]
  generalize hbase : s.boot.flashAddr % 0x800000 / 32 * 32 = base at *
  generalize hdata : leBytes 32 s.boot.flashData.toNat = x
  have hlen : x.length = 32 := by rw [← hdata, leBytes_length]
  have hprog : s.program32 base x = { (s.poke base x).touchFlash base false with free := s.free + x.length } :=
    State.program32_erased (by rwa [hlen])
  have hexec : exec .flashProgram s = .next { s.program32 base x with
      boot := { (s.program32 base x).boot with flashError := false, flashBusy := true }, out := { (s.program32 base x).out with err := false } } := by
    rw [← hbase, ← hdata]
    exact congrArg Host.Outcome.next (if_neg hfree)
  rw [hprog] at hexec
  refine ⟨_, hexec, fun b => ?_, rfl, rfl, ?_⟩
  · refine (s.byte_poke base x b).trans ?_
    rw [hlen]
    refine if_ctx_congr Iff.rfl (fun h => ?_) (fun _ => rfl)
    rw [← hdata]
    exact leBytes_getD 32 _ _ (by omega)
  · have hkept {α : Type} (c : Prop) [Decidable c] (x y : α) : (if false = true ∧ c then x else y) = y := if_neg (fun h => Bool.false_ne_true h.1)
    unfold State.touchFlash
    rw [hkept, hkept]
    rfl

theorem flashErase_erases {a : Nat} (ha : s.boot.flashAddr % 0x800000 = a) (hopen : s.flashLocked a = false) : Completes .flashErase s (fun t =>
    (∀ b, t.byte b = if a / 4096 * 4096 ≤ b ∧ b < a / 4096 * 4096 + 4096 then 0xFF else s.byte b) ∧ Counted s t [key 0x28E0 7]
    ∧ t = { s with mem := { s.mem with bytes := t.mem.bytes }, rep := t.rep, out := { s.out with err := false }
                   boot := { s.boot with flashBusy := true, flashError := false, shipA := t.boot.shipA, shipBull := t.boot.shipBull, dlLen := t.boot.dlLen, dlCrc := t.boot.dlCrc } }) := by
  subst ha
  have hfree : ¬s.flashLocked (s.boot.flashAddr % 0x800000) = true := by simp [hopen]
  refine ⟨_, congrArg Host.Outcome.next (if_neg hfree), fun b => ?_, (s.eraseSector_counted _).of_rep rfl, rfl⟩
  refine (s.byte_poke _ (List.replicate 4096 0xFF) b).trans ?_
  rw [List.length_replicate]
  exact if_ctx_congr Iff.rfl (fun h => List.getD_replicate _ (by omega)) (fun _ => rfl)

theorem bootLpcfgWrite_writes (v : BitVec 128) (hwf : Memory.wf s.mem = true) (hseq : s.bootRec.seq < 0xFFFFFFFF) : Completes (.bootLpcfgWrite v) s (fun t =>
    t.bootRec = { s.bootRec with seq := s.bootRec.seq + 1, lpcfg := leBytes 16 v.toNat } ∧ Memory.wf t.mem = true
    ∧ (∀ b, (b < 0x10000 ∨ 0x12000 ≤ b) → t.byte b = s.byte b) ∧ Counted s t [key 0x28E0 7]
    ∧ t = { s with mem := { s.mem with bytes := t.mem.bytes }, free := t.free, rep := t.rep }) := by
  obtain ⟨hseq32, hstA, hstB, hconf, htrial, hboots, hresult, hfallback, hcount, -⟩ := s.bootRec_fits
  have hnext : s.nextRec (fun r => { r with lpcfg := leBytes 16 v.toNat }) = { s.bootRec with seq := s.bootRec.seq + 1, lpcfg := leBytes 16 v.toNat } := by
    unfold State.nextRec
    rw [Nat.mod_eq_of_lt (by omega)]
  have hfits : ({ s.bootRec with seq := s.bootRec.seq + 1, lpcfg := leBytes 16 v.toNat } : BootRec).Fits :=
    ⟨by show s.bootRec.seq + 1 < 2 ^ 32; omega, hstA, hstB, hconf, htrial, hboots, hresult, hfallback, hcount, leBytes_length 16 _⟩
  have hcopy : s.nextCopy ≤ 1 := by rcases s.nextCopy_cases with ⟨h, -⟩ | ⟨h, -⟩ <;> omega
  have hwritten := State.imaged_written hwf hcopy { s.bootRec with seq := s.bootRec.seq + 1, lpcfg := leBytes 16 v.toNat }
  have hexec : exec (.bootLpcfgWrite v) s = .next (s.imaged s.nextCopy { s.bootRec with seq := s.bootRec.seq + 1, lpcfg := leBytes 16 v.toNat }) := by
    rw [← hnext]
    exact congrArg Host.Outcome.next (s.writeBootRec_eq _)
  refine ⟨_, hexec, hwritten.inForce hwf hfits (Nat.lt_succ_self _), hwritten.wf, fun b hb => ?_, hwritten.counted, hwritten.frame⟩
  rw [hwritten.byte, if_neg]
  unfold recBase
  omega

/-- Settles O54: the bytes that a command leaves are those of `byte_poke` and `byte_eraseSector`; the copy of the boot record that is written is whole,
reads back and has the higher SEQ. -/
theorem flashCommands : Obligations.FlashCommands := by
  unfold Obligations.FlashCommands
  intro s
  refine ⟨fun hlock => ⟨⟨_, congrArg Host.Outcome.next (if_pos hlock), rfl⟩, _, congrArg Host.Outcome.next (if_pos hlock), rfl⟩, fun hopen => ?_,
    ⟨_, rfl, rfl⟩, fun v hwf hseq => ?_⟩
  · exact ⟨flashProgram_programs rfl hopen, flashErase_erases rfl hopen⟩
  · exact bootLpcfgWrite_writes v hwf hseq

end Machine
end Sys2Proof
end

section
/-!
PROOF. Packages (16 R403): the segments of an IMAGE, the verification and the removal of a package.
-/
namespace Sys2Proof
namespace Machine

variable {s : State} {p : Nat}

theorem State.pk_of_upd {t : State} {f : Package → Package} (h : t.pkg = s.pkg.upd {} p f) (q : Nat) :
    t.pk q = if q = p then f (s.pk p) else s.pk q := by
  unfold State.pk
  rw [h]
  exact Tab.at_upd ..

/-- An IMAGE segment may be taken: the slot starts a transfer at offset 0, or goes on where it stands (16 Table 16-13). -/
def Package.takes (k : Package) (off : Nat) : Prop := off = 0 ∨ (k.state = .loading ∧ off = k.size)

/-- The slot as a segment that starts at `off` finds it. -/
def State.segmentOpen (s : State) (p off : Nat) : State := s.updPk p (fun k => { k with state := .loading, size := off, result := 0 })

/-- The end of a segment that has been written (16 R403). -/
def State.segmentDone (s : State) (p size : Nat) (last : Bool) : State :=
  if last then (s.updPk p (fun k => { k with size := size })).startLong 3 p 0 else s.updPk p (fun k => { k with size := size })

theorem notReady_cases {k : Package} (hinst : k.state ≠ .installed) (hver : k.state ≠ .verified) :
    k.state = .empty ∨ k.state = .failed ∨ k.state = .loading := by
  cases hk : k.state <;> simp_all

theorem State.packageSegment_refused (h : (s.pk p).state = .installed ∨ (s.pk p).state = .verified) (off : Nat) (last : Bool) (d : List Byte) :
    s.packageSegment p off last d = s.refuse := by
  unfold State.packageSegment
  dsimp only
  rcases h with h | h <;> rw [h] <;> rfl

theorem State.packageSegment_misplaced (hinst : (s.pk p).state ≠ .installed) (hver : (s.pk p).state ≠ .verified) {off : Nat} (hoff : off ≠ 0)
    (hnot : (s.pk p).state ≠ .loading ∨ off ≠ (s.pk p).size) (last : Bool) (d : List Byte) : s.packageSegment p off last d = (s, .abort 0x08000000) := by
  unfold State.packageSegment
  rcases notReady_cases hinst hver with h | h | h
  · simp [h, hoff]
  · simp [h, hoff]
  · have hsize : off ≠ (s.pk p).size := hnot.resolve_left (fun hl => hl h)
    simp [h, hoff, hsize]

/-- A segment that may be taken ends by the outcome of its write (16 R403). -/
theorem State.packageSegment_written (hinst : (s.pk p).state ≠ .installed) (hver : (s.pk p).state ≠ .verified) {off : Nat} (htakes : (s.pk p).takes off)
    {d : List Byte} {v : State} {ok : Bool}
    (hwrite : (if d = [] then (s.segmentOpen p off, true) else (s.segmentOpen p off).writeAs (s.pk p).station ((s.pk p).base + off) d) = (v, ok)) (last : Bool) :
    s.packageSegment p off last d = if ok then (v.segmentDone p (off + d.length) last, .ok) else (v, .abort 0x06090030) := by
  unfold State.segmentOpen at hwrite
  unfold State.packageSegment
  dsimp only
  have hplace : ¬(((s.pk p).state == .empty || (s.pk p).state == .failed) = false ∧ (s.pk p).state ≠ .loading)
      ∧ ¬(off ≠ 0 ∧ (((s.pk p).state == .empty || (s.pk p).state == .failed) = true ∨ off ≠ (s.pk p).size)) := by
    rcases notReady_cases hinst hver with h | h | h <;> rcases htakes with hz | ⟨hl, hsize⟩ <;> simp_all
  rw [if_neg hplace.1, if_neg hplace.2, hwrite]
  cases ok <;> rfl

theorem State.segmentDone_eq (s : State) (p size : Nat) (last : Bool) : s.segmentDone p size last = { s with
    pkg := s.pkg.upd {} p (fun k => { k with size := size })
    od := { s.od with longop := if last then some { code := 3, inst := p, arg := 0, started := s.clk.ref } else s.od.longop } } := by
  unfold State.segmentDone
  cases last <;> rfl

/-- The slot after a segment of `n` bytes at `off`. -/
theorem State.segmentDone_pk {v : State} {off n : Nat} (hv : v.pkg = (s.segmentOpen p off).pkg) (last : Bool) (q : Nat) :
    (v.segmentDone p (off + n) last).pk q = if q = p then { s.pk p with state := .loading, size := off + n, result := 0 } else s.pk q := by
  have hopen (k : Nat) : v.pk k = if k = p then { s.pk p with state := .loading, size := off, result := 0 } else s.pk k :=
    State.pk_of_upd (s := s) (f := fun k => { k with state := .loading, size := off, result := 0 }) hv k
  rw [State.segmentDone_eq]
  refine (State.pk_of_upd (s := v) (f := fun k => { k with size := off + n }) rfl q).trans ?_
  split
  · rw [hopen, if_pos rfl]
  · next hq => rw [hopen, if_neg hq]

theorem State.check_segmentOpen (s : State) (p off : Nat) (req : Requester) (st a n : Nat) (acc : Access) :
    (s.segmentOpen p off).check req st a n acc = s.check req st a n acc := rfl

/-- A write to LPDDR5X within the usable range, with no poison and an empty Type Case (06 R170). -/
theorem State.lpAccess_writes {st a : Nat} {d : List Byte} (hup : s.mem.lpFailed = false) (hd : d ≠ []) (hfits : a - lpBase + d.length ≤ s.mem.lpUsable)
    (hpoison : s.mem.lpPoison = []) : s.lpAccess st a (.write d) .none 0 = ((s.lookup st (a / 64) 0 true).poke a d, some []) := by
  have hlen : 0 < d.length := List.length_pos_of_ne_nil hd
  unfold State.lpAccess
  have hclean : s.caseErrors a .none = (s, true) := rfl
  rw [if_neg (by simp [hup]), if_neg (by simp only [fabricLen]; omega), hclean]
  dsimp only [fabricWrites]
  have hlook := s.lookup_eq st (a / 64) 0 true
  generalize s.lookup st (a / 64) 0 true = u at *
  have hnone : u.mem.lpPoison = [] := by rw [hlook]; exact hpoison
  rw [if_neg (by decide), if_neg (by simp), if_neg (by decide), if_neg (by simp), hnone, State.poisonable_write (by simp)]
  rw [← hnone]

theorem State.writeAs_lpddr {st a : Nat} {d : List Byte} (hregion : regionOf a = some .lpddr) (hup : s.mem.lpFailed = false) (hd : d ≠ [])
    (hfits : a - lpBase + d.length ≤ s.mem.lpUsable) (hpoison : s.mem.lpPoison = []) (hcheck : s.check (.press 1) st a d.length .write = none) :
    s.writeAs st a d = ((s.lookup st (a / 64) 0 true).poke a d, true) := by
  have hmem : s.memAccess st a (.write d) .none 0 = ((s.lookup st (a / 64) 0 true).poke a d, some []) := by
    unfold State.memAccess
    rw [hregion]
    exact State.lpAccess_writes hup hd hfits hpoison
  unfold State.writeAs
  dsimp only
  rw [hcheck, hmem]

theorem State.writeAs_refused {st a l cause : Nat} {d : List Byte} (hcheck : s.check (.press 1) st a d.length .write = some (l, cause)) :
    s.writeAs st a d = (s.violation (.press 1) st cause l 1 d.length (s.targetOwner l) 0, false) := by
  unfold State.writeAs
  dsimp only
  rw [hcheck]

theorem State.violation_seq (s : State) (req : Requester) (st cause a access size owner detail : Nat) :
    (s.violation req st cause a access size owner detail).ref.seq = (s.ref.seq + 1) % 2 ^ 32 := by
  unfold State.violation
  dsimp only
  split <;> rfl

theorem packageImageSegment_exec {p : Fin 64} (hans : s.answers) {o : BitVec 32} {l : Bool} {d : List Byte} {r : State × Resp}
    (h : s.packageSegment p o.toNat l d = r) : exec (.packageImageSegment p o l d) s = .next (r.1.answer r.2) :=
  congrArg Host.Outcome.next ((State.served_answers hans _ _).trans (by rw [h]))

theorem packageRemove_empties {p : Fin 64} (hans : s.answers)
    (hidle : ∀ st, st < 32 → s.stNum st 0x20 = p.val → s.stState st ≠ .admitting ∧ s.stState st ≠ .draining) : Completes (.packageRemove p) s (fun t =>
      t.pk p = { s.pk p with state := .empty, size := 0, result := 0 } ∧ (∀ q, q ≠ p.val → t.pk q = s.pk q)
      ∧ t = { s with pkg := t.pkg, out := { s.out with resp := some .ok } }) := by
  have hfree : ¬((List.range 32).any (fun st => s.stNum st 0x20 == p.val && (s.stState st == .admitting || s.stState st == .draining))) = true := by
    rw [List.any_eq_true]
    rintro ⟨st, hst, hruns⟩
    simp only [Bool.and_eq_true, Bool.or_eq_true, beq_iff_eq] at hruns
    obtain ⟨hadm, hdrain⟩ := hidle st (List.mem_range.mp hst) hruns.1
    exact hruns.2.elim hadm hdrain
  have hpk := fun q => State.pk_of_upd (s := s) (t := (s.updPk p (fun k => { k with state := .empty, size := 0, result := 0 })).answer .ok)
    (f := fun k => { k with state := .empty, size := 0, result := 0 }) rfl q
  refine ⟨_, congrArg Host.Outcome.next ((State.served_answers hans _ _).trans ?_), (hpk p).trans (if_pos rfl), fun q hq => (hpk q).trans (if_neg hq), rfl⟩
  unfold State.packageRemove
  rw [if_neg hfree]

theorem packageImageSegment_empty {p : Fin 64} (hans : s.answers) (hinst : (s.pk p).state ≠ .installed) (hver : (s.pk p).state ≠ .verified)
    {o : BitVec 32} (l : Bool) (htakes : (s.pk p).takes o.toNat) : Completes (.packageImageSegment p o l []) s (fun t =>
      t.pk p = { s.pk p with state := .loading, size := o.toNat, result := 0 } ∧ (∀ q, q ≠ p.val → t.pk q = s.pk q)
      ∧ t.od.longop = (if l then some { code := 3, inst := p, arg := 0, started := s.clk.ref } else none)
      ∧ t = { s with pkg := t.pkg, od := { s.od with longop := t.od.longop }, out := { s.out with resp := some .ok } }) := by
  have hseg := State.packageSegment_written hinst hver htakes (d := []) (if_pos rfl) l
  have hpk := State.segmentDone_pk (s := s) (p := p) (v := s.segmentOpen p o.toNat) (off := o.toNat) (n := 0) rfl l
  have hnone : s.od.longop = none := hans.2.1
  refine ⟨_, packageImageSegment_exec hans hseg, (hpk p).trans (if_pos rfl), fun q hq => (hpk q).trans (if_neg hq), ?_⟩
  rw [if_pos rfl, State.segmentDone_eq]
  change (if l then _ else s.od.longop) = _ ∧ _
  rw [hnone]
  exact ⟨rfl, rfl⟩

theorem packageImageSegment_stores {p : Fin 64} (hans : s.answers) (hinst : (s.pk p).state ≠ .installed) (hver : (s.pk p).state ≠ .verified)
    {o : BitVec 32} (l : Bool) {d : List Byte} (htakes : (s.pk p).takes o.toNat) (hd : d ≠ []) (hregion : regionOf ((s.pk p).base + o.toNat) = some .lpddr)
    (hup : s.mem.lpFailed = false) (hfits : (s.pk p).base + o.toNat - lpBase + d.length ≤ s.mem.lpUsable) (hpoison : s.mem.lpPoison = []) (hlines : s.mem.lines = [])
    (hcheck : s.check (.press 1) (s.pk p).station ((s.pk p).base + o.toNat) d.length .write = none) : Completes (.packageImageSegment p o l d) s (fun t =>
        t.pk p = { s.pk p with state := .loading, size := o.toNat + d.length, result := 0 } ∧ (∀ q, q ≠ p.val → t.pk q = s.pk q)
        ∧ (∀ a, t.byte a = if (s.pk p).base + o.toNat ≤ a ∧ a < (s.pk p).base + o.toNat + d.length then d.getD (a - ((s.pk p).base + o.toNat)) 0 else s.byte a)
        ∧ t.od.longop = (if l then some { code := 3, inst := p, arg := 0, started := s.clk.ref } else none)
        ∧ t = { s with pkg := t.pkg, mem := { s.mem with bytes := t.mem.bytes, lines := t.mem.lines, lpPoison := [] }, od := { s.od with longop := t.od.longop }
                       out := { s.out with resp := some .ok } }) := by
  generalize hbase : (s.pk p).base + o.toNat = a at *
  have hnone : s.od.longop = none := hans.2.1
  obtain ⟨u, hu, hpkg, huframe⟩ : ∃ u : State, s.segmentOpen p o.toNat = u ∧ u.pkg = (s.segmentOpen p o.toNat).pkg
      ∧ u = { s with pkg := u.pkg } := ⟨_, rfl, rfl, rfl⟩
  have hwrite : u.writeAs (s.pk p).station a d = ((u.lookup (s.pk p).station (a / 64) 0 true).poke a d, true) := by
    refine State.writeAs_lpddr hregion ?_ hd ?_ ?_ ?_
    · rw [huframe]; exact hup
    · rw [huframe]; exact hfits
    · rw [huframe]; exact hpoison
    · rw [← hu, State.check_segmentOpen]; exact hcheck
  have hlook := u.lookup_eq (s.pk p).station (a / 64) 0 true
  rw [State.lookup_quiet (by rw [huframe]; exact hlines)] at hlook
  generalize u.lookup (s.pk p).station (a / 64) 0 true = w at *
  have hseg := State.packageSegment_written hinst hver htakes (v := w.poke a d) (ok := true)
    ((if_neg hd).trans (by rw [hu, hbase, hwrite])) l
  rw [if_pos rfl, State.segmentDone_eq] at hseg
  have hpk (q : Nat) := State.segmentDone_pk (s := s) (p := p) (v := w.poke a d) (off := o.toNat) (n := d.length)
    (by rw [hlook]; exact hpkg) l q
  rw [State.segmentDone_eq] at hpk
  refine ⟨_, packageImageSegment_exec hans hseg, (hpk p).trans (if_pos rfl), fun q hq => (hpk q).trans (if_neg hq), fun b => ?_, ?_, ?_⟩
  · refine (w.byte_poke a d b).trans ?_
    rw [hlook, huframe]
    rfl
  · rw [hlook, huframe]
    change (if l then _ else s.od.longop) = _
    rw [hnone]
    rfl
  · rw [hlook, huframe]
    rw [← hpoison]
    rfl

theorem packageImageSegment_violates {p : Fin 64} (hans : s.answers) (hinst : (s.pk p).state ≠ .installed) (hver : (s.pk p).state ≠ .verified)
    {o : BitVec 32} (l : Bool) {d : List Byte} {x : Nat × Nat} (htakes : (s.pk p).takes o.toNat) (hd : d ≠ [])
    (hcheck : s.check (.press 1) (s.pk p).station ((s.pk p).base + o.toNat) d.length .write = some x) : Completes (.packageImageSegment p o l d) s (fun t =>
        t.out.resp = some (.abort 0x06090030) ∧ t.mem = s.mem ∧ (∀ q, q ≠ p.val → t.pk q = s.pk q) ∧ t.ref.seq = (s.ref.seq + 1) % 2 ^ 32) := by
  obtain ⟨line, cause⟩ := x
  obtain ⟨u, hu, hchecku, hpk, hmem, href⟩ : ∃ u : State, s.segmentOpen p o.toNat = u
      ∧ u.check (.press 1) (s.pk p).station ((s.pk p).base + o.toNat) d.length .write = some (line, cause)
      ∧ (∀ q, u.pk q = if q = p.val then { s.pk p with state := .loading, size := o.toNat, result := 0 } else s.pk q) ∧ u.mem = s.mem ∧ u.ref = s.ref :=
    ⟨_, rfl, hcheck, fun q => State.pk_of_upd (s := s) (f := fun k => { k with state := .loading, size := o.toNat, result := 0 }) rfl q, rfl, rfl⟩
  have hseg := State.packageSegment_written hinst hver htakes (ok := false) ((if_neg hd).trans ((congrArg (State.writeAs · _ _ _) hu).trans
    (State.writeAs_refused hchecku))) l
  rw [if_neg Bool.false_ne_true] at hseg
  have hframe := u.violation_eq (.press 1) (s.pk p).station cause line 1 d.length (u.targetOwner line) 0
  have hseq := u.violation_seq (.press 1) (s.pk p).station cause line 1 d.length (u.targetOwner line) 0
  generalize u.violation (.press 1) (s.pk p).station cause line 1 d.length (u.targetOwner line) 0 = w at *
  refine ⟨_, packageImageSegment_exec hans hseg, rfl, ?_, fun q hq => ?_, ?_⟩
  · change w.mem = s.mem
    rw [hframe]
    exact hmem
  · have hwpk : w.pk q = u.pk q := by rw [hframe]; rfl
    exact hwpk.trans ((hpk q).trans (if_neg hq))
  · change w.ref.seq = _
    rw [hseq, href]

/-- Settles O56: a segment that may be taken ends by the outcome of its write (`packageSegment_written`), and every other request meets the first rule that refuses it. -/
theorem packages : Obligations.Packages := by
  unfold Obligations.Packages
  intro s p hans
  have htakes {o : BitVec 32} (h : o = 0 ∨ ((s.pk p).state = .loading ∧ o.toNat = (s.pk p).size)) : (s.pk p).takes o.toNat :=
    h.imp_left (fun h => by rw [h]; rfl)
  refine ⟨fun hready => ⟨fun o l d => ?_, ?_⟩, fun hinst hver => ⟨?_, fun o l d ho hnot => ?_, fun o l hmay => packageImageSegment_empty hans hinst hver l (htakes hmay),
    fun o l d hmay hd hregion hup hfits hpoison hlines hcheck =>
      packageImageSegment_stores hans hinst hver l (htakes hmay) hd hregion hup hfits hpoison hlines hcheck,
    fun o l d x hmay hd hcheck => packageImageSegment_violates hans hinst hver l (htakes hmay) hd hcheck⟩, packageRemove_empties hans, fun st hst hpkg hruns => ?_⟩
  · exact ⟨_, packageImageSegment_exec hans (State.packageSegment_refused hready _ _ _), rfl⟩
  · refine ⟨_, congrArg Host.Outcome.next ((State.served_answers hans _ _).trans ?_), rfl⟩
    have hpkg : pkgReady (s.pk p).state = true := by rcases hready with h | h <;> rw [h] <;> rfl
    unfold State.packageVerify
    rw [if_pos hpkg]
    rfl
  · refine ⟨_, congrArg Host.Outcome.next ((State.served_answers hans _ _).trans ?_), rfl⟩
    have hpkg : ¬pkgReady (s.pk p).state = true := by
      rcases notReady_cases hinst hver with h | h | h <;> rw [h] <;> exact Bool.false_ne_true
    unfold State.packageVerify
    rw [if_neg hpkg]
    rfl
  · exact ⟨_, packageImageSegment_exec hans (State.packageSegment_misplaced hinst hver (toNat_ne_zero ho) hnot l d), rfl⟩
  · refine ⟨_, congrArg Host.Outcome.next ((State.served_answers hans _ _).trans ?_), rfl⟩
    have hbusy : (List.range 32).any (fun st => s.stNum st 0x20 == p.val && (s.stState st == .admitting || s.stState st == .draining)) = true := by
      rw [List.any_eq_true]
      refine ⟨st, List.mem_range.mpr hst, ?_⟩
      rcases hruns with h | h <;> simp [hpkg, h]
    unfold State.packageRemove
    rw [if_pos hbusy]
    rfl

end Machine
end Sys2Proof
end

section
/-!
PROOF. Long operations (16 R405, Table 16-14): what starts one, and what each of them leaves when it completes or times out.
-/
namespace Sys2Proof
namespace Machine

variable {s : State}

/-! ### The end of an operation -/

theorem State.endLong_eq (s : State) (o : LongOp) (r : Nat) :
    s.endLong o r = { s with od := { s.od with longop := none }, rep := (s.endLong o r).rep } := rfl

theorem State.endLong_counted (s : State) (o : LongOp) (r : Nat) : Counted s (s.endLong o r) [] :=
  ((Counted.refl s).of_rep (t' := { s with od := { s.od with longop := none } }) rfl).raise _

theorem longOperationComplete_works {o : LongOp} (hop : s.od.longop = some o) (hready : s.longWaits o = false) (ok : Bool) (f : BitVec 16) {t : State} {good : Bool}
    (hwork : s.longWork o ok f.toNat = (t, good)) : exec (.longOperationComplete ok f) s = .next (t.endLong o (if good then 0 else 1)) := by
  refine congrArg Host.Outcome.next ?_
  rw [hop]
  dsimp only
  rw [if_neg (by simp [hready]), hwork]

theorem State.longWaits_other {o : LongOp} (h : o.code ≠ 6) : s.longWaits o = false := by
  unfold State.longWaits
  simp [h]

/-- An operation that leaves no counter but those in `ks` ends with the busy period over (16 R405). -/
theorem longOperationComplete_ends {o : LongOp} (hop : s.od.longop = some o) (hready : s.longWaits o = false) (ok : Bool) (f : BitVec 16) {t : State} {good : Bool}
    (hwork : s.longWork o ok f.toNat = (t, good)) {ks : List Nat} (hcount : Counted s t ks) : ∃ u, exec (.longOperationComplete ok f) s = .next u
      ∧ Counted s u ks ∧ u = { t with od := { t.od with longop := none }, rep := u.rep } := by
  refine ⟨_, longOperationComplete_works hop hready ok f hwork, ?_, rfl⟩
  have h := hcount.then (t.endLong_counted o (if good then 0 else 1)) (by simp)
  rwa [List.append_nil] at h

/-! ### Settings, packages -/

theorem longOperationComplete_storeFails {o : LongOp} (hop : s.od.longop = some o) (hcode : o.code = 1) (f : BitVec 16) :
    Completes (.longOperationComplete false f) s (fun t => Counted s t [key 0x28E0 6] ∧ t = { s with od := { s.od with longop := none }, rep := t.rep }) := by
  have hwork : s.longWork o false f.toNat = ((s.count 0x28E0 6).raise { code := 0x1F06 }, false) := by
    unfold State.longWork
    rw [hcode]
    change s.storeSettings o.inst false = _
    unfold State.storeSettings
    dsimp only
    rw [if_pos (Or.inl rfl)]
  exact longOperationComplete_ends hop (State.longWaits_other (by omega)) false f hwork (Counted.count_raise rfl _)

theorem longOperationComplete_restore {o : LongOp} (hop : s.od.longop = some o) (hcode : o.code = 2) (ok : Bool) (hkeep : ok = false ∨ s.boot.slot = 2) (f : BitVec 16) :
    Completes (.longOperationComplete ok f) s (fun t => t = { s with od := { s.od with longop := none }, rep := t.rep }) := by
  have hwork : s.longWork o ok f.toNat = (s, ok) := by
    unfold State.longWork
    rw [hcode]
    cases ok with
    | false => rfl
    | true =>
      have hslot := hkeep.resolve_left (by decide)
      change (if s.boot.slot = 2 then s else s.writeMark s.boot.slot o.inst, true) = _
      rw [if_pos hslot]
  obtain ⟨u, hu, -, hframe⟩ := longOperationComplete_ends hop (State.longWaits_other (by omega)) ok f hwork (Counted.refl s)
  exact ⟨u, hu, hframe⟩

/-- A package whose check has ended has its verdict, and nothing else has changed. -/
theorem longOperationComplete_package {o : LongOp} (hop : s.od.longop = some o) (hcode : o.code ≠ 6) (ok : Bool) (f : BitVec 16) {g : Package → Package} {good : Bool}
    (hwork : s.longWork o ok f.toNat = (s.updPk o.inst g, good)) : Completes (.longOperationComplete ok f) s (fun t =>
      t.pk o.inst = g (s.pk o.inst) ∧ (∀ q, q ≠ o.inst → t.pk q = s.pk q) ∧ t = { s with pkg := t.pkg, od := { s.od with longop := none }, rep := t.rep }) := by
  refine ⟨_, longOperationComplete_works hop (State.longWaits_other hcode) ok f hwork, ?_, fun q hq => ?_, rfl⟩
  · exact (State.pk_of_upd (s := s) rfl o.inst).trans (if_pos rfl)
  · exact (State.pk_of_upd (s := s) rfl q).trans (if_neg hq)

theorem longOperationComplete_badHeader {o : LongOp} (hop : s.od.longop = some o) (hcode : o.code = 3) (ok : Bool) (f : BitVec 16)
    (hbad : Config.packageFormat (s.peek (s.pk o.inst).base (s.pk o.inst).size) = false) : Completes (.longOperationComplete ok f) s (fun t =>
      t.pk o.inst = { s.pk o.inst with state := .failed, result := 2 } ∧ (∀ q, q ≠ o.inst → t.pk q = s.pk q)
      ∧ t = { s with pkg := t.pkg, od := { s.od with longop := none }, rep := t.rep }) := by
  have hcheck : s.installCheck o.inst = 2 := if_pos (by simp [hbad])
  refine longOperationComplete_package hop (by omega) ok f (g := fun k => { k with state := .failed, result := 2 }) (good := false) ?_
  unfold State.longWork
  rw [hcode]
  unfold State.installPackage
  dsimp only
  rw [hcheck]
  rfl

theorem longOperationComplete_verify {o : LongOp} (hop : s.od.longop = some o) (hcode : o.code = 4) (ok : Bool) (f : BitVec 16) :
    Completes (.longOperationComplete ok f) s (fun t =>
      t.pk o.inst = (if Config.packageDigest (s.pk o.inst).base (s.peek (s.pk o.inst).base (s.pk o.inst).size) then { s.pk o.inst with state := .verified, result := 1 }
        else { s.pk o.inst with state := .failed, result := 4 })
      ∧ (∀ q, q ≠ o.inst → t.pk q = s.pk q) ∧ t = { s with pkg := t.pkg, od := { s.od with longop := none }, rep := t.rep }) := by
  have hwork : s.longWork o ok f.toNat = s.verifyPackage o.inst := by
    unfold State.longWork
    rw [hcode]
    rfl
  by_cases hdigest : Config.packageDigest (s.pk o.inst).base (s.peek (s.pk o.inst).base (s.pk o.inst).size) = true
  · rw [if_pos hdigest]
    exact longOperationComplete_package hop (by omega) ok f (g := fun k => { k with state := .verified, result := 1 }) (hwork.trans (if_pos hdigest))
  · rw [if_neg hdigest]
    exact longOperationComplete_package hop (by omega) ok f (g := fun k => { k with state := .failed, result := 4 }) (hwork.trans (if_neg hdigest))

/-! ### A full test of the cores -/

/-- A core that has passed its test: its memories are zero and it is idle (08 R229). -/
def NeuralCore.passed (k : NeuralCore) : NeuralCore :=
  { k with galley := [], wForme := [], aForme := [], vForme := [], pSlot := [], pFull := 0, plane := [], cur := [], state := .idle }

/-- The verdict on one core. -/
def State.testStep (failed : Nat) (s : State) (c : Nat) : State := if bit failed c then s.retireCore c 3 else (s.zeroCore c).coreFree c

/-- The cores `l` have had their verdicts, and no other core has changed (08 R229). -/
structure CoresJudged (s t : State) (failed : Nat) (l : List Nat) : Prop where
  core : ∀ c, t.core c = if c ∈ l then (if bit failed c then (s.core c).retiredFor 3 else (s.core c).passed) else s.core c
  counted : Counted s t ((l.filter (fun c => bit failed c)).map (fun c => key (0x2870 + c) 6))
  frame : t = { s with nc := { s.nc with core := t.nc.core }, qn := t.qn, rg := t.rg, rep := t.rep }

theorem CoresJudged.snoc {t : State} {failed : Nat} {l : List Nat} (h : CoresJudged s t failed l) {c : Nat} (hnew : c ∉ l) (htesting : s.nc.testing = 0)
    (hretire : (s.core c).retire = false) : CoresJudged s (t.testStep failed c) failed (l ++ [c]) := by
  obtain ⟨hcore, hcount, hframe⟩ := h
  have hself : t.core c = s.core c := (hcore c).trans (if_neg hnew)
  unfold State.testStep
  by_cases hbad : bit failed c = true
  · rw [if_pos hbad]
    have hret := t.retireCore_eq c 3
    have hretcore := t.retireCore_core c 3
    have hrettally := t.retireCore_tested c (Nat.le_refl 3)
    generalize t.retireCore c 3 = u at *
    refine ⟨fun k => ?_, ?_, ?_⟩
    · rw [hretcore, hself, hcore]
      by_cases hk : k = c
      · subst hk; simp [hbad]
      · simp [hk]
    · have hkeys : key (0x2870 + c) 6 ∉ (l.filter (fun c => bit failed c)).map (fun c => key (0x2870 + c) 6) := by
        intro hmem
        obtain ⟨d, hd, hkey⟩ := List.mem_map.mp hmem
        have hdc : d = c := by unfold key at hkey; omega
        exact hnew (hdc ▸ (List.mem_filter.mp hd).1)
      rw [List.filter_append, List.map_append, List.filter_cons_of_pos hbad]
      exact hcount.then hrettally (fun k hk => List.mem_singleton.mp hk ▸ hkeys)
    · rw [hret, hframe]
  · rw [if_neg hbad]
    obtain ⟨v, hv, hvcore, hvframe⟩ : ∃ v : State, t.zeroCore c = v
        ∧ (∀ k, v.core k = if k = c then { (s.core c).passed with state := (s.core c).state } else t.core k)
        ∧ v = { t with nc := { t.nc with core := v.nc.core } } := by
      refine ⟨_, rfl, fun k => ?_, rfl⟩
      rw [← hself]
      exact State.core_updCore ..
    have hvself := (hvcore c).trans (if_pos rfl)
    have hfree : v.coreFree c = v.setCore c .idle := by
      refine State.coreFree_idle (by rw [hvself]; exact hretire) ?_
      have hzero : v.nc.testing = 0 := by rw [hvframe, hframe]; exact htesting
      rw [hzero]
      unfold bit
      simp
    rw [hv, hfree]
    have hset := v.setCore_eq c .idle
    have hsetcore := v.setCore_core c .idle
    have hsettally : Counted v (v.setCore c .idle) [] := State.setCore_counted (Counted.refl v) c .idle
    generalize v.setCore c .idle = u at *
    refine ⟨fun k => ?_, ?_, ?_⟩
    · rw [hsetcore, hvself, hvcore, hcore]
      by_cases hk : k = c
      · subst hk; simp [hbad]; rfl
      · simp [hk]
    · rw [List.filter_append, List.filter_cons_of_neg hbad, List.filter_nil, List.append_nil]
      have hbase : Counted t u [] := hsettally.of_base (by rw [hvframe])
      have hall := hcount.then hbase (by simp)
      rwa [List.append_nil] at hall
    · rw [hset, hvframe, hframe]

theorem CoresJudged.foldl {failed : Nat} (htesting : s.nc.testing = 0) {l : List Nat} (hnodup : l.Nodup) (hretire : ∀ c ∈ l, (s.core c).retire = false) :
    CoresJudged s (l.foldl (State.testStep failed) s) failed l := by
  induction l using List.reverseRecOn with
  | nil => exact ⟨fun _ => rfl, Counted.refl s, rfl⟩
  | append_singleton l c ih =>
    rw [List.foldl_append]
    obtain ⟨hl, -, hdisj⟩ := List.nodup_append.mp hnodup
    have hnew : c ∉ l := fun hmem => hdisj c hmem c (List.mem_singleton.mpr rfl) rfl
    exact (ih hl (fun d hd => hretire d (List.mem_append_left _ hd))).snoc hnew htesting (hretire c (by simp))

/-- The cores under test: those whose test is running now. -/
def State.tested (s : State) : List Nat := (List.range 16).filter (fun c => bit s.nc.testing c && (s.core c).state == .testing)

/-- The test is over, before the verdicts. -/
def State.testOver (s : State) (failed : Nat) : State :=
  { s with nc := { s.nc with testing := 0, failed := 0
                             lastTest := ((s.tested.filter (fun c => bit failed c)).map (fun c => 2 ^ c)).sum * 2 ^ 16 + s.nc.testing } }

theorem State.finishTest_eq (s : State) (failed : Nat) :
    s.finishTest failed = (s.tested.foldl (State.testStep failed) (s.testOver failed), (s.tested.filter (fun c => bit failed c)).isEmpty) := rfl

theorem State.mem_tested {c : Nat} : c ∈ s.tested ↔ c < 16 ∧ bit s.nc.testing c = true ∧ (s.core c).state = .testing := by
  simp [State.tested, List.mem_filter]

theorem longOperationComplete_tests {o : LongOp} (hop : s.od.longop = some o) (hcode : o.code = 6) (ok : Bool) (f : BitVec 16)
    (htest : ∀ c, c < 16 → bit s.nc.testing c = true → (s.core c).state = .testing ∧ (s.core c).retire = false) :
    Completes (.longOperationComplete ok f) s (fun t =>
      (∀ c, c < 16 → (bit s.nc.testing c = false → t.core c = s.core c)
        ∧ (bit s.nc.testing c = true → bit f.toNat c = true → (t.core c).state = .retired ∧ (t.core c).reason = 3 ∧ t.counter (0x2870 + c) 6 = satInc (s.counter (0x2870 + c) 6))
        ∧ (bit s.nc.testing c = true → bit f.toNat c = false → (t.core c).state = .idle ∧ (t.core c).galley = [] ∧ (t.core c).wForme = []))
      ∧ t.nc.testing = 0 ∧ t = { s with nc := t.nc, qn := t.qn, rg := t.rg, od := { s.od with longop := none }, rep := t.rep }) := by
  have hready : s.longWaits o = false := by
    unfold State.longWaits
    rw [Bool.and_eq_false_iff]
    refine .inr (List.any_eq_false.mpr fun c hc => ?_)
    by_cases hbit : bit s.nc.testing c = true
    · simp [(htest c (List.mem_range.mp hc) hbit).1]
    · simp [hbit]
  have hjudged := CoresJudged.foldl (s := s.testOver f.toNat) (failed := f.toNat) rfl (l := s.tested) (List.nodup_range.filter _)
    (fun c hc => (htest c (State.mem_tested.mp hc).1 (State.mem_tested.mp hc).2.1).2)
  have hwork : s.longWork o ok f.toNat = (s.tested.foldl (State.testStep f.toNat) (s.testOver f.toNat), (s.tested.filter (fun c => bit f.toNat c)).isEmpty) := by
    unfold State.longWork
    rw [hcode]
    exact s.finishTest_eq _
  generalize s.tested.foldl (State.testStep f.toNat) (s.testOver f.toNat) = u at *
  obtain ⟨hcore, hcount, hframe⟩ := hjudged
  obtain ⟨t, ht, htally, htframe⟩ := longOperationComplete_ends hop hready ok f hwork (hcount.of_base rfl)
  have htcore (c : Nat) : t.core c = if c ∈ s.tested then (if bit f.toNat c then (s.core c).retiredFor 3 else (s.core c).passed) else s.core c := by
    have hsame : t.core c = u.core c := by rw [htframe]; rfl
    exact hsame.trans (hcore c)
  refine ⟨t, ht, fun c hc => ⟨fun hoff => ?_, fun hon hbad => ?_, fun hon hgood => ?_⟩, ?_, ?_⟩
  · rw [htcore, if_neg]
    rw [State.mem_tested]
    simp [hoff]
  · have hmem : c ∈ s.tested := State.mem_tested.mpr ⟨hc, hon, (htest c hc hon).1⟩
    rw [htcore, if_pos hmem, if_pos hbad]
    refine ⟨rfl, rfl, htally.counter ?_ (List.mem_map.mpr ⟨c, List.mem_filter.mpr ⟨hmem, hbad⟩, rfl⟩)⟩
    unfold ownCounters key
    simp only [List.mem_cons, List.not_mem_nil, or_false, not_or]
    omega
  · have hmem : c ∈ s.tested := State.mem_tested.mpr ⟨hc, hon, (htest c hc hon).1⟩
    rw [htcore, if_pos hmem, if_neg (by simp [hgood])]
    exact ⟨rfl, rfl, rfl⟩
  · rw [htframe, hframe]; rfl
  · rw [htframe, hframe]; rfl

/-! ### The teardown of a station -/

/-- One way of a station goes back to cache (11 R287). -/
def State.wayGivenUp (st : Nat) (s : State) (w : Nat) : State := if bit (s.stNum st 7) w then (s.returnWay w).setScratch st w false else s

/-- The ways `l` have left the mask of scratch ways. -/
structure WaysGivenUp (s t : State) (st : Nat) (l : List Nat) : Prop where
  mask : ∀ w ∈ l, bit (t.stNum st 7) w = false
  kept : ∀ w, bit (s.stNum st 7) w = false → bit (t.stNum st 7) w = false
  frame : t = { s with mem := t.mem, od := t.od }

theorem State.returnWay_eq (s : State) (w : Nat) : s.returnWay w = { s with mem := (s.returnWay w).mem } := by
  unfold State.returnWay State.beginCarve
  split <;> rfl

theorem State.wayGivenUp_spec (s : State) (st w : Nat) : WaysGivenUp s (s.wayGivenUp st w) st [w] := by
  unfold State.wayGivenUp
  split
  · have hreturn := s.returnWay_eq w
    generalize s.returnWay w = u at *
    have hbits (k : Nat) : bit ((u.setScratch st w false).stNum st 7) k = if k = w then false else bit (s.stNum st 7) k := by
      rw [State.stNum_setScratch, bit_scratchMask, hreturn]
      rfl
    refine ⟨fun k hk => ?_, fun k hk => ?_, ?_⟩
    · rw [hbits, if_pos (List.mem_singleton.mp hk)]
    · rw [hbits, hk, ite_self]
    · rw [hreturn]; rfl
  · next h => exact ⟨fun k hk => List.mem_singleton.mp hk ▸ Bool.eq_false_iff.mpr h, fun _ hk => hk, rfl⟩

theorem WaysGivenUp.foldl (s : State) (st : Nat) (l : List Nat) : WaysGivenUp s (l.foldl (State.wayGivenUp st) s) st l := by
  induction l using List.reverseRecOn with
  | nil => exact ⟨fun _ h => absurd h List.not_mem_nil, fun _ h => h, rfl⟩
  | append_singleton l w ih =>
    rw [List.foldl_append]
    obtain ⟨hmask, hkept, hframe⟩ := ih
    generalize l.foldl (State.wayGivenUp st) s = t at *
    obtain ⟨hmask', hkept', hframe'⟩ := t.wayGivenUp_spec st w
    change WaysGivenUp s (t.wayGivenUp st w) st (l ++ [w])
    generalize t.wayGivenUp st w = u at *
    refine ⟨fun k hk => ?_, fun k hk => hkept' k (hkept k hk), by rw [hframe', hframe]⟩
    rcases List.mem_append.mp hk with hl | hl
    · exact hkept' k (hmask k hl)
    · exact hmask' k hl

theorem State.wipeWindows_eq (s : State) (st : Nat) : s.wipeWindows st = { s with mem := (s.wipeWindows st).mem } := by
  unfold State.wipeWindows
  generalize s.windows st = l
  induction l using List.reverseRecOn with
  | nil => rfl
  | append_singleton l w ih =>
    rw [List.foldl_append]
    generalize l.foldl _ s = t at *
    dsimp only [List.foldl_cons, List.foldl_nil]
    rw [ih]
    split
    · split <;> rfl
    · rfl

theorem State.wipeGranules_eq (s : State) (st : Nat) : s.wipeGranules st = { s with nc := (s.wipeGranules st).nc } := by
  unfold State.wipeGranules
  generalize List.range 16 = l
  induction l using List.reverseRecOn with
  | nil => rfl
  | append_singleton l c ih =>
    rw [List.foldl_append]
    generalize l.foldl _ s = t at *
    rw [ih]
    rfl

/-- The station's rings and quoins are gone (11 R287). -/
def State.tablesDropped (s : State) (st : Nat) : State :=
  { s with rg := { s.rg with ring := s.rg.ring.filter (fun x => !s.ringIn st x.1) }, qn := { s.qn with quoin := s.qn.quoin.filter (fun x => !s.quoinIn st x.1) } }

/-- The state that a teardown leaves, but for the station's own state and the report (11 R287). -/
def State.emptied (s : State) (st : Nat) : State := (((List.range 16).foldl (State.wayGivenUp st) (s.tablesDropped st)).wipeWindows st).wipeGranules st

theorem State.tearDown_eq {st : Nat} (hoff : ∀ n, n < 16 → s.channelOwner n = st → s.icn n 1 = 0) :
    s.tearDown st = (((s.emptied st).setStation st .configured).count 0x2890 3).raise { code := 0x1902, station := st } := by
  have hnone : (List.range 16).foldl (fun s n => if s.channelOwner n = st ∧ s.icn n 1 = 1 then s.turnOff n else s) s = s := by
    refine foldl_same fun n hn => if_neg ?_
    rintro ⟨howner, hon⟩
    have hzero := hoff n (List.mem_range.mp hn) howner
    omega
  unfold State.tearDown
  rw [hnone]
  rfl

theorem State.setStation_stState (s : State) (st : Nat) (x : StationState) (k : Nat) : (s.setStation st x).stState k = if k = st then x else s.stState k := by
  unfold State.setStation
  split
  · next h =>
    split
    · next hk => rw [hk, h]
    · rfl
  · have hupd : ((s.st.upd {} st (fun y => { y with state := x })).at {} k).state = if k = st then x else (s.st.at {} k).state := by
      rw [Tab.at_upd]
      split <;> rfl
    exact hupd

theorem State.setStation_eq (s : State) (st : Nat) (x : StationState) : s.setStation st x = { s with st := (s.setStation st x).st, rep := (s.setStation st x).rep } := by
  unfold State.setStation
  split <;> rfl

theorem longOperationComplete_tearsDown {o : LongOp} (hop : s.od.longop = some o) (hcode : o.code = 7) (hoff : ∀ n, n < 16 → s.channelOwner n = o.inst → s.icn n 1 = 0)
    (ok : Bool) (f : BitVec 16) : Completes (.longOperationComplete ok f) s (fun t =>
        t.stState o.inst = .configured ∧ (∀ k, k ≠ o.inst → t.stState k = s.stState k) ∧ t.od.longop = none
        ∧ (∀ r, s.ringIn o.inst r = true → t.ring r = {}) ∧ (∀ r, s.ringIn o.inst r = false → t.ring r = s.ring r)
        ∧ (∀ q, s.quoinIn o.inst q = true → t.quoin q = {}) ∧ (∀ q, s.quoinIn o.inst q = false → t.quoin q = s.quoin q)
        ∧ (∀ w, w < 16 → bit (s.stNum o.inst 7) w = true → bit (t.stNum o.inst 7) w = false) ∧ t.counter 0x2890 3 = satInc (s.counter 0x2890 3)) := by
  generalize hst : o.inst = st at *
  have hwork : s.longWork o ok f.toNat = (s.tearDown st, true) := by
    unfold State.longWork
    rw [hcode, hst]
    rfl
  rw [State.tearDown_eq hoff] at hwork
  obtain ⟨u, hu, hring, hquoin, hmask, hframe⟩ : ∃ u : State, s.emptied st = u ∧ (∀ r, u.ring r = if s.ringIn st r then {} else s.ring r)
      ∧ (∀ q, u.quoin q = if s.quoinIn st q then {} else s.quoin q) ∧ (∀ w, w < 16 → bit (u.stNum st 7) w = false)
      ∧ u = { s with rg := u.rg, qn := u.qn, mem := u.mem, od := u.od, nc := u.nc } := by
    refine ⟨_, rfl, ?_⟩
    obtain ⟨v, hv, hvring, hvquoin, hvframe⟩ : ∃ v : State, s.tablesDropped st = v ∧ (∀ r, v.ring r = if s.ringIn st r then {} else s.ring r)
        ∧ (∀ q, v.quoin q = if s.quoinIn st q then {} else s.quoin q) ∧ v = { s with rg := v.rg, qn := v.qn } := by
      refine ⟨_, rfl, fun r => ?_, fun q => ?_, rfl⟩
      · refine (Tab.at_filter_keys {} s.rg.ring (fun r => !s.ringIn st r) r).trans ?_
        cases s.ringIn st r <;> rfl
      · refine (Tab.at_filter_keys {} s.qn.quoin (fun q => !s.quoinIn st q) q).trans ?_
        cases s.quoinIn st q <;> rfl
    unfold State.emptied
    rw [hv]
    obtain ⟨hmask, -, hways⟩ := WaysGivenUp.foldl v st (List.range 16)
    generalize (List.range 16).foldl (State.wayGivenUp st) v = w at *
    have hwindows := w.wipeWindows_eq st
    generalize w.wipeWindows st = x at *
    have hgranules := x.wipeGranules_eq st
    generalize x.wipeGranules st = y at *
    refine ⟨fun r => ?_, fun q => ?_, fun k hk => ?_, ?_⟩
    · rw [← hvring, hgranules, hwindows, hways]; rfl
    · rw [← hvquoin, hgranules, hwindows, hways]; rfl
    · rw [← hmask k (List.mem_range.mpr hk), hgranules, hwindows]; rfl
    · rw [hgranules, hwindows, hways, hvframe]
  rw [hu] at hwork
  obtain ⟨-, -, hquiet⟩ := u.setStation_frame st .configured
  have hstate := u.setStation_stState st .configured
  have hset := u.setStation_eq st .configured
  generalize u.setStation st .configured = v at *
  have hcount : Counted s ((v.count 0x2890 3).raise { code := 0x1902, station := st }) [key 0x2890 3] :=
    ((hquiet.and_count (by simp)).raise _).of_base (by rw [hframe])
  obtain ⟨t, ht, htally, htframe⟩ := longOperationComplete_ends hop (State.longWaits_other (by omega)) ok f hwork hcount
  have htst (k : Nat) : t.stState k = v.stState k := by rw [htframe]; rfl
  have hold (k : Nat) : u.stState k = s.stState k := by rw [hframe]; rfl
  have htring (r : Nat) : t.ring r = if s.ringIn st r then {} else s.ring r := by
    rw [← hring, htframe, hset]; rfl
  have htquoin (q : Nat) : t.quoin q = if s.quoinIn st q then {} else s.quoin q := by
    rw [← hquoin, htframe, hset]; rfl
  refine ⟨t, ht, (htst st).trans ((hstate st).trans (if_pos rfl)), fun k hk => (htst k).trans ((hstate k).trans ((if_neg hk).trans (hold k))), by rw [htframe],
    fun r hr => (htring r).trans (if_pos hr), fun r hr => (htring r).trans (if_neg (by simp [hr])), fun q hq => (htquoin q).trans (if_pos hq),
    fun q hq => (htquoin q).trans (if_neg (by simp [hq])), fun w hw _ => ?_, htally.counter (by decide) (by simp)⟩
  rw [← hmask w hw, htframe, hset]; rfl

/-- Settles O57: each operation's work is one of `longWork`, and `endLong` ends the busy period whatever its result. -/
theorem longOperations : Obligations.LongOperations := by
  unfold Obligations.LongOperations
  intro s
  refine ⟨fun hans scope v => ⟨fun hv hslot => ?_, fun hnot => ?_, fun hv => ?_, fun hv => ?_⟩, fun hnone => ⟨?_, fun ok f => ?_⟩, fun o hop => ?_, fun o ok f hop => ?_⟩
  · refine ⟨_, congrArg Host.Outcome.next ((State.served_answers hans _ _).trans ?_), rfl⟩
    unfold State.writeStore
    rw [if_pos ⟨by rw [hv]; rfl, hslot⟩]
    rfl
  · refine ⟨_, congrArg Host.Outcome.next ((State.served_answers hans _ _).trans ?_), rfl⟩
    unfold State.writeStore
    rw [if_neg fun h => hnot.elim (fun hv => hv (BitVec.eq_of_toNat_eq h.1)) h.2]
    rfl
  · refine ⟨_, congrArg Host.Outcome.next ((State.served_answers hans _ _).trans ?_), rfl⟩
    unfold State.writeRestore
    rw [if_pos (by rw [hv]; rfl)]
    rfl
  · refine ⟨_, congrArg Host.Outcome.next ((State.served_answers hans _ _).trans ?_), rfl⟩
    unfold State.writeRestore
    have hne : v.toNat ≠ 0x64616F6C := fun h => hv (BitVec.eq_of_toNat_eq h)
    rw [if_neg hne]
    rfl
  · exact ⟨s, congrArg Host.Outcome.next (by rw [hnone]), rfl⟩
  · exact ⟨s, congrArg Host.Outcome.next (by rw [hnone]), rfl⟩
  · exact ⟨s.endLong o 2, congrArg Host.Outcome.next (by rw [hop]), rfl, fun k hk => (s.endLong_counted o 2 k hk).trans (if_neg List.not_mem_nil)⟩
  · refine ⟨fun hcode => longOperationComplete_storeFails hop hcode f, fun hcode => longOperationComplete_restore hop hcode false (.inl rfl) f,
      fun hcode hslot => longOperationComplete_restore hop hcode ok (.inr hslot) f, fun hcode hbad => longOperationComplete_badHeader hop hcode ok f hbad,
      fun hcode => longOperationComplete_verify hop hcode ok f, fun hcode hruns => ?_, fun hcode htest => longOperationComplete_tests hop hcode ok f htest,
      fun hcode _ hoff => longOperationComplete_tearsDown hop hcode hoff ok f⟩
    obtain ⟨c, hc, hbit, hrunning⟩ := hruns
    have hwaits : s.longWaits o = true := by
      unfold State.longWaits
      rw [Bool.and_eq_true, List.any_eq_true]
      exact ⟨by simp [hcode], c, List.mem_range.mpr hc, by simp [hbit, hrunning]⟩
    refine ⟨s, congrArg Host.Outcome.next ?_, rfl⟩
    rw [hop]
    exact if_pos hwaits

end Machine
end Sys2Proof
end

section
/-!
PROOF. Doze, sleep and waking (14 R346-R360): the requests and their refusals, the entry up to its commit point, the wakes in Stop, and Doze.
-/
namespace Sys2Proof
namespace Machine

variable {s : State}

/-! ### Requests -/

/-- A request that is refused is counted with its reason (14 Table 14-5). -/
def State.sleepRefused (s : State) (kind : Nat) : State :=
  (({ s with pwr := { s.pwr with refuse := s.sleepRefusal kind } } : State).count 0x28C0 3).raise { code := 0x1C03 }

theorem State.requestSleep_accepted {kind : Nat} (hreq : s.pwr.req = 0) (hok : s.sleepRefusal kind = 0) : s.requestSleep kind = (s.acceptSleep kind, true) :=
  (if_neg (by simp [hreq])).trans (if_pos hok)

theorem State.requestSleep_refused {kind : Nat} (hreq : s.pwr.req = 0) (hno : s.sleepRefusal kind ≠ 0) : s.requestSleep kind = (s.sleepRefused kind, false) :=
  (if_neg (by simp [hreq])).trans (if_neg hno)

theorem State.sleepRefused_counted (s : State) (kind : Nat) : Counted s (s.sleepRefused kind) [key 0x28C0 3] :=
  Counted.count_raise (u := { s with pwr := { s.pwr with refuse := s.sleepRefusal kind } }) rfl _

theorem State.sleepCommand_dictionary (hans : s.answers) {kind : Nat} {t : State} {ok : Bool} (h : s.requestSleep kind = (t, ok)) :
    s.sleepCommand kind false = t.answer (if ok then .ok else .abort 0x08000020) := by
  refine (if_pos rfl).trans ((State.served_answers hans _ _).trans ?_)
  unfold State.writeRequest
  rw [h]

theorem State.sleepCommand_register (hrun : s.computeRuns = true) {kind : Nat} {t : State} {ok : Bool} (h : s.requestSleep kind = (t, ok)) :
    s.sleepCommand kind true = { t with out := { t.out with err := !ok } } := by
  refine (if_neg (by decide)).trans ((if_pos hrun).trans ?_)
  rw [h]

/-! ### Entry -/

theorem State.abandonEntry_spec (s : State) : Counted s s.abandonEntry [key 0x28C0 4]
    ∧ s.abandonEntry = { s with pwr := { s.pwr with req := 0, entering := false, last := 4 }, rep := s.abandonEntry.rep } :=
  ⟨(Counted.count _).of_base rfl, rfl⟩

/-- The state at the commit point, before the entry is counted (14 R353). -/
def State.leftBehind (s : State) (hib : Bool) : State := (s.sendField (.sleep (if hib then 2 else 1))).canLost

/-- The compute die is down: the link with its views, the host port and what is not kept (14 R353). -/
def State.gone (s : State) (modes : Tab Nat) (hib : Bool) : State :=
  { s with
    fd := { s.fd with canArm := modes }
    gk := { s.gk with interval := [] }
    link := { s.link.dropViews with up := false, orderly := true, lanes := 0, training := false, missRun := 0 }
    host := { s.host with linkUp := false }
    pwr := { s.pwr with state := if hib then .hibernate else .stop, hold := !hib, entering := false, req := 0, stopDue := false } }

theorem sleepCommit_commits (hent : s.pwr.entering = true) (hrun : s.computeRuns = true) (hdown : s.woundDown = true) {hib : Bool} (hreq : (s.pwr.req == 3) = hib) :
    exec .sleepCommit s = .next ((if hib then s.leftBehind hib else (s.leftBehind hib).count 0x28C0 2).gone s.wakeModes hib) := by
  subst hreq
  exact congrArg Host.Outcome.next (if_neg (by simp [hent, hrun, hdown]))

/-- Views that have been dropped are not valid (14 R353). -/
theorem Link.dropViews_invalid (l : Link) (n : Nat) : ((l.dropViews.views.at {} n).valid) = false := by
  have h := Tab.at_map ({} : View) l.views (fun _ x => { x with valid := false }) (fun _ => rfl) n
  have hdrop : l.dropViews.views = l.views.map (fun x => (x.1, { x.2 with valid := false })) := rfl
  rw [hdrop, h]

/-- The CAN ports of a compute die that is gone serve nothing and hold nothing (15 R380). -/
theorem State.canLost_port (s : State) (p : Nat) : (s.canLost.port p).avail = false ∧ (s.canLost.port p).rx = [] ∧ (s.canLost.port p).tx = [] := by
  have h : s.canLost.port p = { s.port p with avail := false, rx := [], tx := [], sdo := none, jdtWait := [], jdtXfer := [] } :=
    Tab.at_map ({} : CanPort) s.can (fun _ x => { x with avail := false, rx := [], tx := [], sdo := none, jdtWait := [], jdtXfer := [] }) (fun _ => rfl) p
  rw [h]
  exact ⟨rfl, rfl, rfl⟩

/-! ### Wakes -/

theorem State.wake_noted {src : Nat} (hstop : s.pwr.state = .stop) (hdue : s.pwr.stopDue = false) :
    s.wake src = { s with pwr := { s.pwr with stopDue := true, wakeSrc := src, wakeAt := s.clk.wall } } :=
  (if_pos hstop).trans (if_pos hdue)

/-- A report that makes no event due changes the reporting alone. -/
theorem State.report_quiet {f : Reporting → Reporting} (h : (f s.rep).due = []) : s.report f = { s with rep := f s.rep } := by
  unfold State.report
  rw [Reporting.settle_of_no_due _ _ h]

/-- The wake latch of a line is set (13 R327). -/
def Reporting.latched (r : Reporting) (n : Nat) : Reporting :=
  { r with evc := { r.evc with line := r.evc.line.upd {} n (fun x => { x with latch := true }) } }

theorem Reporting.latched_ext (r : Reporting) (n k : Nat) :
    (r.latched n).evc.ext k = if k = n then { r.evc.ext n with latch := true } else r.evc.ext k :=
  Tab.at_upd ({} : ExtLine) r.evc.line n k (fun x => { x with latch := true })

theorem gpioWakeLatch_wakes (k : Fin 16) (b : Bool) (hstop : s.pwr.state = .stop) (hwake : srcWake (s.rep.evc.cfg (1040 + k)) = true)
    (hedge : edgeNamed (srcEdge (s.rep.evc.cfg (1040 + k))) b = true) (hen : bit s.wakeEn 1 = true) (hdue : s.pwr.stopDue = false) (hset : s.settled) :
    Completes (.gpioWakeLatch k b) s (fun t =>
        (t.rep.evc.ext (16 + k)).latch = true ∧ (∀ j, j ≠ 16 + k.val → t.rep.evc.ext j = s.rep.evc.ext j)
        ∧ t = { s with pwr := { s.pwr with stopDue := true, wakeSrc := 2, wakeAt := s.clk.wall }, rep := t.rep }) := by
  have hreport : s.report (·.latched (16 + k.val)) = { s with rep := s.rep.latched (16 + k.val) } := State.report_quiet hset.2
  have hexec : exec (.gpioWakeLatch k b) s = .next (({ s with rep := s.rep.latched (16 + k.val) } : State).wake 2) := by
    refine congrArg Host.Outcome.next ((if_neg (by simp [hstop, hwake, hedge])).trans ?_)
    change (if srcWake (s.rep.evc.cfg (1040 + k.val)) && bit (s.report (·.latched (16 + k.val))).wakeEn 1 then (s.report (·.latched (16 + k.val))).wake 2
      else s.report (·.latched (16 + k.val))) = _
    rw [hreport]
    exact if_pos (by simp only [hwake, Bool.true_and]; exact hen)
  have hnoted := State.wake_noted (s := { s with rep := s.rep.latched (16 + k.val) }) (src := 2) hstop hdue
  refine ⟨_, hexec.trans (congrArg Host.Outcome.next hnoted), ?_, fun j hj => (s.rep.latched_ext _ j).trans (if_neg hj), rfl⟩
  exact congrArg ExtLine.latch ((s.rep.latched_ext (16 + k.val) _).trans (if_pos rfl))

theorem stopExitComplete_runs (hstop : s.pwr.state = .stop) (hdue : s.pwr.stopDue = true) (hlatch : ∀ k, k < 16 → (s.rep.evc.ext (16 + k)).latch = false) :
    Completes .stopExitComplete s (fun t => t = { s with pwr := { s.pwr with state := .run, stopDue := false, last := 2, wakeEvent := some 2 } }) := by
  have hnone : (List.range 16).foldl (fun s k => s.applyLatch (16 + k)) ({ s with pwr := { s.pwr with state := .run, stopDue := false, last := 2, wakeEvent := some 2 } } : State)
      = { s with pwr := { s.pwr with state := .run, stopDue := false, last := 2, wakeEvent := some 2 } } :=
    foldl_same fun k hk => if_pos (hlatch k (List.mem_range.mp hk))
  exact ⟨_, congrArg Host.Outcome.next ((if_neg (by simp [hstop, hdue])).trans hnone), rfl⟩

/-! ### Doze -/

theorem dozeEntry_dozes (hstate : s.pwr.state = .run) (hent : s.pwr.entering = false) (hen : s.dozeEn = true) (hsig : s.hartSignalled = false) (hout : (s.hartAt 0).out = true) :
    Completes .dozeEntry s (fun t => t.pwr = { s.pwr with state := .doze } ∧ (∀ h, (t.hartAt h).out = (s.hartAt h).out ∧ (t.hartAt h).wfi = (s.hartAt h).out)
      ∧ Counted s t [key 0x28C0 1] ∧ t = { s with host := { s.host with hart := t.host.hart }, pwr := t.pwr, rep := t.rep }) := by
  refine ⟨_, congrArg Host.Outcome.next (if_neg (by simp [hstate, hent, hen, hsig, hout])), rfl, fun h => ?_, (Counted.count _).of_base rfl, rfl⟩
  have hmap := Tab.at_map ({} : Hart) s.host.hart (fun _ x => { x with wfi := x.out }) (fun _ => rfl) h
  have hout := congrArg Hart.out hmap
  have hwfi := congrArg Hart.wfi hmap
  exact ⟨hout, hwfi⟩

/-- Settles O52: an accepted request is `acceptSleep`, a refused one `sleepRefused`; the commit point is `gone` over what is left behind, and a wake in Stop is noted once. -/
theorem sleepAndWake : Obligations.SleepAndWake := by
  unfold Obligations.SleepAndWake
  intro s
  refine ⟨fun hreq hok => ⟨fun hans => ?_, fun hrun => ?_⟩, fun hreq hok => ⟨fun hans => ?_, fun hrun => ?_⟩, fun hreq hno => ⟨fun hans => ?_, fun hrun => ?_⟩,
    fun hreq hno hans => ?_, fun hreq hrun => ⟨fun hawake => ?_, fun hlow hen => ?_, fun b hb => ?_⟩, fun hidle => ⟨?_, fun b => ?_⟩,
    fun hent hrun hdown => ⟨fun hreq => ?_, fun hreq => ?_⟩, fun hnot => ?_,
    fun hstop => ⟨fun hdue halarm hpast hen => ?_, fun hdue hen => ?_, fun k b hwake hedge hen hdue hset => gpioWakeLatch_wakes k b hstop hwake hedge hen hdue hset,
      fun hdue hlatch => stopExitComplete_runs hstop hdue hlatch, fun hdue => ?_⟩,
    fun hstop => ⟨?_, fun k b => ?_⟩, fun hoff => ?_, fun hoff => ?_, dozeEntry_dozes, fun hnot => ?_, fun h hdoze => ?_, fun h hdoze => ?_⟩
  · exact ⟨_, congrArg Host.Outcome.next (State.sleepCommand_dictionary hans (State.requestSleep_accepted hreq hok)), rfl⟩
  · exact ⟨_, congrArg Host.Outcome.next (State.sleepCommand_register hrun (State.requestSleep_accepted hreq hok)), rfl, rfl⟩
  · exact ⟨_, congrArg Host.Outcome.next (State.sleepCommand_dictionary hans (State.requestSleep_accepted hreq hok)), rfl⟩
  · exact ⟨_, congrArg Host.Outcome.next (State.sleepCommand_register hrun (State.requestSleep_accepted hreq hok)), rfl, rfl⟩
  · exact ⟨_, congrArg Host.Outcome.next (State.sleepCommand_dictionary hans (State.requestSleep_refused hreq hno)), rfl, (s.sleepRefused_counted 2).of_rep rfl, rfl⟩
  · exact ⟨_, congrArg Host.Outcome.next (State.sleepCommand_register hrun (State.requestSleep_refused hreq hno)), (s.sleepRefused_counted 2).of_rep rfl, rfl⟩
  · exact ⟨_, congrArg Host.Outcome.next (State.sleepCommand_dictionary hans (State.requestSleep_refused hreq hno)), rfl, (s.sleepRefused_counted 3).of_rep rfl, rfl⟩
  · refine ⟨_, congrArg Host.Outcome.next ((if_neg (by simp [hreq, hrun])).trans (if_neg ?_)), rfl⟩
    rcases hawake with h | h <;> simp [h]
  · exact ⟨_, congrArg Host.Outcome.next ((if_neg (by simp [hreq, hrun])).trans (if_pos (by simp [hlow, hen]))), s.abandonEntry_spec⟩
  · exact ⟨_, congrArg Host.Outcome.next (if_pos (by simp [hreq, hrun, hb])), s.abandonEntry_spec⟩
  · exact ⟨s, congrArg Host.Outcome.next (if_pos hidle), rfl⟩
  · refine ⟨s, congrArg Host.Outcome.next (if_neg ?_), rfl⟩
    rcases hidle with h | h <;> simp [h]
  · have hexec := sleepCommit_commits hent hrun hdown (hib := false) (by simp [hreq])
    refine ⟨_, hexec, rfl, rfl, rfl, rfl, fun n => Link.dropViews_invalid _ n, fun p => (s.sendField (.sleep 1)).canLost_port p, rfl, rfl, ?_, rfl⟩
    exact ((Counted.count (s.leftBehind false)).of_rep rfl).of_base rfl
  · exact ⟨_, sleepCommit_commits hent hrun hdown (hib := true) (by simp [hreq]), rfl, rfl, rfl, rfl, rfl⟩
  · refine ⟨s, congrArg Host.Outcome.next (if_pos ?_), rfl⟩
    rcases hnot with h | h <;> simp [h]
  · exact ⟨_, congrArg Host.Outcome.next ((if_pos ⟨halarm, hpast, hen⟩).trans (State.wake_noted hstop hdue)), rfl⟩
  · exact ⟨_, congrArg Host.Outcome.next ((if_pos hen).trans (State.wake_noted hstop hdue)), rfl⟩
  · exact ⟨s, congrArg Host.Outcome.next (if_pos (.inr hdue)), rfl⟩
  · exact ⟨s, congrArg Host.Outcome.next (if_pos (.inl hstop)), rfl⟩
  · exact ⟨s, congrArg Host.Outcome.next (if_pos (.inl hstop)), rfl⟩
  · exact ⟨s, congrArg Host.Outcome.next (if_neg (by simp [hoff])), rfl⟩
  · exact ⟨s, congrArg Host.Outcome.next (if_neg (by simp [hoff])), rfl⟩
  · refine ⟨s, congrArg Host.Outcome.next (if_pos ?_), rfl⟩
    rcases hnot with h | h | h
    · exact .inl h
    · exact .inr (.inr (.inl h))
    · exact .inr (.inr (.inr (.inl h)))
  · refine ⟨s.wakeHart h.val, congrArg Host.Outcome.next (if_pos hdoze), ?_,
      (State.hartAt_of_upd (s := s) (h := h.val) (g := fun x => { x with wfi := false }) rfl _).trans (if_pos rfl),
      fun k hk => (State.hartAt_of_upd (s := s) (g := fun x => { x with wfi := false }) rfl k).trans (if_neg hk), rfl⟩
    unfold State.wakeHart
    rw [if_pos hdoze]
  · exact ⟨s, congrArg Host.Outcome.next (if_neg hdoze), rfl⟩

end Machine
end Sys2Proof
end

section
/-!
PROOF. Resets of the compute die (06 R180, R181, 14 R344, 17 R427).
-/
namespace Sys2Proof
namespace Machine

variable {s : State}

/-- A filter that lets no cell of an address through leaves the default there. -/
theorem cellGet_filter_out {d : Nat → Byte} {m : List Host.Cell} {p : Host.Cell → Bool} {a : Nat} (h : ∀ b, p (a, b) = false) :
    cellGet d (m.filter p) a = d a := by
  induction m with
  | nil => rfl
  | cons c r ih =>
    obtain ⟨k, b⟩ := c
    by_cases hp : p (k, b) = true
    · have hk : k ≠ a := by
        rintro rfl
        exact Bool.false_ne_true ((h b).symm.trans hp)
      rw [List.filter_cons_of_pos hp, cellGet, if_neg hk, ih]
    · rw [List.filter_cons_of_neg hp, ih]

/-- The flash keeps what it holds; nothing else does. -/
theorem cellGet_flashCells (m : List Host.Cell) (a : Nat) :
    cellGet memDefault (flashCells m) a = if a < 0x800000 then cellGet memDefault m a else 0 := by
  unfold flashCells
  split
  · next h => exact cellGet_filter (fun b => decide_eq_true h)
  · next h =>
    rw [cellGet_filter_out (fun b => decide_eq_false h)]
    exact if_neg h

theorem State.clearCompute_resets (s : State) (cause : Nat) : s.computeReset (s.clearCompute cause) cause false :=
  ⟨rfl, fun a => cellGet_flashCells s.mem.bytes a⟩

/-- Settles O51: every reset is `clearCompute` with its cause; the boot watchdog leaves its mark besides. -/
theorem computeResets : Obligations.ComputeResets := by
  unfold Obligations.ComputeResets
  intro s
  refine ⟨⟨_, rfl, s.clearCompute_resets _⟩, fun b hoff hhib => ?_, fun b hdown => ?_, fun hwdog => ?_, fun hwdog => ?_, fun hdue => ?_, fun hdue => ?_,
    fun b hrun => ?_, fun b hstop => ?_⟩
  · exact ⟨_, congrArg Host.Outcome.next (if_neg (not_or.mpr ⟨hoff, hhib⟩)), s.clearCompute_resets _⟩
  · exact ⟨s, congrArg Host.Outcome.next (if_pos hdown), rfl⟩
  · exact ⟨_, congrArg Host.Outcome.next (if_neg (by simpa using hwdog)), rfl, fun a => cellGet_flashCells s.mem.bytes a⟩
  · exact ⟨s, congrArg Host.Outcome.next (if_pos (by simp [hwdog])), rfl⟩
  · exact ⟨_, congrArg Host.Outcome.next (if_pos hdue), s.clearCompute_resets _⟩
  · exact ⟨s, congrArg Host.Outcome.next (if_neg (by simp [hdue])), rfl⟩
  · exact ⟨_, congrArg Host.Outcome.next (if_pos hrun), (Counted.count s).raiseSec _ _, rfl⟩
  · exact ⟨s, congrArg Host.Outcome.next (if_neg (by simp [hstop])), rfl⟩

end Machine
end Sys2Proof
end

section
/-!
SUPPORT. What an operation on a CAN port leaves: the port it names, the other port and everything else (15 R363-R372).
-/
namespace Sys2Proof
namespace Machine

variable {s t : State} {p : Nat} {k : CanPort}

theorem State.port_of_upd {f : CanPort → CanPort} (h : t.can = s.can.upd {} p f) (q : Nat) : t.port q = if q = p then f (s.port p) else s.port q := by
  unfold State.port
  rw [h]
  exact Tab.at_upd ..

/-- Port `p` now is `k`; the other port and everything outside the ports and the report stand. -/
structure PortSet (s t : State) (p : Nat) (k : CanPort) : Prop where
  self : t.port p = k
  other : ∀ q, q ≠ p → t.port q = s.port q
  frame : t = { s with can := t.can, rep := t.rep }

namespace PortSet

theorem refl (s : State) (p : Nat) : PortSet s s p (s.port p) := ⟨rfl, fun _ _ => rfl, rfl⟩

theorem upd (h : PortSet s t p k) (f : CanPort → CanPort) : PortSet s (t.updPort p f) p (f k) := by
  obtain ⟨hself, hother, hframe⟩ := h
  have hport (q : Nat) : (t.updPort p f).port q = if q = p then f (t.port p) else t.port q := State.port_of_upd rfl q
  refine ⟨(hport p).trans ((if_pos rfl).trans (congrArg f hself)), fun q hq => (hport q).trans ((if_neg hq).trans (hother q hq)), ?_⟩
  rw [hframe]
  rfl

theorem report (h : PortSet s t p k) (f : Reporting → Reporting) : PortSet s (t.report f) p k := by
  obtain ⟨hself, hother, hframe⟩ := h
  refine ⟨hself, hother, ?_⟩
  rw [hframe]
  rfl

theorem rep (h : PortSet s t p k) (r : Reporting) : PortSet s { t with rep := r } p k := by
  obtain ⟨hself, hother, hframe⟩ := h
  refine ⟨hself, hother, ?_⟩
  rw [hframe]

theorem count (h : PortSet s t p k) (i j : Nat) : PortSet s (t.count i j) p k := h.report _

theorem raise (h : PortSet s t p k) (e : Ev) : PortSet s (t.raise e) p k := h.report _

theorem occur (h : PortSet s t p k) (id : Nat) : PortSet s (t.occur id) p k := h.report _

theorem ite {c : Prop} [Decidable c] {u : State} {x : CanPort} (h : PortSet s t p k) (h' : PortSet s u p x) :
    PortSet s (if c then t else u) p (if c then k else x) := by
  split
  · exact h
  · exact h'

end PortSet

/-- What an operation counts on a port does not move what it has changed of the port. -/
theorem Counted.updPort {ks : List Nat} (h : Counted s t ks) (p : Nat) (f : CanPort → CanPort) : Counted s (t.updPort p f) ks := h.of_rep rfl

/-- A change of the error counts: it may make the port error-passive, which is counted (15 R366). -/
theorem PortSet.errors (h : PortSet s t p k) (f : CanPort → CanPort) : PortSet s (t.errors p f) p (f k) := by
  unfold State.errors
  dsimp only
  split
  · exact ((h.upd f).count _ _).raise _
  · exact h.upd f

theorem State.errors_tally (s : State) (p : Nat) (f : CanPort → CanPort) {k : Nat} (hk : k ∉ ownCounters) (hne : k ≠ key (canCnt p) 4) :
    (s.errors p f).tally k = s.tally k := by
  unfold State.errors
  dsimp only
  split
  · rw [State.tally_raise _ _ _ hk, State.tally_count _ _ _ _ hk, if_neg hne]
    rfl
  · rfl

/-- Every frame that is sent or received ends the lonely count (15 R367). -/
theorem PortSet.endLonely (h : PortSet s t p k) : PortSet s (t.endLonely p) p { k with lonely := 0, isLonely := false } := by
  unfold State.endLonely
  dsimp only
  split
  · exact (h.upd _).raise _
  · exact h.upd _

theorem State.endLonely_counted {ks : List Nat} (h : Counted s t ks) (p : Nat) : Counted s (t.endLonely p) ks := by
  unfold State.endLonely
  dsimp only
  split
  · exact (h.updPort p _).raise _
  · exact h.updPort p _

theorem canCnt_own (p : Fin 2) {j : Nat} (hj : j < 256) (h7 : j ≠ 7) : key (canCnt p) j ∉ ownCounters := by
  unfold ownCounters key canCnt
  simp only [List.mem_cons, List.not_mem_nil, or_false, not_or]
  omega

/-- The receive error count after a frame that was received (15 R366). -/
theorem State.recDown_spec (s : State) (p : Nat) : ∃ n k, PortSet { s with free := n } (s.recDown p) p k ∧ (∃ r, k = { s.port p with recErr := r })
    ∧ (s.recDown p).rep = s.rep := by
  unfold State.recDown
  dsimp only
  split
  · exact ⟨s.free, _, .refl _ _, ⟨_, rfl⟩, rfl⟩
  · split
    · exact ⟨s.free, _, (PortSet.refl s p).upd _, ⟨_, rfl⟩, rfl⟩
    · exact ⟨s.free + 1, _, (PortSet.refl { s with free := s.free + 1 } p).upd _, ⟨_, rfl⟩, rfl⟩

/-- A frame has been received: it is counted, and its port is no longer lonely (15 R366, R367, R372). -/
theorem State.receive_spec (s : State) (p : Nat) : ∃ n k, PortSet { s with free := n } (s.receive p) p k
    ∧ (∃ r, k = { s.port p with recErr := r, lonely := 0, isLonely := false }) ∧ Counted s (s.receive p) [key (canCnt p) 1] := by
  obtain ⟨n, k, hset, ⟨r, hk⟩, hrep⟩ := (s.count (canCnt p) 1).recDown_spec p
  have hcount : Counted s ((s.count (canCnt p) 1).recDown p) [key (canCnt p) 1] := (Counted.count s).of_rep hrep
  have hbase : PortSet { s with free := n } ((s.count (canCnt p) 1).recDown p) p k := by
    obtain ⟨hself, hother, hframe⟩ := hset
    exact ⟨hself, hother, hframe⟩
  subst hk
  exact ⟨n, _, hbase.endLonely.occur _, ⟨r, rfl⟩, (State.endLonely_counted hcount p).occur _⟩

end Machine
end Sys2Proof
end

section
/-!
PROOF. Frames on a CAN bus (15 R363-R372): what is sent, received and discarded, and the error counts.
-/
namespace Sys2Proof
namespace Machine

variable {s : State} {p : Fin 2}

theorem State.attached_of (havail : (s.port p).avail = true) (hset : s.canSet p 1 ≠ 0) : s.attached p = true := by
  unfold State.attached
  simp [havail, hset]

/-! ### Sending -/

/-- The port after the transmission of a frame ended with a result (15 R366). -/
def State.transmitted (s : State) (p : Fin 2) (m : CanMsg) : TxResult → State
  | .acked => s.txAcked p m
  | .ackError => s.txAckError p m
  | .otherError => s.txError p m

theorem canFrameTransmit_sends (hatt : s.attached p = true) (hshort : (s.canWire p).short = false) (hoff : (s.port p).busOff = false) {m : CanMsg}
    (hnext : (s.port p).nextTx = some m) (r : TxResult) : exec (.canFrameTransmit p r) s = .next (s.transmitted p m r) := by
  refine congrArg Host.Outcome.next ((if_neg (by simp [hatt])).trans ((if_neg (by simp [hshort])).trans ((if_neg (by simp [hoff])).trans ?_)))
  rw [hnext]
  cases r <;> rfl

theorem CanPort.nextTx_head {k : CanPort} {m : CanMsg} {q : List CanMsg} (hl : k.isLonely = false) (htx : k.tx = m :: q) : k.nextTx = some m := by
  unfold CanPort.nextTx
  simp [hl, htx]

theorem txAcked_spec (s : State) (p : Nat) (m : CanMsg) :
    PortSet s (s.txAcked p m) p { ({ s.port p with tx := (s.port p).tx.erase m } : CanPort).ended m with
        lonely := 0, isLonely := false, tec := (s.port p).tec - 1, sentLog := [m] }
    ∧ Counted s (s.txAcked p m) [key (canCnt p) 2] :=
  ⟨((((PortSet.refl s p).upd _).count _ _).endLonely).upd _, (State.endLonely_counted ((Counted.count _).of_base rfl) p).updPort p _⟩

/-- The port after an error of its own frame that no receiver acknowledged (15 R366). -/
def CanPort.ackFailed (k : CanPort) : CanPort := { (if k.passive then k else { k with tec := k.tec + 8 }) with lonely := k.lonely + 1 }

theorem CanPort.ackFailed_fields (k : CanPort) : k.ackFailed.tx = k.tx ∧ k.ackFailed.lonely = k.lonely + 1 ∧ k.ackFailed.isLonely = k.isLonely
    ∧ k.ackFailed.tec = if k.passive then k.tec else k.tec + 8 := by
  unfold CanPort.ackFailed
  split <;> exact ⟨rfl, rfl, rfl, rfl⟩

theorem txAckError_spec (hl : (s.port p).isLonely = false) (hfew : (s.port p).lonely < 15) (m : CanMsg) :
    PortSet s (s.txAckError p m) p (s.port p).ackFailed ∧ (s.txAckError p m).counter (canCnt p) 3 = satInc (s.counter (canCnt p) 3) := by
  obtain ⟨u, hu⟩ : ∃ u : State, ((s.count (canCnt p) 3).errors p (fun c => if c.passive then c else { c with tec := c.tec + 8 })).updPort p
      (fun c => { c with lonely := c.lonely + 1 }) = u := ⟨_, rfl⟩
  have hset : PortSet s u p (s.port p).ackFailed := by
    have h := ((((PortSet.refl s p).count (canCnt p) 3).errors (fun c => if c.passive then c else { c with tec := c.tec + 8 })).upd
      (fun c => { c with lonely := c.lonely + 1 }))
    rw [hu] at h
    have hk : CanPort.ackFailed (s.port p) = { (if (s.port p).passive then s.port p else { s.port p with tec := (s.port p).tec + 8 }) with
        lonely := (if (s.port p).passive then s.port p else { s.port p with tec := (s.port p).tec + 8 }).lonely + 1 } := by
      unfold CanPort.ackFailed
      split <;> rfl
    rw [hk]
    exact h
  have htally : u.counter (canCnt p) 3 = satInc (s.counter (canCnt p) 3) := by
    have hne : key (canCnt p) 3 ≠ key (canCnt p) 4 := by unfold key; omega
    have hown := canCnt_own p (j := 3) (by decide) (by decide)
    rw [State.counter_eq, ← hu]
    exact ((s.count (canCnt p) 3).errors_tally p _ hown hne).trans ((State.tally_count _ _ _ _ hown).trans (if_pos rfl))
  obtain ⟨-, hlonely, hstill, -⟩ := (s.port p).ackFailed_fields
  have hself := hset.self
  have hquiet : s.txAckError p m = u := by
    have henter : (!(u.port p).isLonely && decide (16 ≤ (u.port p).lonely)) = false := by
      rw [hself, hlonely, Bool.and_eq_false_iff]
      exact .inr (decide_eq_false (by omega))
    unfold State.txAckError
    dsimp only
    rw [hu, henter, if_neg Bool.false_ne_true, if_neg]
    rw [hself, hstill, hl]
    exact Bool.false_ne_true
  rw [hquiet]
  exact ⟨hset, htally⟩

theorem txError_spec (hl : (s.port p).isLonely = false) (hoff : (s.port p).busOff = false) (m : CanMsg) : ∃ k, PortSet s (s.txError p m) p k
    ∧ k.tx = (s.port p).tx ∧ k.tec = min 256 ((s.port p).tec + 8) ∧ (k.busOff = true ↔ 256 ≤ (s.port p).tec + 8) := by
  have hset := (PortSet.refl s p).errors (fun c => { c with tec := c.tec + 8 })
  have htx : s.txError p m = (s.errors p (fun c => { c with tec := c.tec + 8 })).checkBusOff p := by
    unfold State.txError
    dsimp only
    rw [if_neg]
    rw [hset.self]
    simp [hl]
  rw [htx]
  generalize s.errors p (fun c => { c with tec := c.tec + 8 }) = u at *
  unfold State.checkBusOff
  rw [hset.self]
  by_cases hfull : 256 ≤ (s.port p).tec + 8
  · rw [if_pos ⟨hfull, hoff⟩]
    refine ⟨_, ((hset.upd _).count _ _).raise _, rfl, ?_, iff_of_true rfl hfull⟩
    exact (Nat.min_eq_left hfull).symm
  · have hfew : (s.port p).tec + 8 ≤ 256 := Nat.le_of_lt (Nat.not_le.mp hfull)
    rw [if_neg (fun h => hfull h.1)]
    refine ⟨_, hset, rfl, (Nat.min_eq_right hfew).symm, iff_of_false ?_ hfull⟩
    exact fun h => Bool.false_ne_true (hoff.symm.trans h)

/-! ### Receiving -/

theorem State.canSet_of_port {t : State} {q : Nat} (hforce : (t.port q).inForce = (s.port q).inForce) (hod : t.od = s.od) (sub : Nat) : t.canSet q sub = s.canSet q sub := by
  unfold State.canSet CanPort.force State.canNum State.num
  rw [hforce, hod]

theorem State.discards_of_port {t : State} {q : Nat} (hforce : (t.port q).inForce = (s.port q).inForce) (hod : t.od = s.od) (f : CanFrame) :
    t.discards q f = s.discards q f := by
  unfold State.discards
  simp only [State.canSet_of_port hforce hod]

theorem State.dfltOf_1016 (s : State) (sub : Nat) : s.dfltOf 0x1016 sub = entryDflt 0x1016 sub :=
  (if_neg (by decide)).trans ((if_neg (by omega)).trans (if_neg (by omega)))

theorem State.heartbeatNode_of_port {t : State} {q : Nat} (hforce : (t.port q).inForce = (s.port q).inForce) (havail : (t.port q).avail = (s.port q).avail)
    (hod : t.od = s.od) (hboot : t.boot = s.boot) (f : CanFrame) : t.heartbeatNode q f = s.heartbeatNode q f := by
  have hcons (n : Nat) : t.consumersOf n = s.consumersOf n := by
    unfold State.consumersOf State.val State.num
    simp only [State.dfltOf_1016, hod]
  unfold State.heartbeatNode State.fullCan State.canOpen
  simp only [State.canSet_of_port hforce hod, State.discards_of_port hforce hod, hcons, havail, hboot]

theorem canRx_takes (hatt : s.attached p = true) (f : FrameFmt) (id : BitVec 29) (r c : Bool) (d : List Byte) (hroom : (s.port p).rx.length < 64)
    (hnode : s.heartbeatNode p { fmt := f, id := id.toNat, rtr := r, sec := c, data := d } = none) : Completes (.canRx p f id r c d) s (fun t =>
        (t.port p).rx = (s.port p).rx ++ [{ fmt := f, id := id.toNat, rtr := r, sec := c, data := d }] ∧ t.counter (canCnt p) 1 = satInc (s.counter (canCnt p) 1)
        ∧ (∀ q, q ≠ p.val → t.port q = s.port q) ∧ t = { s with can := t.can, rep := t.rep, free := t.free }) := by
  obtain ⟨n, k, hset, ⟨e, hk⟩, hcount⟩ := s.receive_spec p
  have hexec : exec (.canRx p f id r c d) s = .next ((s.receive p).updPort p
      (fun x => { x with rx := x.rx ++ [{ fmt := f, id := id.toNat, rtr := r, sec := c, data := d }] })) := by
    show execCanRx p f id r c d s = _
    unfold execCanRx
    dsimp only
    rw [if_neg (by simp [hatt]), if_neg (by rw [hset.self, hk]; simpa using hroom),
      State.heartbeatNode_of_port (s := s) (by rw [hset.self, hk]) (by rw [hset.self, hk]) (by rw [hset.frame]) (by rw [hset.frame]), hnode]
  generalize s.receive p = u at *
  obtain ⟨hself, hother, hframe⟩ := hset.upd (fun x => { x with rx := x.rx ++ [{ fmt := f, id := id.toNat, rtr := r, sec := c, data := d }] })
  refine ⟨_, hexec, ?_, (hcount.updPort p _).counter (canCnt_own p (by decide) (by decide)) (by simp), hother, ?_⟩
  · rw [hself, hk]
  · rw [hset.frame]; rfl

theorem canRx_drops (hatt : s.attached p = true) (f : FrameFmt) (id : BitVec 29) (r c : Bool) (d : List Byte) (hfull : (s.port p).rx.length = 64) :
    Completes (.canRx p f id r c d) s (fun t => (t.port p).rx = (s.port p).rx ∧ Counted s t [key (canCnt p) 1, key (canCnt p) 9]
      ∧ t = { s with can := t.can, rep := t.rep, free := t.free }) := by
  obtain ⟨n, k, hset, ⟨e, hk⟩, hcount⟩ := s.receive_spec p
  have hexec : exec (.canRx p f id r c d) s = .next (((s.receive p).count (canCnt p) 9).raise { code := 0x1D06, unit := p }) := by
    show execCanRx p f id r c d s = _
    unfold execCanRx
    dsimp only
    rw [if_neg (by simp [hatt]), if_pos (by rw [hset.self, hk]; exact hfull.ge)]
  generalize s.receive p = u at *
  obtain ⟨hself, -, hframe⟩ := (hset.count (canCnt p) 9).raise { code := 0x1D06, unit := p }
  refine ⟨_, hexec, ?_, (hcount.and_count ?_).raise _, ?_⟩
  · rw [hself, hk]
  · unfold key; simp
  · rw [hset.frame]; rfl

theorem canFrameDiscard_drops (hatt : s.attached p = true) {f : CanFrame} {q : List CanFrame} (hrx : (s.port p).rx = f :: q) (hdis : s.discards p f = true) :
    Completes (.canFrameDiscard p) s (fun t => t.port p = { s.port p with rx := q } ∧ Counted s t [key (canCnt p) 0x0E] ∧ t = { s with can := t.can, rep := t.rep }) := by
  have htake : s.takeFrame p = s.updPort p (fun c => { c with rx := q }) := by
    unfold State.takeFrame
    rw [hrx]
  have hexec : exec (.canFrameDiscard p) s = .next ((s.updPort p (fun c => { c with rx := q })).count (canCnt p) 0x0E) := by
    show execCanFrameDiscard p s = _
    unfold execCanFrameDiscard State.onPort
    dsimp only
    rw [hrx, List.head?_cons]
    dsimp only
    rw [if_pos hdis, if_pos hatt, htake]
  obtain ⟨hself, -, hframe⟩ := ((PortSet.refl s p).upd (fun c => { c with rx := q })).count (canCnt p) 0x0E
  exact ⟨_, hexec, hself, (Counted.count _).of_base rfl, hframe⟩

/-- The field die wakes by a CAN port's wake-up once (15 R373). -/
theorem canWakeup_arms (d w : Bool) (hon : s.fd.on = true) (hord : s.fd.autonomy = .orderly) (hfirst : s.fd.canWake = false)
    (harm : (s.fd.canArm.at 0 p.val = 1 ∧ d = true) ∨ (s.fd.canArm.at 0 p.val = 2 ∧ w = true)) : Completes (.canWakeup p d w) s (fun t =>
      t.fd.canWake = true ∧ t.can = s.can ∧ t = { s with fd := t.fd, rep := t.rep }) := by
  obtain ⟨u, hu, hwake, hframe⟩ : ∃ u : State, ({ s with fd := { s.fd with canWake := true } } : State).fieldWake 5 = u ∧ u.fd.canWake = true
      ∧ u = { s with fd := u.fd } := by
    refine ⟨_, rfl, ?_⟩
    unfold State.fieldWake
    split <;> exact ⟨rfl, rfl⟩
  have hexec : exec (.canWakeup p d w) s = .next (u.fdRaise { code := 0x1D09, unit := p }) := by
    refine congrArg Host.Outcome.next ((if_pos ?_).trans (by rw [hu]))
    rcases harm with ⟨h, h'⟩ | ⟨h, h'⟩ <;> simp [hon, hord, hfirst, h, h']
  refine ⟨_, hexec, ?_⟩
  unfold State.fdRaise
  split
  · refine ⟨hwake, ?_, ?_⟩ <;> rw [hframe] <;> rfl
  · refine ⟨hwake, ?_, ?_⟩ <;> rw [hframe]

/-- Settles O49: the port is followed through each operation by `PortSet`. -/
theorem canFrames : Obligations.CanFrames := by
  unfold Obligations.CanFrames
  intro s p havail hset hshort
  have hatt := State.attached_of havail hset
  refine ⟨fun m q hoff hl htx => ?_, fun hoff => ?_, fun h hoff => ?_, canRx_takes hatt, canRx_drops hatt, fun f q hrx hdis => canFrameDiscard_drops hatt hrx hdis,
    fun d w hon hord hfirst harm => canWakeup_arms d w hon hord hfirst harm⟩
  · have hsends := canFrameTransmit_sends hatt hshort hoff (CanPort.nextTx_head hl htx)
    refine ⟨⟨s.txAcked p m, hsends .acked, ?_⟩, fun hfew => ⟨s.txAckError p m, hsends .ackError, ?_⟩, s.txError p m, hsends .otherError, ?_⟩
    · obtain ⟨⟨hself, hother, hframe⟩, hcount⟩ := txAcked_spec s p m
      refine ⟨?_, ?_, ?_, hcount, hother, hframe⟩
      · rw [hself]
        change (s.port p).tx.erase m = q
        rw [htx, List.erase_cons_head]
      · rw [hself]
      · rw [hself]
    · obtain ⟨⟨hself, hother, hframe⟩, hcount⟩ := txAckError_spec hl hfew m
      obtain ⟨htx', hlonely, -, htec⟩ := (s.port p).ackFailed_fields
      exact ⟨(congrArg CanPort.tx hself).trans htx', (congrArg CanPort.lonely hself).trans hlonely, hcount, (congrArg CanPort.tec hself).trans htec, hother, hframe⟩
    · obtain ⟨k, ⟨hself, hother, hframe⟩, hktx, htec, hbus⟩ := txError_spec hl hoff m
      refine ⟨(congrArg CanPort.tx hself).trans hktx, (congrArg CanPort.tec hself).trans htec, ?_, hother, hframe⟩
      rw [hself]
      exact hbus
  · obtain ⟨hself, hother, hframe⟩ := ((PortSet.refl s p).upd (fun c => { c with busOff := false, tec := 0, recErr := 0 })).raise { code := 0x1D03, unit := p }
    exact ⟨_, congrArg Host.Outcome.next (if_pos hoff), hself, hother, hframe⟩
  · obtain ⟨hself, hother, hframe⟩ := (PortSet.refl s p).errors (fun c => { c with recErr := min 255 (c.recErr + (if h then 8 else 1)) })
    exact ⟨_, congrArg Host.Outcome.next (if_neg (by simp [hatt, hoff])), hself, hother, hframe⟩

end Machine
end Sys2Proof
end

section
/-!
REFUTATION. Sources of the Event Concentrator: the events that reporting itself raises while one write of SWSET is served.
-/
namespace Sys2Proof
namespace Machine

/-- Two software sources of priority 1, whose targets 6 and 7 are MSI-X vectors that may not be sent; 28B0h:07 is two short of its last value. -/
def twoVectors : State :=
  { State.reset with rep := { running := true, cnt := [(key 0x28B0 7, 0xFFFFFFFD)], evc := { src := [(256, 0x61), (257, 0x71)] } } }

theorem twoVectors_roomy : twoVectors.roomy := by
  intro k
  change (if key 0x28B0 7 = k then (0xFFFFFFFD : BitVec 32) else 0) ≠ 0xFFFFFFFE
  split <;> decide

/-- Refutes O45: a write of SWSET that makes two sources occur may hold two MSI-X messages and count 28B0h:07 twice, from a value that `roomy` admits to the last one;
EV-1F01 is then entered, and its own source 79 (the class of the events 1Fxxh) has an occurrence, which the statement denies of every source below 256. -/
theorem not_evcSources : ¬ Obligations.EvcSources := by
  unfold Obligations.EvcSources
  intro h
  obtain ⟨-, hswset, -⟩ := h twoVectors ⟨rfl, rfl⟩ twoVectors_roomy
  have hquiet : ∀ k, k < 32 → (twoVectors.rep.evc.state (256 + k)).c < 254 := by decide
  obtain ⟨t, hexec, -, hstands, -⟩ := hswset 3 hquiet
  have hsource := hstands 79 (.inl (by decide))
  cases hexec
  exact absurd hsource (by decide +kernel)

end Machine
end Sys2Proof
end

section
/-!
PROOF. Ethernet and its clock (12 R311-R318): the clock, the links, and the frames that pass between the wire and the rings.
-/
namespace Sys2Proof
namespace Machine

variable {s : State} {m : Fin 2}

theorem State.macAt_of_upd {t : State} {n : Nat} {f : Mac → Mac} (h : t.host.mac = s.host.mac.upd {} n f) (k : Nat) :
    t.macAt k = if k = n then f (s.macAt n) else s.macAt k := by
  unfold State.macAt
  rw [h]
  exact Tab.at_upd ..

/-! ### The clock -/

/-- At the moment it is set the clock reads what was written. -/
theorem phcNs_at_set {t : State} {ns : Nat} (hset : t.host.phcSet = ns) (hat : t.host.phcAt = t.clk.ref) (hfrac : t.host.phcFrac = 0) : t.phcNs = ns := by
  unfold State.phcNs State.phcFine
  rw [hset, hat, hfrac]
  simp

theorem Tab.at_map_range {α : Type} (d : α) (f : Nat → α) {n k : Nat} (hk : k < n) : Tab.at d ((List.range n).map (fun i => (i, f i))) k = f k := by
  have hmem (l : List Nat) (h : k ∈ l) : Tab.at d (l.map (fun i => (i, f i))) k = f k := by
    induction l with
    | nil => exact absurd h List.not_mem_nil
    | cons i r ih =>
      rw [List.map_cons, Tab.at]
      split
      · next hi => rw [hi]
      · next hi => exact ih ((List.mem_cons.mp h).resolve_left (fun hki => hi hki.symm))
  exact hmem _ (List.mem_range.mpr hk)

theorem ppsEdge_latches (hrun : s.computeRuns = true) : Completes .ppsEdge s (fun t =>
    (∀ n, n < 8 → t.host.ppsPos.at 0 n = (s.viewAt n).pos) ∧ t.ethPps = true
    ∧ t = { s with host := { s.host with ppsAt := some s.clk.ref, ppsPos := t.host.ppsPos }, rep := t.rep }) := by
  refine ⟨_, congrArg Host.Outcome.next (if_neg (by simp [hrun])), fun n hn => Tab.at_map_range 0 (fun n => (s.viewAt n).pos) hn, ?_, rfl⟩
  exact decide_eq_true (Nat.lt_add_of_pos_right (by decide))

/-! ### Frames received -/

theorem rxDrop_counted {ks : List Nat} {t : State} (h : Counted s t ks) {n : Nat} (hnew : key (0x28A1 + n) 3 ∉ ks) :
    Counted s (t.rxDrop n) (ks ++ [key (0x28A1 + n) 3]) := (h.and_count hnew).raiseSec _ _

/-- A good frame is counted and stored (12 R313). -/
theorem ethFrameReceive_good (hrun : s.computeRuns = true) (hawake : s.pwr.entering = false) (hmode : s.macMode m ≠ 0) {f : List Byte} (hmin : 60 ≤ f.length)
    (hmax : f.length ≤ 9018) : exec (.ethFrameReceive m f true) s = .next ((s.count (0x28A1 + m) 1).rxStore m f) :=
  congrArg Host.Outcome.next ((if_neg (by simp [hrun, hawake, hmode])).trans ((if_neg (by decide)).trans (if_neg (by omega))))

theorem State.rxStore_none {f : List Byte} (h : (s.macAt m).rxRing (s.rxQueue m f) = none) : s.rxStore m f = s.rxDrop m := by
  unfold State.rxStore
  dsimp only
  rw [h]

theorem State.rxStore_ok {f : List Byte} {r : Nat} {u : State} (h : (s.macAt m).rxRing (s.rxQueue m f) = some r)
    (hput : s.putRecord (.mac m) r (s.rxRecord f) = (u, .ok)) : s.rxStore m f = u.occur (80 + 4 * m + s.rxQueue m f) := by
  unfold State.rxStore
  dsimp only
  rw [h]
  dsimp only
  rw [hput]

theorem State.rxStore_full {f : List Byte} {r : Nat} {u : State} (h : (s.macAt m).rxRing (s.rxQueue m f) = some r)
    (hput : s.putRecord (.mac m) r (s.rxRecord f) = (u, .full)) : s.rxStore m f = u.rxDrop m := by
  unfold State.rxStore
  dsimp only
  rw [h]
  dsimp only
  rw [hput]

theorem ethFrameReceive_frames (hrun : s.computeRuns = true) (hawake : s.pwr.entering = false) (hmode : s.macMode m ≠ 0) (f : List Byte) :
    Completes (.ethFrameReceive m f false) s (fun t => Counted s t [key (0x28A1 + m) 4] ∧ t = { s with rep := t.rep })
      ∧ ((f.length < 60 ∨ 9018 < f.length) → Completes (.ethFrameReceive m f true) s (fun t => Counted s t [key (0x28A1 + m) 5] ∧ t = { s with rep := t.rep }))
      ∧ (60 ≤ f.length → f.length ≤ 9018 →
        ((s.macAt m).rxRing (s.rxQueue m f) = none → Completes (.ethFrameReceive m f true) s (fun t =>
          Counted s t [key (0x28A1 + m) 1, key (0x28A1 + m) 3] ∧ t = { s with rep := t.rep }))
        ∧ (∀ r u, (s.macAt m).rxRing (s.rxQueue m f) = some r → (s.count (0x28A1 + m) 1).putRecord (.mac m) r (s.rxRecord f) = (u, .ok) →
          Completes (.ethFrameReceive m f true) s (fun t => t = { u with rep := t.rep } ∧ (∀ k, k ∉ ownCounters → t.tally k = u.tally k)))
        ∧ (∀ r u, (s.macAt m).rxRing (s.rxQueue m f) = some r → (s.count (0x28A1 + m) 1).putRecord (.mac m) r (s.rxRecord f) = (u, .full) →
          Completes (.ethFrameReceive m f true) s (fun t => Counted u t [key (0x28A1 + m) 3] ∧ t = { u with rep := t.rep }))) := by
  have hready : ¬(!s.computeRuns || s.pwr.entering || s.macMode m == 0) = true := by simp [hrun, hawake, hmode]
  refine ⟨⟨_, congrArg Host.Outcome.next ((if_neg hready).trans (if_pos (by decide))), Counted.count s, rfl⟩,
    fun hlen => ⟨_, congrArg Host.Outcome.next ((if_neg hready).trans ((if_neg (by decide)).trans (if_pos hlen))), Counted.count s, rfl⟩,
    fun hmin hmax => ⟨fun hnone => ?_, fun r u hring hput => ?_, fun r u hring hput => ?_⟩⟩
  · refine ⟨_, (ethFrameReceive_good hrun hawake hmode hmin hmax).trans (congrArg Host.Outcome.next (State.rxStore_none hnone)), ?_, rfl⟩
    exact rxDrop_counted (Counted.count s) (by unfold key; simp)
  · refine ⟨_, (ethFrameReceive_good hrun hawake hmode hmin hmax).trans (congrArg Host.Outcome.next (State.rxStore_ok hring hput)), rfl, fun k hk => ?_⟩
    exact State.tally_occur _ _ k hk
  · refine ⟨_, (ethFrameReceive_good hrun hawake hmode hmin hmax).trans (congrArg Host.Outcome.next (State.rxStore_full hring hput)), ?_, rfl⟩
    exact rxDrop_counted (Counted.refl u) List.not_mem_nil

/-! ### Frames sent -/

/-- A frame leaves the MAC and is counted (12 R314). -/
def State.frameSent (s : State) (m : Fin 2) (x : List Byte) : State := (s.updMac m (fun k => { k with sent := x })).count (0x28A1 + m) 2

theorem ethFrameTransmit_sends {q : Fin 4} {r : Nat} (hr : (s.macAt m).txRing q = r) (hrun : s.computeRuns = true) (hawake : s.pwr.entering = false)
    (hmode : s.macMode m ≠ 0) {h f : List Byte} {u w : State} (hcontent : 16 ≤ (s.ring r).content)
    (hhead : s.readPieces (.mac m) 0 (s.ringBytes r (s.ring r).tail 16) = (u, some h)) (hwhole : (16 + field h 0 2 + 3) / 4 * 4 ≤ (s.ring r).content)
    (hbody : u.readPieces (.mac m) 0 (u.ringBytes r (((s.ring r).tail + 16) % 2 ^ 32) (field h 0 2)) = (w, some f)) (hstamp : bit (field h 2 1) 1 = false) :
    exec (.ethFrameTransmit m q) s = .next ((((w.frameSent m (outFrame (field h 2 1) (w.phcNs + w.num 0x2D00 0x0A 0) f)).releaseOn (.mac m) r
      ((16 + field h 0 2 + 3) / 4 * 4)).1).occur (88 + 4 * m + q)) := by
  subst hr
  show execEthFrameTransmit m q s = _
  unfold execEthFrameTransmit
  dsimp only
  rw [if_neg (by simp [hrun, hawake, hmode, hcontent]), hhead]
  dsimp only
  rw [if_neg (Nat.not_lt.mpr hwhole), hbody]
  dsimp only
  rw [if_neg (by rw [hstamp]; exact Bool.false_ne_true)]
  rfl

theorem State.frameSent_counted (s : State) (m : Fin 2) (x : List Byte) : Counted s (s.frameSent m x) [key (0x28A1 + m) 2] :=
  (Counted.count (s.updMac m (fun k => { k with sent := x }))).of_base rfl

/-- A frame has left and its record is released (12 R314). -/
theorem State.frameReleased_spec (s : State) (m : Fin 2) (x : List Byte) (r id : Nat) (d : Ring) {t : State} (ht : ((s.frameSent m x).putRing r d).occur id = t) :
    (∀ k, t.macAt k = if k = m.val then { s.macAt m with sent := x } else s.macAt k) ∧ Counted s t [key (0x28A1 + m) 2]
    ∧ (∀ k, t.ring k = if k = r then d else s.ring k)
    ∧ t = { s with host := { s.host with mac := t.host.mac }, rg := { s.rg with ring := t.rg.ring }, rep := t.rep } := by
  subst ht
  refine ⟨fun k => State.macAt_of_upd (s := s) (f := fun y => { y with sent := x }) rfl k, ?_, fun k => State.ring_of_put (s := s) rfl k, rfl⟩
  have hcount : Counted s ((s.frameSent m x).putRing r d) [key (0x28A1 + m) 2] := (s.frameSent_counted m x).of_rep rfl
  exact hcount.occur id

theorem State.ringOpen_frameSent {r : Nat} (h : s.ringOpen (.mac m) r) (x : List Byte) : (s.frameSent m x).ringOpen (.mac m) r := h

/-- Settles O40: the statement's clauses are the branches of the four commands; the release of a frame's record is that of 07 (`releaseOn_open`). -/
theorem ethernetAndClock : Obligations.EthernetAndClock := by
  unfold Obligations.EthernetAndClock
  intro s m
  refine ⟨fun sec ns => ⟨_, rfl, phcNs_at_set rfl rfl rfl, rfl⟩, ppsEdge_latches, fun hstop => ⟨?_, fun f b => ?_, fun q => ?_, fun c => ?_⟩,
    fun c hrun => ⟨fun hnew => ?_, fun hsame => ?_⟩, fun f hrun hawake hmode => ethFrameReceive_frames hrun hawake hmode f,
    fun q hrun hawake hmode => ⟨fun hfew => ?_, fun h f u w hcontent hhead hwhole hbody hstamp hrg hopen hcq => ?_⟩⟩
  · exact ⟨s, congrArg Host.Outcome.next (if_pos (by simp [hstop])), rfl⟩
  · exact ⟨s, congrArg Host.Outcome.next (if_pos (by simp [hstop])), rfl⟩
  · exact ⟨s, congrArg Host.Outcome.next (if_pos (by simp [hstop])), rfl⟩
  · exact ⟨s, congrArg Host.Outcome.next (if_pos (by simp [hstop])), rfl⟩
  · refine ⟨_, congrArg Host.Outcome.next (if_neg (by simp [hrun, hnew])), ?_, fun k hk => ?_, Counted.count_raise rfl _, rfl⟩
    · exact (State.macAt_of_upd (s := s) (n := m.val) (f := fun x => { x with link := c.val }) rfl _).trans (if_pos rfl)
    · exact (State.macAt_of_upd (s := s) (f := fun x => { x with link := c.val }) rfl k).trans (if_neg hk)
  · exact ⟨s, congrArg Host.Outcome.next (if_pos (by simp [hsame])), rfl⟩
  · exact ⟨s, congrArg Host.Outcome.next (if_pos (by simp [hfew])), rfl⟩
  · generalize hr : (s.macAt m).txRing q = r at *
    have hexec := ethFrameTransmit_sends hr hrun hawake hmode hcontent hhead hwhole hbody hstamp
    generalize hx : outFrame (field h 2 1) (w.phcNs + w.num 0x2D00 0x0A 0) f = x at *
    generalize hn : (16 + field h 0 2 + 3) / 4 * 4 = n at *
    have hring (k : Nat) : w.ring k = s.ring k := by unfold State.ring; rw [hrg]
    have hrelease := State.releaseOn_open (State.ringOpen_frameSent hopen x) (n := n) (by omega) (by omega) (by rw [← hring] at hwhole; exact hwhole)
    have hsent : (w.frameSent m x).ring r = s.ring r := hring r
    rw [hsent, hcq, if_neg Bool.false_ne_true] at hrelease
    rw [hrelease] at hexec
    obtain ⟨hmac, hcount, hput, hframe⟩ := w.frameReleased_spec m x r (88 + 4 * m + q) _ rfl
    exact ⟨_, hexec, congrArg Mac.sent ((hmac m).trans (if_pos rfl)), fun k hk => (hmac k).trans (if_neg hk), hcount,
      congrArg Ring.tail ((hput r).trans (if_pos rfl)), fun k hk => ((hput k).trans (if_neg hk)).trans (hring k), hframe⟩

end Machine
end Sys2Proof
end

section
/-!
PROOF. The evidence codec (12 R314-R319): submissions, starts and ends of jobs.
-/
namespace Sys2Proof
namespace Machine

variable {s : State}

/-! ### Submission -/

theorem State.codecResult_eq {req : Requester} {k : Nat} (hreq : softRequester req = some k) (st code : Nat) : s.codecResult req st code =
    { s with host := { s.host with codec := { s.host.codec with subres := s.host.codec.subres.put k (code * 2 ^ 60 + s.queuedJobs st % 256) } } } := by
  unfold State.codecResult
  rw [hreq]

/-- The submission result that a requester reads: the code above, the jobs that its station has queued below (12 R315). -/
theorem State.codecResult_at {req : Requester} {k : Nat} (hreq : softRequester req = some k) (st code : Nat) :
    (s.codecResult req st code).host.codec.subres.at 0 k = code * 2 ^ 60 + s.queuedJobs st % 256 := by
  rw [State.codecResult_eq hreq]
  exact Tab.at_put_same ..

theorem State.codecResult_code {req : Requester} {k : Nat} (hreq : softRequester req = some k) (st code : Nat) :
    (s.codecResult req st code).host.codec.subres.at 0 k / 2 ^ 60 = code := by
  rw [State.codecResult_at hreq]
  omega

theorem State.codecResult_frame {req : Requester} {k : Nat} (hreq : softRequester req = some k) (st code : Nat) : s.codecResult req st code =
    { s with host := { s.host with codec := { s.host.codec with subres := (s.codecResult req st code).host.codec.subres } } } := by
  rw [State.codecResult_eq hreq]

theorem fin_ofNat_eq {n v : Nat} (h : v < n + 1) : (⟨v, h⟩ : Fin (n + 1)) = Fin.ofNat (n + 1) v := Fin.ext (Nat.mod_eq_of_lt h).symm

theorem codecSubmit_misaligned {req : Requester} {a : BitVec 40} {st : Nat} (hst : s.attrib req = st) (hlt : st < 32) (ha : a.toNat % 64 ≠ 0) :
    exec (.codecSubmit req a) s = .next (s.codecResult req st 3) := by
  subst hst
  exact congrArg Host.Outcome.next ((dif_pos hlt).trans (if_pos ha))

theorem codecSubmit_read {req : Requester} {a : BitVec 40} {st : Nat} (hst : s.attrib req = st) (hlt : st < 32) (ha : a.toNat % 64 = 0) {u : State} {d : List Byte}
    (hread : s.fabric (.codec 0 (Fin.ofNat 32 st)) a.toNat (.read 64) .none 0 0 = (u, some d)) : exec (.codecSubmit req a) s = .next
      (if CodecJob.ok { station := st, desc := d } = false then u.codecResult req st 3
      else if 64 ≤ u.host.codec.queue.length ∨ 16 ≤ u.queuedJobs st then (u.count 0x28A3 5).codecResult req st 1
      else ({ u with host := { u.host with codec := { u.host.codec with queue := u.host.codec.queue ++ [{ station := st, desc := d }] } } } : State).codecResult req st 0) := by
  subst hst
  refine congrArg Host.Outcome.next ((dif_pos hlt).trans ((if_neg (by omega)).trans ?_))
  rw [fin_ofNat_eq hlt, hread]

theorem codecSubmit_unreadable {req : Requester} {a : BitVec 40} {st : Nat} (hst : s.attrib req = st) (hlt : st < 32) (ha : a.toNat % 64 = 0) {u : State}
    (hread : s.fabric (.codec 0 (Fin.ofNat 32 st)) a.toNat (.read 64) .none 0 0 = (u, none)) : exec (.codecSubmit req a) s = .next (u.codecResult req st 3) := by
  subst hst
  refine congrArg Host.Outcome.next ((dif_pos hlt).trans ((if_neg (by omega)).trans ?_))
  rw [fin_ofNat_eq hlt, hread]

theorem State.queuedJobs_append {t : State} {j : CodecJob} (h : t.host.codec.queue = s.host.codec.queue ++ [j]) : t.queuedJobs j.station = s.queuedJobs j.station + 1 := by
  unfold State.queuedJobs
  rw [h, List.filter_append, List.length_append]
  simp

theorem codecSubmit_queues {req : Requester} {a : BitVec 40} {st k : Nat} (hst : s.attrib req = st) (hlt : st < 32) (hreq : softRequester req = some k)
    (ha : a.toNat % 64 = 0) {u : State} {d : List Byte} (hread : s.fabric (.codec 0 (Fin.ofNat 32 st)) a.toNat (.read 64) .none 0 0 = (u, some d))
    (hok : CodecJob.ok { station := st, desc := d } = true) (hroom : u.host.codec.queue.length < 64) (hfew : u.queuedJobs st < 16) :
    Completes (.codecSubmit req a) s (fun t =>
      t.host.codec.queue = u.host.codec.queue ++ [{ station := st, desc := d }] ∧ t.host.codec.subres.at 0 k = u.queuedJobs st + 1
      ∧ t = { u with host := { u.host with codec := { u.host.codec with queue := t.host.codec.queue, subres := t.host.codec.subres } } }) := by
  have hexec := codecSubmit_read hst hlt ha hread
  rw [if_neg (by simp [hok]), if_neg (by omega)] at hexec
  refine ⟨_, hexec, ?_, ?_, ?_⟩
  · rw [State.codecResult_eq hreq]
  · rw [State.codecResult_at hreq, State.queuedJobs_append (s := u) (j := { station := st, desc := d }) rfl]
    change 0 * 2 ^ 60 + (u.queuedJobs st + 1) % 256 = u.queuedJobs st + 1
    omega
  · rw [State.codecResult_eq hreq]

/-! ### The end of a job -/

/-- The state of an engine whose job has ended (12 R316). -/
def State.engineFree (s : State) (e : Fin 3) : State := { s with host := { s.host with codec := { s.host.codec with run := s.host.codec.run.put e none } } }

theorem codecJobComplete_ends {e : Fin 3} {j : CodecJob} (hrun : s.computeRuns = true) (hjob : s.codecRun e = some j) (hst : j.station < 32) {o r : List Byte} {f : Fin 3}
    {b : Bool} {u : State} {x : JobEnd} (hwork : (if j.encodes then (s.engineFree e).encodeJob (.codec e (Fin.ofNat 32 j.station)) j o r
      else (s.engineFree e).decodeJob (.codec e (Fin.ofNat 32 j.station)) j o r b) = (u, x)) :
    exec (.codecJobComplete e o r f b) s = .next (u.finishCodecJob (.codec e (Fin.ofNat 32 j.station)) j x f.val) := by
  show execCodecJobComplete e o r f b s = _
  unfold execCodecJobComplete
  rw [if_neg (by simp [hrun]), hjob]
  dsimp only
  rw [dif_pos hst, fin_ofNat_eq hst]
  change Host.Outcome.next (match (if j.encodes then (s.engineFree e).encodeJob (.codec e (Fin.ofNat 32 j.station)) j o r
      else (s.engineFree e).decodeJob (.codec e (Fin.ofNat 32 j.station)) j o r b) with
    | (s, x) => s.finishCodecJob (.codec e (Fin.ofNat 32 j.station)) j x f.val) = _
  rw [hwork]

/-- The result that a job leaves in memory: its status, the frame type where it made a picture, bytes, start and time (12 Table 12-7). -/
def jobResult (x : JobEnd) (frameType time : Nat) : List Byte :=
  leBytes 1 x.status.code ++ leBytes 1 (if x.status = .ok ∨ x.status = .overflow then frameType else 0) ++ [0, 0] ++ leBytes 4 x.bytes ++ leBytes 4 x.start
    ++ leBytes 4 (time % 2 ^ 32)

theorem State.finishCodecJob_written {req : Requester} {j : CodecJob} {x : JobEnd} {n : Nat} (hflag : j.flag 2 = false) {w : State}
    (hwrite : ∃ z, s.fabric req (field j.desc 40 8) (.write (jobResult x n s.refUs)) .none 0 0 = (w, some z)) :
    s.finishCodecJob req j x n = (w.countJob x.status).occur 99 := by
  obtain ⟨z, hz⟩ := hwrite
  unfold jobResult at hz
  unfold State.finishCodecJob
  dsimp only
  rw [hz, if_neg (by rw [hflag]; exact Bool.false_ne_true)]

theorem State.countJob_eq (s : State) (x : JobStatus) : s.countJob x = { s with rep := (s.countJob x).rep } := by
  cases x <;> rfl

/-- A job whose result is written ends by its status, counted as `ks` says. -/
theorem codecJobComplete_counted {e : Fin 3} {j : CodecJob} (hrun : s.computeRuns = true) (hjob : s.codecRun e = some j) (hst : j.station < 32) (hflag : j.flag 2 = false)
    {o r : List Byte} {f : Fin 3} {b : Bool} {u w : State} {x : JobEnd}
    (hwork : (if j.encodes then (s.engineFree e).encodeJob (.codec e (Fin.ofNat 32 j.station)) j o r
      else (s.engineFree e).decodeJob (.codec e (Fin.ofNat 32 j.station)) j o r b) = (u, x))
    (hwrite : ∃ z, u.fabric (.codec e (Fin.ofNat 32 j.station)) (field j.desc 40 8) (.write (jobResult x f.val u.refUs)) .none 0 0 = (w, some z))
    {ks : List Nat} (hcount : Counted w (w.countJob x.status) ks) : Completes (.codecJobComplete e o r f b) s (fun t => Counted w t ks ∧ t = { w with rep := t.rep }) := by
  refine ⟨_, (codecJobComplete_ends hrun hjob hst hwork).trans (congrArg Host.Outcome.next (State.finishCodecJob_written hflag hwrite)), hcount.occur 99, ?_⟩
  have hframe := w.countJob_eq x.status
  generalize w.countJob x.status = v at *
  rw [hframe]
  rfl

theorem codecJobStart_starts {e : Fin 3} (hrun : s.computeRuns = true) (hawake : s.pwr.entering = false) (hidle : s.codecRun e = none) {j : CodecJob}
    (hfind : s.host.codec.queue.find? (fun x => x.engine == e.val) = some j) : Completes (.codecJobStart e) s (fun t =>
      t.codecRun e = some j ∧ (∀ k, k ≠ e.val → t.codecRun k = s.codecRun k) ∧ t.host.codec.queue = s.host.codec.queue.erase j
      ∧ t = { s with host := { s.host with codec := { s.host.codec with queue := t.host.codec.queue, run := t.host.codec.run } } }) := by
  have hexec : exec (.codecJobStart e) s = .next { s with host := { s.host with codec := { s.host.codec with
      queue := s.host.codec.queue.erase j, run := s.host.codec.run.put e.val (some j) } } } := by
    refine congrArg Host.Outcome.next ((if_neg (by simp [hrun, hawake, hidle])).trans ?_)
    rw [hfind]
  exact ⟨_, hexec, Tab.at_put_same .., fun k hk => (Tab.at_put ..).trans (if_neg hk), rfl, rfl⟩

/-- Settles O41: a submission ends in one of the answers of `codecResult`; a job that ends is counted by the status that its work gives. -/
theorem evidenceCodec : Obligations.EvidenceCodec := by
  unfold Obligations.EvidenceCodec
  intro s e
  refine ⟨fun req a st k hst hlt hreq => ⟨fun ha => ?_, fun u d ha hread => ⟨fun hbad => ?_, fun hok hroom hfew => codecSubmit_queues hst hlt hreq ha hread hok hroom hfew,
      fun hok hfull => ?_⟩, fun u ha hread => ?_⟩,
    fun hrun hawake hidle => ⟨fun j hfind => codecJobStart_starts hrun hawake hidle hfind, fun hnone => ?_⟩, fun hbusy => ?_, fun hidle o r f b => ?_,
    fun j o r f u w y hrun hjob hst hflag => ⟨fun hdec hread hwrite => ?_, fun n start henc hwork hwrite => ?_, fun henc hclaim hwrite => ?_⟩⟩
  · exact ⟨_, codecSubmit_misaligned hst hlt ha, State.codecResult_at hreq st 3, State.codecResult_frame hreq st 3⟩
  · have hexec := codecSubmit_read hst hlt ha hread
    rw [if_pos hbad] at hexec
    exact ⟨_, hexec, State.codecResult_frame hreq st 3, State.codecResult_code hreq st 3⟩
  · have hexec := codecSubmit_read hst hlt ha hread
    rw [if_neg (by simp [hok]), if_pos hfull] at hexec
    refine ⟨_, hexec, (Counted.count u).of_rep ?_, State.codecResult_code hreq st 1, ?_⟩
    · rw [State.codecResult_eq hreq]
    · rw [State.codecResult_eq hreq]
      rfl
  · exact ⟨_, codecSubmit_unreadable hst hlt ha hread, State.codecResult_code hreq st 3, State.codecResult_frame hreq st 3⟩
  · refine ⟨s, congrArg Host.Outcome.next ((if_neg (by simp [hrun, hawake, hidle])).trans ?_), rfl⟩
    rw [hnone]
  · exact ⟨s, congrArg Host.Outcome.next (if_pos (by simp [Option.isSome_iff_ne_none.mpr hbusy])), rfl⟩
  · refine ⟨s, congrArg Host.Outcome.next ?_, rfl⟩
    split
    · rfl
    · rw [hidle]
  · have hwork : (s.engineFree e).decodeJob (.codec e (Fin.ofNat 32 j.station)) j o r true = (u, ⟨.badStream, 0, 0⟩) := by
      unfold State.decodeJob State.engineFree
      rw [hread]
      rfl
    exact codecJobComplete_counted hrun hjob hst hflag ((if_neg (by simp [hdec])).trans hwork) hwrite ((Counted.count w).raiseSec _ _)
  · exact codecJobComplete_counted hrun hjob hst hflag ((if_pos henc).trans hwork) hwrite (Counted.count w)
  · obtain ⟨x, hx⟩ := hclaim
    have hwork : (s.engineFree e).encodeJob (.codec e (Fin.ofNat 32 j.station)) j o r = (u, ⟨.outputFull, 0, 0⟩) := by
      unfold State.encodeJob State.engineFree
      rw [hx]
    exact codecJobComplete_counted hrun hjob hst hflag ((if_pos henc).trans hwork) hwrite (((Counted.count w).and_count (by decide)).raiseSec _ _)

end Machine
end Sys2Proof
end

section
/-!
PROOFS. The dictionary over the mailboxes and the rule of every path (12 R306, R307, 15 R377, R378, 16 R391).
-/
namespace Sys2Proof
namespace Machine

variable {s t u : State}

/-! ### What a request brings -/

theorem State.arrive_closed {w : Waiting} (h : s.pathOpen w.path = false) : s.arrive w = s := by
  simp [State.arrive, h]

theorem State.arrive_open {w : Waiting} (h : s.pathOpen w.path = true) : s.arrive w = s.request w := by
  simp [State.arrive, h]

theorem State.request_serves {w : Waiting} (h : s.serves = true) (hrec : s.boot.recovery = false) : s.request w = s.serveOne w := by
  simp [State.request, h, hrec]

theorem State.serves_of_restarting (hrec : s.boot.recovery = false) (hre : (s.host.press.at ({} : Pressroom) 1).restarting = true) :
    s.serves = false := by
  simp [State.serves, hrec, hre]

/-- A request that meets a restarting P1 waits (15 R378). -/
theorem State.request_waits {w : Waiting} (hrun : s.computeRuns = true) (hstart : s.boot.started = true) (hrec : s.boot.recovery = false)
    (hre : (s.host.press.at ({} : Pressroom) 1).restarting = true) :
    s.request w = { s with od := { s.od with waiting := s.od.waiting ++ [w] } } := by
  simp [State.request, s.serves_of_restarting hrec hre, hrun, hstart, hre]

/-- During a long operation every request but one that met a full queue is answered with 0800 0022h (15 R377). -/
theorem State.serveReq_busy (h : s.od.longop ≠ none) (path : Path) {req : DictReq} (hreq : ∀ i j, req ≠ .queueFull i j) :
    s.serveReq path req = (s, { resp := .abort 0x08000022 }) := by
  have hbusy := Option.isSome_iff_ne_none.mpr h
  cases req with
  | queueFull i j => exact absurd rfl (hreq i j)
  | badOp i j => simp [State.serveReq, hbusy]
  | read i j m o => simp [State.serveReq, hbusy]
  | write i j l o d => simp [State.serveReq, hbusy]

theorem State.serveReq_badOp (h : s.od.longop = none) (path : Path) (i j : Nat) :
    s.serveReq path (.badOp i j) = (s, { resp := .abort 0x05040001 }) := by
  simp [State.serveReq, h]

theorem State.serveReq_write (h : s.od.longop = none) (path : Path) (i j : Nat) (l : Bool) (o : Nat) (d : List Byte) :
    s.serveReq path (.write i j l o d) = s.serveWrite path i j l o d := by
  simp [State.serveReq, h]

theorem State.serveReq_value (h : s.od.longop = none) {path : Path} (hpath : recordPath path = true) {i j : Nat} (m o : Nat) {v : Val}
    (hv : s.readEntry (pathPort path) i j = .value v) :
    s.serveReq path (.read i j m o) = (s, { resp := .value v, data := (v.toBytes.drop o).take (min m 2032), total := v.toBytes.length }) := by
  simp [State.serveReq, State.serveRead, h, hv, hpath]

theorem State.serveReq_readAbort (h : s.od.longop = none) {path : Path} {i j : Nat} (m o : Nat) {a : Nat}
    (hv : s.readEntry (pathPort path) i j = .abort a) : s.serveReq path (.read i j m o) = (s, { resp := .abort a }) := by
  simp [State.serveReq, State.serveRead, h, hv]

/-! ### The rule of every path (16 R391) -/

theorem State.readEntry_error {i j a : Nat} (h : s.namedRow i j = .error a) (q : Nat) : s.readEntry q i j = .abort a := by
  simp [State.readEntry, h]

theorem State.writeGate_error {i j a : Nat} (h : s.namedRow i j = .error a) (f : Nat) : s.writeGate f i j = .error a := by
  simp [State.writeGate, h]

theorem State.readEntry_writeOnly {i j : Nat} {r : Row} (h : s.namedRow i j = .ok r) (hacc : r.acc = .wo) (q : Nat) :
    s.readEntry q i j = .abort 0x06010001 := by
  simp [State.readEntry, h, hacc]

theorem State.writeGate_readOnly {f i j : Nat} {r : Row} (h : s.namedRow i j = .ok r) (hmay : f = 0 ∨ s.vfMayWrite f i j = true)
    (hacc : r.acc = .ro ∨ r.acc = .const) : s.writeGate f i j = .error 0x06010002 := by
  have hvf : ¬ (f ≠ 0 ∧ s.vfMayWrite f i j = false) := by
    rintro ⟨hf, hno⟩
    rcases hmay with h0 | hyes
    · exact hf h0
    · simp [hno] at hyes
  simp [State.writeGate, h, if_neg hvf, hacc.symm]

theorem State.writeGate_notOwned {f i j : Nat} {r : Row} (h : s.namedRow i j = .ok r) (hf : f ≠ 0) (hno : s.vfMayWrite f i j = false) :
    s.writeGate f i j = .error 0x06010000 := by
  simp [State.writeGate, h, hf, hno]

/-! ### Write segments (15 R378) -/

theorem State.serveWrite_error {path : Path} {i j a : Nat} (h : s.writeGate (pathFn path) i j = .error a) (l : Bool) (o : Nat) (d : List Byte) :
    s.serveWrite path i j l o d = (s.setXfer none path, { resp := .abort a }) := by
  simp [State.serveWrite, h]

section
variable {path : Path} {i j o : Nat} {r : Row} {l : Bool} {d : List Byte}
variable (hpath : recordPath path = true) (hgate : s.writeGate (pathFn path) i j = .ok r)
include hpath hgate

theorem State.serveWrite_long (hlen : 2032 < d.length) :
    s.serveWrite path i j l o d = (s.setXfer none path, { resp := .abort 0x06070010 }) := by
  simp [State.serveWrite, hgate, hpath, hlen]

theorem State.serveWrite_outOfSequence (hlen : d.length ≤ 2032) (hcont : s.continued path i j o = none) :
    s.serveWrite path i j l o d = (s.setXfer none path, { resp := .abort 0x08000000 }) := by
  simp [State.serveWrite, hgate, hpath, Nat.not_lt.mpr hlen, hcont]

theorem State.serveWrite_short (hlen : d.length < 2032) : s.serveWrite path i j false o d = (s.setXfer none path, { resp := .abort 0x08000000 }) := by
  cases hcont : s.continued path i j o with
  | none => exact s.serveWrite_outOfSequence hpath hgate hlen.le hcont
  | some x => simp [State.serveWrite, hgate, hpath, hlen.not_gt, hcont, hlen.ne]

section
variable {x : Xfer} (himage : ¬ (0x3000 ≤ i ∧ j = 1)) (hcont : s.continued path i j o = some x)
include himage hcont

theorem State.serveWrite_more (hlen : d.length = 2032) :
    s.serveWrite path i j false o d =
      ((s.setXfer none path).setXfer (some { key := x.key, next := o + 2032, data := x.data ++ d, time := (s.setXfer none path).clk.ref }) path,
        { resp := .ok, total := o + d.length }) := by
  have hplain : (decide (0x3000 ≤ i) && j == 1) = false := by simpa using himage
  simp [State.serveWrite, hgate, hpath, hlen, hcont, hplain]

theorem State.serveWrite_last (hlen : d.length ≤ 2032) :
    s.serveWrite path i j true o d = (s.setXfer none path).writeWhole path i j r (x.data ++ d) := by
  have hplain : (decide (0x3000 ≤ i) && j == 1) = false := by simpa using himage
  simp [State.serveWrite, hgate, hpath, Nat.not_lt.mpr hlen, hcont, hplain]

end
end

theorem State.continued_start (path : Path) (i j : Nat) : s.continued path i j 0 = some { key := key i j, next := 0, data := [] } := rfl

theorem State.continued_next {f : Fin 32} {i j o : Nat} (ho : o ≠ 0) {x : Xfer} (hx : (s.func f).mbx.xfer = some x) (hkey : x.key = key i j)
    (hnext : x.next = o) : s.continued (.mailbox f) i j o = some x := by
  simp [State.continued, State.xferOf, ho, hx, hkey, hnext]

theorem State.continued_none {f : Fin 32} {i j o : Nat} (ho : o ≠ 0)
    (hx : (s.func f).mbx.xfer = none ∨ ∃ x, (s.func f).mbx.xfer = some x ∧ (x.key ≠ key i j ∨ x.next ≠ o)) :
    s.continued (.mailbox f) i j o = none := by
  rcases hx with hx | ⟨x, hx, hkey | hnext⟩
  · have h0 : ({} : Xfer).next ≠ o := fun h => ho h.symm
    simp [State.continued, State.xferOf, ho, hx, h0]
  · simp [State.continued, State.xferOf, ho, hx, hkey]
  · simp [State.continued, State.xferOf, ho, hx, hnext]

theorem State.writeWhole_ok {path : Path} {i j : Nat} {d : List Byte} (h : s.vfStationOk (pathFn path) i j d = true) (r : Row) :
    s.writeWhole path i j r d = ((s.writeValue i j r d).1, { resp := (s.writeValue i j r d).2, total := d.length }) := by
  simp [State.writeWhole, h]

theorem State.writeValue_length {r : Row} {d : List Byte} (hty : r.ty ≠ .dom) (hlen : d.length ≠ r.ty.size) (i j : Nat) :
    s.writeValue i j r d = (s, .abort 0x06070010) := by
  simp [State.writeValue, hty, hlen]

/-! ### The answer in the mailbox (12 Table 12-4) -/

/-- Of the state, the transfer and the flags of one mailbox alone have changed, and the transfer is `x`. -/
structure State.MbxOf (s u : State) (f : Fin 32) (x : Option Xfer) : Prop where
  mbx : ∃ b d, (u.func f).mbx = { (s.func f).mbx with busy := b, done := d, xfer := x }
  self : u.func f = { s.func f with mbx := (u.func f).mbx }
  other : ∀ k, k ≠ f.val → u.func k = s.func k
  frame : u = { s with host := { s.host with fn := u.host.fn } }

theorem State.MbxOf.refl (s : State) (f : Fin 32) : s.MbxOf s f (s.func f).mbx.xfer := ⟨⟨_, _, rfl⟩, rfl, fun _ _ => rfl, rfl⟩

/-- The mailbox after its flags and transfer were set. -/
def Mailbox.turned (m : Mailbox) (b d : Bool) (x : Option Xfer) : Mailbox := { m with busy := b, done := d, xfer := x }

theorem State.MbxOf.upd {f : Fin 32} {x y : Option Xfer} (h : s.MbxOf u f x) {g : Mailbox → Mailbox}
    (hg : ∃ b d, g (u.func f).mbx = (u.func f).mbx.turned b d y) : s.MbxOf (u.updFunc f (fun k => { k with mbx := g k.mbx })) f y := by
  obtain ⟨⟨b, d, hmbx⟩, hself, hother, hframe⟩ := h
  obtain ⟨b', d', hg⟩ := hg
  have hfunc := State.func_of_upd (s := u) (t := u.updFunc f (fun k => { k with mbx := g k.mbx })) (f := f) (g := fun k => { k with mbx := g k.mbx }) rfl
  have hf := (hfunc f).trans (if_pos rfl)
  refine ⟨⟨b', d', ?_⟩, ?_, fun k hk => ((hfunc k).trans (if_neg hk)).trans (hother k hk), ?_⟩
  · rw [hf]
    exact hg.trans (by rw [hmbx]; rfl)
  · rw [hf]
    dsimp only
    rw [hself]
  · unfold State.updFunc
    rw [hframe]

theorem State.MbxOf.setXfer {f : Fin 32} {x : Option Xfer} (h : s.MbxOf u f x) (y : Option Xfer) : s.MbxOf (u.setXfer y (.mailbox f)) f y :=
  h.upd (g := fun m => { m with xfer := y }) ⟨_, _, rfl⟩

/-- A mailbox that takes a response: the record is at the start of the buffer, BUSY is clear and DONE set. -/
def Mailbox.took (m : Mailbox) (x : List Byte) : Mailbox := { m with rsp := overlay m.rsp 0 x, busy := false, done := true }

theorem State.toMailbox_func (s : State) (f : Nat) (x : List Byte) (k : Nat) :
    (s.toMailbox f x).func k = if k = f then { s.func f with mbx := (s.func f).mbx.took x } else s.func k := by
  refine Eq.trans ?_ (State.func_of_upd (s := s) (t := s.updFunc f (fun p => { p with mbx := p.mbx.took x })) (f := f)
    (g := fun p => { p with mbx := p.mbx.took x }) rfl k)
  unfold State.toMailbox
  dsimp only
  split <;> rfl

theorem State.toMailbox_frame (s : State) (f : Nat) (x : List Byte) :
    s.toMailbox f x = { s with host := { s.host with fn := (s.toMailbox f x).host.fn }, rep := (s.toMailbox f x).rep } := by
  unfold State.toMailbox
  dsimp only
  split <;> rfl

theorem State.toMailbox_counted (s : State) (f : Nat) (x : List Byte) : Counted s (s.toMailbox f x) [key 0x28A0 7] := by
  have h : Counted s ((s.updFunc f (fun p => { p with mbx := p.mbx.took x })).count 0x28A0 7) [key 0x28A0 7] :=
    Counted.of_base (Counted.count _) rfl
  unfold State.toMailbox
  dsimp only
  split
  · exact h.occur _
  · exact h

/-- A request at a mailbox is answered there: the record lies in its buffer, and of everything else its transfer alone has changed. -/
structure State.MailedBack (s t : State) (f : Fin 32) (r : Resp) (rec : List Byte) (x : Option Xfer) : Prop where
  mailed : s.mailed t f r rec
  xfer : (t.func f).mbx.xfer = x
  frame : t = { s with host := { s.host with fn := t.host.fn }, rep := t.rep, out := t.out }

theorem State.MbxOf.toMailbox {f : Fin 32} {x : Option Xfer} (h : s.MbxOf u f x) (r : Resp) (rec : List Byte) :
    s.MailedBack ((u.answer r).toMailbox f rec) f r rec x := by
  obtain ⟨⟨b, d, hmbx⟩, hself, hother, hframe⟩ := h
  have hfunc := (u.answer r).toMailbox_func f rec
  have hu : ∀ k, (u.answer r).func k = u.func k := fun _ => rfl
  have hf : ((u.answer r).toMailbox f rec).func f = { u.func f with mbx := (u.func f).mbx.took rec } := (hfunc f).trans (if_pos rfl)
  have hcount : Counted s ((u.answer r).toMailbox f rec) [key 0x28A0 7] := by
    refine Counted.of_base ((u.answer r).toMailbox_counted f rec) ?_
    rw [hframe]
    rfl
  have hrest := (u.answer r).toMailbox_frame f rec
  generalize (u.answer r).toMailbox f rec = t at hf hfunc hcount hrest ⊢
  have hx : (t.func f).mbx.xfer = x := by rw [hf]; dsimp only; rw [hmbx]; rfl
  refine ⟨⟨?_, ?_, fun k hk => ((hfunc k).trans (if_neg hk)).trans (hother k hk), hcount, ?_⟩, hx, ?_⟩
  · rw [hx, hf]
    dsimp only
    rw [hmbx]
    rfl
  · rw [hf]
    dsimp only
    rw [hself]
  · rw [hrest, hframe]
    rfl
  · rw [hrest, hframe]
    rfl

/-- What a served request leaves in a state that differs from `s` at its mailbox alone. -/
theorem State.MbxOf.serveOne {v : State} {f : Fin 32} {x : Option Xfer} {tok vc : Nat} {req : DictReq} {a : Answer}
    (hserve : u.serveReq (.mailbox f) req = (v, a)) (h : s.MbxOf v f x) :
    s.MailedBack (u.serveOne { path := .mailbox f, token := tok, vcid := vc, req := req }) f a.resp (a.record (reqEntry req).1 (reqEntry req).2 tok) x := by
  have ht : u.serveOne { path := .mailbox f, token := tok, vcid := vc, req := req }
      = (v.answer a.resp).toMailbox f (a.record (reqEntry req).1 (reqEntry req).2 tok) := by
    unfold State.serveOne
    dsimp only
    rw [hserve]
    rfl
  rw [ht]
  exact h.toMailbox _ _

/-! ### Requests of rows of their own -/

theorem dictRead_mailbox {f : Fin 32} (hon : s.funcOn f = true) (hserves : s.serves = true) (hrec : s.boot.recovery = false) {i : BitVec 16} {j : BitVec 8}
    {m o : BitVec 32} {a : Answer} (hserve : s.serveReq (.mailbox f) (.read i.toNat j.toNat m.toNat o.toNat) = (s, a)) :
    Completes (.dictRead (.mailbox f) i j m o) s (fun t => s.MailedBack t f a.resp (a.record i.toNat j.toNat 0) (s.func f).mbx.xfer) :=
  ⟨_, congrArg Host.Outcome.next ((s.arrive_open (show s.pathOpen (.mailbox f) = true from hon)).trans (s.request_serves hserves hrec)), State.MbxOf.serveOne hserve (.refl s f)⟩

theorem dictWrite_mailbox {f : Fin 32} (hon : s.funcOn f = true) (hans : s.answers) {i : BitVec 16} {j : BitVec 8} {l : Bool} {o : BitVec 32} {d : List Byte}
    {x : Option Xfer} {a : Answer} (hserve : s.serveWrite (.mailbox f) i.toNat j.toNat l o.toNat d = (u, a)) (hu : s.MbxOf u f x) :
    Completes (.dictWrite (.mailbox f) i j l o d) s (fun t => s.MailedBack t f a.resp (a.record i.toNat j.toNat 0) x) :=
  ⟨_, congrArg Host.Outcome.next ((s.arrive_open (show s.pathOpen (.mailbox f) = true from hon)).trans (s.request_serves hans.1 hans.2.2)),
    State.MbxOf.serveOne ((s.serveReq_write hans.2.1 _ _ _ _ _ _).trans hserve) hu⟩

theorem Completes.mono {i : Instr} {P Q : State → Prop} (h : Completes i s P) (himp : ∀ t, P t → Q t) : Completes i s Q :=
  h.imp fun t ⟨hexec, hp⟩ => ⟨hexec, himp t hp⟩

theorem State.MailedBack.parts {f : Fin 32} {r : Resp} {rec : List Byte} {x : Option Xfer} (h : s.MailedBack t f r rec x) :
    s.mailed t f r rec ∧ (t.func f).mbx.xfer = x ∧ t = { s with host := { s.host with fn := t.host.fn }, rep := t.rep, out := t.out } :=
  ⟨h.mailed, h.xfer, h.frame⟩

/-- A last segment's value is written, and the mailbox answered with the outcome. -/
theorem dictWrite_writes {f : Fin 32} (hon : s.funcOn f = true) (hans : s.answers) {i : BitVec 16} {j : BitVec 8} {o : BitVec 32} {d e : List Byte} {r : Row}
    (hserve : s.serveWrite (.mailbox f) i.toNat j.toNat true o.toNat d = (s.setXfer none (.mailbox f)).writeWhole (.mailbox f) i.toNat j.toNat r e)
    (hok : s.vfStationOk f i.toNat j.toNat e = true) {w : State × Resp} (hw : (s.setXfer none (.mailbox f)).writeValue i.toNat j.toNat r e = w) :
    Completes (.dictWrite (.mailbox f) i j true o d) s (fun t =>
      t.out.resp = some w.2 ∧ (t.func f).mbx.busy = false ∧ (t.func f).mbx.done = true
      ∧ t = { w.1 with host := { w.1.host with fn := t.host.fn }, rep := t.rep, out := { w.1.out with resp := some w.2 } }) := by
  have hwhole := (s.setXfer none (.mailbox f)).writeWhole_ok (path := .mailbox f) hok r
  rw [hw] at hwhole
  have h := State.MbxOf.serveOne (tok := 0) (vc := 0) ((s.serveReq_write hans.2.1 _ _ _ _ _ _).trans (hserve.trans hwhole)) (.refl w.1 f)
  obtain ⟨⟨hmbx, -, -, -, hout⟩, -, hframe⟩ := h
  refine ⟨_, congrArg Host.Outcome.next ((s.arrive_open (show s.pathOpen (.mailbox f) = true from hon)).trans (s.request_serves hans.1 hans.2.2)), ?_⟩
  generalize s.serveOne _ = t at hmbx hout hframe ⊢
  refine ⟨by rw [hout], by rw [hmbx], by rw [hmbx], ?_⟩
  rw [← hout]
  exact hframe

/-- The transfer that a segment continues. -/
theorem State.continued_of {f : Fin 32} {i : BitVec 16} {j : BitVec 8} {o : BitVec 32} {p : List Byte}
    (h : (o = 0 ∧ p = []) ∨ ∃ x, (s.func f).mbx.xfer = some x ∧ x.key = key i.toNat j.toNat ∧ x.next = o.toNat ∧ o ≠ 0 ∧ p = x.data) :
    ∃ x, s.continued (.mailbox f) i.toNat j.toNat o.toNat = some x ∧ x.key = key i.toNat j.toNat ∧ x.data = p := by
  rcases h with ⟨rfl, rfl⟩ | ⟨x, hx, hkey, hnext, ho, rfl⟩
  · exact ⟨_, State.continued_start _ _ _, rfl, rfl⟩
  · exact ⟨x, State.continued_next (toNat_ne_zero ho) hx hkey hnext, hkey, rfl⟩

/-! ### Doorbells -/

theorem State.doorbell_idle {f : Fin 32} {v : Nat} (h : s.computeRuns = false ∨ s.funcOn f = false ∨ bit v 0 = false) : s.doorbell f v = s := by
  rcases h with h | h | h <;> simp [State.doorbell, h]

section
variable {f : Fin 32} {v : Nat} (hrun : s.computeRuns = true) (hon : s.funcOn f = true) (hbit : bit v 0 = true)
include hrun hon hbit

theorem State.doorbell_busy (hbusy : (s.func f).mbx.busy = true) : s.doorbell f v = s.count 0x28A0 6 := by
  simp [State.doorbell, hrun, hon, hbit, hbusy]

/-- A mailbox whose doorbell rang: BUSY is set and DONE clear. -/
def State.rung (s : State) (f : Fin 32) : State := s.updFunc f (fun k => { k with mbx := { k.mbx with busy := true, done := false } })

theorem State.doorbell_rings (hidle : (s.func f).mbx.busy = false) : s.doorbell f v = (s.rung f).request
    { path := .mailbox f, token := recordToken (slice (s.func f).mbx.req 0 2048), vcid := 0, req := recordReq (slice (s.func f).mbx.req 0 2048) } := by
  simp [State.doorbell, State.rung, hrun, hon, hbit, hidle]

end

theorem State.MbxOf.rung (s : State) (f : Fin 32) : s.MbxOf (s.rung f) f (s.func f).mbx.xfer :=
  (MbxOf.refl s f).upd (g := fun m => { m with busy := true, done := false }) ⟨_, _, rfl⟩

theorem State.rung_func (s : State) (f : Fin 32) (k : Nat) :
    (s.rung f).func k = if k = f then { s.func f with mbx := { (s.func f).mbx with busy := true, done := false } } else s.func k :=
  State.func_of_upd (s := s) (t := s.rung f) (f := f) (g := fun p => { p with mbx := { p.mbx with busy := true, done := false } }) rfl k

section
variable {f : Fin 32} {v : BitVec 32} (hrun : s.computeRuns = true) (hon : s.funcOn f = true) (hbit : bit v.toNat 0 = true) (hidle : (s.func f).mbx.busy = false)
include hrun hon hbit hidle

theorem mbxDoorbell_served (hans : s.answers) {req : DictReq} {x : Option Xfer} {a : Answer} (hreq : recordReq (slice (s.func f).mbx.req 0 2048) = req)
    (hserve : (s.rung f).serveReq (.mailbox f) req = (u, a)) (hu : s.MbxOf u f x) :
    Completes (.mbxDoorbell f v) s (fun t =>
      s.MailedBack t f a.resp (a.record (reqEntry req).1 (reqEntry req).2 (recordToken (slice (s.func f).mbx.req 0 2048))) x) := by
  subst hreq
  exact ⟨_, congrArg Host.Outcome.next ((s.doorbell_rings hrun hon hbit hidle).trans ((s.rung f).request_serves hans.1 hans.2.2)),
    State.MbxOf.serveOne hserve hu⟩

theorem mbxDoorbell_waits (hstart : s.boot.started = true) (hrec : s.boot.recovery = false)
    (hre : (s.host.press.at ({} : Pressroom) 1).restarting = true) : Completes (.mbxDoorbell f v) s (fun t =>
      t.od.waiting = s.od.waiting ++ [{ path := .mailbox f, token := recordToken (slice (s.func f).mbx.req 0 2048), vcid := 0
                                        req := recordReq (slice (s.func f).mbx.req 0 2048) }]
      ∧ (t.func f).mbx = { (s.func f).mbx with busy := true, done := false } ∧ (∀ k, k ≠ f.val → t.func k = s.func k)
      ∧ t = { s with host := { s.host with fn := t.host.fn }, od := { s.od with waiting := t.od.waiting } }) := by
  refine ⟨_, congrArg Host.Outcome.next ((s.doorbell_rings hrun hon hbit hidle).trans ((s.rung f).request_waits hrun hstart hrec hre)), rfl, ?_, ?_, rfl⟩
  · exact congrArg Pf.mbx ((s.rung_func f f).trans (if_pos rfl))
  · exact fun k hk => (s.rung_func f k).trans (if_neg hk)

end

/-! ### The clauses -/

theorem dictRead_answers (s : State) (f : Fin 32) (i : BitVec 16) (sub : BitVec 8) (m o : BitVec 32) (hon : s.funcOn f = true) (hans : s.answers) :
    (∀ v, s.readEntry 0 i.toNat sub.toNat = .value v →
      Completes (.dictRead (.mailbox f) i sub m o) s (fun t => s.MailedBack t f (.value v) (responseRecord 0 sub.toNat i.toNat
        ((v.toBytes.drop o.toNat).take (min m.toNat 2032)).length 0 v.toBytes.length ((v.toBytes.drop o.toNat).take (min m.toNat 2032))) (s.func f).mbx.xfer))
    ∧ (∀ a, s.readEntry 0 i.toNat sub.toNat = .abort a → Completes (.dictRead (.mailbox f) i sub m o) s (fun t =>
        s.MailedBack t f (.abort a) (responseRecord 1 sub.toNat i.toNat a 0 0 []) (s.func f).mbx.xfer)) :=
  ⟨fun _ hv => dictRead_mailbox hon hans.1 hans.2.2 (s.serveReq_value hans.2.1 (path := .mailbox f) rfl _ _ hv),
   fun _ ha => dictRead_mailbox hon hans.1 hans.2.2 (s.serveReq_readAbort hans.2.1 (path := .mailbox f) _ _ ha)⟩

section
variable {f : Fin 32} {i : BitVec 16} {sub : BitVec 8} {l : Bool} {o : BitVec 32} {d : List Byte}
variable (hon : s.funcOn f = true) (hans : s.answers)
include hon hans

/-- A segment that is refused ends the transfer. -/
theorem dictWrite_refused {a : Nat}
    (hserve : s.serveWrite (.mailbox f) i.toNat sub.toNat l o.toNat d = (s.setXfer none (.mailbox f), { resp := .abort a })) :
    Completes (.dictWrite (.mailbox f) i sub l o d) s (fun t => s.MailedBack t f (.abort a) (responseRecord 1 sub.toNat i.toNat a 0 0 []) none) :=
  dictWrite_mailbox hon hans hserve ((State.MbxOf.refl s f).setXfer none)

end

section
variable {f : Fin 32} {i : BitVec 16} {sub : BitVec 8} {o : BitVec 32} {d : List Byte}
variable {r : Row} (hgate : s.writeGate f i.toNat sub.toNat = .ok r) (himage : ¬ (0x3000 ≤ i.toNat ∧ sub = 1))
include hgate himage

theorem dictWrite_keeps (hon : s.funcOn f = true) (hans : s.answers) {p : List Byte}
    (hp : (o = 0 ∧ p = []) ∨ ∃ x, (s.func f).mbx.xfer = some x ∧ x.key = key i.toNat sub.toNat ∧ x.next = o.toNat ∧ o ≠ 0 ∧ p = x.data)
    (hwhole : d.length = 2032) : Completes (.dictWrite (.mailbox f) i sub false o d) s (fun t =>
      s.MailedBack t f .ok (responseRecord 0 sub.toNat i.toNat 0 0 (o.toNat + 2032) [])
        (some { key := key i.toNat sub.toNat, next := o.toNat + 2032, data := p ++ d, time := s.clk.ref })) := by
  obtain ⟨x, hcont, hkey, rfl⟩ := State.continued_of hp
  have himage' : ¬ (0x3000 ≤ i.toNat ∧ sub.toNat = 1) := fun ⟨hi, hj⟩ => himage ⟨hi, BitVec.eq_of_toNat_eq hj⟩
  have hserve := s.serveWrite_more (path := .mailbox f) rfl hgate himage' hcont hwhole
  rw [hkey, hwhole] at hserve
  exact dictWrite_mailbox hon hans hserve (((State.MbxOf.refl s f).setXfer none).setXfer _)

variable (hlen : d.length ≤ 2032)
include hlen

theorem dictWrite_ends {p : List Byte}
    (hp : (o = 0 ∧ p = []) ∨ ∃ x, (s.func f).mbx.xfer = some x ∧ x.key = key i.toNat sub.toNat ∧ x.next = o.toNat ∧ o ≠ 0 ∧ p = x.data) :
    s.serveWrite (.mailbox f) i.toNat sub.toNat true o.toNat d
      = (s.setXfer none (.mailbox f)).writeWhole (.mailbox f) i.toNat sub.toNat r (p ++ d) := by
  obtain ⟨x, hcont, -, rfl⟩ := State.continued_of hp
  have himage' : ¬ (0x3000 ≤ i.toNat ∧ sub.toNat = 1) := fun ⟨hi, hj⟩ => himage ⟨hi, BitVec.eq_of_toNat_eq hj⟩
  exact s.serveWrite_last (path := .mailbox f) rfl hgate himage' hcont hlen

theorem dictWrite_wrongLength (hon : s.funcOn f = true) (hans : s.answers) {p : List Byte}
    (hp : (o = 0 ∧ p = []) ∨ ∃ x, (s.func f).mbx.xfer = some x ∧ x.key = key i.toNat sub.toNat ∧ x.next = o.toNat ∧ o ≠ 0 ∧ p = x.data)
    (hty : r.ty ≠ .dom) (hsize : (p ++ d).length ≠ r.ty.size) (hok : s.vfStationOk f i.toNat sub.toNat (p ++ d) = true) :
    Completes (.dictWrite (.mailbox f) i sub true o d) s (fun t =>
      s.MailedBack t f (.abort 0x06070010) (responseRecord 1 sub.toNat i.toNat 0x06070010 0 (p ++ d).length []) none) := by
  have hwhole := (s.setXfer none (.mailbox f)).writeWhole_ok (path := .mailbox f) hok r
  rw [State.writeValue_length hty hsize] at hwhole
  exact dictWrite_mailbox hon hans ((dictWrite_ends hgate himage hlen hp).trans hwhole) ((State.MbxOf.refl s f).setXfer none)

end

theorem mbxDoorbell_answers (s : State) (f : Fin 32) (v : BitVec 32) (hrun : s.computeRuns = true) (hon : s.funcOn f = true) (hbit : bit v.toNat 0 = true)
    (hidle : (s.func f).mbx.busy = false) (hans : s.answers) {b : List Byte} (hb : slice (s.func f).mbx.req 0 2048 = b) :
    (∀ i sub m o x, recordReq b = .read i sub m o → (s.rung f).readEntry 0 i sub = .value x →
      Completes (.mbxDoorbell f v) s (fun t => s.MailedBack t f (.value x) (responseRecord 0 sub i ((x.toBytes.drop o).take (min m 2032)).length
        (recordToken b) x.toBytes.length ((x.toBytes.drop o).take (min m 2032))) (s.func f).mbx.xfer))
    ∧ (∀ i sub l o d a, recordReq b = .write i sub l o d → (s.rung f).writeGate f i sub = .error a →
      Completes (.mbxDoorbell f v) s (fun t => s.MailedBack t f (.abort a) (responseRecord 1 sub i a (recordToken b) 0 []) none))
    ∧ (∀ i sub, recordReq b = .badOp i sub →
      Completes (.mbxDoorbell f v) s (fun t => s.MailedBack t f (.abort 0x05040001) (responseRecord 1 sub i 0x05040001 (recordToken b) 0 []) (s.func f).mbx.xfer)) := by
  subst hb
  have hlong : (s.rung f).od.longop = none := hans.2.1
  refine ⟨fun i sub m o x hreq hx => ?_, fun i sub l o d a hreq ha => ?_, fun i sub hreq => ?_⟩
  · exact mbxDoorbell_served hrun hon hbit hidle hans hreq ((s.rung f).serveReq_value hlong (path := .mailbox f) rfl m o hx) (.rung s f)
  · exact mbxDoorbell_served hrun hon hbit hidle hans hreq
      (((s.rung f).serveReq_write hlong _ _ _ _ _ _).trans ((s.rung f).serveWrite_error (path := .mailbox f) ha l o d)) ((State.MbxOf.rung s f).setXfer none)
  · exact mbxDoorbell_served hrun hon hbit hidle hans hreq ((s.rung f).serveReq_badOp hlong _ i sub) (.rung s f)

/-- Settles O42: a served request is `State.serveReq` on the state, whose answer lies as a record in the mailbox; each rule is one branch of it. -/
theorem dictionaryAccess : Obligations.DictionaryAccess := by
  intro s
  refine ⟨fun path i sub m o l d hclosed => ?_, fun f i sub m o hon hans => ?_, fun q i sub a h => ⟨State.readEntry_error h q, State.writeGate_error h⟩,
    fun q i sub r h => ⟨fun hacc => State.readEntry_writeOnly h hacc q, fun f hmay hacc => State.writeGate_readOnly h hmay hacc,
      fun f hf hno => State.writeGate_notOwned h hf hno⟩, fun f i sub l o d hon hans => ?_, fun f i sub m o hon hserves hlong hrec => ?_, fun f v => ⟨fun hidle => ?_, ?_⟩⟩
  · exact ⟨⟨_, congrArg Host.Outcome.next (State.arrive_closed hclosed), rfl⟩, ⟨_, congrArg Host.Outcome.next (State.arrive_closed hclosed), rfl⟩⟩
  · obtain ⟨hvalue, habort⟩ := dictRead_answers s f i sub m o hon hans
    exact ⟨fun v hv => (hvalue v hv).mono fun _ h => h.parts, fun a ha => (habort a ha).mono fun _ h => h.parts⟩
  · dsimp only
    refine ⟨fun a ha => ?_, fun r hgate hlen => ?_, fun r hgate hlen ho hx => ?_, fun r hgate hl hlen => ?_, fun r p hgate himage hlen hp => ?_⟩
    · exact (dictWrite_refused hon hans (s.serveWrite_error (path := .mailbox f) ha l o.toNat d)).mono fun _ h => h.parts
    · exact (dictWrite_refused hon hans (s.serveWrite_long (path := .mailbox f) rfl hgate hlen)).mono fun _ h => h.parts
    · exact (dictWrite_refused hon hans (s.serveWrite_outOfSequence (path := .mailbox f) rfl hgate hlen
        (State.continued_none (toNat_ne_zero ho) hx))).mono fun _ h => h.parts
    · subst hl
      exact (dictWrite_refused hon hans (s.serveWrite_short (path := .mailbox f) rfl hgate hlen)).mono fun _ h => h.parts
    · refine ⟨?_, ?_, ?_⟩
      · rintro rfl hwhole
        exact (dictWrite_keeps hgate himage hon hans hp hwhole).mono fun _ h => h.parts
      · rintro rfl hty hsize hok
        exact (dictWrite_wrongLength hgate himage hlen hon hans hp hty hsize hok).mono fun _ h => h.parts
      · rintro rfl hok
        exact dictWrite_writes hon hans (dictWrite_ends hgate himage hlen hp) hok rfl
  · exact (dictRead_mailbox hon hserves hrec (s.serveReq_busy hlong _ (by simp))).mono fun _ h => h.parts
  · exact ⟨_, congrArg Host.Outcome.next (State.doorbell_idle hidle), rfl⟩
  · intro hrun hon hbit
    refine ⟨fun hbusy => ⟨_, congrArg Host.Outcome.next (State.doorbell_busy hrun hon hbit hbusy), Counted.count s, rfl⟩, fun hidle => ?_⟩
    dsimp only
    refine ⟨fun i sub m o x hreq hans hx => ?_, fun i sub l o d a hreq hans ha => ?_, fun i sub hreq hans => ?_, fun hstart hrec hre => ?_⟩
    · exact ((mbxDoorbell_answers s f v hrun hon hbit hidle hans rfl).1 i sub m o x hreq hx).mono fun _ h => h.parts
    · exact ((mbxDoorbell_answers s f v hrun hon hbit hidle hans rfl).2.1 i sub l o d a hreq ha).mono fun _ h => h.parts
    · exact ((mbxDoorbell_answers s f v hrun hon hbit hidle hans rfl).2.2 i sub hreq).mono fun _ h => h.parts
    · exact mbxDoorbell_waits hrun hon hbit hidle hstart hrec hre

end Machine
end Sys2Proof
end

section
/-!
PROOFS. SDO and USDO at a port (15 R370, R371, R374, R377).
-/
namespace Sys2Proof
namespace Machine

variable {s t u v : State} {p : Fin 2} {usdo : Bool}

/-! ### Updates of one key -/

theorem Tab.put_put {α : Type} (t : Tab α) (k : Nat) (x y : α) : (t.put k x).put k y = t.put k y := by
  induction t with
  | nil => simp [Tab.put]
  | cons e r ih =>
    obtain ⟨j, z⟩ := e
    by_cases hjk : j = k
    · simp [Tab.put, hjk]
    · by_cases hkj : k < j
      · simp [Tab.put, hjk, hkj]
      · simp [Tab.put, hjk, hkj, ih]

theorem Tab.upd_upd {α : Type} (d : α) (t : Tab α) (k : Nat) (f g : α → α) : (t.upd d k f).upd d k g = t.upd d k (fun x => g (f x)) := by
  unfold Tab.upd
  rw [Tab.at_put_same, Tab.put_put]

theorem Tab.upd_congr {α : Type} {d : α} {t : Tab α} {k : Nat} {f g : α → α} (h : f (t.at d k) = g (t.at d k)) : t.upd d k f = t.upd d k g := by
  unfold Tab.upd
  rw [h]

/-! ### The frame at the port -/

theorem State.takeFrame_eq (hrx : (s.port p).rx ≠ []) : s.takeFrame p = s.updPort p (fun c => { c with rx := c.rx.tail }) := by
  unfold State.takeFrame
  cases h : (s.port p).rx with
  | nil => exact absurd h hrx
  | cons f q =>
    have hcan : s.can.upd {} p (fun c : CanPort => { c with rx := q }) = s.can.upd {} p (fun c => { c with rx := c.rx.tail }) :=
      Tab.upd_congr (by
        change ({ s.port p with rx := q } : CanPort) = { s.port p with rx := (s.port p).rx.tail }
        rw [h]
        rfl)
    exact congrArg (fun c => { s with can := c }) hcan

theorem State.takeFrame_port (hrx : (s.port p).rx ≠ []) (q : Nat) :
    (s.takeFrame p).port q = if q = p then { s.port p with rx := (s.port p).rx.tail } else s.port q :=
  State.port_of_upd (s := s) (p := p) (f := fun c => { c with rx := c.rx.tail }) (by rw [State.takeFrame_eq hrx]; rfl) q

theorem State.takeFrame_frame (hrx : (s.port p).rx ≠ []) : s.takeFrame p = { s with can := (s.takeFrame p).can } := by
  rw [State.takeFrame_eq hrx]
  rfl

theorem State.canSet_takeFrame (hrx : (s.port p).rx ≠ []) (k : Nat) : (s.takeFrame p).canSet p k = s.canSet p k :=
  State.canSet_of_port (by rw [State.takeFrame_port hrx, if_pos rfl]) (by rw [State.takeFrame_frame hrx]) k

/-- A row that takes a frame at a serving port goes on with the rest of its buffer. -/
theorem State.onPort_serves (h : s.canServes p) (f : State → State) : s.onPort p f = f (s.takeFrame p) := by
  obtain ⟨havail, hset, -⟩ := h
  simp [State.onPort, State.attached_of havail hset]

theorem State.sendCan_open {q : Nat} (hatt : s.attached q = true) (hshort : (s.canWire q).short = false) (m : CanMsg) :
    s.sendCan q m = s.updPort q (fun c => { c with tx := c.tx ++ [m] }) := by
  simp [State.sendCan, hatt, hshort]

/-! ### The two servers -/

/-- The row of a request at the SDO or the USDO server of a port. -/
def sdoRow (usdo : Bool) (p : Fin 2) (op : SdoOp) : Instr := if usdo then .usdoRequest p op else .sdoRequest p op

/-- The path of such a request. -/
def sdoPath (usdo : Bool) (p : Fin 2) : Path := if usdo then .usdo p else .sdo p

/-- The profile under which a port has the server (15 R371). -/
def sdoProfile (usdo : Bool) : Nat := if usdo then 2 else 1

theorem exec_sdoRow (usdo : Bool) (p : Fin 2) (op : SdoOp) (s : State) :
    exec (sdoRow usdo p op) s = .next (s.sdoRequest p (sdoProfile usdo) (sdoPath usdo p) op) := by
  cases usdo <;> rfl

@[simp] theorem pathPort_sdoPath (usdo : Bool) (p : Fin 2) : pathPort (sdoPath usdo p) = p := by cases usdo <;> rfl

@[simp] theorem pathFn_sdoPath (usdo : Bool) (p : Fin 2) : pathFn (sdoPath usdo p) = 0 := by cases usdo <;> rfl

@[simp] theorem recordPath_sdoPath (usdo : Bool) (p : Fin 2) : recordPath (sdoPath usdo p) = false := by cases usdo <;> rfl

theorem State.deliver_sdo (s : State) (usdo : Bool) (p : Fin 2) (tok vc : Nat) (req : DictReq) (a : Answer) :
    s.deliver { path := sdoPath usdo p, token := tok, vcid := vc, req := req } a = (s.answer a.resp).toSdo p (reqEntry req).1 (reqEntry req).2 a := by
  cases usdo <;> rfl

theorem State.request_sdo (hserves : s.serves = true) (hrec : s.boot.recovery = false) {tok vc : Nat} {req : DictReq} {a : Answer}
    (hserve : s.serveReq (sdoPath usdo p) req = (u, a)) :
    s.request { path := sdoPath usdo p, token := tok, vcid := vc, req := req } = (u.answer a.resp).toSdo p (reqEntry req).1 (reqEntry req).2 a := by
  rw [s.request_serves hserves hrec]
  unfold State.serveOne
  dsimp only
  rw [hserve]
  exact u.deliver_sdo usdo p tok vc req a

theorem State.serveReq_sdoValue (h : s.od.longop = none) {i j : Nat} (m o : Nat) {y : Val} (hv : s.readEntry p i j = .value y) :
    s.serveReq (sdoPath usdo p) (.read i j m o) = (s, { resp := .value y, data := (y.toBytes.drop o).take m, total := y.toBytes.length }) := by
  simp [State.serveReq, State.serveRead, h, hv]

theorem State.serveWrite_sdo {i j : Nat} {r : Row} (hgate : s.writeGate 0 i j = .ok r) (himage : ¬ (0x3000 ≤ i ∧ j = 1)) (l : Bool) (o : Nat) (d : List Byte) :
    s.serveWrite (sdoPath usdo p) i j l o d = ((s.writeValue i j r d).1, { resp := (s.writeValue i j r d).2, total := d.length }) := by
  have hplain : (decide (0x3000 ≤ i) && j == 1) = false := by simpa using himage
  have hwhole := s.writeWhole_ok (path := sdoPath usdo p) (i := i) (j := j) (d := d) (by simp [State.vfStationOk]) r
  simp [State.serveWrite, hgate, hplain, hwhole]

/-! ### What a request comes to -/

theorem State.sdoServe_abort (v : State) : v.sdoServe (sdoPath usdo p) .abort = v.setSdo p none := by
  simp [State.sdoServe]

theorem State.sdoServe_busy (h : v.od.longop ≠ none) {op : SdoOp} (hop : op ≠ .abort) {x : Xfer} (hx : (v.port p).sdo.getD {} = x) :
    v.sdoServe (sdoPath usdo p) op = (v.setSdo p none).sdoSay p (x.key / 256) (x.key % 256) (.abort 0x08000022) := by
  subst hx
  simp [State.sdoServe, hop, Option.isSome_iff_ne_none.mpr h]

section
variable (hidle : v.od.longop = none)
include hidle

theorem State.sdoServe_upload (i j : Nat) : v.sdoServe (sdoPath usdo p) (.upload i j)
    = (v.setSdo p none).request { path := sdoPath usdo p, token := 0, vcid := 0, req := .read i j (2 ^ 32) 0 } := by
  simp [State.sdoServe, hidle]

theorem State.sdoServe_downloadError {i j a : Nat} (hgate : v.writeGate 0 i j = .error a) (l : Bool) (d : List Byte) :
    v.sdoServe (sdoPath usdo p) (.download i j l d) = (v.setSdo p none).sdoSay p i j (.abort a) := by
  simp [State.sdoServe, hidle, hgate]

theorem State.sdoServe_download {i j : Nat} {r : Row} (hgate : v.writeGate 0 i j = .ok r) (l : Bool) (d : List Byte) :
    v.sdoServe (sdoPath usdo p) (.download i j l d) = (v.setSdo p none).sdoData (sdoPath usdo p) { key := key i j } l d := by
  simp [State.sdoServe, hidle, hgate]

variable {x : Xfer} (hx : (v.port p).sdo.getD {} = x)
include hx

theorem State.sdoServe_unknown :
    v.sdoServe (sdoPath usdo p) .unknown = (v.setSdo p none).sdoSay p (x.key / 256) (x.key % 256) (.abort 0x05040001) := by
  subst hx
  simp [State.sdoServe, hidle]

theorem State.sdoServe_uploadMore (hup : x.up = true) (n : Nat) : v.sdoServe (sdoPath usdo p) (.uploadMore n)
    = ((v.setSdo p (if x.data.drop n = [] then none else some { x with data := x.data.drop n })).answer (.value (.bytes (x.data.take n)))).sendCan p
        (.sdo (x.key / 256) (x.key % 256) (.value (.bytes (x.data.take n)))) := by
  subst hx
  simp [State.sdoServe, hidle, hup]

theorem State.sdoServe_noUpload (hup : x.up = false) (n : Nat) :
    v.sdoServe (sdoPath usdo p) (.uploadMore n) = (v.setSdo p none).sdoSay p (x.key / 256) (x.key % 256) (.abort 0x05040001) := by
  subst hx
  simp [State.sdoServe, hidle, hup]

theorem State.sdoServe_noDownload (hno : x.key = 0 ∨ x.up = true) (l : Bool) (d : List Byte) :
    v.sdoServe (sdoPath usdo p) (.downloadMore l d) = (v.setSdo p none).sdoSay p (x.key / 256) (x.key % 256) (.abort 0x05040001) := by
  subst hx
  simp [State.sdoServe, hidle, hno]

theorem State.sdoServe_downloadMore (hkey : x.key ≠ 0) (hup : x.up = false) (l : Bool) (d : List Byte) :
    v.sdoServe (sdoPath usdo p) (.downloadMore l d) = v.sdoData (sdoPath usdo p) x l d := by
  subst hx
  simp [State.sdoServe, hidle, hkey, hup]

end

theorem State.sdoData_more (v : State) {x : Xfer} (himage : ¬ (0x3000 ≤ x.key / 256 ∧ x.key % 256 = 1)) (d : List Byte) :
    v.sdoData (sdoPath usdo p) x false d = (v.setSdo p (some { x with data := x.data ++ d })).sdoSay p (x.key / 256) (x.key % 256) .ok := by
  simp [State.sdoData, himage]

theorem State.sdoData_last (v : State) {x : Xfer} (himage : ¬ (0x3000 ≤ x.key / 256 ∧ x.key % 256 = 1)) (d : List Byte) :
    v.sdoData (sdoPath usdo p) x true d = (v.setSdo p none).request
      { path := sdoPath usdo p, token := 0, vcid := 0, req := .write (x.key / 256) (x.key % 256) true 0 (x.data ++ d) } := by
  simp [State.sdoData, himage]

theorem State.setSdo_setSdo (v : State) (q : Nat) (x y : Option Xfer) : (v.setSdo q x).setSdo q y = v.setSdo q y :=
  congrArg (fun c => { v with can := c }) (Tab.upd_upd {} v.can q (fun c : CanPort => { c with sdo := x }) (fun c => { c with sdo := y }))

theorem key_div {i j : Nat} (hj : j < 256) : key i j / 256 = i := by
  unfold key
  omega

theorem key_mod {i j : Nat} (hj : j < 256) : key i j % 256 = j := by
  unfold key
  omega

/-! ### What the port sends -/

/-- A serving port after a frame was taken and the transfer of its server was set to `y`. -/
def State.atSdo (s : State) (p : Fin 2) (y : Option Xfer) : State := (s.takeFrame p).setSdo p y

/-- The port has taken its frame, queued the messages `m`, and its server's transfer is `y`. -/
def CanPort.replied (c : CanPort) (m : List CanMsg) (y : Option Xfer) : CanPort := { c with rx := c.rx.tail, tx := c.tx ++ m, sdo := y }

theorem State.posted_of_replied {m : List CanMsg} {y : Option Xfer} (h : t.can = s.can.upd {} p (fun c => c.replied m y)) :
    s.posted t p m ∧ (t.port p).sdo = y := by
  have hport := State.port_of_upd h
  have hp := (hport p).trans (if_pos rfl)
  refine ⟨⟨?_, ?_, fun q hq => (hport q).trans (if_neg hq), ?_⟩, ?_⟩ <;> rw [hp] <;> rfl

theorem State.takeFrame_replied (hrx : (s.port p).rx ≠ []) : (s.takeFrame p).can = s.can.upd {} p (fun c => c.replied [] (s.port p).sdo) := by
  rw [State.takeFrame_eq hrx]
  refine Tab.upd_congr (f := fun c : CanPort => { c with rx := c.rx.tail }) ?_
  change ({ s.port p with rx := (s.port p).rx.tail } : CanPort) = (s.port p).replied [] (s.port p).sdo
  simp [CanPort.replied]

section
variable (hserve : s.canServes p)
include hserve

theorem State.atSdo_can (y : Option Xfer) : (s.atSdo p y).can = s.can.upd {} p (fun c => { c with rx := c.rx.tail, sdo := y }) := by
  obtain ⟨-, -, -, hrx, -⟩ := hserve
  unfold State.atSdo
  rw [State.takeFrame_eq hrx]
  exact Tab.upd_upd {} s.can p (fun c : CanPort => { c with rx := c.rx.tail }) (fun c => { c with sdo := y })

theorem State.atSdo_frame (y : Option Xfer) : s.atSdo p y = { s with can := (s.atSdo p y).can } := by
  obtain ⟨-, -, -, hrx, -⟩ := hserve
  unfold State.atSdo
  rw [State.takeFrame_eq hrx]
  rfl

/-- From what such a port has become but for reports and the answer, a frame goes out. -/
theorem State.atSdo_sends {w : State} {y : Option Xfer} (hcan : w.can = (s.atSdo p y).can) (hod : w.od = s.od) (hfd : w.fd = s.fd) (m : CanMsg) :
    w.sendCan p m = w.updPort p (fun c => { c with tx := c.tx ++ [m] })
    ∧ (w.sendCan p m).can = s.can.upd {} p (fun c => c.replied [m] y) := by
  obtain ⟨havail, hset, -, hrx, hshort⟩ := id hserve
  have hport : w.port p = { s.port p with rx := (s.port p).rx.tail, sdo := y } :=
    (State.port_of_upd (s := s) (t := w) (p := p) (hcan.trans (s.atSdo_can hserve y)) p).trans (if_pos rfl)
  have hsend := State.sendCan_open (s := w) (q := p)
    (State.attached_of (by rw [hport]; exact havail) (by rw [State.canSet_of_port (s := s) (by rw [hport]) hod]; exact hset))
    (by unfold State.canWire; rw [hfd]; exact hshort) m
  refine ⟨hsend, ?_⟩
  rw [hsend]
  unfold State.updPort
  dsimp only
  rw [hcan, s.atSdo_can hserve]
  exact Tab.upd_upd {} s.can p _ _

/-- The server answers and counts nothing. -/
theorem State.atSdo_answers (y : Option Xfer) (r : Resp) (m : CanMsg) {t : State} (ht : ((s.atSdo p y).answer r).sendCan p m = t) :
    s.posted t p [m] ∧ (t.port p).sdo = y ∧ t = { s with can := t.can, out := { s.out with resp := some r } } := by
  have hframe := s.atSdo_frame hserve y
  obtain ⟨hsend, hcan⟩ := State.atSdo_sends hserve (w := (s.atSdo p y).answer r) (y := y) rfl (by rw [hframe]; rfl) (by rw [hframe]; rfl) m
  rw [ht] at hcan hsend
  obtain ⟨hposted, hsdo⟩ := State.posted_of_replied hcan
  refine ⟨hposted, hsdo, ?_⟩
  rw [hsend, hframe]
  rfl

/-- The server answers with an abort, which is counted. -/
theorem State.atSdo_aborts (y : Option Xfer) (i j a : Nat) {t : State} (ht : (s.atSdo p y).sdoSay p i j (.abort a) = t) :
    s.posted t p [.sdo i j (.abort a)] ∧ (t.port p).sdo = y ∧ Counted s t [key (canCnt p) 0x0C]
    ∧ t = { s with can := t.can, rep := t.rep, out := { s.out with resp := some (.abort a) } } := by
  have hframe := s.atSdo_frame hserve y
  have hsay : (s.atSdo p y).sdoSay p i j (.abort a)
      = (((s.atSdo p y).answer (.abort a)).count (canCnt p) 0x0C).sendCan p (.sdo i j (.abort a)) := rfl
  obtain ⟨hsend, hcan⟩ := State.atSdo_sends hserve (w := ((s.atSdo p y).answer (.abort a)).count (canCnt p) 0x0C) (y := y) rfl
    (by rw [hframe]; rfl) (by rw [hframe]; rfl) (.sdo i j (.abort a))
  rw [← hsay, ht] at hcan hsend
  obtain ⟨hposted, hsdo⟩ := State.posted_of_replied hcan
  refine ⟨hposted, hsdo, ?_, ?_⟩
  · rw [hsend]
    exact ((Counted.count _).of_base (by rw [hframe]; rfl)).of_rep rfl
  · rw [hsend, hframe]
    rfl

end

theorem sdoSay_ok (u : State) (i j : Nat) : u.sdoSay p i j .ok = (u.answer .ok).sendCan p (.sdo i j .ok) := rfl

/-- A read of four bytes or fewer is answered with its value. -/
theorem State.toSdo_short (u : State) {i j : Nat} {y : Val} {a : Answer} (hresp : a.resp = .value y) (hlen : a.data.length ≤ 4) :
    u.toSdo p i j a = u.sendCan p (.sdo i j (.value y)) := by
  simp [State.toSdo, Answer.aborted, hresp, Nat.not_lt.mpr hlen]

/-- A longer one announces its length, and its bytes are the transfer. -/
theorem State.toSdo_long (u : State) {i j : Nat} {y : Val} {a : Answer} (hresp : a.resp = .value y) (hlen : 4 < a.data.length) :
    u.toSdo p i j a = (u.setSdo p (some { key := key i j, data := a.data, up := true })).sendCan p (.sdo i j (.value (.num 4 a.data.length))) := by
  simp [State.toSdo, Answer.aborted, hresp, hlen, State.setSdo]

/-! ### The requests -/

section
variable (hserve : s.canServes p)
include hserve

theorem sdoRow_otherProfile (hprof : s.canSet p 1 ≠ sdoProfile usdo) (op : SdoOp) : Completes (sdoRow usdo p op) s (fun t =>
    s.posted t p [] ∧ (t.port p).sdo = (s.port p).sdo ∧ Counted s t [key (canCnt p) 0x0E] ∧ t = { s with can := t.can, rep := t.rep }) := by
  obtain ⟨-, -, -, hrx, -⟩ := id hserve
  have hexec : exec (sdoRow usdo p op) s = .next ((s.takeFrame p).count (canCnt p) 0x0E) := by
    rw [exec_sdoRow]
    exact congrArg Host.Outcome.next ((s.onPort_serves hserve _).trans (if_pos (by rwa [State.canSet_takeFrame hrx])))
  obtain ⟨hposted, hsdo⟩ := State.posted_of_replied (t := (s.takeFrame p).count (canCnt p) 0x0E) (State.takeFrame_replied hrx)
  refine ⟨_, hexec, hposted, hsdo, (Counted.count _).of_base ?_, ?_⟩
  · rw [State.takeFrame_frame hrx]
  · rw [State.takeFrame_frame hrx]
    rfl

variable (hprof : s.canSet p 1 = sdoProfile usdo)
include hprof

theorem exec_sdoRow_profile (op : SdoOp) : exec (sdoRow usdo p op) s =
    .next (if ((s.takeFrame p).port p).talks then (s.takeFrame p).sdoServe (sdoPath usdo p) op else s.takeFrame p) := by
  obtain ⟨-, -, -, hrx, -⟩ := id hserve
  rw [exec_sdoRow]
  exact congrArg Host.Outcome.next ((s.onPort_serves hserve _).trans (if_neg (by rw [State.canSet_takeFrame hrx]; exact fun h => h hprof)))

theorem sdoRow_silent (htalk : (s.port p).talks = false) (op : SdoOp) : Completes (sdoRow usdo p op) s (fun t =>
    s.posted t p [] ∧ (t.port p).sdo = (s.port p).sdo ∧ t = { s with can := t.can }) := by
  obtain ⟨-, -, -, hrx, -⟩ := id hserve
  have hexec := exec_sdoRow_profile hserve hprof op
  have hp := (State.takeFrame_port hrx p).trans (if_pos rfl)
  rw [if_neg (by rw [hp]; exact Bool.not_eq_true _ |>.mpr htalk)] at hexec
  obtain ⟨hposted, hsdo⟩ := State.posted_of_replied (State.takeFrame_replied hrx)
  exact ⟨_, hexec, hposted, hsdo, State.takeFrame_frame hrx⟩

variable (htalk : (s.port p).talks = true)
include htalk

/-- A talking port of the right profile serves the request. -/
theorem exec_sdoRow_serves (op : SdoOp) : exec (sdoRow usdo p op) s = .next ((s.takeFrame p).sdoServe (sdoPath usdo p) op) := by
  obtain ⟨-, -, -, hrx, -⟩ := id hserve
  have hp := (State.takeFrame_port hrx p).trans (if_pos rfl)
  rw [exec_sdoRow_profile hserve hprof op, if_pos (by rw [hp]; exact htalk)]

theorem sdoRow_aborted : Completes (sdoRow usdo p .abort) s (fun t => s.posted t p [] ∧ (t.port p).sdo = none ∧ t = { s with can := t.can }) := by
  have hcan : (s.atSdo p none).can = s.can.upd {} p (fun c => c.replied [] none) :=
    (s.atSdo_can hserve none).trans (Tab.upd_congr (by simp [CanPort.replied]))
  obtain ⟨hposted, hsdo⟩ := State.posted_of_replied hcan
  exact ⟨_, (exec_sdoRow_serves hserve hprof htalk .abort).trans (congrArg Host.Outcome.next (State.sdoServe_abort _)), hposted, hsdo, s.atSdo_frame hserve none⟩

/-- A request that the server answers with an abort. -/
theorem sdoRow_aborts {op : SdoOp} {y : Option Xfer} {i j a : Nat}
    (h : (s.takeFrame p).sdoServe (sdoPath usdo p) op = (s.atSdo p y).sdoSay p i j (.abort a)) : Completes (sdoRow usdo p op) s (fun t =>
      s.posted t p [.sdo i j (.abort a)] ∧ (t.port p).sdo = y ∧ Counted s t [key (canCnt p) 0x0C]
      ∧ t = { s with can := t.can, rep := t.rep, out := { s.out with resp := some (.abort a) } }) :=
  ⟨_, (exec_sdoRow_serves hserve hprof htalk op).trans (congrArg Host.Outcome.next h), s.atSdo_aborts hserve y i j a rfl⟩

/-- A request that the server answers with a frame. -/
theorem sdoRow_answers {op : SdoOp} {y : Option Xfer} {r : Resp} {m : CanMsg}
    (h : (s.takeFrame p).sdoServe (sdoPath usdo p) op = ((s.atSdo p y).answer r).sendCan p m) : Completes (sdoRow usdo p op) s (fun t =>
      s.posted t p [m] ∧ (t.port p).sdo = y ∧ t = { s with can := t.can, out := { s.out with resp := some r } }) :=
  ⟨_, (exec_sdoRow_serves hserve hprof htalk op).trans (congrArg Host.Outcome.next h), s.atSdo_answers hserve y r m rfl⟩

end

/-! ### Reads and writes that P1 answers -/

section
variable (hserve : s.canServes p) (hans : s.answers)
include hserve hans

theorem State.atSdo_answering (y : Option Xfer) : (s.atSdo p y).answers := by
  rw [s.atSdo_frame hserve]
  exact hans

theorem State.takeFrame_idle : (s.takeFrame p).od.longop = none := by
  obtain ⟨-, -, -, hrx, -⟩ := hserve
  rw [State.takeFrame_frame hrx]
  exact hans.2.1

theorem State.sdoServe_readShort {i j : Nat} {y : Val} (hv : (s.atSdo p none).readEntry p i j = .value y) (hlen : y.toBytes.length ≤ 4) :
    (s.takeFrame p).sdoServe (sdoPath usdo p) (.upload i j) = ((s.atSdo p none).answer (.value y)).sendCan p (.sdo i j (.value y)) := by
  obtain ⟨hserves, hlong, hrec⟩ := s.atSdo_answering hserve hans none
  refine (State.sdoServe_upload (s.takeFrame_idle hserve hans) i j).trans ((State.request_sdo hserves hrec (State.serveReq_sdoValue hlong _ _ hv)).trans ?_)
  exact State.toSdo_short _ rfl ((List.length_take_le' _ _).trans (by simpa using hlen))

theorem State.sdoServe_readLong {i j : Nat} {y : Val} (hv : (s.atSdo p none).readEntry p i j = .value y) (hlen : 4 < y.toBytes.length) :
    (s.takeFrame p).sdoServe (sdoPath usdo p) (.upload i j)
      = ((s.atSdo p (some { key := key i j, data := y.toBytes.take (2 ^ 32), up := true })).answer (.value y)).sendCan p
          (.sdo i j (.value (.num 4 (y.toBytes.take (2 ^ 32)).length))) := by
  obtain ⟨hserves, hlong, hrec⟩ := s.atSdo_answering hserve hans none
  refine (State.sdoServe_upload (s.takeFrame_idle hserve hans) i j).trans ((State.request_sdo hserves hrec (State.serveReq_sdoValue hlong _ _ hv)).trans ?_)
  refine (State.toSdo_long _ rfl ?_).trans (congrArg (fun w => (State.answer w (.value y)).sendCan p _) (State.setSdo_setSdo _ p none _))
  rw [List.drop_zero, List.length_take]
  exact Nat.lt_min.mpr ⟨by decide, hlen⟩

theorem State.sdoServe_readAborts {i j a : Nat} (hv : (s.atSdo p none).readEntry p i j = .abort a) :
    (s.takeFrame p).sdoServe (sdoPath usdo p) (.upload i j) = (s.atSdo p none).sdoSay p i j (.abort a) := by
  obtain ⟨hserves, hlong, hrec⟩ := s.atSdo_answering hserve hans none
  exact (State.sdoServe_upload (s.takeFrame_idle hserve hans) i j).trans
    (State.request_sdo hserves hrec (State.serveReq_readAbort hlong (path := sdoPath usdo p) _ _ (by rw [pathPort_sdoPath]; exact hv)))

variable {i j : Nat} {r : Row} (hv : (s.takeFrame p).writeGate 0 i j = .ok r) (hj : j < 256) (himage : ¬ (0x3000 ≤ i ∧ j = 1))
include hv hj himage

theorem State.sdoServe_firstSegment (d : List Byte) : (s.takeFrame p).sdoServe (sdoPath usdo p) (.download i j false d)
    = ((s.atSdo p (some { key := key i j, data := d })).answer .ok).sendCan p (.sdo i j .ok) := by
  have hmore := (s.atSdo p none).sdoData_more (usdo := usdo) (p := p) (x := { key := key i j }) (by rwa [key_div hj, key_mod hj]) d
  rw [key_div hj, key_mod hj] at hmore
  refine (State.sdoServe_download (s.takeFrame_idle hserve hans) hv false d).trans (hmore.trans ?_)
  exact (congrArg (fun w => State.sdoSay w p i j .ok) (State.setSdo_setSdo _ p none _)).trans (sdoSay_ok _ i j)

theorem State.sdoServe_whole (hu : (s.atSdo p none).writeGate 0 i j = .ok r) (d : List Byte) {w : State × Resp}
    (hw : (s.atSdo p none).writeValue i j r d = w) (hok : w.2 = .ok) :
    (s.takeFrame p).sdoServe (sdoPath usdo p) (.download i j true d) = (w.1.answer .ok).sendCan p (.sdo i j .ok) := by
  obtain ⟨hserves, hlong, hrec⟩ := s.atSdo_answering hserve hans none
  have hlast := (s.atSdo p none).sdoData_last (usdo := usdo) (p := p) (x := { key := key i j }) (by rwa [key_div hj, key_mod hj]) d
  rw [key_div hj, key_mod hj] at hlast
  have hsame : (s.atSdo p none).setSdo p none = s.atSdo p none := State.setSdo_setSdo _ p none none
  rw [hsame] at hlast
  have hwrite := State.serveWrite_sdo (usdo := usdo) (p := p) hu himage true 0 ([] ++ d)
  rw [List.nil_append, hw, hok] at hwrite
  exact (State.sdoServe_download (s.takeFrame_idle hserve hans) hv true d).trans (hlast.trans
    (State.request_sdo hserves hrec ((State.serveReq_write hlong _ _ _ _ _ _).trans hwrite)))

end

theorem State.answer_sends {w : State} (hatt : w.attached p = true) (hshort : (w.canWire p).short = false) (r : Resp) (m : CanMsg) {t : State}
    (ht : (w.answer r).sendCan p m = t) : (t.port p).tx = (w.port p).tx ++ [m] ∧ t = { w with can := t.can, out := { w.out with resp := some r } } := by
  have hsend := State.sendCan_open (s := w.answer r) (q := p) hatt hshort m
  rw [ht] at hsend
  have hp := (State.port_of_upd (s := w) (t := t) (p := p) (f := fun c => { c with tx := c.tx ++ [m] }) (by rw [hsend]; rfl) p).trans (if_pos rfl)
  exact ⟨by rw [hp], by rw [hsend]; rfl⟩

/-- Settles O43: each request of a talking port comes to one answer of the server, which is one frame on the bus. -/
theorem sdoServers : Obligations.SdoServers := by
  intro s p usdo hserve
  obtain ⟨-, -, -, hrx, -⟩ := id hserve
  have hport := (State.takeFrame_port hrx p).trans (if_pos rfl)
  have hframe := State.takeFrame_frame hrx
  have hx : ((s.takeFrame p).port p).sdo.getD {} = (s.port p).sdo.getD {} := by rw [hport]
  have hod : (s.takeFrame p).od = s.od := by rw [hframe]
  refine ⟨fun op hprof => sdoRow_otherProfile hserve hprof op, fun op hprof htalk => sdoRow_silent hserve hprof htalk op, fun hprof htalk => ?_⟩
  refine ⟨sdoRow_aborted hserve hprof htalk, fun op hop hlong => ?_, fun hidle => ?_, fun hans i j => ?_, fun hidle => ?_⟩
  · exact sdoRow_aborts hserve hprof htalk (State.sdoServe_busy (hod ▸ hlong) hop hx)
  · exact sdoRow_aborts hserve hprof htalk (State.sdoServe_unknown (hod ▸ hidle) hx)
  · refine ⟨fun y hv hlen => ?_, fun y hv hlen => ?_, fun a hv => ?_, fun a l d hv => ?_, fun r d hv hu hj himage => ⟨?_, fun hok hshort hatt => ?_⟩⟩
    · exact sdoRow_answers hserve hprof htalk (State.sdoServe_readShort hserve hans hv hlen)
    · exact sdoRow_answers hserve hprof htalk (State.sdoServe_readLong hserve hans hv hlen)
    · exact sdoRow_aborts hserve hprof htalk (State.sdoServe_readAborts hserve hans hv)
    · exact sdoRow_aborts hserve hprof htalk (State.sdoServe_downloadError (s.takeFrame_idle hserve hans) hv l d)
    · exact sdoRow_answers hserve hprof htalk (State.sdoServe_firstSegment hserve hans hv hj himage d)
    · exact ⟨_, (exec_sdoRow_serves hserve hprof htalk _).trans (congrArg Host.Outcome.next (State.sdoServe_whole hserve hans hv hj himage hu d rfl hok)),
        State.answer_sends hatt hshort _ _ rfl⟩
  · have hidle' := hod ▸ hidle
    refine ⟨fun n hup => ?_, fun n hup => ?_, fun l d hno => ?_, fun d hkey hup himage => ?_⟩
    · exact sdoRow_answers hserve hprof htalk (State.sdoServe_uploadMore hidle' hx hup n)
    · exact sdoRow_aborts hserve hprof htalk (State.sdoServe_noUpload hidle' hx hup n)
    · exact sdoRow_aborts hserve hprof htalk (State.sdoServe_noDownload hidle' hx hno l d)
    · exact sdoRow_answers hserve hprof htalk ((State.sdoServe_downloadMore hidle' hx hkey hup false d).trans
        ((State.sdoData_more _ himage d).trans (sdoSay_ok _ _ _)))

end Machine
end Sys2Proof
end

section
/-!
PROOFS. JDT, the UDP service and the pressroom's watchdogs (12 R300, 15 R361, R375, R376, R378, R379).
-/
namespace Sys2Proof
namespace Machine

variable {s t u w : State} {p : Fin 2}

/-! ### Ports that answer -/

/-- The port has taken its frame and queued the messages `m`; its JDT requesters are `l`, their transfers `x`. -/
def CanPort.jdtAt (c : CanPort) (m : List CanMsg) (l : List Nat) (x : Tab Xfer) : CanPort :=
  { c with rx := c.rx.tail, tx := c.tx ++ m, jdtWait := l, jdtXfer := x }

/-- `t` is `s` with port `p` at `CanPort.jdtAt`, and with other reports and another answer. -/
structure State.JdtAt (s t : State) (p : Fin 2) (m : List CanMsg) (l : List Nat) (x : Tab Xfer) : Prop where
  can : t.can = s.can.upd {} p (fun c => c.jdtAt m l x)
  frame : t = { s with can := t.can, rep := t.rep, out := t.out }

section
variable {m : List CanMsg} {l : List Nat} {x : Tab Xfer}

theorem State.JdtAt.port (h : s.JdtAt t p m l x) (q : Nat) : t.port q = if q = p then (s.port p).jdtAt m l x else s.port q :=
  State.port_of_upd h.can q

theorem State.JdtAt.posted (h : s.JdtAt t p m l x) : s.posted t p m ∧ (t.port p).jdtWait = l ∧ (t.port p).jdtXfer = x := by
  have hp := (h.port p).trans (if_pos rfl)
  refine ⟨⟨?_, ?_, fun q hq => (h.port q).trans (if_neg hq), ?_⟩, ?_, ?_⟩ <;> rw [hp] <;> rfl

theorem State.JdtAt.of_frame (h : s.JdtAt t p m l x) {v : State} (hv : v = { t with rep := v.rep, out := v.out }) : s.JdtAt v p m l x := by
  obtain ⟨hcan, hframe⟩ := h
  constructor
  · rw [hv]
    exact hcan
  · rw [hv, hframe]

/-- A serving port sends a frame from there. -/
theorem State.JdtAt.send (h : s.JdtAt t p m l x) (hserve : s.canServes p) (n : CanMsg) :
    s.JdtAt (t.sendCan p n) p (m ++ [n]) l x ∧ (t.sendCan p n).rep = t.rep ∧ (t.sendCan p n).out = t.out := by
  obtain ⟨havail, hset, -, -, hshort⟩ := hserve
  have hp := (h.port p).trans (if_pos rfl)
  obtain ⟨hcan, hframe⟩ := h
  have hod : t.od = s.od := by rw [hframe]
  have hsend : t.sendCan p n = t.updPort p (fun c => { c with tx := c.tx ++ [n] }) := State.sendCan_open
    (State.attached_of (by rw [hp]; exact havail) (by rw [State.canSet_of_port (s := s) (by rw [hp]; rfl) hod]; exact hset))
    (by unfold State.canWire; rw [hframe]; exact hshort) n
  rw [hsend]
  refine ⟨⟨?_, ?_⟩, rfl, rfl⟩
  · unfold State.updPort
    dsimp only
    rw [hcan, Tab.upd_upd]
    unfold CanPort.jdtAt
    simp only [List.append_assoc]
  · rw [hframe]
    rfl

end

theorem State.takeFrame_jdtAt (hrx : (s.port p).rx ≠ []) : s.JdtAt (s.takeFrame p) p [] (s.port p).jdtWait (s.port p).jdtXfer := by
  rw [State.takeFrame_eq hrx]
  refine ⟨Tab.upd_congr (f := fun c : CanPort => { c with rx := c.rx.tail }) ?_, rfl⟩
  change ({ s.port p with rx := (s.port p).rx.tail } : CanPort) = (s.port p).jdtAt [] (s.port p).jdtWait (s.port p).jdtXfer
  simp [CanPort.jdtAt]

/-- From there the JDT records of the port change. -/
theorem State.JdtAt.upd {m : List CanMsg} {l k : List Nat} {x y : Tab Xfer} (h : s.JdtAt t p m l x) {f : CanPort → CanPort}
    (hf : f ((s.port p).jdtAt m l x) = (s.port p).jdtAt m k y) : s.JdtAt (t.updPort p f) p m k y := by
  obtain ⟨hcan, hframe⟩ := h
  constructor
  · unfold State.updPort
    dsimp only
    rw [hcan, Tab.upd_upd]
    exact Tab.upd_congr hf
  · rw [hframe]
    rfl

/-- The counters that a JDT response moves (15 R376). -/
def jdtCounts (p : Fin 2) (aborted ends : Bool) : List Nat :=
  (if aborted then [key (canCnt p) 0x0C] else []) ++ (if ends then [key (canCnt p) 0x0D] else [])

/-- A JDT response after which requesters `l` and transfers `x` stand. -/
structure State.JdtReplied (s t : State) (p : Fin 2) (n : CanMsg) (l : List Nat) (x : Tab Xfer) (ks : List Nat) (r : Resp) : Prop where
  posted : s.posted t p [n]
  wait : (t.port p).jdtWait = l
  xfer : (t.port p).jdtXfer = x
  counted : Counted s t ks
  frame : t = { s with can := t.can, rep := t.rep, out := { s.out with resp := some r } }

/-- What `toJdt` counts before it sends. -/
def State.jdtCounted (s : State) (p : Fin 2) (aborted ends : Bool) : State :=
  let s := if aborted then s.count (canCnt p) 0x0C else s
  if ends then s.count (canCnt p) 0x0D else s

theorem State.jdtCounted_spec (s : State) (p : Fin 2) (aborted ends : Bool) :
    Counted s (s.jdtCounted p aborted ends) (jdtCounts p aborted ends) ∧ s.jdtCounted p aborted ends = { s with rep := (s.jdtCounted p aborted ends).rep } := by
  have hne : key (canCnt p) 0x0D ∉ [key (canCnt p) 0x0C] := by
    unfold key
    simp
  unfold State.jdtCounted jdtCounts
  cases aborted <;> cases ends
  · exact ⟨.refl s, rfl⟩
  · exact ⟨.count s, rfl⟩
  · exact ⟨.count s, rfl⟩
  · exact ⟨(Counted.count s).and_count hne, rfl⟩

theorem State.toJdt_eq (s : State) (p : Fin 2) (addr vcid : Nat) (ends : Bool) (a : Answer) (x : List Byte) :
    s.toJdt p addr vcid ends a x = (s.jdtCounted p a.aborted ends).sendCan p (.jdt addr vcid ends x) := rfl

/-- A serving port sends the response to a JDT request. -/
theorem State.JdtAt.toJdt {l : List Nat} {x : Tab Xfer} (h : s.JdtAt u p [] l x) (hrep : u.rep = s.rep) (hout : u.out = s.out) (hserve : s.canServes p)
    (addr vcid : Nat) (ends : Bool) (a : Answer) (rec : List Byte) :
    s.JdtReplied ((u.answer a.resp).toJdt p addr vcid ends a rec) p (.jdt addr vcid ends rec) l x (jdtCounts p a.aborted ends) a.resp := by
  obtain ⟨hcount, hframe⟩ := (u.answer a.resp).jdtCounted_spec p a.aborted ends
  have hat : s.JdtAt ((u.answer a.resp).jdtCounted p a.aborted ends) p [] l x := h.of_frame (by rw [hframe]; rfl)
  obtain ⟨hsent, hrep', hout'⟩ := hat.send hserve (.jdt addr vcid ends rec)
  obtain ⟨hposted, hwait, hxfer⟩ := hsent.posted
  rw [State.toJdt_eq]
  refine ⟨hposted, hwait, hxfer, (hcount.of_base (u := u.answer a.resp) hrep).of_rep hrep', ?_⟩
  have ho : ((u.answer a.resp).jdtCounted p a.aborted ends).out = { s.out with resp := some a.resp } := by
    rw [hframe]
    exact congrArg (fun o => { o with resp := some a.resp }) hout
  rw [← ho, ← hout']
  exact hsent.frame

theorem State.deliver_jdt (s : State) (p : Fin 2) (addr tok vc : Nat) (req : DictReq) (a : Answer) :
    s.deliver { path := .jdt p addr, token := tok, vcid := vc, req := req } a = (s.answer a.resp).toJdt p addr vc
      (req != .queueFull (reqEntry req).1 (reqEntry req).2) a (a.record (reqEntry req).1 (reqEntry req).2 tok) := rfl

theorem State.deliver_queueFull (s : State) (p : Fin 2) (addr tok vc i j : Nat) (a : Answer) :
    s.deliver { path := .jdt p addr, token := tok, vcid := vc, req := .queueFull i j } a
      = (s.answer a.resp).toJdt p addr vc false a (a.record i j tok) := by
  refine (s.deliver_jdt p addr tok vc (.queueFull i j) a).trans ?_
  change (s.answer a.resp).toJdt p addr vc (DictReq.queueFull i j != .queueFull i j) a (a.record i j tok) = _
  rw [bne_self_eq_false]

/-! ### JDT requests (15 R361, R375, R376) -/

/-- The row of a JDT request at a serving port, after its frame was taken. -/
def State.jdtStep (u : State) (p : Fin 2) (prio sdt vcid : Nat) (sec : Bool) (af : Nat) (b : List Byte) : State :=
  if sec || u.canSet p 7 == 0 then u.count (canCnt p) 0x0E
  else if u.boot.recovery || u.jdtIgnored p prio sdt (bits af 24 8) then u
  else if bits af 0 16 ≠ 0 ∨ bits af 16 8 = 0 ∨ bits af 16 8 = u.nodeId p ∨ recordLenOk b = false ∨ 2048 < b.length then u.count (canCnt p) 0x0E
  else u.jdtTake p (bits af 16 8) vcid b

theorem exec_jdtRequest (hserve : s.canServes p) (prio : BitVec 11) (sdt vcid : BitVec 8) (sec : Bool) (af : BitVec 32) (b : List Byte) :
    exec (.jdtRequest p prio sdt vcid sec af b) s = .next ((s.takeFrame p).jdtStep p prio.toNat sdt.toNat vcid.toNat sec af.toNat b) :=
  congrArg Host.Outcome.next (s.onPort_serves hserve _)

/-- The request is for the port: its own priority, SDT and destination (15 R375). -/
def State.jdtMine (s : State) (p : Fin 2) (prio sdt : Nat) (sec : Bool) (af : Nat) : Prop :=
  sec = false ∧ s.canSet p 7 ≠ 0 ∧ prio = s.canSet p 9 ∧ sdt = s.canSet p 8 ∧ bits af 24 8 = s.nodeId p

/-- Its address field and its record are well formed. -/
def State.jdtGood (s : State) (p : Fin 2) (af : Nat) (b : List Byte) : Prop :=
  bits af 0 16 = 0 ∧ bits af 16 8 ≠ 0 ∧ bits af 16 8 ≠ s.nodeId p ∧ recordLenOk b = true ∧ b.length ≤ 2048

section
variable {prio sdt vcid af : Nat} {sec : Bool} {b : List Byte}

theorem State.jdtStep_closed (h : sec = true ∨ u.canSet p 7 = 0) : u.jdtStep p prio sdt vcid sec af b = u.count (canCnt p) 0x0E :=
  if_pos (by simpa using h)

theorem State.jdtStep_ignored (hsec : sec = false) (hset : u.canSet p 7 ≠ 0) (h : ¬ u.jdtMine p prio sdt sec af) :
    u.jdtStep p prio sdt vcid sec af b = u := by
  have hign : u.jdtIgnored p prio sdt (bits af 24 8) = true := by
    by_contra hno
    simp only [State.jdtIgnored, Bool.or_eq_true, bne_iff_ne, ne_eq, not_or, Decidable.not_not] at hno
    obtain ⟨⟨hprio, hsdt⟩, hdest⟩ := hno
    exact h ⟨hsec, hset, hprio, hsdt, hdest⟩
  exact (if_neg (by simp [hsec, hset])).trans (if_pos (by simp [hign]))

variable (hrec : u.boot.recovery = false) (hmine : u.jdtMine p prio sdt sec af)
include hrec hmine

theorem State.jdtStep_mine : u.jdtStep p prio sdt vcid sec af b =
    if bits af 0 16 ≠ 0 ∨ bits af 16 8 = 0 ∨ bits af 16 8 = u.nodeId p ∨ recordLenOk b = false ∨ 2048 < b.length then u.count (canCnt p) 0x0E
    else u.jdtTake p (bits af 16 8) vcid b := by
  obtain ⟨hsec, hset, hprio, hsdt, hdest⟩ := hmine
  exact (if_neg (by simp [hsec, hset])).trans (if_neg (by simp [State.jdtIgnored, hrec, hprio, hsdt, hdest]))

theorem State.jdtStep_malformed (hbad : ¬ u.jdtGood p af b) : u.jdtStep p prio sdt vcid sec af b = u.count (canCnt p) 0x0E := by
  refine (State.jdtStep_mine hrec hmine).trans (if_pos ?_)
  by_contra hno
  simp only [not_or, ne_eq, Decidable.not_not, Bool.not_eq_false, Nat.not_lt] at hno
  exact hbad hno

theorem State.jdtStep_takes (hgood : u.jdtGood p af b) : u.jdtStep p prio sdt vcid sec af b = u.jdtTake p (bits af 16 8) vcid b := by
  obtain ⟨hzero, haddr, hown, hlen, hmax⟩ := hgood
  exact (State.jdtStep_mine hrec hmine).trans (if_neg (by simp [hzero, haddr, hown, hlen, Nat.not_lt.mpr hmax]))

end

section
variable (hrx : (s.port p).rx ≠ [])
include hrx

theorem State.jdtMine_takeFrame (prio sdt : Nat) (sec : Bool) (af : Nat) : (s.takeFrame p).jdtMine p prio sdt sec af ↔ s.jdtMine p prio sdt sec af := by
  unfold State.jdtMine State.nodeId
  simp only [State.canSet_takeFrame hrx]

theorem State.jdtGood_takeFrame (af : Nat) (b : List Byte) : (s.takeFrame p).jdtGood p af b ↔ s.jdtGood p af b := by
  unfold State.jdtGood State.nodeId
  simp only [State.canSet_takeFrame hrx]

end

section
variable (hserve : s.canServes p) {prio : BitVec 11} {sdt vcid : BitVec 8} {sec : Bool} {af : BitVec 32} {b : List Byte}
include hserve

theorem State.takeFrame_recovery : (s.takeFrame p).boot.recovery = false := by
  obtain ⟨-, -, hrec, hrx, -⟩ := hserve
  rw [State.takeFrame_frame hrx]
  exact hrec

theorem jdtRequest_drops (h : sec = true ∨ s.canSet p 7 = 0 ∨ (s.jdtMine p prio.toNat sdt.toNat sec af.toNat ∧ ¬ s.jdtGood p af.toNat b)) :
    Completes (.jdtRequest p prio sdt vcid sec af b) s (fun t => t.port p = { s.port p with rx := (s.port p).rx.tail }
      ∧ (∀ q, q ≠ p.val → t.port q = s.port q) ∧ Counted s t [key (canCnt p) 0x0E] ∧ t = { s with can := t.can, rep := t.rep }) := by
  obtain ⟨-, -, -, hrx, -⟩ := id hserve
  have hexec : exec (.jdtRequest p prio sdt vcid sec af b) s = .next ((s.takeFrame p).count (canCnt p) 0x0E) := by
    rw [exec_jdtRequest hserve]
    refine congrArg Host.Outcome.next ?_
    rcases h with h | h | ⟨hmine, hbad⟩
    · exact State.jdtStep_closed (.inl h)
    · exact State.jdtStep_closed (.inr (by rwa [State.canSet_takeFrame hrx]))
    · exact State.jdtStep_malformed (s.takeFrame_recovery hserve) ((State.jdtMine_takeFrame hrx ..).mpr hmine) (fun hgood => hbad ((State.jdtGood_takeFrame hrx ..).mp hgood))
  refine ⟨_, hexec, (State.takeFrame_port hrx p).trans (if_pos rfl), fun q hq => (State.takeFrame_port hrx q).trans (if_neg hq), ?_, ?_⟩
  · exact (Counted.count _).of_base (by rw [State.takeFrame_frame hrx])
  · rw [State.takeFrame_frame hrx]
    rfl

theorem jdtRequest_ignores (hsec : sec = false) (hset : s.canSet p 7 ≠ 0) (hmine : ¬ s.jdtMine p prio.toNat sdt.toNat sec af.toNat) :
    Completes (.jdtRequest p prio sdt vcid sec af b) s (fun t => t.port p = { s.port p with rx := (s.port p).rx.tail }
      ∧ (∀ q, q ≠ p.val → t.port q = s.port q) ∧ t = { s with can := t.can }) := by
  obtain ⟨-, -, -, hrx, -⟩ := id hserve
  refine ⟨_, (exec_jdtRequest hserve ..).trans (congrArg Host.Outcome.next (State.jdtStep_ignored hsec (by rwa [State.canSet_takeFrame hrx])
    (fun h => hmine ((State.jdtMine_takeFrame hrx ..).mp h)))), (State.takeFrame_port hrx p).trans (if_pos rfl),
    fun q hq => (State.takeFrame_port hrx q).trans (if_neg hq), State.takeFrame_frame hrx⟩

variable (hmine : s.jdtMine p prio.toNat sdt.toNat sec af.toNat) (hgood : s.jdtGood p af.toNat b)
include hmine hgood

/-- A whole request for the port is taken. -/
theorem exec_jdtRequest_takes :
    exec (.jdtRequest p prio sdt vcid sec af b) s = .next ((s.takeFrame p).jdtTake p (bits af.toNat 16 8) vcid.toNat b) := by
  obtain ⟨-, -, -, hrx, -⟩ := id hserve
  exact (exec_jdtRequest hserve ..).trans (congrArg Host.Outcome.next (State.jdtStep_takes (s.takeFrame_recovery hserve)
    ((State.jdtMine_takeFrame hrx ..).mpr hmine) ((State.jdtGood_takeFrame hrx ..).mpr hgood)))

theorem jdtRequest_refused (hroom : ¬ (bits af.toNat 16 8 ∉ (s.port p).jdtWait ∧ (s.port p).jdtWait.length < 8)) :
    Completes (.jdtRequest p prio sdt vcid sec af b) s (fun t => s.JdtReplied t p
      (.jdt (bits af.toNat 16 8) vcid.toNat false (responseRecord 1 (reqEntry (recordReq b)).2 (reqEntry (recordReq b)).1 0x08000021 (recordToken b) 0 []))
      (s.port p).jdtWait (s.port p).jdtXfer [key (canCnt p) 0x0C] (.abort 0x08000021)) := by
  obtain ⟨-, -, -, hrx, -⟩ := id hserve
  have hp := (State.takeFrame_port hrx p).trans (if_pos rfl)
  have hfull : (((s.takeFrame p).port p).jdtWait.contains (bits af.toNat 16 8) || decide (8 ≤ ((s.takeFrame p).port p).jdtWait.length)) = true := by
    rw [hp]
    by_contra hno
    simp only [Bool.or_eq_true, List.contains_iff_mem, decide_eq_true_eq, not_or, Nat.not_le] at hno
    exact hroom hno
  have htake : (s.takeFrame p).jdtTake p (bits af.toNat 16 8) vcid.toNat b = ((s.takeFrame p).answer (.abort 0x08000021)).toJdt p (bits af.toNat 16 8) vcid.toNat false
      { resp := .abort 0x08000021 } (responseRecord 1 (reqEntry (recordReq b)).2 (reqEntry (recordReq b)).1 0x08000021 (recordToken b) 0 []) := by
    unfold State.jdtTake
    dsimp only
    rw [if_pos hfull]
    exact State.deliver_queueFull ..
  refine ⟨_, exec_jdtRequest_takes hserve hmine hgood, ?_⟩
  rw [htake]
  have hframe := State.takeFrame_frame hrx
  exact (State.takeFrame_jdtAt hrx).toJdt (by rw [hframe]) (by rw [hframe]) hserve (bits af.toNat 16 8) vcid.toNat false { resp := .abort 0x08000021 } _

/-- The port with its frame taken and one requester more. -/
def State.jdtJoined (s : State) (p : Fin 2) (addr : Nat) : State := (s.takeFrame p).updPort p (fun c => { c with jdtWait := c.jdtWait ++ [addr] })

omit hserve hmine hgood in
theorem State.jdtJoined_at (hrx : (s.port p).rx ≠ []) (addr : Nat) :
    s.JdtAt (s.jdtJoined p addr) p [] ((s.port p).jdtWait ++ [addr]) (s.port p).jdtXfer
    ∧ s.jdtJoined p addr = { s with can := (s.jdtJoined p addr).can } := by
  refine ⟨(State.takeFrame_jdtAt hrx).upd rfl, ?_⟩
  unfold State.jdtJoined
  rw [State.takeFrame_frame hrx]
  rfl

/-- A request of a new requester is served at once, and answered in a frame. -/
theorem jdtRequest_served (hnew : bits af.toNat 16 8 ∉ (s.port p).jdtWait) (hfew : (s.port p).jdtWait.length < 8) (hans : s.answers) {req : DictReq} {x : Tab Xfer} {a : Answer}
    (hreq : recordReq b = req) (hplain : req ≠ .queueFull (reqEntry req).1 (reqEntry req).2)
    (hserved : (s.jdtJoined p (bits af.toNat 16 8)).serveReq (.jdt p (bits af.toNat 16 8)) req = (u, a))
    (hu : s.JdtAt u p [] ((s.port p).jdtWait ++ [bits af.toNat 16 8]) x) (hrep : u.rep = s.rep)
    (hout : u.out = s.out) : Completes (.jdtRequest p prio sdt vcid sec af b) s (fun t => s.JdtReplied t p
      (.jdt (bits af.toNat 16 8) vcid.toNat true (a.record (reqEntry req).1 (reqEntry req).2 (recordToken b)))
      ((s.port p).jdtWait ++ [bits af.toNat 16 8]) x (jdtCounts p a.aborted true) a.resp) := by
  obtain ⟨-, -, -, hrx, -⟩ := id hserve
  have hp := (State.takeFrame_port hrx p).trans (if_pos rfl)
  have hroom : ¬ (((s.takeFrame p).port p).jdtWait.contains (bits af.toNat 16 8) || decide (8 ≤ ((s.takeFrame p).port p).jdtWait.length)) = true := by
    rw [hp]
    simpa using ⟨hnew, hfew⟩
  have htake : (s.takeFrame p).jdtTake p (bits af.toNat 16 8) vcid.toNat b
      = (s.jdtJoined p (bits af.toNat 16 8)).request { path := .jdt p (bits af.toNat 16 8), token := recordToken b, vcid := vcid.toNat, req := req } := by
    unfold State.jdtTake
    dsimp only
    rw [if_neg hroom, hreq]
    rfl
  have hserves : (s.jdtJoined p (bits af.toNat 16 8)).serves = true ∧ (s.jdtJoined p (bits af.toNat 16 8)).boot.recovery = false := by
    rw [(State.jdtJoined_at hrx _).2]
    exact ⟨hans.1, hans.2.2⟩
  have hone : (s.jdtJoined p (bits af.toNat 16 8)).serveOne { path := .jdt p (bits af.toNat 16 8), token := recordToken b, vcid := vcid.toNat, req := req }
      = (u.answer a.resp).toJdt p (bits af.toNat 16 8) vcid.toNat true a (a.record (reqEntry req).1 (reqEntry req).2 (recordToken b)) := by
    unfold State.serveOne
    dsimp only
    rw [hserved]
    unfold State.deliver
    dsimp only
    rw [bne_iff_ne.mpr hplain]
  refine ⟨_, exec_jdtRequest_takes hserve hmine hgood, ?_⟩
  rw [htake, State.request_serves hserves.1 hserves.2, hone]
  exact hu.toJdt hrep hout hserve (bits af.toNat 16 8) vcid.toNat true a _

end

/-! ### UDP (15 R379) -/

section
variable {m : Fin 2} {src : BitVec 48} {b : List Byte}

/-- A datagram that arrives at the running service. -/
def State.udpStep (s : State) (m : Fin 2) (src : BitVec 48) (b : List Byte) : State :=
  if recordLenOk b = false then s.count 0x28D2 1
  else if s.udpWaiting.contains (.udp m src.toNat) || decide (8 ≤ s.udpWaiting.length) then
    s.deliver { path := .udp m src.toNat, token := recordToken b, vcid := 0, req := .queueFull (reqEntry (recordReq b)).1 (reqEntry (recordReq b)).2 }
      { resp := .abort 0x08000021 }
  else s.request { path := .udp m src.toNat, token := recordToken b, vcid := 0, req := recordReq b }

theorem udpDictDatagram_idle (h : s.computeRuns = false ∨ s.boot.started = false ∨ s.boot.recovery = true ∨ s.svcOn m = false) :
    exec (.udpDictDatagram m src b) s = .next s :=
  congrArg Host.Outcome.next (if_pos (by simpa [or_assoc] using h))

variable (hrun : s.computeRuns = true) (hstart : s.boot.started = true) (hrec : s.boot.recovery = false) (hsvc : s.svcOn m = true)
include hrun hstart hrec hsvc

theorem exec_udpDictDatagram : exec (.udpDictDatagram m src b) s = .next (s.udpStep m src b) :=
  congrArg Host.Outcome.next (if_neg (by simp [hrun, hstart, hrec, hsvc]))

theorem udpDictDatagram_malformed (hlen : recordLenOk b = false) :
    Completes (.udpDictDatagram m src b) s (fun t => Counted s t [key 0x28D2 1] ∧ t = { s with rep := t.rep }) :=
  ⟨_, (exec_udpDictDatagram hrun hstart hrec hsvc).trans (congrArg Host.Outcome.next (if_pos hlen)), .count s, rfl⟩

omit hrun hstart hrec hsvc in
theorem State.udpStep_full (hlen : recordLenOk b = true) (hfull : Path.udp m src.toNat ∈ s.udpWaiting ∨ 8 ≤ s.udpWaiting.length) :
    s.udpStep m src b = s.deliver { path := .udp m src.toNat, token := recordToken b, vcid := 0
                                    req := .queueFull (reqEntry (recordReq b)).1 (reqEntry (recordReq b)).2 } { resp := .abort 0x08000021 } :=
  (if_neg (by simp [hlen])).trans (if_pos (by simpa using hfull))

omit hrun hstart hrec hsvc in
theorem State.udpStep_room (hlen : recordLenOk b = true) (hnew : Path.udp m src.toNat ∉ s.udpWaiting) (hfew : s.udpWaiting.length < 8) :
    s.udpStep m src b = s.request { path := .udp m src.toNat, token := recordToken b, vcid := 0, req := recordReq b } :=
  (if_neg (by simp [hlen])).trans (if_neg (by simpa using ⟨hnew, hfew⟩))

/-- The answer of a datagram: one datagram, counted. -/
def State.datagram (s : State) (m : Fin 2) (r : Resp) (x : List Byte) : State :=
  { ((s.answer r).count (0x28A1 + m) 8) with out := { s.out with resp := some r, rdata := x } }

omit hrun hstart hrec hsvc in
theorem State.deliver_udp (s : State) (m : Fin 2) (k : Nat) (tok vc : Nat) (req : DictReq) (a : Answer) :
    s.deliver { path := .udp m k, token := tok, vcid := vc, req := req } a = s.datagram m a.resp (a.record (reqEntry req).1 (reqEntry req).2 tok) := rfl

omit hrun hstart hrec hsvc in
theorem State.datagram_counted (u : State) (hrep : u.rep = s.rep) (m : Fin 2) (r : Resp) (x : List Byte) : Counted s (u.datagram m r x) [key (0x28A1 + m) 8] :=
  ((Counted.count (u.answer r)).of_base (s := s) hrep).of_rep rfl

theorem udpDictDatagram_full (hlen : recordLenOk b = true) (hfull : Path.udp m src.toNat ∈ s.udpWaiting ∨ 8 ≤ s.udpWaiting.length) :
    Completes (.udpDictDatagram m src b) s (fun t => t.out = { s.out with
        resp := some (.abort 0x08000021)
        rdata := responseRecord 1 (reqEntry (recordReq b)).2 (reqEntry (recordReq b)).1 0x08000021 (recordToken b) 0 [] }
      ∧ Counted s t [key (0x28A1 + m) 8] ∧ t = { s with rep := t.rep, out := t.out }) :=
  ⟨_, (exec_udpDictDatagram hrun hstart hrec hsvc).trans (congrArg Host.Outcome.next (State.udpStep_full hlen hfull)), rfl, State.datagram_counted s rfl m _ _, rfl⟩

variable (hlen : recordLenOk b = true) (hnew : Path.udp m src.toNat ∉ s.udpWaiting) (hfew : s.udpWaiting.length < 8)
include hlen hnew hfew

theorem udpDictDatagram_served (hans : s.answers) {req : DictReq} {a : Answer} (hreq : recordReq b = req)
    (hserved : s.serveReq (.udp m src.toNat) req = (u, a)) :
    exec (.udpDictDatagram m src b) s = .next (u.datagram m a.resp (a.record (reqEntry req).1 (reqEntry req).2 (recordToken b))) := by
  rw [exec_udpDictDatagram hrun hstart hrec hsvc, State.udpStep_room hlen hnew hfew, hreq, State.request_serves hans.1 hans.2.2]
  unfold State.serveOne
  dsimp only
  rw [hserved]
  rfl

theorem udpDictDatagram_waits (hre : (s.host.press.at ({} : Pressroom) 1).restarting = true) : Completes (.udpDictDatagram m src b) s (fun t =>
    t = { s with od := { s.od with waiting := s.od.waiting ++ [{ path := .udp m src.toNat, token := recordToken b, vcid := 0, req := recordReq b }] } }) :=
  ⟨_, (exec_udpDictDatagram hrun hstart hrec hsvc).trans (congrArg Host.Outcome.next ((State.udpStep_room hlen hnew hfew).trans
    (State.request_waits hrun hstart hrec hre))), rfl⟩

end

/-! ### The pressroom (12 R300) -/

/-- Hart `h` of the pressroom has become `x`. -/
def State.setPress (s : State) (h : Fin 2) (x : Pressroom) : State := { s with host := { s.host with press := s.host.press.put h x } }

theorem State.setPress_press (s : State) (h : Fin 2) (x : Pressroom) (k : Nat) :
    (s.setPress h x).host.press.at {} k = if k = h then x else s.host.press.at {} k := Tab.at_put {} s.host.press h k x

theorem State.loadTcm_byte (s : State) (h : Fin 2) {a : Nat} (ha : a < tcmBase h ∨ tcmBase h + 262144 ≤ a) : (s.loadTcm h).byte a = s.byte a := by
  unfold State.loadTcm
  dsimp only
  rw [State.byte_poke, State.peek_length, if_neg (by omega)]

/-- The hart is held, its TCM reloaded and its target's stack emptied. -/
def State.held (s : State) (h : Fin 2) : State := ((s.loadTcm h).setPress h { run := false, restarting := true }).report
  (·.emptyStack ((s.loadTcm h).setPress h { run := false, restarting := true }).env (4 + h))

theorem State.held_counted (s : State) (h : Fin 2) : Counted s (s.held h) [] := fun k hk => by
  simp only [List.not_mem_nil, if_false]
  exact (Reporting.settle_cnt _ _ _ hk).trans (Reporting.emptyStack_cnt _ _ _ hk)

theorem State.stopP0_port (s : State) (q : Nat) : (s.stopP0).port q
    = { s.port q with avail := false, tx := [], tpdo := [], sdo := none, jdtWait := [], jdtXfer := [] } :=
  Tab.at_map ({} : CanPort) s.can (fun _ c => { c with avail := false, tx := [], tpdo := [], sdo := none, jdtWait := [], jdtXfer := [] }) (fun _ => rfl) q

theorem exec_pressroomWatchdogExpiry (h : Fin 2) (hrun : s.computeRuns = true) (hhart : (s.host.press.at ({} : Pressroom) h).run = true) :
    exec (.pressroomWatchdogExpiry h) s = .next (((if h.val = 0 then (s.held h).stopP0 else s.held h).count 0x28A4 (h + 1)).raise { code := 0x1A08, unit := h }) :=
  congrArg Host.Outcome.next (if_neg (by simp [hrun, hhart]))

theorem pressroomWatchdogExpiry_holds (h : Fin 2) (hrun : s.computeRuns = true) (hhart : (s.host.press.at ({} : Pressroom) h).run = true) :
    Completes (.pressroomWatchdogExpiry h) s (fun t =>
      t.host.press.at {} h = { run := false, restarting := true } ∧ (∀ k, k ≠ h.val → t.host.press.at {} k = s.host.press.at {} k)
      ∧ (∀ a, (a < tcmBase h ∨ tcmBase h + 262144 ≤ a) → t.byte a = s.byte a) ∧ t.counter 0x28A4 (h + 1) = satInc (s.counter 0x28A4 (h + 1))
      ∧ (h = 0 → ∀ q, (t.port q).avail = false ∧ (t.port q).tx = [] ∧ (t.port q).rx = (s.port q).rx)
      ∧ (h = 1 → t.can = s.can ∧ t.od = s.od)
      ∧ t = { s with mem := { s.mem with bytes := t.mem.bytes }, host := { s.host with press := t.host.press }, can := t.can, od := { s.od with waiting := t.od.waiting }
                     rep := t.rep }) := by
  obtain ⟨v, hv, hhost, hmem, hcount, hcan, hkeep, hframe⟩ : ∃ v, (if h.val = 0 then (s.held h).stopP0 else s.held h) = v
      ∧ v.host = (s.held h).host ∧ v.mem = (s.held h).mem ∧ Counted s v []
      ∧ (h = 0 → ∀ q, v.port q = { s.port q with avail := false, tx := [], tpdo := [], sdo := none, jdtWait := [], jdtXfer := [] })
      ∧ (h = 1 → v.can = s.can ∧ v.od = s.od)
      ∧ v = { s.held h with can := v.can, od := { s.od with waiting := v.od.waiting } } := by
    refine ⟨_, rfl, ?_⟩
    split
    · next h0 => exact ⟨rfl, rfl, s.held_counted h, fun _ q => (s.held h).stopP0_port q, fun h1 => by simp [h1] at h0, rfl⟩
    · next h0 => exact ⟨rfl, rfl, s.held_counted h, fun h1 => absurd (congrArg Fin.val h1) h0, fun _ => ⟨rfl, rfl⟩, rfl⟩
  have hexec := exec_pressroomWatchdogExpiry h hrun hhart
  rw [hv] at hexec
  have hpress := (s.loadTcm h).setPress_press h { run := false, restarting := true }
  have hcnt : Counted s ((v.count 0x28A4 (h + 1)).raise { code := 0x1A08, unit := h }) [key 0x28A4 (h + 1)] := (hcount.and_count (by simp)).raise _
  refine ⟨_, hexec, ?_, fun k hk => ?_, fun a ha => ?_, hcnt.counter ?_ (by simp), fun h0 q => ?_, hkeep, ?_⟩
  · change v.host.press.at {} h = _
    rw [hhost]
    exact (hpress h).trans (if_pos rfl)
  · change v.host.press.at {} k = _
    rw [hhost]
    exact (hpress k).trans (if_neg hk)
  · change cellGet memDefault v.mem.bytes a = _
    rw [hmem]
    exact s.loadTcm_byte h ha
  · unfold ownCounters key
    simp only [List.mem_cons, List.not_mem_nil, or_false, not_or]
    omega
  · change (v.port q).avail = false ∧ (v.port q).tx = [] ∧ (v.port q).rx = (s.port q).rx
    rw [hcan h0]
    exact ⟨rfl, rfl, rfl⟩
  · rw [hframe]
    rfl

theorem pressroomRestartComplete_runs (h : Fin 2) (hrun : s.computeRuns = true) (hre : (s.host.press.at ({} : Pressroom) h).restarting = true)
    (hidle : h = 0 ∨ s.od.waiting = []) : Completes (.pressroomRestartComplete h) s (fun t =>
      t.host.press.at {} h = { run := true } ∧ (∀ k, k ≠ h.val → t.host.press.at {} k = s.host.press.at {} k) ∧ t = { s with host := { s.host with press := t.host.press } }) := by
  have hpress := s.setPress_press h { run := true }
  have hexec : exec (.pressroomRestartComplete h) s = .next (s.setPress h { run := true }) := by
    refine congrArg Host.Outcome.next ((if_neg (by simp [hrun, hre])).trans ?_)
    dsimp only
    split
    · rfl
    · next h0 =>
      have hwait : s.od.waiting = [] := hidle.resolve_left (fun h1 => h0 (congrArg Fin.val h1))
      rw [hwait, List.foldl_nil, ← hwait]
      rfl
  exact ⟨_, hexec, (hpress h).trans (if_pos rfl), fun k hk => (hpress k).trans (if_neg hk), rfl⟩

/-- P1 after its restart, with an empty queue. -/
def State.restarted (s : State) : State := { s.setPress 1 { run := true } with od := { s.od with waiting := [] } }

theorem pressroomRestartComplete_serves (hrun : s.computeRuns = true) (hre : (s.host.press.at ({} : Pressroom) 1).restarting = true) {f : Fin 32} {w : Waiting}
    (hwait : s.od.waiting = [w]) (hpath : w.path = .mailbox f) (hlong : s.od.longop ≠ none) (hreq : ∀ i j, w.req ≠ .queueFull i j) :
    Completes (.pressroomRestartComplete 1) s (fun t => t.od.waiting = [] ∧ t.host.press.at {} 1 = { run := true }
      ∧ s.mailed t f (.abort 0x08000022) (responseRecord 1 (reqEntry w.req).2 (reqEntry w.req).1 0x08000022 w.token 0 [])
      ∧ t = { s with host := { s.host with fn := t.host.fn, press := t.host.press }, od := { s.od with waiting := [] }, rep := t.rep, out := t.out }) := by
  obtain ⟨path, tok, vc, req⟩ := w
  dsimp only at hpath hreq ⊢
  subst hpath
  have hexec : exec (.pressroomRestartComplete 1) s = .next (s.restarted.serveOne { path := .mailbox f, token := tok, vcid := vc, req := req }) := by
    refine congrArg Host.Outcome.next ((if_neg (by simp [hrun, hre])).trans ((if_neg (by decide)).trans ?_))
    dsimp only
    rw [hwait, List.foldl_cons, List.foldl_nil]
    rfl
  have hback := State.MbxOf.serveOne (tok := tok) (vc := vc) (s.restarted.serveReq_busy hlong (.mailbox f) hreq) (.refl s.restarted f)
  have hpress := s.setPress_press 1 { run := true } 1
  refine ⟨_, hexec, ?_⟩
  generalize s.restarted.serveOne { path := .mailbox f, token := tok, vcid := vc, req := req } = t at hback ⊢
  obtain ⟨⟨hmbx, hself, hother, hcount, hout⟩, -, hframe⟩ := hback
  refine ⟨by rw [hframe]; rfl, ?_, ⟨hmbx, hself, hother, hcount.of_base rfl, hout⟩, by rw [hframe]; rfl⟩
  rw [hframe]
  exact hpress.trans (if_pos rfl)

/-! ### Segments that time out (15 R376) -/

theorem jdtSegmentTimeout_idle (a : Fin 256) (h : ∀ x ∈ (s.port p).jdtXfer, x.1 ≠ a.val) : exec (.jdtSegmentTimeout p a) s = .next s :=
  congrArg Host.Outcome.next (if_neg (fun hany => by
    obtain ⟨x, hx, hkey⟩ := List.any_eq_true.mp hany
    exact h x hx (by simpa using hkey)))

theorem jdtSegmentTimeout_drops (a : Fin 256) (h : ∃ x ∈ (s.port p).jdtXfer, x.1 = a.val) : Completes (.jdtSegmentTimeout p a) s (fun t =>
    t.port p = { s.port p with jdtXfer := (s.port p).jdtXfer.filter (fun x => x.1 != a.val) } ∧ (∀ q, q ≠ p.val → t.port q = s.port q)
    ∧ Counted s t [key (canCnt p) 0x0F] ∧ t = { s with can := t.can, rep := t.rep }) := by
  obtain ⟨hself, hother, hframe⟩ := ((PortSet.refl s p).upd (fun c => { c with jdtXfer := without c.jdtXfer a.val })).count (canCnt p) 0x0F
  exact ⟨_, congrArg Host.Outcome.next (if_pos (by simpa using h)), hself, hother, (Counted.count _).of_base rfl, hframe⟩

/-! ### The clauses -/

theorem Answer.record_value (v : Val) (i j tok n : Nat) (d : List Byte) :
    ({ resp := .value v, data := d, total := n } : Answer).record i j tok = responseRecord 0 j i d.length tok n d := rfl

theorem Answer.record_abort (a i j tok : Nat) : ({ resp := .abort a } : Answer).record i j tok = responseRecord 1 j i a tok 0 [] := rfl

theorem jdtCounts_plain (p : Fin 2) : jdtCounts p false true = [key (canCnt p) 0x0D] := rfl

theorem jdtCounts_aborted (p : Fin 2) : jdtCounts p true true = [key (canCnt p) 0x0C, key (canCnt p) 0x0D] := rfl

section
variable (hserve : s.canServes p) {prio : BitVec 11} {sdt vcid : BitVec 8} {sec : Bool} {af : BitVec 32} {b : List Byte}
variable (hmine : s.jdtMine p prio.toNat sdt.toNat sec af.toNat) (hgood : s.jdtGood p af.toNat b)
variable (hnew : bits af.toNat 16 8 ∉ (s.port p).jdtWait) (hfew : (s.port p).jdtWait.length < 8) (hans : s.answers)
include hserve hmine hgood hnew hfew hans

theorem jdtRequest_reads {i j m o : Nat} {v : Val} (hreq : recordReq b = .read i j m o) (hv : (s.jdtJoined p (bits af.toNat 16 8)).readEntry p i j = .value v) :
    Completes (.jdtRequest p prio sdt vcid sec af b) s (fun t => s.JdtReplied t p (.jdt (bits af.toNat 16 8) vcid.toNat true
      (responseRecord 0 j i ((v.toBytes.drop o).take (min m 2032)).length (recordToken b) v.toBytes.length ((v.toBytes.drop o).take (min m 2032))))
      ((s.port p).jdtWait ++ [bits af.toNat 16 8]) (s.port p).jdtXfer [key (canCnt p) 0x0D] (.value v)) := by
  obtain ⟨-, -, -, hrx, -⟩ := id hserve
  obtain ⟨hat, hframe⟩ := State.jdtJoined_at hrx (bits af.toNat 16 8)
  have hlong : (s.jdtJoined p (bits af.toNat 16 8)).od.longop = none := by rw [hframe]; exact hans.2.1
  have hserved := State.serveReq_value hlong (path := .jdt p (bits af.toNat 16 8)) rfl m o hv
  rw [← Answer.record_value, ← jdtCounts_plain]
  exact jdtRequest_served (vcid := vcid) hserve hmine hgood hnew hfew hans hreq (by simp) hserved hat (by rw [hframe]) (by rw [hframe])

theorem jdtRequest_writeRefused {i j o a : Nat} {l : Bool} {d : List Byte} (hreq : recordReq b = .write i j l o d)
    (ha : (s.jdtJoined p (bits af.toNat 16 8)).writeGate 0 i j = .error a) :
    Completes (.jdtRequest p prio sdt vcid sec af b) s (fun t => s.JdtReplied t p
      (.jdt (bits af.toNat 16 8) vcid.toNat true (responseRecord 1 j i a (recordToken b) 0 []))
      ((s.port p).jdtWait ++ [bits af.toNat 16 8]) (without (s.port p).jdtXfer (bits af.toNat 16 8)) [key (canCnt p) 0x0C, key (canCnt p) 0x0D] (.abort a)) := by
  obtain ⟨-, -, -, hrx, -⟩ := id hserve
  obtain ⟨hat, hframe⟩ := State.jdtJoined_at hrx (bits af.toNat 16 8)
  have hlong : (s.jdtJoined p (bits af.toNat 16 8)).od.longop = none := by rw [hframe]; exact hans.2.1
  rw [← Answer.record_abort, ← jdtCounts_aborted]
  exact jdtRequest_served hserve hmine hgood hnew hfew hans hreq (by simp)
    ((State.serveReq_write hlong _ _ _ _ _ _).trans (State.serveWrite_error (path := .jdt p (bits af.toNat 16 8)) ha l o d))
    (hat.upd (f := fun c => { c with jdtXfer := without c.jdtXfer (bits af.toNat 16 8) }) rfl) (by rw [hframe]; rfl) (by rw [hframe]; rfl)

end

/-- Settles O44: each request is followed to the one place where it is answered, refused or kept. -/
theorem recordServersAndPressroom : Obligations.RecordServersAndPressroom := by
  refine ⟨fun s p prio sdt vcid sec af b hserve => ?_, fun s p a => ⟨fun h => ⟨_, jdtSegmentTimeout_idle a h, rfl⟩, jdtSegmentTimeout_drops a⟩,
    fun s m src b => ⟨fun h => ⟨_, udpDictDatagram_idle h, rfl⟩, fun hrun hstart hrec hsvc => ?_⟩, fun s h => ⟨fun hidle => ?_, pressroomWatchdogExpiry_holds h, fun hidle => ?_, ?_⟩⟩
  · dsimp only
    refine ⟨jdtRequest_drops hserve, jdtRequest_ignores hserve, fun hmine hgood hroom => ?_, fun i j m o v hmine hgood hroom hans hreq hv => ?_,
      fun i j l o d a hmine hgood hroom hans hreq ha => ?_⟩
    · exact (jdtRequest_refused hserve hmine hgood hroom).mono fun t h => ⟨h.posted, h.wait, h.counted, h.frame⟩
    · exact (jdtRequest_reads hserve hmine hgood hroom.1 hroom.2 hans hreq hv).mono fun t h => ⟨h.posted, h.wait, h.counted, h.frame⟩
    · refine (jdtRequest_writeRefused hserve hmine hgood hroom.1 hroom.2 hans hreq ha).mono fun t h => ⟨h.posted, h.wait, fun x hx => ?_, h.counted, h.frame⟩
      rw [h.xfer] at hx
      simpa using (List.mem_filter.mp hx).2
  · refine ⟨udpDictDatagram_malformed hrun hstart hrec hsvc, udpDictDatagram_full hrun hstart hrec hsvc, fun hlen hnew hfew => ⟨?_, ?_, ?_⟩⟩
    · exact fun i j mx o v hans hreq hv => ⟨_, udpDictDatagram_served hrun hstart hrec hsvc hlen hnew hfew hans hreq
        (State.serveReq_value hans.2.1 (path := .udp m src.toNat) rfl mx o hv), rfl, State.datagram_counted s rfl m _ _, rfl⟩
    · exact fun i j l o d a hans hreq ha => ⟨_, udpDictDatagram_served hrun hstart hrec hsvc hlen hnew hfew hans hreq
        ((State.serveReq_write hans.2.1 _ _ _ _ _ _).trans (State.serveWrite_error (path := .udp m src.toNat) ha l o d)), rfl,
        State.datagram_counted (s.setXfer none (.udp m src.toNat)) rfl m _ _, rfl⟩
    · exact udpDictDatagram_waits hrun hstart hrec hsvc hlen hnew hfew
  · exact ⟨_, congrArg Host.Outcome.next (if_pos (by simpa using hidle)), rfl⟩
  · exact ⟨_, congrArg Host.Outcome.next (if_pos (by simpa using hidle)), rfl⟩
  · refine fun hrun hre => ⟨pressroomRestartComplete_runs h hrun hre, ?_⟩
    rintro f w rfl hwait hpath hlong hreq
    exact pressroomRestartComplete_serves hrun hre hwait hpath hlong hreq

end Machine
end Sys2Proof
end

section
/-!
PROOFS. NMT, error control and the return of the protocol side (15 R365, R367, R370-R372, R380, R385).
-/
namespace Sys2Proof
namespace Machine

variable {s t u : State} {p : Fin 2}

/-! ### CANopen services at a serving port -/

theorem State.takeFrame_set (hrx : (s.port p).rx ≠ []) : PortSet s (s.takeFrame p) p { s.port p with rx := (s.port p).rx.tail } := by
  rw [State.takeFrame_eq hrx]
  exact (PortSet.refl s p).upd (fun c => { c with rx := c.rx.tail })

theorem State.onCanopen_serves (h : s.canServes p) (f : State → State) : s.onCanopen p f = f (s.takeFrame p) := by
  obtain ⟨-, hset, -, hrx, -⟩ := id h
  exact (s.onPort_serves h _).trans ((if_neg (by rwa [State.canSet_takeFrame hrx])).trans (if_neg (by simp [s.takeFrame_recovery h])))

/-- An NMT command for the node, or for all, is carried out. -/
theorem State.nmt_hears (h : s.canServes p) {node : BitVec 8} (hnode : node = 0 ∨ node.toNat = s.nodeId p) (f : State → State) :
    s.nmt p node f = f (s.takeFrame p) := by
  obtain ⟨-, -, -, hrx, -⟩ := id h
  exact (s.onCanopen_serves h _).trans (if_pos (by rwa [State.nodeId, State.canSet_takeFrame hrx]))

/-- A command that sets the NMT state alone. -/
theorem State.enterNmt_spec (hrx : (s.port p).rx ≠ []) (x : NmtState) (ht : (s.takeFrame p).enterNmt p x = t) :
    t.port p = { s.port p with rx := (s.port p).rx.tail, nmt := x } ∧ (∀ q, q ≠ p.val → t.port q = s.port q) ∧ t = { s with can := t.can } := by
  subst ht
  obtain ⟨hself, hother, -⟩ := (State.takeFrame_set hrx).upd (fun c => { c with nmt := x })
  exact ⟨hself, hother, by rw [State.takeFrame_eq hrx]; rfl⟩

/-! ### TPDOs at the entry into OPERATIONAL (16 R395) -/

/-- Port `p` alone has changed, and in NMT state `x` it holds the received frames `r`. -/
def State.PdosQueued (s t : State) (p : Fin 2) (x : NmtState) (r : List CanFrame) : Prop := ∃ k, PortSet s t p k ∧ k.nmt = x ∧ k.rx = r

theorem State.PdosQueued.queueTpdo {x : NmtState} {r : List CanFrame} (h : s.PdosQueued t p x r) (n : Nat) : s.PdosQueued (t.queueTpdo p n) p x r := by
  obtain ⟨k, hset, hnmt, hrx⟩ := h
  unfold State.queueTpdo
  dsimp only
  split
  · exact ⟨_, (hset.upd _).count _ _, hnmt, hrx⟩
  · exact ⟨_, hset.upd _, hnmt, hrx⟩

theorem State.PdosQueued.queueWhere {x : NmtState} {r : List CanFrame} (h : s.PdosQueued t p x r) (c : State → Nat → Bool) :
    s.PdosQueued (t.queueWhere p c) p x r := by
  unfold State.queueWhere
  generalize List.range 8 = l
  induction l generalizing t with
  | nil => exact h
  | cons n l ih =>
    rw [List.foldl_cons]
    refine ih ?_
    split
    · exact h.queueTpdo n
    · exact h

theorem nmtStart_enters (hserve : s.canServes p) {node : BitVec 8} (hnode : node = 0 ∨ node.toNat = s.nodeId p) (hnmt : (s.port p).nmt ≠ .operational) :
    Completes (.nmtStart p node) s (fun t => (t.port p).nmt = .operational ∧ (t.port p).rx = (s.port p).rx.tail ∧ (∀ q, q ≠ p.val → t.port q = s.port q)
      ∧ t = { s with can := t.can, rep := t.rep }) := by
  obtain ⟨-, -, -, hrx, -⟩ := id hserve
  have hset := State.takeFrame_set hrx
  have hstart : s.PdosQueued (((s.takeFrame p).enterNmt p .operational).startPdos p) p .operational (s.port p).rx.tail :=
    State.PdosQueued.queueWhere ⟨_, hset.upd _, rfl, rfl⟩ _
  obtain ⟨k, ⟨hself, hother, hframe⟩, hk, hkrx⟩ := hstart
  refine ⟨_, congrArg Host.Outcome.next ((s.nmt_hears hserve hnode _).trans (if_neg (by rw [hset.self]; exact hnmt))), ?_, ?_, hother, hframe⟩
  · rw [hself, hk]
  · rw [hself, hkrx]

/-! ### Reset of the communication (15 R365, R371) -/

theorem Tab.at_foldl_put {α : Type} (d : α) (f : Nat → α) (n : Nat) {k : Nat} (hpos : 1 ≤ k) (hk : k ≤ n) :
    ((List.range n).foldl (fun (t : Tab α) i => t.put (i + 1) (f (i + 1))) []).at d k = f k := by
  induction n with
  | zero => omega
  | succ n ih =>
    rw [List.range_succ, List.foldl_append, List.foldl_cons, List.foldl_nil, Tab.at_put]
    split
    · next h => rw [h]
    · next h => exact ih (by omega)

/-- The settings that a port takes at a reset of its communication. -/
def State.settingsTaken (s : State) (p : Nat) : Tab Nat := (List.range 11).foldl (fun (t : Tab Nat) i => t.put (i + 1) (s.takenSet p (i + 1))) []

/-- The port has taken its settings, and what waited for it is dropped. -/
def State.commCleared (s : State) (p : Nat) : State :=
  { s.updPort p (fun c => c.restarted (s.settingsTaken p)) with
    rep := { s.rep with emcy := s.rep.emcy.put p [] }
    od := { s.od with waiting := s.od.waiting.filter (fun (w : Waiting) => !ofPort p w.path) } }

theorem State.resetComm_eq (s : State) (p : Nat) : s.resetComm p =
    if (s.commCleared p).canSet p 1 = 0 then s.commCleared p
    else ((s.commCleared p).sendCan p .bootup).updPort p (fun c => { c with nmt := .preOperational }) := rfl

theorem State.commCleared_port (s : State) (p q : Nat) :
    (s.commCleared p).port q = if q = p then (s.port p).restarted (s.settingsTaken p) else s.port q :=
  State.port_of_upd (s := s) (t := s.commCleared p) (p := p) (f := fun c => c.restarted (s.settingsTaken p)) rfl q

/-- Settings in force are the settings taken. -/
theorem State.canSet_of_taken {q : Nat} (h : (t.port q).inForce = s.settingsTaken q) {k : Nat} (hpos : 1 ≤ k) (hk : k ≤ 11) :
    t.canSet q k = s.takenSet q k := by
  unfold State.canSet CanPort.force
  rw [h]
  exact Tab.at_foldl_put _ (s.takenSet q) 11 hpos hk

/-- A port has restarted its communication: boot-up waits to be sent, in PRE-OPERATIONAL. -/
structure State.CommReset (s t : State) (p : Fin 2) : Prop where
  port : t.port p = { (s.port p).restarted (s.settingsTaken p) with tx := [.bootup], nmt := .preOperational }
  other : ∀ q, q ≠ p.val → t.port q = s.port q
  emcy : t.rep.emcy.at [] p = []
  frame : t = { s with can := t.can, rep := t.rep, od := { s.od with waiting := t.od.waiting } }

theorem State.resetComm_spec (havail : (s.port p).avail = true) (hset : s.takenSet p 1 ≠ 0) (hshort : (s.canWire p).short = false) :
    s.CommReset (s.resetComm p) p := by
  have hport := s.commCleared_port p
  have hp := (hport p).trans (if_pos rfl)
  have hprof : (s.commCleared p).canSet p 1 ≠ 0 := by
    rw [State.canSet_of_taken (s := s) (by rw [hp]; rfl) (by decide) (by decide)]
    exact hset
  have hsend := State.sendCan_open (s := s.commCleared p) (q := p) (State.attached_of (by rw [hp]; exact havail) hprof) hshort .bootup
  have htwo := ((PortSet.refl (s.commCleared p) p).upd (fun c => { c with tx := c.tx ++ [.bootup] })).upd (fun c => { c with nmt := .preOperational })
  rw [State.resetComm_eq, if_neg hprof, hsend]
  refine ⟨htwo.self.trans ?_, fun q hq => (htwo.other q hq).trans ((hport q).trans (if_neg hq)), Tab.at_put_same _ _ _ _, rfl⟩
  rw [hp]
  rfl

theorem nmtResetCommunication_resets (hserve : s.canServes p) {node : BitVec 8} (hnode : node = 0 ∨ node.toNat = s.nodeId p) (hset : s.takenSet p 1 ≠ 0) :
    Completes (.nmtResetCommunication p node) s (fun t =>
      (t.port p).nmt = .preOperational ∧ (t.port p).tx = [.bootup] ∧ (∀ k, 1 ≤ k → k ≤ 11 → t.canSet p k = s.takenSet p k)
      ∧ (t.port p).tec = (s.port p).tec ∧ (t.port p).recErr = (s.port p).recErr ∧ t.rep.emcy.at [] p = []
      ∧ (∀ q, q ≠ p.val → t.port q = s.port q) ∧ t = { s with can := t.can, rep := t.rep, od := t.od }) := by
  obtain ⟨havail, -, -, hrx, hshort⟩ := id hserve
  obtain ⟨hself, hother, -⟩ := State.takeFrame_set hrx
  have htaken (k : Nat) : (s.takeFrame p).takenSet p k = s.takenSet p k := by rw [State.takeFrame_frame hrx]; rfl
  have hreset := State.resetComm_spec (s := s.takeFrame p) (p := p) (by rw [hself]; exact havail) (by rw [htaken]; exact hset)
    (by rw [State.takeFrame_frame hrx]; exact hshort)
  refine ⟨_, congrArg Host.Outcome.next (s.nmt_hears hserve hnode _), ?_⟩
  change _ ∧ _
  generalize (s.takeFrame p).resetComm p = t at hreset ⊢
  obtain ⟨hport, hother', hemcy, hframe⟩ := hreset
  rw [hself] at hport
  refine ⟨by rw [hport], by rw [hport], fun k hpos hk => ?_, by rw [hport]; rfl, by rw [hport]; rfl, hemcy, fun q hq => (hother' q hq).trans (hother q hq), ?_⟩
  · exact (State.canSet_of_taken (s := s.takeFrame p) (by rw [hport]; rfl) hpos hk).trans (htaken k)
  · rw [hframe, State.takeFrame_frame hrx]

theorem nmtResetNode_resets (hserve : s.canServes p) {node : BitVec 8} (hnode : node = 0 ∨ node.toNat = s.nodeId p) :
    exec (.nmtResetNode p node) s = .next ((({ s with can := s.can.upd {} p (fun c => { c with rx := c.rx.tail }) } : State).reloadShared).resetComm p) := by
  obtain ⟨-, -, -, hrx, -⟩ := id hserve
  refine congrArg Host.Outcome.next ((s.nmt_hears hserve hnode _).trans ?_)
  rw [State.takeFrame_eq hrx]
  rfl

/-! ### Error control (15 R370, R372) -/

theorem heartbeatProducer_sends (hserve : s.canServes p) (hnmt : (s.port p).nmt ≠ .initialising) (hdue : s.val 0x1017 0 ≠ 0) :
    Completes (.heartbeatProducer p) s (fun t => t.port p = { s.port p with tx := (s.port p).tx ++ [.heartbeat (nmtCode (s.port p).nmt)] }
      ∧ (∀ q, q ≠ p.val → t.port q = s.port q) ∧ t = { s with can := t.can }) := by
  obtain ⟨havail, hset, -, -, hshort⟩ := hserve
  obtain ⟨hself, hother, -⟩ := (PortSet.refl s p).upd (fun c => { c with tx := c.tx ++ [.heartbeat (nmtCode (s.port p).nmt)] })
  exact ⟨_, congrArg Host.Outcome.next ((if_pos (by simp [State.canOpen, havail, hset, hnmt, hdue])).trans
    (State.sendCan_open (State.attached_of havail hset) hshort _)), hself, hother, rfl⟩

theorem heartbeatConsumerTimeout_counts (hserve : s.canServes p) (e : Fin 4) (hnode : bits (s.val 0x1016 (e.val + 1)) 16 8 ≠ 0)
    (htime : bits (s.val 0x1016 (e.val + 1)) 0 16 ≠ 0) (hseen : ((s.port p).hb.at ({} : HbConsumer) e.val).seen = true) :
    Completes (.heartbeatConsumerTimeout p e) s (fun t => (t.port p).hb.at {} e.val = { seen := false, out := true } ∧ (t.port p).nmt = (s.port p).nmt
      ∧ Counted s t [key (canCnt p) 0x0B] ∧ (∀ q, q ≠ p.val → t.port q = s.port q) ∧ t = { s with can := t.can, rep := t.rep }) := by
  obtain ⟨havail, hset, hrec, -, -⟩ := hserve
  obtain ⟨hself, hother, hframe⟩ := (((PortSet.refl s p).upd (fun c => { c with hb := c.hb.put e.val { seen := false, out := true } })).count
    (canCnt p) 0x0B).raise { code := 0x1D07, unit := p }
  refine ⟨_, congrArg Host.Outcome.next (if_pos (by simp [State.fullCan, State.canOpen, havail, hset, hrec, hnode, htime, hseen])), ?_, ?_,
    Counted.count_raise rfl _, hother, hframe⟩
  · exact (congrArg (fun c : CanPort => c.hb.at {} e.val) hself).trans (Tab.at_put_same _ _ _ _)
  · rw [hself]

/-! ### The protocol side (15 R380, R385) -/

/-- Port `p` alone and what P0 keeps for it have changed. -/
structure State.CommFrame (s t : State) (p : Nat) : Prop where
  other : ∀ q, q ≠ p → t.port q = s.port q
  frame : t = { s with can := t.can, rep := t.rep, od := { s.od with waiting := t.od.waiting } }

theorem State.sendCan_frame (s : State) (p : Nat) (m : CanMsg) : (∀ q, q ≠ p → (s.sendCan p m).port q = s.port q)
    ∧ s.sendCan p m = { s with can := (s.sendCan p m).can, rep := (s.sendCan p m).rep } := by
  unfold State.sendCan
  split
  · exact ⟨fun _ _ => rfl, rfl⟩
  · split
    · obtain ⟨-, hother, hframe⟩ := ((PortSet.refl s p).upd (·.ended m)).count (canCnt p) 7
      exact ⟨hother, hframe⟩
    · obtain ⟨-, hother, hframe⟩ := (PortSet.refl s p).upd (fun c => { c with tx := c.tx ++ [m] })
      exact ⟨hother, hframe⟩

theorem State.resetComm_frame (s : State) (p : Nat) : s.CommFrame (s.resetComm p) p := by
  have hport := s.commCleared_port p
  rw [State.resetComm_eq]
  split
  · exact ⟨fun q hq => (hport q).trans (if_neg hq), rfl⟩
  · obtain ⟨hother, hframe⟩ := (s.commCleared p).sendCan_frame p .bootup
    obtain ⟨-, hother', hframe'⟩ := (PortSet.refl ((s.commCleared p).sendCan p .bootup) p).upd (fun c => { c with nmt := .preOperational })
    refine ⟨fun q hq => (hother' q hq).trans ((hother q hq).trans ((hport q).trans (if_neg hq))), ?_⟩
    rw [hframe', hframe]
    rfl

/-- A port that was away restarts (15 R385). -/
def State.returned (s : State) (q : Nat) : State := if (s.port q).avail then s else (s.updPort q (fun c => { c with avail := true })).resetComm q

theorem State.returned_frame (s : State) (q : Nat) : s.CommFrame (s.returned q) q := by
  unfold State.returned
  split
  · exact ⟨fun _ _ => rfl, rfl⟩
  · obtain ⟨hother, hframe⟩ := (s.updPort q (fun c => { c with avail := true })).resetComm_frame q
    obtain ⟨-, hother', -⟩ := (PortSet.refl s q).upd (fun c => { c with avail := true })
    refine ⟨fun r hr => (hother r hr).trans (hother' r hr), ?_⟩
    rw [hframe]
    rfl

theorem State.returned_restarts (haway : (s.port p).avail = false) (hset : s.takenSet p 1 ≠ 0) (hshort : (s.canWire p).short = false) :
    ((s.returned p).port p).avail = true ∧ ((s.returned p).port p).nmt = .preOperational ∧ ((s.returned p).port p).tx = [.bootup] := by
  obtain ⟨hself, -, -⟩ := (PortSet.refl s p).upd (fun c => { c with avail := true })
  have hport := (State.resetComm_spec (s := s.updPort p (fun c => { c with avail := true })) (p := p) (by rw [hself]) hset hshort).port
  rw [hself] at hport
  unfold State.returned
  rw [if_neg (by simp [haway]), hport]
  exact ⟨rfl, rfl, rfl⟩

theorem exec_protocolSideReturn (hside : s.protocolSide = true) : exec .protocolSideReturn s = .next ((s.returned 0).returned 1) :=
  congrArg Host.Outcome.next (if_pos hside)

theorem protocolSideReturn_restarts (hside : s.protocolSide = true) (haway : (s.port p).avail = false) (hset : s.takenSet p 1 ≠ 0)
    (hshort : (s.canWire p).short = false) : Completes .protocolSideReturn s (fun t =>
      (t.port p).avail = true ∧ (t.port p).nmt = .preOperational ∧ (t.port p).tx = [.bootup] ∧ t = { s with can := t.can, rep := t.rep, od := t.od }) := by
  obtain ⟨hother, hframe⟩ := s.returned_frame 0
  obtain ⟨hother', hframe'⟩ := (s.returned 0).returned_frame 1
  refine ⟨_, exec_protocolSideReturn hside, ?_⟩
  have hport : (((s.returned 0).returned 1).port p).avail = true ∧ (((s.returned 0).returned 1).port p).nmt = .preOperational
      ∧ (((s.returned 0).returned 1).port p).tx = [.bootup] := by
    match p, haway, hset, hshort with
    | 0, haway, hset, hshort =>
      rw [hother' _ (by decide)]
      exact State.returned_restarts (p := 0) haway hset hshort
    | 1, haway, hset, hshort =>
      have hsame := hother 1 (by decide)
      refine State.returned_restarts (p := 1) (by rw [← haway]; exact congrArg CanPort.avail hsame) ?_ ?_
      · rw [hframe]
        exact hset
      · rw [hframe]
        exact hshort
  obtain ⟨havail, hnmt, htx⟩ := hport
  refine ⟨havail, hnmt, htx, ?_⟩
  rw [hframe', hframe]

/-- Settles O47: NMT commands act on the port after its frame was taken; a reset of the communication is one lemma, used for the return too. -/
theorem canNmt : Obligations.CanNmt := by
  intro s p node hnode hserve
  obtain ⟨-, -, -, hrx, -⟩ := id hserve
  exact ⟨nmtStart_enters hserve hnode, ⟨_, congrArg Host.Outcome.next (s.nmt_hears hserve hnode _), State.enterNmt_spec hrx .stopped rfl⟩,
    ⟨_, congrArg Host.Outcome.next (s.nmt_hears hserve hnode _), State.enterNmt_spec hrx .preOperational rfl⟩, nmtResetCommunication_resets hserve hnode,
    ⟨_, nmtResetNode_resets hserve hnode, rfl⟩, heartbeatProducer_sends hserve, heartbeatConsumerTimeout_counts hserve,
    fun u hside haway hset hshort => protocolSideReturn_restarts hside haway hset hshort⟩

end Machine
end Sys2Proof
end

section
/-!
PROOFS. Layer setting services (15 R365, R370, R377, R382).
-/
namespace Sys2Proof
namespace Machine

variable {s t u : State} {p : Fin 2}

/-! ### The port of an LSS slave -/

/-- The port has taken its frame and queued the messages `m`; its LSS slave is `l`. -/
def CanPort.lssAt (c : CanPort) (m : List CanMsg) (l : Lss) : CanPort := { c with rx := c.rx.tail, tx := c.tx ++ m, lss := l }

/-- `t` is `s` with port `p` at `CanPort.lssAt` and with other settings, of which the profile in force is the same. -/
structure State.LssAt (s t : State) (p : Fin 2) (m : List CanMsg) (l : Lss) : Prop where
  can : t.can = s.can.upd {} p (fun c => c.lssAt m l)
  profile : t.canSet p 1 = s.canSet p 1
  frame : t = { s with can := t.can, od := t.od }

/-- What a port keeps in force does not depend on the rest of it. -/
theorem State.canSet_updPort (t : State) (p : Nat) {f : CanPort → CanPort} (hf : (f (t.port p)).inForce = (t.port p).inForce) (k : Nat) :
    (t.updPort p f).canSet p k = t.canSet p k :=
  State.canSet_of_port (t := t.updPort p f) ((congrArg CanPort.inForce ((State.port_of_upd (t := t.updPort p f) rfl p).trans (if_pos rfl))).trans hf) rfl k

namespace State.LssAt

variable {m : List CanMsg} {l : Lss}

theorem port (h : s.LssAt t p m l) (q : Nat) : t.port q = if q = p then (s.port p).lssAt m l else s.port q := State.port_of_upd h.can q

theorem lss (h : s.LssAt t p m l) : (t.port p).lss = l := congrArg CanPort.lss ((h.port p).trans (if_pos rfl))

theorem tx (h : s.LssAt t p m l) : (t.port p).tx = (s.port p).tx ++ m := congrArg CanPort.tx ((h.port p).trans (if_pos rfl))

theorem frame_can (h : s.LssAt t p m l) (hod : t.od = s.od) : t = { s with can := t.can } := by
  have hframe := h.frame
  rw [hod] at hframe
  exact hframe

theorem start (hrx : (s.port p).rx ≠ []) : s.LssAt (s.takeFrame p) p [] (s.port p).lss := by
  refine ⟨?_, State.canSet_takeFrame hrx 1, by rw [State.takeFrame_frame hrx]⟩
  rw [State.takeFrame_eq hrx]
  refine Tab.upd_congr (f := fun c : CanPort => { c with rx := c.rx.tail }) ?_
  change ({ s.port p with rx := (s.port p).rx.tail } : CanPort) = (s.port p).lssAt [] (s.port p).lss
  simp [CanPort.lssAt]

theorem setLss (h : s.LssAt t p m l) (k : Lss) : s.LssAt (t.setLss p k) p m k := by
  refine ⟨?_, (t.canSet_updPort p rfl 1).trans h.profile, ?_⟩
  · unfold State.setLss State.updPort
    dsimp only
    rw [h.can, Tab.upd_upd]
    rfl
  · rw [h.frame]
    rfl

/-- A serving port sends a frame from there. -/
theorem send (h : s.LssAt t p m l) (hserve : s.canServes p) (n : CanMsg) : s.LssAt (t.sendCan p n) p (m ++ [n]) l ∧ (t.sendCan p n).od = t.od := by
  obtain ⟨havail, hset, -, -, hshort⟩ := hserve
  have hp := (h.port p).trans (if_pos rfl)
  have hprof : t.canSet p 1 ≠ 0 := by rwa [h.profile]
  have hsend := State.sendCan_open (s := t) (q := p) (State.attached_of (by rw [hp]; exact havail) hprof)
    (by unfold State.canWire; rw [h.frame]; exact hshort) n
  rw [hsend]
  refine ⟨⟨?_, (t.canSet_updPort p rfl 1).trans h.profile, ?_⟩, rfl⟩
  · unfold State.updPort
    dsimp only
    rw [h.can, Tab.upd_upd]
    unfold CanPort.lssAt
    simp only [List.append_assoc]
  · rw [h.frame]
    rfl

/-- A setting other than the profile is written. -/
theorem setNum (h : s.LssAt t p m l) {k : Nat} (hk : k < 256) (hne : k ≠ 1) (v : Nat) : s.LssAt (t.setNum (0x2E00 + p) k v) p m l := by
  have hnum : (t.setNum (0x2E00 + p) k v).canNum p 1 = t.canNum p 1 :=
    t.num_setNum_other v _ (fun hkey => hne (key_inj (by decide) hk hkey).2.symm)
  have hset : (t.setNum (0x2E00 + p) k v).canSet p 1 = t.canSet p 1 := congrArg ((t.port p).force 1) hnum
  refine ⟨h.can, hset.trans h.profile, ?_⟩
  rw [h.frame]
  rfl

end State.LssAt

/-! ### Requests -/

section
variable (hserve : s.canServes p)
include hserve

theorem State.takeFrame_lss : (s.takeFrame p).port p = { s.port p with rx := (s.port p).rx.tail } := by
  obtain ⟨-, -, -, hrx, -⟩ := hserve
  exact (State.takeFrame_port hrx p).trans (if_pos rfl)

theorem State.takeFrame_identity (k : Nat) : (s.takeFrame p).identity k = s.identity k := by
  obtain ⟨-, -, -, hrx, -⟩ := hserve
  rw [State.takeFrame_frame hrx]
  rfl

theorem State.takeFrame_remoteMatch (k v : Nat) : (s.takeFrame p).remoteMatch k v = s.remoteMatch k v := by
  unfold State.remoteMatch
  simp only [s.takeFrame_identity hserve]

/-- A request that is answered by one frame. -/
theorem lss_answers {i : Instr} {l : Lss} {n : CanMsg} (hu : s.LssAt u p [] l) (hod : u.od = s.od) (hexec : exec i s = .next (u.sendCan p n)) :
    Completes i s (fun t => (t.port p).lss = l ∧ (t.port p).tx = (s.port p).tx ++ [n] ∧ t = { s with can := t.can }) := by
  obtain ⟨hat, hod'⟩ := hu.send hserve n
  exact ⟨_, hexec, hat.lss, hat.tx, hat.frame_can (hod'.trans hod)⟩

theorem State.takeFrame_od : (s.takeFrame p).od = s.od := by
  obtain ⟨-, -, -, hrx, -⟩ := hserve
  rw [State.takeFrame_frame hrx]

theorem State.startLss : s.LssAt (s.takeFrame p) p [] (s.port p).lss := by
  obtain ⟨-, -, -, hrx, -⟩ := hserve
  exact .start hrx

/-- A request that sets the slave and is not answered. -/
theorem lss_sets {i : Instr} {l : Lss} (hexec : exec i s = .next ((s.takeFrame p).setLss p l)) :
    Completes i s (fun t => (t.port p).lss = l ∧ (t.port p).tx = (s.port p).tx ∧ t = { s with can := t.can }) := by
  have hat := (s.startLss hserve).setLss l
  exact ⟨_, hexec, hat.lss, hat.tx.trans (List.append_nil _), hat.frame_can (s.takeFrame_od hserve)⟩

end

section
variable (hserve : s.canServes p) (hidle : s.od.longop = none)
include hserve hidle

/-- Outside a long operation a serving port hears an LSS request. -/
theorem State.lssOn_hears (f : State → Lss → State) : s.lssOn p f = f (s.takeFrame p) (s.port p).lss := by
  obtain ⟨-, -, -, hrx, -⟩ := id hserve
  have hlong : ¬ (s.takeFrame p).od.longop.isSome = true := by
    rw [State.takeFrame_frame hrx]
    simp [hidle]
  refine (s.onCanopen_serves hserve _).trans ((if_neg hlong).trans ?_)
  rw [State.takeFrame_port hrx, if_pos rfl]

theorem State.lssConfig_hears (hconf : (s.port p).lss.config = true) (f : State → State) : s.lssConfig p f = f (s.takeFrame p) :=
  (s.lssOn_hears hserve hidle _).trans (if_pos hconf)

theorem lssSwitchStateGlobal_switches (c : Bool) : Completes (.lssSwitchStateGlobal p c) s (fun t =>
    t.port p = { s.port p with rx := (s.port p).rx.tail, lss := { (s.port p).lss with config := c, select := 0 } } ∧ t = { s with can := t.can }) := by
  have hat := (s.startLss hserve).setLss { (s.port p).lss with config := c, select := 0 }
  refine ⟨_, congrArg Host.Outcome.next (s.lssOn_hears hserve hidle _), ((hat.port p).trans (if_pos rfl)).trans ?_, hat.frame_can (s.takeFrame_od hserve)⟩
  simp [CanPort.lssAt]

section
variable (k : Fin 4) (v : BitVec 32) (hconf : (s.port p).lss.config = false) (hmatch : v.toNat = s.identity (k.val + 1) % 2 ^ 32)
variable (hturn : k = 0 ∨ (s.port p).lss.select = k.val)
include hconf hmatch hturn

theorem exec_lssSwitchStateSelective : exec (.lssSwitchStateSelective p k v) s = .next (
    if k.val = 3 then ((s.takeFrame p).setLss p { (s.port p).lss with config := true, select := 0 }).sendCan p (.lss 0x44 0)
    else (s.takeFrame p).setLss p { (s.port p).lss with select := k.val + 1 }) := by
  have hin : v.toNat % 2 ^ 32 = (s.takeFrame p).identity (k.val + 1) % 2 ^ 32 ∧ (k.val = 0 ∨ (s.port p).lss.select = k.val) := by
    refine ⟨?_, hturn.imp (congrArg Fin.val) id⟩
    rw [s.takeFrame_identity hserve, hmatch, Nat.mod_mod]
  exact congrArg Host.Outcome.next ((s.lssOn_hears hserve hidle _).trans ((if_neg (by simp [hconf])).trans (if_pos hin)))

theorem lssSwitchStateSelective_matches : Completes (.lssSwitchStateSelective p k v) s (fun t =>
    (k.val < 3 → (t.port p).lss = { (s.port p).lss with select := k.val + 1 } ∧ (t.port p).tx = (s.port p).tx)
    ∧ (k.val = 3 → (t.port p).lss = { (s.port p).lss with config := true, select := 0 } ∧ (t.port p).tx = (s.port p).tx ++ [.lss 0x44 0])
    ∧ t = { s with can := t.can }) := by
  have hexec := exec_lssSwitchStateSelective hserve hidle k v hconf hmatch hturn
  by_cases hk : k.val = 3
  · rw [if_pos hk] at hexec
    refine (lss_answers hserve ((s.startLss hserve).setLss _) (s.takeFrame_od hserve) hexec).mono fun t ⟨hl, htx, hframe⟩ => ?_
    exact ⟨fun hlt => absurd hk hlt.ne, fun _ => ⟨hl, htx⟩, hframe⟩
  · rw [if_neg hk] at hexec
    exact (lss_sets hserve hexec).mono fun t ⟨hl, htx, hframe⟩ => ⟨fun _ => ⟨hl, htx⟩, fun h3 => absurd h3 hk, hframe⟩

end

section
variable (hconf : (s.port p).lss.config = true)
include hconf

theorem lssConfigureNodeId_writes (n : BitVec 8) (hlow : 1 ≤ n.toNat) (hhigh : n.toNat ≤ 127) : Completes (.lssConfigureNodeId p n) s (fun t =>
    t.canNum p 2 = n.toNat ∧ (t.port p).tx = (s.port p).tx ++ [.lss 17 0] ∧ t = { s with can := t.can, od := t.od }) := by
  obtain ⟨hat, hod⟩ := ((s.startLss hserve).setNum (k := 2) (by decide) (by decide) n.toNat).send hserve (.lss 17 0)
  refine ⟨_, congrArg Host.Outcome.next ((s.lssConfig_hears hserve hidle hconf _).trans (if_pos ⟨hlow, hhigh⟩)), ?_, hat.tx, hat.frame⟩
  unfold State.canNum State.num
  rw [hod]
  exact (s.takeFrame p).num_setNum _ _ _ _

theorem lssConfigureNodeId_refuses (n : BitVec 8) (hbad : n = 0 ∨ 127 < n.toNat) : Completes (.lssConfigureNodeId p n) s (fun t =>
    (t.port p).tx = (s.port p).tx ++ [.lss 17 1] ∧ t = { s with can := t.can }) := by
  have hout : ¬ (1 ≤ n.toNat ∧ n.toNat ≤ 127) := by
    rcases hbad with rfl | hbad
    · decide
    · omega
  exact (lss_answers (i := .lssConfigureNodeId p n) hserve (s.startLss hserve) (s.takeFrame_od hserve)
    (congrArg Host.Outcome.next ((s.lssConfig_hears hserve hidle hconf _).trans (if_neg hout)))).mono fun t ⟨_, htx, hframe⟩ => ⟨htx, hframe⟩

theorem lssConfigureBitTiming_answers (b i : BitVec 8) : Completes (.lssConfigureBitTiming p b i) s (fun t =>
    (b = 0 → rateIndex i.toNat = true → (t.port p).lss = { (s.port p).lss with rate := some i.toNat } ∧ (t.port p).tx = (s.port p).tx ++ [.lss 19 0])
    ∧ ((b ≠ 0 ∨ rateIndex i.toNat = false) → (t.port p).lss = (s.port p).lss ∧ (t.port p).tx = (s.port p).tx ++ [.lss 19 1])
    ∧ t = { s with can := t.can }) := by
  by_cases hok : b = 0 ∧ rateIndex i.toNat = true
  · refine (lss_answers (i := .lssConfigureBitTiming p b i) hserve ((s.startLss hserve).setLss _) (s.takeFrame_od hserve)
      (congrArg Host.Outcome.next ((s.lssConfig_hears hserve hidle hconf _).trans (if_pos hok)))).mono fun t ⟨hl, htx, hframe⟩ => ⟨fun _ _ => ⟨?_, htx⟩, ?_, hframe⟩
    · rw [hl, s.takeFrame_lss hserve]
    · rintro (hb | hr)
      · exact absurd hok.1 hb
      · exact absurd (hok.2.symm.trans hr) (by decide)
  · exact (lss_answers (i := .lssConfigureBitTiming p b i) hserve (s.startLss hserve) (s.takeFrame_od hserve)
      (congrArg Host.Outcome.next ((s.lssConfig_hears hserve hidle hconf _).trans (if_neg hok)))).mono
      fun t ⟨hl, htx, hframe⟩ => ⟨fun hb hr => absurd ⟨hb, hr⟩ hok, fun _ => ⟨hl, htx⟩, hframe⟩

theorem lssActivateBitTiming_activates : Completes (.lssActivateBitTiming p) s (fun t =>
    t.canSet p 3 = (s.port p).lss.rate.getD (s.canNum p 3) ∧ (t.port p).lss = (s.port p).lss ∧ t = { s with can := t.can }) := by
  obtain ⟨-, -, -, hrx, -⟩ := id hserve
  have hp := s.takeFrame_lss hserve
  have hrate : ((s.takeFrame p).port p).lss.rate.getD ((s.takeFrame p).canNum p 3) = (s.port p).lss.rate.getD (s.canNum p 3) := by
    rw [hp]
    unfold State.canNum State.num
    rw [s.takeFrame_od hserve]
  refine ⟨_, congrArg Host.Outcome.next (s.lssConfig_hears hserve hidle hconf _), ?_⟩
  dsimp only
  rw [hrate]
  generalize (s.port p).lss.rate.getD (s.canNum p 3) = r
  have hport := (State.port_of_upd (s := s.takeFrame p) (t := (s.takeFrame p).updPort p (fun c => { c with inForce := c.inForce.put 3 r })) (p := p)
    (f := fun c => { c with inForce := c.inForce.put 3 r }) rfl p).trans (if_pos rfl)
  refine ⟨?_, ?_, ?_⟩
  · unfold State.canSet CanPort.force
    rw [hport]
    exact Tab.at_put_same _ _ _ _
  · rw [hport, hp]
  · rw [State.takeFrame_eq hrx]
    rfl

/-- The rate that was configured is stored, if one was. -/
def State.rateStored (u : State) (p : Fin 2) : Option Nat → State
  | some r => u.setNum (0x2E00 + p) 3 r
  | none => u

omit hserve hidle hconf in
theorem State.rateStored_at {m : List CanMsg} {l : Lss} (h : s.LssAt u p m l) (hod : u.od = s.od) (r : Option Nat) :
    s.LssAt (u.rateStored p r) p m l ∧ (u.rateStored p r).canNum p 3 = r.getD (s.canNum p 3) := by
  cases r with
  | none =>
    refine ⟨h, ?_⟩
    unfold State.rateStored State.canNum State.num
    rw [hod]
    rfl
  | some r => exact ⟨h.setNum (by decide) (by decide) r, u.num_setNum _ _ _ _⟩

theorem lssStoreConfiguration_stores : Completes (.lssStoreConfiguration p) s (fun t =>
    t.canNum p 3 = (s.port p).lss.rate.getD (s.canNum p 3) ∧ (t.port p).tx = (s.port p).tx ++ [.lss 23 0] ∧ t = { s with can := t.can, od := t.od }) := by
  obtain ⟨hstored, hnum⟩ := State.rateStored_at (s.startLss hserve) (s.takeFrame_od hserve) (s.port p).lss.rate
  obtain ⟨hat, hod⟩ := hstored.send hserve (.lss 23 0)
  have hexec : exec (.lssStoreConfiguration p) s = .next (((s.takeFrame p).rateStored p (s.port p).lss.rate).sendCan p (.lss 23 0)) := by
    refine congrArg Host.Outcome.next ((s.lssConfig_hears hserve hidle hconf _).trans ?_)
    dsimp only
    rw [s.takeFrame_lss hserve]
    cases (s.port p).lss.rate <;> rfl
  refine ⟨_, hexec, Eq.trans ?_ hnum, hat.tx, hat.frame⟩
  unfold State.canNum State.num
  rw [hod]

theorem lssInquireIdentity_answers (k : Fin 4) : Completes (.lssInquireIdentity p k) s (fun t =>
    (t.port p).tx = (s.port p).tx ++ [.lss (0x5A + k.val) (s.identity (k.val + 1) % 2 ^ 32)] ∧ t = { s with can := t.can }) := by
  refine (lss_answers (i := .lssInquireIdentity p k) hserve (s.startLss hserve) (s.takeFrame_od hserve)
    (congrArg Host.Outcome.next (s.lssConfig_hears hserve hidle hconf _))).mono fun t ⟨_, htx, hframe⟩ => ⟨?_, hframe⟩
  rw [htx, s.takeFrame_identity hserve]

theorem lssInquireNodeId_answers : Completes (.lssInquireNodeId p) s (fun t =>
    (t.port p).tx = (s.port p).tx ++ [.lss 0x5E (s.nodeId p)] ∧ t = { s with can := t.can }) := by
  obtain ⟨-, -, -, hrx, -⟩ := id hserve
  refine (lss_answers (i := .lssInquireNodeId p) hserve (s.startLss hserve) (s.takeFrame_od hserve)
    (congrArg Host.Outcome.next (s.lssConfig_hears hserve hidle hconf _))).mono fun t ⟨_, htx, hframe⟩ => ⟨?_, hframe⟩
  rw [htx, State.nodeId, State.canSet_takeFrame hrx]
  rfl

end

theorem lssIdentifyRemoteSlave_matches (k : Fin 6) (v : BitVec 32) (hmatch : s.remoteMatch k v.toNat = true)
    (hturn : k = 0 ∨ (s.port p).lss.remote = k.val) : Completes (.lssIdentifyRemoteSlave p k v) s (fun t =>
      (k.val < 5 → (t.port p).lss = { (s.port p).lss with remote := k.val + 1 } ∧ (t.port p).tx = (s.port p).tx)
      ∧ (k.val = 5 → (t.port p).lss = { (s.port p).lss with remote := 0 } ∧ (t.port p).tx = (s.port p).tx ++ [.lss 0x4F 0])
      ∧ t = { s with can := t.can }) := by
  have hin : (s.takeFrame p).remoteMatch k v.toNat = true ∧ (k.val = 0 ∨ (s.port p).lss.remote = k.val) :=
    ⟨(s.takeFrame_remoteMatch hserve k v.toNat).trans hmatch, hturn.imp (congrArg Fin.val) id⟩
  have hexec : exec (.lssIdentifyRemoteSlave p k v) s = .next (
      if k.val = 5 then ((s.takeFrame p).setLss p { (s.port p).lss with remote := 0 }).sendCan p (.lss 0x4F 0)
      else (s.takeFrame p).setLss p { (s.port p).lss with remote := k.val + 1 }) :=
    congrArg Host.Outcome.next ((s.lssOn_hears hserve hidle _).trans (if_pos hin))
  by_cases hk : k.val = 5
  · rw [if_pos hk] at hexec
    refine (lss_answers hserve ((s.startLss hserve).setLss _) (s.takeFrame_od hserve) hexec).mono fun t ⟨hl, htx, hframe⟩ => ?_
    exact ⟨fun hlt => absurd hk hlt.ne, fun _ => ⟨hl, htx⟩, hframe⟩
  · rw [if_neg hk] at hexec
    exact (lss_sets hserve hexec).mono fun t ⟨hl, htx, hframe⟩ => ⟨fun _ => ⟨hl, htx⟩, fun h5 => absurd h5 hk, hframe⟩

/-- The field of a fast scan matches above the bit checked. -/
def State.scanMatches (s : State) (l : Lss) (id b k : Nat) : Prop := b ≤ 31 ∧ l.fast = k ∧ id / 2 ^ b = s.identity (k + 1) % 2 ^ 32 / 2 ^ b

theorem lssFastscan_scans (id : BitVec 32) (b : Fin 129) (k n : Fin 4) (hconf : (s.port p).lss.config = false) : Completes (.lssFastscan p id b k n) s (fun t =>
    (b.val = 128 → (t.port p).lss = { (s.port p).lss with fast := 0 } ∧ (t.port p).tx = (s.port p).tx ++ [.lss 0x4F 0])
    ∧ (b.val = 0 → (s.port p).lss.fast = k.val → id.toNat = s.identity (k.val + 1) % 2 ^ 32 →
        (t.port p).lss = { (s.port p).lss with fast := n.val, config := decide (n.val < k.val) } ∧ (t.port p).tx = (s.port p).tx ++ [.lss 0x4F 0])
    ∧ t = { s with can := t.can }) := by
  have hstart := s.startLss hserve
  have hod := s.takeFrame_od hserve
  have hhears := (s.lssOn_hears hserve hidle (fun s l =>
    if l.config then s
    else if b.val = 128 then (s.setLss p { l with fast := 0 }).sendCan p (.lss 0x4F 0)
    else if b.val ≤ 31 ∧ l.fast = k.val ∧ id.toNat / 2 ^ b.val = s.identity (k.val + 1) % 2 ^ 32 / 2 ^ b.val then
      (if b.val = 0 then s.setLss p { l with fast := n.val, config := decide (n.val < k.val) } else s).sendCan p (.lss 0x4F 0)
    else s)).trans (if_neg (by simp [hconf]))
  by_cases hb : b.val = 128
  · exact (lss_answers (i := .lssFastscan p id b k n) hserve (hstart.setLss _) hod (congrArg Host.Outcome.next (hhears.trans (if_pos hb)))).mono
      fun t ⟨hl, htx, hframe⟩ => ⟨fun _ => ⟨hl, htx⟩, fun h0 => absurd (h0.symm.trans hb) (by decide), hframe⟩
  · by_cases hmatch : (s.takeFrame p).scanMatches (s.port p).lss id.toNat b.val k.val
    · have hexec : exec (.lssFastscan p id b k n) s = .next ((if b.val = 0 then (s.takeFrame p).setLss p
          { (s.port p).lss with fast := n.val, config := decide (n.val < k.val) } else s.takeFrame p).sendCan p (.lss 0x4F 0)) :=
        congrArg Host.Outcome.next (hhears.trans ((if_neg hb).trans (if_pos hmatch)))
      by_cases h0 : b.val = 0
      · rw [if_pos h0] at hexec
        exact (lss_answers (i := .lssFastscan p id b k n) hserve (hstart.setLss _) hod hexec).mono fun t ⟨hl, htx, hframe⟩ => ⟨fun h => absurd h hb, fun _ _ _ => ⟨hl, htx⟩, hframe⟩
      · rw [if_neg h0] at hexec
        exact (lss_answers (i := .lssFastscan p id b k n) hserve hstart hod hexec).mono fun t ⟨_, _, hframe⟩ => ⟨fun h => absurd h hb, fun h => absurd h h0, hframe⟩
    · refine ⟨_, congrArg Host.Outcome.next (hhears.trans ((if_neg hb).trans (if_neg hmatch))), fun h => absurd h hb, fun h0 hfast hid => absurd ?_ hmatch,
        hstart.frame_can hod⟩
      refine ⟨by omega, hfast, ?_⟩
      rw [s.takeFrame_identity hserve, hid]

end

/-- Settles O48: an LSS request acts on the slave of the port after its frame was taken, and at most one frame answers it. -/
theorem canLss : Obligations.CanLss := by
  intro s p hserve hidle
  exact ⟨lssSwitchStateGlobal_switches hserve hidle, lssSwitchStateSelective_matches hserve hidle,
    fun n hconf hlow hhigh => lssConfigureNodeId_writes hserve hidle hconf n hlow hhigh, fun n hconf hbad => lssConfigureNodeId_refuses hserve hidle hconf n hbad,
    fun b i hconf => lssConfigureBitTiming_answers hserve hidle hconf b i, lssActivateBitTiming_activates hserve hidle,
    lssStoreConfiguration_stores hserve hidle, fun k hconf => lssInquireIdentity_answers hserve hidle hconf k, lssInquireNodeId_answers hserve hidle,
    lssIdentifyRemoteSlave_matches hserve hidle, lssFastscan_scans hserve hidle⟩

end Machine
end Sys2Proof
end

section
/-!
SUPPORT. What the engines of a neural core write: galley and forme bytes (08 R208, R216, R219).
-/
namespace Sys2Proof
namespace Machine

variable {s t u : State} {c : Nat}

/-! ### Cells -/

theorem cellGet_write (d : Nat → Byte) (m : List Host.Cell) (a : Nat) (x : List Byte) (i : Nat) :
    cellGet d (cellWrite d m a x) i = if a ≤ i ∧ i < a + x.length then x.getD (i - a) 0 else cellGet d m i := by
  split
  · next h =>
    obtain ⟨j, rfl⟩ := Nat.exists_eq_add_of_le h.1
    have hj : j < x.length := by omega
    rw [cellGet_write_inside m a x j hj]
    simp [List.getD_eq_getElem?_getD, hj]
  · next h => exact cellGet_write_outside m a x i (by omega)

/-- A memory after a list of writes. -/
def writes (m : List Host.Cell) (ws : List (Nat × List Byte)) : List Host.Cell := ws.foldl (fun m w => cellWrite zeroByte m w.1 w.2) m

/-- Writes at rising addresses that do not overlap. -/
def Rising (ws : List (Nat × List Byte)) : Prop := ws.Pairwise (fun v w => v.1 + v.2.length ≤ w.1)

theorem cellGet_writes {ws : List (Nat × List Byte)} (h : Rising ws) (m : List Host.Cell) :
    (∀ w ∈ ws, ∀ j, j < w.2.length → cellGet zeroByte (writes m ws) (w.1 + j) = w.2.getD j 0)
    ∧ (∀ a, (∀ w ∈ ws, ¬ (w.1 ≤ a ∧ a < w.1 + w.2.length)) → cellGet zeroByte (writes m ws) a = cellGet zeroByte m a) := by
  induction ws generalizing m with
  | nil => exact ⟨fun w hw => absurd hw List.not_mem_nil, fun _ _ => rfl⟩
  | cons w ws ih =>
    obtain ⟨hbelow, hrest⟩ := List.pairwise_cons.mp h
    obtain ⟨hin, hout⟩ := ih hrest (cellWrite zeroByte m w.1 w.2)
    refine ⟨fun v hv j hj => ?_, fun a ha => ?_⟩
    · rcases List.mem_cons.mp hv with rfl | hv
      · refine (hout _ fun x hx hxa => ?_).trans ?_
        · have := hbelow x hx
          omega
        · rw [cellGet_write, if_pos (by omega), Nat.add_sub_cancel_left]
      · exact hin v hv j hj
    · refine (hout a fun x hx => ha x (List.mem_cons_of_mem _ hx)).trans ?_
      rw [cellGet_write, if_neg (ha w List.mem_cons_self)]

theorem rising_rows {at_ : Nat → Nat} {row : Nat → List Byte} {n : Nat} (hlen : ∀ i, (row i).length = n) (hstep : ∀ i j, i < j → at_ i + n ≤ at_ j) (k : Nat) :
    Rising ((List.range k).map (fun i => (at_ i, row i))) := by
  unfold Rising
  rw [List.pairwise_map]
  refine List.pairwise_lt_range.imp fun {i j} hij => ?_
  rw [hlen]
  exact hstep i j hij

theorem cellRead_length (d : Nat → Byte) (m : List Host.Cell) (a n : Nat) : (cellRead d m a n).length = n := by
  unfold cellRead
  rw [List.length_reverse, cellTake_length]
  exact Nat.zero_add n

theorem slice_getD (x : List Byte) (a n : Nat) {j : Nat} (hj : j < n) : (slice x a n).getD j 0 = x.getD (a + j) 0 := by
  unfold slice
  simp only [List.getD_eq_getElem?_getD]
  by_cases h : a + j < x.length
  · have hin : j < ((x.drop a).take n).length := by
      rw [List.length_take, List.length_drop]
      omega
    rw [List.getElem?_append_left hin, List.getElem?_take_of_lt hj, List.getElem?_drop]
  · have hout : ((x.drop a).take n).length ≤ j := by
      rw [List.length_take, List.length_drop]
      omega
    rw [List.getElem?_append_right hout, List.getElem?_replicate, List.getElem?_eq_none (by omega)]
    split <;> rfl

/-! ### Banks of a forme (08 R216) -/

theorem bankWrite_eq (m : List Host.Cell) (size ofs : Nat) (x : List Byte) :
    bankWrite m size ofs x = writes m ((List.range 32).map (fun b => (b * size + ofs, slice x (b * (x.length / 32)) (x.length / 32)))) := by
  unfold bankWrite writes
  rw [List.foldl_map]

theorem bank_apart {size b k i n ofs : Nat} (hi : i < size) (hfit : ofs + n ≤ size) (h : k * size + ofs ≤ b * size + i ∧ b * size + i < k * size + ofs + n) :
    k = b := by
  rcases Nat.lt_trichotomy k b with hlt | rfl | hlt
  · have := Nat.mul_le_mul_right size (Nat.succ_le_of_lt hlt)
    rw [Nat.succ_mul] at this
    omega
  · rfl
  · have := Nat.mul_le_mul_right size (Nat.succ_le_of_lt hlt)
    rw [Nat.succ_mul] at this
    omega

/-- Each bank takes its part of a block. -/
theorem cellGet_bankWrite (m : List Host.Cell) {size ofs n : Nat} {x : List Byte} (hn : x.length / 32 = n) (hfit : ofs + n ≤ size) {b i : Nat} (hb : b < 32)
    (hi : i < size) : cellGet zeroByte (bankWrite m size ofs x) (b * size + i)
      = if ofs ≤ i ∧ i < ofs + n then x.getD (b * n + (i - ofs)) 0 else cellGet zeroByte m (b * size + i) := by
  rw [bankWrite_eq, hn]
  have hrise : Rising ((List.range 32).map (fun b => (b * size + ofs, slice x (b * n) n))) := by
    refine rising_rows (fun i => slice_len x _ n) (fun i j hij => ?_) 32
    have := Nat.mul_le_mul_right size (Nat.succ_le_of_lt hij)
    rw [Nat.succ_mul] at this
    omega
  obtain ⟨hin, hout⟩ := cellGet_writes hrise m
  split
  · next h =>
    obtain ⟨j, rfl⟩ := Nat.exists_eq_add_of_le h.1
    have hrow := hin (b * size + ofs, slice x (b * n) n) (List.mem_map.mpr ⟨b, List.mem_range.mpr hb, rfl⟩) j (by rw [slice_len]; omega)
    rw [slice_getD x (b * n) n (by omega)] at hrow
    rw [← Nat.add_assoc, Nat.add_sub_cancel_left]
    exact hrow
  · next h =>
    refine hout _ fun w hw hwa => h ?_
    obtain ⟨k, -, rfl⟩ := List.mem_map.mp hw
    dsimp only at hwa
    rw [slice_len] at hwa
    obtain rfl := bank_apart hi hfit hwa
    omega

/-! ### The galley -/

theorem State.galley_length (s : State) (c a n : Nat) : (s.galley c a n).length = n := cellRead_length ..

theorem State.slugBytes_plain (h : (s.core c).racy = false) (x : List Byte) : s.slugBytes c x = (s, x) := by
  simp [State.slugBytes, h]

theorem State.putGalley_plain (h : (s.core c).racy = false) (a : Nat) (x : List Byte) :
    s.putGalley c a x = s.updCore c (fun k => { k with galley := cellWrite zeroByte k.galley a x }) := by
  unfold State.putGalley
  rw [State.slugBytes_plain h]

/-- The same change of the core, said otherwise. -/
theorem State.onlyCore.as {k x : NeuralCore} (h : u.onlyCore t c k) (hk : k = x) : u.onlyCore t c x := hk ▸ h

theorem State.onlyCore.updCore {k : NeuralCore} (h : u.onlyCore t c k) (f : NeuralCore → NeuralCore) : u.onlyCore (t.updCore c f) c (f k) :=
  h.trans ((t.updCore_only c f).as (congrArg f h.1))

/-- What a fault of a galley range depends on. -/
theorem State.galleyFault_of_core (hgranule : (t.core c).granule = (u.core c).granule) (hstation : (t.core c).station = (u.core c).station) (a n : Nat) :
    t.galleyFault c a n = u.galleyFault c a n := by
  unfold State.galleyFault State.granuleOf
  rw [hgranule, hstation]

theorem State.galley_of_core (h : (t.core c).galley = (u.core c).galley) (a n : Nat) : t.galley c a n = u.galley c a n := by
  unfold State.galley
  rw [h]

/-- Rows that a slug with defined results writes into the galley. -/
theorem State.onlyCore.putRows {k : NeuralCore} (h : u.onlyCore t c k) (hracy : k.racy = false) (l : List Nat) (at_ : Nat → Nat) (row : Nat → List Byte) :
    u.onlyCore (l.foldl (fun s i => s.putGalley c (at_ i) (row i)) t) c { k with galley := writes k.galley (l.map (fun i => (at_ i, row i))) } := by
  induction l generalizing t k with
  | nil => exact h
  | cons i l ih =>
    rw [List.foldl_cons, State.putGalley_plain (by rw [h.1]; exact hracy)]
    exact ih (h.updCore _) hracy

end Machine
end Sys2Proof
end

section
/-!
PROOFS. The commands of a neural core's engines (08 R209-R221, 09 R237-R244).
-/
namespace Sys2Proof
namespace Machine

variable {s u t : State} {c : Fin 16} {v : Nat}

/-! ### Ranges of the galley -/

theorem State.galleyAbort_left {n : Nat} (f : Nat × Nat) (h : f.1 ≠ 3) : u.galleyAbort n f = u.abortSlug n f.1 := by
  unfold State.galleyAbort
  dsimp only
  rw [if_neg h]

theorem State.galleyFault_left {n a k : Nat} (hk : k ≠ 0) (h : galleySize n < a + k) : u.galleyFault n a k = some (2, a) :=
  (if_neg hk).trans (if_pos h)

/-- A range within one granule of another station. -/
theorem State.galleyFault_granule {n a : Nat} (hin : a + 32 ≤ galleySize n) (halign : a % 32 = 0) (hown : u.granuleOf n (a / 0x8000) ≠ (u.core n).station) :
    u.galleyFault n a 32 = some (3, max a (a / 0x8000 * 0x8000)) := by
  have hone : (a + 32 - 1) / 0x8000 - a / 0x8000 + 1 = 1 := by omega
  unfold State.galleyFault
  rw [if_neg (by decide), if_neg (by omega), hone]
  have hfind : (List.range 1).find? (fun i => u.granuleOf n (a / 0x8000 + i) != (u.core n).station) = some 0 := by
    simp [List.range_succ, hown]
  dsimp only
  rw [hfind]
  rfl

/-- A violation does not touch what an abort starts from. -/
theorem State.violation_core (req : Requester) (st cause a size access owner detail : Nat) :
    (u.violation req st cause a size access owner detail).slugSeqs = u.slugSeqs
    ∧ (∀ k, (u.violation req st cause a size access owner detail).core k = u.core k)
    ∧ (u.violation req st cause a size access owner detail).mem = u.mem := by
  rw [u.violation_eq]
  exact ⟨rfl, fun _ => rfl, rfl⟩

/-- An access to a granule of another station is a violation and aborts the slug (08 R221). -/
theorem State.galleyAbort_granule (hseqs : u.slugSeqs c = []) (a : Nat) : ∃ t, u.galleyAbort c (3, a) = t ∧ (t.core c).state ≠ .running
    ∧ (t.core c).cause = 3 ∧ t.ref.seq = (u.ref.seq + 1) % 2 ^ 32 ∧ (∀ k, k ≠ c.val → t.core k = u.core k) ∧ t.mem = u.mem := by
  refine ⟨_, rfl, ?_⟩
  have habort : u.galleyAbort c (3, a) = (u.violation (.core c) (u.core c).station 11 a 1 32 (u.granuleOf c (a / 0x8000)) (u.core c).pc).abortSlug c 3 := by
    unfold State.galleyAbort
    dsimp only
    rw [if_pos rfl, dif_pos c.isLt]
  obtain ⟨hslug, hcore, hmem⟩ := u.violation_core (.core c) (u.core c).station 11 a 1 32 (u.granuleOf c (a / 0x8000)) (u.core c).pc
  have hseq := State.violation_seq u (.core c) (u.core c).station 11 a 1 32 (u.granuleOf c (a / 0x8000)) (u.core c).pc
  rw [habort]
  generalize u.violation (.core c) (u.core c).station 11 a 1 32 (u.granuleOf c (a / 0x8000)) (u.core c).pc = w at hslug hcore hmem hseq ⊢
  obtain ⟨hstate, hcause, -, -, -, hothers, -, hframe⟩ := w.abortSlug_spec (c := c) (cause := 3) (by rw [hslug]; exact hseqs) (by decide) (by decide)
  generalize w.abortSlug c 3 = t at hstate hcause hothers hframe ⊢
  refine ⟨hstate, hcause, ?_, fun k hk => (hothers k hk).trans (hcore k), ?_⟩
  · rw [hframe]
    exact hseq
  · rw [hframe]
    exact hmem

/-! ### What a command touches -/

theorem State.touch_galley (u : State) (n : Nat) (ts : List Touch) (a k : Nat) : (u.touch n ts).galley n a k = u.galley n a k :=
  State.galley_of_core (by rw [(u.touch_only n ts).1]; rfl) a k

/-- A command that touches the first ranges has defined results. -/
theorem State.touch_slugBytes {n : Nat} (hracy : (u.core n).racy = false) (htouched : (u.core n).touched = []) (ts : List Touch) (x : List Byte) :
    (u.touch n ts).slugBytes n x = (u.touch n ts, x) :=
  State.slugBytes_plain (by rw [(u.touch_only n ts).1, NeuralCore.touching_first hracy htouched]; exact hracy) x

/-! ### MOVE (08 R216) -/

theorem exec_move_run (h : s.fetch c ⟨0x01, none⟩ = .run u v) : exec (.move c) s = .next (u.doMove c v) :=
  congrArg Host.Outcome.next (State.command_run h _)

/-- A forme takes a block. -/
def NeuralCore.moved (k : NeuralCore) (sp f : Nat) (x : List Byte) : NeuralCore :=
  if sp = 1 then { k with wForme := bankWrite k.wForme 2048 f x }
  else if sp = 6 then { k with vForme := cellWrite zeroByte k.vForme f x }
  else { k with aForme := k.aForme.upd [] (sp - 2) (fun m => bankWrite m 1024 f x) }

/-- Bytes that each bank of a forme takes of a MOVE, or that the V-Forme takes. -/
def movePart (sp len : Nat) : Nat := if sp = 6 then len else len / 32

/-- A MOVE does not lie where Table 8-7 lets it. -/
def moveBad (sp v : Nat) : Prop :=
  bits v 0 32 % (if sp = 6 then 32 else 1024) ≠ 0 ∨ bits v 32 32 % 32 ≠ 0 ∨ bankSize sp < bits v 80 16 * 32 + movePart sp (bits v 0 32)

theorem not_moveBad {sp n : Nat} (hn : (if sp = 6 then 32 else 1024) = n) (hlen : bits v 0 32 % n = 0) (halign : bits v 32 32 % 32 = 0)
    (hfit : bits v 80 16 * 32 + movePart sp (bits v 0 32) ≤ bankSize sp) : ¬ moveBad sp v := by
  subst hn
  rintro (h | h | h)
  · exact h hlen
  · exact h halign
  · omega

theorem State.doMove_none (h : moveSpace c (bits v 116 4) = none) : u.doMove c v = u.abortSlug c 2 := by
  unfold State.doMove
  dsimp only
  rw [h]

section
variable {sp : Nat} (hsp : moveSpace c (bits v 116 4) = some sp)
include hsp

theorem State.doMove_bad (h : moveBad sp v) : u.doMove c v = u.abortSlug c 2 := by
  unfold State.doMove
  dsimp only
  rw [hsp]
  exact if_pos h

theorem State.doMove_fault (h : ¬ moveBad sp v) {f : Nat × Nat} (hfault : u.galleyFault c (bits v 32 32) (bits v 0 32) = some f) :
    u.doMove c v = u.galleyAbort c f := by
  unfold State.doMove
  dsimp only
  rw [hsp]
  refine (if_neg h).trans ?_
  rw [hfault]

/-- The ranges that a MOVE uses. -/
def moveTouches (sp v : Nat) : List Touch :=
  [{ engine := engMove, space := 0, first := bits v 32 32, len := bits v 0 32 },
    { engine := engMove, space := sp, first := bits v 80 16 * 32, len := movePart sp (bits v 0 32), write := true }]

variable (hok : ¬ moveBad sp v) (hfault : u.galleyFault c (bits v 32 32) (bits v 0 32) = none)
variable (hracy : (u.core c).racy = false) (htouched : (u.core c).touched = [])
include hok hfault hracy htouched

theorem State.doMove_eq : u.doMove c v = ((u.touch c (moveTouches sp v)).updCore c (fun k => k.moved sp (bits v 80 16 * 32)
      (u.galley c (bits v 32 32) (bits v 0 32)))).nextCmd c := by
  unfold State.doMove
  dsimp only
  rw [hsp]
  refine (if_neg hok).trans ?_
  rw [hfault]
  dsimp only
  rw [State.touch_slugBytes hracy htouched, State.touch_galley]
  rfl

theorem State.doMove_moves : u.onlyCore (u.doMove c v) c { ({ u.core c with touched := ((u.core c).touching (moveTouches sp v)).touched } : NeuralCore).moved sp
      (bits v 80 16 * 32) (u.galley c (bits v 32 32) (bits v 0 32)) with pc := (u.core c).pc + 1 } := by
  have htouch := (u.touch_only c (moveTouches sp v)).as (NeuralCore.touching_first hracy htouched _)
  rw [State.doMove_eq hsp hok hfault hracy htouched]
  refine (State.nextCmd_only (htouch.updCore _)).as ?_
  unfold NeuralCore.moved
  split
  · rfl
  · split <;> rfl

end

theorem NeuralCore.moved_weights (k : NeuralCore) (f : Nat) (x : List Byte) : k.moved 1 f x = { k with wForme := bankWrite k.wForme 2048 f x } := rfl

theorem NeuralCore.moved_vector (k : NeuralCore) (f : Nat) (x : List Byte) : k.moved 6 f x = { k with vForme := cellWrite zeroByte k.vForme f x } := rfl

theorem NeuralCore.moved_activation (k : NeuralCore) {sp : Nat} (hlow : 2 ≤ sp) (hhigh : sp ≤ 5) (f : Nat) (x : List Byte) :
    k.moved sp f x = { k with aForme := k.aForme.upd [] (sp - 2) (fun m => bankWrite m 1024 f x) } :=
  (if_neg (by omega)).trans (if_neg (by omega))

section
variable (hfetch : s.fetch c ⟨0x01, none⟩ = .run u v)
include hfetch

theorem exec_move_moves {sp : Nat} (hsp : moveSpace c (bits v 116 4) = some sp) (hok : ¬ moveBad sp v)
    (hfault : u.galleyFault c (bits v 32 32) (bits v 0 32) = none) (hracy : (u.core c).racy = false) (htouched : (u.core c).touched = []) :
    ∃ t, exec (.move c) s = .next t ∧ u.onlyCore t c { ({ u.core c with touched := ((u.core c).touching (moveTouches sp v)).touched } : NeuralCore).moved sp
      (bits v 80 16 * 32) (u.galley c (bits v 32 32) (bits v 0 32)) with pc := (u.core c).pc + 1 } :=
  ⟨_, exec_move_run hfetch, State.doMove_moves hsp hok hfault hracy htouched⟩

section
variable (hracy : (u.core c).racy = false) (htouched : (u.core c).touched = []) (halign : bits v 32 32 % 32 = 0)
variable (hfault : u.galleyFault c (bits v 32 32) (bits v 0 32) = none)
include hracy htouched halign hfault

theorem move_vForme (hsp : moveSpace c (bits v 116 4) = some 6) (hlen : bits v 0 32 % 32 = 0) (hfit : bits v 80 16 * 32 + bits v 0 32 ≤ 32768) :
    Completes (.move c) s (fun t =>
      (∀ i, cellGet zeroByte (t.core c).vForme i = if bits v 80 16 * 32 ≤ i ∧ i < bits v 80 16 * 32 + bits v 0 32
        then (u.galley c (bits v 32 32) (bits v 0 32)).getD (i - bits v 80 16 * 32) 0 else cellGet zeroByte (u.core c).vForme i)
      ∧ u.onlyCore t c { u.core c with vForme := (t.core c).vForme, touched := (t.core c).touched, pc := (u.core c).pc + 1 }) := by
  obtain ⟨t, ht, hmoves⟩ := exec_move_moves hfetch hsp (not_moveBad rfl hlen halign hfit) hfault hracy htouched
  rw [NeuralCore.moved_vector] at hmoves
  refine ⟨t, ht, fun i => ?_, hmoves.as (by rw [hmoves.1])⟩
  rw [hmoves.1]
  refine (cellGet_write zeroByte (u.core c).vForme _ _ i).trans ?_
  rw [State.galley_length]

theorem move_wForme (hsp : moveSpace c (bits v 116 4) = some 1) (hlen : bits v 0 32 % 1024 = 0) (hfit : bits v 80 16 * 32 + bits v 0 32 / 32 ≤ 2048) :
    Completes (.move c) s (fun t =>
      (∀ b i, b < 32 → i < 2048 → cellGet zeroByte (t.core c).wForme (b * 2048 + i)
        = if bits v 80 16 * 32 ≤ i ∧ i < bits v 80 16 * 32 + bits v 0 32 / 32
          then (u.galley c (bits v 32 32) (bits v 0 32)).getD (b * (bits v 0 32 / 32) + (i - bits v 80 16 * 32)) 0
          else cellGet zeroByte (u.core c).wForme (b * 2048 + i))
      ∧ u.onlyCore t c { u.core c with wForme := (t.core c).wForme, touched := (t.core c).touched, pc := (u.core c).pc + 1 }) := by
  obtain ⟨t, ht, hmoves⟩ := exec_move_moves hfetch hsp (not_moveBad rfl hlen halign hfit) hfault hracy htouched
  rw [NeuralCore.moved_weights] at hmoves
  have hforme : (t.core c).wForme = bankWrite (u.core c).wForme 2048 (bits v 80 16 * 32) (u.galley c (bits v 32 32) (bits v 0 32)) := by rw [hmoves.1]
  refine ⟨t, ht, fun b i hb hi => ?_, hmoves.as (by rw [hmoves.1])⟩
  rw [hforme]
  exact cellGet_bankWrite (u.core c).wForme (congrArg (· / 32) (u.galley_length c (bits v 32 32) (bits v 0 32))) hfit hb hi

theorem move_aForme {sp : Nat} (hsp : moveSpace c (bits v 116 4) = some sp) (hlow : 2 ≤ sp) (hhigh : sp ≤ 5) (hlen : bits v 0 32 % 1024 = 0)
    (hfit : bits v 80 16 * 32 + bits v 0 32 / 32 ≤ 1024) : Completes (.move c) s (fun t =>
      (∀ b i, b < 32 → i < 1024 → cellGet zeroByte ((t.core c).aForme.at [] (sp - 2)) (b * 1024 + i)
        = if bits v 80 16 * 32 ≤ i ∧ i < bits v 80 16 * 32 + bits v 0 32 / 32
          then (u.galley c (bits v 32 32) (bits v 0 32)).getD (b * (bits v 0 32 / 32) + (i - bits v 80 16 * 32)) 0
          else cellGet zeroByte ((u.core c).aForme.at [] (sp - 2)) (b * 1024 + i))
      ∧ (∀ m, m ≠ sp - 2 → (t.core c).aForme.at [] m = (u.core c).aForme.at [] m)
      ∧ u.onlyCore t c { u.core c with aForme := (t.core c).aForme, touched := (t.core c).touched, pc := (u.core c).pc + 1 }) := by
  have hsix : sp ≠ 6 := by omega
  have hone : sp ≠ 1 := by omega
  have hok : ¬ moveBad sp v := not_moveBad (if_neg hsix) hlen halign (by simpa [movePart, bankSize, hone, hsix] using hfit)
  obtain ⟨t, ht, hmoves⟩ := exec_move_moves hfetch hsp hok hfault hracy htouched
  rw [NeuralCore.moved_activation _ hlow hhigh] at hmoves
  have hforme (m : Nat) : (t.core c).aForme.at [] m = if m = sp - 2
      then bankWrite ((u.core c).aForme.at [] (sp - 2)) 1024 (bits v 80 16 * 32) (u.galley c (bits v 32 32) (bits v 0 32)) else (u.core c).aForme.at [] m := by
    rw [hmoves.1]
    exact Tab.at_upd [] (u.core c).aForme (sp - 2) m (fun m => bankWrite m 1024 (bits v 80 16 * 32) (u.galley c (bits v 32 32) (bits v 0 32)))
  refine ⟨t, ht, ?_, ?_, ?_⟩
  · intro b i hb hi
    rw [hforme, if_pos rfl]
    exact cellGet_bankWrite _ (congrArg (· / 32) (u.galley_length c (bits v 32 32) (bits v 0 32))) hfit hb hi
  · intro m hm
    rw [hforme, if_neg hm]
  · exact hmoves.as (by rw [hmoves.1])

end

/-! A MOVE that is refused (08 R221) -/

variable (hseqs : u.slugSeqs c = [])
include hseqs

theorem move_refused (h : moveSpace c (bits v 116 4) = none ∨ bits v 32 32 % 32 ≠ 0 ∨ bits v 0 32 % 32 ≠ 0) :
    Completes (.move c) s (fun t => u.slugAborted t c 2) := by
  have habort : u.doMove c v = u.abortSlug c 2 := by
    cases hsp : moveSpace c (bits v 116 4) with
    | none => exact State.doMove_none hsp
    | some sp =>
      refine State.doMove_bad hsp ?_
      rcases h with h | h | h
      · exact absurd (hsp.symm.trans h) (by simp)
      · exact .inr (.inl h)
      · refine .inl fun hmod => h ?_
        split at hmod <;> omega
  exact ⟨_, (exec_move_run hfetch).trans (congrArg Host.Outcome.next habort), u.abortSlug_spec hseqs (by decide) (by decide)⟩

variable (hsp : moveSpace c (bits v 116 4) = some 6) (halign : bits v 32 32 % 32 = 0)
include hsp halign

theorem move_leaves (hlen : bits v 0 32 % 32 = 0) (hfit : bits v 80 16 * 32 + bits v 0 32 ≤ 32768) (hzero : bits v 0 32 ≠ 0)
    (hout : galleySize c < bits v 32 32 + bits v 0 32) : Completes (.move c) s (fun t => u.slugAborted t c 2) := by
  have hok : ¬ moveBad 6 v := not_moveBad rfl hlen halign hfit
  have habort : u.doMove c v = u.abortSlug c 2 := (State.doMove_fault hsp hok (State.galleyFault_left hzero hout)).trans (State.galleyAbort_left (2, bits v 32 32) (by simp))
  exact ⟨_, (exec_move_run hfetch).trans (congrArg Host.Outcome.next habort), u.abortSlug_spec hseqs (by decide) (by decide)⟩

theorem move_granule (hlen : bits v 0 32 = 32) (hfit : bits v 80 16 * 32 + 32 ≤ 32768) (hin : bits v 32 32 + 32 ≤ galleySize c)
    (hown : u.granuleOf c (bits v 32 32 / 0x8000) ≠ (u.core c).station) : Completes (.move c) s (fun t =>
      (t.core c).state ≠ .running ∧ (t.core c).cause = 3 ∧ t.ref.seq = (u.ref.seq + 1) % 2 ^ 32 ∧ (∀ k, k ≠ c.val → t.core k = u.core k) ∧ t.mem = u.mem) := by
  have hok : ¬ moveBad 6 v := not_moveBad (n := 32) rfl (by rw [hlen]) halign (by rw [hlen]; exact hfit)
  obtain ⟨t, ht, hpost⟩ := State.galleyAbort_granule hseqs (max (bits v 32 32) (bits v 32 32 / 0x8000 * 0x8000))
  have hfault : u.galleyFault c (bits v 32 32) (bits v 0 32) = some (3, max (bits v 32 32) (bits v 32 32 / 0x8000 * 0x8000)) := by
    rw [hlen]
    exact State.galleyFault_granule hin halign hown
  exact ⟨t, (exec_move_run hfetch).trans (congrArg Host.Outcome.next ((State.doMove_fault hsp hok hfault).trans ht)), hpost⟩

end

/-! ### Queued commands -/

theorem queuedWord_queued (n : Nat) (hv : v < 2 ^ 128) : queuedWord (queued n v) = v := by
  unfold queuedWord queued
  rw [Nat.mul_add_mod_self_right, Nat.mod_eq_of_lt hv]

/-! ### MATMUL (08 R209-R212) -/

theorem Tab.at_filterMap (f : Nat → Int) (l : List Nat) (n : Nat) :
    Tab.at 0 (l.filterMap (fun i => if f i = 0 then none else some (i, f i))) n = if n ∈ l then f n else 0 := by
  induction l with
  | nil => rfl
  | cons i l ih =>
    rw [List.filterMap_cons]
    by_cases hi : n = i
    · subst hi
      by_cases hf : f n = 0
      · simp [hf, ih]
      · simp [hf, Tab.at]
    · by_cases hf : f i = 0
      · simp [hf, ih, hi]
      · simp [hf, Tab.at, ih, hi, Ne.symm hi]

theorem NeuralCore.runMats_nil {k : NeuralCore} (h : k.mats = []) (n : Nat) : NeuralCore.runMats n k = k := by
  cases n with
  | zero => rfl
  | succ n => simp [NeuralCore.runMats, h]

theorem NeuralCore.runMats_waits {k : NeuralCore} {q : Nat} (h : k.mats = [q]) (hfree : k.matFree (queuedWord q) = false) (n : Nat) :
    NeuralCore.runMats (n + 1) k = k := by
  simp [NeuralCore.runMats, h, hfree]

theorem NeuralCore.runMats_one {k : NeuralCore} {q m : Nat} (h : k.mats = [q]) (hfree : k.matFree (queuedWord q) = true) (harrays : matArrays (queuedWord q) = [m])
    (n : Nat) : NeuralCore.runMats (n + 1) k = ({ k with mats := [] } : NeuralCore).matOne (queuedWord q) m := by
  have hone : ({ k with mats := [] } : NeuralCore).runMat (queuedWord q) = ({ k with mats := [] } : NeuralCore).matOne (queuedWord q) m := by
    unfold NeuralCore.runMat
    rw [harrays]
    rfl
  simp only [NeuralCore.runMats, h, hfree, if_true, hone]
  exact NeuralCore.runMats_nil rfl n

/-- The cells of a plane that a MATMUL leaves. -/
def NeuralCore.matCell (k : NeuralCore) (v m n : Nat) : Int :=
  cellSum (bits v 111 3) (bits v 48 16) (fun i => cellGet zeroByte (k.aForme.at [] m) (n / 32 * 1024 + bits v 64 16 + i))
    (fun i => cellGet zeroByte k.wForme (n % 32 * 2048 + bits v 80 16 + i))
    (if bit v 119 then 0 else Tab.at 0 (k.plane.at [] (2 * m + k.planeFor m (bit v 119))) n)

theorem NeuralCore.matOne_eq (k : NeuralCore) (v m : Nat) : k.matOne v m = { k with
    plane := k.plane.put (2 * m + k.planeFor m (bit v 119))
      ((List.range 1024).filterMap (fun n => if k.matCell v m n = 0 then none else some (n, k.matCell v m n)))
    cur := k.cur.put m (k.planeFor m (bit v 119))
    drains := if bit v 118 then k.drains ++ [{ array := m, plane := k.planeFor m (bit v 119), slot := (bits v 108 3 + m) % 8 }] else k.drains } := rfl

/-- A MATMUL that Table 8-7 does not take. -/
def matBad (c v : Nat) : Prop :=
  matArrays v = [] ∨ (matArrays v).any (fun m => decide (arrayCount c ≤ m)) = true ∨ 5 ≤ bits v 111 3 ∨ bits v 48 16 = 0 ∨ 2048 < bits v 48 16
    ∨ 1024 < bits v 64 16 + bits v 48 16 * actBytes (bits v 111 3) ∨ 2048 < bits v 80 16 + bits v 48 16

/-- The ranges that a MATMUL uses. -/
def matTouches (v : Nat) : List Touch :=
  (matArrays v).flatMap (fun m =>
    [{ engine := m, space := 1, first := bits v 80 16, len := bits v 48 16 },
     { engine := m, space := 2 + m, first := bits v 64 16, len := bits v 48 16 * actBytes (bits v 111 3) }])

/-- The core with the MATMUL at its arrays. -/
def NeuralCore.matQueued (k : NeuralCore) (v : Nat) : NeuralCore := { k with mats := k.mats ++ [queued k.pc v] }

theorem State.doMatmul_bad (h : matBad c v) : u.doMatmul c v = u.abortSlug c 2 := if_pos h

theorem State.doMatmul_queues (h : ¬ matBad c v) (hroom : (u.core c).mats.length < 4) :
    u.doMatmul c v = ((u.touch c (matTouches v)).updCore c (fun k => (k.matQueued v).runMats 5)).nextCmd c :=
  (if_neg h).trans (if_neg (Nat.not_le.mpr hroom))

section
variable (hfetch : s.fetch c ⟨0x02, none⟩ = .run u v)
include hfetch

theorem exec_matmul_run : exec (.matmul c) s = .next (u.doMatmul c v) :=
  congrArg Host.Outcome.next (State.command_run hfetch _)

theorem matmul_refused (hseqs : u.slugSeqs c = [])
    (h : 5 ≤ bits v 111 3 ∨ bits v 48 16 = 0 ∨ 2048 < bits v 48 16 ∨ matArrays v = [] ∨ ∃ m ∈ matArrays v, arrayCount c ≤ m) :
    Completes (.matmul c) s (fun t => u.slugAborted t c 2) := by
  have hbad : matBad c v := by
    rcases h with h | h | h | h | ⟨m, hm, hcount⟩
    · exact .inr (.inr (.inl h))
    · exact .inr (.inr (.inr (.inl h)))
    · exact .inr (.inr (.inr (.inr (.inl h))))
    · exact .inl h
    · exact .inr (.inl (List.any_eq_true.mpr ⟨m, hm, by simpa using hcount⟩))
  exact ⟨_, (exec_matmul_run hfetch).trans (congrArg Host.Outcome.next (State.doMatmul_bad hbad)), u.abortSlug_spec hseqs (by decide) (by decide)⟩

variable {m : Nat} (harrays : matArrays v = [m]) (hm : m < arrayCount c) (hdt : bits v 111 3 < 5) (hlow : 1 ≤ bits v 48 16) (hhigh : bits v 48 16 ≤ 2048)
variable (hact : bits v 64 16 + bits v 48 16 * actBytes (bits v 111 3) ≤ 1024) (hweight : bits v 80 16 + bits v 48 16 ≤ 2048)
variable (hmats : (u.core c).mats = [])
include harrays hm hdt hlow hhigh hact hweight hmats

theorem exec_matmul_queues : ∃ t, exec (.matmul c) s = .next t
    ∧ u.onlyCore t c { (((u.core c).touching (matTouches v)).matQueued v).runMats 5 with pc := ((((u.core c).touching (matTouches v)).matQueued v).runMats 5).pc + 1 } := by
  have hok : ¬ matBad c v := by
    have hany : ¬ (matArrays v).any (fun m => decide (arrayCount c ≤ m)) = true := by simp [harrays, hm]
    rintro (h | h | h | h | h | h | h)
    · simp [harrays] at h
    · exact hany h
    all_goals omega
  refine ⟨_, (exec_matmul_run hfetch).trans (congrArg Host.Outcome.next (State.doMatmul_queues hok (by rw [hmats]; decide))), ?_⟩
  exact State.nextCmd_only ((u.touch_only c (matTouches v)).updCore _)

theorem matmul_waits (hv : v < 2 ^ 128) (hbusy : (u.core c).matFree v = false) : Completes (.matmul c) s (fun t =>
    u.onlyCore t c { u.core c with touched := (t.core c).touched, racy := (t.core c).racy, mats := [queued (u.core c).pc v], pc := (u.core c).pc + 1 }) := by
  obtain ⟨t, ht, honly⟩ := exec_matmul_queues hfetch harrays hm hdt hlow hhigh hact hweight hmats
  have hq : (((u.core c).touching (matTouches v)).matQueued v).mats = [queued (u.core c).pc v] := by
    change (u.core c).mats ++ [queued (u.core c).pc v] = _
    rw [hmats]
    rfl
  rw [NeuralCore.runMats_waits hq (by rw [queuedWord_queued _ hv]; exact hbusy)] at honly
  refine ⟨t, ht, honly.as ?_⟩
  rw [honly.1]
  unfold NeuralCore.matQueued NeuralCore.touching
  rw [hmats]
  rfl

theorem matmul_runs (hv : v < 2 ^ 128) (hfree : (u.core c).matFree v = true) : Completes (.matmul c) s (fun t =>
    (∀ n, n < 1024 → Tab.at 0 ((t.core c).plane.at [] (2 * m + (u.core c).planeFor m (bit v 119))) n = (u.core c).matCell v m n)
    ∧ (∀ k, k ≠ 2 * m + (u.core c).planeFor m (bit v 119) → (t.core c).plane.at [] k = (u.core c).plane.at [] k)
    ∧ (t.core c).cur.at 0 m = (u.core c).planeFor m (bit v 119)
    ∧ (t.core c).drains = (if bit v 118 then (u.core c).drains ++ [{ array := m, plane := (u.core c).planeFor m (bit v 119), slot := (bits v 108 3 + m) % 8 }]
        else (u.core c).drains)
    ∧ u.onlyCore t c { u.core c with plane := (t.core c).plane, cur := (t.core c).cur, drains := (t.core c).drains, touched := (t.core c).touched
                                     racy := (t.core c).racy, mats := [], pc := (u.core c).pc + 1 }) := by
  obtain ⟨t, ht, honly⟩ := exec_matmul_queues hfetch harrays hm hdt hlow hhigh hact hweight hmats
  have hq : (((u.core c).touching (matTouches v)).matQueued v).mats = [queued (u.core c).pc v] := by
    change (u.core c).mats ++ [queued (u.core c).pc v] = _
    rw [hmats]
    rfl
  have hword := queuedWord_queued (v := v) (u.core c).pc hv
  rw [NeuralCore.runMats_one (m := m) hq (by rw [hword]; exact hfree) (by rw [hword]; exact harrays), hword, NeuralCore.matOne_eq] at honly
  have hplane : (t.core c).plane = (u.core c).plane.put (2 * m + (u.core c).planeFor m (bit v 119))
      ((List.range 1024).filterMap (fun n => if (u.core c).matCell v m n = 0 then none else some (n, (u.core c).matCell v m n))) := by
    rw [honly.1]
    rfl
  refine ⟨t, ht, fun n hn => ?_, fun k hk => ?_, ?_, ?_, honly.as ?_⟩
  · rw [hplane, Tab.at_put_same, Tab.at_filterMap, if_pos (List.mem_range.mpr hn)]
  · rw [hplane, Tab.at_put, if_neg hk]
  · rw [honly.1]
    exact Tab.at_put_same _ _ _ _
  · rw [honly.1]
    rfl
  · rw [honly.1]
    rfl

end

/-! ### POST (08 R217, 09 R242-R244) -/

theorem State.runPosts_nil {n : Nat} (h : (u.core n).posts = []) (fuel : Nat) : u.runPosts n fuel = u := by
  cases fuel with
  | zero => rfl
  | succ fuel =>
    unfold State.runPosts
    rw [h]

theorem State.runPosts_waits {n q : Nat} (h : (u.core n).posts = [q]) (hslot : bit (u.core n).pFull (bits (queuedWord q) 117 3) = false) (fuel : Nat) :
    u.runPosts n (fuel + 1) = u := by
  unfold State.runPosts
  rw [h]
  exact if_neg (by simp [hslot])

theorem State.runPosts_one {n q : Nat} (h : (u.core n).posts = [q]) (hslot : bit (u.core n).pFull (bits (queuedWord q) 117 3) = true) (fuel : Nat) :
    u.runPosts n (fuel + 1) = ((u.updCore n (fun k => { k with posts := [] })).runPost n q).runPosts n fuel := by
  conv_lhs => unfold State.runPosts
  rw [h]
  exact if_pos hslot

/-- A plane has drained into its slot. -/
def NeuralCore.filled (k : NeuralCore) (d : Drain) : NeuralCore :=
  { k with pSlot := k.pSlot.put d.slot (k.plane.at [] (2 * d.array + d.plane)), pFull := k.pFull + 2 ^ d.slot, drains := k.drains.erase d }

/-- A drain fills the slot that its plane waits for (08 R212, R217). -/
theorem tileDrain_fills {m : Fin 4} {d : Drain} (hrun : (u.core c).state = .running) (hfind : (u.core c).drains.find? (fun x => x.array == m.val) = some d)
    (hmats : (u.core c).mats = []) (hposts : (u.core c).posts = []) (hslot : bit (u.core c).pFull d.slot = false) : Completes (.tileDrain c m) u (fun t =>
      (t.core c).pSlot.at [] d.slot = (u.core c).plane.at [] (2 * d.array + d.plane) ∧ (∀ k, k ≠ d.slot → (t.core c).pSlot.at [] k = (u.core c).pSlot.at [] k)
      ∧ u.onlyCore t c { u.core c with pSlot := (t.core c).pSlot, pFull := (u.core c).pFull + 2 ^ d.slot, drains := (u.core c).drains.erase d }) := by
  have hfill := (u.updCore_only c (fun k => k.filled d)).updCore (fun k => k.runMats 5)
  rw [NeuralCore.runMats_nil (k := (u.core c).filled d) hmats] at hfill
  have hexec : exec (.tileDrain c m) u = .next (((u.updCore c (fun k => k.filled d)).updCore c (fun k => k.runMats 5)).runPosts c 5) := by
    show execTileDrain c m u = _
    unfold execTileDrain
    dsimp only
    rw [if_neg (by simp [hrun]), hfind]
    dsimp only
    rw [if_neg (by simp [hslot])]
    rfl
  rw [State.runPosts_nil (by rw [hfill.1]; exact hposts)] at hexec
  refine ⟨_, hexec, ?_, fun k hk => ?_, hfill.as ?_⟩
  · rw [hfill.1]
    exact Tab.at_put_same _ _ _ _
  · rw [hfill.1]
    exact (Tab.at_put [] (u.core c).pSlot d.slot k _).trans (if_neg hk)
  · rw [hfill.1]
    rfl

theorem tileDrain_waits {m : Fin 4} {d : Drain} (hrun : (u.core c).state = .running) (hfind : (u.core c).drains.find? (fun x => x.array == m.val) = some d)
    (hslot : bit (u.core c).pFull d.slot = true) : exec (.tileDrain c m) u = .next u := by
  show execTileDrain c m u = _
  unfold execTileDrain
  dsimp only
  rw [if_neg (by simp [hrun]), hfind]
  dsimp only
  rw [if_pos hslot]

/-- Bytes of one output row. -/
def postWidth (b : List Byte) : Nat := field b 3 1 * elemSize (field b 0 1)

/-- A row of Post is as long as its channels say (09 R243, R244). -/
theorem postRow_length {b : List Byte} (hok : postOk b = true) (x : Tab Int) (i : Nat) : (postRow b x i).length = postWidth b := by
  have hone : field b 1 1 = 1 → elemSize (field b 0 1) = 1 := fun hact => by
    simp only [postOk, Bool.and_eq_true, decide_eq_true_eq] at hok
    obtain ⟨⟨⟨⟨-, -, hno, -⟩, -⟩, -⟩, -⟩ := hok
    have hlow : field b 0 1 < 2 := by
      by_contra hge
      exact hno ⟨hact, by omega⟩
    generalize field b 0 1 = ty at hlow
    match ty, hlow with
    | 0, _ => rfl
    | 1, _ => rfl
  unfold postRow postWidth
  simp only [List.length_flatMap]
  rw [List.map_congr_left (g := fun _ => elemSize (field b 0 1)) fun j _ => ?_]
  · simp
  · split
    · next hact => rw [slice_len, hone hact]
    · exact leBytes_length _ _

/-- The bytes of the parameter block that a POST names. -/
def State.postBlock (u : State) (n v : Nat) : List Byte := u.galley n (bits v 64 32) (postLen (leNat (u.galley n (bits v 64 32 + 1) 1)))

/-- The places of the rows that Post writes. -/
def postRows (b : List Byte) (v : Nat) (x : Tab Int) : List (Nat × List Byte) :=
  (List.range (field b 2 1)).map (fun i => (bits v 32 32 + i * bits v 96 16, postRow b x i))

section
variable {n q : Nat} (hv : queuedWord q = v) (halign : bits v 64 32 % 32 = 0)
variable (hparam : u.galleyFault n (bits v 64 32) (postLen (leNat (u.galley n (bits v 64 32 + 1) 1))) = none)
variable (hok : postOk (u.postBlock n v) = true)
variable (hrows : u.galleyFaults n ((List.range (field (u.postBlock n v) 2 1)).map (fun i => (bits v 32 32 + i * bits v 96 16, postWidth (u.postBlock n v)))) = none)
include hv halign hparam hok hrows

theorem State.runPost_eq : u.runPost n q =
    ((List.range (field (u.postBlock n v) 2 1)).foldl (fun s i => s.putGalley n (bits v 32 32 + i * bits v 96 16)
      (postRow (u.postBlock n v) ((u.core n).pSlot.at [] (bits v 117 3)) i)) u).updCore n
        (fun k => { k with pFull := if bit k.pFull (bits v 117 3) then k.pFull - 2 ^ bits v 117 3 else k.pFull }) := by
  unfold State.postBlock at hok hrows ⊢
  unfold postWidth at hrows
  unfold State.runPost
  dsimp only
  rw [hv, if_neg (not_not.mpr halign), hparam]
  dsimp only
  rw [if_neg (by simpa using hok), hrows]

end

theorem State.galleyFaults_of_core {n : Nat} (hgranule : (t.core n).granule = (u.core n).granule) (hstation : (t.core n).station = (u.core n).station)
    (rs : List (Nat × Nat)) : t.galleyFaults n rs = u.galleyFaults n rs := by
  unfold State.galleyFaults
  simp only [State.galleyFault_of_core hgranule hstation]

theorem State.postBlock_of_core {n : Nat} (h : (t.core n).galley = (u.core n).galley) (v : Nat) : t.postBlock n v = u.postBlock n v := by
  unfold State.postBlock
  simp only [State.galley_of_core h]

/-- A core that has touched nothing yet keeps whether its results are defined. -/
theorem NeuralCore.touching_fresh {k : NeuralCore} (htouched : k.touched = []) (ts : List Touch) : k.touching ts = { k with touched := (k.touching ts).touched } := by
  have hsame : (k.touching ts).racy = k.racy := by simp [NeuralCore.touching, htouched]
  unfold NeuralCore.touching at hsame ⊢
  dsimp only at hsame ⊢
  rw [hsame]

/-- The ranges that a POST uses. -/
def State.postTouches (u : State) (n v : Nat) : List Touch :=
  [{ engine := engPost, space := 0, first := bits v 64 32, len := postLen (field (u.galley n (bits v 64 32) 4) 1 1) },
    { engine := engPost, space := 0, first := bits v 32 32
      len := (field (u.galley n (bits v 64 32) 4) 2 1 - 1) * bits v 96 16
        + field (u.galley n (bits v 64 32) 4) 3 1 * elemSize (field (u.galley n (bits v 64 32) 4) 0 1), write := true }]

/-- The core with a POST in Post's queue, and with the next command before it. -/
def State.postQueued (u : State) (c : Fin 16) (v : Nat) : State :=
  ((u.touch c (u.postTouches c v)).updCore c (fun k => { k with posts := k.posts ++ [queued k.pc v] })).nextCmd c

theorem State.doPost_eq (hroom : (u.core c).posts.length < 4) : u.doPost c v = (u.postQueued c v).runPosts c 5 := if_neg (Nat.not_le.mpr hroom)

/-- What touching left, with the queue and the next command. -/
def State.postCore (u : State) (c : Fin 16) (v : Nat) (posts : List Nat) : NeuralCore :=
  { u.core c with posts := posts, touched := ((u.core c).touching (u.postTouches c v)).touched, pc := (u.core c).pc + 1 }

section
variable (hposts : (u.core c).posts = []) (htouched : (u.core c).touched = [])
include hposts htouched

theorem State.postQueued_only : u.onlyCore (u.postQueued c v) c (u.postCore c v [queued (u.core c).pc v]) := by
  have htouch := (u.touch_only c (u.postTouches c v)).as (NeuralCore.touching_fresh htouched _)
  refine (State.nextCmd_only (htouch.updCore (fun k => { k with posts := k.posts ++ [queued k.pc v] }))).as ?_
  dsimp only
  rw [hposts]
  rfl

variable (hfetch : s.fetch c ⟨0x03, none⟩ = .run u v) (hv : v < 2 ^ 128)
include hfetch hv

omit htouched hv in
theorem exec_post_run : exec (.post c) s = .next ((u.postQueued c v).runPosts c 5) :=
  congrArg Host.Outcome.next ((State.command_run hfetch _).trans (State.doPost_eq (by rw [hposts]; decide)))

theorem post_waits (hslot : bit (u.core c).pFull (bits v 117 3) = false) : Completes (.post c) s (fun t =>
    u.onlyCore t c { u.core c with posts := [queued (u.core c).pc v], touched := (t.core c).touched, pc := (u.core c).pc + 1 }) := by
  have hqueued := State.postQueued_only (v := v) hposts htouched
  have hstays := State.runPosts_waits (u := u.postQueued c v) (n := c) (q := queued (u.core c).pc v) (by rw [hqueued.1]; rfl)
    (by rw [hqueued.1, queuedWord_queued _ hv]; exact hslot) 4
  refine ⟨_, (exec_post_run hposts hfetch).trans (congrArg Host.Outcome.next hstays), hqueued.as ?_⟩
  rw [hqueued.1]
  rfl

section
variable (hslot : bit (u.core c).pFull (bits v 117 3) = true) (hracy : (u.core c).racy = false) (halign : bits v 64 32 % 32 = 0)
variable (hparam : u.galleyFault c (bits v 64 32) (postLen (leNat (u.galley c (bits v 64 32 + 1) 1))) = none)
variable (hok : postOk (u.postBlock c v) = true)
variable (hrows : u.galleyFaults c ((List.range (field (u.postBlock c v) 2 1)).map (fun i => (bits v 32 32 + i * bits v 96 16, postWidth (u.postBlock c v)))) = none)
include hslot hracy halign hparam hok hrows

theorem exec_post_writes : ∃ t, exec (.post c) s = .next t ∧ u.onlyCore t c { u.postCore c v [] with
    galley := writes (u.core c).galley (postRows (u.postBlock c v) v ((u.core c).pSlot.at [] (bits v 117 3))), pFull := (u.core c).pFull - 2 ^ bits v 117 3 } := by
  have hqueued := State.postQueued_only (v := v) hposts htouched
  have hword := queuedWord_queued (v := v) (u.core c).pc hv
  have hone := State.runPosts_one (u := u.postQueued c v) (n := c) (q := queued (u.core c).pc v) (by rw [hqueued.1]; rfl) (by rw [hqueued.1, hword]; exact hslot) 4
  have hbefore : u.onlyCore ((u.postQueued c v).updCore c (fun k => { k with posts := [] })) c (u.postCore c v []) := hqueued.updCore _
  generalize (u.postQueued c v).updCore c (fun k => { k with posts := [] }) = w at hone hbefore
  have hgalley : (w.core c).galley = (u.core c).galley := by rw [hbefore.1]; rfl
  have hgranule : (w.core c).granule = (u.core c).granule := by rw [hbefore.1]; rfl
  have hstation : (w.core c).station = (u.core c).station := by rw [hbefore.1]; rfl
  have hblock := State.postBlock_of_core hgalley v
  have hrun := State.runPost_eq (u := w) (n := c) hword halign (by simpa only [State.galley_of_core hgalley, State.galleyFault_of_core hgranule hstation] using hparam)
    (by rw [hblock]; exact hok) (by rw [hblock, State.galleyFaults_of_core hgranule hstation]; exact hrows)
  rw [hblock] at hrun
  have hslots : (w.core c).pSlot = (u.core c).pSlot := by rw [hbefore.1]; rfl
  rw [hslots] at hrun
  have hafter := (hbefore.putRows hracy (List.range (field (u.postBlock c v) 2 1)) (fun i => bits v 32 32 + i * bits v 96 16)
    (postRow (u.postBlock c v) ((u.core c).pSlot.at [] (bits v 117 3)))).updCore
      (fun k => { k with pFull := if bit k.pFull (bits v 117 3) then k.pFull - 2 ^ bits v 117 3 else k.pFull })
  rw [← hrun] at hafter
  generalize w.runPost c (queued (u.core c).pc v) = x at hone hafter
  have hnil := State.runPosts_nil (u := x) (n := c) (by rw [hafter.1]; rfl) 4
  refine ⟨x, (exec_post_run hposts hfetch).trans (congrArg Host.Outcome.next (hone.trans hnil)), hafter.as ?_⟩
  have hfull : (if bit (u.core c).pFull (bits v 117 3) then (u.core c).pFull - 2 ^ bits v 117 3 else (u.core c).pFull) = (u.core c).pFull - 2 ^ bits v 117 3 := if_pos hslot
  rw [← hfull]
  rfl

theorem post_writes (hpitch : postWidth (u.postBlock c v) ≤ bits v 96 16) : Completes (.post c) s (fun t =>
    (∀ i j, i < field (u.postBlock c v) 2 1 → j < postWidth (u.postBlock c v) →
      cellGet zeroByte (t.core c).galley (bits v 32 32 + i * bits v 96 16 + j) = (postRow (u.postBlock c v) ((u.core c).pSlot.at [] (bits v 117 3)) i).getD j 0)
    ∧ (∀ a, (∀ i, i < field (u.postBlock c v) 2 1 → ¬ (bits v 32 32 + i * bits v 96 16 ≤ a ∧ a < bits v 32 32 + i * bits v 96 16 + postWidth (u.postBlock c v))) →
      cellGet zeroByte (t.core c).galley a = cellGet zeroByte (u.core c).galley a)
    ∧ u.onlyCore t c { u.core c with galley := (t.core c).galley, pFull := (u.core c).pFull - 2 ^ bits v 117 3, touched := (t.core c).touched
                                     pc := (u.core c).pc + 1 }) := by
  obtain ⟨t, ht, honly⟩ := exec_post_writes hposts htouched hfetch hv hslot hracy halign hparam hok hrows
  have hlen := postRow_length hok ((u.core c).pSlot.at [] (bits v 117 3))
  have hrise : Rising (postRows (u.postBlock c v) v ((u.core c).pSlot.at [] (bits v 117 3))) := rising_rows hlen (fun i j hij => by
    have := Nat.mul_le_mul_right (bits v 96 16) (Nat.succ_le_of_lt hij)
    rw [Nat.succ_mul] at this
    omega) _
  obtain ⟨hin, hout⟩ := cellGet_writes hrise (u.core c).galley
  have hgalley : (t.core c).galley = writes (u.core c).galley (postRows (u.postBlock c v) v ((u.core c).pSlot.at [] (bits v 117 3))) := by rw [honly.1]
  refine ⟨t, ht, fun i j hi hj => ?_, fun a ha => ?_, honly.as ?_⟩
  · rw [hgalley]
    exact hin (_, _) (List.mem_map.mpr ⟨i, List.mem_range.mpr hi, rfl⟩) j (by rw [hlen]; exact hj)
  · rw [hgalley]
    refine hout a fun w hw hwa => ?_
    obtain ⟨i, hi, rfl⟩ := List.mem_map.mp hw
    dsimp only at hwa
    rw [hlen] at hwa
    exact ha i (List.mem_range.mp hi) hwa
  · rw [honly.1]
    unfold State.postCore
    rw [← hposts]

end

end

/-! ### EXPAND (08 R213, R214) -/

/-- Blocks of one length, end to end. -/
theorem length_flatMap_range {f : Nat → List Byte} {n : Nat} (h : ∀ r, (f r).length = n) (k : Nat) : ((List.range k).flatMap f).length = k * n := by
  simp [List.length_flatMap, h]

theorem getD_flatMap_range {f : Nat → List Byte} {n : Nat} (h : ∀ r, (f r).length = n) {k r j : Nat} (hr : r < k) (hj : j < n) :
    ((List.range k).flatMap f).getD (r * n + j) 0 = (f r).getD j 0 := by
  simp only [List.getD_eq_getElem?_getD]
  induction k with
  | zero => omega
  | succ k ih =>
    have hlen := length_flatMap_range h k
    rw [List.range_succ, List.flatMap_append]
    rcases Nat.lt_or_eq_of_le (Nat.le_of_lt_succ hr) with hlt | rfl
    · have := Nat.mul_le_mul_right n (Nat.succ_le_of_lt hlt)
      rw [Nat.succ_mul] at this
      rw [List.getElem?_append_left (by omega)]
      exact ih hlt
    · rw [List.getElem?_append_right (by omega), hlen, Nat.add_sub_cancel_left]
      simp

theorem Geom.element_length (g : Geom) {read : Nat → Nat → List Byte} (hread : ∀ a n, (read a n).length = n) (src l j : Nat) :
    (g.element read src l j).length = g.elem := by
  unfold Geom.element
  dsimp only
  split
  · exact leBytes_length _ _
  · split
    · exact hread _ _
    · exact leBytes_length _ _

/-- An expanded row. -/
def Geom.expandedRow (g : Geom) (read : Nat → Nat → List Byte) (src r : Nat) : List Byte :=
  (List.range (g.kp / g.elem)).flatMap (fun j => g.element read src (g.oy0 * g.ow + g.ox0 + r) (g.kbeg + j))

/-- The expanded rows, end to end. -/
def Geom.expanded (g : Geom) (read : Nat → Nat → List Byte) (src : Nat) : List Byte := (List.range g.count).flatMap (g.expandedRow read src)

section
variable {g : Geom} {size : Nat} (hok : g.ok size = true)
include hok

theorem Geom.rowBytes_of_ok : g.kp / g.elem * g.elem = g.kp := by
  simp only [Geom.ok, within, Bool.and_eq_true, decide_eq_true_eq] at hok
  have helem : 1 ≤ g.elem ∧ g.elem ≤ 2 := by tauto
  have hkp : g.kp % 32 = 0 := by tauto
  generalize g.elem = e at helem
  obtain rfl | rfl : e = 1 ∨ e = 2 := by omega
  · omega
  · omega

variable {read : Nat → Nat → List Byte} (hread : ∀ a n, (read a n).length = n) (src : Nat)
include hread

theorem Geom.expandedRow_length (r : Nat) : (g.expandedRow read src r).length = g.kp :=
  (length_flatMap_range (fun _ => g.element_length hread _ _ _) _).trans (Geom.rowBytes_of_ok hok)

theorem Geom.expanded_length : (g.expanded read src).length = g.count * g.kp :=
  length_flatMap_range (fun r => Geom.expandedRow_length hok hread src r) _

theorem Geom.expanded_getD {r j i : Nat} (hr : r < g.count) (hj : j < g.kp / g.elem) (hi : i < g.elem) :
    (g.expanded read src).getD (r * g.kp + (j * g.elem + i)) 0 = (g.element read src (g.oy0 * g.ow + g.ox0 + r) (g.kbeg + j)).getD i 0 := by
  have hin : j * g.elem + i < g.kp := by
    have hrow := Geom.rowBytes_of_ok hok
    have := Nat.mul_le_mul_right g.elem (Nat.succ_le_of_lt hj)
    rw [Nat.succ_mul] at this
    omega
  exact (getD_flatMap_range (fun r => Geom.expandedRow_length hok hread src r) hr hin).trans
    (getD_flatMap_range (f := fun j => g.element read src (g.oy0 * g.ow + g.ox0 + r) (g.kbeg + j)) (fun _ => g.element_length hread _ _ _) hj hi)

end

/-- The geometry that an EXPAND names. -/
def State.expandGeom (u : State) (n v : Nat) : Geom := geomOf (u.galley n (bits v 64 32) 64)

/-- Bytes of the source that the rows are taken from. -/
def Geom.span (g : Geom) : Nat := (g.inH - 1) * g.yp + (g.inW - 1) * g.xp + (g.inC - 1) * g.cp + g.elem

/-- The ranges that an EXPAND uses. -/
def expandTouches (g : Geom) (v : Nat) : List Touch :=
  [{ engine := engExpand, space := 0, first := bits v 64 32, len := 64 }, { engine := engExpand, space := 0, first := bits v 0 32, len := g.span },
    { engine := engExpand, space := 0, first := bits v 32 32, len := g.count * g.kp, write := true }]

section
variable (hfetch : s.fetch c ⟨0x05, none⟩ = .run u v) (halign : bits v 64 32 % 32 = 0) (hgeom : u.galleyFault c (bits v 64 32) 64 = none)
include hfetch halign hgeom

theorem expand_refused (hok : (u.expandGeom c v).ok (galleySize c) = false) (hseqs : u.slugSeqs c = []) :
    Completes (.expand c) s (fun t => u.slugAborted t c 2) := by
  have habort : u.doExpand c v = u.abortSlug c 2 := by
    unfold State.expandGeom at hok
    unfold State.doExpand
    dsimp only
    rw [if_neg (not_not.mpr halign), hgeom]
    dsimp only
    rw [hok]
    exact if_pos rfl
  exact ⟨_, congrArg Host.Outcome.next ((State.command_run hfetch _).trans habort), u.abortSlug_spec hseqs (by decide) (by decide)⟩

variable (hok : (u.expandGeom c v).ok (galleySize c) = true)
variable (hapart : bits v 32 32 + (u.expandGeom c v).count * (u.expandGeom c v).kp ≤ bits v 0 32 ∨ bits v 0 32 + (u.expandGeom c v).span ≤ bits v 32 32)
variable (hfaults : u.galleyFaults c [(bits v 0 32, (u.expandGeom c v).span), (bits v 32 32, (u.expandGeom c v).count * (u.expandGeom c v).kp)] = none)
variable (hracy : (u.core c).racy = false) (htouched : (u.core c).touched = [])
include hok hapart hfaults hracy htouched

omit hfetch hracy htouched in
theorem State.doExpand_eq : u.doExpand c v = ((u.touch c (expandTouches (u.expandGeom c v) v)).putGalley c (bits v 32 32)
      ((u.expandGeom c v).expanded (u.galley c) (bits v 0 32))).nextCmd c := by
  have hread : (u.touch c (expandTouches (u.expandGeom c v) v)).galley c = u.galley c := funext fun a => funext fun n => u.touch_galley c _ a n
  rw [← hread]
  unfold State.expandGeom at hok
  unfold State.expandGeom Geom.span at hapart hfaults
  unfold State.doExpand
  dsimp only
  rw [if_neg (not_not.mpr halign), hgeom]
  dsimp only
  rw [if_neg (by simp only [hok, Bool.not_true, Bool.false_or, Bool.and_eq_true, decide_eq_true_eq]; omega), hfaults]
  rfl

theorem exec_expand_writes : ∃ t, exec (.expand c) s = .next t ∧ u.onlyCore t c { u.core c with
    touched := ((u.core c).touching (expandTouches (u.expandGeom c v) v)).touched
    galley := cellWrite zeroByte (u.core c).galley (bits v 32 32) ((u.expandGeom c v).expanded (u.galley c) (bits v 0 32)), pc := (u.core c).pc + 1 } := by
  have htouch := (u.touch_only c (expandTouches (u.expandGeom c v) v)).as (NeuralCore.touching_first hracy htouched _)
  have hrun := State.doExpand_eq halign hgeom hok hapart hfaults
  rw [State.putGalley_plain (by rw [htouch.1]; exact hracy)] at hrun
  refine ⟨_, congrArg Host.Outcome.next ((State.command_run hfetch _).trans hrun), (State.nextCmd_only (htouch.updCore _)).as ?_⟩
  rfl

theorem expand_writes : Completes (.expand c) s (fun t =>
    (∀ r j i, r < (u.expandGeom c v).count → j < (u.expandGeom c v).kp / (u.expandGeom c v).elem → i < (u.expandGeom c v).elem →
      cellGet zeroByte (t.core c).galley (bits v 32 32 + r * (u.expandGeom c v).kp + j * (u.expandGeom c v).elem + i)
        = ((u.expandGeom c v).element (u.galley c) (bits v 0 32) ((u.expandGeom c v).oy0 * (u.expandGeom c v).ow + (u.expandGeom c v).ox0 + r)
            ((u.expandGeom c v).kbeg + j)).getD i 0)
    ∧ (∀ a, ¬ (bits v 32 32 ≤ a ∧ a < bits v 32 32 + (u.expandGeom c v).count * (u.expandGeom c v).kp) →
      cellGet zeroByte (t.core c).galley a = cellGet zeroByte (u.core c).galley a)
    ∧ u.onlyCore t c { u.core c with galley := (t.core c).galley, touched := (t.core c).touched, pc := (u.core c).pc + 1 }) := by
  obtain ⟨t, ht, honly⟩ := exec_expand_writes hfetch halign hgeom hok hapart hfaults hracy htouched
  have hlen := Geom.expanded_length hok (fun a n => u.galley_length c a n) (bits v 0 32)
  have hgalley : (t.core c).galley = cellWrite zeroByte (u.core c).galley (bits v 32 32) ((u.expandGeom c v).expanded (u.galley c) (bits v 0 32)) := by
    rw [honly.1]
  refine ⟨t, ht, fun r j i hr hj hi => ?_, fun a ha => ?_, honly.as ?_⟩
  · have hval := Geom.expanded_getD hok (fun a n => u.galley_length c a n) (bits v 0 32) hr hj hi
    have hin : r * (u.expandGeom c v).kp + (j * (u.expandGeom c v).elem + i) < (u.expandGeom c v).count * (u.expandGeom c v).kp := by
      have hrow := Geom.rowBytes_of_ok hok
      have hcol := Nat.mul_le_mul_right (u.expandGeom c v).elem (Nat.succ_le_of_lt hj)
      have hrows := Nat.mul_le_mul_right (u.expandGeom c v).kp (Nat.succ_le_of_lt hr)
      rw [Nat.succ_mul] at hcol hrows
      omega
    rw [hgalley, Nat.add_assoc, Nat.add_assoc, cellGet_write, if_pos (by omega), Nat.add_sub_cancel_left]
    exact hval
  · rw [hgalley, cellGet_write, hlen, if_neg ha]
  · rw [honly.1]

end

/-! ### STORE (08 R218) -/

theorem State.fabric_scratch {w : State} {req : Requester} {a k : Nat} {d : List Byte} (hregion : regionOf a = some (.scratch k))
    (hway : w.wayMode k = .scratch) (hcheck : w.check req (w.attrib req) a d.length .write = none) (detail : Nat) :
    w.fabric req a (.write d) .none 0 detail = (w.poke a d, some []) := by
  unfold State.fabric
  dsimp only [fabricLen, accessOf]
  rw [hcheck]
  unfold State.memAccess
  dsimp only
  rw [hregion]
  unfold State.scratchAccess
  dsimp only
  rw [if_neg (not_not.mpr hway)]
  rfl

/-- Bytes go to mapped scratch, piece by piece. -/
theorem State.writePieces_scratch {w : State} {req : Requester} {detail : Nat} (fuel : Nat) {a n : Nat} {x : List Byte} (hx : x.length = n)
    (hfuel : n = 0 ∨ a % 64 + n ≤ 64 * fuel) (h : ∀ p ∈ linePieces fuel a n, (∃ k, regionOf p.1 = some (.scratch k) ∧ w.wayMode k = .scratch)
      ∧ w.check req (w.attrib req) p.1 p.2 .write = none) :
    ∃ b, w.writePieces req detail (linePieces fuel a n) x = ({ w with mem := { w.mem with bytes := b } }, true)
      ∧ ∀ i, cellGet memDefault b i = if a ≤ i ∧ i < a + n then x.getD (i - a) 0 else w.byte i := by
  induction fuel generalizing w a n x with
  | zero =>
    obtain rfl : n = 0 := by omega
    exact ⟨w.mem.bytes, rfl, fun i => (if_neg (by omega)).symm⟩
  | succ fuel ih =>
    by_cases hn : n = 0
    · subst hn
      exact ⟨w.mem.bytes, rfl, fun i => (if_neg (by omega)).symm⟩
    · have hcons : linePieces (fuel + 1) a n = (a, min n (64 - a % 64)) :: linePieces fuel (a + min n (64 - a % 64)) (n - min n (64 - a % 64)) := if_neg hn
      generalize hk : min n (64 - a % 64) = k at hcons
      rw [hcons] at h ⊢
      obtain ⟨⟨y, hregion, hway⟩, hcheck⟩ := h (a, k) List.mem_cons_self
      have htake : (x.take k).length = k := by
        rw [List.length_take]
        omega
      have hfirst := State.fabric_scratch (d := x.take k) hregion hway (by rw [htake]; exact hcheck) detail
      obtain ⟨b, hrest, hb⟩ := ih (w := w.poke a (x.take k)) (a := a + k) (n := n - k) (x := x.drop k) (by rw [List.length_drop, hx]) (by omega)
        (fun p hp => h p (List.mem_cons_of_mem _ hp))
      refine ⟨b, ?_, fun i => ?_⟩
      · unfold State.writePieces
        rw [hfirst]
        exact hrest
      · rw [hb, State.byte_poke, htake]
        rcases Nat.lt_or_ge i a with hlow | hlow
        · rw [if_neg (by omega), if_neg (by omega), if_neg (by omega)]
        · obtain ⟨j, rfl⟩ := Nat.exists_eq_add_of_le hlow
          simp only [List.getD_eq_getElem?_getD, List.getElem?_drop, Nat.add_sub_cancel_left]
          rcases Nat.lt_or_ge j k with hj | hj
          · rw [if_neg (by omega), if_pos (by omega), if_pos (by omega), List.getElem?_take_of_lt hj]
          · rw [if_neg (c := a ≤ a + j ∧ a + j < a + k) (by omega)]
            have hsum : k + (a + j - (a + k)) = j := by omega
            rw [hsum]
            by_cases hin : j < n
            · rw [if_pos (by omega), if_pos (by omega)]
            · rw [if_neg (by omega), if_neg (by omega)]

/-- The range that a STORE uses. -/
def storeTouches (v : Nat) : List Touch := [{ engine := engStore, space := 0, first := bits v 64 32, len := bits v 40 24 }]

section
variable (hfetch : s.fetch c ⟨0x08, none⟩ = .run u v)
include hfetch

theorem store_refused (hseqs : u.slugSeqs c = []) (hlen : bits v 40 24 % 4 ≠ 0) : Completes (.store c) s (fun t => u.slugAborted t c 2) := by
  have habort : u.doStore c v = u.abortSlug c 2 := if_pos hlen
  exact ⟨_, congrArg Host.Outcome.next ((State.command_run hfetch _).trans habort), u.abortSlug_spec hseqs (by decide) (by decide)⟩

variable (hracy : (u.core c).racy = false) (htouched : (u.core c).touched = []) (hring : bit v 119 = false) (hlen : bits v 40 24 % 4 = 0)
variable (hfault : u.galleyFault c (bits v 64 32) (bits v 40 24) = none)
include hracy htouched hring hlen hfault

omit hfetch in
theorem State.doStore_eq {w : State} (hw : (u.touch c (storeTouches v)).writePieces (.core c) (u.core c).pc (lineSplit (bits v 0 40) (bits v 40 24))
      (u.galley c (bits v 64 32) (bits v 40 24)) = (w, true)) : u.doStore c v = w.nextCmd c := by
  unfold storeTouches at hw
  unfold State.doStore
  dsimp only
  rw [if_neg (not_not.mpr hlen), hfault, hring]
  dsimp only
  rw [if_neg Bool.false_ne_true]
  dsimp only
  rw [State.touch_slugBytes hracy htouched, State.touch_galley]
  dsimp only
  rw [hw]

theorem store_writes (h : ∀ p ∈ lineSplit (bits v 0 40) (bits v 40 24), (∃ w, regionOf p.1 = some (.scratch w) ∧ u.wayMode w = .scratch)
      ∧ u.check (.core c) (u.core c).station p.1 p.2 .write = none) : Completes (.store c) s (fun t =>
    (∀ a, t.byte a = if bits v 0 40 ≤ a ∧ a < bits v 0 40 + bits v 40 24 then (u.galley c (bits v 64 32) (bits v 40 24)).getD (a - bits v 0 40) 0 else u.byte a)
    ∧ (∀ d, d ≠ c.val → t.core d = u.core d) ∧ t.core c = { u.core c with touched := (t.core c).touched, pc := (u.core c).pc + 1 }
    ∧ t = { u with nc := { u.nc with core := t.nc.core }, mem := { u.mem with bytes := t.mem.bytes } }) := by
  have htouch := (u.touch_only c (storeTouches v)).as (NeuralCore.touching_first hracy htouched _)
  have hattrib : (u.touch c (storeTouches v)).attrib (.core c) = (u.core c).station := by
    show ((u.touch c (storeTouches v)).core c).station = _
    rw [htouch.1]
  obtain ⟨b, hpieces, hbytes⟩ := State.writePieces_scratch (w := u.touch c (storeTouches v)) (req := .core c) (detail := (u.core c).pc)
    (bits v 40 24 / 64 + 2) (a := bits v 0 40) (u.galley_length c (bits v 64 32) (bits v 40 24)) (by omega) (fun p hp => by
      rw [hattrib]
      exact h p hp)
  have hrun := State.doStore_eq hracy htouched hring hlen hfault hpieces
  obtain ⟨hcore, hothers, hframe⟩ := State.nextCmd_only htouch
  refine ⟨_, congrArg Host.Outcome.next ((State.command_run hfetch _).trans hrun), hbytes, hothers, ?_, ?_⟩
  · refine hcore.trans ?_
    exact congrArg (fun k : NeuralCore => { u.core c with touched := k.touched, pc := (u.core c).pc + 1 }) hcore.symm
  · exact congrArg (fun y : State => { y with mem := { y.mem with bytes := b } }) hframe

end

/-- Settles O34: each command runs on the core alone, its engine's lemma says what it writes, and a refusal aborts the slug. -/
theorem neuralCommands : Obligations.NeuralCommands := by
  intro s u c v
  refine ⟨fun hfetch hracy htouched sp hsp => ?_, fun hfetch hseqs => ⟨?_, ?_, ?_⟩, fun hfetch m harrays hm hdt hlow hhigh hact hweight hmats hv => ⟨?_, ?_⟩, ?_,
    fun m d hrun hfind hmats hposts => ⟨?_, ?_⟩, fun hfetch hposts htouched hv => ⟨?_, ?_⟩, fun hfetch hracy htouched => ?_, ?_, ?_⟩
  · refine fun halign hfault => ⟨?_, ?_, ?_⟩
    · rintro rfl
      exact move_vForme hfetch hracy htouched halign hfault hsp
    · rintro rfl
      exact move_wForme hfetch hracy htouched halign hfault hsp
    · exact move_aForme hfetch hracy htouched halign hfault hsp
  · exact move_refused hfetch hseqs
  · exact fun hsp halign => move_leaves hfetch hseqs hsp halign
  · exact fun hsp halign => move_granule hfetch hseqs hsp halign
  · exact matmul_runs hfetch harrays hm hdt hlow hhigh hact hweight hmats hv
  · exact matmul_waits hfetch harrays hm hdt hlow hhigh hact hweight hmats hv
  · exact matmul_refused
  · exact tileDrain_fills hrun hfind hmats hposts
  · exact fun hslot => ⟨u, tileDrain_waits hrun hfind hslot, rfl⟩
  · exact post_waits hposts htouched hfetch hv
  · exact fun hslot hracy halign hparam hok hrows => post_writes hposts htouched hfetch hv hslot hracy halign hparam hok hrows
  · refine fun halign hgeom => ⟨fun hok hapart hfaults => ?_, fun hok hseqs => ?_⟩
    · exact expand_writes hfetch halign hgeom hok hapart hfaults hracy htouched
    · exact expand_refused hfetch halign hgeom hok hseqs
  · exact fun hfetch hracy htouched hring hlen hfault => store_writes hfetch hracy htouched hring hlen hfault
  · exact fun hfetch hseqs => store_refused hfetch hseqs

end Machine
end Sys2Proof
end

section
/-!
PROOFS. The Vector engine (09 R245-R250).
-/
namespace Sys2Proof
namespace Machine

variable {s u t : State} {c : Fin 16} {v : Nat}

/-! ### Codes and their bytes -/

theorem softmax_length (xs : List (Option Rat)) : (softmax xs).length = xs.length := by
  unfold softmax
  split
  · exact List.length_map _
  · next h =>
    have hall : ∀ x ∈ xs, (id x : Option Rat).isSome := fun x hx => by
      cases x with
      | none => exact absurd (List.any_eq_true.mpr ⟨none, hx, rfl⟩) h
      | some _ => rfl
    simpa using List.filterMap_length_eq_length.mpr hall

/-- The channels of an output position (09 Table 9-9). -/
theorem vecAt_length (op : Nat) (b : VecBlk) (x : List Byte) (forme : Nat → Byte) (y z : Nat) : (vecAt op b x forme y z).length = (vecDims op b).2.2 := by
  unfold vecAt vecDims
  dsimp only
  split
  case h_10 => by_cases haxis : b.axis = 0 <;> simp [haxis]
  all_goals simp [softmax_length]

theorem codeBytes_length (es : Nat) (x : List (Option Nat)) : (codeBytes es x).length = x.length * es := by
  unfold codeBytes
  rw [List.length_flatMap, List.map_congr_left (g := fun _ => es) fun y _ => ?_]
  · simp
  · cases y with
    | none => exact List.length_replicate
    | some k => rw [List.length_map, leBytes_length]

/-- Bytes that have the stated value wherever one is stated. -/
def Fills (codes : List (Option Byte)) (x : List Byte) : Prop := x.length = codes.length ∧ ∀ i w, codes[i]? = some (some w) → x.getD i 0 = w

theorem State.fillFree_fills (s : State) (codes : List (Option Byte)) : ∃ x, s.fillFree codes = ({ s with free := s.free + codes.length }, x) ∧ Fills codes x := by
  refine ⟨_, rfl, by simp, fun i w hw => ?_⟩
  simp [List.getD_eq_getElem?_getD, hw]

/-! ### The output positions -/

/-- Output positions, row by row. -/
def positions (oh ow : Nat) : List (Nat × Nat) := (List.range oh).flatMap (fun y => (List.range ow).map (fun z => (y, z)))

theorem mem_positions {oh ow : Nat} {p : Nat × Nat} : p ∈ positions oh ow ↔ p.1 < oh ∧ p.2 < ow := by
  obtain ⟨y, z⟩ := p
  simp [positions]

/-- Where the channels of a position start. -/
def vecStart (b : VecBlk) (dest : Nat) (p : Nat × Nat) : Nat :=
  dest + p.1 * b.dyp + p.2 * b.dcp * elemSize b.outT + b.dcoff * elemSize b.outT

/-- Positions at rising addresses, where a row of outputs keeps within its pitch. -/
theorem positions_rising {b : VecBlk} {oh ow oc : Nat} (dest : Nat) (hcol : oc ≤ b.dcp ∨ (oh = 1 ∧ ow = 1))
    (hrow : oh = 1 ∨ ow * b.dcp * elemSize b.outT ≤ b.dyp) :
    (positions oh ow).Pairwise (fun p q => vecStart b dest p + oc * elemSize b.outT ≤ vecStart b dest q) := by
  unfold positions vecStart
  rw [List.pairwise_flatMap]
  refine ⟨fun y hy => ?_, ?_⟩
  · rw [List.pairwise_map]
    refine List.pairwise_lt_range.imp_of_mem fun {z z'} hz hz' hlt => ?_
    rw [List.mem_range] at hz hz'
    have hoc : oc * elemSize b.outT ≤ b.dcp * elemSize b.outT := Nat.mul_le_mul_right _ (by omega)
    have hnext := Nat.mul_le_mul_right (b.dcp * elemSize b.outT) (Nat.succ_le_of_lt hlt)
    rw [Nat.succ_mul, ← Nat.mul_assoc, ← Nat.mul_assoc] at hnext
    dsimp only
    omega
  · refine List.pairwise_lt_range.imp_of_mem fun {y y'} hy hy' hlt p hp q hq => ?_
    obtain ⟨z, hz, rfl⟩ := List.mem_map.mp hp
    obtain ⟨z', -, rfl⟩ := List.mem_map.mp hq
    rw [List.mem_range] at hy hy' hz
    have hoc : oc * elemSize b.outT ≤ b.dcp * elemSize b.outT := Nat.mul_le_mul_right _ (by omega)
    have hcols := Nat.mul_le_mul_right (b.dcp * elemSize b.outT) (Nat.succ_le_of_lt hz)
    have hrows := Nat.mul_le_mul_right b.dyp (Nat.succ_le_of_lt hlt)
    rw [Nat.succ_mul, ← Nat.mul_assoc, ← Nat.mul_assoc] at hcols
    rw [Nat.succ_mul] at hrows
    dsimp only
    omega

/-! ### Writing the positions -/

/-- A position's codes go into the galley. -/
def State.putCodes (s : State) (c a : Nat) (codes : List (Option Byte)) : State := (s.fillFree codes).1.putGalley c a (s.fillFree codes).2

/-- The outputs of one position after another. -/
theorem State.putCodes_all {n : Nat} {k : NeuralCore} (hracy : k.racy = false) (at_ : Nat × Nat → Nat) (codes : Nat × Nat → List (Option Byte)) (l : List (Nat × Nat))
    (h : ({ u with free := t.free } : State).onlyCore t n k) :
    ∃ (ws : List ((Nat × Nat) × List Byte)) (w : State), l.foldl (fun s p => s.putCodes n (at_ p) (codes p)) t = w
      ∧ ws.map Prod.fst = l ∧ (∀ x ∈ ws, Fills (codes x.1) x.2)
      ∧ ({ u with free := w.free } : State).onlyCore w n { k with galley := writes k.galley (ws.map (fun x => (at_ x.1, x.2))) } := by
  induction l generalizing t k with
  | nil => exact ⟨[], t, rfl, rfl, fun x hx => absurd hx List.not_mem_nil, h⟩
  | cons p l ih =>
    obtain ⟨x, hfill, hx⟩ := t.fillFree_fills (codes p)
    obtain ⟨hcore, hothers, hframe⟩ := h
    have hfree : ({ u with free := t.free + (codes p).length } : State).onlyCore { t with free := t.free + (codes p).length } n k :=
      ⟨hcore, hothers, congrArg (fun y : State => { y with free := t.free + (codes p).length }) hframe⟩
    have hput : t.putCodes n (at_ p) (codes p)
        = ({ t with free := t.free + (codes p).length } : State).updCore n (fun k => { k with galley := cellWrite zeroByte k.galley (at_ p) x }) := by
      unfold State.putCodes
      rw [hfill]
      exact State.putGalley_plain (by rw [hfree.1]; exact hracy) _ _
    have hnext := hfree.updCore (fun k => { k with galley := cellWrite zeroByte k.galley (at_ p) x })
    rw [← hput] at hnext
    have hkept : (t.putCodes n (at_ p) (codes p)).free = t.free + (codes p).length := by rw [hput]; rfl
    rw [← hkept] at hnext
    obtain ⟨ws, w, hw, hpos, hfills, honly⟩ := ih (k := { k with galley := cellWrite zeroByte k.galley (at_ p) x }) hracy hnext
    refine ⟨(p, x) :: ws, w, ?_, congrArg (p :: ·) hpos, ?_, honly⟩
    · exact hw
    · intro y hy
      rcases List.mem_cons.mp hy with rfl | hy
      · exact hx
      · exact hfills y hy

/-! ### The block that a command names -/

/-- The bytes of the parameter block that a VEC names. -/
def State.vecBytes (u : State) (n op v : Nat) : List Byte := u.galley n (bits v 64 32) (vecLen op (vecBlk (u.galley n (bits v 64 32) 64)))

/-- The block itself. -/
def State.vecParams (u : State) (n op v : Nat) : VecBlk := vecBlk (u.vecBytes n op v)

/-- The channels fit the destination's pitch (09 R249). -/
theorem vecOk_fits {op : Nat} {x : List Byte} (h : vecOk op x = true) :
    (vecDims op (vecBlk x)).2.2 ≤ (vecBlk x).dcp ∨ ((vecDims op (vecBlk x)).1 = 1 ∧ (vecDims op (vecBlk x)).2.1 = 1) := by
  simp only [vecOk, within, Bool.and_eq_true, decide_eq_true_eq] at h
  have hlow : 1 ≤ (vecBlk x).c := by tauto
  have hfit : (vecBlk x).c + (vecBlk x).dcoff ≤ (vecBlk x).dcp := by tauto
  clear h
  generalize vecBlk x = b at hlow hfit ⊢
  unfold vecDims
  split
  case h_5 => exact .inr ⟨rfl, rfl⟩
  case h_4 =>
    left
    split <;> (dsimp only; omega)
  all_goals
    left
    dsimp only
    omega

theorem State.vecParams_fits (u : State) {n op v : Nat} (h : vecOk op (u.vecBytes n op v) = true) :
    (vecDims op (u.vecParams n op v)).2.2 ≤ (u.vecParams n op v).dcp
    ∨ ((vecDims op (u.vecParams n op v)).1 = 1 ∧ (vecDims op (u.vecParams n op v)).2.1 = 1) := vecOk_fits h

/-- Bytes from the first to the last output. -/
def vecSpan (op : Nat) (b : VecBlk) : Nat :=
  ((vecDims op b).1 - 1) * b.dyp + ((vecDims op b).2.1 - 1) * b.dcp * elemSize b.outT + (b.dcoff + (vecDims op b).2.2) * elemSize b.outT

/-- The ranges that a VEC uses. -/
def vecTouches (op v len : Nat) (b : VecBlk) : List Touch :=
  [{ engine := engVector, space := 0, first := bits v 64 32, len := len }, { engine := engVector, space := 6, first := b.src0, len := vecExtent op b },
    { engine := engVector, space := 6, first := b.src1, len := vecExtent2 op b },
    { engine := engVector, space := 0, first := bits v 32 32, len := vecSpan op b, write := true }]

/-- The bytes that a VEC puts at one position. -/
def State.vecCodes (u : State) (n op v : Nat) (p : Nat × Nat) : List (Option Byte) :=
  codeBytes (elemSize (u.vecParams n op v).outT) (vecAt op (u.vecParams n op v) (u.vecBytes n op v) (cellGet zeroByte (u.core n).vForme) p.1 p.2)

theorem State.vecCodes_length (u : State) (n op v : Nat) (p : Nat × Nat) :
    (u.vecCodes n op v p).length = (vecDims op (u.vecParams n op v)).2.2 * elemSize (u.vecParams n op v).outT := by
  unfold State.vecCodes
  rw [codeBytes_length, vecAt_length]

variable {op : Nat}

theorem State.doVec_align (h : bits v 64 32 % 32 ≠ 0) : u.doVec c op v = u.abortSlug c 2 := if_pos h

section
variable (halign : bits v 64 32 % 32 = 0) (hparam : u.galleyFault c (bits v 64 32) 64 = none)
variable (hblock : u.galleyFault c (bits v 64 32) (vecLen op (vecBlk (u.galley c (bits v 64 32) 64))) = none)
include halign hparam hblock

theorem State.doVec_refused (hok : vecOk op (u.vecBytes c op v) = false) : u.doVec c op v = u.abortSlug c 2 := by
  unfold State.vecBytes at hok
  unfold State.doVec
  dsimp only
  rw [if_neg (not_not.mpr halign), hparam]
  dsimp only
  rw [hblock]
  dsimp only
  rw [hok]
  rfl

theorem State.doVec_eq (hok : vecOk op (u.vecBytes c op v) = true)
    (hdest : u.galleyFault c (bits v 32 32) (vecSpan op (u.vecParams c op v)) = none) : u.doVec c op v =
      ((positions (vecDims op (u.vecParams c op v)).1 (vecDims op (u.vecParams c op v)).2.1).foldl
        (fun s p => s.putCodes c (vecStart (u.vecParams c op v) (bits v 32 32) p) (u.vecCodes c op v p))
        (u.touch c (vecTouches op v (vecLen op (vecBlk (u.galley c (bits v 64 32) 64))) (u.vecParams c op v)))).nextCmd c := by
  unfold positions
  rw [List.foldl_flatMap]
  simp only [List.foldl_map]
  unfold State.vecCodes vecTouches
  unfold State.vecParams vecSpan at hdest ⊢
  unfold State.vecBytes at hok hdest ⊢
  unfold State.doVec
  dsimp only
  rw [if_neg (not_not.mpr halign), hparam]
  dsimp only
  rw [hblock]
  dsimp only
  rw [hok, if_neg (by decide), hdest]
  rfl

variable (hok : vecOk op (u.vecBytes c op v) = true) (hdest : u.galleyFault c (bits v 32 32) (vecSpan op (u.vecParams c op v)) = none)
variable (hracy : (u.core c).racy = false) (htouched : (u.core c).touched = [])
include hok hdest hracy htouched

/-- A VEC that runs writes the positions, and takes free bytes. -/
theorem State.doVec_writes : ∃ (ws : List ((Nat × Nat) × List Byte)) (ts : List Touch) (t : State), u.doVec c op v = t
    ∧ ws.map Prod.fst = positions (vecDims op (u.vecParams c op v)).1 (vecDims op (u.vecParams c op v)).2.1
    ∧ (∀ x ∈ ws, Fills (u.vecCodes c op v x.1) x.2)
    ∧ ({ u with free := t.free } : State).onlyCore t c { u.core c with
        touched := ts
        galley := writes (u.core c).galley (ws.map (fun x => (vecStart (u.vecParams c op v) (bits v 32 32) x.1, x.2))), pc := (u.core c).pc + 1 } := by
  have hrun := State.doVec_eq halign hparam hblock hok hdest
  generalize vecTouches op v (vecLen op (vecBlk (u.galley c (bits v 64 32) 64))) (u.vecParams c op v) = ts at hrun
  have htouch := (u.touch_only c ts).as (NeuralCore.touching_first hracy htouched ts)
  obtain ⟨ws, w, hw, hpos, hfills, honly⟩ := State.putCodes_all (u := u) (k := { u.core c with touched := ((u.core c).touching ts).touched }) hracy
    (vecStart (u.vecParams c op v) (bits v 32 32)) (u.vecCodes c op v)
    (positions (vecDims op (u.vecParams c op v)).1 (vecDims op (u.vecParams c op v)).2.1) htouch
  rw [hw] at hrun
  exact ⟨ws, _, _, hrun, hpos, hfills, State.nextCmd_only honly⟩

end

/-! ### The rows -/

/-- The VOP and the row of each operation (09 Table 9-9). -/
def vectorRows (c : Fin 16) : List (Nat × Instr) :=
  [(0x01, .maxpool c), (0x02, .avgpool c), (0x03, .dwconv c), (0x04, .add c), (0x05, .mul c), (0x06, .max c), (0x07, .min c), (0x08, .lut c),
    (0x09, .softmax c), (0x0A, .reduce c), (0x0B, .matvec c), (0x0C, .argmax c), (0x0D, .compare c), (0x0E, .upsample c), (0x0F, .copy c), (0x10, .requant c)]

theorem exec_vectorRows (s : State) (c : Fin 16) : ∀ x ∈ vectorRows c, exec x.2 s = .next (s.vector c x.1) := by
  simp only [vectorRows, List.forall_mem_cons]
  exact ⟨rfl, rfl, rfl, rfl, rfl, rfl, rfl, rfl, rfl, rfl, rfl, rfl, rfl, rfl, rfl, rfl, fun x hx => absurd hx List.not_mem_nil⟩

section
variable {x : Nat × Instr} (hrow : x ∈ vectorRows c) (hfetch : s.fetch c ⟨0x04, some x.1⟩ = .run u v)
include hrow hfetch

theorem exec_vector_run : exec x.2 s = .next (u.doVec c x.1 v) :=
  (exec_vectorRows s c x hrow).trans (congrArg Host.Outcome.next (State.command_run hfetch _))

theorem vector_refused (hseqs : u.slugSeqs c = []) (h : bits v 64 32 % 32 ≠ 0 ∨ (u.galleyFault c (bits v 64 32) 64 = none
      ∧ u.galleyFault c (bits v 64 32) (vecLen x.1 (vecBlk (u.galley c (bits v 64 32) 64))) = none ∧ vecOk x.1 (u.vecBytes c x.1 v) = false)) :
    Completes x.2 s (fun t => u.slugAborted t c 2) := by
  have habort : u.doVec c x.1 v = u.abortSlug c 2 := by
    by_cases halign : bits v 64 32 % 32 = 0
    · obtain ⟨hparam, hblock, hok⟩ := h.resolve_left (not_not.mpr halign)
      exact State.doVec_refused halign hparam hblock hok
    · exact State.doVec_align halign
  exact ⟨_, (exec_vector_run hrow hfetch).trans (congrArg Host.Outcome.next habort), u.abortSlug_spec hseqs (by decide) (by decide)⟩

theorem vector_writes (halign : bits v 64 32 % 32 = 0) (hparam : u.galleyFault c (bits v 64 32) 64 = none)
    (hblock : u.galleyFault c (bits v 64 32) (vecLen x.1 (vecBlk (u.galley c (bits v 64 32) 64))) = none) (hok : vecOk x.1 (u.vecBytes c x.1 v) = true)
    (hdest : u.galleyFault c (bits v 32 32) (vecSpan x.1 (u.vecParams c x.1 v)) = none)
    (hpitch : (vecDims x.1 (u.vecParams c x.1 v)).1 = 1
      ∨ (vecDims x.1 (u.vecParams c x.1 v)).2.1 * (u.vecParams c x.1 v).dcp * elemSize (u.vecParams c x.1 v).outT
        ≤ (u.vecParams c x.1 v).dyp) (hracy : (u.core c).racy = false) (htouched : (u.core c).touched = []) : Completes x.2 s (fun t =>
    (∀ y z i w, y < (vecDims x.1 (u.vecParams c x.1 v)).1 → z < (vecDims x.1 (u.vecParams c x.1 v)).2.1 →
      (u.vecCodes c x.1 v (y, z))[i]? = some (some w) →
        cellGet zeroByte (t.core c).galley (vecStart (u.vecParams c x.1 v) (bits v 32 32) (y, z) + i) = w)
    ∧ (∀ a, (∀ y z, y < (vecDims x.1 (u.vecParams c x.1 v)).1 → z < (vecDims x.1 (u.vecParams c x.1 v)).2.1 →
        ¬ (vecStart (u.vecParams c x.1 v) (bits v 32 32) (y, z) ≤ a ∧ a < vecStart (u.vecParams c x.1 v) (bits v 32 32) (y, z)
          + (vecDims x.1 (u.vecParams c x.1 v)).2.2 * elemSize (u.vecParams c x.1 v).outT)) →
      cellGet zeroByte (t.core c).galley a = cellGet zeroByte (u.core c).galley a)
    ∧ (∀ k, k ≠ c.val → t.core k = u.core k)
    ∧ t.core c = { u.core c with galley := (t.core c).galley, touched := (t.core c).touched, pc := (u.core c).pc + 1 }
    ∧ t = { u with nc := { u.nc with core := t.nc.core }, free := t.free }) := by
  obtain ⟨ws, ts, t, ht, hpos, hfills, hcore, hothers, hframe⟩ := State.doVec_writes halign hparam hblock hok hdest hracy htouched
  have hlen := u.vecCodes_length c x.1 v
  have hrise := positions_rising (bits v 32 32) (u.vecParams_fits hok) hpitch
  generalize u.vecParams c x.1 v = b at hpos hcore hlen hrise ⊢
  have hgalley : (t.core c).galley = writes (u.core c).galley (ws.map (fun x => (vecStart b (bits v 32 32) x.1, x.2))) := congrArg NeuralCore.galley hcore
  rw [← hpos, List.pairwise_map] at hrise
  obtain ⟨hin, hout⟩ := cellGet_writes (ws := ws.map (fun x => (vecStart b (bits v 32 32) x.1, x.2))) (by
    unfold Rising
    rw [List.pairwise_map]
    refine hrise.imp_of_mem fun {p q} hp _ hpq => ?_
    dsimp only
    rw [(hfills p hp).1, hlen]
    exact hpq) (u.core c).galley
  refine ⟨t, (exec_vector_run hrow hfetch).trans (congrArg Host.Outcome.next ht), fun y z i w hy hz hw => ?_, fun a ha => ?_, hothers, ?_, hframe⟩
  · have hmem : (y, z) ∈ ws.map Prod.fst := by
      rw [hpos]
      exact mem_positions.mpr ⟨hy, hz⟩
    obtain ⟨⟨p, bytes⟩, hp, hat⟩ := List.mem_map.mp hmem
    obtain rfl : p = (y, z) := hat
    obtain ⟨hsize, hval⟩ := hfills _ hp
    have hi : i < bytes.length := hsize.trans_gt (List.getElem?_eq_some_iff.mp hw).1
    rw [hgalley, ← hval i w hw]
    exact hin (_, bytes) (List.mem_map.mpr ⟨_, hp, rfl⟩) i hi
  · rw [hgalley]
    refine hout a fun q hq hqa => ?_
    obtain ⟨p, hp, rfl⟩ := List.mem_map.mp hq
    dsimp only at hqa
    rw [(hfills p hp).1, hlen] at hqa
    have hmem := mem_positions.mp (hpos ▸ List.mem_map_of_mem (f := Prod.fst) hp)
    exact ha p.1.1 p.1.2 hmem.1 hmem.2 hqa
  · rw [hcore]

end

/-- Settles O35: a VEC writes the bytes of its positions at rising addresses, free bytes where no value is stated; a block that is refused aborts the slug. -/
theorem vectorCommands : Obligations.VectorCommands := by
  intro s u c v x hrow hfetch
  refine ⟨fun halign hparam hblock hok hdest hpitch hracy htouched => ?_, fun hseqs h => vector_refused hrow hfetch hseqs h⟩
  exact vector_writes hrow hfetch halign hparam hblock hok hdest hpitch hracy htouched

end Machine
end Sys2Proof
end
